-- ==== Sys2Proof/Word.lean ====
section
/-!
DEFINITION. The word types of the model.
A register is 32 bits wide (R9), a memory and message cell is a byte, a postmark is U32.32 (R29).
Values that the spec counts, orders or scales without wrapping are plain Nat or Int.
-/
namespace Sys2Proof

/-- A register word (R9). -/
abbrev Word := BitVec 32
/-- One byte of a message, an image slot or the capture memory. -/
abbrev Byte := BitVec 8
/-- A string of bytes, first byte first. -/
abbrev Bytes := List Byte

end Sys2Proof
end

