-- ==== Sys2Proof/Syntax.lean ====
section
/-!
DEFINITION. The commands of the block, one constructor per row of spec/opcode_table.json, and the messages they carry. Where the
spec numbers a thing (a leg, a bridge, an axis), the operand's type holds exactly its numbers.
-/
namespace Sys2Proof

/-- The requesters of R60 and NODE_ADDRERR.REQ (R524): the PCI Express port, the quad-SPI port, the eight service cores. -/
inductive Requester | pcie | qspi | core (n : Fin 8)
deriving DecidableEq, Repr

/-- The number of a requester in NODE_ADDRERR.REQ. -/
def Requester.num : Requester → Nat
  | .pcie => 0
  | .qspi => 1
  | .core n => n.val + 2

/-- A command to the acceptance queue (R48): the class of the path it comes by (0 SAFETY, 1 TWIN, 2 HOST, 3 SITE), source ID, sender
sequence number, target, value, postmark, and the bytes received (for a dead letter, R309). -/
structure Command where
  path : Fin 4
  source : BitVec 16
  seq : Nat
  target : BitVec 16
  value : Word
  t : BitVec 64
  item : Bytes
deriving DecidableEq, Repr

/-- The staged registers of a leg (R208). -/
inductive Staged | duty | phase | period
deriving DecidableEq, Repr

/-- Where a window comparator stands (R238). -/
inductive CmpState | inside | above | below
deriving DecidableEq, Repr

/-- The fabric faults of R165 that are injected from outside: fabric state ECC, exchange parity, configuration. -/
inductive FabricCause | stateEcc | exchangeParity | config
deriving DecidableEq, Repr

/-- What wakes the node from HIBERNATE (R464): a watched safety input with its filtered demand, LRST_N, WAKE_N, the alarm. -/
inductive WakeCause | input (i : Fin 8) (demands : Bool) | lrst | wakeN | alarm
deriving DecidableEq, Repr

/-- A bundle of the twin link (R348, R439): frame number, HASH of frame k − 1, SYS and DISC of Table CP-8, the number of CMD frames,
the sample entries (channel, code, status word) and the resampler entries (channel, index, code, status word). -/
structure Bundle where
  k : Nat
  hash : BitVec 64
  sys : Word
  disc : Nat
  ncmd : Nat
  samples : List (Nat × Nat × Nat)
  resampled : List (Nat × Nat × Nat × Nat)
deriving DecidableEq, Repr

/-- What a member learns of its partner in HELLO (R421, R344, R346): NODE_IDENT, IMAGE_ID, VERSION and digest of its active image,
its role code, and whether it met the bundle budget of R349 and R439. -/
structure Partner where
  ident : Word
  imageId : Nat
  version : Nat
  digest : Bytes
  role : Nat
  budget : Bool
deriving DecidableEq, Repr

/-- A leg as resynchronisation carries it (R366): leg, fine postmark of the last count zero, P′, and the staged, pending and
active sets (duty, phase, period). -/
structure LegAnchor where
  leg : Nat
  zero : Nat
  per : Nat
  staged : Nat × Nat × Nat
  pending : Option (Nat × Nat × Nat × Nat)
  active : Nat × Nat × Nat
deriving DecidableEq, Repr

/-- A resynchronisation transfer (R366): k_s, the CHECKPOINT body of R336, the legs, the waiting commands and the next sequence
number. -/
structure Transfer where
  k : Nat
  checkpoint : Bytes
  legs : List LegAnchor
  waiting : List Command
  nextSeq : Nat
deriving DecidableEq, Repr

/-- What a site frame carries around its content (R428, R429, Table LK-2): the destination address as a number, most significant byte first,
VER, CLUSTER, MSGID, FRAGNO and NFRAG. -/
structure SiteHead where
  dst : BitVec 48
  ver : BitVec 8
  cluster : BitVec 8
  msgId : BitVec 16
  frag : BitVec 8
  nfrag : BitVec 8
deriving DecidableEq, Repr

/-- What a registered frame was addressed by (R396): around a site frame its head, on CAN nothing, and the address of Table SF-14's ADDR. -/
structure FrameAddr where
  head : SiteHead
  addr : Word
deriving DecidableEq, Repr

/-- FRANK_REQ of a peer, or a fragment of one: its node ID and its 32-byte nonce (R415). -/
structure FrankReq where
  port : Fin 2
  head : SiteHead
  peer : BitVec 12
  nonce : Bytes
deriving DecidableEq, Repr

/-- FRANK_REP of a peer, or a fragment of one (R415, Table LK-2): node ID, statement, device certificate, measurement log. -/
structure FrankRep where
  port : Fin 2
  head : SiteHead
  peer : BitVec 12
  statement : Bytes
  cert : Bytes
  log : Bytes
deriving DecidableEq, Repr

/-- KEY_TRANSPORT or KEY_CONFIRM of a peer (R417): session identifier, ciphertext (empty for KEY_CONFIRM), and the signature block
or the tag. -/
structure KeyMsg where
  port : Fin 2
  head : SiteHead
  peer : BitVec 12
  session : Word
  cipher : Bytes
  check : Bytes
deriving DecidableEq, Repr

/-- A session frame (Table SE-7) as it arrives on a port (2 the twin link). -/
structure SessionFrame where
  port : Fin 3
  head : SiteHead
  session : Word
  seq : BitVec 64
  flags : BitVec 16
  payload : Bytes
  tag : Bytes
deriving DecidableEq, Repr

/-- A broadcast record with its signature block (R420). -/
structure BroadcastRec where
  port : Fin 2
  head : SiteHead
  record : Bytes
  sig : Bytes
deriving DecidableEq, Repr

/-- A site message after decryption (Table LK-3) with its arrival postmark. -/
structure SiteMessage where
  mtype : Nat
  pair : BitVec 16
  seq : BitVec 48
  body : Bytes
  ta : Nat
deriving DecidableEq, Repr

/-- A PTP message (R435): port, whether it uses the supported mapping, domain, messageType, the sender's data set as the best
master clock algorithm compares it, and for a Sync the PTP time (seconds, nanoseconds) that the master's clock had at the Sync's arrival: the origin
timestamp with the link delay and the correctionField added. -/
structure PtpMessage where
  port : Fin 2
  supported : Bool
  domain : Nat
  mtype : Nat
  dataset : Nat
  sec : BitVec 48
  ns : Nat
deriving DecidableEq, Repr

/-- A CAN frame (R445). -/
structure CanFrame where
  ctl : Fin 4
  ide : Bool
  fdf : Bool
  brs : Bool
  id : BitVec 29
  data : Bytes
deriving DecidableEq, Repr

/-- The commands of the part: one constructor per row of spec/opcode_table.json, with the row's operands. -/
inductive Instr where
  /-- FRAME_START (R156). -/
  | frameStart
  /-- TRAY_TICK (R305). -/
  | trayTick
  /-- SAFETY_CYCLE (R369). -/
  | safetyCycle (pilot : Nat) (agree : Bool)
  /-- AXIS_EVALUATION (R488). -/
  | axisEvaluation
  /-- SERVO_UPDATE (R527). -/
  | servoUpdate (src : Fin 4) (offset : Int)
  /-- PPS_EDGE (R33). -/
  | ppsEdge (rising : Bool)
  /-- SOURCE_UNUSABLE (R33). -/
  | sourceUnusable (src : Fin 4)
  /-- HOLDOVER_BOUND_EXCEEDED (R36). -/
  | holdoverBoundExceeded
  /-- POSTMARK_SECONDS_END (R40). -/
  | postmarkSecondsEnd
  /-- POST_SET (R47). -/
  | postSet (r : Requester) (hi : Word)
  /-- SHADOW_LO_READ (R60). -/
  | shadowLoRead (r : Requester) (addr : Word)
  /-- SHADOW_HI_READ (R60). -/
  | shadowHiRead (r : Requester) (addr : Word)
  /-- SHADOW_LO_WRITE (R63). -/
  | shadowLoWrite (r : Requester) (addr v : Word)
  /-- SHADOW_HI_WRITE (R63). -/
  | shadowHiWrite (r : Requester) (addr v : Word)
  /-- WIDE_ACCESS (R62). -/
  | wideAccess (addr : Word) (data : Option (BitVec 64))
  /-- READ_TO_CLEAR (R5). -/
  | readToClear (r : Requester) (addr : Word) (size : Nat)
  /-- WRITE_ONE_TO_CLEAR (R5). -/
  | writeOneToClear (r : Requester) (addr v : Word)
  /-- REGISTER_WRITE (R5). -/
  | registerWrite (r : Requester) (addr : Word) (size : Nat) (v : Word)
  /-- IDENT_WRITE (R24). -/
  | identWrite (r : Requester) (v : Word)
  /-- ACCEPT_COMMAND (R50). -/
  | acceptCommand (c : Command)
  /-- WIRE_TARGET_COMMAND (R85). -/
  | wireTargetCommand (c : Command)
  /-- START (R121). -/
  | start (bridge : Fin 16) (t : BitVec 64) (cls : Fin 4)
  /-- REQUEST_STANDBY (R70). -/
  | requestStandby (r : Requester)
  /-- REQUEST_COMMISSION (R69). -/
  | requestCommission (r : Requester)
  /-- REQUEST_ENERGIZE (R69). -/
  | requestEnergize (r : Requester)
  /-- REQUEST_REPLAY (R339). -/
  | requestReplay (r : Requester)
  /-- REQUEST_RUN (R462). -/
  | requestRun (r : Requester)
  /-- REQUEST_QUIET (R461). -/
  | requestQuiet (r : Requester)
  /-- REQUEST_HIBERNATE (R463). -/
  | requestHibernate (r : Requester)
  /-- QUIET_ENTRY (R461). -/
  | quietEntry
  /-- QUIET_EXIT (R462). -/
  | quietExit
  /-- FABRIC_RESUME (R462). -/
  | fabricResume
  /-- HIBERNATE_ENTRY (R463). -/
  | hibernateEntry
  /-- ENERGIZE_TIMEOUT (R69). -/
  | energizeTimeout
  /-- STOP_RAMP_END (R379). -/
  | stopRampEnd
  /-- LRST_PRESS (R388). -/
  | lrstPress
  /-- LOCKOUT_SELF_CHECK_DONE (R388). -/
  | lockoutSelfCheckDone (pass : Bool)
  /-- LRST_RELEASE (R387). -/
  | lrstRelease
  /-- LRST_STUCK (R387). -/
  | lrstStuck
  /-- TEST_LIGHT (R77). -/
  | testLight (r : Requester)
  /-- TEST_FULL (R77). -/
  | testFull (r : Requester)
  /-- TEST_CAL (R77). -/
  | testCal (r : Requester)
  /-- TEST_DONE (R79). -/
  | testDone (pass : Bool) (unit : BitVec 8)
  /-- BOOT_COMPLETE (R75). -/
  | bootComplete (selfCheckOk : Bool)
  /-- INPUT_HOLD_FAULT (R86). -/
  | inputHoldFault (slot : Fin 1024)
  /-- BUDGET_EXHAUSTED (R107). -/
  | budgetExhausted (slot : Fin 1024)
  /-- RAMP_ORIGIN (R123). -/
  | rampOrigin (bridge : Fin 16)
  /-- SLOT_TIME (R127). -/
  | slotTime (bridge : Fin 16)
  /-- BUS_STATE_PERSIST (R128). -/
  | busStatePersist (bridge : Fin 16)
  /-- SYNC_OK (R129). -/
  | syncOk (bridge : Fin 16)
  /-- SYNC_TIMEOUT (R129). -/
  | syncTimeout (bridge : Fin 16)
  /-- RAMP_STALL (R119). -/
  | rampStall (bridge : Fin 16)
  /-- POLE_SLIP (R134). -/
  | poleSlip (bridge : Fin 16)
  /-- TVIMP_HOLD_END (R131). -/
  | tvimpHoldEnd (bridge : Fin 16)
  /-- TVIMP_BLEND_END (R131). -/
  | tvimpBlendEnd (bridge : Fin 16)
  /-- FABRIC_OVERRUN (R164). -/
  | fabricOverrun (tile : Fin 16)
  /-- FABRIC_FAULT (R165). -/
  | fabricFault (cause : FabricCause) (tile : Fin 16)
  /-- FREEZE_WINDOW (R180). -/
  | freezeWindow (r : Requester) (freeze : Bool)
  /-- IMG_OPEN (R200). -/
  | imgOpen (r : Requester) (slot : Fin 4)
  /-- IMG_DATA_WRITE (R200). -/
  | imgDataWrite (r : Requester) (v : Word)
  /-- IMG_COMMIT (R200). -/
  | imgCommit (r : Requester) (slot : Fin 4)
  /-- IMG_ACTIVATE (R201). -/
  | imgActivate (r : Requester) (slot : Fin 4)
  /-- IMG_ERASE (R200). -/
  | imgErase (r : Requester) (slot : Fin 4)
  /-- IMG_ABORT (R200). -/
  | imgAbort (r : Requester) (slot : Fin 4)
  /-- ACTIVATION_STOP (R201). -/
  | activationStop
  /-- ACTIVATION_START (R201). -/
  | activationStart
  /-- RELOAD (R218). -/
  | reload (leg : Fin 96)
  /-- STAGED_WRITE (R216). -/
  | stagedWrite (r : Requester) (leg : Fin 96) (which : Staged) (v : Word)
  /-- BRIDGE_LOAD (R232). -/
  | bridgeLoad (r : Requester) (bridge : Fin 16)
  /-- GLOBAL_LOAD (R232). -/
  | globalLoad (r : Requester)
  /-- FORCE (R221). -/
  | force (r : Requester) (leg : Fin 96) (code : BitVec 3)
  /-- SET_SOURCE (R216). -/
  | setSource (r : Requester) (bridge : Fin 16) (host : Bool)
  /-- READBACK_ERROR (R223). -/
  | readbackError (leg : Fin 96) (high : Bool)
  /-- LEG_TRIP_INPUT (R234). -/
  | legTripInput (leg : Fin 96) (high : Bool)
  /-- BLANK_WINDOW_END (R237). -/
  | blankWindowEnd (leg : Fin 96)
  /-- WINDOW_COMPARATOR (R239). -/
  | windowComparator (cmp : Fin 16) (st : CmpState)
  /-- LEG_LATCH_CLEAR (R247). -/
  | legLatchClear (r : Requester) (m : Fin 3) (v : Word)
  /-- BRIDGE_TRIP_CLEAR (R248). -/
  | bridgeTripClear (bridge : Fin 16)
  /-- SENSE_TRIGGER (R264). -/
  | senseTrigger (path : Fin 120) (mods : List Int) (paired : Nat)
  /-- SLICE_OVERLOAD (R273). -/
  | sliceOverload (slice : Fin 25) (positive : Bool)
  /-- BITSTREAM_LOST (R274). -/
  | bitstreamLost (chan : Fin 96)
  /-- LOST_END (R274). -/
  | lostEnd (chan : Fin 96)
  /-- CAL_STEP (R276). -/
  | calStep
  /-- CAL_STEP_FAIL (R277). -/
  | calStepFail (afterSubst : Bool)
  /-- SNAPSHOT_REQUEST (R279). -/
  | snapshotRequest (r : Requester) (bridge : BitVec 5)
  /-- SNAPSHOT_POST (R280). -/
  | snapshotPost
  /-- RESAMPLER_OUTPUT (R281). -/
  | resamplerOutput (ch : Fin 32)
  /-- BANK_REQUEST (R270). -/
  | bankRequest (r : Requester) (path : Fin 120) (bank : BitVec 2)
  /-- SOURCE_CHANGE (R271). -/
  | sourceChange (r : Requester) (path : Fin 120) (src : BitVec 8)
  /-- POST_ENVELOPE (R297). -/
  | postEnvelope (r : Requester)
  /-- TRAY_INSERT (R304). -/
  | trayInsert (r : Requester) (tray : Fin 4)
  /-- COMPLETE_ENVELOPE (R301). -/
  | completeEnvelope (r : Requester)
  /-- CANCEL_ENVELOPE (R302). -/
  | cancelEnvelope (r : Requester) (id : BitVec 16)
  /-- CANCEL_TRAY_ENTRY (R302). -/
  | cancelTrayEntry (r : Requester) (id : BitVec 16)
  /-- DISPATCH (R300). -/
  | dispatch
  /-- LEDGER_LOSS (R311). -/
  | ledgerLoss
  /-- WINDOW_ARM (R322). -/
  | windowArm (r : Requester) (w : Fin 8)
  /-- WINDOW_STOP (R330). -/
  | windowStop (r : Requester) (w : Fin 8)
  /-- WINDOW_FORCE (R323). -/
  | windowForce (r : Requester) (w : Fin 8)
  /-- SEGMENT_CLOSE (R327). -/
  | segmentClose (w : Fin 8)
  /-- FLIGHT_RECORD_HOLD (R337). -/
  | flightRecordHold (r : Requester)
  /-- FLIGHT_RECORD_RELEASE (R337). -/
  | flightRecordRelease (r : Requester)
  /-- AUTOHOLD_STOP (R337). -/
  | autoholdStop
  /-- FR_DATA_READ (R338). -/
  | frDataRead (r : Requester)
  /-- FR_DATA_WRITE (R338). -/
  | frDataWrite (r : Requester) (v : BitVec 64)
  /-- BUNDLE_RECEIVED (R349). -/
  | bundleReceived (b : Bundle)
  /-- TWIN_CMD_RECEIVED (R439). -/
  | twinCmdReceived (k : Nat) (c : Command)
  /-- BUNDLE_MISSED (R350). -/
  | bundleMissed
  /-- HASH_RECEIVED (R352). -/
  | hashReceived (k : Nat) (hash : BitVec 64)
  /-- ARBITRATION_OUTCOME (R353). -/
  | arbitrationOutcome (own partner : Bool)
  /-- HANDOVER (R354). -/
  | handover (r : Requester)
  /-- HANDOVER_REQUEST_RECEIVED (R355). -/
  | handoverRequestReceived
  /-- LINK_LOSS (R356). -/
  | linkLoss
  /-- TWIN_LINK_UP (R360). -/
  | twinLinkUp
  /-- TAKEOVER (R358). -/
  | takeover
  /-- ALONE (R359). -/
  | alone (r : Requester)
  /-- REJOIN (R347). -/
  | rejoin (r : Requester)
  /-- HELLO (R421). -/
  | hello (p : Partner)
  /-- TWIN_TIME (R440). -/
  | twinTime (offset : Int)
  /-- FORWARDED_COMMAND (R351). -/
  | forwardedCommand (c : Command)
  /-- MIRROR (R361). -/
  | mirror (seq : BitVec 48) (origin : Word) (msg : Bytes)
  /-- MIRROR_ACK_TIMEOUT (R361). -/
  | mirrorAckTimeout (seq : BitVec 48)
  /-- RESYNC_REQUEST (R366). -/
  | resyncRequest
  /-- STATE_TRANSFER (R366). -/
  | stateTransfer (x : Transfer)
  /-- RESYNC_COMPLETE (R366). -/
  | resyncComplete
  /-- PARTNER_LIGHT_TEST (R365). -/
  | partnerLightTest
  /-- SAFETY_INPUT_CHANGE (R373). -/
  | safetyInputChange (input : Fin 8) (a b : Bool)
  /-- DISCREPANCY (R373). -/
  | discrepancy (input : Fin 8)
  /-- STO_INPUT (R377). -/
  | stoInput (a b : Bool)
  /-- STO_DISCREPANCY (R377). -/
  | stoDiscrepancy
  /-- SS1_TIMEOUT (R376). -/
  | ss1Timeout
  /-- CONTACTOR_OPEN_DELAY (R376). -/
  | contactorOpenDelay (output : Fin 4)
  /-- TEST_PULSE_END (R381). -/
  | testPulseEnd (output : Fin 8) (ok : Bool)
  /-- TEST_PULSE_REQUEST (R381). -/
  | testPulseRequest (r : Requester) (v : Word)
  /-- OUTPUT_READBACK (R380). -/
  | outputReadback (output : Fin 8)
  /-- FEEDBACK (R383). -/
  | feedback (contact : Fin 8) (level : Bool)
  /-- REGISTERED_FRAME (R396). -/
  | registeredFrame (bus : Fin 6) (addr : FrameAddr) (frame : Bytes)
  /-- CONNECTION_EXPIRY (R397). -/
  | connectionExpiry (conn : Fin 16)
  /-- REGISTERED_FRAME_SEND (R398). -/
  | registeredFrameSend (conn : Fin 16)
  /-- INSULATION_MEASURE (R392). -/
  | insulationMeasure (mean : Int) (valid : Bool)
  /-- CONLOCK_RELEASE (R391). -/
  | conlockRelease
  /-- ENR_OPEN (R405). -/
  | enrOpen (r : Requester)
  /-- ENR_DATA_WRITE (R405). -/
  | enrDataWrite (r : Requester) (v : Word)
  /-- INSTALL (R405). -/
  | install (r : Requester)
  /-- REKEYX (R403). -/
  | rekeyx (r : Requester)
  /-- DXK_GENERATED (R406). -/
  | dxkGenerated
  /-- EXTEND (R409). -/
  | extend (r : Requester)
  /-- CLOSE (R419). -/
  | close (r : Requester) (index : BitVec 9)
  /-- FW_OPEN (R413). -/
  | fwOpen (r : Requester) (slot : Fin 2)
  /-- FW_DATA_WRITE (R413). -/
  | fwDataWrite (r : Requester) (v : Word)
  /-- FW_COMMIT (R413). -/
  | fwCommit (r : Requester) (slot : Fin 2)
  /-- FW_MARK (R413). -/
  | fwMark (r : Requester) (slot : Fin 2)
  /-- CONFIRM (R413). -/
  | confirm (r : Requester)
  /-- FW_ERASE (R413). -/
  | fwErase (r : Requester) (slot : Fin 2)
  /-- FW_ABORT (R413). -/
  | fwAbort (r : Requester) (slot : Fin 2)
  /-- REVOKE0 (R413). -/
  | revoke0 (r : Requester)
  /-- FRANK_REQUEST (R415). -/
  | frankRequest (r : Requester)
  /-- STATEMENT_CAPTURE (R414). -/
  | statementCapture
  /-- STATEMENT_READY (R414). -/
  | statementReady
  /-- FRANK_REQ (R415). -/
  | frankReq (f : FrankReq)
  /-- FRANK_REP (R416). -/
  | frankRep (f : FrankRep)
  /-- KEY_TRANSPORT (R417). -/
  | keyTransport (k : KeyMsg)
  /-- KEY_CONFIRM (R417). -/
  | keyConfirm (k : KeyMsg)
  /-- KEY_TRANSPORT_TIMEOUT (R417). -/
  | keyTransportTimeout (peer : BitVec 12)
  /-- SESSION_FRAME (R419). -/
  | sessionFrame (f : SessionFrame)
  /-- SESSION_REKEY (R419). -/
  | sessionRekey (peer : BitVec 12)
  /-- OLD_SESSION_EXPIRY (R419). -/
  | oldSessionExpiry (peer : BitVec 12)
  /-- BROADCAST (R420). -/
  | broadcast (b : BroadcastRec)
  /-- RNG_HEALTH_FAIL (R422). -/
  | rngHealthFail
  /-- RNG_READ (R422). -/
  | rngRead (r : Requester)
  /-- SITE_COMMAND (R432). -/
  | siteCommand (m : SiteMessage)
  /-- SITE_DEAD_LETTER (R432). -/
  | siteDeadLetter (m : SiteMessage)
  /-- SITE_DATA (R432). -/
  | siteData (m : SiteMessage)
  /-- REASSEMBLY_TIMEOUT (R430). -/
  | reassemblyTimeout (peer : BitVec 12)
  /-- SITE_PORT_UP (R433). -/
  | sitePortUp (port : Fin 2)
  /-- SITE_PORT_DOWN (R433). -/
  | sitePortDown (port : Fin 2)
  /-- PTP_MESSAGE (R435). -/
  | ptpMessage (m : PtpMessage)
  /-- FUNCTION_LEVEL_RESET (R441). -/
  | functionLevelReset
  /-- QSPI_READ (R443). -/
  | qspiRead (addr : Word) (words : Nat)
  /-- QSPI_READ_CAP (R443). -/
  | qspiReadCap (addr : Word) (words : Nat)
  /-- QSPI_WRITE (R443). -/
  | qspiWrite (addr : Word) (data : List Word)
  /-- QSPI_STATUS (R443). -/
  | qspiStatus
  /-- CAN_FRAME_RECEIVED (R445). -/
  | canFrameReceived (f : CanFrame)
  /-- CAN_TX_REQUEST (R446). -/
  | canTxRequest (r : Requester) (ctl : Fin 4) (bits : BitVec 16)
  /-- CAN_TX_DONE (R446). -/
  | canTxDone (ctl : Fin 4) (buf : Fin 16)
  /-- CAN_BUS_OFF (R444). -/
  | canBusOff (ctl : Fin 4)
  /-- CAN_BUS_OFF_RECOVERY (R444). -/
  | canBusOffRecovery (ctl : Fin 4)
  /-- REFERENCE_EDGE_GAP (R452). -/
  | referenceEdgeGap
  /-- LOCK_WINDOW_END (R451). -/
  | lockWindowEnd (count : BitVec 19)
  /-- TUNING_RANGE_END (R452). -/
  | tuningRangeEnd
  /-- REFERENCE_SELECT (R455). -/
  | referenceSelect (r : Requester) (v : Word)
  /-- COLD (R456). -/
  | cold (aonLost : Bool)
  /-- BROWNOUT (R456). -/
  | brownout (supplies : BitVec 5)
  /-- PIN (R458). -/
  | pin
  /-- WATCHDOG_EXPIRY (R460). -/
  | watchdogExpiry
  /-- HOST_RESET (R456). -/
  | hostReset (r : Requester) (key : BitVec 8)
  /-- RESET_RELEASE (R457). -/
  | resetRelease (fselHigh : Bool)
  /-- WATCHDOG_KICK (R460). -/
  | watchdogKick (r : Requester) (code : BitVec 8)
  /-- WAKE (R464). -/
  | wake (cause : WakeCause)
  /-- DIE_TEMP_SAMPLE (R468). -/
  | dieTempSample (temps : List Int)
  /-- RING_MEASURE (R470). -/
  | ringMeasure (counts : List Nat)
  /-- HOURLY_UPDATE (R478). -/
  | hourlyUpdate
  /-- COUNTER_FLUSH (R477). -/
  | counterFlush
  /-- RETENTION_REWRITE (R473). -/
  | retentionRewrite (part : Fin 6)
  /-- DC_LINK_WINDOW (R480). -/
  | dcLinkWindow (link : Fin 4) (samples : List (Int × Int))
  /-- REPORT_NOW (R483). -/
  | reportNow (r : Requester)
  /-- REPORT_PERIOD (R483). -/
  | reportPeriod
  /-- TARGET_COMMIT (R490). -/
  | targetCommit (r : Requester) (axis : Fin 4) (hi : Word)
  /-- SOFT_LIMIT_COMMIT (R499). -/
  | softLimitCommit (r : Requester) (axis : Fin 4) (positive : Bool) (hi : Word)
  /-- HOME (R494). -/
  | home (r : Requester) (axis : Fin 4)
  /-- STOP (R493). -/
  | stop (r : Requester) (axis : Fin 4)
  /-- QSTOP (R493). -/
  | qstop (r : Requester) (axis : Fin 4)
  /-- ENABLE (R487). -/
  | enable (r : Requester) (axis : Fin 4)
  /-- DISABLE (R487). -/
  | disable (r : Requester) (axis : Fin 4)
  /-- HOMING_EDGE (R494). -/
  | homingEdge (axis : Fin 4) (tap : Fin 64)
  /-- LIMIT_SWITCH (R492). -/
  | limitSwitch (axis : Fin 4) (positive : Bool)
  /-- DRIVER_FAULT (R497). -/
  | driverFault (axis : Fin 4)
  /-- FOLLOWING_ERROR (R489). -/
  | followingError (axis : Fin 4)
  /-- LATCH_EDGE (R496). -/
  | latchEdge (axis : Fin 4) (tap : Fin 64)
  /-- SSI_READ (R489). -/
  | ssiRead (axis : Fin 4) (bits : Word)
  /-- CRYSTAL_EDGE (R39). -/
  | crystalEdge
  /-- ENCODER_TRANSITION (R489). -/
  | encoderTransition (axis : Fin 4) (a b z : Bool)
  /-- MIRROR_ACK (R361). -/
  | mirrorAck (seq : BitVec 48)
  /-- UNCORRECTABLE_MEMORY_ERROR (R26). -/
  | uncorrectableMemoryError
  /-- PCIE_LINK_CHANGE (R441). -/
  | pcieLinkChange (up : Bool) (rate width : BitVec 2)
deriving DecidableEq, Repr

end Sys2Proof
end

