-- ==== Sys2Proof/Decode.lean ====
section
/-!
DEFINITION. The commands of the block come from outside as register accesses, messages and events; no row of
spec/opcode_table.json gives bits, so no table word spells a command.
-/
namespace Sys2Proof

/-- The command that a word of the table's bits spells: none, because the table gives no row any bits. -/
def decodeTableWord (_nbits _w : Nat) : Option Instr := none

end Sys2Proof
end

