-- ==== Sys2Proof/Config.lean ====
section
/-!
DEFINITION. What the spec leaves to the part: free values. Each is an opaque constant without a body, so that no proof can
learn what it is; `freeNat` is applied to the counter State.fresh for a new value each time.
-/
namespace Sys2Proof.Config

/-- TAU_H where no HEALTH section is active (R471, R478). -/
opaque tauDefault : Nat

/-- A fresh free value. -/
opaque freeNat : Nat → Nat

/-- The grade fused at manufacture is IX; else it is AQ (R3). -/
opaque gradeIX : Bool
/-- NODE_REV.GRADE: 0b01 for AQ, 0b10 for IX (Table SC-2). -/
def gradeFuse : Nat := if gradeIX then 2 else 1

/-- The output of a ROM response other than BYPASS, FAST and BOX8 (R268) over the delay line, newest first, before rounding and
clamping. -/
opaque romResponse : Nat → List Int → Int

/-- The 256-phase interpolator of the resampler (R282): the codes of the taps it reads and the phase. -/
opaque interpolate : List Int → Nat → Int

/-- The number of cells that a phase reference inserts in MMC form (R172): reference in volts, V_DC, the cell voltages of the phase's legs. -/
opaque mmcCount : Nat → Nat → List Nat → Nat

/-- Whether the arm of a phase charges in a frame (R172): frame number, phase. MOD has no input that carries the arm current. -/
opaque mmcCharging : Nat → Nat → Bool

/-- The limit of the magnitude of FOC's voltage references given by its V_DC input (R173). -/
opaque focLimit : Nat → Nat

/-- Whether a commanded NaN is clamped to HI rather than to LO of its target (R85): neither limit is the nearer one. -/
opaque nanLimit : Nat → Bool

/-- TJEST (R175), FOC before its clamp (R173), the forms of PROFILE and the tracker of SYNC whose equations the spec does not give: slot kind, form,
output number, inputs, parameters, state variables. -/
opaque blockValue : Nat → Nat → Nat → List Nat → List Nat → List Nat → Nat

/-- Boot ROM and fuse settings as MR0 measures them (R409). -/
opaque bootRom : Bytes

/-- RSA moduli of the vendor device CA (0) and of firmware authorities 0 and 1 (1, 2), fixed in boot ROM (R402). -/
opaque vendorKey : Nat → Nat

/-- The device identity key: modulus and private exponent (R402, R403). -/
opaque dikModulus : Nat
/-- Private exponent of the device identity key. -/
opaque dikPrivate : Nat
/-- The device certificate, at most 4,096 bytes (R403). -/
opaque deviceCert : Bytes

/-- What an X.509 device certificate binds (R403, R416): the DIK modulus, if it verifies under the vendor device CA. -/
opaque certKey : Bytes → Option Nat

/-- The outcome of the best master clock algorithm of IEEE 1588-2019 (R435): port, role, slaveOnly, own data set, data set received; a portState
value. -/
opaque bestMaster : Nat → Nat → Bool → Nat → Nat → Nat

/-- The coefficient of a ring oscillator and its fused baseline (R470): ring, count, T_die, gives drift in ppm. -/
opaque ringDrift : Nat → Nat → Int → Int


end Sys2Proof.Config
end

