-- ==== Sys2Proof/Machine/Float32.lean ====
section
/-!
DEFINITION. The fabric's arithmetic (spec/06_fabric.md R152): IEEE 754 binary32, round to nearest with ties to even,
subnormal operands and results taken as zero of the same sign, correctly rounded division, square root, sine, cosine and
atan2. A value is its 32-bit pattern as a Nat.
-/
namespace Sys2Proof.Machine

/-- The quiet NaN that stands for every NaN; none is ever stored (R153). -/
def f32nan : Nat := 0x7FC00000
/-- Positive infinity. -/
def f32inf : Nat := 0x7F800000
/-- 1.0. -/
def f32one : Nat := 0x3F800000
/-- 0.5. -/
def f32half : Nat := 0x3F000000
/-- 2.0. -/
def f32two : Nat := 0x40000000
/-- The binary32 value nearest to π (R152). -/
def f32pi : Nat := 0x40490FDB

/-- Sign bit. -/
def f32neg? (b : Nat) : Bool := decide (2 ^ 31 ≤ b % 2 ^ 32)
/-- Exponent field. -/
def f32exp (b : Nat) : Nat := b / 2 ^ 23 % 256
/-- Fraction field. -/
def f32frac (b : Nat) : Nat := b % 2 ^ 23
/-- The pattern is a NaN. -/
def f32isNan (b : Nat) : Bool := f32exp b == 255 && f32frac b != 0
/-- The pattern is an infinity. -/
def f32isInf (b : Nat) : Bool := f32exp b == 255 && f32frac b == 0
/-- The pattern is finite. -/
def f32finite (b : Nat) : Bool := f32exp b != 255
/-- The pattern counts as zero: a zero or a subnormal operand (R152). -/
def f32zero? (b : Nat) : Bool := f32exp b == 0

/-- The integer significand of a finite operand, 0 for a zero or a subnormal one. -/
def f32mant (b : Nat) : Nat := if f32exp b = 0 then 0 else 2 ^ 23 + f32frac b
/-- The exponent of the significand's unit. -/
def f32e (b : Nat) : Int := (f32exp b : Int) - 150
/-- Sign bit as a number added to a magnitude pattern. -/
def f32sign (s : Bool) : Nat := if s then 2 ^ 31 else 0

/-- Negation flips the sign. -/
def f32negate (b : Nat) : Nat := if f32neg? b then b % 2 ^ 32 - 2 ^ 31 else b % 2 ^ 32 + 2 ^ 31
/-- Magnitude. -/
def f32abs (b : Nat) : Nat := b % 2 ^ 31

/-- Round ± m × 2^e to binary32, nearest with ties to even; a subnormal result becomes zero of the same sign and a result too
large becomes infinite (R152). -/
def f32round (s : Bool) (m : Nat) (e : Int) : Nat :=
  if m = 0 then f32sign s
  else
    let q := max (e + Nat.log2 m - 23) (-149)
    let n :=
      if q ≤ e then m * 2 ^ (e - q).toNat
      else
        let sh := (q - e).toNat
        let n := m / 2 ^ sh
        let rem := m % 2 ^ sh
        let half := 2 ^ (sh - 1)
        if half < rem ∨ (rem = half ∧ n % 2 = 1) then n + 1 else n
    let (n, q) := if 2 ^ 24 ≤ n then (n / 2, q + 1) else (n, q)
    if n < 2 ^ 23 then f32sign s
    else
      let ef := q + 150
      if 255 ≤ ef then f32sign s + f32inf else f32sign s + ef.toNat * 2 ^ 23 + (n - 2 ^ 23)

/-- Round a signed integer times 2^e. -/
def f32ofScaled (v : Int) (e : Int) : Nat := f32round (decide (v < 0)) v.natAbs e

/-- Round the quotient of an integer by a positive integer (R152: conversions round to nearest even). -/
def f32ofRat (num : Int) (den : Nat) : Nat :=
  let sh := 64 + Nat.log2 den
  let q := num.natAbs * 2 ^ sh / den
  let r := num.natAbs * 2 ^ sh % den
  f32round (decide (num < 0)) (2 * q + if r = 0 then 0 else 1) (-(sh : Int) - 1)

/-- A natural number as binary32. -/
def f32ofNat (n : Nat) : Nat := f32ofScaled n 0

/-- Exact value of a finite operand times 2^149, an integer. -/
def f32scaled (b : Nat) : Int :=
  let v : Int := (f32mant b * 2 ^ (f32exp b - 1) : Nat)
  if f32neg? b then -v else v

/-- a + b. -/
def fadd (a b : Nat) : Nat :=
  if f32isNan a || f32isNan b then f32nan
  else if f32isInf a then (if f32isInf b && f32neg? a != f32neg? b then f32nan else a)
  else if f32isInf b then b
  else if f32zero? a && f32zero? b then (if f32neg? a && f32neg? b then 2 ^ 31 else 0)
  else
    let v := f32scaled a + f32scaled b
    if v = 0 then 0 else f32ofScaled v (-149)

/-- a − b. -/
def fsub (a b : Nat) : Nat := fadd a (if f32isNan b then b else f32negate b)

/-- a × b. -/
def fmul (a b : Nat) : Nat :=
  let s := f32neg? a != f32neg? b
  if f32isNan a || f32isNan b then f32nan
  else if f32isInf a || f32isInf b then (if f32zero? a || f32zero? b then f32nan else f32sign s + f32inf)
  else f32round s (f32mant a * f32mant b) (f32e a + f32e b)

/-- a / b, correctly rounded; a quotient by zero is infinite or a NaN. -/
def fdiv (a b : Nat) : Nat :=
  let s := f32neg? a != f32neg? b
  if f32isNan a || f32isNan b then f32nan
  else if f32isInf a then (if f32isInf b then f32nan else f32sign s + f32inf)
  else if f32isInf b then f32sign s
  else if f32zero? b then (if f32zero? a then f32nan else f32sign s + f32inf)
  else
    let n := f32mant a * 2 ^ 50
    let q := n / f32mant b
    f32round s (2 * q + if n % f32mant b = 0 then 0 else 1) (f32e a - f32e b - 51)

/-- Integer square root by bits: the largest r below 2^k with r² ≤ n. -/
def isqrtBits (n : Nat) : Nat → Nat → Nat
  | 0, r => r
  | k + 1, r => isqrtBits n k (let c := r + 2 ^ k; if c * c ≤ n then c else r)

/-- Integer square root. -/
def isqrt (n : Nat) : Nat := isqrtBits n (Nat.log2 n / 2 + 1) 0

/-- Square root, correctly rounded; −0 gives −0 and a negative operand a NaN. -/
def fsqrt (a : Nat) : Nat :=
  if f32isNan a then f32nan
  else if f32zero? a then f32sign (f32neg? a)
  else if f32neg? a then f32nan
  else if f32isInf a then a
  else
    let e := f32e a
    let k : Nat := if e % 2 = 0 then 50 else 51
    let n := f32mant a * 2 ^ k
    let r := isqrt n
    f32round false (2 * r + if r * r = n then 0 else 1) ((e - k) / 2 - 1)

/-- a < b; false with a NaN. -/
def f32lt (a b : Nat) : Bool :=
  if f32isNan a || f32isNan b then false
  else if f32isInf a then f32neg? a && !(f32isInf b && f32neg? b)
  else if f32isInf b then !f32neg? b
  else decide (f32scaled a < f32scaled b)

/-- a ≤ b; false with a NaN. -/
def f32le (a b : Nat) : Bool := if f32isNan a || f32isNan b then false else !f32lt b a

/-- a = b as values. -/
def f32eq (a b : Nat) : Bool := f32le a b && f32le b a

/-- The larger of two; a NaN in the first place stays. -/
def fmax (a b : Nat) : Nat := if f32lt a b then b else a
/-- The smaller of two; a NaN in the first place stays. -/
def fmin (a b : Nat) : Nat := if f32lt b a then b else a
/-- min(max(x, lo), hi). -/
def fclamp (x lo hi : Nat) : Nat := fmin (fmax x lo) hi
/-- The larger magnitude. -/
def fabs (a : Nat) : Nat := f32abs a

/-! ### Sine, cosine and atan2, correctly rounded: fixed point with 420 fraction bits -/

/-- ⌊π/2 × 2⁴²⁰⌋. -/
def halfPiFix : Nat :=
  0x1921fb54442d18469898cc51701b839a252049c1114cf98e804177d4c76273644a29410f31c6809bbdf2a33679a748636605614dbe

/-- The fixed-point unit 2⁴²⁰. -/
def fixOne : Nat := 2 ^ 420

/-- Alternating Taylor tail: the sum from the term `t` on, terms divided by (i+1)(i+2) and multiplied by r². -/
def taylor (r2 : Nat) : Nat → Nat → Nat → Int
  | 0, _, _ => 0
  | n + 1, i, t => (t : Int) - taylor r2 n (i + 2) (t * r2 / fixOne / ((i + 1) * (i + 2)))

/-- Sine of r ≤ π/4 in fixed point. -/
def sinFix (r : Nat) : Nat := (taylor (r * r / fixOne) 60 1 r).toNat
/-- Cosine of r ≤ π/4 in fixed point. -/
def cosFix (r : Nat) : Nat := (taylor (r * r / fixOne) 60 0 fixOne).toNat

/-- |x| in fixed point and its reduction: the quadrant and the remainder in [−π/4, π/4] with its sign. -/
def reduceFix (b : Nat) : Nat × Int :=
  let x := f32mant b * 2 ^ (f32exp b + 270)
  let k := (x + halfPiFix / 2) / halfPiFix
  (k % 4, (x : Int) - k * halfPiFix)

/-- Sine and cosine of |x| in fixed point. -/
def sincosFix (b : Nat) : Int × Int :=
  let (q, r) := reduceFix b
  let sn : Int := if r < 0 then -(sinFix r.natAbs) else sinFix r.natAbs
  let cs : Int := cosFix r.natAbs
  if q = 0 then (sn, cs) else if q = 1 then (cs, -sn) else if q = 2 then (-sn, -cs) else (-cs, sn)

/-- Sine. -/
def fsin (b : Nat) : Nat :=
  if f32isNan b || f32isInf b then f32nan
  else if f32zero? b then f32sign (f32neg? b)
  else
    let v := (sincosFix b).1
    f32ofScaled (if f32neg? b then -v else v) (-420)

/-- Cosine. -/
def fcos (b : Nat) : Nat :=
  if f32isNan b || f32isInf b then f32nan
  else if f32zero? b then f32one
  else f32ofScaled (sincosFix b).2 (-420)

/-- Sum of the arctangent series from the power `p` of a on. -/
def atanSeries (a2 : Nat) : Nat → Nat → Nat → Int
  | 0, _, _ => 0
  | n + 1, i, p => ((p / i : Nat) : Int) - atanSeries a2 n (i + 2) (p * a2 / fixOne)

/-- One halving of the argument: a/(1 + √(1 + a²)). -/
def atanHalve (a : Nat) : Nat := a * fixOne / (fixOne + isqrt (fixOne * fixOne + a * a))

/-- Arctangent of a in [0, 1], fixed point. -/
def atanFix (a : Nat) : Nat :=
  let h := atanHalve (atanHalve (atanHalve a))
  8 * (atanSeries (h * h / fixOne) 90 1 h).toNat

/-- atan2(y, x) under R152. -/
def fatan2 (y x : Nat) : Nat :=
  let s := f32sign (f32neg? y)
  if f32isNan y || f32isNan x then f32nan
  else if f32zero? y then (if f32neg? x then s + f32pi else s)
  else if f32zero? x then s + 0x3FC90FDB
  else
    let n := f32mant y * 2 ^ f32exp y
    let d := f32mant x * 2 ^ f32exp x
    let a := if n ≤ d then atanFix (n * fixOne / d) else halfPiFix - atanFix (d * fixOne / n)
    let v := if f32neg? x then 2 * halfPiFix - a else a
    s + f32round false v (-420)

/-! ### Fixed-point conversions -/

/-- Round a finite value times 2^k to the nearest integer, ties to even. -/
def f32toFix (b k : Nat) : Int :=
  let v := f32scaled b * 2 ^ k
  let d : Int := 2 ^ 149
  let q := v / d
  let r := v % d
  if d < 2 * r ∨ (2 * r = d ∧ q % 2 = 1) then q + 1 else q

end Sys2Proof.Machine
end

