-- ==== Sys2Proof/Machine/Sparse.lean ====
section
/-!
DEFINITION. Tables held as sorted lists of (key, value) pairs in one canonical form: keys strictly rising, and no entry
equal to what an unlisted key reads as. The reading of an unlisted key (the default) is given at each access.
-/
namespace Sys2Proof.Machine

/-- A table by number. -/
abbrev Sparse (α : Type) := List (Nat × α)

/-- The value at a key, `d` where the key is not listed. -/
def sget {α : Type} (d : α) : Sparse α → Nat → α
  | [], _ => d
  | (j, w) :: m, k => if j = k then w else sget d m k

/-- The table without a key. -/
def sdel {α : Type} (k : Nat) : Sparse α → Sparse α
  | [] => []
  | (j, w) :: m => if j = k then sdel k m else (j, w) :: sdel k m

/-- Put an entry at its place in the rising order. -/
def sins {α : Type} (k : Nat) (v : α) : Sparse α → Sparse α
  | [] => [(k, v)]
  | (j, w) :: m => if k < j then (k, v) :: (j, w) :: m else (j, w) :: sins k v m

/-- Set the value at a key; a default value is not listed. -/
def sset {α : Type} [DecidableEq α] (d : α) (m : Sparse α) (k : Nat) (v : α) : Sparse α :=
  if v = d then sdel k m else sins k v (sdel k m)

/-- Change the value at a key by a function of what is there. -/
def smod {α : Type} [DecidableEq α] (d : α) (m : Sparse α) (k : Nat) (f : α → α) : Sparse α :=
  sset d m k (f (sget d m k))

/-- Change every listed value; what becomes the default is no longer listed. -/
def smap {α : Type} [DecidableEq α] (d : α) (f : α → α) (m : Sparse α) : Sparse α :=
  (m.map fun (e : Nat × α) => (e.1, f e.2)).filter fun e => decide (e.2 ≠ d)

/-- Keys strictly rising, all above `lo` where it is given. -/
def srising {α : Type} : Option Nat → Sparse α → Bool
  | _, [] => true
  | none, (j, _) :: m => srising (some j) m
  | some lo, (j, _) :: m => decide (lo < j) && srising (some j) m

/-- The canonical form: rising keys and no default value listed. -/
def swf {α : Type} [DecidableEq α] (d : α) (m : Sparse α) : Bool :=
  srising none m && m.all (fun e => decide (e.2 ≠ d))

end Sys2Proof.Machine
end

