-- ==== Sys2Proof/Machine/Regs.lean ====
section
/-!
DEFINITION. The register fields of the part, one definition per field row of the register tables of spec/
(01 ND, 02 PM, 03 MD, 06 FB, 07 SI, 08 LG, 09 TP, 10 SN, 11 SO, 12 CP, 13 TW, 14 SF, 15 SE, 16 LK, 17 CK, 18 HL, 19 AX),
with address, bit range, access code (R5), Reset value and Kept letters (R4, R10), and the map from an address to its register.
A register that the spec repeats takes its index (a leg, a bridge, a path, ...) as argument; a register that the spec
keeps once per requester takes the requester number of NODE_ADDRERR.REQ (R524).
-/
namespace Sys2Proof.Machine

/-- Access codes of Table SC-4 (R5). -/
inductive Access | rw | ro | wo | w1c | rc | ws
deriving DecidableEq, Repr

/-- One register field: byte address of its register, lowest bit, width, access code, Reset value, and the Kept letters
of Table SC-5 as a mask (C 1, B 2, P 4, W 8, H 16, Q 32, N 64). -/
structure Fld where
  addr : Nat
  lsb : Nat
  width : Nat
  acc : Access
  reset : Nat
  kept : Nat
deriving DecidableEq, Repr

/-- The key under which State holds the field. -/
def Fld.key (f : Fld) : Nat := f.addr * 32 + f.lsb

/-- Where State keeps the copy of a per-requester register: above the 32-bit address space. -/
def bankBase (req : Nat) : Nat := (req + 1) * 4294967296

namespace R
/-- R3 (00). -/
def NODE_REV_PART : Fld := ⟨0x0, 16, 12, .ro, 0x960, 127⟩
/-- R3 (00). -/
def NODE_REV_GRADE (gradeFuse : Nat) : Fld := ⟨0x0, 14, 2, .ro, gradeFuse, 127⟩
/-- R3 (00). -/
def NODE_REV_REV : Fld := ⟨0x0, 0, 12, .ro, 0xa1, 127⟩
/-- R24 (01). -/
def NODE_IDENT_PROV : Fld := ⟨0x4, 31, 1, .rw, 0, 127⟩
/-- R24 (01). -/
def NODE_IDENT_TWIN : Fld := ⟨0x4, 20, 1, .rw, 0, 127⟩
/-- R24 (01). -/
def NODE_IDENT_CLUSTER : Fld := ⟨0x4, 12, 8, .rw, 0, 127⟩
/-- R24 (01). -/
def NODE_IDENT_NODE : Fld := ⟨0x4, 0, 12, .rw, 0, 127⟩
/-- R25 (01). -/
def NODE_PAIR_PAIR_VALID : Fld := ⟨0x8, 31, 1, .ro, 0, 0⟩
/-- R25 (01). -/
def NODE_PAIR_PARTNER : Fld := ⟨0x8, 12, 12, .ro, 0, 0⟩
/-- R25 (01). -/
def NODE_PAIR_PAIR_ID : Fld := ⟨0x8, 0, 12, .ro, 0, 0⟩
/-- R66 (03). -/
def NODE_MODE_REFUSE : Fld := ⟨0x10, 24, 8, .ro, 0, 32⟩
/-- R66 (03). -/
def NODE_MODE_ENTRY : Fld := ⟨0x10, 16, 4, .ro, 1, 32⟩
/-- R66 (03). -/
def NODE_MODE_QUIET : Fld := ⟨0x10, 9, 1, .ro, 0, 0⟩
/-- R66 (03). -/
def NODE_MODE_PENDING : Fld := ⟨0x10, 8, 1, .ro, 0, 32⟩
/-- R66 (03). -/
def NODE_MODE_LATCH : Fld := ⟨0x10, 7, 1, .ro, 0, 127⟩
/-- R66 (03). -/
def NODE_MODE_MODE : Fld := ⟨0x10, 0, 3, .ro, 0, 32⟩
/-- R67 (03). -/
def NODE_MODE_REQ_PWR : Fld := ⟨0x14, 10, 2, .wo, 0, 0⟩
/-- R67 (03). -/
def NODE_MODE_REQ_VALID : Fld := ⟨0x14, 3, 1, .wo, 0, 0⟩
/-- R67 (03). -/
def NODE_MODE_REQ_MODE : Fld := ⟨0x14, 0, 3, .wo, 0, 0⟩
/-- R76 (03). -/
def NODE_TEST_RUNNING : Fld := ⟨0x18, 31, 1, .ro, 0, 0⟩
/-- R76 (03). -/
def NODE_TEST_RESULT : Fld := ⟨0x18, 24, 7, .ro, 0, 0⟩
/-- R76 (03). -/
def NODE_TEST_FAILUNIT : Fld := ⟨0x18, 16, 8, .ro, 0, 0⟩
/-- R76 (03). -/
def NODE_TEST_CAL : Fld := ⟨0x18, 2, 1, .wo, 0, 0⟩
/-- R76 (03). -/
def NODE_TEST_FULL : Fld := ⟨0x18, 1, 1, .wo, 0, 0⟩
/-- R76 (03). -/
def NODE_TEST_LIGHT : Fld := ⟨0x18, 0, 1, .wo, 0, 0⟩
/-- R524 (01). -/
def NODE_ADDRERR_COUNT : Fld := ⟨0x20, 16, 16, .rc, 0, 0⟩
/-- R524 (01). -/
def NODE_ADDRERR_REQ : Fld := ⟨0x20, 12, 4, .ro, 0, 0⟩
/-- R524 (01). -/
def NODE_ADDRERR_KIND : Fld := ⟨0x20, 8, 4, .ro, 0, 0⟩
/-- R524 (01). -/
def NODE_ADDRERR_ADDR_ADDR : Fld := ⟨0x24, 0, 32, .ro, 0, 0⟩
/-- R256 (09). -/
def NODE_TRIPCFG_FILT : Fld := ⟨0x1000, 0, 8, .rw, 0x18, 56⟩
/-- R256 (09). -/
def NODE_TRIPSTAT_LTOTAL : Fld := ⟨0x1004, 16, 16, .rc, 0, 0⟩
/-- R256 (09). -/
def NODE_TRIPSTAT_BLANKED : Fld := ⟨0x1004, 8, 8, .rc, 0, 0⟩
/-- R256 (09). -/
def NODE_TRIPSTAT_CLRREF : Fld := ⟨0x1004, 2, 1, .w1c, 0, 32⟩
/-- R256 (09). -/
def NODE_TRIPSTAT_CMPOUT : Fld := ⟨0x1004, 1, 1, .ro, 0, 32⟩
/-- R256 (09). -/
def NODE_TRIPSTAT_ANY : Fld := ⟨0x1004, 0, 1, .ro, 0, 32⟩
/-- R256 (09). -/
def NODE_BTRIP_BRIDGE : Fld := ⟨0x1030, 0, 16, .ro, 0, 32⟩
/-- R256 (09). -/
def NODE_BTRIP_CLR_BRIDGE : Fld := ⟨0x1034, 0, 16, .wo, 0, 0⟩
/-- R256 (09). -/
def NODE_WCMPST_UNDER : Fld := ⟨0x1038, 16, 16, .ro, 0, 0⟩
/-- R256 (09). -/
def NODE_WCMPST_OVER : Fld := ⟨0x1038, 0, 16, .ro, 0, 0⟩
/-- R368 (13). -/
def NODE_TWIN_CFG_MISMATCH : Fld := ⟨0x2000, 31, 1, .rw, 0, 56⟩
/-- R368 (13). -/
def NODE_TWIN_CFG_SILN : Fld := ⟨0x2000, 16, 8, .rw, 8, 56⟩
/-- R368 (13). -/
def NODE_TWIN_CFG_EDGEW : Fld := ⟨0x2000, 8, 8, .rw, 0x14, 56⟩
/-- R368 (13). -/
def NODE_TWIN_CFG_TSIL : Fld := ⟨0x2000, 0, 8, .rw, 0x14, 56⟩
/-- R368 (13). -/
def NODE_TWIN_CHK_TEST : Fld := ⟨0x2004, 24, 8, .rw, 0xa, 56⟩
/-- R368 (13). -/
def NODE_TWIN_CHK_STOL : Fld := ⟨0x2004, 0, 24, .rw, 0x1000, 56⟩
/-- R368 (13). -/
def NODE_TWIN_CTRL_ALONE : Fld := ⟨0x2008, 2, 1, .wo, 0, 0⟩
/-- R368 (13). -/
def NODE_TWIN_CTRL_REJOIN : Fld := ⟨0x2008, 1, 1, .wo, 0, 0⟩
/-- R368 (13). -/
def NODE_TWIN_CTRL_HANDOVER : Fld := ⟨0x2008, 0, 1, .wo, 0, 0⟩
/-- R368 (13). -/
def NODE_TWIN_STAT_ROLE : Fld := ⟨0x200c, 29, 3, .ro, 0, 32⟩
/-- R368 (13). -/
def NODE_TWIN_STAT_LINK : Fld := ⟨0x200c, 28, 1, .ro, 0, 0⟩
/-- R368 (13). -/
def NODE_TWIN_STAT_SILENT : Fld := ⟨0x200c, 27, 1, .ro, 0, 0⟩
/-- R368 (13). -/
def NODE_TWIN_STAT_DIVERGED : Fld := ⟨0x200c, 26, 1, .ro, 0, 32⟩
/-- R368 (13). -/
def NODE_TWIN_STAT_SEQ_END : Fld := ⟨0x200c, 25, 1, .ro, 0, 127⟩
/-- R368 (13). -/
def NODE_TWIN_STAT_REFUSE : Fld := ⟨0x200c, 19, 3, .ro, 0, 0⟩
/-- R368 (13). -/
def NODE_TWIN_STAT_LINK_DOWN : Fld := ⟨0x200c, 7, 1, .w1c, 0, 32⟩
/-- R368 (13). -/
def NODE_TWIN_STAT_HASH_MISMATCH : Fld := ⟨0x200c, 6, 1, .w1c, 0, 32⟩
/-- R368 (13). -/
def NODE_TWIN_STAT_UNEXPLAINED : Fld := ⟨0x200c, 5, 1, .w1c, 0, 32⟩
/-- R368 (13). -/
def NODE_TWIN_STAT_SENSE_DISAGREE : Fld := ⟨0x200c, 4, 1, .w1c, 0, 32⟩
/-- R368 (13). -/
def NODE_TWIN_STAT_RB_DISAGREE : Fld := ⟨0x200c, 3, 1, .w1c, 0, 32⟩
/-- R368 (13). -/
def NODE_TWIN_STAT_TEST_FAIL : Fld := ⟨0x200c, 2, 1, .w1c, 0, 32⟩
/-- R368 (13). -/
def NODE_TWIN_STAT_TAKEOVER : Fld := ⟨0x200c, 1, 1, .w1c, 0, 32⟩
/-- R368 (13). -/
def NODE_TWIN_STAT_HELDLOSS : Fld := ⟨0x200c, 0, 1, .w1c, 0, 32⟩
/-- R368 (13). -/
def NODE_TWIN_CNT_BMISS : Fld := ⟨0x2010, 16, 16, .rc, 0, 0⟩
/-- R368 (13). -/
def NODE_TWIN_CNT_MISM : Fld := ⟨0x2010, 8, 8, .rc, 0, 0⟩
/-- R368 (13). -/
def NODE_TWIN_CNT_SDCH : Fld := ⟨0x2010, 0, 8, .ro, 0, 32⟩
/-- R368 (13). -/
def NODE_TWIN_SEQ_LO_NEXT : Fld := ⟨0x2018, 0, 32, .ro, 0, 32⟩
/-- R368 (13). -/
def NODE_TWIN_SEQ_HI_NEXT : Fld := ⟨0x201c, 0, 16, .ro, 0, 32⟩
/-- R368 (13). -/
def NODE_TWIN_MISK_LO_K : Fld := ⟨0x2020, 0, 32, .ro, 0, 32⟩
/-- R368 (13). -/
def NODE_TWIN_MISK_HI_K : Fld := ⟨0x2024, 0, 32, .ro, 0, 32⟩
/-- R256 (09). -/
def NODE_LTRIPm_LEG (n : Nat) : Fld := ⟨0x1010 + 4 * n, 0, 32, .w1c, 0, 32⟩
/-- R256 (09). -/
def NODE_LTINm_LEG (n : Nat) : Fld := ⟨0x1020 + 4 * n, 0, 32, .ro, 0, 0⟩
/-- R256 (09). -/
def NODE_BLANKb_T (n : Nat) : Fld := ⟨0x1040 + 4 * n, 0, 14, .rw, 0x4b0, 56⟩
/-- R256 (09). -/
def NODE_BCAUSEb_FIRST (n : Nat) : Fld := ⟨0x1080 + 4 * n, 24, 8, .ro, 0, 32⟩
/-- R256 (09). -/
def NODE_BCAUSEb_LAST (n : Nat) : Fld := ⟨0x1080 + 4 * n, 16, 8, .ro, 0, 32⟩
/-- R256 (09). -/
def NODE_BCAUSEb_NCAUSE (n : Nat) : Fld := ⟨0x1080 + 4 * n, 8, 8, .ro, 0, 32⟩
/-- R256 (09). -/
def NODE_BCNTb_TOTAL (n : Nat) : Fld := ⟨0x10c0 + 4 * n, 16, 16, .rc, 0, 0⟩
/-- R256 (09). -/
def NODE_BCNTb_WIN (n : Nat) : Fld := ⟨0x10c0 + 4 * n, 0, 8, .ro, 0, 32⟩
/-- R255 (09). -/
def NODE_WCMPc_CFG_ACT (n : Nat) : Fld := ⟨0x1100 + 8 * n, 30, 2, .rw, 0, 56⟩
/-- R255 (09). -/
def NODE_WCMPc_CFG_EN_HI (n : Nat) : Fld := ⟨0x1100 + 8 * n, 29, 1, .rw, 0, 56⟩
/-- R255 (09). -/
def NODE_WCMPc_CFG_EN_LO (n : Nat) : Fld := ⟨0x1100 + 8 * n, 28, 1, .rw, 0, 56⟩
/-- R255 (09). -/
def NODE_WCMPc_CFG_SRC (n : Nat) : Fld := ⟨0x1100 + 8 * n, 23, 5, .rw, 0, 56⟩
/-- R255 (09). -/
def NODE_WCMPc_CFG_CFILT (n : Nat) : Fld := ⟨0x1100 + 8 * n, 16, 7, .rw, 0x1e, 56⟩
/-- R255 (09). -/
def NODE_WCMPc_CFG_MASK (n : Nat) : Fld := ⟨0x1100 + 8 * n, 0, 16, .rw, 0, 56⟩
/-- R255 (09). -/
def NODE_WCMPc_THR_HYST (n : Nat) : Fld := ⟨0x1104 + 8 * n, 26, 6, .rw, 8, 56⟩
/-- R255 (09). -/
def NODE_WCMPc_THR_HI (n : Nat) : Fld := ⟨0x1104 + 8 * n, 12, 12, .rw, 0x7ff, 56⟩
/-- R255 (09). -/
def NODE_WCMPc_THR_LO (n : Nat) : Fld := ⟨0x1104 + 8 * n, 0, 12, .rw, 0x800, 56⟩
/-- R45 (02). -/
def POST_NOW_LO_FRAC : Fld := ⟨0x10000, 0, 32, .ro, 0, 56⟩
/-- R45 (02). -/
def POST_NOW_HI_SEC : Fld := ⟨0x10004, 0, 32, .ro, 0, 56⟩
/-- R42 (02). -/
def POST_STATUS_CHANGED : Fld := ⟨0x10008, 8, 1, .w1c, 0, 56⟩
/-- R42 (02). -/
def POST_STATUS_STEPPED : Fld := ⟨0x10008, 7, 1, .w1c, 0, 56⟩
/-- R42 (02). -/
def POST_STATUS_SRC_ACT : Fld := ⟨0x10008, 4, 3, .ro, 0, 56⟩
/-- R42 (02). -/
def POST_STATUS_COARSE : Fld := ⟨0x10008, 3, 1, .ro, 0, 56⟩
/-- R42 (02). -/
def POST_STATUS_STATE : Fld := ⟨0x10008, 0, 3, .ro, 0, 56⟩
/-- R43 (02). -/
def POST_CTRL_SLEW : Fld := ⟨0x1000c, 10, 10, .rw, 0x64, 120⟩
/-- R43 (02). -/
def POST_CTRL_PRIO : Fld := ⟨0x1000c, 8, 2, .rw, 0, 120⟩
/-- R43 (02). -/
def POST_CTRL_PPS_EDGE : Fld := ⟨0x1000c, 4, 1, .rw, 0, 120⟩
/-- R43 (02). -/
def POST_CTRL_EN_TWIN : Fld := ⟨0x1000c, 3, 1, .rw, 0, 120⟩
/-- R43 (02). -/
def POST_CTRL_EN_PPS : Fld := ⟨0x1000c, 2, 1, .rw, 0, 120⟩
/-- R43 (02). -/
def POST_CTRL_EN_PTP1 : Fld := ⟨0x1000c, 1, 1, .rw, 1, 120⟩
/-- R43 (02). -/
def POST_CTRL_EN_PTP0 : Fld := ⟨0x1000c, 0, 1, .rw, 1, 120⟩
/-- R44 (02). -/
def POST_HOLD_FU : Fld := ⟨0x10010, 28, 4, .rw, 2, 120⟩
/-- R44 (02). -/
def POST_HOLD_POOR_US : Fld := ⟨0x10010, 16, 12, .rw, 0x3e8, 120⟩
/-- R44 (02). -/
def POST_HOLD_GOOD_NS : Fld := ⟨0x10010, 0, 16, .rw, 0x3e8, 120⟩
/-- R45 (02). -/
def POST_ERRB_ERR_NS : Fld := ⟨0x10014, 0, 32, .ro, 0xffffffff, 56⟩
/-- R45 (02). -/
def POST_OFFSET_OFS_NS : Fld := ⟨0x10018, 0, 32, .ro, 0, 0⟩
/-- R45 (02). -/
def POST_TRIM_TRIM : Fld := ⟨0x1001c, 0, 32, .ro, 0, 56⟩
/-- R45 (02). -/
def POST_EPOCH_LO_SEC : Fld := ⟨0x10020, 0, 32, .ro, 0, 127⟩
/-- R45 (02). -/
def POST_EPOCH_HI_VALID : Fld := ⟨0x10024, 31, 1, .ro, 0, 127⟩
/-- R45 (02). -/
def POST_EPOCH_HI_SEC : Fld := ⟨0x10024, 0, 16, .ro, 0, 127⟩
/-- R45 (02). -/
def POST_SET_LO_FRAC : Fld := ⟨0x10028, 0, 32, .wo, 0, 0⟩
/-- R45 (02). -/
def POST_SET_HI_SEC : Fld := ⟨0x1002c, 0, 32, .wo, 0, 0⟩
/-- R46 (02). -/
def POST_TIG_LAPSES : Fld := ⟨0x10030, 16, 16, .ro, 0, 0⟩
/-- R46 (02). -/
def POST_TIG_HWFAULT : Fld := ⟨0x10030, 5, 1, .ro, 0, 0⟩
/-- R46 (02). -/
def POST_TIG_TIMEBASE : Fld := ⟨0x10030, 4, 1, .ro, 1, 0⟩
/-- R46 (02). -/
def POST_TIG_OVERRUN : Fld := ⟨0x10030, 3, 1, .ro, 0, 0⟩
/-- R46 (02). -/
def POST_TIG_FOREIGN : Fld := ⟨0x10030, 2, 1, .ro, 0, 0⟩
/-- R46 (02). -/
def POST_TIG_IMAGE : Fld := ⟨0x10030, 1, 1, .ro, 1, 0⟩
/-- R46 (02). -/
def POST_TIG_HELD : Fld := ⟨0x10030, 0, 1, .ro, 0, 0⟩
/-- R45 (02). -/
def POST_ACC_SUPER : Fld := ⟨0x10034, 16, 16, .rc, 0, 0⟩
/-- R45 (02). -/
def POST_ACC_LATE : Fld := ⟨0x10034, 0, 16, .rc, 0, 0⟩
/-- R45 (02). -/
def POST_TIGBASE_LO_FRAC : Fld := ⟨0x10038, 0, 32, .ro, 0, 0⟩
/-- R45 (02). -/
def POST_TIGBASE_HI_SEC : Fld := ⟨0x1003c, 0, 32, .ro, 0, 0⟩
/-- R467 (17). -/
def CK_STATUS_LOCK : Fld := ⟨0x20000, 31, 1, .ro, 0, 0⟩
/-- R467 (17). -/
def CK_STATUS_SHADOW : Fld := ⟨0x20000, 30, 1, .ro, 1, 0⟩
/-- R467 (17). -/
def CK_STATUS_ACT : Fld := ⟨0x20000, 29, 1, .ro, 0, 0⟩
/-- R467 (17). -/
def CK_STATUS_REF1_OK : Fld := ⟨0x20000, 28, 1, .ro, 0, 0⟩
/-- R467 (17). -/
def CK_STATUS_REF0_OK : Fld := ⟨0x20000, 27, 1, .ro, 0, 0⟩
/-- R467 (17). -/
def CK_STATUS_LOSS : Fld := ⟨0x20000, 24, 3, .ro, 0, 56⟩
/-- R467 (17). -/
def CK_STATUS_RELOCKS : Fld := ⟨0x20000, 0, 16, .rc, 0, 56⟩
/-- R467 (17). -/
def CK_REF_AUTO : Fld := ⟨0x20004, 31, 1, .rw, 1, 120⟩
/-- R467 (17). -/
def CK_REF_SEL : Fld := ⟨0x20004, 30, 1, .rw, 0, 120⟩
/-- R467 (17). -/
def CK_REF_REF1_EN : Fld := ⟨0x20004, 29, 1, .rw, 1, 120⟩
/-- R467 (17). -/
def CK_REF_REF0_EN : Fld := ⟨0x20004, 28, 1, .rw, 1, 120⟩
/-- R467 (17). -/
def CK_LOCKWIN_COUNT : Fld := ⟨0x20008, 0, 19, .ro, 0, 0⟩
/-- R467 (17). -/
def CK_RSTCAUSE_RESET_HELD_LONG : Fld := ⟨0x2000c, 31, 1, .w1c, 0, 127⟩
/-- R467 (17). -/
def CK_RSTCAUSE_WAKE : Fld := ⟨0x2000c, 30, 1, .ro, 0, 127⟩
/-- R467 (17). -/
def CK_RSTCAUSE_COARSE_LOST : Fld := ⟨0x2000c, 29, 1, .ro, 0, 127⟩
/-- R467 (17). -/
def CK_RSTCAUSE_BOSUP : Fld := ⟨0x2000c, 8, 5, .ro, 0, 127⟩
/-- R467 (17). -/
def CK_RSTCAUSE_KIND : Fld := ⟨0x2000c, 0, 3, .ro, 0, 127⟩
/-- R467 (17). -/
def CK_RSTREQ_KEY : Fld := ⟨0x20010, 0, 8, .wo, 0, 0⟩
/-- R467 (17). -/
def CK_HOLD_MS : Fld := ⟨0x20014, 0, 32, .ro, 0, 127⟩
/-- R467 (17). -/
def CK_WDOG_CFG_TIMEOUT : Fld := ⟨0x20018, 0, 16, .rw, 0x3e8, 0⟩
/-- R467 (17). -/
def CK_WDOG_KICK_CODE : Fld := ⟨0x2001c, 0, 8, .wo, 0, 0⟩
/-- R467 (17). -/
def CK_WDOG_STAT_REMAIN : Fld := ⟨0x20020, 0, 16, .ro, 0x3e8, 0⟩
/-- R467 (17). -/
def CK_WAKE_CAUSE : Fld := ⟨0x20024, 28, 4, .ro, 0, 127⟩
/-- R467 (17). -/
def CK_WAKE_INPUT : Fld := ⟨0x20024, 16, 8, .ro, 0, 127⟩
/-- R467 (17). -/
def CK_WAKE_ALARM_EN : Fld := ⟨0x20024, 1, 1, .rw, 0, 127⟩
/-- R467 (17). -/
def CK_WAKE_WAKEN_EN : Fld := ⟨0x20024, 0, 1, .rw, 1, 127⟩
/-- R467 (17). -/
def CK_ALARM_LO_FRAC : Fld := ⟨0x20028, 0, 32, .rw, 0, 127⟩
/-- R467 (17). -/
def CK_ALARM_HI_SEC : Fld := ⟨0x2002c, 0, 32, .rw, 0, 127⟩
/-- R228 (08). -/
def LEGn_CFG_BLANK (n : Nat) : Fld := ⟨0x40000 + 1024 * n, 24, 8, .ro, 0xff, 32⟩
/-- R228 (08). -/
def LEGn_CFG_PHASE (n : Nat) : Fld := ⟨0x40000 + 1024 * n, 16, 8, .ro, 0xff, 32⟩
/-- R228 (08). -/
def LEGn_CFG_BRIDGE (n : Nat) : Fld := ⟨0x40000 + 1024 * n, 12, 4, .ro, 0, 32⟩
/-- R228 (08). -/
def LEGn_CFG_SAFE (n : Nat) : Fld := ⟨0x40000 + 1024 * n, 10, 2, .ro, 0, 32⟩
/-- R228 (08). -/
def LEGn_CFG_POLICY (n : Nat) : Fld := ⟨0x40000 + 1024 * n, 8, 2, .ro, 2, 32⟩
/-- R228 (08). -/
def LEGn_CFG_SENSE (n : Nat) : Fld := ⟨0x40000 + 1024 * n, 7, 1, .ro, 0, 32⟩
/-- R228 (08). -/
def LEGn_CFG_ASSIGNED (n : Nat) : Fld := ⟨0x40000 + 1024 * n, 6, 1, .ro, 0, 32⟩
/-- R230 (08). -/
def LEGn_DT_RISE (n : Nat) : Fld := ⟨0x40004 + 1024 * n, 16, 14, .ro, 0, 32⟩
/-- R230 (08). -/
def LEGn_DT_FALL (n : Nat) : Fld := ⟨0x40004 + 1024 * n, 0, 14, .ro, 0, 32⟩
/-- R230 (08). -/
def LEGn_MINP_MIN (n : Nat) : Fld := ⟨0x40008 + 1024 * n, 0, 12, .ro, 0, 32⟩
/-- R230 (08). -/
def LEGn_DUTY_DUTY (n : Nat) : Fld := ⟨0x40010 + 1024 * n, 0, 32, .ws, 0, 32⟩
/-- R230 (08). -/
def LEGn_PHASE_PHASE (n : Nat) : Fld := ⟨0x40014 + 1024 * n, 0, 24, .ws, 0, 32⟩
/-- R230 (08). -/
def LEGn_PERIOD_PERIOD (n : Nat) : Fld := ⟨0x40018 + 1024 * n, 0, 24, .ws, 0, 32⟩
/-- R230 (08). -/
def LEGn_DUTY_ACT_DUTY (n : Nat) : Fld := ⟨0x40020 + 1024 * n, 0, 32, .ro, 0, 32⟩
/-- R230 (08). -/
def LEGn_PHASE_ACT_PHASE (n : Nat) : Fld := ⟨0x40024 + 1024 * n, 0, 24, .ro, 0, 32⟩
/-- R230 (08). -/
def LEGn_PERIOD_ACT_PERIOD (n : Nat) : Fld := ⟨0x40028 + 1024 * n, 0, 24, .ro, 0, 32⟩
/-- R230 (08). -/
def LEGn_FORCE_CODE (n : Nat) : Fld := ⟨0x40030 + 1024 * n, 0, 3, .rw, 0, 32⟩
/-- R229 (08). -/
def LEGn_STATUS_DRIVE (n : Nat) : Fld := ⟨0x40034 + 1024 * n, 30, 2, .ro, 2, 32⟩
/-- R229 (08). -/
def LEGn_STATUS_HELD (n : Nat) : Fld := ⟨0x40034 + 1024 * n, 29, 1, .ro, 1, 32⟩
/-- R229 (08). -/
def LEGn_STATUS_PEND_D (n : Nat) : Fld := ⟨0x40034 + 1024 * n, 28, 1, .ro, 0, 32⟩
/-- R229 (08). -/
def LEGn_STATUS_PEND_PP (n : Nat) : Fld := ⟨0x40034 + 1024 * n, 27, 1, .ro, 0, 32⟩
/-- R229 (08). -/
def LEGn_STATUS_FCODE (n : Nat) : Fld := ⟨0x40034 + 1024 * n, 24, 3, .ro, 0, 32⟩
/-- R229 (08). -/
def LEGn_STATUS_FREFUSED (n : Nat) : Fld := ⟨0x40034 + 1024 * n, 19, 1, .w1c, 0, 32⟩
/-- R229 (08). -/
def LEGn_STATUS_DSAT (n : Nat) : Fld := ⟨0x40034 + 1024 * n, 18, 1, .w1c, 0, 32⟩
/-- R229 (08). -/
def LEGn_STATUS_RBERR (n : Nat) : Fld := ⟨0x40034 + 1024 * n, 17, 1, .w1c, 0, 32⟩
/-- R229 (08). -/
def LEGn_STATUS_PCLAMP (n : Nat) : Fld := ⟨0x40034 + 1024 * n, 16, 1, .w1c, 0, 32⟩
/-- R229 (08). -/
def LEGn_STATUS_RB_GL (n : Nat) : Fld := ⟨0x40034 + 1024 * n, 3, 1, .ro, 0, 32⟩
/-- R229 (08). -/
def LEGn_STATUS_RB_GH (n : Nat) : Fld := ⟨0x40034 + 1024 * n, 2, 1, .ro, 0, 32⟩
/-- R229 (08). -/
def LEGn_STATUS_GL (n : Nat) : Fld := ⟨0x40034 + 1024 * n, 1, 1, .ro, 0, 32⟩
/-- R229 (08). -/
def LEGn_STATUS_GH (n : Nat) : Fld := ⟨0x40034 + 1024 * n, 0, 1, .ro, 0, 32⟩
/-- R230 (08). -/
def LEGn_DEBT_D (n : Nat) : Fld := ⟨0x40038 + 1024 * n, 0, 32, .ro, 0, 32⟩
/-- R230 (08). -/
def LEGn_DEBTMAX_D (n : Nat) : Fld := ⟨0x4003c + 1024 * n, 0, 32, .rc, 0, 32⟩
/-- R230 (08). -/
def LEGn_COUNT_DOWN (n : Nat) : Fld := ⟨0x40040 + 1024 * n, 31, 1, .ro, 0, 32⟩
/-- R230 (08). -/
def LEGn_COUNT_C (n : Nat) : Fld := ⟨0x40040 + 1024 * n, 0, 24, .ro, 0, 32⟩
/-- R230 (08). -/
def LEGn_RBCFG_SETTLE (n : Nat) : Fld := ⟨0x40044 + 1024 * n, 8, 8, .rw, 0x78, 32⟩
/-- R230 (08). -/
def LEGn_RBCFG_TOL (n : Nat) : Fld := ⟨0x40044 + 1024 * n, 0, 8, .rw, 0x18, 32⟩
/-- R230 (08). -/
def LEGn_CNT_SHORT (n : Nat) : Fld := ⟨0x40048 + 1024 * n, 16, 16, .rc, 0, 32⟩
/-- R230 (08). -/
def LEGn_CNT_SUPER (n : Nat) : Fld := ⟨0x40048 + 1024 * n, 0, 16, .rc, 0, 32⟩
/-- R232 (08). -/
def BRIDGE_CFG_PRESENT (n : Nat) : Fld := ⟨0x60000 + 256 * n, 31, 1, .ro, 0, 32⟩
/-- R232 (08). -/
def BRIDGE_CFG_ROLE (n : Nat) : Fld := ⟨0x60000 + 256 * n, 24, 3, .ro, 0, 32⟩
/-- R232 (08). -/
def BRIDGE_CFG_NPHASE (n : Nat) : Fld := ⟨0x60000 + 256 * n, 20, 4, .ro, 0, 32⟩
/-- R232 (08). -/
def BRIDGE_CFG_CFORM (n : Nat) : Fld := ⟨0x60000 + 256 * n, 19, 1, .ro, 0, 32⟩
/-- R232 (08). -/
def BRIDGE_CFG_RELOAD (n : Nat) : Fld := ⟨0x60000 + 256 * n, 17, 2, .ro, 0, 32⟩
/-- R232 (08). -/
def BRIDGE_CTRL_SRC (n : Nat) : Fld := ⟨0x60004 + 256 * n, 0, 1, .rw, 0, 32⟩
/-- R232 (08). -/
def BRIDGE_LOAD_ALL (n : Nat) : Fld := ⟨0x60008 + 256 * n, 1, 1, .wo, 0, 0⟩
/-- R232 (08). -/
def BRIDGE_LOAD_LOAD (n : Nat) : Fld := ⟨0x60008 + 256 * n, 0, 1, .wo, 0, 0⟩
/-- R232 (08). -/
def BRIDGE_STATUS_SWITCHING (n : Nat) : Fld := ⟨0x6000c + 256 * n, 31, 1, .ro, 0, 32⟩
/-- R232 (08). -/
def BRIDGE_STATUS_HELD (n : Nat) : Fld := ⟨0x6000c + 256 * n, 3, 1, .ro, 1, 32⟩
/-- R232 (08). -/
def BRIDGE_STATUS_FORCED (n : Nat) : Fld := ⟨0x6000c + 256 * n, 2, 1, .ro, 0, 32⟩
/-- R232 (08). -/
def BRIDGE_STATUS_HOSTW (n : Nat) : Fld := ⟨0x6000c + 256 * n, 1, 1, .w1c, 0, 32⟩
/-- R287 (10). -/
def SN_STATUS_RUN : Fld := ⟨0x80000, 31, 1, .ro, 0, 0⟩
/-- R287 (10). -/
def SN_STATUS_GRPEN : Fld := ⟨0x80000, 20, 4, .ro, 0, 32⟩
/-- R287 (10). -/
def SN_STATUS_BANKEN : Fld := ⟨0x80000, 0, 12, .ro, 0, 32⟩
/-- R287 (10). -/
def SN_CAL_FAILED : Fld := ⟨0x80004, 31, 1, .ro, 0, 32⟩
/-- R287 (10). -/
def SN_CAL_PHASE : Fld := ⟨0x80004, 29, 2, .ro, 0, 0⟩
/-- R287 (10). -/
def SN_CAL_FSLICE : Fld := ⟨0x80004, 24, 5, .ro, 0, 32⟩
/-- R287 (10). -/
def SN_CAL_STEP : Fld := ⟨0x80004, 16, 5, .ro, 0, 0⟩
/-- R287 (10). -/
def SN_CAL_ROT : Fld := ⟨0x80004, 0, 16, .ro, 0, 32⟩
/-- R287 (10). -/
def SN_SNAP_REQ_BRIDGE : Fld := ⟨0x80008, 0, 5, .wo, 0, 0⟩
/-- R287 (10). -/
def SN_SNAPSTAT_DONE : Fld := ⟨0x8000c, 16, 16, .rc, 0, 0⟩
/-- R287 (10). -/
def SN_SNAPSTAT_DROP : Fld := ⟨0x8000c, 8, 8, .rc, 0, 0⟩
/-- R287 (10). -/
def SN_SNAPSTAT_PEND : Fld := ⟨0x8000c, 0, 3, .ro, 0, 0⟩
/-- R287 (10). -/
def SN_ORm_CH (n : Nat) : Fld := ⟨0x80010 + 4 * n, 0, 32, .w1c, 0, 0⟩
/-- R287 (10). -/
def SN_LOSTm_CH (n : Nat) : Fld := ⟨0x80020 + 4 * n, 0, 32, .ro, 0, 0⟩
/-- R287 (10). -/
def SN_BANKb_PM (n : Nat) : Fld := ⟨0x80040 + 4 * n, 24, 8, .ro, 0, 32⟩
/-- R287 (10). -/
def SN_BANKb_FORM (n : Nat) : Fld := ⟨0x80040 + 4 * n, 22, 2, .ro, 0, 32⟩
/-- R287 (10). -/
def SN_BANKb_SDLEV (n : Nat) : Fld := ⟨0x80040 + 4 * n, 21, 1, .ro, 0, 32⟩
/-- R287 (10). -/
def SN_BANKb_CLKADJ (n : Nat) : Fld := ⟨0x80040 + 4 * n, 8, 12, .ro, 0, 32⟩
/-- R287 (10). -/
def SN_BANKb_SDLY (n : Nat) : Fld := ⟨0x80040 + 4 * n, 0, 8, .ro, 0, 32⟩
/-- R287 (10). -/
def SN_GRPg_EN (n : Nat) : Fld := ⟨0x80080 + 4 * n, 31, 1, .ro, 0, 32⟩
/-- R287 (10). -/
def SN_GRPg_PS (n : Nat) : Fld := ⟨0x80080 + 4 * n, 0, 8, .ro, 0, 32⟩
/-- R287 (10). -/
def SN_CHc_CODE_CODE (n : Nat) : Fld := ⟨0x80100 + 8 * n, 0, 32, .ro, 0, 32⟩
/-- R287 (10). -/
def SN_CHc_STAT_STAT (n : Nat) : Fld := ⟨0x80104 + 8 * n, 0, 8, .ro, 0, 32⟩
/-- R288 (10). -/
def DEC_PATHp_CFG_DEFINED (n : Nat) : Fld := ⟨0xa0000 + 16 * n, 31, 1, .ro, 0, 32⟩
/-- R288 (10). -/
def DEC_PATHp_CFG_K (n : Nat) : Fld := ⟨0xa0000 + 16 * n, 28, 3, .ro, 0, 32⟩
/-- R288 (10). -/
def DEC_PATHp_CFG_DLOG (n : Nat) : Fld := ⟨0xa0000 + 16 * n, 26, 2, .ro, 0, 32⟩
/-- R288 (10). -/
def DEC_PATHp_CFG_R (n : Nat) : Fld := ⟨0xa0000 + 16 * n, 12, 13, .ro, 0, 32⟩
/-- R288 (10). -/
def DEC_PATHp_CFG_SRC (n : Nat) : Fld := ⟨0xa0000 + 16 * n, 0, 8, .ro, 0, 32⟩
/-- R288 (10). -/
def DEC_PATHp_BANK_FADING (n : Nat) : Fld := ⟨0xa0004 + 16 * n, 31, 1, .ro, 0, 32⟩
/-- R288 (10). -/
def DEC_PATHp_BANK_HELD (n : Nat) : Fld := ⟨0xa0004 + 16 * n, 30, 1, .ro, 0, 32⟩
/-- R288 (10). -/
def DEC_PATHp_BANK_HBANK (n : Nat) : Fld := ⟨0xa0004 + 16 * n, 28, 2, .ro, 0, 32⟩
/-- R288 (10). -/
def DEC_PATHp_BANK_TBANK (n : Nat) : Fld := ⟨0xa0004 + 16 * n, 26, 2, .ro, 0, 32⟩
/-- R288 (10). -/
def DEC_PATHp_BANK_ABANK (n : Nat) : Fld := ⟨0xa0004 + 16 * n, 24, 2, .ro, 0, 32⟩
/-- R288 (10). -/
def DEC_PATHp_BANK_ARESP (n : Nat) : Fld := ⟨0xa0004 + 16 * n, 16, 5, .ro, 0, 32⟩
/-- R288 (10). -/
def DEC_PATHp_BANK_XFLEFT (n : Nat) : Fld := ⟨0xa0004 + 16 * n, 0, 16, .ro, 0, 32⟩
/-- R288 (10). -/
def DEC_PATHp_REQ_SRCREQ (n : Nat) : Fld := ⟨0xa0008 + 16 * n, 31, 1, .wo, 0, 0⟩
/-- R288 (10). -/
def DEC_PATHp_REQ_NEWSRC (n : Nat) : Fld := ⟨0xa0008 + 16 * n, 24, 7, .wo, 0, 0⟩
/-- R288 (10). -/
def DEC_PATHp_REQ_BANKREQ (n : Nat) : Fld := ⟨0xa0008 + 16 * n, 2, 1, .wo, 0, 0⟩
/-- R288 (10). -/
def DEC_PATHp_REQ_BANK (n : Nat) : Fld := ⟨0xa0008 + 16 * n, 0, 2, .wo, 0, 0⟩
/-- R288 (10). -/
def DEC_PATHp_DLY_UNITS (n : Nat) : Fld := ⟨0xa000c + 16 * n, 0, 32, .ro, 0, 32⟩
/-- R288 (10). -/
def DEC_RSr_CFG_DEFINED (n : Nat) : Fld := ⟨0xa0800 + 16 * n, 31, 1, .ro, 0, 32⟩
/-- R288 (10). -/
def DEC_RSr_CFG_LOCK (n : Nat) : Fld := ⟨0xa0800 + 16 * n, 30, 1, .ro, 0, 32⟩
/-- R288 (10). -/
def DEC_RSr_CFG_BRIDGE (n : Nat) : Fld := ⟨0xa0800 + 16 * n, 26, 4, .ro, 0, 32⟩
/-- R288 (10). -/
def DEC_RSr_CFG_LOGN (n : Nat) : Fld := ⟨0xa0800 + 16 * n, 22, 4, .ro, 0, 32⟩
/-- R288 (10). -/
def DEC_RSr_CFG_CYC (n : Nat) : Fld := ⟨0xa0800 + 16 * n, 8, 13, .ro, 0, 32⟩
/-- R288 (10). -/
def DEC_RSr_CFG_SRC (n : Nat) : Fld := ⟨0xa0800 + 16 * n, 0, 8, .ro, 0, 32⟩
/-- R288 (10). -/
def DEC_RSr_IDX_RUN (n : Nat) : Fld := ⟨0xa0804 + 16 * n, 31, 1, .ro, 0, 0⟩
/-- R288 (10). -/
def DEC_RSr_IDX_J (n : Nat) : Fld := ⟨0xa0804 + 16 * n, 0, 10, .ro, 0, 0⟩
/-- R288 (10). -/
def DEC_RSr_CNT_OUT (n : Nat) : Fld := ⟨0xa0808 + 16 * n, 16, 16, .rc, 0, 0⟩
/-- R288 (10). -/
def DEC_RSr_CNT_LATE (n : Nat) : Fld := ⟨0xa0808 + 16 * n, 0, 16, .rc, 0, 0⟩
/-- R178 (06). -/
def FAB_STATUS_RUN : Fld := ⟨0xc0000, 31, 1, .ro, 0, 0⟩
/-- R178 (06). -/
def FAB_STATUS_FAULT : Fld := ⟨0xc0000, 24, 4, .ro, 0, 32⟩
/-- R178 (06). -/
def FAB_STATUS_FTILE : Fld := ⟨0xc0000, 20, 4, .ro, 0, 32⟩
/-- R178 (06). -/
def FAB_STATUS_SLOT : Fld := ⟨0xc0000, 16, 2, .ro, 0, 32⟩
/-- R178 (06). -/
def FAB_STATUS_ACTIVE : Fld := ⟨0xc0000, 15, 1, .ro, 0, 32⟩
/-- R178 (06). -/
def FAB_STATUS_USED : Fld := ⟨0xc0000, 0, 11, .ro, 0, 32⟩
/-- R179 (06). -/
def FAB_CFG_G3 : Fld := ⟨0xc0004, 29, 3, .ro, 7, 32⟩
/-- R179 (06). -/
def FAB_CFG_G2 : Fld := ⟨0xc0004, 26, 3, .ro, 7, 32⟩
/-- R179 (06). -/
def FAB_CFG_G1 : Fld := ⟨0xc0004, 23, 3, .ro, 7, 32⟩
/-- R179 (06). -/
def FAB_CFG_G0 : Fld := ⟨0xc0004, 20, 3, .ro, 7, 32⟩
/-- R179 (06). -/
def FAB_CFG_FRATE : Fld := ⟨0xc0004, 0, 17, .ro, 0, 32⟩
/-- R180 (06). -/
def FAB_SNAP_FROZEN : Fld := ⟨0xc0008, 1, 1, .ro, 0, 0⟩
/-- R180 (06). -/
def FAB_SNAP_FREEZE : Fld := ⟨0xc0008, 0, 1, .rw, 0, 0⟩
/-- R181 (06). -/
def FAB_NAN_INF : Fld := ⟨0xc000c, 16, 16, .rc, 0, 0⟩
/-- R181 (06). -/
def FAB_NAN_NAN : Fld := ⟨0xc000c, 0, 16, .rc, 0, 0⟩
/-- R181 (06). -/
def FAB_FRAME_LO_K : Fld := ⟨0xc0010, 0, 32, .ro, 0, 32⟩
/-- R181 (06). -/
def FAB_FRAME_HI_K : Fld := ⟨0xc0014, 0, 32, .ro, 0, 32⟩
/-- R181 (06). -/
def FAB_HASH_LO_H : Fld := ⟨0xc0018, 0, 32, .ro, 0, 32⟩
/-- R181 (06). -/
def FAB_HASH_HI_H : Fld := ⟨0xc001c, 0, 32, .ro, 0, 32⟩
/-- R181 (06). -/
def FAB_SNAPK_LO_K : Fld := ⟨0xc0020, 0, 32, .ro, 0, 32⟩
/-- R181 (06). -/
def FAB_SNAPK_HI_K : Fld := ⟨0xc0024, 0, 32, .ro, 0, 32⟩
/-- R181 (06). -/
def FAB_FAULTK_LO_K : Fld := ⟨0xc0028, 0, 32, .ro, 0, 32⟩
/-- R181 (06). -/
def FAB_FAULTK_HI_K : Fld := ⟨0xc002c, 0, 32, .ro, 0, 32⟩
/-- R181 (06). -/
def FAB_TILEt_STATIC_CYC (n : Nat) : Fld := ⟨0xc0100 + 8 * n, 0, 18, .ro, 0, 32⟩
/-- R181 (06). -/
def FAB_TILEt_PEAK_CYC (n : Nat) : Fld := ⟨0xc0104 + 8 * n, 0, 18, .ro, 0, 32⟩
/-- R314 (11). -/
def SO_STATUS_RUN : Fld := ⟨0x200000, 31, 1, .ro, 0, 32⟩
/-- R314 (11). -/
def SO_STATUS_INFLIGHT : Fld := ⟨0x200000, 16, 10, .ro, 0, 32⟩
/-- R314 (11). -/
def SO_STATUS_SWUSE : Fld := ⟨0x200000, 0, 9, .ro, 0, 32⟩
/-- R314 (11). -/
def SO_LEDCFG_EN : Fld := ⟨0x200004, 31, 1, .rw, 1, 60⟩
/-- R314 (11). -/
def SO_LEDCFG_STOP : Fld := ⟨0x200004, 30, 1, .rw, 0, 60⟩
/-- R314 (11). -/
def SO_LEDCFG_MASK : Fld := ⟨0x200004, 0, 16, .rw, 0xffff, 60⟩
/-- R314 (11). -/
def SO_LEDSTAT_FULL : Fld := ⟨0x200008, 31, 1, .ro, 0, 60⟩
/-- R314 (11). -/
def SO_LEDSTAT_WRAPPED : Fld := ⟨0x200008, 30, 1, .ro, 0, 60⟩
/-- R314 (11). -/
def SO_LEDSTAT_LOST : Fld := ⟨0x200008, 0, 16, .rc, 0, 60⟩
/-- R314 (11). -/
def SO_LEDPTR_NEXT : Fld := ⟨0x20000c, 0, 16, .ro, 0, 60⟩
/-- R314 (11). -/
def SO_DROP_HW : Fld := ⟨0x200010, 16, 16, .rc, 0, 0⟩
/-- R314 (11). -/
def SO_DROP_DL : Fld := ⟨0x200010, 0, 16, .rc, 0, 0⟩
/-- R314 (11). -/
def SO_POST_OP (r : Nat) : Fld := ⟨0x200040 + bankBase r, 30, 2, .wo, 0, 0⟩
/-- R314 (11). -/
def SO_POST_TRAY (r : Nat) : Fld := ⟨0x200040 + bankBase r, 28, 2, .wo, 0, 0⟩
/-- R314 (11). -/
def SO_RESULT_CODE (r : Nat) : Fld := ⟨0x200044 + bankBase r, 16, 8, .ro, 0, 32⟩
/-- R314 (11). -/
def SO_RESULT_ID (r : Nat) : Fld := ⟨0x200044 + bankBase r, 0, 16, .ro, 0, 32⟩
/-- R314 (11). -/
def SO_TRAY_LO_FRAC (r : Nat) : Fld := ⟨0x200048 + bankBase r, 0, 32, .wo, 0, 0⟩
/-- R314 (11). -/
def SO_TRAY_HI_SEC (r : Nat) : Fld := ⟨0x20004c + bankBase r, 0, 32, .wo, 0, 0⟩
/-- R314 (11). -/
def SO_CANCEL_KIND (r : Nat) : Fld := ⟨0x200050 + bankBase r, 30, 2, .wo, 0, 0⟩
/-- R314 (11). -/
def SO_CANCEL_ID (r : Nat) : Fld := ⟨0x200050 + bankBase r, 0, 16, .wo, 0, 0⟩
/-- R314 (11). -/
def SO_CANRES_RES (r : Nat) : Fld := ⟨0x200054 + bankBase r, 0, 2, .ro, 0, 32⟩
/-- R314 (11). -/
def SO_CUR_BUSY (r : Nat) : Fld := ⟨0x200060 + bankBase r, 31, 1, .ro, 0, 32⟩
/-- R314 (11). -/
def SO_CUR_ID (r : Nat) : Fld := ⟨0x200060 + bankBase r, 0, 16, .ro, 0, 32⟩
/-- R314 (11). -/
def SO_DONE_DONE (r : Nat) : Fld := ⟨0x200064 + bankBase r, 0, 1, .wo, 0, 0⟩
/-- R314 (11). -/
def SO_COREc_BUSY (n : Nat) : Fld := ⟨0x200080 + 4 * n, 31, 1, .ro, 0, 32⟩
/-- R314 (11). -/
def SO_COREc_NOFLOW (n : Nat) : Fld := ⟨0x200080 + 4 * n, 26, 1, .ro, 1, 32⟩
/-- R314 (11). -/
def SO_COREc_FLOW (n : Nat) : Fld := ⟨0x200080 + 4 * n, 16, 10, .ro, 0, 32⟩
/-- R314 (11). -/
def SO_COREc_ID (n : Nat) : Fld := ⟨0x200080 + 4 * n, 0, 16, .ro, 0, 32⟩
/-- R314 (11). -/
def SO_PHp_PRIO (n : Nat) : Fld := ⟨0x200100 + 4 * n, 29, 3, .ro, 0, 32⟩
/-- R314 (11). -/
def SO_PHp_CORES (n : Nat) : Fld := ⟨0x200100 + 4 * n, 20, 8, .ro, 0xff, 32⟩
/-- R314 (11). -/
def SO_PHp_LIMIT (n : Nat) : Fld := ⟨0x200100 + 4 * n, 10, 10, .ro, 0x10, 32⟩
/-- R314 (11). -/
def SO_PHp_COUNT (n : Nat) : Fld := ⟨0x200100 + 4 * n, 0, 10, .ro, 0, 32⟩
/-- R314 (11). -/
def SO_TRAYt_COUNT (n : Nat) : Fld := ⟨0x200180 + 4 * n, 0, 11, .ro, 0, 32⟩
/-- R343 (12). -/
def CAP_STATUS_ARMED : Fld := ⟨0x300000, 8, 8, .ro, 0, 32⟩
/-- R343 (12). -/
def CAP_STATUS_DONE : Fld := ⟨0x300000, 0, 8, .ro, 0, 32⟩
/-- R343 (12). -/
def CAP_FRCFG_HOLD : Fld := ⟨0x300004, 31, 1, .rw, 0, 60⟩
/-- R343 (12). -/
def CAP_FRCFG_AUTOHOLD : Fld := ⟨0x300004, 26, 5, .rw, 0, 60⟩
/-- R343 (12). -/
def CAP_FRCFG_EXT : Fld := ⟨0x300004, 19, 5, .rw, 0, 60⟩
/-- R343 (12). -/
def CAP_FRCFG_CKPLOG : Fld := ⟨0x300004, 16, 3, .rw, 2, 60⟩
/-- R343 (12). -/
def CAP_FRCFG_POSTFR : Fld := ⟨0x300004, 0, 16, .rw, 0, 60⟩
/-- R343 (12). -/
def CAP_FRSTAT_REC : Fld := ⟨0x300008, 31, 1, .ro, 0, 32⟩
/-- R343 (12). -/
def CAP_FRSTAT_HCAUSE : Fld := ⟨0x300008, 24, 5, .ro, 0, 60⟩
/-- R343 (12). -/
def CAP_FRSTAT_GAPS : Fld := ⟨0x300008, 0, 16, .rc, 0, 60⟩
/-- R343 (12). -/
def CAP_FRPTR_OFS : Fld := ⟨0x30000c, 0, 25, .rw, 0, 0⟩
/-- R343 (12). -/
def CAP_FRDATA_LO_D : Fld := ⟨0x300010, 0, 32, .rw, 0, 0⟩
/-- R343 (12). -/
def CAP_FRDATA_HI_D : Fld := ⟨0x300014, 0, 32, .rw, 0, 0⟩
/-- R343 (12). -/
def CAP_FROLDK_LO_K : Fld := ⟨0x300018, 0, 32, .ro, 0, 60⟩
/-- R343 (12). -/
def CAP_FROLDK_HI_K : Fld := ⟨0x30001c, 0, 32, .ro, 0, 60⟩
/-- R343 (12). -/
def CAP_FRNEWK_LO_K : Fld := ⟨0x300020, 0, 32, .ro, 0, 60⟩
/-- R343 (12). -/
def CAP_FRNEWK_HI_K : Fld := ⟨0x300024, 0, 32, .ro, 0, 60⟩
/-- R343 (12). -/
def CAP_RPCFG_POST : Fld := ⟨0x300040, 31, 1, .rw, 0, 32⟩
/-- R343 (12). -/
def CAP_RPCFG_STOPDIV : Fld := ⟨0x300040, 30, 1, .rw, 1, 32⟩
/-- R343 (12). -/
def CAP_RPCFG_PH : Fld := ⟨0x300040, 24, 5, .rw, 0, 32⟩
/-- R343 (12). -/
def CAP_RPCFG_NOFLOW : Fld := ⟨0x300040, 10, 1, .rw, 1, 32⟩
/-- R343 (12). -/
def CAP_RPCFG_FLOW : Fld := ⟨0x300040, 0, 10, .rw, 0, 32⟩
/-- R343 (12). -/
def CAP_RPSTAT_STATE : Fld := ⟨0x300044, 30, 2, .ro, 0, 32⟩
/-- R343 (12). -/
def CAP_RPSTAT_REASON : Fld := ⟨0x300044, 24, 4, .ro, 0, 32⟩
/-- R343 (12). -/
def CAP_RPSTAT_SKIPS : Fld := ⟨0x300044, 0, 16, .ro, 0, 32⟩
/-- R343 (12). -/
def CAP_RPDIV_SLOT : Fld := ⟨0x300048, 16, 11, .ro, 0x7ff, 32⟩
/-- R343 (12). -/
def CAP_RPDIV_NDIV : Fld := ⟨0x300048, 0, 16, .ro, 0, 32⟩
/-- R343 (12). -/
def CAP_RPSTART_LO_W : Fld := ⟨0x300050, 0, 32, .rw, 0, 32⟩
/-- R343 (12). -/
def CAP_RPSTART_HI_W : Fld := ⟨0x300054, 0, 32, .rw, 0, 32⟩
/-- R343 (12). -/
def CAP_RPEND_LO_W : Fld := ⟨0x300058, 0, 32, .rw, 0, 32⟩
/-- R343 (12). -/
def CAP_RPEND_HI_W : Fld := ⟨0x30005c, 0, 32, .rw, 0, 32⟩
/-- R343 (12). -/
def CAP_RPK_LO_W : Fld := ⟨0x300060, 0, 32, .ro, 0, 32⟩
/-- R343 (12). -/
def CAP_RPK_HI_W : Fld := ⟨0x300064, 0, 32, .ro, 0, 32⟩
/-- R343 (12). -/
def CAP_RPREC_LO_W : Fld := ⟨0x300068, 0, 32, .ro, 0, 32⟩
/-- R343 (12). -/
def CAP_RPREC_HI_W : Fld := ⟨0x30006c, 0, 32, .ro, 0, 32⟩
/-- R343 (12). -/
def CAP_RPCALC_LO_W : Fld := ⟨0x300070, 0, 32, .ro, 0, 32⟩
/-- R343 (12). -/
def CAP_RPCALC_HI_W : Fld := ⟨0x300074, 0, 32, .ro, 0, 32⟩
/-- R343 (12). -/
def CAP_WINw_CFG_CLK (n : Nat) : Fld := ⟨0x300100 + 128 * n, 24, 8, .rw, 0, 60⟩
/-- R343 (12). -/
def CAP_WINw_CFG_CLKK (n : Nat) : Fld := ⟨0x300100 + 128 * n, 23, 1, .rw, 0, 60⟩
/-- R343 (12). -/
def CAP_WINw_CFG_AUTO (n : Nat) : Fld := ⟨0x300100 + 128 * n, 22, 1, .rw, 0, 60⟩
/-- R343 (12). -/
def CAP_WINw_CFG_WRAP (n : Nat) : Fld := ⟨0x300100 + 128 * n, 21, 1, .rw, 0, 60⟩
/-- R343 (12). -/
def CAP_WINw_CFG_NSEGLOG (n : Nat) : Fld := ⟨0x300100 + 128 * n, 18, 3, .rw, 0, 60⟩
/-- R343 (12). -/
def CAP_WINw_CFG_NSRC (n : Nat) : Fld := ⟨0x300100 + 128 * n, 0, 5, .rw, 0, 60⟩
/-- R343 (12). -/
def CAP_WINw_MEM_SIZE (n : Nat) : Fld := ⟨0x300104 + 128 * n, 16, 10, .rw, 0, 60⟩
/-- R343 (12). -/
def CAP_WINw_MEM_BASE (n : Nat) : Fld := ⟨0x300104 + 128 * n, 0, 9, .rw, 0, 60⟩
/-- R343 (12). -/
def CAP_WINw_PRE_N (n : Nat) : Fld := ⟨0x300108 + 128 * n, 0, 24, .rw, 0, 60⟩
/-- R343 (12). -/
def CAP_WINw_POST_N (n : Nat) : Fld := ⟨0x30010c + 128 * n, 0, 24, .rw, 0, 60⟩
/-- R343 (12). -/
def CAP_WINw_TRIG_TKIND (n : Nat) : Fld := ⟨0x300110 + 128 * n, 28, 4, .rw, 0, 60⟩
/-- R343 (12). -/
def CAP_WINw_TRIG_COND (n : Nat) : Fld := ⟨0x300110 + 128 * n, 24, 2, .rw, 0, 60⟩
/-- R343 (12). -/
def CAP_WINw_TRIG_MASK (n : Nat) : Fld := ⟨0x300110 + 128 * n, 16, 8, .rw, 0, 60⟩
/-- R343 (12). -/
def CAP_WINw_TRIG_TID (n : Nat) : Fld := ⟨0x300110 + 128 * n, 0, 16, .rw, 0, 60⟩
/-- R343 (12). -/
def CAP_WINw_THR_THR (n : Nat) : Fld := ⟨0x300114 + 128 * n, 0, 32, .rw, 0, 60⟩
/-- R343 (12). -/
def CAP_WINw_CTRL_OP (n : Nat) : Fld := ⟨0x300118 + 128 * n, 0, 2, .wo, 0, 0⟩
/-- R343 (12). -/
def CAP_WINw_STAT_STATE (n : Nat) : Fld := ⟨0x30011c + 128 * n, 29, 3, .ro, 0, 0⟩
/-- R343 (12). -/
def CAP_WINw_STAT_ARMERR (n : Nat) : Fld := ⟨0x30011c + 128 * n, 24, 5, .ro, 0, 0⟩
/-- R343 (12). -/
def CAP_WINw_STAT_SEG (n : Nat) : Fld := ⟨0x30011c + 128 * n, 16, 4, .ro, 0, 0⟩
/-- R343 (12). -/
def CAP_WINw_STAT_NDONE (n : Nat) : Fld := ⟨0x30011c + 128 * n, 0, 16, .ro, 0, 0⟩
/-- R343 (12). -/
def CAP_WINw_MISS_COUNT (n : Nat) : Fld := ⟨0x300120 + 128 * n, 16, 16, .rc, 0, 0⟩
/-- R343 (12). -/
def CAP_WINw_MISS_NEXT (n : Nat) : Fld := ⟨0x300120 + 128 * n, 0, 4, .ro, 0, 0⟩
/-- R343 (12). -/
def CAP_WINw_SRCn_SRC (n : Nat) (m : Nat) : Fld := ⟨0x300140 + 128 * n + 4 * m, 0, 32, .rw, 0, 60⟩
/-- R401 (14). -/
def SAF_STATUS_PERMIT : Fld := ⟨0x400000, 31, 1, .ro, 0, 0⟩
/-- R401 (14). -/
def SAF_STATUS_ISTO : Fld := ⟨0x400000, 30, 1, .ro, 0, 0⟩
/-- R401 (14). -/
def SAF_STATUS_STOA : Fld := ⟨0x400000, 29, 1, .ro, 0, 0⟩
/-- R401 (14). -/
def SAF_STATUS_STOB : Fld := ⟨0x400000, 28, 1, .ro, 0, 0⟩
/-- R401 (14). -/
def SAF_STATUS_FSEL : Fld := ⟨0x400000, 27, 1, .ro, 0, 0⟩
/-- R401 (14). -/
def SAF_STATUS_DEMAND : Fld := ⟨0x400000, 16, 8, .ro, 0, 0⟩
/-- R401 (14). -/
def SAF_STATUS_RFOFF : Fld := ⟨0x400000, 0, 16, .ro, 0, 0⟩
/-- R401 (14). -/
def SAF_LOCK_FIRST : Fld := ⟨0x400004, 24, 8, .ro, 0, 127⟩
/-- R401 (14). -/
def SAF_LOCK_INDEX : Fld := ⟨0x400004, 16, 8, .ro, 0, 127⟩
/-- R401 (14). -/
def SAF_LOCK_NCAUSE : Fld := ⟨0x400004, 8, 8, .ro, 0, 127⟩
/-- R401 (14). -/
def SAF_LOCK_OPEN : Fld := ⟨0x400004, 0, 8, .ro, 0, 127⟩
/-- R401 (14). -/
def SAF_IN_DISCREP : Fld := ⟨0x400008, 16, 8, .ro, 0, 0⟩
/-- R401 (14). -/
def SAF_IN_LEVEL : Fld := ⟨0x400008, 0, 16, .ro, 0, 0⟩
/-- R401 (14). -/
def SAF_OUT_TPACT : Fld := ⟨0x40000c, 24, 4, .ro, 0, 0⟩
/-- R401 (14). -/
def SAF_OUT_RB : Fld := ⟨0x40000c, 8, 8, .ro, 0, 0⟩
/-- R401 (14). -/
def SAF_OUT_CMD : Fld := ⟨0x40000c, 0, 8, .ro, 0, 0⟩
/-- R401 (14). -/
def SAF_FB_MISMATCH : Fld := ⟨0x400010, 8, 8, .w1c, 0, 32⟩
/-- R401 (14). -/
def SAF_FB_LEVEL : Fld := ⟨0x400010, 0, 8, .ro, 0, 0⟩
/-- R401 (14). -/
def SAF_LRST_PRESSED : Fld := ⟨0x400014, 31, 1, .ro, 0, 0⟩
/-- R401 (14). -/
def SAF_LRST_STUCK : Fld := ⟨0x400014, 30, 1, .w1c, 0, 32⟩
/-- R401 (14). -/
def SAF_LRST_SHORT : Fld := ⟨0x400014, 29, 1, .w1c, 0, 32⟩
/-- R401 (14). -/
def SAF_LRST_LAST : Fld := ⟨0x400014, 0, 16, .ro, 0, 32⟩
/-- R401 (14). -/
def SAF_PLUG_STATE : Fld := ⟨0x400018, 30, 2, .ro, 0, 0⟩
/-- R401 (14). -/
def SAF_PLUG_LOCKCMD : Fld := ⟨0x400018, 29, 1, .ro, 0, 0⟩
/-- R401 (14). -/
def SAF_PLUG_LOCKFB : Fld := ⟨0x400018, 28, 1, .ro, 0, 0⟩
/-- R401 (14). -/
def SAF_PLUG_CODE : Fld := ⟨0x400018, 0, 24, .ro, 0, 0⟩
/-- R401 (14). -/
def SAF_ISO_VALID : Fld := ⟨0x40001c, 31, 1, .ro, 0, 0⟩
/-- R401 (14). -/
def SAF_ISO_WARN : Fld := ⟨0x40001c, 30, 1, .w1c, 0, 32⟩
/-- R401 (14). -/
def SAF_ISO_FAULT : Fld := ⟨0x40001c, 29, 1, .ro, 0, 0⟩
/-- R401 (14). -/
def SAF_ISO_R_ISO : Fld := ⟨0x40001c, 0, 20, .ro, 0, 0⟩
/-- R401 (14). -/
def SAF_TPRES_DISCARD : Fld := ⟨0x400020, 8, 8, .w1c, 0, 32⟩
/-- R401 (14). -/
def SAF_TPRES_PASS : Fld := ⟨0x400020, 0, 8, .ro, 0, 32⟩
/-- R401 (14). -/
def SAF_CNT_TPDONE : Fld := ⟨0x400024, 16, 16, .rc, 0, 0⟩
/-- R401 (14). -/
def SAF_CNT_DEMANDS : Fld := ⟨0x400024, 0, 16, .rc, 0, 0⟩
/-- R401 (14). -/
def SAF_TPREQ_CH : Fld := ⟨0x400028, 0, 8, .wo, 0, 0⟩
/-- R401 (14). -/
def SAF_RFj_STAT_DEFINED (n : Nat) : Fld := ⟨0x400100 + 8 * n, 31, 1, .ro, 0, 32⟩
/-- R401 (14). -/
def SAF_RFj_STAT_FRESH (n : Nat) : Fld := ⟨0x400100 + 8 * n, 30, 1, .ro, 0, 0⟩
/-- R401 (14). -/
def SAF_RFj_STAT_PERMIT (n : Nat) : Fld := ⟨0x400100 + 8 * n, 29, 1, .ro, 0, 0⟩
/-- R401 (14). -/
def SAF_RFj_STAT_DIR (n : Nat) : Fld := ⟨0x400100 + 8 * n, 28, 1, .ro, 0, 32⟩
/-- R401 (14). -/
def SAF_RFj_STAT_SEQ (n : Nat) : Fld := ⟨0x400100 + 8 * n, 0, 16, .ro, 0, 0⟩
/-- R401 (14). -/
def SAF_RFj_CNT_CRCC (n : Nat) : Fld := ⟨0x400104 + 8 * n, 24, 8, .rc, 0, 0⟩
/-- R401 (14). -/
def SAF_RFj_CNT_CRCK (n : Nat) : Fld := ⟨0x400104 + 8 * n, 16, 8, .rc, 0, 0⟩
/-- R401 (14). -/
def SAF_RFj_CNT_SEQ (n : Nat) : Fld := ⟨0x400104 + 8 * n, 8, 8, .rc, 0, 0⟩
/-- R401 (14). -/
def SAF_RFj_CNT_TIME (n : Nat) : Fld := ⟨0x400104 + 8 * n, 0, 8, .rc, 0, 0⟩
/-- R425 (15). -/
def SEC_STATUS_ENROLLED : Fld := ⟨0x500000, 31, 1, .ro, 0, 127⟩
/-- R425 (15). -/
def SEC_STATUS_DXK : Fld := ⟨0x500000, 30, 1, .ro, 0, 127⟩
/-- R425 (15). -/
def SEC_STATUS_RNGFAIL : Fld := ⟨0x500000, 29, 1, .ro, 0, 32⟩
/-- R425 (15). -/
def SEC_STATUS_LOGFULL : Fld := ⟨0x500000, 28, 1, .ro, 0, 32⟩
/-- R425 (15). -/
def SEC_STATUS_REVOKED0 : Fld := ⟨0x500000, 27, 1, .ro, 0, 127⟩
/-- R425 (15). -/
def SEC_STATUS_LOGN : Fld := ⟨0x500000, 16, 7, .ro, 0, 32⟩
/-- R425 (15). -/
def SEC_CTRL_OP : Fld := ⟨0x500004, 28, 4, .wo, 0, 0⟩
/-- R425 (15). -/
def SEC_CTRL_SESSION : Fld := ⟨0x500004, 0, 9, .wo, 0, 0⟩
/-- R425 (15). -/
def SEC_RESULT_BUSY : Fld := ⟨0x500008, 31, 1, .ro, 0, 0⟩
/-- R425 (15). -/
def SEC_RESULT_CODE : Fld := ⟨0x500008, 0, 8, .ro, 0, 32⟩
/-- R425 (15). -/
def SEC_RNG_R : Fld := ⟨0x50000c, 0, 32, .ro, 0, 0⟩
/-- R425 (15). -/
def SEC_CNT_TAGFAIL : Fld := ⟨0x500010, 16, 16, .rc, 0, 0⟩
/-- R425 (15). -/
def SEC_CNT_REPLAY : Fld := ⟨0x500010, 0, 16, .rc, 0, 0⟩
/-- R425 (15). -/
def SEC_SESS_OPEN : Fld := ⟨0x500014, 0, 9, .ro, 0, 32⟩
/-- R425 (15). -/
def SEC_SESSCFG_LIFE : Fld := ⟨0x500018, 0, 5, .rw, 0x18, 120⟩
/-- R425 (15). -/
def SEC_ENR_DATA_WORD : Fld := ⟨0x50001c, 0, 32, .wo, 0, 0⟩
/-- R425 (15). -/
def SEC_ENR_PTR_OFS : Fld := ⟨0x500020, 0, 13, .ro, 0, 0⟩
/-- R425 (15). -/
def SEC_FW_CTRL_OP : Fld := ⟨0x500040, 28, 4, .wo, 0, 0⟩
/-- R425 (15). -/
def SEC_FW_CTRL_SLOT : Fld := ⟨0x500040, 0, 1, .wo, 0, 0⟩
/-- R425 (15). -/
def SEC_FW_DATA_WORD : Fld := ⟨0x500044, 0, 32, .wo, 0, 0⟩
/-- R425 (15). -/
def SEC_FW_PTR_OFS : Fld := ⟨0x500048, 0, 22, .ro, 0, 0⟩
/-- R425 (15). -/
def SEC_FW_STATUS_BUSY : Fld := ⟨0x50004c, 31, 1, .ro, 0, 0⟩
/-- R425 (15). -/
def SEC_FW_STATUS_CODE : Fld := ⟨0x50004c, 16, 8, .ro, 0, 32⟩
/-- R425 (15). -/
def SEC_FW_STATUS_BOOTFALL : Fld := ⟨0x50004c, 10, 1, .ro, 0, 32⟩
/-- R425 (15). -/
def SEC_FW_STATUS_RUN : Fld := ⟨0x50004c, 9, 1, .ro, 0, 32⟩
/-- R425 (15). -/
def SEC_FW_STATUS_MARK : Fld := ⟨0x50004c, 8, 1, .ro, 0, 127⟩
/-- R425 (15). -/
def SEC_FW_STATUS_STATE : Fld := ⟨0x50004c, 0, 4, .ro, 0, 127⟩
/-- R199 (07). -/
def SEC_IMG_CTRL_OP : Fld := ⟨0x500800, 28, 4, .wo, 0, 0⟩
/-- R199 (07). -/
def SEC_IMG_CTRL_SLOT : Fld := ⟨0x500800, 0, 2, .wo, 0, 0⟩
/-- R199 (07). -/
def SEC_IMG_DATA_WORD : Fld := ⟨0x500804, 0, 32, .wo, 0, 0⟩
/-- R199 (07). -/
def SEC_IMG_PTR_OFS : Fld := ⟨0x500808, 0, 21, .ro, 0, 0⟩
/-- R199 (07). -/
def SEC_IMG_STATUS_BUSY : Fld := ⟨0x50080c, 31, 1, .ro, 0, 0⟩
/-- R199 (07). -/
def SEC_IMG_STATUS_CODE : Fld := ⟨0x50080c, 24, 7, .ro, 0, 0⟩
/-- R199 (07). -/
def SEC_IMG_STATUS_ACT_SLOT : Fld := ⟨0x50080c, 18, 2, .ro, 0, 127⟩
/-- R199 (07). -/
def SEC_IMG_STATUS_ACT_MARK : Fld := ⟨0x50080c, 17, 1, .ro, 0, 127⟩
/-- R199 (07). -/
def SEC_IMG_STATUS_STATE : Fld := ⟨0x50080c, 0, 8, .ro, 0, 127⟩
/-- R199 (07). -/
def SEC_IMG_WHERE_SECT : Fld := ⟨0x500810, 16, 8, .ro, 0, 0⟩
/-- R199 (07). -/
def SEC_IMG_WHERE_REC : Fld := ⟨0x500810, 0, 16, .ro, 0, 0⟩
/-- R425 (15). -/
def SEC_FW_VERs_VER (n : Nat) : Fld := ⟨0x500050 + 4 * n, 0, 32, .ro, 0, 127⟩
/-- R425 (15). -/
def SEC_FRANK_CTRL_REQ (r : Nat) : Fld := ⟨0x500060 + bankBase r, 0, 1, .wo, 0, 0⟩
/-- R425 (15). -/
def SEC_FRANK_STATUS_BUSY (r : Nat) : Fld := ⟨0x500064 + bankBase r, 31, 1, .ro, 0, 0⟩
/-- R425 (15). -/
def SEC_FRANK_STATUS_DONE (r : Nat) : Fld := ⟨0x500064 + bankBase r, 30, 1, .ro, 0, 32⟩
/-- R425 (15). -/
def SEC_FRANK_STATUS_CODE (r : Nat) : Fld := ⟨0x500064 + bankBase r, 16, 8, .ro, 0, 32⟩
/-- R425 (15). -/
def SEC_FRANK_STATUS_QUEUE (r : Nat) : Fld := ⟨0x500064 + bankBase r, 0, 4, .ro, 0, 0⟩
/-- R425 (15). -/
def SEC_FRANK_NONCEn_N (n : Nat) (r : Nat) : Fld := ⟨0x500080 + 4 * n + bankBase r, 0, 32, .rw, 0, 0⟩
/-- R425 (15). -/
def SEC_EXT_Dn_D (n : Nat) : Fld := ⟨0x5000c0 + 4 * n, 0, 32, .wo, 0, 0⟩
/-- R425 (15). -/
def SEC_RBi_COUNT (n : Nat) : Fld := ⟨0x500100 + 4 * n, 0, 32, .ro, 0, 127⟩
/-- R199 (07). -/
def SEC_IMG_VERs_VER (n : Nat) : Fld := ⟨0x500820 + 4 * n, 0, 32, .ro, 0, 127⟩
/-- R199 (07). -/
def SEC_IMG_IDs_ID (n : Nat) : Fld := ⟨0x500830 + 4 * n, 0, 32, .ro, 0, 127⟩
/-- R448 (16). -/
def LK_STATUS_PCIE_UP : Fld := ⟨0x600000, 31, 1, .ro, 0, 0⟩
/-- R448 (16). -/
def LK_STATUS_GEN : Fld := ⟨0x600000, 28, 2, .ro, 0, 0⟩
/-- R448 (16). -/
def LK_STATUS_WIDTH : Fld := ⟨0x600000, 26, 2, .ro, 0, 0⟩
/-- R448 (16). -/
def LK_STATUS_TWIN_UP : Fld := ⟨0x600000, 4, 1, .ro, 0, 0⟩
/-- R448 (16). -/
def LK_STATUS_CAN_ON : Fld := ⟨0x600000, 0, 4, .ro, 0, 0⟩
/-- R448 (16). -/
def LK_HIRQ_CAUSE : Fld := ⟨0x600004, 0, 14, .w1c, 0, 32⟩
/-- R448 (16). -/
def LK_HIRQ_EN_EN : Fld := ⟨0x600008, 0, 14, .rw, 0, 56⟩
/-- R448 (16). -/
def LK_CFG_REDUN : Fld := ⟨0x60000c, 31, 1, .rw, 0, 56⟩
/-- R448 (16). -/
def LK_CFG_PREF : Fld := ⟨0x60000c, 30, 1, .rw, 0, 56⟩
/-- R448 (16). -/
def LK_CFG_SPH : Fld := ⟨0x60000c, 24, 5, .rw, 2, 56⟩
/-- R448 (16). -/
def LK_CFG_NOFLOW : Fld := ⟨0x60000c, 10, 1, .rw, 1, 56⟩
/-- R448 (16). -/
def LK_CFG_SFLOW : Fld := ⟨0x60000c, 0, 10, .rw, 0, 56⟩
/-- R448 (16). -/
def LK_PTP_CFG_SLAVEONLY : Fld := ⟨0x600100, 31, 1, .rw, 1, 120⟩
/-- R448 (16). -/
def LK_PTP_CFG_DOMAIN : Fld := ⟨0x600100, 24, 7, .rw, 0, 120⟩
/-- R448 (16). -/
def LK_PTP_CFG_CLASS : Fld := ⟨0x600100, 16, 8, .rw, 0xf8, 120⟩
/-- R448 (16). -/
def LK_PTP_CFG_PRIO1 : Fld := ⟨0x600100, 8, 8, .rw, 0x80, 120⟩
/-- R448 (16). -/
def LK_PTP_CFG_PRIO2 : Fld := ⟨0x600100, 0, 8, .rw, 0x80, 120⟩
/-- R448 (16). -/
def LK_TWIN_STAT_BLOCK : Fld := ⟨0x600200, 31, 1, .ro, 0, 0⟩
/-- R448 (16). -/
def LK_TWIN_STAT_SESSION : Fld := ⟨0x600200, 30, 1, .ro, 0, 0⟩
/-- R448 (16). -/
def LK_TWIN_STAT_DELAY : Fld := ⟨0x600200, 0, 16, .ro, 0, 0⟩
/-- R448 (16). -/
def LK_TWIN_CNT_TAGFAIL : Fld := ⟨0x600204, 16, 16, .rc, 0, 0⟩
/-- R448 (16). -/
def LK_TWIN_CNT_LATE : Fld := ⟨0x600204, 0, 16, .rc, 0, 0⟩
/-- R448 (16). -/
def LK_SPn_CFG_EN (n : Nat) : Fld := ⟨0x600010 + 64 * n, 31, 1, .rw, 1, 120⟩
/-- R448 (16). -/
def LK_SPn_CFG_RATE (n : Nat) : Fld := ⟨0x600010 + 64 * n, 29, 2, .rw, 3, 120⟩
/-- R448 (16). -/
def LK_SPn_CFG_JUMBO (n : Nat) : Fld := ⟨0x600010 + 64 * n, 28, 1, .rw, 0, 120⟩
/-- R448 (16). -/
def LK_SPn_CFG_CLF (n : Nat) : Fld := ⟨0x600010 + 64 * n, 27, 1, .rw, 0, 120⟩
/-- R448 (16). -/
def LK_SPn_CFG_PTPROLE (n : Nat) : Fld := ⟨0x600010 + 64 * n, 24, 2, .rw, 1, 120⟩
/-- R448 (16). -/
def LK_SPn_CFG_DELAYM (n : Nat) : Fld := ⟨0x600010 + 64 * n, 23, 1, .rw, 0, 120⟩
/-- R448 (16). -/
def LK_SPn_CFG_ONESTEP (n : Nat) : Fld := ⟨0x600010 + 64 * n, 22, 1, .rw, 0, 120⟩
/-- R448 (16). -/
def LK_SPn_CFG_LOGSYNC (n : Nat) : Fld := ⟨0x600010 + 64 * n, 8, 4, .rw, 0xd, 120⟩
/-- R448 (16). -/
def LK_SPn_STAT_UP (n : Nat) : Fld := ⟨0x600014 + 64 * n, 31, 1, .ro, 0, 0⟩
/-- R448 (16). -/
def LK_SPn_STAT_RATE (n : Nat) : Fld := ⟨0x600014 + 64 * n, 29, 2, .ro, 0, 0⟩
/-- R448 (16). -/
def LK_SPn_STAT_PSTATE (n : Nat) : Fld := ⟨0x600014 + 64 * n, 24, 4, .ro, 0, 0⟩
/-- R448 (16). -/
def LK_SPn_VLAN_EN (n : Nat) : Fld := ⟨0x600018 + 64 * n, 16, 1, .rw, 0, 120⟩
/-- R448 (16). -/
def LK_SPn_VLAN_PCP (n : Nat) : Fld := ⟨0x600018 + 64 * n, 13, 3, .rw, 6, 120⟩
/-- R448 (16). -/
def LK_SPn_VLAN_VID (n : Nat) : Fld := ⟨0x600018 + 64 * n, 0, 12, .rw, 0, 120⟩
/-- R448 (16). -/
def LK_SPn_ASYM_ASYM (n : Nat) : Fld := ⟨0x60001c + 64 * n, 0, 16, .rw, 0, 120⟩
/-- R448 (16). -/
def LK_SPn_CNT_RXDROP (n : Nat) : Fld := ⟨0x600020 + 64 * n, 16, 16, .rc, 0, 0⟩
/-- R448 (16). -/
def LK_SPn_CNT_DUP (n : Nat) : Fld := ⟨0x600020 + 64 * n, 0, 16, .rc, 0, 0⟩
/-- R448 (16). -/
def LK_CANc_CFG_EN (n : Nat) : Fld := ⟨0x601000 + 4096 * n, 31, 1, .rw, 0, 56⟩
/-- R448 (16). -/
def LK_CANc_CFG_FD (n : Nat) : Fld := ⟨0x601000 + 4096 * n, 30, 1, .rw, 1, 56⟩
/-- R448 (16). -/
def LK_CANc_CFG_AUTOREC (n : Nat) : Fld := ⟨0x601000 + 4096 * n, 29, 1, .rw, 1, 56⟩
/-- R448 (16). -/
def LK_CANc_CFG_LISTEN (n : Nat) : Fld := ⟨0x601000 + 4096 * n, 28, 1, .rw, 0, 56⟩
/-- R448 (16). -/
def LK_CANc_CFG_TDC (n : Nat) : Fld := ⟨0x601000 + 4096 * n, 27, 1, .rw, 1, 56⟩
/-- R448 (16). -/
def LK_CANc_CFG_TDCO (n : Nat) : Fld := ⟨0x601000 + 4096 * n, 0, 8, .rw, 0xa, 56⟩
/-- R448 (16). -/
def LK_CANc_NBT_BRP (n : Nat) : Fld := ⟨0x601004 + 4096 * n, 26, 6, .rw, 1, 56⟩
/-- R448 (16). -/
def LK_CANc_NBT_TSEG1 (n : Nat) : Fld := ⟨0x601004 + 4096 * n, 16, 10, .rw, 0x5f, 56⟩
/-- R448 (16). -/
def LK_CANc_NBT_TSEG2 (n : Nat) : Fld := ⟨0x601004 + 4096 * n, 8, 8, .rw, 0x18, 56⟩
/-- R448 (16). -/
def LK_CANc_NBT_SJW (n : Nat) : Fld := ⟨0x601004 + 4096 * n, 0, 8, .rw, 0x18, 56⟩
/-- R448 (16). -/
def LK_CANc_DBT_BRP (n : Nat) : Fld := ⟨0x601008 + 4096 * n, 26, 6, .rw, 1, 56⟩
/-- R448 (16). -/
def LK_CANc_DBT_TSEG1 (n : Nat) : Fld := ⟨0x601008 + 4096 * n, 16, 10, .rw, 0x5f, 56⟩
/-- R448 (16). -/
def LK_CANc_DBT_TSEG2 (n : Nat) : Fld := ⟨0x601008 + 4096 * n, 8, 8, .rw, 0x18, 56⟩
/-- R448 (16). -/
def LK_CANc_DBT_SJW (n : Nat) : Fld := ⟨0x601008 + 4096 * n, 0, 8, .rw, 0x18, 56⟩
/-- R448 (16). -/
def LK_CANc_STAT_BUSOFF (n : Nat) : Fld := ⟨0x60100c + 4096 * n, 31, 1, .ro, 0, 0⟩
/-- R448 (16). -/
def LK_CANc_STAT_PASSIVE (n : Nat) : Fld := ⟨0x60100c + 4096 * n, 30, 1, .ro, 0, 0⟩
/-- R448 (16). -/
def LK_CANc_STAT_TEC (n : Nat) : Fld := ⟨0x60100c + 4096 * n, 16, 8, .ro, 0, 0⟩
/-- R448 (16). -/
def LK_CANc_STAT_REC (n : Nat) : Fld := ⟨0x60100c + 4096 * n, 8, 8, .ro, 0, 0⟩
/-- R448 (16). -/
def LK_CANc_STAT_LEC (n : Nat) : Fld := ⟨0x60100c + 4096 * n, 0, 3, .ro, 0, 0⟩
/-- R448 (16). -/
def LK_CANc_TXREQ_REQ (n : Nat) : Fld := ⟨0x601010 + 4096 * n, 0, 16, .wo, 0, 0⟩
/-- R448 (16). -/
def LK_CANc_TXDONE_DONE (n : Nat) : Fld := ⟨0x601014 + 4096 * n, 0, 16, .w1c, 0, 0⟩
/-- R448 (16). -/
def LK_CANc_FLTf_ID_EN (n : Nat) (m : Nat) : Fld := ⟨0x601100 + 4096 * n + 16 * m, 31, 1, .rw, 0, 56⟩
/-- R448 (16). -/
def LK_CANc_FLTf_ID_IDE (n : Nat) (m : Nat) : Fld := ⟨0x601100 + 4096 * n + 16 * m, 30, 1, .rw, 0, 56⟩
/-- R448 (16). -/
def LK_CANc_FLTf_ID_ID (n : Nat) (m : Nat) : Fld := ⟨0x601100 + 4096 * n + 16 * m, 0, 29, .rw, 0, 56⟩
/-- R448 (16). -/
def LK_CANc_FLTf_MASK_MASK (n : Nat) (m : Nat) : Fld := ⟨0x601104 + 4096 * n + 16 * m, 0, 29, .rw, 0x1fffffff, 56⟩
/-- R448 (16). -/
def LK_CANc_FLTf_RT_ACT (n : Nat) (m : Nat) : Fld := ⟨0x601108 + 4096 * n + 16 * m, 30, 2, .rw, 0, 56⟩
/-- R448 (16). -/
def LK_CANc_FLTf_RT_PH (n : Nat) (m : Nat) : Fld := ⟨0x601108 + 4096 * n + 16 * m, 24, 5, .rw, 2, 56⟩
/-- R448 (16). -/
def LK_CANc_FLTf_RT_NOFLOW (n : Nat) (m : Nat) : Fld := ⟨0x601108 + 4096 * n + 16 * m, 10, 1, .rw, 1, 56⟩
/-- R448 (16). -/
def LK_CANc_FLTf_RT_FLOW (n : Nat) (m : Nat) : Fld := ⟨0x601108 + 4096 * n + 16 * m, 0, 10, .rw, 0, 56⟩
/-- R448 (16). -/
def LK_CANc_TXBUFb_W (n : Nat) (m : Nat) : Fld := ⟨0x601600 + 4096 * n + 4 * m, 0, 32, .rw, 0, 56⟩
/-- R486 (18). -/
def HL_STATUS_RUN : Fld := ⟨0x700000, 31, 1, .ro, 0, 0⟩
/-- R486 (18). -/
def HL_STATUS_COUNT_LOST : Fld := ⟨0x700000, 30, 1, .w1c, 0, 127⟩
/-- R486 (18). -/
def HL_STATUS_OVF : Fld := ⟨0x700000, 0, 16, .rc, 0, 0⟩
/-- R486 (18). -/
def HL_CTRL_NOW : Fld := ⟨0x700004, 31, 1, .wo, 0, 0⟩
/-- R486 (18). -/
def HL_CTRL_PERIOD : Fld := ⟨0x700004, 0, 16, .rw, 0x3c, 120⟩
/-- R486 (18). -/
def HL_FLAGS_LO_F : Fld := ⟨0x700008, 0, 32, .ro, 0, 0⟩
/-- R486 (18). -/
def HL_FLAGS_HI_F : Fld := ⟨0x70000c, 0, 32, .ro, 0, 0⟩
/-- R486 (18). -/
def HL_NODE_RL : Fld := ⟨0x700010, 0, 32, .ro, 0xffffffff, 127⟩
/-- R486 (18). -/
def HL_TEMPs_T (n : Nat) : Fld := ⟨0x700020 + 4 * n, 0, 16, .ro, 0, 0⟩
/-- R486 (18). -/
def HL_ROr_DRIFT (n : Nat) : Fld := ⟨0x700040 + 4 * n, 0, 24, .ro, 0, 127⟩
/-- R486 (18). -/
def HL_NVp_MAXW (n : Nat) : Fld := ⟨0x700080 + 4 * n, 0, 32, .ro, 0, 127⟩
/-- R486 (18). -/
def HL_LEGn_D_D (n : Nat) : Fld := ⟨0x7000c0 + 4 * n, 0, 32, .ro, 0, 127⟩
/-- R499 (19). -/
def AXn_CFG_ENCMODE (n : Nat) : Fld := ⟨0x780000 + 4096 * n, 30, 2, .rw, 0, 120⟩
/-- R499 (19). -/
def AXn_CFG_EGRAY (n : Nat) : Fld := ⟨0x780000 + 4096 * n, 29, 1, .rw, 0, 120⟩
/-- R499 (19). -/
def AXn_CFG_ESCLK (n : Nat) : Fld := ⟨0x780000 + 4096 * n, 24, 5, .rw, 0xa, 120⟩
/-- R499 (19). -/
def AXn_CFG_EBITS (n : Nat) : Fld := ⟨0x780000 + 4096 * n, 19, 5, .rw, 0x18, 120⟩
/-- R499 (19). -/
def AXn_CFG_ESSI (n : Nat) : Fld := ⟨0x780000 + 4096 * n, 16, 3, .rw, 2, 120⟩
/-- R499 (19). -/
def AXn_CFG_DIRSU (n : Nat) : Fld := ⟨0x780000 + 4096 * n, 8, 8, .rw, 5, 120⟩
/-- R499 (19). -/
def AXn_CFG_EFILT (n : Nat) : Fld := ⟨0x780000 + 4096 * n, 0, 8, .rw, 2, 120⟩
/-- R499 (19). -/
def AXn_STAT_STATE (n : Nat) : Fld := ⟨0x780004 + 4096 * n, 29, 3, .ro, 0, 0⟩
/-- R499 (19). -/
def AXn_STAT_HOMED (n : Nat) : Fld := ⟨0x780004 + 4096 * n, 28, 1, .ro, 0, 127⟩
/-- R499 (19). -/
def AXn_STAT_REHOME_ADVISED (n : Nat) : Fld := ⟨0x780004 + 4096 * n, 27, 1, .ro, 1, 127⟩
/-- R499 (19). -/
def AXn_STAT_FAULT (n : Nat) : Fld := ⟨0x780004 + 4096 * n, 24, 3, .ro, 0, 0⟩
/-- R499 (19). -/
def AXn_STAT_LIMSTOP (n : Nat) : Fld := ⟨0x780004 + 4096 * n, 23, 1, .w1c, 0, 32⟩
/-- R499 (19). -/
def AXn_STAT_HWLIM (n : Nat) : Fld := ⟨0x780004 + 4096 * n, 22, 1, .w1c, 0, 32⟩
/-- R499 (19). -/
def AXn_STAT_TGTERR (n : Nat) : Fld := ⟨0x780004 + 4096 * n, 21, 1, .w1c, 0, 32⟩
/-- R499 (19). -/
def AXn_STAT_ENCERR (n : Nat) : Fld := ⟨0x780004 + 4096 * n, 20, 1, .w1c, 0, 32⟩
/-- R499 (19). -/
def AXn_STAT_ZSEEN (n : Nat) : Fld := ⟨0x780004 + 4096 * n, 19, 1, .w1c, 0, 32⟩
/-- R499 (19). -/
def AXn_STAT_LVALID (n : Nat) : Fld := ⟨0x780004 + 4096 * n, 18, 1, .w1c, 0, 32⟩
/-- R499 (19). -/
def AXn_STAT_CHATTER (n : Nat) : Fld := ⟨0x780004 + 4096 * n, 0, 16, .rc, 0, 0⟩
/-- R499 (19). -/
def AXn_CTRL_OP (n : Nat) : Fld := ⟨0x780008 + 4096 * n, 0, 3, .wo, 0, 0⟩
/-- R499 (19). -/
def AXn_POS_LO_W (n : Nat) : Fld := ⟨0x780010 + 4096 * n, 0, 32, .ro, 0, 127⟩
/-- R499 (19). -/
def AXn_POS_HI_W (n : Nat) : Fld := ⟨0x780014 + 4096 * n, 0, 32, .ro, 0, 127⟩
/-- R499 (19). -/
def AXn_TGT_LO_W (n : Nat) : Fld := ⟨0x780018 + 4096 * n, 0, 32, .rw, 0, 56⟩
/-- R499 (19). -/
def AXn_TGT_HI_W (n : Nat) : Fld := ⟨0x78001c + 4096 * n, 0, 32, .rw, 0, 56⟩
/-- R499 (19). -/
def AXn_ENC_LO_W (n : Nat) : Fld := ⟨0x780020 + 4096 * n, 0, 32, .ro, 0, 127⟩
/-- R499 (19). -/
def AXn_ENC_HI_W (n : Nat) : Fld := ⟨0x780024 + 4096 * n, 0, 32, .ro, 0, 127⟩
/-- R499 (19). -/
def AXn_SLIMP_LO_W (n : Nat) : Fld := ⟨0x780028 + 4096 * n, 0, 32, .rw, 0xffffffff, 127⟩
/-- R499 (19). -/
def AXn_SLIMP_HI_W (n : Nat) : Fld := ⟨0x78002c + 4096 * n, 0, 32, .rw, 0x7fff, 127⟩
/-- R499 (19). -/
def AXn_SLIMN_LO_W (n : Nat) : Fld := ⟨0x780030 + 4096 * n, 0, 32, .rw, 0, 127⟩
/-- R499 (19). -/
def AXn_SLIMN_HI_W (n : Nat) : Fld := ⟨0x780034 + 4096 * n, 0, 32, .rw, 0xffff8000, 127⟩
/-- R499 (19). -/
def AXn_VMAX_V (n : Nat) : Fld := ⟨0x780038 + 4096 * n, 0, 21, .rw, 0x2710, 127⟩
/-- R499 (19). -/
def AXn_AMAX_A (n : Nat) : Fld := ⟨0x78003c + 4096 * n, 0, 32, .rw, 0x186a0, 127⟩
/-- R499 (19). -/
def AXn_JMAX_J (n : Nat) : Fld := ⟨0x780040 + 4096 * n, 0, 32, .rw, 0xf4240, 127⟩
/-- R499 (19). -/
def AXn_ASTOP_A (n : Nat) : Fld := ⟨0x780044 + 4096 * n, 0, 32, .rw, 0x186a0, 127⟩
/-- R499 (19). -/
def AXn_HOME_METHOD (n : Nat) : Fld := ⟨0x780048 + 4096 * n, 29, 3, .rw, 0, 127⟩
/-- R499 (19). -/
def AXn_HOME_HFILT (n : Nat) : Fld := ⟨0x780048 + 4096 * n, 16, 13, .rw, 0x64, 127⟩
/-- R499 (19). -/
def AXn_HOME_HVEL (n : Nat) : Fld := ⟨0x780048 + 4096 * n, 0, 16, .rw, 0x3e8, 127⟩
/-- R499 (19). -/
def AXn_HOFS_LO_W (n : Nat) : Fld := ⟨0x78004c + 4096 * n, 0, 32, .rw, 0, 127⟩
/-- R499 (19). -/
def AXn_HOFS_HI_W (n : Nat) : Fld := ⟨0x780050 + 4096 * n, 0, 32, .rw, 0, 127⟩
/-- R499 (19). -/
def AXn_LCFG_LSRC (n : Nat) : Fld := ⟨0x780058 + 4096 * n, 30, 2, .rw, 0, 56⟩
/-- R499 (19). -/
def AXn_LCFG_LEDGE (n : Nat) : Fld := ⟨0x780058 + 4096 * n, 28, 2, .rw, 0, 56⟩
/-- R499 (19). -/
def AXn_LCFG_CONFTOL (n : Nat) : Fld := ⟨0x780058 + 4096 * n, 12, 16, .rw, 0x10, 56⟩
/-- R499 (19). -/
def AXn_LCFG_EFERR (n : Nat) : Fld := ⟨0x780058 + 4096 * n, 0, 12, .rw, 0, 56⟩
/-- R499 (19). -/
def AXn_LPOS_LO_W (n : Nat) : Fld := ⟨0x780060 + 4096 * n, 0, 32, .ro, 0, 32⟩
/-- R499 (19). -/
def AXn_LPOS_HI_W (n : Nat) : Fld := ⟨0x780064 + 4096 * n, 0, 32, .ro, 0, 32⟩
/-- R499 (19). -/
def AXn_LENC_LO_W (n : Nat) : Fld := ⟨0x780068 + 4096 * n, 0, 32, .ro, 0, 32⟩
/-- R499 (19). -/
def AXn_LENC_HI_W (n : Nat) : Fld := ⟨0x78006c + 4096 * n, 0, 32, .ro, 0, 32⟩
/-- R499 (19). -/
def AXn_LPM_LO_W (n : Nat) : Fld := ⟨0x780070 + 4096 * n, 0, 32, .ro, 0, 32⟩
/-- R499 (19). -/
def AXn_LPM_HI_W (n : Nat) : Fld := ⟨0x780074 + 4096 * n, 0, 32, .ro, 0, 32⟩
end R

/-- One row of the address map: a register, its repetition (two strides at most) and whether each requester has its own. -/
structure RegRow where
  base : Nat
  stride1 : Nat
  count1 : Nat
  stride2 : Nat
  count2 : Nat
  banked : Bool
  flds : List Fld
deriving DecidableEq, Repr

/-- Registers of the block at 0x00000000 (Table ND-7). -/
def regRows_0_0 (g : Nat) : List RegRow := [
  ⟨0x0, 0, 1, 0, 1, false, [R.NODE_REV_PART, R.NODE_REV_GRADE g, R.NODE_REV_REV]⟩,
  ⟨0x4, 0, 1, 0, 1, false, [R.NODE_IDENT_PROV, R.NODE_IDENT_TWIN, R.NODE_IDENT_CLUSTER, R.NODE_IDENT_NODE]⟩,
  ⟨0x8, 0, 1, 0, 1, false, [R.NODE_PAIR_PAIR_VALID, R.NODE_PAIR_PARTNER, R.NODE_PAIR_PAIR_ID]⟩,
  ⟨0x10, 0, 1, 0, 1, false, [R.NODE_MODE_REFUSE, R.NODE_MODE_ENTRY, R.NODE_MODE_QUIET, R.NODE_MODE_PENDING, R.NODE_MODE_LATCH, R.NODE_MODE_MODE]⟩,
  ⟨0x14, 0, 1, 0, 1, false, [R.NODE_MODE_REQ_PWR, R.NODE_MODE_REQ_VALID, R.NODE_MODE_REQ_MODE]⟩,
  ⟨0x18, 0, 1, 0, 1, false, [R.NODE_TEST_RUNNING, R.NODE_TEST_RESULT, R.NODE_TEST_FAILUNIT, R.NODE_TEST_CAL, R.NODE_TEST_FULL, R.NODE_TEST_LIGHT]⟩,
  ⟨0x20, 0, 1, 0, 1, false, [R.NODE_ADDRERR_COUNT, R.NODE_ADDRERR_REQ, R.NODE_ADDRERR_KIND]⟩,
  ⟨0x24, 0, 1, 0, 1, false, [R.NODE_ADDRERR_ADDR_ADDR]⟩,
  ⟨0x1000, 0, 1, 0, 1, false, [R.NODE_TRIPCFG_FILT]⟩,
  ⟨0x1004, 0, 1, 0, 1, false, [R.NODE_TRIPSTAT_LTOTAL, R.NODE_TRIPSTAT_BLANKED, R.NODE_TRIPSTAT_CLRREF, R.NODE_TRIPSTAT_CMPOUT, R.NODE_TRIPSTAT_ANY]⟩,
  ⟨0x1030, 0, 1, 0, 1, false, [R.NODE_BTRIP_BRIDGE]⟩,
  ⟨0x1034, 0, 1, 0, 1, false, [R.NODE_BTRIP_CLR_BRIDGE]⟩,
  ⟨0x1038, 0, 1, 0, 1, false, [R.NODE_WCMPST_UNDER, R.NODE_WCMPST_OVER]⟩,
  ⟨0x2000, 0, 1, 0, 1, false, [R.NODE_TWIN_CFG_MISMATCH, R.NODE_TWIN_CFG_SILN, R.NODE_TWIN_CFG_EDGEW, R.NODE_TWIN_CFG_TSIL]⟩,
  ⟨0x2004, 0, 1, 0, 1, false, [R.NODE_TWIN_CHK_TEST, R.NODE_TWIN_CHK_STOL]⟩,
  ⟨0x2008, 0, 1, 0, 1, false, [R.NODE_TWIN_CTRL_ALONE, R.NODE_TWIN_CTRL_REJOIN, R.NODE_TWIN_CTRL_HANDOVER]⟩,
  ⟨0x200c, 0, 1, 0, 1, false, [R.NODE_TWIN_STAT_ROLE, R.NODE_TWIN_STAT_LINK, R.NODE_TWIN_STAT_SILENT, R.NODE_TWIN_STAT_DIVERGED, R.NODE_TWIN_STAT_SEQ_END, R.NODE_TWIN_STAT_REFUSE, R.NODE_TWIN_STAT_LINK_DOWN, R.NODE_TWIN_STAT_HASH_MISMATCH, R.NODE_TWIN_STAT_UNEXPLAINED, R.NODE_TWIN_STAT_SENSE_DISAGREE, R.NODE_TWIN_STAT_RB_DISAGREE, R.NODE_TWIN_STAT_TEST_FAIL, R.NODE_TWIN_STAT_TAKEOVER, R.NODE_TWIN_STAT_HELDLOSS]⟩,
  ⟨0x2010, 0, 1, 0, 1, false, [R.NODE_TWIN_CNT_BMISS, R.NODE_TWIN_CNT_MISM, R.NODE_TWIN_CNT_SDCH]⟩,
  ⟨0x2018, 0, 1, 0, 1, false, [R.NODE_TWIN_SEQ_LO_NEXT]⟩,
  ⟨0x201c, 0, 1, 0, 1, false, [R.NODE_TWIN_SEQ_HI_NEXT]⟩,
  ⟨0x2020, 0, 1, 0, 1, false, [R.NODE_TWIN_MISK_LO_K]⟩,
  ⟨0x2024, 0, 1, 0, 1, false, [R.NODE_TWIN_MISK_HI_K]⟩,
  ⟨0x1010, 4, 3, 0, 1, false, [R.NODE_LTRIPm_LEG 0]⟩,
  ⟨0x1020, 4, 3, 0, 1, false, [R.NODE_LTINm_LEG 0]⟩,
  ⟨0x1040, 4, 16, 0, 1, false, [R.NODE_BLANKb_T 0]⟩,
  ⟨0x1080, 4, 16, 0, 1, false, [R.NODE_BCAUSEb_FIRST 0, R.NODE_BCAUSEb_LAST 0, R.NODE_BCAUSEb_NCAUSE 0]⟩,
  ⟨0x10c0, 4, 16, 0, 1, false, [R.NODE_BCNTb_TOTAL 0, R.NODE_BCNTb_WIN 0]⟩,
  ⟨0x1100, 8, 16, 0, 1, false, [R.NODE_WCMPc_CFG_ACT 0, R.NODE_WCMPc_CFG_EN_HI 0, R.NODE_WCMPc_CFG_EN_LO 0, R.NODE_WCMPc_CFG_SRC 0, R.NODE_WCMPc_CFG_CFILT 0, R.NODE_WCMPc_CFG_MASK 0]⟩,
  ⟨0x1104, 8, 16, 0, 1, false, [R.NODE_WCMPc_THR_HYST 0, R.NODE_WCMPc_THR_HI 0, R.NODE_WCMPc_THR_LO 0]⟩]

/-- Registers of the block at 0x00010000 (Table ND-7). -/
def regRows_1_0 : List RegRow := [
  ⟨0x10000, 0, 1, 0, 1, false, [R.POST_NOW_LO_FRAC]⟩,
  ⟨0x10004, 0, 1, 0, 1, false, [R.POST_NOW_HI_SEC]⟩,
  ⟨0x10008, 0, 1, 0, 1, false, [R.POST_STATUS_CHANGED, R.POST_STATUS_STEPPED, R.POST_STATUS_SRC_ACT, R.POST_STATUS_COARSE, R.POST_STATUS_STATE]⟩,
  ⟨0x1000c, 0, 1, 0, 1, false, [R.POST_CTRL_SLEW, R.POST_CTRL_PRIO, R.POST_CTRL_PPS_EDGE, R.POST_CTRL_EN_TWIN, R.POST_CTRL_EN_PPS, R.POST_CTRL_EN_PTP1, R.POST_CTRL_EN_PTP0]⟩,
  ⟨0x10010, 0, 1, 0, 1, false, [R.POST_HOLD_FU, R.POST_HOLD_POOR_US, R.POST_HOLD_GOOD_NS]⟩,
  ⟨0x10014, 0, 1, 0, 1, false, [R.POST_ERRB_ERR_NS]⟩,
  ⟨0x10018, 0, 1, 0, 1, false, [R.POST_OFFSET_OFS_NS]⟩,
  ⟨0x1001c, 0, 1, 0, 1, false, [R.POST_TRIM_TRIM]⟩,
  ⟨0x10020, 0, 1, 0, 1, false, [R.POST_EPOCH_LO_SEC]⟩,
  ⟨0x10024, 0, 1, 0, 1, false, [R.POST_EPOCH_HI_VALID, R.POST_EPOCH_HI_SEC]⟩,
  ⟨0x10028, 0, 1, 0, 1, false, [R.POST_SET_LO_FRAC]⟩,
  ⟨0x1002c, 0, 1, 0, 1, false, [R.POST_SET_HI_SEC]⟩,
  ⟨0x10030, 0, 1, 0, 1, false, [R.POST_TIG_LAPSES, R.POST_TIG_HWFAULT, R.POST_TIG_TIMEBASE, R.POST_TIG_OVERRUN, R.POST_TIG_FOREIGN, R.POST_TIG_IMAGE, R.POST_TIG_HELD]⟩,
  ⟨0x10034, 0, 1, 0, 1, false, [R.POST_ACC_SUPER, R.POST_ACC_LATE]⟩,
  ⟨0x10038, 0, 1, 0, 1, false, [R.POST_TIGBASE_LO_FRAC]⟩,
  ⟨0x1003c, 0, 1, 0, 1, false, [R.POST_TIGBASE_HI_SEC]⟩]

/-- Registers of the block at 0x00020000 (Table ND-7). -/
def regRows_2_0 : List RegRow := [
  ⟨0x20000, 0, 1, 0, 1, false, [R.CK_STATUS_LOCK, R.CK_STATUS_SHADOW, R.CK_STATUS_ACT, R.CK_STATUS_REF1_OK, R.CK_STATUS_REF0_OK, R.CK_STATUS_LOSS, R.CK_STATUS_RELOCKS]⟩,
  ⟨0x20004, 0, 1, 0, 1, false, [R.CK_REF_AUTO, R.CK_REF_SEL, R.CK_REF_REF1_EN, R.CK_REF_REF0_EN]⟩,
  ⟨0x20008, 0, 1, 0, 1, false, [R.CK_LOCKWIN_COUNT]⟩,
  ⟨0x2000c, 0, 1, 0, 1, false, [R.CK_RSTCAUSE_RESET_HELD_LONG, R.CK_RSTCAUSE_WAKE, R.CK_RSTCAUSE_COARSE_LOST, R.CK_RSTCAUSE_BOSUP, R.CK_RSTCAUSE_KIND]⟩,
  ⟨0x20010, 0, 1, 0, 1, false, [R.CK_RSTREQ_KEY]⟩,
  ⟨0x20014, 0, 1, 0, 1, false, [R.CK_HOLD_MS]⟩,
  ⟨0x20018, 0, 1, 0, 1, false, [R.CK_WDOG_CFG_TIMEOUT]⟩,
  ⟨0x2001c, 0, 1, 0, 1, false, [R.CK_WDOG_KICK_CODE]⟩,
  ⟨0x20020, 0, 1, 0, 1, false, [R.CK_WDOG_STAT_REMAIN]⟩,
  ⟨0x20024, 0, 1, 0, 1, false, [R.CK_WAKE_CAUSE, R.CK_WAKE_INPUT, R.CK_WAKE_ALARM_EN, R.CK_WAKE_WAKEN_EN]⟩,
  ⟨0x20028, 0, 1, 0, 1, false, [R.CK_ALARM_LO_FRAC]⟩,
  ⟨0x2002c, 0, 1, 0, 1, false, [R.CK_ALARM_HI_SEC]⟩]

/-- Registers of the block at 0x00040000 (Table ND-7). -/
def regRows_4_0 : List RegRow := [
  ⟨0x40000, 1024, 96, 0, 1, false, [R.LEGn_CFG_BLANK 0, R.LEGn_CFG_PHASE 0, R.LEGn_CFG_BRIDGE 0, R.LEGn_CFG_SAFE 0, R.LEGn_CFG_POLICY 0, R.LEGn_CFG_SENSE 0, R.LEGn_CFG_ASSIGNED 0]⟩,
  ⟨0x40004, 1024, 96, 0, 1, false, [R.LEGn_DT_RISE 0, R.LEGn_DT_FALL 0]⟩,
  ⟨0x40008, 1024, 96, 0, 1, false, [R.LEGn_MINP_MIN 0]⟩,
  ⟨0x40010, 1024, 96, 0, 1, false, [R.LEGn_DUTY_DUTY 0]⟩,
  ⟨0x40014, 1024, 96, 0, 1, false, [R.LEGn_PHASE_PHASE 0]⟩,
  ⟨0x40018, 1024, 96, 0, 1, false, [R.LEGn_PERIOD_PERIOD 0]⟩,
  ⟨0x40020, 1024, 96, 0, 1, false, [R.LEGn_DUTY_ACT_DUTY 0]⟩,
  ⟨0x40024, 1024, 96, 0, 1, false, [R.LEGn_PHASE_ACT_PHASE 0]⟩,
  ⟨0x40028, 1024, 96, 0, 1, false, [R.LEGn_PERIOD_ACT_PERIOD 0]⟩,
  ⟨0x40030, 1024, 96, 0, 1, false, [R.LEGn_FORCE_CODE 0]⟩,
  ⟨0x40034, 1024, 96, 0, 1, false, [R.LEGn_STATUS_DRIVE 0, R.LEGn_STATUS_HELD 0, R.LEGn_STATUS_PEND_D 0, R.LEGn_STATUS_PEND_PP 0, R.LEGn_STATUS_FCODE 0, R.LEGn_STATUS_FREFUSED 0, R.LEGn_STATUS_DSAT 0, R.LEGn_STATUS_RBERR 0, R.LEGn_STATUS_PCLAMP 0, R.LEGn_STATUS_RB_GL 0, R.LEGn_STATUS_RB_GH 0, R.LEGn_STATUS_GL 0, R.LEGn_STATUS_GH 0]⟩,
  ⟨0x40038, 1024, 96, 0, 1, false, [R.LEGn_DEBT_D 0]⟩,
  ⟨0x4003c, 1024, 96, 0, 1, false, [R.LEGn_DEBTMAX_D 0]⟩,
  ⟨0x40040, 1024, 96, 0, 1, false, [R.LEGn_COUNT_DOWN 0, R.LEGn_COUNT_C 0]⟩,
  ⟨0x40044, 1024, 96, 0, 1, false, [R.LEGn_RBCFG_SETTLE 0, R.LEGn_RBCFG_TOL 0]⟩,
  ⟨0x40048, 1024, 96, 0, 1, false, [R.LEGn_CNT_SHORT 0, R.LEGn_CNT_SUPER 0]⟩]

/-- Registers of the block at 0x00060000 (Table ND-7). -/
def regRows_6_0 : List RegRow := [
  ⟨0x60000, 256, 16, 0, 1, false, [R.BRIDGE_CFG_PRESENT 0, R.BRIDGE_CFG_ROLE 0, R.BRIDGE_CFG_NPHASE 0, R.BRIDGE_CFG_CFORM 0, R.BRIDGE_CFG_RELOAD 0]⟩,
  ⟨0x60004, 256, 16, 0, 1, false, [R.BRIDGE_CTRL_SRC 0]⟩,
  ⟨0x60008, 256, 16, 0, 1, false, [R.BRIDGE_LOAD_ALL 0, R.BRIDGE_LOAD_LOAD 0]⟩,
  ⟨0x6000c, 256, 16, 0, 1, false, [R.BRIDGE_STATUS_SWITCHING 0, R.BRIDGE_STATUS_HELD 0, R.BRIDGE_STATUS_FORCED 0, R.BRIDGE_STATUS_HOSTW 0]⟩]

/-- Registers of the block at 0x00080000 (Table ND-7). -/
def regRows_8_0 : List RegRow := [
  ⟨0x80000, 0, 1, 0, 1, false, [R.SN_STATUS_RUN, R.SN_STATUS_GRPEN, R.SN_STATUS_BANKEN]⟩,
  ⟨0x80004, 0, 1, 0, 1, false, [R.SN_CAL_FAILED, R.SN_CAL_PHASE, R.SN_CAL_FSLICE, R.SN_CAL_STEP, R.SN_CAL_ROT]⟩,
  ⟨0x80008, 0, 1, 0, 1, false, [R.SN_SNAP_REQ_BRIDGE]⟩,
  ⟨0x8000c, 0, 1, 0, 1, false, [R.SN_SNAPSTAT_DONE, R.SN_SNAPSTAT_DROP, R.SN_SNAPSTAT_PEND]⟩,
  ⟨0x80010, 4, 4, 0, 1, false, [R.SN_ORm_CH 0]⟩,
  ⟨0x80020, 4, 4, 0, 1, false, [R.SN_LOSTm_CH 0]⟩,
  ⟨0x80040, 4, 12, 0, 1, false, [R.SN_BANKb_PM 0, R.SN_BANKb_FORM 0, R.SN_BANKb_SDLEV 0, R.SN_BANKb_CLKADJ 0, R.SN_BANKb_SDLY 0]⟩,
  ⟨0x80080, 4, 4, 0, 1, false, [R.SN_GRPg_EN 0, R.SN_GRPg_PS 0]⟩,
  ⟨0x80100, 8, 160, 0, 1, false, [R.SN_CHc_CODE_CODE 0]⟩,
  ⟨0x80104, 8, 160, 0, 1, false, [R.SN_CHc_STAT_STAT 0]⟩]

/-- Registers of the block at 0x000A0000 (Table ND-7). -/
def regRows_a_0 : List RegRow := [
  ⟨0xa0000, 16, 120, 0, 1, false, [R.DEC_PATHp_CFG_DEFINED 0, R.DEC_PATHp_CFG_K 0, R.DEC_PATHp_CFG_DLOG 0, R.DEC_PATHp_CFG_R 0, R.DEC_PATHp_CFG_SRC 0]⟩,
  ⟨0xa0004, 16, 120, 0, 1, false, [R.DEC_PATHp_BANK_FADING 0, R.DEC_PATHp_BANK_HELD 0, R.DEC_PATHp_BANK_HBANK 0, R.DEC_PATHp_BANK_TBANK 0, R.DEC_PATHp_BANK_ABANK 0, R.DEC_PATHp_BANK_ARESP 0, R.DEC_PATHp_BANK_XFLEFT 0]⟩,
  ⟨0xa0008, 16, 120, 0, 1, false, [R.DEC_PATHp_REQ_SRCREQ 0, R.DEC_PATHp_REQ_NEWSRC 0, R.DEC_PATHp_REQ_BANKREQ 0, R.DEC_PATHp_REQ_BANK 0]⟩,
  ⟨0xa000c, 16, 120, 0, 1, false, [R.DEC_PATHp_DLY_UNITS 0]⟩,
  ⟨0xa0800, 16, 32, 0, 1, false, [R.DEC_RSr_CFG_DEFINED 0, R.DEC_RSr_CFG_LOCK 0, R.DEC_RSr_CFG_BRIDGE 0, R.DEC_RSr_CFG_LOGN 0, R.DEC_RSr_CFG_CYC 0, R.DEC_RSr_CFG_SRC 0]⟩,
  ⟨0xa0804, 16, 32, 0, 1, false, [R.DEC_RSr_IDX_RUN 0, R.DEC_RSr_IDX_J 0]⟩,
  ⟨0xa0808, 16, 32, 0, 1, false, [R.DEC_RSr_CNT_OUT 0, R.DEC_RSr_CNT_LATE 0]⟩]

/-- Registers of the block at 0x000C0000 (Table ND-7). -/
def regRows_c_0 : List RegRow := [
  ⟨0xc0000, 0, 1, 0, 1, false, [R.FAB_STATUS_RUN, R.FAB_STATUS_FAULT, R.FAB_STATUS_FTILE, R.FAB_STATUS_SLOT, R.FAB_STATUS_ACTIVE, R.FAB_STATUS_USED]⟩,
  ⟨0xc0004, 0, 1, 0, 1, false, [R.FAB_CFG_G3, R.FAB_CFG_G2, R.FAB_CFG_G1, R.FAB_CFG_G0, R.FAB_CFG_FRATE]⟩,
  ⟨0xc0008, 0, 1, 0, 1, false, [R.FAB_SNAP_FROZEN, R.FAB_SNAP_FREEZE]⟩,
  ⟨0xc000c, 0, 1, 0, 1, false, [R.FAB_NAN_INF, R.FAB_NAN_NAN]⟩,
  ⟨0xc0010, 0, 1, 0, 1, false, [R.FAB_FRAME_LO_K]⟩,
  ⟨0xc0014, 0, 1, 0, 1, false, [R.FAB_FRAME_HI_K]⟩,
  ⟨0xc0018, 0, 1, 0, 1, false, [R.FAB_HASH_LO_H]⟩,
  ⟨0xc001c, 0, 1, 0, 1, false, [R.FAB_HASH_HI_H]⟩,
  ⟨0xc0020, 0, 1, 0, 1, false, [R.FAB_SNAPK_LO_K]⟩,
  ⟨0xc0024, 0, 1, 0, 1, false, [R.FAB_SNAPK_HI_K]⟩,
  ⟨0xc0028, 0, 1, 0, 1, false, [R.FAB_FAULTK_LO_K]⟩,
  ⟨0xc002c, 0, 1, 0, 1, false, [R.FAB_FAULTK_HI_K]⟩,
  ⟨0xc0100, 8, 16, 0, 1, false, [R.FAB_TILEt_STATIC_CYC 0]⟩,
  ⟨0xc0104, 8, 16, 0, 1, false, [R.FAB_TILEt_PEAK_CYC 0]⟩]

/-- Registers of the block at 0x00200000 (Table ND-7). -/
def regRows_20_0 : List RegRow := [
  ⟨0x200000, 0, 1, 0, 1, false, [R.SO_STATUS_RUN, R.SO_STATUS_INFLIGHT, R.SO_STATUS_SWUSE]⟩,
  ⟨0x200004, 0, 1, 0, 1, false, [R.SO_LEDCFG_EN, R.SO_LEDCFG_STOP, R.SO_LEDCFG_MASK]⟩,
  ⟨0x200008, 0, 1, 0, 1, false, [R.SO_LEDSTAT_FULL, R.SO_LEDSTAT_WRAPPED, R.SO_LEDSTAT_LOST]⟩,
  ⟨0x20000c, 0, 1, 0, 1, false, [R.SO_LEDPTR_NEXT]⟩,
  ⟨0x200010, 0, 1, 0, 1, false, [R.SO_DROP_HW, R.SO_DROP_DL]⟩,
  ⟨0x200040, 0, 1, 0, 1, true, [⟨0x200040, 30, 2, .wo, 0, 0⟩, ⟨0x200040, 28, 2, .wo, 0, 0⟩]⟩,
  ⟨0x200044, 0, 1, 0, 1, true, [⟨0x200044, 16, 8, .ro, 0, 32⟩, ⟨0x200044, 0, 16, .ro, 0, 32⟩]⟩,
  ⟨0x200048, 0, 1, 0, 1, true, [⟨0x200048, 0, 32, .wo, 0, 0⟩]⟩,
  ⟨0x20004c, 0, 1, 0, 1, true, [⟨0x20004c, 0, 32, .wo, 0, 0⟩]⟩,
  ⟨0x200050, 0, 1, 0, 1, true, [⟨0x200050, 30, 2, .wo, 0, 0⟩, ⟨0x200050, 0, 16, .wo, 0, 0⟩]⟩,
  ⟨0x200054, 0, 1, 0, 1, true, [⟨0x200054, 0, 2, .ro, 0, 32⟩]⟩,
  ⟨0x200060, 0, 1, 0, 1, true, [⟨0x200060, 31, 1, .ro, 0, 32⟩, ⟨0x200060, 0, 16, .ro, 0, 32⟩]⟩,
  ⟨0x200064, 0, 1, 0, 1, true, [⟨0x200064, 0, 1, .wo, 0, 0⟩]⟩,
  ⟨0x200080, 4, 8, 0, 1, false, [R.SO_COREc_BUSY 0, R.SO_COREc_NOFLOW 0, R.SO_COREc_FLOW 0, R.SO_COREc_ID 0]⟩,
  ⟨0x200100, 4, 32, 0, 1, false, [R.SO_PHp_PRIO 0, R.SO_PHp_CORES 0, R.SO_PHp_LIMIT 0, R.SO_PHp_COUNT 0]⟩,
  ⟨0x200180, 4, 4, 0, 1, false, [R.SO_TRAYt_COUNT 0]⟩]

/-- Registers of the block at 0x00300000 (Table ND-7). -/
def regRows_30_0 : List RegRow := [
  ⟨0x300000, 0, 1, 0, 1, false, [R.CAP_STATUS_ARMED, R.CAP_STATUS_DONE]⟩,
  ⟨0x300004, 0, 1, 0, 1, false, [R.CAP_FRCFG_HOLD, R.CAP_FRCFG_AUTOHOLD, R.CAP_FRCFG_EXT, R.CAP_FRCFG_CKPLOG, R.CAP_FRCFG_POSTFR]⟩,
  ⟨0x300008, 0, 1, 0, 1, false, [R.CAP_FRSTAT_REC, R.CAP_FRSTAT_HCAUSE, R.CAP_FRSTAT_GAPS]⟩,
  ⟨0x30000c, 0, 1, 0, 1, false, [R.CAP_FRPTR_OFS]⟩,
  ⟨0x300010, 0, 1, 0, 1, false, [R.CAP_FRDATA_LO_D]⟩,
  ⟨0x300014, 0, 1, 0, 1, false, [R.CAP_FRDATA_HI_D]⟩,
  ⟨0x300018, 0, 1, 0, 1, false, [R.CAP_FROLDK_LO_K]⟩,
  ⟨0x30001c, 0, 1, 0, 1, false, [R.CAP_FROLDK_HI_K]⟩,
  ⟨0x300020, 0, 1, 0, 1, false, [R.CAP_FRNEWK_LO_K]⟩,
  ⟨0x300024, 0, 1, 0, 1, false, [R.CAP_FRNEWK_HI_K]⟩,
  ⟨0x300040, 0, 1, 0, 1, false, [R.CAP_RPCFG_POST, R.CAP_RPCFG_STOPDIV, R.CAP_RPCFG_PH, R.CAP_RPCFG_NOFLOW, R.CAP_RPCFG_FLOW]⟩,
  ⟨0x300044, 0, 1, 0, 1, false, [R.CAP_RPSTAT_STATE, R.CAP_RPSTAT_REASON, R.CAP_RPSTAT_SKIPS]⟩,
  ⟨0x300048, 0, 1, 0, 1, false, [R.CAP_RPDIV_SLOT, R.CAP_RPDIV_NDIV]⟩,
  ⟨0x300050, 0, 1, 0, 1, false, [R.CAP_RPSTART_LO_W]⟩,
  ⟨0x300054, 0, 1, 0, 1, false, [R.CAP_RPSTART_HI_W]⟩,
  ⟨0x300058, 0, 1, 0, 1, false, [R.CAP_RPEND_LO_W]⟩,
  ⟨0x30005c, 0, 1, 0, 1, false, [R.CAP_RPEND_HI_W]⟩,
  ⟨0x300060, 0, 1, 0, 1, false, [R.CAP_RPK_LO_W]⟩,
  ⟨0x300064, 0, 1, 0, 1, false, [R.CAP_RPK_HI_W]⟩,
  ⟨0x300068, 0, 1, 0, 1, false, [R.CAP_RPREC_LO_W]⟩,
  ⟨0x30006c, 0, 1, 0, 1, false, [R.CAP_RPREC_HI_W]⟩,
  ⟨0x300070, 0, 1, 0, 1, false, [R.CAP_RPCALC_LO_W]⟩,
  ⟨0x300074, 0, 1, 0, 1, false, [R.CAP_RPCALC_HI_W]⟩,
  ⟨0x300100, 128, 8, 0, 1, false, [R.CAP_WINw_CFG_CLK 0, R.CAP_WINw_CFG_CLKK 0, R.CAP_WINw_CFG_AUTO 0, R.CAP_WINw_CFG_WRAP 0, R.CAP_WINw_CFG_NSEGLOG 0, R.CAP_WINw_CFG_NSRC 0]⟩,
  ⟨0x300104, 128, 8, 0, 1, false, [R.CAP_WINw_MEM_SIZE 0, R.CAP_WINw_MEM_BASE 0]⟩,
  ⟨0x300108, 128, 8, 0, 1, false, [R.CAP_WINw_PRE_N 0]⟩,
  ⟨0x30010c, 128, 8, 0, 1, false, [R.CAP_WINw_POST_N 0]⟩,
  ⟨0x300110, 128, 8, 0, 1, false, [R.CAP_WINw_TRIG_TKIND 0, R.CAP_WINw_TRIG_COND 0, R.CAP_WINw_TRIG_MASK 0, R.CAP_WINw_TRIG_TID 0]⟩,
  ⟨0x300114, 128, 8, 0, 1, false, [R.CAP_WINw_THR_THR 0]⟩,
  ⟨0x300118, 128, 8, 0, 1, false, [R.CAP_WINw_CTRL_OP 0]⟩]

/-- Registers of the block at 0x00300000 (Table ND-7). -/
def regRows_30_1 : List RegRow := [
  ⟨0x30011c, 128, 8, 0, 1, false, [R.CAP_WINw_STAT_STATE 0, R.CAP_WINw_STAT_ARMERR 0, R.CAP_WINw_STAT_SEG 0, R.CAP_WINw_STAT_NDONE 0]⟩,
  ⟨0x300120, 128, 8, 0, 1, false, [R.CAP_WINw_MISS_COUNT 0, R.CAP_WINw_MISS_NEXT 0]⟩,
  ⟨0x300140, 128, 8, 4, 8, false, [R.CAP_WINw_SRCn_SRC 0 0]⟩]

/-- Registers of the block at 0x00400000 (Table ND-7). -/
def regRows_40_0 : List RegRow := [
  ⟨0x400000, 0, 1, 0, 1, false, [R.SAF_STATUS_PERMIT, R.SAF_STATUS_ISTO, R.SAF_STATUS_STOA, R.SAF_STATUS_STOB, R.SAF_STATUS_FSEL, R.SAF_STATUS_DEMAND, R.SAF_STATUS_RFOFF]⟩,
  ⟨0x400004, 0, 1, 0, 1, false, [R.SAF_LOCK_FIRST, R.SAF_LOCK_INDEX, R.SAF_LOCK_NCAUSE, R.SAF_LOCK_OPEN]⟩,
  ⟨0x400008, 0, 1, 0, 1, false, [R.SAF_IN_DISCREP, R.SAF_IN_LEVEL]⟩,
  ⟨0x40000c, 0, 1, 0, 1, false, [R.SAF_OUT_TPACT, R.SAF_OUT_RB, R.SAF_OUT_CMD]⟩,
  ⟨0x400010, 0, 1, 0, 1, false, [R.SAF_FB_MISMATCH, R.SAF_FB_LEVEL]⟩,
  ⟨0x400014, 0, 1, 0, 1, false, [R.SAF_LRST_PRESSED, R.SAF_LRST_STUCK, R.SAF_LRST_SHORT, R.SAF_LRST_LAST]⟩,
  ⟨0x400018, 0, 1, 0, 1, false, [R.SAF_PLUG_STATE, R.SAF_PLUG_LOCKCMD, R.SAF_PLUG_LOCKFB, R.SAF_PLUG_CODE]⟩,
  ⟨0x40001c, 0, 1, 0, 1, false, [R.SAF_ISO_VALID, R.SAF_ISO_WARN, R.SAF_ISO_FAULT, R.SAF_ISO_R_ISO]⟩,
  ⟨0x400020, 0, 1, 0, 1, false, [R.SAF_TPRES_DISCARD, R.SAF_TPRES_PASS]⟩,
  ⟨0x400024, 0, 1, 0, 1, false, [R.SAF_CNT_TPDONE, R.SAF_CNT_DEMANDS]⟩,
  ⟨0x400028, 0, 1, 0, 1, false, [R.SAF_TPREQ_CH]⟩,
  ⟨0x400100, 8, 16, 0, 1, false, [R.SAF_RFj_STAT_DEFINED 0, R.SAF_RFj_STAT_FRESH 0, R.SAF_RFj_STAT_PERMIT 0, R.SAF_RFj_STAT_DIR 0, R.SAF_RFj_STAT_SEQ 0]⟩,
  ⟨0x400104, 8, 16, 0, 1, false, [R.SAF_RFj_CNT_CRCC 0, R.SAF_RFj_CNT_CRCK 0, R.SAF_RFj_CNT_SEQ 0, R.SAF_RFj_CNT_TIME 0]⟩]

/-- Registers of the block at 0x00500000 (Table ND-7). -/
def regRows_50_0 : List RegRow := [
  ⟨0x500000, 0, 1, 0, 1, false, [R.SEC_STATUS_ENROLLED, R.SEC_STATUS_DXK, R.SEC_STATUS_RNGFAIL, R.SEC_STATUS_LOGFULL, R.SEC_STATUS_REVOKED0, R.SEC_STATUS_LOGN]⟩,
  ⟨0x500004, 0, 1, 0, 1, false, [R.SEC_CTRL_OP, R.SEC_CTRL_SESSION]⟩,
  ⟨0x500008, 0, 1, 0, 1, false, [R.SEC_RESULT_BUSY, R.SEC_RESULT_CODE]⟩,
  ⟨0x50000c, 0, 1, 0, 1, false, [R.SEC_RNG_R]⟩,
  ⟨0x500010, 0, 1, 0, 1, false, [R.SEC_CNT_TAGFAIL, R.SEC_CNT_REPLAY]⟩,
  ⟨0x500014, 0, 1, 0, 1, false, [R.SEC_SESS_OPEN]⟩,
  ⟨0x500018, 0, 1, 0, 1, false, [R.SEC_SESSCFG_LIFE]⟩,
  ⟨0x50001c, 0, 1, 0, 1, false, [R.SEC_ENR_DATA_WORD]⟩,
  ⟨0x500020, 0, 1, 0, 1, false, [R.SEC_ENR_PTR_OFS]⟩,
  ⟨0x500040, 0, 1, 0, 1, false, [R.SEC_FW_CTRL_OP, R.SEC_FW_CTRL_SLOT]⟩,
  ⟨0x500044, 0, 1, 0, 1, false, [R.SEC_FW_DATA_WORD]⟩,
  ⟨0x500048, 0, 1, 0, 1, false, [R.SEC_FW_PTR_OFS]⟩,
  ⟨0x50004c, 0, 1, 0, 1, false, [R.SEC_FW_STATUS_BUSY, R.SEC_FW_STATUS_CODE, R.SEC_FW_STATUS_BOOTFALL, R.SEC_FW_STATUS_RUN, R.SEC_FW_STATUS_MARK, R.SEC_FW_STATUS_STATE]⟩,
  ⟨0x500800, 0, 1, 0, 1, false, [R.SEC_IMG_CTRL_OP, R.SEC_IMG_CTRL_SLOT]⟩,
  ⟨0x500804, 0, 1, 0, 1, false, [R.SEC_IMG_DATA_WORD]⟩,
  ⟨0x500808, 0, 1, 0, 1, false, [R.SEC_IMG_PTR_OFS]⟩,
  ⟨0x50080c, 0, 1, 0, 1, false, [R.SEC_IMG_STATUS_BUSY, R.SEC_IMG_STATUS_CODE, R.SEC_IMG_STATUS_ACT_SLOT, R.SEC_IMG_STATUS_ACT_MARK, R.SEC_IMG_STATUS_STATE]⟩,
  ⟨0x500810, 0, 1, 0, 1, false, [R.SEC_IMG_WHERE_SECT, R.SEC_IMG_WHERE_REC]⟩,
  ⟨0x500050, 4, 2, 0, 1, false, [R.SEC_FW_VERs_VER 0]⟩,
  ⟨0x500060, 0, 1, 0, 1, true, [⟨0x500060, 0, 1, .wo, 0, 0⟩]⟩,
  ⟨0x500064, 0, 1, 0, 1, true, [⟨0x500064, 31, 1, .ro, 0, 0⟩, ⟨0x500064, 30, 1, .ro, 0, 32⟩, ⟨0x500064, 16, 8, .ro, 0, 32⟩, ⟨0x500064, 0, 4, .ro, 0, 0⟩]⟩,
  ⟨0x500080, 4, 8, 0, 1, true, [⟨0x500080, 0, 32, .rw, 0, 0⟩]⟩,
  ⟨0x5000c0, 4, 16, 0, 1, false, [R.SEC_EXT_Dn_D 0]⟩,
  ⟨0x500100, 4, 64, 0, 1, false, [R.SEC_RBi_COUNT 0]⟩,
  ⟨0x500820, 4, 4, 0, 1, false, [R.SEC_IMG_VERs_VER 0]⟩,
  ⟨0x500830, 4, 4, 0, 1, false, [R.SEC_IMG_IDs_ID 0]⟩]

/-- Registers of the block at 0x00600000 (Table ND-7). -/
def regRows_60_0 : List RegRow := [
  ⟨0x600000, 0, 1, 0, 1, false, [R.LK_STATUS_PCIE_UP, R.LK_STATUS_GEN, R.LK_STATUS_WIDTH, R.LK_STATUS_TWIN_UP, R.LK_STATUS_CAN_ON]⟩,
  ⟨0x600004, 0, 1, 0, 1, false, [R.LK_HIRQ_CAUSE]⟩,
  ⟨0x600008, 0, 1, 0, 1, false, [R.LK_HIRQ_EN_EN]⟩,
  ⟨0x60000c, 0, 1, 0, 1, false, [R.LK_CFG_REDUN, R.LK_CFG_PREF, R.LK_CFG_SPH, R.LK_CFG_NOFLOW, R.LK_CFG_SFLOW]⟩,
  ⟨0x600100, 0, 1, 0, 1, false, [R.LK_PTP_CFG_SLAVEONLY, R.LK_PTP_CFG_DOMAIN, R.LK_PTP_CFG_CLASS, R.LK_PTP_CFG_PRIO1, R.LK_PTP_CFG_PRIO2]⟩,
  ⟨0x600200, 0, 1, 0, 1, false, [R.LK_TWIN_STAT_BLOCK, R.LK_TWIN_STAT_SESSION, R.LK_TWIN_STAT_DELAY]⟩,
  ⟨0x600204, 0, 1, 0, 1, false, [R.LK_TWIN_CNT_TAGFAIL, R.LK_TWIN_CNT_LATE]⟩,
  ⟨0x600010, 64, 2, 0, 1, false, [R.LK_SPn_CFG_EN 0, R.LK_SPn_CFG_RATE 0, R.LK_SPn_CFG_JUMBO 0, R.LK_SPn_CFG_CLF 0, R.LK_SPn_CFG_PTPROLE 0, R.LK_SPn_CFG_DELAYM 0, R.LK_SPn_CFG_ONESTEP 0, R.LK_SPn_CFG_LOGSYNC 0]⟩,
  ⟨0x600014, 64, 2, 0, 1, false, [R.LK_SPn_STAT_UP 0, R.LK_SPn_STAT_RATE 0, R.LK_SPn_STAT_PSTATE 0]⟩,
  ⟨0x600018, 64, 2, 0, 1, false, [R.LK_SPn_VLAN_EN 0, R.LK_SPn_VLAN_PCP 0, R.LK_SPn_VLAN_VID 0]⟩,
  ⟨0x60001c, 64, 2, 0, 1, false, [R.LK_SPn_ASYM_ASYM 0]⟩,
  ⟨0x600020, 64, 2, 0, 1, false, [R.LK_SPn_CNT_RXDROP 0, R.LK_SPn_CNT_DUP 0]⟩,
  ⟨0x601000, 4096, 4, 0, 1, false, [R.LK_CANc_CFG_EN 0, R.LK_CANc_CFG_FD 0, R.LK_CANc_CFG_AUTOREC 0, R.LK_CANc_CFG_LISTEN 0, R.LK_CANc_CFG_TDC 0, R.LK_CANc_CFG_TDCO 0]⟩,
  ⟨0x601004, 4096, 4, 0, 1, false, [R.LK_CANc_NBT_BRP 0, R.LK_CANc_NBT_TSEG1 0, R.LK_CANc_NBT_TSEG2 0, R.LK_CANc_NBT_SJW 0]⟩,
  ⟨0x601008, 4096, 4, 0, 1, false, [R.LK_CANc_DBT_BRP 0, R.LK_CANc_DBT_TSEG1 0, R.LK_CANc_DBT_TSEG2 0, R.LK_CANc_DBT_SJW 0]⟩,
  ⟨0x60100c, 4096, 4, 0, 1, false, [R.LK_CANc_STAT_BUSOFF 0, R.LK_CANc_STAT_PASSIVE 0, R.LK_CANc_STAT_TEC 0, R.LK_CANc_STAT_REC 0, R.LK_CANc_STAT_LEC 0]⟩,
  ⟨0x601010, 4096, 4, 0, 1, false, [R.LK_CANc_TXREQ_REQ 0]⟩,
  ⟨0x601014, 4096, 4, 0, 1, false, [R.LK_CANc_TXDONE_DONE 0]⟩,
  ⟨0x601100, 4096, 4, 16, 64, false, [R.LK_CANc_FLTf_ID_EN 0 0, R.LK_CANc_FLTf_ID_IDE 0 0, R.LK_CANc_FLTf_ID_ID 0 0]⟩,
  ⟨0x601104, 4096, 4, 16, 64, false, [R.LK_CANc_FLTf_MASK_MASK 0 0]⟩,
  ⟨0x601108, 4096, 4, 16, 64, false, [R.LK_CANc_FLTf_RT_ACT 0 0, R.LK_CANc_FLTf_RT_PH 0 0, R.LK_CANc_FLTf_RT_NOFLOW 0 0, R.LK_CANc_FLTf_RT_FLOW 0 0]⟩,
  ⟨0x601600, 4096, 4, 4, 288, false, [R.LK_CANc_TXBUFb_W 0 0]⟩]

/-- Registers of the block at 0x00700000 (Table ND-7). -/
def regRows_70_0 : List RegRow := [
  ⟨0x700000, 0, 1, 0, 1, false, [R.HL_STATUS_RUN, R.HL_STATUS_COUNT_LOST, R.HL_STATUS_OVF]⟩,
  ⟨0x700004, 0, 1, 0, 1, false, [R.HL_CTRL_NOW, R.HL_CTRL_PERIOD]⟩,
  ⟨0x700008, 0, 1, 0, 1, false, [R.HL_FLAGS_LO_F]⟩,
  ⟨0x70000c, 0, 1, 0, 1, false, [R.HL_FLAGS_HI_F]⟩,
  ⟨0x700010, 0, 1, 0, 1, false, [R.HL_NODE_RL]⟩,
  ⟨0x700020, 4, 8, 0, 1, false, [R.HL_TEMPs_T 0]⟩,
  ⟨0x700040, 4, 16, 0, 1, false, [R.HL_ROr_DRIFT 0]⟩,
  ⟨0x700080, 4, 6, 0, 1, false, [R.HL_NVp_MAXW 0]⟩,
  ⟨0x7000c0, 4, 96, 0, 1, false, [R.HL_LEGn_D_D 0]⟩,
  ⟨0x780000, 4096, 4, 0, 1, false, [R.AXn_CFG_ENCMODE 0, R.AXn_CFG_EGRAY 0, R.AXn_CFG_ESCLK 0, R.AXn_CFG_EBITS 0, R.AXn_CFG_ESSI 0, R.AXn_CFG_DIRSU 0, R.AXn_CFG_EFILT 0]⟩,
  ⟨0x780004, 4096, 4, 0, 1, false, [R.AXn_STAT_STATE 0, R.AXn_STAT_HOMED 0, R.AXn_STAT_REHOME_ADVISED 0, R.AXn_STAT_FAULT 0, R.AXn_STAT_LIMSTOP 0, R.AXn_STAT_HWLIM 0, R.AXn_STAT_TGTERR 0, R.AXn_STAT_ENCERR 0, R.AXn_STAT_ZSEEN 0, R.AXn_STAT_LVALID 0, R.AXn_STAT_CHATTER 0]⟩,
  ⟨0x780008, 4096, 4, 0, 1, false, [R.AXn_CTRL_OP 0]⟩,
  ⟨0x780010, 4096, 4, 0, 1, false, [R.AXn_POS_LO_W 0]⟩,
  ⟨0x780014, 4096, 4, 0, 1, false, [R.AXn_POS_HI_W 0]⟩,
  ⟨0x780018, 4096, 4, 0, 1, false, [R.AXn_TGT_LO_W 0]⟩,
  ⟨0x78001c, 4096, 4, 0, 1, false, [R.AXn_TGT_HI_W 0]⟩,
  ⟨0x780020, 4096, 4, 0, 1, false, [R.AXn_ENC_LO_W 0]⟩,
  ⟨0x780024, 4096, 4, 0, 1, false, [R.AXn_ENC_HI_W 0]⟩,
  ⟨0x780028, 4096, 4, 0, 1, false, [R.AXn_SLIMP_LO_W 0]⟩,
  ⟨0x78002c, 4096, 4, 0, 1, false, [R.AXn_SLIMP_HI_W 0]⟩,
  ⟨0x780030, 4096, 4, 0, 1, false, [R.AXn_SLIMN_LO_W 0]⟩,
  ⟨0x780034, 4096, 4, 0, 1, false, [R.AXn_SLIMN_HI_W 0]⟩,
  ⟨0x780038, 4096, 4, 0, 1, false, [R.AXn_VMAX_V 0]⟩,
  ⟨0x78003c, 4096, 4, 0, 1, false, [R.AXn_AMAX_A 0]⟩,
  ⟨0x780040, 4096, 4, 0, 1, false, [R.AXn_JMAX_J 0]⟩,
  ⟨0x780044, 4096, 4, 0, 1, false, [R.AXn_ASTOP_A 0]⟩,
  ⟨0x780048, 4096, 4, 0, 1, false, [R.AXn_HOME_METHOD 0, R.AXn_HOME_HFILT 0, R.AXn_HOME_HVEL 0]⟩,
  ⟨0x78004c, 4096, 4, 0, 1, false, [R.AXn_HOFS_LO_W 0]⟩,
  ⟨0x780050, 4096, 4, 0, 1, false, [R.AXn_HOFS_HI_W 0]⟩,
  ⟨0x780058, 4096, 4, 0, 1, false, [R.AXn_LCFG_LSRC 0, R.AXn_LCFG_LEDGE 0, R.AXn_LCFG_CONFTOL 0, R.AXn_LCFG_EFERR 0]⟩]

/-- Registers of the block at 0x00700000 (Table ND-7). -/
def regRows_70_1 : List RegRow := [
  ⟨0x780060, 4096, 4, 0, 1, false, [R.AXn_LPOS_LO_W 0]⟩,
  ⟨0x780064, 4096, 4, 0, 1, false, [R.AXn_LPOS_HI_W 0]⟩,
  ⟨0x780068, 4096, 4, 0, 1, false, [R.AXn_LENC_LO_W 0]⟩,
  ⟨0x78006c, 4096, 4, 0, 1, false, [R.AXn_LENC_HI_W 0]⟩,
  ⟨0x780070, 4096, 4, 0, 1, false, [R.AXn_LPM_LO_W 0]⟩,
  ⟨0x780074, 4096, 4, 0, 1, false, [R.AXn_LPM_HI_W 0]⟩]

/-- The registers of the 64 KiB or 1 MiB block that holds an address (Table ND-7); `g` is the grade fuse of NODE_REV. -/
def regBlock (g : Nat) (a : Nat) : List RegRow :=
  if 0x0 ≤ a ∧ a ≤ 0xffff then regRows_0_0 g
  else if 0x10000 ≤ a ∧ a ≤ 0x1ffff then regRows_1_0
  else if 0x20000 ≤ a ∧ a ≤ 0x2ffff then regRows_2_0
  else if 0x40000 ≤ a ∧ a ≤ 0x57fff then regRows_4_0
  else if 0x60000 ≤ a ∧ a ≤ 0x60fff then regRows_6_0
  else if 0x80000 ≤ a ∧ a ≤ 0x9ffff then regRows_8_0
  else if 0xa0000 ≤ a ∧ a ≤ 0xbffff then regRows_a_0
  else if 0xc0000 ≤ a ∧ a ≤ 0xfffff then regRows_c_0
  else if 0x200000 ≤ a ∧ a ≤ 0x2fffff then regRows_20_0
  else if 0x300000 ≤ a ∧ a ≤ 0x3fffff then regRows_30_0 ++ regRows_30_1
  else if 0x400000 ≤ a ∧ a ≤ 0x4fffff then regRows_40_0
  else if 0x500000 ≤ a ∧ a ≤ 0x5fffff then regRows_50_0
  else if 0x600000 ≤ a ∧ a ≤ 0x6fffff then regRows_60_0
  else if 0x700000 ≤ a ∧ a ≤ 0x7fffff then regRows_70_0 ++ regRows_70_1
  else []

/-- Offset of an address in a row's repetition, if the address is one of its registers. -/
def RegRow.offset? (w : RegRow) (a : Nat) : Option Nat :=
  if a < w.base then none
  else
    let d := a - w.base
    let i := if w.stride1 = 0 then 0 else d / w.stride1
    let e := d - i * w.stride1
    let j := if w.stride2 = 0 then 0 else e / w.stride2
    if i < w.count1 ∧ j < w.count2 ∧ e = j * w.stride2 then some d else none

/-- The same row's two indexes for an offset. -/
def RegRow.index1 (w : RegRow) (d : Nat) : Nat := if w.stride1 = 0 then 0 else d / w.stride1

/-- Search a block's rows for an address. -/
def findRow (a : Nat) : List RegRow → Option (RegRow × Nat)
  | [] => none
  | w :: ws => match w.offset? a with
    | some d => some (w, d)
    | none => findRow a ws

/-- The fields of the register at an address, as requester `r` sees it, or none where the address is unmapped (R9, R27). -/
def regFields (g r a : Nat) : Option (List Fld) :=
  match findRow a (regBlock g a) with
  | none => none
  | some (w, d) =>
    let off := if w.banked then d + bankBase r else d
    some (w.flds.map fun f => { f with addr := f.addr + off })

/-- The Kept mask of the field that State holds under a key (0 where no field has that key). -/
def keptOfKey (g k : Nat) : Nat :=
  let full := k / 32
  let a := full % 4294967296
  match findRow a (regBlock g a) with
  | none => 0
  | some (w, _) => match w.flds.find? (fun f => f.lsb = k % 32) with
    | some f => f.kept
    | none => 0

end Sys2Proof.Machine
end

