-- ==== Sys2Proof/Machine/State.lean ====
section
/-!
DEFINITION. The state of the node as plain data, and its reset state.
-/
namespace Sys2Proof.Machine

/-! ### Time (02_postmark.md, 17_clocks_resets.md) -/

/-- The postmark counter and its timebase beside the registers: the U32.72 accumulator (R32), the elapsed time in the same
unit of 2⁻⁷² s (which no step moves, R526), the D1 ticks that have passed, whether the counter has stopped at its end (R40), the D1 increment while the
domains run on the shadow oscillator (R454), the usable steering sources by code (R33), consecutive updates within 20 ns and
consecutive outliers (Table PM-2), the magnitudes of the last 16 offsets in units of 2⁻³² s, the tick count and the offset that the last servo update left (R527), the held bound in units of
2⁻⁷² ns with the elapsed time at which it was set and the shadow time until then (R37 to R39; none is unbounded), whether ACQUIRING holds a
bound, the forced entry of R38, a host set waiting for a PPS edge (R47), absent or stray PPS edges, and the time spent on the
shadow oscillator. -/
structure TimeBase where
  acc : Nat
  elapsed : Nat
  count : Nat
  stopped : Bool
  shadowInc : Nat
  usable : List Nat
  good : Nat
  outliers : Nat
  recent : List Nat
  lastUpd : Option (Nat × Int)
  bound : Option Nat
  boundAt : Nat
  boundShadow : Nat
  forced : Bool
  ppsSet : Option Nat
  ppsMiss : Nat
  shadowSince : Option Nat
  shadowTotal : Nat
deriving DecidableEq, Repr

/-- The counter at 0 in FREE on the shadow oscillator. -/
def TimeBase.reset : TimeBase :=
  { acc := 0, elapsed := 0, count := 0, stopped := false, shadowInc := 60047995 * 65536 * 2, usable := [], good := 0, outliers := 0, recent := [],
    lastUpd := none, bound := none, boundAt := 0, boundShadow := 0, forced := false, ppsSet := none, ppsMiss := 0, shadowSince := some 0,
    shadowTotal := 0 }

/-- The clock root, the resets and the always-on domain: when the delay line was last started, or the present reset asserted, and when the
present lock window begins (elapsed time), whether each reference shows edges, the reset kind asserted now (Table CK-3; 5 a wake), whether
RESET_N is high and since when it was low, whether its hold waits to be journalled, whether the watchdog runs and since when, the coarse
postmark with its copied error bound and the elapsed time of the crystal edge that copied them, D1 ticks counted since the last edge and
whether the root and the shadow oscillator did not change places since it,
HIBERNATE, when the slices have settled after QUIET, and whether the running start sequence is a relock. -/
structure ClockRoot where
  lineStart : Nat
  winStart : Nat
  ref0Edge : Bool
  ref1Edge : Bool
  resetKind : Option Nat
  resetN : Bool
  pinLow : Nat
  holdNote : Bool
  wdogRuns : Bool
  wdogAt : Nat
  coarse : Option Nat
  coarseBound : Option Nat
  coarseAt : Nat
  xtalTicks : Nat
  xtalWhole : Bool
  hibernate : Bool
  settle : Option Nat
  relock : Bool
deriving DecidableEq, Repr

/-- The clock root right after power-on. -/
def ClockRoot.reset : ClockRoot :=
  { lineStart := 0, winStart := 40 * 2 ^ 72 / 1000000, ref0Edge := true, ref1Edge := true, resetKind := none, resetN := true, pinLow := 0,
    holdNote := false, wdogRuns := false, wdogAt := 0, coarse := none, coarseBound := none, coarseAt := 0, xtalTicks := 0, xtalWhole := false,
    hibernate := false, settle := none, relock := false }

/-- Read and write shadows of one requester (R60, R63): the _LO address and the words held. -/
structure Shadow where
  rd : Option (Nat × Nat)
  wr : Option (Nat × Nat)
deriving DecidableEq, Repr

/-- An empty shadow. -/
def Shadow.none : Shadow := { rd := Option.none, wr := Option.none }

/-- What hardware has set in one D3 cycle (R6): the cycle, and for each W1C or RC field it set then, by key, the value before the first set, less what
has been cleared since, and the value that these sets alone give. -/
structure CycleSets where
  at_ : Nat
  sets : Sparse (Option (Nat × Nat))
deriving DecidableEq, Repr

/-- Nothing set. -/
def CycleSets.reset : CycleSets := { at_ := 0, sets := [] }

/-! ### Modes (03_modes.md) -/

/-- A mode request that waits: the requested mode, its target ID (0 for a write of NODE_MODE_REQ), its source ID and postmark, and the command as received. -/
structure ModeReq where
  code : Nat
  target : Nat
  source : Nat
  pm : Nat
  item : Bytes
deriving DecidableEq, Repr

/-- What the mode logic holds beside NODE_MODE: the stop ramp in progress with its start (elapsed time; R69), a running test with
its kind (0 LIGHT, 1 FULL, 2 CAL) and start (R76 to R79), whether a test holds the legs (FULL, CAL), mode requests held while a
test runs, a request waiting for the next tray tick (R70), a QUIET, RUN or HIBERNATE request waiting for its instant (R461 to R463) with
its source ID and postmark, the D3 cycle in which QUIET was left (R78), when ENERGIZE was entered, the latest
transitions as fine postmark and the mode before each, newest first (R240), whether the cause "clock lock lost" of RECOVERY holds (R454), and whether both firmware slots
were refused at boot (R75). -/
structure ModeState where
  stopRamp : Option Nat
  test : Option (Nat × Nat)
  testHolds : Bool
  held : List ModeReq
  atTick : Option ModeReq
  power : Option Nat
  powerBy : Nat × Nat
  quietEnd : Option Nat
  energizeAt : Nat
  modeLog : List (Nat × Nat)
  clockCause : Bool
  bootRefused : Bool
deriving DecidableEq, Repr

/-- BOOT, with nothing waiting. -/
def ModeState.reset : ModeState :=
  { stopRamp := none, test := none, testHolds := false, held := [], atTick := none, power := none, powerBy := (0, 0), quietEnd := none, energizeAt := 0, modeLog := [],
    clockCause := false, bootRefused := false }

/-! ### The sorting office (11_sorting_office.md) -/

/-- One envelope (Table SO-1), with the node's own notes of it: its class (R290), the tray entry it was released from, and
the D1 tick in which it is made ready (R296, R303). -/
structure Env where
  typ : Nat
  ph : Nat
  flow : Nat
  idx : Nat
  gen : Nat
  postmark : Nat
  ready : Nat
  port : Nat
  core : Nat
  fromTray : Bool
  deferred : Bool
  reserve : Bool
  fseq : Nat
  tag : Nat
  body : Bytes
  software : Bool
  trayId : Option Nat
  readyAt : Nat
deriving DecidableEq, Repr

/-- One waiting tray entry (R304): tray, slot, generation, release postmark, envelope, and whether it was deferred. -/
structure TrayEntry where
  tray : Nat
  slot : Nat
  gen : Nat
  t : Nat
  env : Env
  deferred : Bool
deriving DecidableEq, Repr

/-- A ledger record of a cycle to come: its D1 tick and postmark, its place in the order of Table SO-5, its fields (Table SO-9). -/
structure LedEntry where
  tick : Nat
  pm : Nat
  rank : Nat
  kind : Nat
  id : Nat
  ph : Nat
  core : Nat
  detail : Nat
deriving DecidableEq, Repr

/-- The sorting office: waiting envelopes in the order made ready, the envelope in service on each core, descriptor and
tray-slot generations, flow sequence counts and last cores, the trays in insertion order, the ledger ring and its buffer,
the post buffers of the requesters, the number of the last tray tick that the office has had, the ledger records of cycles to come (in their order),
the last D1 tick served with its place in Table SO-5, and for each hardware port and the trays (8) the first D1 tick free for a post (R297, R306). -/
structure Office where
  waiting : List Env
  service : Sparse (Option Env)
  gens : Sparse Nat
  flowSeq : Sparse Nat
  lastCore : Sparse (Option Nat)
  trays : List TrayEntry
  trayGens : Sparse Nat
  ledger : Sparse Nat
  ledCount : Nat
  anchor : Option Nat
  bufTick : Nat
  bufFill : Nat
  bufLost : Nat
  ahead : List LedEntry
  turn : Nat × Nat
  laneAt : Sparse Nat
  pbuf : Sparse Nat
  lastTick : Option Nat
deriving DecidableEq, Repr

/-- The office with nothing in it. -/
def Office.reset : Office :=
  { waiting := [], service := [], gens := [], flowSeq := [], lastCore := [], trays := [], trayGens := [], ledger := [],
    ledCount := 0, anchor := none, bufTick := 0, bufFill := 0, bufLost := 0, ahead := [], turn := (0, 0), laneAt := [], pbuf := [], lastTick := none }

/-! ### Capture and the flight record (12_capture.md) -/

/-- A trigger of a window waiting to be placed or already taken: kind (0x0F for FORCE), index, fine postmark (U32.40). -/
structure Trig where
  kind : Nat
  tid : Nat
  fine : Nat
deriving DecidableEq, Repr

/-- What a capture window holds beside its registers: the segment sequence, the ring position of the next row, the rows
written since the segment began, the postmarks of its recent rows (newest first), whether row 0 of an ARM is still to come,
whether the re-arm time runs, the edge triggers waiting for the row after them (earliest first) and the trigger taken, its row, fraction and valid pre-trigger
rows, the post-trigger rows, the triggers missed since the trigger row, and whether the condition held at the last row. -/
structure Win where
  seq : Nat
  pos : Nat
  rows : Nat
  recent : List Nat
  row0 : Bool
  rearm : Bool
  waits : List Trig
  taken : Option Trig
  trow : Nat
  frac : Nat
  validPre : Nat
  postDone : Nat
  missed : Nat
  run : Bool
deriving DecidableEq, Repr

/-- A window as it is when nothing was armed. -/
def Win.idle : Win :=
  { seq := 0, pos := 0, rows := 0, recent := [], row0 := false, rearm := false, waits := [], taken := none, trow := 0,
    frac := 0, validPre := 0, postDone := 0, missed := 0, run := false }

/-- One item retained in the flight record: offset, length, kind, frame number. -/
structure FrItem where
  off : Nat
  len : Nat
  kind : Nat
  k : Nat
deriving DecidableEq, Repr

/-- A resampler entry as recorded: code and status. -/
abbrev SenseRec := Nat × Nat

/-- A redelivery run (R340, R341): the offset of the next recorded item (none after the newest one), the end frame, whether a CHECKPOINT is
being sought after a frame that is not compared, whether no frame has been evaluated yet, a divergence that ends the run after the
frame in evaluation (its REASON, 0 for none), that frame's recorded hash, whether CAP_RPK keeps the first divergence, the frame's resampler
entries (channel, index, entry) and the state of the sample coding. -/
structure Replay where
  off : Option Nat
  endK : Nat
  seeking : Bool
  first : Bool
  stop : Nat
  hash : Nat
  latched : Bool
  resampled : List (Nat × Nat × SenseRec)
  coder : Sparse (Nat × Nat × Nat)
deriving DecidableEq, Repr

/-- Capture: the windows, capture memory (a byte nothing has written reads 0), the flight record memory as 8-byte words, its
items, its write position, the fill of its 64 KiB buffer, the coder's previous codes, a hold cause being counted, whether a
checkpoint is due at the next frame, and the redelivery run. -/
structure Capture where
  wins : Sparse Win
  mem : List Host.Cell
  flight : Sparse Nat
  items : List FrItem
  next : Nat
  bufFill : Nat
  bufAt : Nat
  coder : Sparse (Nat × Nat × Nat)
  holdCount : Option (Nat × Nat)
  ckpDue : Bool
  replay : Option Replay
deriving DecidableEq, Repr

/-- Capture after power-on: nothing armed, nothing recorded. -/
def Capture.reset : Capture :=
  { wins := [], mem := [], flight := [], items := [], next := 256, bufFill := 0, bufAt := 0, coder := [],
    holdCount := none, ckpDue := false, replay := none }

/-! ### Legs and trips (08_legs.md, 09_trips.md) -/

/-- What the node decided of the present interval of s (R213): kept, dropped, or merged with its neighbours and not checked. -/
inductive IntKind | kept | dropped | merged
deriving DecidableEq, Repr

/-- One commanded gate edge of a leg's plan: taps since the leg's anchor, the gate (true GH), the level. -/
structure GateEdge where
  at_ : Nat
  gh : Bool
  level : Bool
deriving DecidableEq, Repr

/-- A pending set of R215: duty, phase, period, whether MOD marked it safe (R172, R220), and its commit instant as a fine
postmark (R217). -/
structure PendSet where
  duty : Nat
  phase : Nat
  period : Nat
  safe : Bool
  commit : Nat
deriving DecidableEq, Repr

/-- What a leg holds beside its registers: whether its channel runs, the anchor (fine postmark) and the carrier ticks from it
to the present zero, P′, whether the peak of this period has passed, the pending DUTY and the pending PERIOD and PHASE, each with the set that
follows it where that one commits too late for the reload at which the first acts (R217), the force code with the code that follows it likewise, and
the drive mode waiting for a reload, the safe mark, a SERVICE cut, pulse generation, the interval of s in
progress with its opening position in taps, the gate levels and the planned edges, the latest commanded edge, a blanked trip
input, the cause of an asserted TRIP-block request, the filtered level of the trip ball, which an unassigned leg ignores (R18), and the gate (true GH)
and ball level of the latest readback mismatch while it lasts (R223). -/
structure Leg where
  runs : Bool
  anchor : Nat
  zero : Nat
  per : Nat
  down : Bool
  pend : Option PendSet
  pendNext : Option PendSet
  pendPP : Option PendSet
  pendPPNext : Option PendSet
  force : Option (Nat × Nat)
  forceNext : Option (Nat × Nat)
  drive : Option (Nat × Nat)
  safeMark : Bool
  cut : Bool
  gen : Bool
  lv : Bool
  x0 : Nat
  kind : IntKind
  gh : Bool
  gl : Bool
  plan : List GateEdge
  lastEdge : Option Nat
  blanked : Bool
  request : Option Nat
  input : Bool
  rb : Option (Bool × Bool)
deriving DecidableEq, Repr

/-- A leg whose channel does not run. -/
def Leg.idle : Leg :=
  { runs := false, anchor := 0, zero := 0, per := 0, down := false, pend := none, pendNext := none, pendPP := none, pendPPNext := none,
    force := none, forceNext := none, drive := none, safeMark := false, cut := false, gen := false, lv := false, x0 := 0, kind := .merged, gh := false, gl := false, plan := [],
    lastEdge := none, blanked := false, request := none, input := false, rb := none }

/-- What a bridge holds of its trips: the instants counted toward escalation as elapsed time (R244, R526), the causes of the record
being formed with its frame and order postmarks (R245), the mode of that record, and the window comparators that are causes of its latched trip
(R248); the state of each comparator is in registers. -/
structure BridgeTrips where
  window : List Nat
  record : Option (Nat × List (Nat × Nat))
  mode : Nat
  cmps : Nat
deriving DecidableEq, Repr

/-- A bridge without trips. -/
def BridgeTrips.none : BridgeTrips := { window := [], record := Option.none, mode := 0, cmps := 0 }

/-- Trips beside registers: the bridges; the states the fabric uses in the present frame, and the trips that later frames take in as order
postmark (fine), bridge and cause (R246); the bridges that tripped again after a clear was accepted (R253); and the leg latches set and cleared in one
D3 cycle with its number (R6, R253). -/
structure Trips where
  bridges : Sparse BridgeTrips
  view : Nat
  queue : List (Nat × Nat × Nat)
  again : Nat
  cycle : Nat
  latchSet : List Nat
  latchClr : List Nat
deriving DecidableEq, Repr

/-- No trips. -/
def Trips.reset : Trips := { bridges := [], view := 0, queue := [], again := 0, cycle := 0, latchSet := [], latchClr := [] }

/-! ### Sensing (10_sensing.md) -/

/-- The latest output of a channel: code (24-bit two's complement for a path, 32-bit for a resampler), status word of
Table SN-4, represented postmark, trigger postmark. -/
structure SenseOut where
  code : Nat
  stat : Nat
  rep : Nat
  trig : Nat
deriving DecidableEq, Repr

/-- No output yet. -/
def SenseOut.none : SenseOut := { code := 0, stat := 0, rep := 0, trig := 0 }

/-- A decimation path: the integrators and combs of its sinc stage, the shared delay line (newest first, at most 191), outputs
still to be marked UNSETTLED after a restart and after an overload, the fade (outputs done, length, target bank) and the held bank request, the last bits of a
bitstream (newest first), the run of equal bits, the modulator periods since the last over-range bit and the bits without
one, LOST, the last trigger, and the last outputs delivered (newest first, at most 64). -/
structure Path where
  integ : List Int
  comb : List Int
  line : List Int
  unsettled : Nat
  flush : Nat
  fade : Option (Nat × Nat × Nat)
  held : Option Nat
  bits : List Bool
  run : Nat
  overAge : Option Nat
  lost : Bool
  lastTrig : Option Nat
  recent : List SenseOut
deriving DecidableEq, Repr

/-- A path before its first output. -/
def Path.idle : Path :=
  { integ := [], comb := [], line := [], unsettled := 0, flush := 0, fade := Option.none, held := Option.none, bits := [], run := 0,
    overAge := Option.none, lost := false, lastTrig := Option.none, recent := [] }

/-- One slice overload (R273): slice, the interval in elapsed time, and its sign. -/
structure Overload where
  slice : Nat
  start : Nat
  stop : Nat
  positive : Bool
deriving DecidableEq, Repr

/-- One waiting snapshot (R279, R280): its requests (source, index, postmark), the paths still to be served, and the
channel records taken (channel, status, code, represented postmark). -/
structure Snapshot where
  reqs : List (Nat × Nat × Nat)
  todo : List Nat
  got : List (Nat × Nat × Nat × Nat)
deriving DecidableEq, Repr

/-- A resampler: the source outputs it has seen (code, status, represented postmark, trigger; newest first), its cycle buffer
by index j, outputs still marked UNSETTLED, the output instants that frames have fixed and whose source outputs are still to come
(instant, index), and its outputs with their ready postmarks (newest first). -/
structure Resampler where
  hist : List SenseOut
  buffer : Sparse SenseOut
  unsettled : Nat
  sched : List (Nat × Nat)
  outs : List SenseOut
deriving DecidableEq, Repr

/-- A resampler before its first output. -/
def Resampler.idle : Resampler := { hist := [], buffer := [], unsettled := 16, sched := [], outs := [] }

/-- Sensing: the latest outputs by channel, the paths, the overloads still in reach, the calibration rotation (elapsed time at
which the step began, whether it halted, the slice the spare stands in for, the sinc stage and delay line of the spare), the snapshots and the
resamplers. -/
structure Sense where
  latest : Sparse SenseOut
  paths : Sparse Path
  overloads : List Overload
  calStart : Option Nat
  calHalted : Bool
  subst : Option Nat
  spare : Path
  snaps : List Snapshot
  resamplers : Sparse Resampler
  frameOuts : List (Nat × Nat × SenseOut)
deriving DecidableEq, Repr

/-- Sensing with nothing running. -/
def Sense.reset : Sense :=
  { latest := [], paths := [], overloads := [], calStart := Option.none, calHalted := false,
    subst := Option.none, spare := Path.idle, snaps := [], resamplers := [], frameOuts := [] }

/-! ### The structure image as loaded (07_structure_image.md) -/

/-- A LEGMAP record (Table SI-4). -/
structure LegRec where
  phase : Nat
  safe : Nat
  blank : Nat
  policy : Nat
  sense : Nat
  dtRise : Nat
  dtFall : Nat
  minp : Nat
deriving DecidableEq, Repr

/-- A PHASE record (Table SI-5). -/
structure PhaseRec where
  bridge : Nat
  neutral : Nat
  nlegs : Nat
  cphase : Nat
deriving DecidableEq, Repr

/-- A BRIDGE record (Table SI-6). Values marked binary32 are bit patterns; F0 is U9.23. -/
structure BridgeRec where
  num : Nat
  role : Nat
  nphase : Nat
  cform : Nat
  period : Nat
  reload : Nat
  sB : Nat
  vB : Nat
  f0 : Nat
  xMin : Nat
  xMax : Nat
  tripN : Nat
  tripWin : Nat
  readyW : Nat
deriving DecidableEq, Repr

/-- A WIRING record (R189): wire, port, flags. -/
structure WireRec where
  wire : Nat
  port : Nat
  flags : Nat
deriving DecidableEq, Repr

/-- A BLOCK record (Table SI-7) with its wiring and parameter words. -/
structure Block where
  slot : Nat
  kind : Nat
  group : Nat
  order : Nat
  bridge : Nat
  policy : Nat
  holdFr : Nat
  wires : List WireRec
  params : List Nat
deriving DecidableEq, Repr

/-- A command target (Table SI-8). -/
structure Target where
  id : Nat
  kind : Nat
  sense : Nat
  ref : Nat
  classes : Nat
  lo : Nat
  hi : Nat
deriving DecidableEq, Repr

/-- A reference group of the SENSE section: the slice clock period P_S in D1 ticks and the enable (R262, Table SN-12). -/
structure GroupRec where
  ps : Nat
  en : Nat
  deriving DecidableEq, Repr, Inhabited

/-- A bank record of the SENSE header (Table SN-7). -/
structure BankRec where
  pm : Nat
  form : Nat
  sdly : Nat
  sdlev : Nat
  clkadj : Nat
deriving DecidableEq, Repr

/-- A path record (Table SN-8). -/
structure PathRec where
  chan : Nat
  k : Nat
  abank : Nat
  r : Nat
  nbank : Nat
  txf : Nat
  banks : List Nat
  snapb : Nat
  scale : Nat
  offset : Nat
deriving DecidableEq, Repr

/-- A resampler record (Table SN-9). -/
structure ResRec where
  rch : Nat
  src : Nat
  lock : Nat
  bridge : Nat
  logn : Nat
  cyc : Nat
deriving DecidableEq, Repr

/-- The active structure image: every section of Table SI-2 as its records give it. The SAFETY and HEALTH records are kept
as the bytes of their sections. -/
structure Image where
  slot : Nat
  imageId : Nat
  version : Nat
  rollbackIdx : Nat
  auth : Nat
  frate : Nat
  divs : List Nat
  tEnergize : Nat
  tStop : Nat
  legs : List LegRec
  phases : List PhaseRec
  bridges : List BridgeRec
  blocks : List Block
  wireInit : List (Nat × Nat)
  delays : List Nat
  precedence : List Nat
  targets : List Target
  sorting : List (Nat × Nat × Nat)
  banks : List BankRec
  groups : List GroupRec
  snapPh : Nat
  snapFlow : Nat
  paths : List PathRec
  resamplers : List ResRec
  safety : List Nat
  health : List Nat
  digest : Bytes
deriving DecidableEq, Repr

/-- The BRIDGE record of a bridge number. -/
def Image.bridgeRec? (im : Image) (b : Nat) : Option BridgeRec := im.bridges.find? (·.num == b)

/-- The path record of a channel. -/
def Image.pathRec? (im : Image) (p : Nat) : Option PathRec := im.paths.find? (·.chan == p)

/-- The image slots: the words of each, for each slot in WRITING its owner with the bytes written and whether a write ran past the
end, the slot opened last, the activation in progress as slot and step (1 checked, 3 loaded), and the image it loads (R200, R201). -/
structure SlotOps where
  words : Sparse (Sparse Nat)
  opens : Sparse (Option (Nat × Nat × Bool))
  cur : Option Nat
  activating : Option (Nat × Nat)
  loading : Option Image
deriving DecidableEq, Repr

/-- Four empty slots and no operation in progress. -/
def SlotOps.reset : SlotOps := { words := [], opens := [], cur := none, activating := none, loading := none }

/-! ### The control fabric (06_fabric.md, 04_forming_voltage.md, 05_forming_events.md) -/

/-- A block's state: its state variables in the order its equations name them, the DELAY stages (value, status; newest
first), the held inputs by wire (last valid value, evaluations held; R86), and FAULT. -/
structure BlkState where
  vars : List Nat
  stages : List (Nat × Nat)
  held : Sparse (Option Nat × Nat)
  fault : Bool
deriving DecidableEq, Repr

/-- A block before activation. -/
def BlkState.idle : BlkState := { vars := [], stages := [], held := [], fault := false }

/-- An EVENT or TRIP envelope raised in a frame: type, pigeonhole, flow, TAG, body. -/
structure Raised where
  typ : Nat
  ph : Nat
  flow : Nat
  tag : Nat
  body : Bytes
deriving DecidableEq, Repr

/-- A command taken by the acceptance queue (R48 to R50): class, source ID, sequence, target, value, postmark, frame, and the
bytes received. -/
structure Accepted where
  cls : Nat
  source : Nat
  seq : Nat
  target : Nat
  value : Nat
  t : Nat
  k : Nat
  item : Bytes
deriving DecidableEq, Repr

/-- What a frame keeps while its SAMPLEs wait for the outputs of trigger F_k (R266): the winning commands, the number of its commands and the resampler
outputs for its bundle. -/
structure SampleWait where
  won : List Accepted
  ncmd : Nat
  outs : List (Nat × Nat × SenseOut)
deriving DecidableEq, Repr

/-- The fabric: wires (value, status) by number, the system wires of the present frame, block states by slot, the frame being
evaluated and the next one, the duties MOD has staged (leg, duty, safe mark), the envelopes raised in the frame, bridges with
a TRIP block at X ≥ 0.5, the commands written in the frame, the sense outputs at the frame trigger, the wire window with the image of the
frame it shows (R182), the consecutive frames in which every READY wire held (R69), whether the guarantee has held since the last activation and whether
its conditions have held in this frame (R55), whether the frame is a base frame, whether this frame reinitialises the fabric, and
whether that is a lapse of the guarantee rather than an activation, samples taken (code, status; R334), the sample
entries that a bundle or the flight record feeds instead of the samplers, the fabric state at the frame's start as a CHECKPOINT body
where one is due, the bytes received of the START that each bridge has taken (R309), Tj of each leg with its status as TJEST last wrote it (R175), whether the frame waits for its bundle or for its samples, and the frame hash. -/
structure Fabric where
  wires : Sparse (Nat × Nat)
  blocks : Sparse BlkState
  frame : Option Nat
  next : Option Nat
  staged : List (Nat × Nat × Bool)
  raised : List Raised
  tripHigh : Nat
  written : List Accepted
  frameSense : Sparse SenseOut
  window : Sparse (Nat × Nat)
  windowImage : Option Image
  readyRun : Nat
  wasHeld : Bool
  condHeld : Bool
  base : Bool
  reinit : Bool
  lapse : Bool
  samples : List (Nat × Nat)
  feed : Option (List (Nat × Nat))
  start : Option Bytes
  startItems : Sparse Bytes
  tj : Sparse (Nat × Nat)
  await : Bool
  sampling : Option SampleWait
  hash : Nat
deriving DecidableEq, Repr

/-- A fabric that holds no image. -/
def Fabric.reset : Fabric :=
  { wires := [], blocks := [], frame := none, next := none, staged := [], raised := [], tripHigh := 0, written := [],
    frameSense := [], window := [], windowImage := none, readyRun := 0, wasHeld := false, condHeld := false, base := false,
    reinit := false, lapse := false, samples := [], feed := none, start := none, startItems := [], tj := [], await := false, sampling := none, hash := 0 }


/-! ### The safety function (14_safety.md) -/

/-- What raises a demand: safety input i, connection j, STO by a fault (its cause), or the plug released. -/
inductive DemandSrc | input (i : Nat) | conn (j : Nat)
deriving DecidableEq, Repr

/-- A demand and its reaction (R376): its source, its record's REACT, CMASK, LATCH and T_SS1 (ms), t_d as postmark and as elapsed
time, whether the source still demands, whether its STO step has been carried out, and the outputs of CMASK still to go off. -/
structure Demand where
  src : DemandSrc
  react : Nat
  cmask : Nat
  latch : Bool
  tss1 : Nat
  td : Nat
  at_ : Nat
  live : Bool
  stoDone : Bool
  toOpen : Nat
deriving DecidableEq, Repr

/-- One contactor output (R379 to R382): both channels' commands, the elapsed time of the last change of command, whether a demand has held it off with REQWIRE not
yet below 0.5 since, and for each channel the running test pulse (its start), whether its result is discarded, and when the last pulse started. -/
structure Contactor where
  on : Bool
  changedAt : Nat
  heldOff : Bool
  pulseA : Option Nat
  pulseB : Option Nat
  discA : Bool
  discB : Bool
  lastA : Nat
  lastB : Nat
deriving DecidableEq, Repr

/-- An output that is off. -/
def Contactor.off : Contactor :=
  { on := false, changedAt := 0, heldOff := false, pulseA := none, pulseB := none, discA := false, discB := false, lastA := 0,
    lastB := 0 }

/-- A registered-frame connection (R396, R397): expiry postmark of the last accepted frame, its PM, the last sequence number
accepted or sent, PERMIT, whether a frame has passed since activation, and whether a frame came at or after the expiry instant since
the last cycle (Table SF-13). -/
structure Conn where
  expiry : Option Nat
  lastPm : Nat
  seq : Nat
  permit : Bool
  begun : Bool
  lapsed : Bool
deriving DecidableEq, Repr

/-- A connection before its first frame. -/
def Conn.idle : Conn := { expiry := none, lastPm := 0, seq := 0, permit := false, begun := false, lapsed := false }

/-- The safety function beside its registers: when each input's discrepancy began (elapsed time), the demands and their
reactions, the LOCKOUT causes that have not cleared (code, index), the contactor outputs, the connections, the values last posted
to the targets of Table SF-1, the sequence number of SAFETY commands, consecutive cycles in which the channels differed, the
STO disagreement's start, LRST's press, whether that press has been reported as stuck, the level of ISO_INJ (R392), and whether its self-check has finished (R387, R388), the
pilot's band with the elapsed time it was first read, the time a plug fault has lasted since, the time every CMASK output has been confirmed open since, the last insulation
mean and results below and at or above R_FAULT, tests requested, the number of the last safety cycle since reset or a step, faults found since
it (code, index), and the filtered band of the pilot. -/
structure Safety where
  discSince : Sparse (Option Nat)
  demands : List Demand
  causes : List (Nat × Nat)
  outs : Sparse Contactor
  conns : Sparse Conn
  posted : Sparse Nat
  seq : Nat
  differ : Nat
  stoSince : Option Nat
  press : Option Nat
  stuck : Bool
  isoInj : Bool
  selfCheck : Bool
  selfRunning : Bool
  band : Nat × Nat
  confirmed : Option Nat
  isoMean : Option Int
  isoBelow : Nat
  isoAbove : Nat
  tpReq : Nat
  cycle : Option Nat
  faults : List (Nat × Nat)
  pilotBand : Nat
deriving DecidableEq, Repr

/-- The safety function with nothing demanded. -/
def Safety.reset : Safety :=
  { discSince := [], demands := [], causes := [], outs := [], conns := [], posted := [], seq := 0, differ := 0, stoSince := none,
    press := none, stuck := false, isoInj := false, selfCheck := false, selfRunning := false, band := (0, 0), confirmed := none, isoMean := none, isoBelow := 0,
    isoAbove := 0, tpReq := 0, cycle := none, faults := [], pilotBand := 0 }

/-! ### Security (15_security.md) -/

/-- A waiting statement request (R414): a host's bank or a peer, with its nonce. -/
inductive FrankWho | host (r : Nat) | peer (n : Nat)
deriving DecidableEq, Repr

/-- A session (R417 to R419): index, identifier, peer, the peer's DIK, whether it is the twin link's, keys and salts for sending
and receiving, the next SEQ to send, one past the highest SEQ accepted with the 1,024-bit map below that, when it opened, and when an old one stops receiving. -/
structure Session where
  index : Nat
  id : Nat
  peer : Nat
  dik : Nat
  twin : Bool
  txKey : Bytes
  txSalt : Bytes
  rxKey : Bytes
  rxSalt : Bytes
  txSeq : Nat
  rxHigh : Nat
  rxMap : Nat
  opened : Nat
  oldUntil : Option Nat
deriving DecidableEq, Repr

/-- A session attempt with a peer (Table SE-6): the nonce sent, when it was sent (elapsed time), the peer's nonce, its statement once accepted with its DIK,
DXK moduli, when step 2 or step 5 was done, and for L the session identifier and secret it sent. -/
structure Attempt where
  peer : Nat
  nonce : Bytes
  sentAt : Nat
  peerNonce : Bytes
  dik : Nat
  dxk : Nat
  checkedAt : Option Nat
  id : Nat
  secret : Bytes
deriving DecidableEq, Repr

/-- Security beside its registers: the installed enrolment record (4,224 bytes; empty when none), its loading buffer with whether
it is open, the measurement registers, the measurement log (register, postmark, digest) and the last digest of MR5, the exchange key's modulus and
private exponent, whether its generation runs, the firmware slots' words, for each slot in WRITING its owner with the bytes written and whether a write
ran past the end, the slot opened last, whether a firmware runs with its AUTH and VERSION, the waiting statement requests, the one captured and being
signed, the statements of the banks, sessions, attempts, and the highest BSEQ. -/
structure Security where
  enr : Bytes
  enrBuf : Sparse Nat
  enrOpen : Bool
  mr : Sparse Nat
  log : List (Nat × Nat × Nat)
  mr5Last : Nat
  dxk : Option (Nat × Nat)
  dxkGen : Bool
  fw : Sparse (Sparse Nat)
  fwOpens : Sparse (Option (Nat × Nat × Bool))
  fwCur : Option Nat
  fwRuns : Bool
  runAuth : Nat
  runVer : Nat
  queue : List (FrankWho × Bytes)
  signing : Option (FrankWho × Bytes)
  banks : Sparse Bytes
  sessions : List Session
  attempts : List Attempt
  bseq : Option Nat
deriving DecidableEq, Repr

/-- Security of a part that nobody has enrolled. -/
def Security.reset : Security :=
  { enr := [], enrBuf := [], enrOpen := false, mr := [], log := [], mr5Last := 0, dxk := none, dxkGen := false, fw := [],
    fwOpens := [], fwCur := none, fwRuns := false, runAuth := 0, runVer := 0, queue := [], signing := none, banks := [], sessions := [],
    attempts := [], bseq := none }


/-! ### Links (16_links.md) -/

/-- What the block sends: a site message (pair ID, sequence number, type, body) on the site ports' sessions, a frame on a site port (port,
Ethernet frame; R428), a frame of the twin link (TYPE, content), a CAN frame (controller, word 0 of its buffer, data), a
registered frame, a PTP message (port, messageType), an MSI-X vector (R442), ledger records. -/
inductive OutMsg
  | site (pair seq mtype : Nat) (body : Bytes)
  | ether (port : Nat) (frame : Bytes)
  | twin (typ k : Nat) (body : Bytes)
  | can (ctl : Nat) (id : Nat) (data : Bytes)
  | registered (bus addr : Nat) (frame : Bytes)
  | ledgerOut (w : Nat)
  | ptp (port mtype : Nat)
  | msix (v : Nat)
deriving DecidableEq, Repr

/-- A message of which some fragments have arrived (R430): its sender, its MSGID, when the first one arrived (elapsed time), the map of those that
have. -/
structure Reassembly where
  src : Nat
  msgId : Nat
  at_ : Nat
  got : Nat
deriving DecidableEq, Repr

/-- The links beside their registers: authenticated messages waiting for their site-message step, frames accepted lately for the REDUN check
(session, SEQ, port, elapsed time; R433), the sequence number map of each pair ID (one past the highest, map; R363), the transmit buffers
requested of each CAN controller, for each port the data set of the last Announce message, the quad-SPI flags of Table LK-7, the words
that the last read of each requester returned, MSGID of the next site frame (Table LK-2), and the reassembly buffers in use (R430). -/
structure Links where
  inbox : List SiteMessage
  seen : List (Nat × Nat × Nat × Nat)
  pairs : Sparse (Nat × Nat)
  canPend : Sparse Nat
  ptp : Sparse Nat
  qspiErr : Bool
  qspiNotReady : Bool
  readData : Sparse (List Nat)
  msgId : Nat
  parts : List Reassembly
deriving DecidableEq, Repr

/-- Links with nothing in progress. -/
def Links.reset : Links :=
  { inbox := [], seen := [], pairs := [], canPend := [], ptp := [], qspiErr := false, qspiNotReady := false, readData := [], msgId := 0, parts := [] }


/-! ### Twin pairs (13_twin.md) -/

/-- The twin member beside its registers: what it learned of the partner, consecutive frames without the partner's traffic, the
CMD frames of a frame still to come (frame, command), its own hash of the last frame with its number and whether that frame may
be compared, the open arbitration (frame; R353) and whether its outcome leaves this member its role, the last unexplained mismatch
(elapsed time), failed synchronisation attempts, matching hashes in a row, bundles buffered, a bundle whose CMD frames are still to come, outgoing
messages held with their ORIGIN, mirrors waiting for MACK (sequence, elapsed time of sending, message), the last number mirrored to this member, the base
in non-volatile memory, consecutive outputs of each channel beyond STOL, the last periodic LIGHT test, the frame k_s at which this ACTIVE
member sends its state, and whether this member has loaded its partner's state (R366). -/
structure Twin where
  partner : Option Partner
  quiet : Nat
  cmds : List (Nat × Command)
  ownHash : Option (Nat × Nat)
  comparable : Bool
  arb : Option Nat
  keep : Bool
  unexplainedAt : Option Nat
  attempts : Nat
  matches_ : Nat
  buffered : List Bundle
  bundle : Option Bundle
  held : List (Nat × Bytes)
  mirrors : List (Nat × Nat × Bytes)
  lastMirrored : Nat
  seqBase : Nat
  sense : Sparse Nat
  lightAt : Nat
  resyncAt : Option Nat
  loaded : Bool
deriving DecidableEq, Repr

/-- A member that has met no partner. -/
def Twin.reset : Twin :=
  { partner := none, quiet := 0, cmds := [], ownHash := none, comparable := false, arb := none, keep := false,
    unexplainedAt := none, attempts := 0, matches_ := 0, buffered := [], bundle := none, held := [], mirrors := [], lastMirrored := 0,
    seqBase := 0, sense := [], lightAt := 0, resyncAt := none, loaded := false }

/-! ### Health (18_health.md) -/

/-- The rainflow engine of a leg (R475): the direction of travel (true rising), the running extreme, the turning points (newest first) as binary32,
whether a sample has been seen, and the half-cycle counts by bin 16j + i. -/
structure Rainflow where
  seen : Bool
  up : Bool
  extreme : Nat
  points : List Nat
  bins : Sparse Nat
deriving DecidableEq, Repr

/-- A leg without samples. -/
def Rainflow.none : Rainflow := { seen := false, up := true, extreme := 0, points := [], bins := [] }

/-- A DC link (R480): accepted windows (RUN hours, C and ESR in units of 2⁻⁴⁰), newest first, and whether an end-of-life limit has
been crossed. -/
structure DcLink where
  windows : List (Nat × Nat × Nat)
  worn : Bool
deriving DecidableEq, Repr

/-- A DC link without accepted windows. -/
def DcLink.none : DcLink := { windows := [], worn := false }

/-- Health beside its registers. H_c is in units of 2⁻⁴⁰ s, rates of life in 2⁻⁴⁰ s per hour, damage and its rates in units of 2⁻⁸⁰. It holds the consumed life
and its value at the last full hour, the rate r_T, the number of RUN hours and the elapsed time at which the present one began, since when the node is not in RUN with the life consumed until then, since when T_die lies
above and below the maximum, ring readings (RUN seconds, drifts; newest first), the retention consumption of each partition in units of 2⁻⁸⁰ and the
RUN second at which its rewrite fell due (plus one), writes by line (partition × 2²⁰ + line), rewrites of each whole partition, the rainflow engines, the damage of each leg at
the last hour with its rate, the DC links, operations and electrical operations of each contactor, its operations at the last hour and their rate in
units of 2⁻⁴⁰, legs whose Tj is out of range, the HEALTH section of the last activated image, the report's sequence number, the last report, the flags of the
last report, when the last periodic report was due, the flags raised here that no other state shows (bit 1 TWIN_IDENT_MISMATCH, bit 14 DIE_HOT), and what was last written to
non-volatile memory, with the elapsed time of that write. -/
structure Health where
  hc : Nat
  hcHour : Nat
  rT : Option Nat
  runHours : Nat
  hourAt : Nat
  paused : Option (Nat × Nat)
  hotSince : Option Nat
  coolSince : Option Nat
  rings : List (Nat × List Int)
  retention : Sparse Nat
  due : Sparse Nat
  lines : Sparse Nat
  rewrites : Sparse Nat
  legs : Sparse Rainflow
  legHour : Sparse (Nat × Option Nat)
  dc : Sparse DcLink
  ops : Sparse (Nat × Nat)
  opsHour : Sparse (Nat × Option Nat)
  tjRange : Nat
  model : List Nat
  seq : Nat
  report : Bytes
  reportFlags : Nat
  reportAt : Nat
  flags : Nat
  savedHc : Nat
  savedRetention : Sparse Nat
  savedLegs : Sparse Rainflow
  savedOps : Sparse (Nat × Nat)
  flushAt : Nat
deriving DecidableEq, Repr

/-- Health of a new part. -/
def Health.reset : Health :=
  { hc := 0, hcHour := 0, rT := none, runHours := 0, hourAt := 0, paused := none, hotSince := none, coolSince := none, rings := [], retention := [],
    due := [], lines := [], rewrites := [], legs := [], legHour := [], dc := [], ops := [], opsHour := [], tjRange := 0, model := [], seq := 0,
    report := [], reportFlags := 0, reportAt := 0, flags := 0, savedHc := 0, savedRetention := [], savedLegs := [], savedOps := [],
    flushAt := 0 }


/-! ### Auxiliary axes (19_aux_axes.md) -/

/-- What waits for the next evaluation of an axis (R498). -/
structure AxReq where
  qstop : Bool
  stop : Bool
  home : Bool
  target : Option Int
deriving DecidableEq, Repr

/-- Nothing waits. -/
def AxReq.none : AxReq := { qstop := false, stop := false, home := false, target := Option.none }

/-- Homing in progress: the method, and whether the search runs toward the homing edge (methods 5 and 6 first run to a limit). -/
structure Homing where
  method : Nat
  armed : Bool
deriving DecidableEq, Repr

/-- A homing edge that has latched: the D1 tick, by how much the coordinate was shifted, the search it ended, and REHOME_ADVISED before it (R498). -/
structure Homed where
  count : Nat
  shift : Int
  search : Homing
  advised : Nat
deriving DecidableEq, Repr

/-- One axis beside its registers: velocity and acceleration in units of 2⁻³² counts/s and counts/s², the fraction of the
position in 2⁻³² counts, the target in force, whether the profile decelerates to reverse (R491), what waits for the next evaluation, homing, whether a
homing edge latched since the last evaluation and the last one that did, the level of AXn_DIR, the D1 tick of its last edge, the steps placed (D1
tick, whether DIR is high; newest first), the D1 tick up to which AXn_POS counts them, the levels of LIMP and LIMN as the axis has met them, A, B and Z, AXn_EN, whether it goes low at the
stop, when a following error began, whether a driver power-down or a restore waits for the encoder's confirmation, and whether the encoder erred
in it. -/
structure Axis where
  vel : Int
  acc : Int
  frac : Int
  target : Option Int
  back : Bool
  req : AxReq
  homing : Option Homing
  edge : Bool
  homed : Option Homed
  dir : Bool
  dirAt : Option Nat
  steps : List (Nat × Bool)
  counted : Nat
  limp : Bool
  limn : Bool
  encA : Bool
  encB : Bool
  encZ : Bool
  enabled : Bool
  dropEn : Bool
  errSince : Option Nat
  wasDown : Bool
  downErr : Bool
deriving DecidableEq, Repr

/-- An axis at rest. -/
def Axis.idle : Axis :=
  { vel := 0, acc := 0, frac := 0, target := none, back := false, req := AxReq.none, homing := none, edge := false, homed := none, dir := false, dirAt := none,
    steps := [], counted := 0, limp := false, limn := false, encA := false, encB := false, encZ := false, enabled := false, dropEn := false, errSince := none, wasDown := false,
    downErr := false }

/-! ### The whole state -/

/-- One entry of the journal (R458, R463, R477): what it records (1 a PIN reset's hold, 2 a HIBERNATE entry, 3 a lost interval of
counting, 4 the operations of a contactor, 5 a count of half cycles, 6 the estimates of a DC link), its postmark and its value. -/
structure JournalEntry where
  kind : Nat
  pm : Nat
  value : Nat
deriving DecidableEq, Repr

/-- The state of the node. Register fields are held by number (`Fld.key`), a field at its Reset value unlisted; what the spec
gives the machine beside its registers stands in the parts above. `axisNv` holds the positions of each axis
in non-volatile memory (R497), `fresh` counts the free values taken (see Config), `outbox`
holds what the node has sent, newest last, and `pending` the commands that wait, first in, first out. -/
structure State where
  regs : Sparse Nat
  time : TimeBase
  root : ClockRoot
  shadows : Sparse Shadow
  hidden : ModeState
  office : Office
  capture : Capture
  legs : Sparse Leg
  trips : Trips
  sense : Sense
  image : Option Image
  slots : SlotOps
  fabric : Fabric
  acceptance : List Accepted
  safety : Safety
  security : Security
  links : Links
  twin : Twin
  health : Health
  axes : Sparse Axis
  axisTick : Option Nat
  axisNv : Sparse (Int × Int)
  journal : List JournalEntry
  cycle : CycleSets
  fresh : Nat
  outbox : List OutMsg
  pending : List Instr
deriving DecidableEq, Repr

/-- Why a step faults: no step of this block does. The spec gives every command an effect, and what it forbids it answers with an
address error, a refusal code or no effect, all of them next states. Safe: nothing stops. -/
inductive Fault
deriving DecidableEq, Repr

/-- Why a command has no meaning. -/
inductive Refusal where
  /-- Raised by an arm of Machine/Dispatch.lean whose command has no meaning yet. Safe: nothing is claimed of it. -/
  | notModelled (mnemonic : String)
deriving DecidableEq, Repr

/-- The node right after power-on: every register at its Reset value, the rest as the parts above say, no command waiting. -/
def State.reset : State :=
  { regs := [], time := TimeBase.reset, root := ClockRoot.reset, shadows := [], hidden := ModeState.reset, office := Office.reset,
    capture := Capture.reset, legs := [], trips := Trips.reset, sense := Sense.reset, image := none, slots := SlotOps.reset,
    fabric := Fabric.reset, acceptance := [], safety := Safety.reset, security := Security.reset, links := Links.reset,
    twin := Twin.reset, health := Health.reset, axes := [], axisTick := none, axisNv := [], journal := [], cycle := CycleSets.reset, fresh := 0, outbox := [], pending := [] }

end Sys2Proof.Machine
end

