-- ==== Sys2Proof/Machine/Ops.lean ====
section
/-!
DEFINITION. The named operations over State that every meaning uses: register fields, time, frames, address errors, wires,
the geometry of sensing.
-/
namespace Sys2Proof.Machine

/-! ### Bits and bytes -/

/-- `n` little-endian bytes of a number. -/
def leBytes : Nat → Nat → Bytes
  | 0, _ => []
  | n + 1, v => BitVec.ofNat 8 v :: leBytes n (v / 256)

/-- The number of little-endian bytes. -/
def leNat : Bytes → Nat
  | [] => 0
  | b :: bs => b.toNat + 256 * leNat bs

/-- `n` big-endian bytes of a number. -/
def beBytes (n v : Nat) : Bytes := (leBytes n v).reverse

/-- The number of big-endian bytes. -/
def beNat (bs : Bytes) : Nat := leNat bs.reverse

/-- Set or clear one bit. -/
def setBit (v i : Nat) (b : Bool) : Nat :=
  if v.testBit i = b then v else if b then v + 2 ^ i else v - 2 ^ i

/-- A two's complement field of `w` bits as an integer. -/
def signed (w v : Nat) : Int := if v % 2 ^ w < 2 ^ (w - 1) then ((v % 2 ^ w : Nat) : Int) else ((v % 2 ^ w : Nat) : Int) - 2 ^ w

/-- An integer as a two's complement field of `w` bits. -/
def unsigned (w : Nat) (v : Int) : Nat := (v % (2 ^ w : Int)).toNat

/-- Bits [hi:lo] of a word. -/
def bitsOf (v hi lo : Nat) : Nat := v / 2 ^ lo % 2 ^ (hi - lo + 1)

/-! ### Register fields -/

/-- The value of a register field. -/
def State.get (s : State) (f : Fld) : Nat := sget f.reset s.regs f.key

/-- Set a register field, truncated to its width, which is at most the 32 bits of a register (R4). -/
def State.put (s : State) (f : Fld) (v : Nat) : State := { s with regs := sset f.reset s.regs f.key (v % 2 ^ min f.width 32) }

/-- The present D3 cycle, four D1 ticks. -/
def State.cycleNo (s : State) : Nat := s.time.count / 4

/-- What hardware has set in the present D3 cycle. -/
def State.cycleSets (s : State) : Sparse (Option (Nat × Nat)) := if s.cycle.at_ = s.cycleNo then s.cycle.sets else []

/-- Hardware sets something in a W1C or RC field; what it sets outlasts a clear or a read in the same D3 cycle (R6). -/
def State.event (s : State) (f : Fld) (upd : Nat → Nat) : State :=
  let (b, k) := (sget none s.cycleSets f.key).getD (s.get f, 0)
  { s.put f (upd (s.get f)) with cycle := { at_ := s.cycleNo, sets := sset none s.cycleSets f.key (some (b, upd k)) } }

/-- Hardware sets bits of a W1C field. -/
def State.mark (s : State) (f : Fld) (bits : Nat) : State := s.event f (· ||| bits)

/-- A count of events, at the end of its field at most. -/
def State.bump (s : State) (f : Fld) (n : Nat) : State := s.event f fun v => min (2 ^ f.width - 1) (v + n)

/-- A field as a read finds it: a W1C or RC field as it stood before the sets of the same D3 cycle (R6). -/
def State.shown (s : State) (f : Fld) : Nat :=
  if f.acc = .w1c ∨ f.acc = .rc then
    match sget none s.cycleSets f.key with
    | some (b, _) => b
    | none => s.get f
  else s.get f

/-- A W1C or RC field is cleared but for the bits of `keep`; what hardware sets in the same D3 cycle stays set (R6). -/
def State.clear (s : State) (f : Fld) (keep : Nat) : State :=
  match sget none s.cycleSets f.key with
  | some (b, k) =>
    { s.put f ((b &&& keep) ||| k) with cycle := { s.cycle with sets := sset none s.cycleSets f.key (some (b &&& keep, k)) } }
  | none => s.put f (s.get f &&& keep)

/-- The value of a _LO/_HI pair of fields. -/
def State.getPair (s : State) (lo hi : Fld) : Nat := s.get lo + s.get hi * 2 ^ 32

/-- Set a _LO/_HI pair. -/
def State.putPair (s : State) (lo hi : Fld) (v : Nat) : State := (s.put lo (v % 2 ^ 32)).put hi (v / 2 ^ 32)

/-- A fresh free value. -/
def State.freshNat (s : State) : Nat × State := (Config.freeNat s.fresh, { s with fresh := s.fresh + 1 })

/-- `n` fresh bytes of the random generator (R422): free values. -/
def State.freshBytes (s : State) (n : Nat) : Bytes × State := (leBytes n s.freshNat.1, s.freshNat.2)

/-- Send a message on a link. -/
def State.send (s : State) (m : OutMsg) : State := { s with outbox := s.outbox ++ [m] }

/-- MSGID of the next site frame (Table LK-2). -/
def State.nextMsgId (s : State) : State := { s with links := { s.links with msgId := (s.links.msgId + 1) % 65536 } }

/-- A cause of LK_HIRQ (R448); a bit that becomes set while enabled sends its MSI-X vector (R442). -/
def State.irq (s : State) (v : Nat) : State :=
  let c := s.get R.LK_HIRQ_CAUSE
  let s := if (s.get R.LK_HIRQ_EN_EN).testBit v && !c.testBit v then s.send (.msix v) else s
  s.mark R.LK_HIRQ_CAUSE (2 ^ v)

/-- An address error (R524): counted, with requester, kind and address; the quad-SPI STATUS byte notes its own. -/
def addrError (s : State) (r kind addr : Nat) : State :=
  let s := s.bump R.NODE_ADDRERR_COUNT 1
  let s := (s.put R.NODE_ADDRERR_REQ r).put R.NODE_ADDRERR_KIND kind
  let s := s.put R.NODE_ADDRERR_ADDR_ADDR addr
  if r = 1 then { s with links := { s.links with qspiErr := true } } else s

/-- The node runs: no reset is asserted and it is not in HIBERNATE (R456, R463). -/
def State.powered (s : State) : Bool := s.root.resetKind.isNone && !s.root.hibernate

/-- The outcome of a command that leaves the node as `t`: the queue stands as the step has left it. -/
def answers (s t : State) : Host.Outcome State Fault Refusal := .next { t with pending := s.pending }

/-- What a command does while the node runs; while a reset is asserted and in HIBERNATE nothing is there to do it. -/
def runs (s t : State) : Host.Outcome State Fault Refusal := answers s (if s.powered then t else s)

/-- A requester is served: with both firmware slots refused no service core runs, only the host ports do (R75, R408). -/
def State.serves (s : State) (r : Nat) : Bool := s.powered && (decide (r < 2) || !s.hidden.bootRefused)

/-- The links beside the host ports run: not with both firmware slots refused (R75, R408). -/
def State.linked (s : State) : Bool := s.powered && !s.hidden.bootRefused

/-- What a requester's command does while the requester is served. -/
def runsBy (r : Requester) (s t : State) : Host.Outcome State Fault Refusal := answers s (if s.serves r.num then t else s)

/-- What a frame or message of a link does while the links run. -/
def runsLink (s t : State) : Host.Outcome State Fault Refusal := answers s (if s.linked then t else s)

/-! ### Time (R29 to R32) -/

/-- The present postmark (U32.32). -/
def State.postmark (s : State) : Nat := s.time.acc / 2 ^ 40 % 2 ^ 64

/-- The present fine postmark at a tick (U32.40). -/
def State.finePostmark (s : State) : Nat := s.time.acc / 2 ^ 32 % 2 ^ 72

/-- A fine postmark of an event measured by the delay line: the tick's accumulator plus tap × 938,250 units of 2⁻⁵⁶ s (R32). -/
def State.finePostmarkTap (s : State) (tap : Nat) : Nat := (s.time.acc + tap * 938250 * 2 ^ 16) / 2 ^ 32 % 2 ^ 72

/-- The increment of one D1 tick in units of 2⁻⁷² s: nominal plus trim on the root (R32), the recomputed one on the shadow oscillator
(R454). -/
def State.increment (s : State) : Nat :=
  if s.get R.CK_STATUS_SHADOW = 1 then s.time.shadowInc
  else ((60047995 * 65536 : Int) + signed 32 (s.get R.POST_TRIM_TRIM)).toNat

/-- The end of the seconds count: the state becomes LOST and the counter stops at its maximum (R40). -/
def secondsEnd (s : State) : State :=
  let s := { s with time := { s.time with acc := (2 ^ 64 - 1) * 2 ^ 40, stopped := true } }
  let s := if s.get R.POST_STATUS_STATE = 5 then s else ((s.put R.POST_STATUS_STATE 5).mark R.POST_STATUS_CHANGED 1).irq 10
  let s := (s.put R.POST_TIG_TIMEBASE 1).put R.POST_TIG_HELD 0
  { s with fabric := { s.fabric with condHeld := false } }

/-- `n` ticks of D1 pass. -/
def State.ticks (s : State) (n : Nat) : State :=
  let d := n * s.increment
  let s := { s with time := { s.time with elapsed := s.time.elapsed + d, count := s.time.count + n }, root := { s.root with xtalTicks := s.root.xtalTicks + n } }
  if s.time.stopped then s
  else if 2 ^ 104 ≤ s.time.acc + d then secondsEnd s
  else { s with time := { s.time with acc := s.time.acc + d } }

/-- One tick of D1. -/
def State.tick (s : State) : State := s.ticks 1

/-- Ticks until the accumulator has grown by `d`. -/
def ticksFor (s : State) (d : Nat) : Nat := if s.increment = 0 then 0 else (d + s.increment - 1) / s.increment

/-- The first postmark that belongs to the present tick: an instant from here on has not been passed. Several events can fall in one tick. -/
def State.tickPm (s : State) : Nat := if s.time.acc < s.increment then 0 else (s.time.acc - s.increment) / 2 ^ 40 + 1

/-- Let the clock run forward to the first tick whose postmark is at or after `pm`; never backward. -/
def State.runTo (s : State) (pm : Nat) : State := s.ticks (ticksFor s (pm * 2 ^ 40 - s.time.acc))

/-- Let the clock run forward until `e` units of 2⁻⁷² s have elapsed in all; never backward. -/
def State.runElapsed (s : State) (e : Nat) : State := s.ticks (ticksFor s (e - s.time.elapsed))

/-- Microseconds as units of elapsed time. -/
def usec (n : Nat) : Nat := n * 2 ^ 72 / 1000000

/-- Units of elapsed time since an instant. -/
def State.since (s : State) (e : Nat) : Nat := s.time.elapsed - e

/-! ### Frames (R31) -/

/-- F_k for a frame rate. -/
def frameStart (f k : Nat) : Nat := if f = 0 then 0 else (k / f) * 2 ^ 32 + (k % f) * 2 ^ 32 / f

/-- The frame in which a postmark lies. -/
def frameAt (f pm : Nat) : Nat := (pm / 2 ^ 32) * f + ((pm % 2 ^ 32 + 1) * f - 1) / 2 ^ 32

/-- The first frame whose start is at or after a postmark. -/
def frameFrom (f pm : Nat) : Nat := (pm / 2 ^ 32) * f + (pm % 2 ^ 32 * f + 2 ^ 32 - 1) / 2 ^ 32

/-- f_frame of the active image, 0 without one. -/
def State.fFrame (s : State) : Nat := match s.image with
  | some im => im.frate
  | none => 0

/-! ### Wires -/

/-- The value of a wire (binary32). -/
def State.wireBits (s : State) (w : Nat) : Nat := (sget (0, 0) s.fabric.wires w).1

/-- The status of a wire: bit 0 VALID, then the bits of R154. -/
def State.wireStat (s : State) (w : Nat) : Nat := (sget (0, 0) s.fabric.wires w).2

/-! ### Geometry of sensing (R264, R268) -/

/-- Decimation D of a ROM response (Table SN-3). -/
def romD (r : Nat) : Nat :=
  if r ≤ 5 then 1 else if r ≤ 12 then 2 else if r = 13 then 4 else if r ≤ 21 then 1 else if r ≤ 25 then 2 else if r ≤ 29 then 4
  else 1

/-- Taps L of a ROM response (Table SN-3). -/
def romL (r : Nat) : Nat :=
  if r = 0 then 1 else if r ≤ 5 then 15 else if r ≤ 10 then 39
  else [23, 47, 63, 7, 11, 15, 23, 31, 47, 63, 95, 31, 47, 63, 95, 63, 95, 127, 191, 3, 8].getD (r - 11) 1

/-- The modulator period of a channel in D1 ticks: P_M of its bank or P_S of its slice's group; 0 where none is set. -/
def modPeriod (im : Image) (chan : Nat) : Nat :=
  if chan < 96 then (im.banks.getD (chan / 8) ⟨0, 0, 0, 0, 0⟩).pm
  else (im.groups.getD ((chan - 96) / 6) ⟨0, 0⟩).ps

/-- Output period of path p in D1 ticks, 0 where the image defines no such path. -/
def outPeriod (s : State) (p : Nat) : Nat :=
  match s.image with
  | none => 0
  | some im => match im.pathRec? p with
    | none => 0
    | some r => r.r * romD (r.banks.getD 0 0) * modPeriod im p

/-- Two paths have the same triggers. -/
def sameTriggers (s : State) (a b : Nat) : Bool := outPeriod s a == outPeriod s b && outPeriod s a != 0

/-- Trigger i of frame k of a path with `n` outputs in a frame (R264). -/
def triggerAt (f k n i : Nat) : Nat := frameStart f k + i * (frameStart f (k + 1) - frameStart f k) / n

/-- The first trigger of path p at or after a postmark (R264); none where the path is undefined. -/
def firstTrigger (s : State) (p pm : Nat) : Option Nat :=
  let per := outPeriod s p
  let f := s.fFrame
  if per = 0 ∨ f = 0 then none
  else
    let n := 1200000000 / (f * per)
    if 0 < n then
      let k := frameAt f pm
      match (List.range n).find? (fun i => decide (pm ≤ triggerAt f k n i)) with
      | some i => some (triggerAt f k n i)
      | none => some (frameStart f (k + 1))
    else
      let a := f * per / 1200000000
      let k := frameFrom f pm
      some (frameStart f ((k + a - 1) / a * a))

/-- The hidden part of path p. -/
def State.path (s : State) (p : Nat) : Path := sget Path.idle s.sense.paths p
/-- Set the hidden part of path p. -/
def State.setPath (s : State) (p : Nat) (x : Path) : State :=
  { s with sense := { s.sense with paths := sset Path.idle s.sense.paths p x } }

/-- The response of a path's active bank. -/
def activeResp (s : State) (p : Nat) : Nat := s.get (R.DEC_PATHp_BANK_ARESP p)

/-- U = ⌈(K + L − 1)/D⌉ of a path (R268). -/
def pathU (s : State) (p : Nat) : Nat :=
  let d := romD (activeResp s p)
  (s.get (R.DEC_PATHp_CFG_K p) + romL (activeResp s p) - 1 + d - 1) / d

/-- The spare is connected to the pins of slice n: it fills, or stands in for it (R276). -/
def spareServes (s : State) (n : Nat) : Bool :=
  s.sense.subst == some n || (s.sense.calStart.isSome && s.get R.SN_CAL_STEP == n && s.get R.SN_CAL_PHASE != 0)

/-- The slice that feeds path p, a slice path. -/
def pathSlice (s : State) (p : Nat) : Nat := s.get (R.DEC_PATHp_CFG_SRC p) - 96

/-- An event that clears a path's sinc state and delay line, those of a spare that serves it among them, and makes it mark its next U outputs
UNSETTLED (R269). -/
def pathUnsettle (s : State) (p : Nat) : State :=
  let s := if 96 ≤ p ∧ spareServes s (pathSlice s p) then
      { s with sense := { s.sense with spare := { s.sense.spare with integ := [], comb := [], line := [] } } }
    else s
  s.setPath p { s.path p with integ := [], comb := [], line := [], unsettled := pathU s p, flush := 0 }

/-- The response of bank b of path p. -/
def bankResp (s : State) (p b : Nat) : Nat := match s.image.bind (·.pathRec? p) with
  | some r => r.banks.getD b 0
  | none => 0

/-- τ_g of path p through a response in postmark units (R265): P·(1 + K(R − 1)/2 + gR) − A_d ticks with 2g = L − 1; below 0 where CLKADJ exceeds the
filter's delay. -/
def pathTau (s : State) (p resp : Nat) : Int :=
  match s.image with
  | none => 0
  | some im =>
    let per := modPeriod im p
    let k := s.get (R.DEC_PATHp_CFG_K p)
    let r := s.get (R.DEC_PATHp_CFG_R p)
    let twice := per * (2 + k * (r - 1) + (romL resp - 1) * r)
    let adj := if p < 96 then s.get (R.SN_BANKb_CLKADJ (p / 8)) else 0
    let twice : Int := if p < 96 then (twice : Int) - 2 * (adj : Int) else (twice : Int) + 2 * (per : Int)
    twice * 2 ^ 32 / 2400000000

/-- Bank b of path p becomes the active one. -/
def setActiveBank (s : State) (p b : Nat) : State :=
  let s := (s.put (R.DEC_PATHp_BANK_ABANK p) b).put (R.DEC_PATHp_BANK_ARESP p) (bankResp s p b)
  s.put (R.DEC_PATHp_DLY_UNITS p) (unsigned 32 (pathTau s p (bankResp s p b)))

/-- A fade on path p ends with its target bank active (R270, R286). -/
def fadeEnd (s : State) (p : Nat) : State :=
  match (s.path p).fade with
  | none => s
  | some (_, _, b) =>
    let s := setActiveBank (s.setPath p { s.path p with fade := none }) p b
    (s.put (R.DEC_PATHp_BANK_FADING p) 0).put (R.DEC_PATHp_BANK_XFLEFT p) 0

/-- Every path of the image. -/
def imagePaths (s : State) : List Nat := match s.image with
  | none => []
  | some im => im.paths.map (·.chan)

/-- N_x of path p: max(1, ⌈T_XF·f_out⌉). -/
def fadeLength (s : State) (p : Nat) : Nat :=
  let txf := match s.image.bind (·.pathRec? p) with
    | some r => r.txf
    | none => 0
  let per := outPeriod s p
  if per = 0 then 1 else max 1 ((txf * 600000 + per - 1) / per)

/-- A fade to bank b begins at the next output. -/
def fadeStart (s : State) (p b : Nat) : State :=
  let n := fadeLength s p
  let s := s.setPath p { s.path p with fade := some (0, n, b), held := none }
  let s := (s.put (R.DEC_PATHp_BANK_FADING p) 1).put (R.DEC_PATHp_BANK_TBANK p) b
  (s.put (R.DEC_PATHp_BANK_HELD p) 0).put (R.DEC_PATHp_BANK_XFLEFT p) (min 65535 n)

/-- A running fade to bank b ends with b active, and a request held meanwhile runs (R270). -/
def fadeClose (s : State) (p b : Nat) : State :=
  let s := fadeEnd s p
  match (s.path p).held with
  | some h => if h = b then (s.setPath p { s.path p with held := none }).put (R.DEC_PATHp_BANK_HELD p) 0 else fadeStart s p h
  | none => s

/-- Every fade completes at once (R286); held requests run (R270). -/
def fadesEnd (s : State) : State :=
  (imagePaths s).foldl (fun s p => match (s.path p).fade with
    | some (_, _, b) => fadeClose s p b
    | none => s) s

/-- The same for every path of the image. -/
def unsettleAll (s : State) : State := (imagePaths s).foldl pathUnsettle s

/-- Length of a HEALTH section of COUNT records (Table HL-1). -/
def healthSize (n : Nat) : Nat := 32 + 32 * n

end Sys2Proof.Machine
end

