-- ==== Sys2Proof/Machine/Crypto.lean ====
section
/-!
DEFINITION. The cryptographic functions the spec names (spec/15_security.md R402, R404, R417, R418): SHA-512, MGF1 with it, RSA-4096
with public exponent 65,537, RSASSA-PSS and RSA-OAEP under PKCS#1 v2.2, AES-256 and its GCM mode.
-/
namespace Sys2Proof.Machine

/-! ### SHA-512 -/

/-- The first 80 primes, whose cube roots give the round constants. -/
def shaPrimes : List Nat :=
  [2, 3, 5, 7, 11, 13, 17, 19, 23, 29, 31, 37, 41, 43, 47, 53, 59, 61, 67, 71]
  ++ [73, 79, 83, 89, 97, 101, 103, 107, 109, 113, 127, 131, 137, 139, 149, 151, 157, 163, 167, 173]
  ++ [179, 181, 191, 193, 197, 199, 211, 223, 227, 229, 233, 239, 241, 251, 257, 263, 269, 271, 277, 281]
  ++ [283, 293, 307, 311, 313, 317, 331, 337, 347, 349, 353, 359, 367, 373, 379, 383, 389, 397, 401, 409]

/-- Integer cube root by bits: the largest r below 2^k more with r³ ≤ n. -/
def icbrtBits (n : Nat) : Nat → Nat → Nat
  | 0, r => r
  | k + 1, r => icbrtBits n k (let c := r + 2 ^ k; if c * c * c ≤ n then c else r)

/-- Round constants: the first 64 fraction bits of the cube roots. -/
def shaK : List Nat := shaPrimes.map fun p => icbrtBits (p * 2 ^ 192) 68 0 % 2 ^ 64

/-- Initial hash value: the first 64 fraction bits of the square roots of the first eight primes. -/
def shaH0 : List Nat := (shaPrimes.take 8).map fun p => isqrtBits (p * 2 ^ 128) 68 0 % 2 ^ 64

/-- Rotation of a 64-bit word to the right. -/
def rotr64 (x n : Nat) : Nat := (x / 2 ^ n) ||| (x * 2 ^ (64 - n) % 2 ^ 64)

/-- The next word of the message schedule from the last sixteen, oldest first. -/
def shaNext (w : List Nat) : Nat :=
  let a := w.getD 1 0
  let b := w.getD 14 0
  let s0 := rotr64 a 1 ^^^ rotr64 a 8 ^^^ (a / 2 ^ 7)
  let s1 := rotr64 b 19 ^^^ rotr64 b 61 ^^^ (b / 2 ^ 6)
  (w.getD 0 0 + s0 + w.getD 9 0 + s1) % 2 ^ 64

/-- One round on the registers a to h. -/
def shaRound (k w : Nat) (r : List Nat) : List Nat :=
  match r with
  | [a, b, c, d, e, f, g, h] =>
    let t1 := h + (rotr64 e 14 ^^^ rotr64 e 18 ^^^ rotr64 e 41) + ((e &&& f) ^^^ ((2 ^ 64 - 1 - e) &&& g)) + k + w
    let t2 := (rotr64 a 28 ^^^ rotr64 a 34 ^^^ rotr64 a 39) + ((a &&& b) ^^^ (a &&& c) ^^^ (b &&& c))
    [(t1 + t2) % 2 ^ 64, a, b, c, (d + t1) % 2 ^ 64, e, f, g]
  | r => r

/-- The rounds over the remaining constants. -/
def shaRounds : List Nat → List Nat → List Nat → List Nat
  | [], _, r => r
  | k :: ks, w, r => shaRounds ks (w.drop 1 ++ [shaNext w]) (shaRound k (w.getD 0 0) r)

/-- One block of 16 words. -/
def shaBlock (h w : List Nat) : List Nat := List.zipWith (fun a b => (a + b) % 2 ^ 64) h (shaRounds shaK w h)

/-- The blocks of a padded message, `n` blocks. -/
def shaBlocks : Nat → List Nat → Bytes → List Nat
  | 0, h, _ => h
  | n + 1, h, bs =>
    let w := (List.range 16).map fun i => beNat ((bs.drop (8 * i)).take 8)
    shaBlocks n (shaBlock h w) (bs.drop 128)

/-- SHA-512. -/
def sha512 (m : Bytes) : Bytes :=
  let pad := (239 - m.length % 128) % 128
  let p := m ++ [0x80] ++ List.replicate pad 0 ++ beBytes 16 (8 * m.length)
  (shaBlocks (p.length / 128) shaH0 p).flatMap (beBytes 8)

/-- MGF1 with SHA-512: `n` blocks from counter c. -/
def mgfBlocks (seed : Bytes) : Nat → Nat → Bytes
  | 0, _ => []
  | n + 1, c => sha512 (seed ++ beBytes 4 c) ++ mgfBlocks seed n (c + 1)

/-- MGF1 with SHA-512. -/
def mgf1 (seed : Bytes) (len : Nat) : Bytes := (mgfBlocks seed ((len + 63) / 64) 0).take len

/-- Bytewise exclusive or. -/
def xorBytes (a b : Bytes) : Bytes := List.zipWith (· ^^^ ·) a b

/-! ### RSA -/

/-- b^e mod n over the low `k` bits of e. -/
def powModBits (n e : Nat) : Nat → Nat → Nat
  | 0, _ => 1 % n
  | k + 1, b =>
    let r := powModBits n (e / 2) k (b * b % n)
    if e % 2 = 1 then r * b % n else r

/-- b^e mod n. -/
def powMod (b e n : Nat) : Nat := powModBits n e (Nat.log2 e + 1) (b % n)

/-- The public operation (R402). -/
def rsaPublic (n m : Nat) : Nat := powMod m 65537 n

/-- KEYID: the first 32 bytes of SHA-512 over the modulus, big-endian (R402). -/
def keyId (n : Nat) : Bytes := (sha512 (beBytes 512 n)).take 32

/-- The encoded message of RSASSA-PSS with SHA-512 and a 64-byte salt, 4,095 bits. -/
def pssEncode (msg salt : Bytes) : Bytes :=
  let h := sha512 (List.replicate 8 0 ++ sha512 msg ++ salt)
  let db := List.replicate 382 0 ++ [0x01] ++ salt
  match xorBytes db (mgf1 h 447) with
  | b :: bs => (b &&& 0x7F) :: bs ++ h ++ [0xBC]
  | [] => []

/-- RSASSA-PSS verification under modulus n (R404). -/
def pssVerify (n : Nat) (msg sig : Bytes) : Bool :=
  let s := beNat sig
  let em := beBytes 512 (rsaPublic n s)
  let h := (em.drop 447).take 64
  let db := match xorBytes (em.take 447) (mgf1 h 447) with
    | b :: bs => (b &&& 0x7F) :: bs
    | [] => []
  sig.length == 512 && decide (2 ^ 4095 ≤ n) && decide (s < n) && decide ((em.getD 0 0).toNat < 128)
    && em.getD 511 0 == 0xBC
    && db.take 383 == List.replicate 382 0 ++ [0x01]
    && sha512 (List.replicate 8 0 ++ sha512 msg ++ db.drop 383) == h

/-- RSASSA-PSS signature with a private exponent and a salt. -/
def pssSign (n d : Nat) (msg salt : Bytes) : Bytes := beBytes 512 (powMod (beNat (pssEncode msg salt)) d n)

/-- RSA-OAEP with SHA-512 under modulus n. -/
def oaepEncrypt (n : Nat) (msg label seed : Bytes) : Bytes :=
  let db := sha512 label ++ List.replicate (382 - msg.length) 0 ++ [0x01] ++ msg
  let mdb := xorBytes db (mgf1 seed 447)
  let ms := xorBytes seed (mgf1 mdb 64)
  beBytes 512 (rsaPublic n (beNat (0 :: ms ++ mdb)))

/-- The message behind the zero padding and the byte 1 of a data block. -/
def oaepBody : Bytes → Option Bytes
  | [] => none
  | b :: bs => if b = 0 then oaepBody bs else if b = 1 then some bs else none

/-- RSA-OAEP decryption with a private exponent. -/
def oaepDecrypt (n d : Nat) (c label : Bytes) : Option Bytes :=
  if c.length ≠ 512 ∨ n ≤ beNat c then none
  else
    let em := beBytes 512 (powMod (beNat c) d n)
    let mdb := em.drop 65
    let seed := xorBytes ((em.drop 1).take 64) (mgf1 mdb 64)
    let db := xorBytes mdb (mgf1 seed 447)
    if em.getD 0 0 ≠ 0 ∨ db.take 64 ≠ sha512 label then none else oaepBody (db.drop 64)

/-! ### AES-256 -/

/-- Multiplication by x in GF(2⁸). -/
def aesX (a : Nat) : Nat := if a < 128 then 2 * a else (2 * a - 256) ^^^ 0x1B

/-- Multiplication in GF(2⁸) over `k` bits of b. -/
def aesMulBits (b : Nat) : Nat → Nat → Nat
  | 0, _ => 0
  | k + 1, a => (if b % 2 = 1 then a else 0) ^^^ aesMulBits (b / 2) k (aesX a)

/-- Multiplication in GF(2⁸). -/
def aesMul (a b : Nat) : Nat := aesMulBits b 8 a

/-- The inverse, a²⁵⁴. -/
def aesInv (a : Nat) : Nat :=
  let a2 := aesMul a a
  let a4 := aesMul a2 a2
  let a8 := aesMul a4 a4
  let a16 := aesMul a8 a8
  let a32 := aesMul a16 a16
  let a64 := aesMul a32 a32
  let a128 := aesMul a64 a64
  aesMul a128 (aesMul a64 (aesMul a32 (aesMul a16 (aesMul a8 (aesMul a4 a2)))))

/-- Rotation of a byte to the left. -/
def rotl8 (a n : Nat) : Nat := (a * 2 ^ n % 256) ||| (a / 2 ^ (8 - n))

/-- One entry of the S-box. -/
def aesSub (a : Nat) : Nat :=
  let i := aesInv a
  i ^^^ rotl8 i 1 ^^^ rotl8 i 2 ^^^ rotl8 i 3 ^^^ rotl8 i 4 ^^^ 0x63

/-- The key schedule of AES-256: the last eight words, oldest first, and the words still to come from number i. -/
def aesExpand : Nat → Nat → Nat → List (List Nat) → List (List Nat)
  | 0, _, _, _ => []
  | n + 1, i, rc, w =>
    let t := w.getD 7 []
    let t := if i % 8 = 0 then
        match t with
        | [a, b, c, d] => [aesSub b ^^^ rc, aesSub c, aesSub d, aesSub a]
        | t => t
      else if i % 8 = 4 then t.map aesSub else t
    let x := List.zipWith (· ^^^ ·) (w.getD 0 []) t
    x :: aesExpand n (i + 1) (if i % 8 = 0 then aesX rc else rc) (w.drop 1 ++ [x])

/-- Sixteen bytes of round key r. -/
def aesRoundKey (ws : List (List Nat)) (r : Nat) : List Nat := ((ws.drop (4 * r)).take 4).flatten

/-- The words of the whole schedule. -/
def aesKey (key : Bytes) : List (List Nat) :=
  let k := key.map (·.toNat)
  let w := (List.range 8).map fun i => (k.drop (4 * i)).take 4
  w ++ aesExpand 52 8 1 w

/-- ShiftRows. -/
def aesShift (b : List Nat) : List Nat := (List.range 16).map fun i => b.getD ((i + 4 * (i % 4)) % 16) 0

/-- MixColumns. -/
def aesMix (b : List Nat) : List Nat := (List.range 16).map fun i =>
  let c := i / 4 * 4
  let at_ (j : Nat) := b.getD (c + (i + j) % 4) 0
  aesMul (at_ 0) 2 ^^^ aesMul (at_ 1) 3 ^^^ at_ 2 ^^^ at_ 3

/-- Rounds r to 13, then round 14. -/
def aesRounds (ws : List (List Nat)) : Nat → Nat → List Nat → List Nat
  | 0, r, b => List.zipWith (· ^^^ ·) (aesShift (b.map aesSub)) (aesRoundKey ws r)
  | n + 1, r, b => aesRounds ws n (r + 1) (List.zipWith (· ^^^ ·) (aesMix (aesShift (b.map aesSub))) (aesRoundKey ws r))

/-- One block of AES-256. -/
def aesBlock (ws : List (List Nat)) (b : Bytes) : Bytes :=
  (aesRounds ws 13 1 (List.zipWith (· ^^^ ·) (b.map (·.toNat)) (aesRoundKey ws 0))).map (BitVec.ofNat 8)

/-! ### GCM -/

/-- Multiplication in GF(2¹²⁸) of GCM over the bits of x from bit k − 1 down. -/
def gcmMulBits (x : Nat) : Nat → Nat → Nat → Nat
  | 0, _, z => z
  | k + 1, v, z =>
    gcmMulBits x k (if v % 2 = 1 then v / 2 ^^^ (0xE1 * 2 ^ 120) else v / 2) (if x.testBit k then z ^^^ v else z)

/-- GHASH over 16-byte blocks, `n` of them. -/
def ghash (h : Nat) : Nat → Nat → Bytes → Nat
  | 0, y, _ => y
  | n + 1, y, bs => ghash h n (gcmMulBits (y ^^^ beNat (bs.take 16)) 128 h 0) (bs.drop 16)

/-- Bytes padded with zeros to a whole number of blocks. -/
def gcmPad (b : Bytes) : Bytes := b ++ List.replicate ((16 - b.length % 16) % 16) 0

/-- The key stream of `n` blocks from counter c. -/
def gcmStream (ws : List (List Nat)) (iv : Bytes) : Nat → Nat → Bytes
  | 0, _ => []
  | n + 1, c => aesBlock ws (iv ++ beBytes 4 c) ++ gcmStream ws iv n (c + 1)

/-- Encryption and decryption alike: the text under the key stream. -/
def gcmCrypt (key iv text : Bytes) : Bytes := xorBytes text (gcmStream (aesKey key) iv ((text.length + 15) / 16) 2)

/-- The tag over additional data and ciphertext. -/
def gcmTag (key iv aad cipher : Bytes) : Bytes :=
  let ws := aesKey key
  let h := beNat (aesBlock ws (List.replicate 16 0))
  let d := gcmPad aad ++ gcmPad cipher ++ beBytes 8 (8 * aad.length) ++ beBytes 8 (8 * cipher.length)
  xorBytes (beBytes 16 (ghash h (d.length / 16) 0 d)) (aesBlock ws (iv ++ beBytes 4 1))

end Sys2Proof.Machine
end

