-- ==== Sys2Proof/Machine/Kinds.lean ====
section
/-!
DEFINITION. The block library as pure functions (spec/06_fabric.md R168 to R174, spec/04_forming_voltage.md R90 to R108): what
each kind computes from its inputs, parameters and state variables, in binary32 and in the order the equations are written.
-/
namespace Sys2Proof.Machine

/-- One value written to an output: value, and whether the block itself raises OVERRANGE on it. -/
abbrev OutVal := Nat × Bool

/-- What an evaluation gives: output values in port order (vectors flattened), the new state variables. -/
structure KindOut where
  outs : List OutVal
  vars : List Nat
deriving DecidableEq, Repr

/-- 1.0 for true, 0.0 for false. -/
def fbool (b : Bool) : Nat := if b then f32one else 0

/-- X ≥ 0.5. -/
def fhigh (x : Nat) : Bool := f32le f32half x

/-- Element of a list of values, +0.0 beyond its end. -/
def nthF (l : List Nat) (i : Nat) : Nat := l.getD i 0

/-- ADD (R168). -/
def kAdd (signs : Nat) : Nat → Nat → List Nat → Nat
  | _, y, [] => y
  | i, y, x :: xs => kAdd signs (i + 1) (if signs.testBit i then fsub y x else fadd y x) xs

/-- MAC (R168): c0 and then K_i × A_i × B_i added in order. -/
def kMac : Nat → List Nat → List Nat → List Nat → Nat
  | y, k :: ks, a :: as, b :: bs => kMac (fadd y (fmul (fmul k a) b)) ks as bs
  | y, _, _, _ => y

/-- LIMIT (R168): the new y and whether the clamp or the rate limit acted. -/
def kLimit (x lo hi rate ts yPrev : Nat) : Nat × Bool :=
  let y := if f32lt hi lo then lo else fclamp x lo hi
  let y2 := if f32lt 0 rate then
      let r := fmul rate ts
      fmin (fmax y (fsub yPrev r)) (fadd yPrev r)
    else y
  (y2, !f32eq y2 x)

/-- LOOKUP (R168) over points (x_i, y_i): the value and whether X lies outside the table. -/
def kLookup (x : Nat) : List (Nat × Nat) → Nat × Bool
  | [] => (0, true)
  | [p] => (p.2, !f32eq x p.1)
  | p :: q :: ps =>
    if f32lt x p.1 then (p.2, true)
    else if f32lt x q.1 then (fadd p.2 (fmul (fsub x p.1) (fdiv (fsub q.2 p.2) (fsub q.1 p.1))), false)
    else kLookup x (q :: ps)

/-- 3.0, 1/√3 and the like as binary32. -/
def f32three : Nat := 0x40400000
/-- √3 rounded to binary32. -/
def f32sqrt3 : Nat := fsqrt f32three
/-- 2π, the binary32 value of R97. -/
def f32twoPi : Nat := 0x40C90FDB

/-- CLARKE (R169): α = (2a − b − c)/3, β = (b − c)/√3, z = (a + b + c)/3. -/
def kClarke (a b c : Nat) : List Nat :=
  [fdiv (fsub (fsub (fmul f32two a) b) c) f32three, fdiv (fsub b c) f32sqrt3, fdiv (fadd (fadd a b) c) f32three]

/-- PARK by +θ: d = α cos + β sin, q = β cos − α sin (R169). -/
def kPark (al be th : Nat) (neg : Bool) : List Nat :=
  let c := fcos th
  let s := if neg then f32negate (fsin th) else fsin th
  [fadd (fmul al c) (fmul be s), fsub (fmul be c) (fmul al s)]

/-- IPARK, the inverse of PARK (R169). -/
def kIpark (d q th : Nat) (neg : Bool) : List Nat :=
  let c := fcos th
  let s := if neg then f32negate (fsin th) else fsin th
  [fsub (fmul d c) (fmul q s), fadd (fmul d s) (fmul q c)]

/-- SEQ (R169): inputs α β z θ, parameter T_SEQ, states dp qp dn qn. -/
def kSeq (al be z th tseq ts : Nat) (st : List Nat) : KindOut :=
  let a := fmin (fdiv ts tseq) f32one
  let dp := nthF st 0
  let qp := nthF st 1
  let dn := nthF st 2
  let qn := nthF st 3
  let c := fcos th
  let s := fsin th
  let t2 := fmul f32two th
  let c2 := fcos t2
  let s2 := fsin t2
  let d1 := fadd (fmul al c) (fmul be s)
  let q1 := fsub (fmul be c) (fmul al s)
  let d2 := fsub (fmul al c) (fmul be s)
  let q2 := fadd (fmul al s) (fmul be c)
  let xdp := fsub d1 (fadd (fmul dn c2) (fmul qn s2))
  let xqp := fsub q1 (fsub (fmul qn c2) (fmul dn s2))
  let xdn := fsub d2 (fsub (fmul dp c2) (fmul qp s2))
  let xqn := fsub q2 (fadd (fmul dp s2) (fmul qp c2))
  let dp := fadd dp (fmul a (fsub xdp dp))
  let qp := fadd qp (fmul a (fsub xqp qp))
  let dn := fadd dn (fmul a (fsub xdn dn))
  let qn := fadd qn (fmul a (fsub xqn qn))
  { outs := [(dp, false), (qp, false), (dn, false), (qn, false), (z, false)], vars := [dp, qp, dn, qn] }

/-- PI (R170): parameters KP TI TT U_MIN U_MAX X0, state x. -/
def kPi (r y ff : Nat) (track : Option Nat) (rst : Nat) (p : List Nat) (ts : Nat) (st : List Nat) : KindOut :=
  let kp := nthF p 0
  let ti := nthF p 1
  let tt := if f32zero? (nthF p 2) then ti else nthF p 2
  let lo := nthF p 3
  let hi := nthF p 4
  let x := if fhigh rst then nthF p 5 else nthF st 0
  let e := fsub r y
  let u := fadd (fadd (fmul kp e) x) ff
  let uc := fclamp u lo hi
  let ua := match track with
    | some t => fclamp t lo hi
    | none => uc
  let x := fadd (fadd x (fmul (fdiv ts ti) (fmul kp e))) (fmul (fdiv ts tt) (fsub ua u))
  { outs := [(uc, !f32eq uc u), (fbool (!f32eq ua u), !f32eq uc u)], vars := [x] }

/-- PRES (R171): inputs E W HOLD, parameters KR H ZETA PHI, ω_b, states s1 s2. -/
def kPres (e w hold : Nat) (p : List Nat) (wb ts : Nat) (st : List Nat) : KindOut :=
  let kr := nthF p 0
  let zeta := nthF p 2
  let phi := nthF p 3
  let s1 := nthF st 0
  let s2 := nthF st 1
  let wh := fmul (fmul (f32ofNat (nthF p 1)) wb) w
  let a := fmul (fmul f32half wh) ts
  if !(f32lt 0 a) || f32lt 0x3FC00000 a then { outs := [(0, true)], vars := [s1, s2] }
  else
    let kk := fmul wh (fdiv (fcos a) (fsin a))
    let cp := fcos phi
    let sp := fsin phi
    let b0 := fmul kr (fsub (fmul kk cp) (fmul wh sp))
    let b1 := fmul kr (fmul (fmul 0xC0000000 wh) sp)
    let b2 := fmul kr (fsub (f32negate (fmul kk cp)) (fmul wh sp))
    let z2 := fmul (fmul (fmul f32two zeta) wh) kk
    let k2 := fmul kk kk
    let w2 := fmul wh wh
    let a0 := fadd (fadd k2 z2) w2
    let a1 := fmul f32two (fsub w2 k2)
    let a2 := fadd (fsub k2 z2) w2
    let g := fdiv f32one a0
    let n0 := fmul b0 g
    let n1 := fmul b1 g
    let n2 := fmul b2 g
    let m1 := fmul a1 g
    let m2 := fmul a2 g
    let u := fadd (fmul n0 e) s1
    if fhigh hold then { outs := [(u, false)], vars := [s1, s2] }
    else
      { outs := [(u, false)]
        vars := [fadd (fsub (fmul n1 e) (fmul m1 u)) s2, fsub (fmul n2 e) (fmul m2 u)] }

/-- LEADLAG (R171): parameters K T1 T2, states x1 y1. -/
def kLeadlag (x : Nat) (p : List Nat) (ts : Nat) (st : List Nat) : KindOut :=
  let c := fmul f32two (nthF p 1)
  let d := fmul f32two (nthF p 2)
  let b0 := fmul (nthF p 0) (fadd ts c)
  let b1 := fmul (nthF p 0) (fsub ts c)
  let a0 := fadd ts d
  let a1 := fsub ts d
  let y := fdiv (fsub (fadd (fmul b0 x) (fmul b1 (nthF st 0))) (fmul a1 (nthF st 1))) a0
  { outs := [(y, false)], vars := [x, y] }

/-- BIQUAD sections in direct form II transposed (R171): five words and two states each. -/
def kBiquad : Nat → List Nat → List Nat → Nat × List Nat
  | x, b0 :: b1 :: b2 :: a1 :: a2 :: ps, s1 :: s2 :: st =>
    let y := fadd (fmul b0 x) s1
    let t1 := fadd (fsub (fmul b1 x) (fmul a1 y)) s2
    let t2 := fsub (fmul b2 x) (fmul a2 y)
    let (z, rest) := kBiquad y ps st
    (z, t1 :: t2 :: rest)
  | x, _, _ => (x, [])

/-- DCREG (R173): inputs V_DC V_REF I_MEAS P_FF; FORM 0 has states xv xi. -/
def kDcreg (vdc vref imeas : Nat) (pff : Option Nat) (p : List Nat) (ts : Nat) (st : List Nat) : KindOut :=
  if nthF p 0 = 1 then
    let u := fdiv (fsub vdc (nthF p 1)) (fsub (nthF p 2) (nthF p 1))
    let d := fclamp u 0 f32one
    { outs := [(d, !f32eq d u), (0, false), (fbool (!f32eq d u), false)], vars := st }
  else
    let kpv := nthF p 1
    let tiv := nthF p 2
    let kpi := nthF p 3
    let tii := nthF p 4
    let imax := nthF p 5
    let xv := nthF st 0
    let xi := nthF st 1
    let ff := match pff with
      | some q => if f32lt 0 vdc then fdiv q vdc else 0
      | none => 0
    let ev := fsub vref vdc
    let uv := fadd (fadd (fmul kpv ev) xv) ff
    let iref := fclamp uv (f32negate imax) imax
    let xv := fadd (fadd xv (fmul (fdiv ts tiv) (fmul kpv ev))) (fmul (fdiv ts tiv) (fsub iref uv))
    let ei := fsub iref imeas
    let ui := fadd (fmul kpi ei) xi
    let duty := fclamp ui 0 f32one
    let xi := fadd (fadd xi (fmul (fdiv ts tii) (fmul kpi ei))) (fmul (fdiv ts tii) (fsub duty ui))
    let c1 := !f32eq iref uv
    let c2 := !f32eq duty ui
    { outs := [(duty, c2), (iref, c1), (fbool (c1 || c2), false)], vars := [xv, xi] }

/-- SWING (R90 to R92): inputs P_SET P_F W_REF GUARD_EN P_GUARD; parameters H D DREF T_D W_MIN W_MAX W_INIT; states ω ω_d. -/
def kSwing (pset pf : Nat) (wref : Option Nat) (guardEn pguard : Nat) (p : List Nat) (ts : Nat) (st : List Nat) : KindOut :=
  let h := nthF p 0
  let d := nthF p 1
  let w := nthF st 0
  let wd0 := nthF st 1
  let wd := if nthF p 2 = 0 ∧ wref.isNone then f32one else wd0
  let pe := if fhigh guardEn then pguard else pset
  let wn := fadd w (fmul (fdiv ts (fmul f32two h)) (fsub (fsub pe pf) (fmul d (fsub w wd))))
  let lo := nthF p 4
  let hi := nthF p 5
  let cl := f32lt wn lo || f32lt hi wn
  let wn := fclamp wn lo hi
  let wdn := if nthF p 2 = 1 then fadd wd (fmul (fmin (fdiv ts (nthF p 3)) f32one) (fsub wn wd)) else wref.getD f32one
  let dw := fdiv (fsub wn w) ts
  { outs := [(wn, cl), (dw, false), (fbool cl, false)], vars := [wn, wdn] }

/-- DROOPP (R93): inputs V_AB I_AB W F_ADJ; parameters P_REF F_REF M_P T_P P_MIN P_MAX; state P_F. -/
def kDroopp (va vb ia ib w fadj : Nat) (p : List Nat) (ts : Nat) (st : List Nat) : KindOut :=
  let pr := fadd (fmul va ia) (fmul vb ib)
  let pf := fadd (nthF st 0) (fmul (fmin (fdiv ts (nthF p 3)) f32one) (fsub pr (nthF st 0)))
  let u := fadd (nthF p 0) (fdiv (fsub (fadd (nthF p 1) fadj) w) (nthF p 2))
  let ps := fclamp u (nthF p 4) (nthF p 5)
  { outs := [(pf, false), (ps, !f32eq ps u), (pr, false)], vars := [pf] }

/-- DROOPQ (R95): inputs V_AB I_AB V_ADJ; parameters Q_REF V_REF M_Q T_Q VS_MIN VS_MAX; state Q_F. -/
def kDroopq (va vb ia ib vadj : Nat) (p : List Nat) (ts : Nat) (st : List Nat) : KindOut :=
  let q := fsub (fmul vb ia) (fmul va ib)
  let qf := fadd (nthF st 0) (fmul (fmin (fdiv ts (nthF p 3)) f32one) (fsub q (nthF st 0)))
  let u := fsub (fadd (nthF p 1) vadj) (fmul (nthF p 2) (fsub qf (nthF p 0)))
  let vs := fclamp u (nthF p 4) (nthF p 5)
  { outs := [(qf, false), (vs, !f32eq vs u)], vars := [qf] }

/-- VREG (R96): inputs V_SET V_DQP E_SCALE; parameters MODE KP TI E_MIN E_MAX; state x. -/
def kVreg (vset vd vq escale : Nat) (p : List Nat) (ts : Nat) (st : List Nat) : KindOut :=
  let x := nthF st 0
  let closed := nthF p 0 = 1
  let vmag := fsqrt (fadd (fmul vd vd) (fmul vq vq))
  let e := fsub vset vmag
  let u := if closed then fadd (fadd vset (fmul (nthF p 1) e)) x else vset
  let uc := fclamp u (nthF p 3) (nthF p 4)
  let xn := if closed then fadd x (fmul (fdiv ts (nthF p 2)) (fadd (fmul (nthF p 1) e) (fsub uc u))) else x
  let sat := !f32eq uc u
  { outs := [(fmul (fclamp escale 0 f32one) uc, sat), (fbool sat, sat)], vars := [xn] }

/-- φ as radians: two's complement, times 2⁻³², times 2π (R97). -/
def thetaOf (phi : Nat) : Nat :=
  let v : Int := if phi < 2 ^ 31 then phi else (phi : Int) - 2 ^ 32
  fmul (f32ofScaled v (-32)) f32twoPi

/-- Wrap an angle into [−π, π) by one turn at most on each side (R101). -/
def wrapPi (x : Nat) : Nat :=
  let x := if f32le f32pi x then fsub x f32twoPi else x
  if f32lt x (f32negate f32pi) then fadd x f32twoPi else x

/-- ANGLE (R97 to R101): input W; F0 as U9.23; `fk` the postmark of the frame and `dF` the postmark difference of the group's
period; `perm` says whether R100 permits anchoring. Parameters MODE ANCH_OFS T_LEAD TH_INIT. States: φ of the next free
evaluation, δ of the next anchored one (left as it is in free frames, R100), 1 while the last evaluation was anchored, DELTA held, 1 before the first
evaluation. -/
def kAngle (w f0 fk dF : Nat) (perm : Bool) (p : List Nat) (st : List Nat) : KindOut :=
  let anch := nthF p 0 = 1 ∧ perm
  let a := f0 * fk / 2 ^ 23 % 2 ^ 32
  let dphi := f0 * dF / 2 ^ 23 % 2 ^ 32
  let ofs := nthF p 1
  let first := nthF st 4 = 1
  let was := nthF st 2 = 1
  let phiFree := if was then (a + nthF st 1 + ofs) % 2 ^ 32 else nthF st 0
  let delta := if first then 0 else if was then nthF st 1 else (phiFree + 2 * 2 ^ 32 - a - ofs) % 2 ^ 32
  let phi := if anch then (a + delta + ofs) % 2 ^ 32 else if first then nthF p 3 else phiFree
  let adv := (f32toFix (fmul w (f32ofNat dphi)) 0 % 2 ^ 32).toNat
  let advD := (f32toFix (fmul (fsub w f32one) (f32ofNat dphi)) 0 % 2 ^ 32).toNat
  let deltaNext := if anch then (delta + advD) % 2 ^ 32 else nthF st 1
  let phiNext := (phi + adv) % 2 ^ 32
  let dOut := if anch then thetaOf delta else nthF st 3
  let th := thetaOf phi
  let f0f := f32ofScaled (f0 : Int) (-23)
  let lead := fmul (fmul (fmul f32twoPi w) f0f) (nthF p 2)
  { outs := [(th, false), (wrapPi (fadd th lead), false), (fbool (decide anch), false), (dOut, false)]
    vars := [phiNext, deltaNext, if anch then 1 else 0, dOut, 0, phi] }

/-- VIMP without its harmonics (R102, R103). R103 gives i_N in complex form; the model multiplies by the conjugate and divides by the squared
modulus, in that order (DESIGN CHOICE, log entry 150). Inputs E V_DQP V_DQN V_Z and ω; parameters RV XV N_EN RN XN Z_EN RZ …. -/
def kVimp (e vd vq vnd vnq vz w : Nat) (p : List Nat) : List Nat :=
  let rv := nthF p 0
  let xw := fmul (nthF p 1) w
  let z2 := fadd (fmul rv rv) (fmul xw xw)
  let de := fsub e vd
  let id := fdiv (fsub (fmul rv de) (fmul xw vq)) z2
  let iq := fdiv (fsub (fmul (f32negate rv) vq) (fmul xw de)) z2
  let rn := nthF p 3
  let xn := fmul (nthF p 4) w
  let zn2 := fadd (fmul rn rn) (fmul xn xn)
  let nd := if nthF p 2 = 1 then fdiv (f32negate (fadd (fmul vnd rn) (fmul vnq xn))) zn2 else 0
  let nq := if nthF p 2 = 1 then fdiv (f32negate (fsub (fmul vnq rn) (fmul vnd xn))) zn2 else 0
  let iz := if nthF p 5 = 1 then fdiv (f32negate vz) (nthF p 6) else 0
  [id, iq, nd, nq, iz]

/-- I_h = −V_h / (RHh + j·XHh) (R104), the complex quotient formed as in kVimp (DESIGN CHOICE, log entry 150). -/
def kHarmonic (vr vi r x : Nat) : List Nat :=
  let m := fadd (fmul r r) (fmul x x)
  [fdiv (f32negate (fadd (fmul vr r) (fmul vi x))) m, fdiv (f32negate (fsub (fmul vi r) (fmul vr x))) m]

/-- Magnitude of a pair. -/
def fmag (a b : Nat) : Nat := fsqrt (fadd (fmul a a) (fmul b b))

/-- Sum of the magnitudes of harmonic pairs, each added in turn to what comes before it (DESIGN CHOICE, log entry 151: R106 gives the
sum and no order). -/
def fmagSum : Nat → List Nat → Nat
  | acc, a :: b :: hs => fmagSum (fadd acc (fmag a b)) hs
  | acc, _ => acc

/-- CURLIM (R106 to R108): inputs i_P i_N i_Z and the harmonic pairs, V_DQP; `sw` whether the bridge's legs are switching
(R107); parameters I_MAX I_CONT T_OVL T_REC PRIO; state b. -/
def kCurlim (id iq nd nq iz : Nat) (hs : List Nat) (vd vq : Nat) (sw : Bool) (p : List Nat) (ts : Nat) (st : List Nat) : KindOut :=
  let b := nthF st 0
  let icont := nthF p 1
  let ilim := if f32lt 0 b then nthF p 0 else icont
  let mp := fmag id iq
  let mn := fmag nd nq
  let mz := f32abs iz
  let m := fmagSum (fadd (fadd mp mn) mz) hs
  let act := f32lt ilim m
  let s := fadd (fadd mp mn) mz
  let kAll := if f32lt ilim s then fdiv ilim s else f32one
  let pOver := f32le ilim mp
  let kp := if !act then f32one else if nthF p 4 = 1 then kAll else if pOver then fdiv ilim mp else f32one
  let kn := if !act then f32one else if nthF p 4 = 1 then kAll else if pOver then 0
    else if f32lt ilim s then fdiv (fsub ilim mp) (fadd mn mz) else f32one
  let sc (k x : Nat) := if k = f32one then x else if k = 0 then 0 else fmul k x
  let od := sc kp id
  let oq := sc kp iq
  let ond := sc kn nd
  let onq := sc kn nq
  let oz := sc kn iz
  let ohs := if act then hs.map fun _ => 0 else hs
  let klim := if act then kp else f32one
  let mout := if sw then fmagSum (fadd (fadd (fmag od oq) (fmag ond onq)) (f32abs oz)) ohs else 0
  let bn := if sw && f32lt icont mout then fmax (fsub b ts) 0
    else fmin (fadd b (fdiv (fmul ts (nthF p 2)) (nthF p 3))) (nthF p 2)
  let pd := fadd (fmul vd od) (fmul vq oq)
  let qd := fsub (fmul vq od) (fmul vd oq)
  { outs := [(od, act), (oq, act), (ond, act), (onq, act), (oz, act)] ++ ohs.map (fun h => (h, act))
      ++ [(klim, act), (fbool act, act), (pd, false), (qd, false), (bn, false)]
    vars := [bn] }

/-! ### The one-cycle DFT of VIMP (R104) -/

/-- The phasor of harmonic h of one cycle of samples: (2/N)·Σ x_j·e^(−i·2π·h·j/N), summed from j = 0 up (DESIGN CHOICE, log entry 152). -/
def dftPhasor (h : Nat) (xs : List Nat) : Nat × Nat :=
  let n := xs.length
  let sum := (xs.zipIdx).foldl (fun (a : Nat × Nat) p =>
    let th := fmul (f32ofRat ((h * p.2 % n : Nat) : Int) n) f32twoPi
    (fadd a.1 (fmul p.1 (fcos th)), fsub a.2 (fmul p.1 (fsin th)))) (0, 0)
  let sc := f32ofRat 2 n
  (fmul sum.1 sc, fmul sum.2 sc)

/-- The sequence phasor of three phase phasors: (α + jβ)/2 of their Clarke components for the positive sequence, (α − jβ)/2 for the negative. -/
def seqPhasor (neg : Bool) (a b c : Nat × Nat) : Nat × Nat :=
  let re := kClarke a.1 b.1 c.1
  let im := kClarke a.2 b.2 c.2
  let (x, y) := if neg then (fadd (nthF re 0) (nthF im 1), fsub (nthF im 0) (nthF re 1))
    else (fsub (nthF re 0) (nthF im 1), fadd (nthF im 0) (nthF re 1))
  (fmul f32half x, fmul f32half y)

/-! ### MOD (R172) -/

/-- Largest value of a list. -/
def fmaxList : List Nat → Nat
  | [] => 0
  | x :: xs => xs.foldl fmax x

/-- Smallest value of a list. -/
def fminList : List Nat → Nat
  | [] => 0
  | x :: xs => xs.foldl fmin x

/-- The phase references of one αβz triple. -/
def abzPhases (al be z : Nat) : List Nat :=
  let r := 0x3F5DB3D7
  let h := fmul 0xBF000000 al
  [fadd al z, fadd (fadd h (fmul r be)) z, fadd (fsub h (fmul r be)) z]

end Sys2Proof.Machine
end

