-- ==== Sys2Proof/Machine/Shapes.lean ====
section
/-!
DEFINITION. The ports of the block kinds and the binding of a block's wires (spec/06_fabric.md R166 to R175, R525;
spec/07_structure_image.md R189, R190; Tables FV-3 and FE-1).
-/
namespace Sys2Proof.Machine

/-- A parameter word of a block, 0 beyond the last. -/
def Block.par (b : Block) (i : Nat) : Nat := b.params.getD i 0

/-- A wiring record is an output. -/
def WireRec.isOut (w : WireRec) : Bool := w.flags.testBit 0
/-- A wiring record is a command-bound parameter. -/
def WireRec.isCmd (w : WireRec) : Bool := w.flags.testBit 1
/-- A wiring record is an input. -/
def WireRec.isIn (w : WireRec) : Bool := !w.isOut && !w.isCmd

/-- Number of input wiring records. -/
def Block.nIn (b : Block) : Nat := (b.wires.filter WireRec.isIn).length

/-- Bits set among the low four. -/
def popcount4 (v : Nat) : Nat := (List.range 4).countP fun i => v.testBit i

/-- The block of a kind that names a bridge (R87, R114); a PROFILE counts in its RAMP form only. -/
def Image.peer (im : Image) (kind bridge : Nat) : Option Block :=
  im.blocks.find? fun b => b.kind == kind && b.bridge == bridge && (kind != 0x1C || b.par 0 == 0)

/-- Harmonics that the VIMP of a bridge enables. -/
def bridgeHarmonics (im : Image) (bridge : Nat) : Nat :=
  match im.peer 0x13 bridge with
  | some v => popcount4 (v.par 7)
  | none => 0

/-- The phases of a bridge in ascending number, with the NEUTRAL mark. -/
def bridgePhases (im : Image) (b : Nat) : List (Nat × PhaseRec) :=
  ((im.phases.zipIdx).map fun p => (p.2, p.1)).filter fun p => p.2.bridge == b

/-- The legs of a phase in ascending number. -/
def phaseLegs (im : Image) (ph : Nat) : List Nat :=
  (List.range 96).filter fun n => match im.legs[n]? with
    | some l => l.phase == ph
    | none => false

/-- The legs of a bridge. -/
def imageLegs (im : Image) (b : Nat) : List Nat := (bridgePhases im b).flatMap fun p => phaseLegs im p.1

/-- Width of MOD's REF in the form RFORM (R172). -/
def refWidth (im : Image) (b : Block) : Nat :=
  match b.par 1 with
  | 0 => (bridgePhases im b.bridge).length
  | 1 => 3
  | 2 => 4
  | _ => 1

/-- Input widths, then output widths, of a block, without FAULT. -/
def kindPorts (im : Image) (b : Block) : List Nat × List Nat :=
  match b.kind with
  | 0x01 => (List.replicate b.nIn 1, [1])
  | 0x02 => ([1, 1], [1])
  | 0x03 => (List.replicate b.nIn 1, [1])
  | 0x04 => ([b.par 0], [b.par 0])
  | 0x05 => ([1, 1, 1], [1])
  | 0x06 => ([1, 1, 1, 1], [1, 1])
  | 0x07 => ([1], [1])
  | 0x08 => ([1, 1, 1], [3])
  | 0x09 => ([2, 1], [2])
  | 0x0A => ([2, 1], [2])
  | 0x0B => ([3, 1], [2, 2, 1])
  | 0x0C => ([1, 1, 1, 1, 1], [1, 1])
  | 0x0D => ([1, 1, 1], [1])
  | 0x0E => ([1], [1])
  | 0x0F => ([1], [1])
  | 0x10 => ([1, 1, 1, 1, 1], [1, 1, 1])
  | 0x11 => ([2, 2, 1, 1], [1, 1, 1])
  | 0x12 => ([2, 2, 1], [1, 1])
  | 0x13 => ([1, 2, 2, 1, 1], [2, 2, 1, 2 * popcount4 (b.par 7)])
  | 0x14 => ([2, 2, 1, 1, 1], [2, 1, 1, 1, 1])
  | 0x15 => ([1, 2, 1], [1, 1])
  | 0x16 => ([1], [1, 1, 1, 1])
  | 0x17 => let h := 2 * bridgeHarmonics im b.bridge
            ([2, 2, 1, h, 2], [2, 2, 1, h, 1, 1, 1, 1, 1])
  | 0x18 => ([2, 2, 1, 1, 1, 1, 1, 1], [1, 1, 1, 1, 1])
  | 0x19 => ([refWidth im b, 1] ++ (if b.par 0 = 3 then (imageLegs im b.bridge).map fun _ => 1 else []), [refWidth im b, 1])
  | 0x1A => ([1, 1, 1, 1], [1, 1, 1])
  | 0x1B => (List.replicate (if b.par 0 = 2 then 6 else 3) 1 ++ [1, 1, 1, 1, 1], [if b.par 0 = 2 then 4 else 2, 1])
  | 0x1C => match b.par 0 with
      | 0 => ([1, 1, 1, 1, 1, 2, 1, 1], [1, 2, 1, 1, 1])
      | 1 => ([1], [1])
      | _ => ([1], [1, 1])
  | 0x1D => ([1], [1])
  | 0x1E => ([], b.params.map fun _ => 1)
  | 0x1F => ([1, 1, 1, 1, 1], [])
  | 0x20 => ([1], [])
  | 0x21 => let n := (b.nIn - 2) / 2
            (List.replicate (2 * n + 2) 1, List.replicate n 1)
  | _ => ([], [])

/-- Input widths of a block. -/
def inWidths (im : Image) (b : Block) : List Nat := (kindPorts im b).1

/-- Output widths, FAULT last, which DELAY does not have (R86, R155). -/
def outWidths (im : Image) (b : Block) : List Nat :=
  (kindPorts im b).2 ++ (if b.kind = 0x1D then [] else [1])

/-- Parameter words marked C, in the order of their table (R190). -/
def cmdParams (kind : Nat) : List Nat := if kind = 0x11 ∨ kind = 0x12 then [0, 1] else []

/-- The wire named at a port. -/
def portWire (b : Block) (p : Nat) : Option Nat := (b.wires.find? (·.port == p)).map (·.wire)

/-- The first wire of input i. -/
def inWire (b : Block) (i : Nat) : Option Nat := portWire b i

/-- The first wire of output j. -/
def outWire (im : Image) (b : Block) (j : Nat) : Option Nat := portWire b ((inWidths im b).length + j)

/-- The wire of command-bound parameter i. -/
def cmdWire (im : Image) (b : Block) (i : Nat) : Option Nat :=
  portWire b ((inWidths im b).length + (outWidths im b).length + i)

/-- The wires of a vector from its first one. -/
def vecWires (w : Option Nat) (width : Nat) : List Nat := match w with
  | some w => (List.range width).map (w + ·)
  | none => []

/-- The wire that carries W of a bridge through its DELAY (R89, R102). -/
def delayedW (im : Image) (bridge : Nat) : Option Nat :=
  match (im.peer 0x10 bridge).bind fun q => outWire im q 0 with
  | none => none
  | some w => (im.blocks.find? fun d => d.kind == 0x1D && d.bridge == bridge && inWire d 0 == some w).bind fun d => outWire im d 0

/-- Every wire a block reads, port by port, then its command-bound parameters; VIMP reads ω of its bridge's DELAY beside its ports (R102). -/
def readWires (im : Image) (b : Block) : List Nat :=
  ((inWidths im b).zipIdx).flatMap (fun p => vecWires (inWire b p.2) p.1)
    ++ ((List.range (cmdParams b.kind).length).flatMap fun i => vecWires (cmdWire im b i) 1)
    ++ (if b.kind = 0x13 then (delayedW im b.bridge).toList else [])

/-- Every wire a block writes. -/
def writtenWires (im : Image) (b : Block) : List Nat :=
  ((outWidths im b).zipIdx).flatMap fun p => vecWires (outWire im b p.2) p.1

/-- The initial value of a wire (R191). -/
def initWire (im : Image) (w : Nat) : Nat := ((im.wireInit.find? (·.1 == w)).map (·.2)).getD 0

/-- Divisor of a rate group; 0 where it is unused (R160). -/
def groupDiv (im : Image) (g : Nat) : Nat := match im.divs[g]? with
  | some 7 => 0
  | some e => 2 ^ e
  | none => 0

/-- The initial value of output j, component c. -/
def initOut (im : Image) (b : Block) (j c : Nat) : Nat := match outWire im b j with
  | some w => initWire im (w + c)
  | none => 0

/-- Stateful kinds (R155). -/
def statefulKind (b : Block) : Bool :=
  [0x0B, 0x0C, 0x0D, 0x0E, 0x0F, 0x1A, 0x1B, 0x1C, 0x21].contains b.kind
    || (b.kind == 0x05 && f32lt 0 (b.par 2))
    || (decide (0x10 ≤ b.kind) && decide (b.kind ≤ 0x18))

/-- Kinds whose state variables are all binary32 values. -/
def floatState (kind : Nat) : Bool :=
  [0x05, 0x0B, 0x0C, 0x0D, 0x0E, 0x0F, 0x10, 0x11, 0x12, 0x15, 0x17, 0x1A].contains kind

/-- State variable i of a kind is a binary32 value, which R153 keeps from being NaN: x and g of TVIMP, F_ADJ and f_hold of SYNC, E_SCALE of
PROFILE, DELTA of ANGLE beside the kinds of floatState. -/
def floatVar (kind i : Nat) : Bool :=
  floatState kind || [(0x14, 0), (0x14, 3), (0x18, 0), (0x18, 5), (0x1C, 1), (0x16, 3)].contains (kind, i)

/-- Initial state variables of a block (R151). -/
def initVars (im : Image) (b : Block) : List Nat :=
  match b.kind with
  | 0x05 => [initOut im b 0 0]
  | 0x0B => [initOut im b 0 0, initOut im b 0 1, initOut im b 1 0, initOut im b 1 1]
  | 0x0C => [b.par 5]
  | 0x0D => [0, 0]
  | 0x0E => [0, 0]
  | 0x0F => List.replicate (b.params.length / 5 * 2) 0
  | 0x10 => [b.par 6, b.par 6]
  | 0x11 => [initOut im b 0 0]
  | 0x12 => [initOut im b 0 0]
  | 0x13 => [0, 0]
  | 0x14 => List.replicate 9 0
  | 0x15 => [0]
  | 0x16 => [b.par 3, 0, 0, 0, 1, b.par 3]
  | 0x17 => [b.par 2]
  | 0x18 => [initOut im b 0 0, 0, 0, 0, 0, 0, 0, 0, 0]
  | 0x1A => [0, 0]
  | 0x1B => [0]
  | 0x1C => if b.par 0 = 0 then List.replicate 13 0 else [0]
  | 0x1E => b.params.map fun _ => 0
  | 0x1F => [0]
  | 0x20 => [0]
  | 0x21 => [0]
  | _ => []

/-- A block at activation and at reinitialisation (R151, R159). -/
def initBlock (im : Image) (b : Block) : BlkState :=
  { vars := initVars im b, stages := if b.kind = 0x1D then List.replicate (b.par 0) (initOut im b 0 0, 3) else [],
    held := [], fault := false }

/-- Legs a TJEST names: its bridge's legs in ascending order, continuing over the bridge's TJESTs in slot order. -/
def tjestLegs (im : Image) (b : Block) : List Nat :=
  let before := im.blocks.filter fun q => q.kind == 0x21 && q.bridge == b.bridge && decide (q.slot < b.slot)
  let skip := before.foldl (fun n q => n + (q.nIn - 2) / 2) 0
  ((imageLegs im b.bridge).drop skip).take ((b.nIn - 2) / 2)

/-- All wires at activation and at reinitialisation (R147, R151): wires 0 to 31 belong to the system. -/
def initWires (im : Image) : Sparse (Nat × Nat) :=
  let written := im.blocks.flatMap (writtenWires im)
  (List.range 8192).foldl (fun m w =>
    if w < 32 then (if w < 8 then m ++ [(w, (0, 1))] else m)
    else m ++ [(w, (initWire im w, if written.contains w then 3 else 1))]) []

/-- The writer of a wire as the wire window shows it (R182). -/
def wireWriter (im : Image) (w : Nat) : Nat :=
  if w < 32 then 0x401
  else match im.blocks.find? (fun b => (writtenWires im b).contains w) with
    | some b => b.slot
    | none => if im.targets.any (fun t => t.kind == 0 && t.ref == w) then 0x400 else 0x7FF

end Sys2Proof.Machine
end

