-- ==== Sys2Proof/Machine/ImageParams.lean ====
section
/-!
DEFINITION. The parameter words of each block kind: their number, ranges and the conditions that join several of them
(spec/06_fabric.md R167 to R175, R525; spec/04_forming_voltage.md Tables FV-4 to FV-10; spec/05_forming_events.md Tables FE-3 to FE-5,
R130, R135; spec/09_trips.md R233), and the cycle cost of each (Table FB-5).
-/
namespace Sys2Proof.Machine

/-- Any finite binary32 (R167). -/
def pAny (x : Nat) : Bool := f32finite x
/-- A binary32 within [lo, hi], each a decimal given as an integer over `den`, rounded to binary32. -/
def pF (lo hi : Int) (den x : Nat) : Bool := f32finite x && f32le (f32ofRat lo den) x && f32le x (f32ofRat hi den)
/-- A uint32 within [lo, hi]. -/
def pU (lo hi x : Nat) : Bool := decide (lo ≤ x) && decide (x ≤ hi)
/-- A finite binary32 above 0. -/
def pPos (x : Nat) : Bool := f32finite x && f32lt 0 x

/-- Sixteen pairs (T, V) of an envelope (R135). -/
def pEnvelope (vlo vhi : Int) : List (Nat → Bool) :=
  (List.range 16).flatMap fun _ => [pF 0 60 1, pF vlo vhi 100]

/-- The range of each parameter word in order, or none where the number of words is wrong (NPARAM). A word marked C must be zero and is
checked apart (R190). -/
def paramSpec (b : Block) : Option (List (Nat → Bool)) :=
  let n := b.params.length
  let exact (l : List (Nat → Bool)) : Option (List (Nat → Bool)) := if n = l.length then some l else none
  let any (_ : Nat) : Bool := true
  match b.kind with
  | 0x01 => exact [pU 0 (2 ^ min 32 b.nIn - 1)]
  | 0x02 => exact [pU 0 1]
  | 0x03 => exact (List.replicate (1 + b.nIn / 2) pAny)
  | 0x04 => exact [pU 1 3, pAny]
  | 0x05 => exact [pAny, pAny, pAny]
  | 0x07 => if n % 2 = 0 ∧ 4 ≤ n ∧ n ≤ 128 then some (List.replicate n pAny) else none
  | 0x09 => exact [pU 0 1]
  | 0x0A => exact [pU 0 1]
  | 0x0B => exact [pF 2 200 10000]
  | 0x0C => exact [pF 0 10000 1, pF 1 10000000 100000, pF 0 100 1, pAny, pAny, pAny]
  | 0x0D => exact [pAny, pU 1 50, pF 0 1 10, pAny]
  | 0x0E => exact [pAny, pAny, pAny]
  | 0x0F => if n % 5 = 0 ∧ 5 ≤ n ∧ n ≤ 20 then some (List.replicate n pAny) else none
  | 0x10 => exact [pF 2 300 10, pF 0 400 1, pU 0 1, pF 1 1000 100, pF 80 100 100, pF 100 120 100, pAny]
  | 0x11 => exact [any, any, pF 5 120 1000, pF 5 10000 10000, pF (-15) 0 10, pF 0 15 10]
  | 0x12 => exact [any, any, pF 0 20 100, pF 5 10000 10000, pF 50 100 100, pF 100 130 100]
  | 0x13 => exact ([pF 0 5 10, pF 2 80 100, pU 0 1, pF 0 1 1, pF 2 200 100, pU 0 1, pF 2 200 100, pU 0 15]
      ++ List.replicate 4 (pF 0 2 1) ++ List.replicate 4 (pF 2 400 100))
  | 0x14 => exact ([pF 50 95 100, pF 105 130 100, pF 5 100 1000, pF 0 1 1, pF 0 2 1, pF 0 5 10, pF 1 1000 1000, pF 1 200 100,
      pF 1 3 1, pU 0 1] ++ pEnvelope 0 100 ++ pEnvelope 100 130)
  | 0x15 => exact [pU 0 1, pF 0 10 1, pF 1 10000 1000, pF 0 1 1, pF 10 15 10]
  | 0x16 => exact [pU 0 1, any, pF 0 5 10000, any]
  | 0x17 => exact [pF 1 3 1, pF 5 12 10, pF 0 2 1, pF 1 600 1, pU 0 1]
  | 0x18 => exact [pF 2 30 100, pF 30 95 100, pF 5 1000 1000, pF 0 5 100, pF 1 100 1000, pF 1 50 100, pF 5 100 10000, pF 1 20 100,
      pU 1 10000, pF 5 500 1000, pF 1 60 1, pF 0 5 100, pF 0 5 100, pF 1000 15708 10000, pF 1 1000 1000]
  | 0x19 => exact [pU 0 3, pU 0 3, pAny]
  | 0x1A => match b.par 0 with
      | 0 => exact [pU 0 1, pF 0 10000 1, pF 1 10000000 100000, pF 0 10000 1, pF 1 10000000 100000, pPos]
      | 1 => exact [pU 0 1, pAny, pAny]
      | _ => if n = 0 then none else some [pU 0 1]
  | 0x1B => if n = 0 then none else some (pU 1 2 :: List.replicate (n - 1) pAny)
  | 0x1C => match b.par 0 with
      | 0 => exact [pU 0 2, pU 0 1, pF 1 200 10, pF 5 200 100, pF 2 200 100, pF 1 200 100, pF 1 20 100, pU 1 4096, pF 5 1000 100]
      | 1 => exact [pU 0 2, pAny, pAny, pAny]
      | _ => if n = 0 then none else some (pU 0 2 :: List.replicate (n - 1) pAny)
  | 0x1D => exact [pU 1 64]
  | 0x1E => if 1 ≤ n ∧ n ≤ 16 then
        some (List.replicate n fun x => pU 0 119 x || pU 128 159 x)
      else none
  | 0x1F => exact [pU 0 3, any, pU 0 31, fun x => pU 0 1023 x || x == 0xFFFF]
  | 0x20 => exact [pU 0 2, pU 0 95, fun x => pU 0x20 0x23 x || pU 0x80 0xFF x]
  | 0x21 => some (List.replicate n pAny)
  | _ => exact []

/-- Whether the words of a list rise strictly. -/
def risingF : List Nat → Bool
  | x :: y :: xs => f32lt x y && risingF (y :: xs)
  | _ => true

/-- Whether the words of a list never fall. -/
def notFallingF : List Nat → Bool
  | x :: y :: xs => f32le x y && notFallingF (y :: xs)
  | _ => true

/-- Every second element of a list from the first. -/
def everySecond : List Nat → List Nat
  | x :: _ :: xs => x :: everySecond xs
  | [x] => [x]
  | [] => []

/-- Both poles of z² + a1·z + a2 have a magnitude of at most 0.9999 (R171), exactly. -/
def polesInside (a1 a2 : Nat) : Bool :=
  let one : Int := 2 ^ 149
  let x1 := f32scaled a1
  let x2 := f32scaled a2
  decide (x2.natAbs * 10000 ^ 2 ≤ 9999 ^ 2 * 2 ^ 149)
    && decide ((x1.natAbs : Int) * 9999 * 10000 ≤ 9999 ^ 2 * one + x2 * 10000 ^ 2)

/-- The sections of a BIQUAD are stable. -/
def biquadOk : List Nat → Bool
  | _ :: _ :: _ :: a1 :: a2 :: ps => polesInside a1 a2 && biquadOk ps
  | _ => true

/-- The largest T_s of a group of divisor n at f_frame, in binary32 seconds (R160). -/
def longestTs (f n : Nat) : Nat := f32ofRat (((n * 2 ^ 32 + f - 1) / f : Nat) : Int) (2 ^ 32)

/-- Phases of a bridge that are not neutral. -/
def livePhases (im : Image) (b : Nat) : Nat := ((bridgePhases im b).filter fun p => p.2.neutral == 0).length
/-- A bridge has a neutral phase. -/
def hasNeutral (im : Image) (b : Nat) : Bool := (bridgePhases im b).any fun p => p.2.neutral == 1

/-- The conditions that join parameters of one block or tie them to its group and bridge (codes 0x4D). -/
def crossOk (im : Image) (b : Block) : Bool :=
  let p := b.par
  match b.kind with
  | 0x07 => risingF (everySecond b.params)
  | 0x0C => f32le (p 3) (p 4)
  | 0x0E => im.frate == 0 || groupDiv im b.group == 0 || f32le (longestTs im.frate (groupDiv im b.group)) (p 2)
  | 0x0F => biquadOk b.params
  | 0x10 => f32le (p 4) (p 6) && f32le (p 6) (p 5)
  | 0x14 => f32le (fadd (p 0) (p 2)) f32one && f32le f32one (fsub (p 1) (p 2))
      && f32zero? (p 10) && notFallingF (everySecond ((b.params.drop 10).take 32))
      && f32zero? (p 42) && notFallingF (everySecond (b.params.drop 42))
  | 0x18 => f32le (p 12) (fmul (p 11) (p 13))
  | 0x19 => !(p 0 == 1 && hasNeutral im b.bridge)
      && !(p 1 == 1 && livePhases im b.bridge != 3)
      && !(p 1 == 2 && (livePhases im b.bridge != 6 || hasNeutral im b.bridge))
  | 0x1A => p 0 != 1 || f32lt (p 1) (p 2)
  | 0x20 => decide (p 1 < (match p 0 with
      | 0 => 96
      | 1 => 48
      | _ => 16))
  | _ => true

/-- The range of a parameter marked C as binary32 (Tables FV-5, FV-6). -/
def cmdRange (kind i : Nat) : Nat × Nat :=
  match kind, i with
  | 0x11, 1 => (f32ofRat 90 100, f32ofRat 110 100)
  | 0x12, 1 => (f32ofRat 80 100, f32ofRat 120 100)
  | _, _ => (f32ofRat (-15) 10, f32ofRat 15 10)

/-- Inputs that need no wire: those the tables call optional, and those of width 0. -/
def optionalIn (im : Image) (b : Block) (i : Nat) : Bool :=
  (inWidths im b).getD i 0 == 0 || (match b.kind with
    | 0x05 => [1, 2].contains i
    | 0x06 => i == 1
    | 0x0C => [2, 3, 4].contains i
    | 0x0D => i == 2
    | 0x10 => i == 2
    | 0x11 => i == 3
    | 0x12 => i == 2
    | 0x13 => i == 4
    | 0x15 => i == 2
    | 0x1A => if b.par 0 = 1 then i != 0 else i == 3
    | 0x1F => i != 0
    | _ => false)

/-- ⌈log₂ n⌉. -/
def ceilLog2 (n : Nat) : Nat := if n ≤ 1 then 0 else Nat.log2 (n - 1) + 1

/-- Cycles of a block's evaluation (Table FB-5). -/
def blockCost (im : Image) (b : Block) : Nat :=
  match b.kind with
  | 0x01 => 3 + b.nIn
  | 0x02 => if b.par 0 = 1 then 12 else 5
  | 0x03 => 4 + 2 * (b.nIn / 2)
  | 0x04 => 4
  | 0x05 => 8
  | 0x06 => 5
  | 0x07 => 10 + 2 * ceilLog2 (b.params.length / 2)
  | 0x08 => 10
  | 0x09 => 16
  | 0x0A => 16
  | 0x0B => 44
  | 0x0C => 14
  | 0x0D => 22
  | 0x0E => 10
  | 0x0F => 4 + 8 * (b.params.length / 5)
  | 0x10 => 26
  | 0x11 => 22
  | 0x12 => 22
  | 0x13 => 52 + 110 * popcount4 (b.par 7)
  | 0x14 => 44
  | 0x15 => 20
  | 0x16 => 30
  | 0x17 => 60 + 6 * bridgeHarmonics im b.bridge
  | 0x18 => 96
  | 0x19 => 24 + 10 * (bridgePhases im b.bridge).length + 2 * (imageLegs im b.bridge).length
      + (if b.par 0 = 3 then 6 * (imageLegs im b.bridge).length else 0)
  | 0x1A => 36
  | 0x1B => 84 + (if b.par 0 = 2 then 40 else 0)
  | 0x1C => 40
  | 0x1D => 2
  | 0x1E => 4 + b.params.length
  | 0x1F => 10
  | 0x20 => 8
  | 0x21 => 12 + 18 * ((b.nIn - 2) / 2)
  | _ => 0

/-! ### The schedule of a frame (R158, R163) -/

/-- What the schedule knows so far: when each tile is free, for each wire written its tile and the cycle of the write, and for each block
its slot and the cycle at which it completes, newest first. -/
structure Sched where
  tiles : Sparse Nat
  wires : List (Nat × Nat × Nat)
  done : List (Nat × Nat)
deriving DecidableEq, Repr

/-- Place one block: after its tile's last block, or after 160 cycles of frame-start work, and 4 cycles after the last wire it reads from
another tile. -/
def schedBlock (im : Image) (c : Sched) (b : Block) : Sched :=
  let t := b.slot / 64
  let free := sget 160 c.tiles t
  let start := (readWires im b).foldl (fun m w => match c.wires.find? (·.1 == w) with
    | some (_, u, f) => if u = t then m else max m (f + 4)
    | none => m) free
  let fin := start + blockCost im b
  { tiles := sset 160 c.tiles t fin
    wires := if b.kind = 0x1D then c.wires else (writtenWires im b).map (fun w => (w, t, fin)) ++ c.wires
    done := (b.slot, fin) :: c.done }

/-- The schedule of some blocks in image order. -/
def schedule (im : Image) (bs : List Block) : Sched := bs.foldl (schedBlock im) ⟨[], [], []⟩

/-- The completion of a tile, 0 where it holds no block. -/
def tileDone (c : Sched) (t : Nat) : Nat := sget 0 c.tiles t

end Sys2Proof.Machine
end

