-- ==== Sys2Proof/Machine/ImageParse.lean ====
section
/-!
DEFINITION. Reading a structure image: the header, the section table and the records of every section
(spec/07_structure_image.md R184 to R195), from the words of an image slot.
-/
namespace Sys2Proof.Machine

/-- One byte of a slot's words. -/
def rd8 (m : Sparse Nat) (o : Nat) : Nat := sget 0 m (o / 4) / 256 ^ (o % 4) % 256
/-- A little-endian u16. -/
def rd16 (m : Sparse Nat) (o : Nat) : Nat := rd8 m o + 256 * rd8 m (o + 1)
/-- A little-endian u32. -/
def rd32 (m : Sparse Nat) (o : Nat) : Nat := rd16 m o + 65536 * rd16 m (o + 2)
/-- Some bytes. -/
def rdBytes (m : Sparse Nat) (o n : Nat) : List Nat := (List.range n).map fun i => rd8 m (o + i)
/-- All bytes of a range are zero. -/
def rdZero (m : Sparse Nat) (o n : Nat) : Bool := (List.range n).all fun i => rd8 m (o + i) == 0

/-- One section-table entry (R185). -/
structure Sect where
  typ : Nat
  off : Nat
  len : Nat
  count : Nat
deriving DecidableEq, Repr

/-- The section table. -/
def sections (m : Sparse Nat) : List Sect :=
  (List.range (min 16 (rd16 m 0x14))).map fun i =>
    let o := 0x40 + 16 * i
    { typ := rd16 m o, off := rd32 m (o + 4), len := rd32 m (o + 8), count := rd32 m (o + 12) }

/-- A section by type; an absent one is empty. -/
def sectOf (ss : List Sect) (t : Nat) : Sect := (ss.find? (·.typ == t)).getD ⟨t, 0, 0, 0⟩

/-- The offsets of a section's records of a given size, after a header. -/
def recOffs (s : Sect) (hdr size : Nat) : List Nat := (List.range s.count).map fun i => s.off + hdr + size * i

/-- The LEGMAP record at an offset. -/
def rdLeg (m : Sparse Nat) (o : Nat) : LegRec :=
  { phase := rd8 m o, safe := rd8 m (o + 1), blank := rd8 m (o + 2), policy := rd8 m (o + 3), sense := rd8 m (o + 4),
    dtRise := rd16 m (o + 8), dtFall := rd16 m (o + 10), minp := rd16 m (o + 12) }

/-- The PHASE record at an offset. -/
def rdPhase (m : Sparse Nat) (o : Nat) : PhaseRec :=
  { bridge := rd8 m o, neutral := rd8 m (o + 1), nlegs := rd8 m (o + 2), cphase := rd32 m (o + 4) }

/-- The BRIDGE record at an offset. -/
def rdBridge (m : Sparse Nat) (o : Nat) : BridgeRec :=
  { num := rd8 m o, role := rd8 m (o + 1), nphase := rd8 m (o + 2), cform := rd8 m (o + 3), period := rd32 m (o + 4),
    reload := rd8 m (o + 8), sB := rd32 m (o + 12), vB := rd32 m (o + 16), f0 := rd32 m (o + 20), xMin := rd32 m (o + 24),
    xMax := rd32 m (o + 28), tripN := rd16 m (o + 32), tripWin := rd32 m (o + 36), readyW := rd16 m (o + 40) }

/-- A WIRING record. -/
def rdWire (m : Sparse Nat) (o : Nat) : WireRec := { wire := rd16 m o, port := rd8 m (o + 2), flags := rd8 m (o + 3) }

/-- The BLOCK record at an offset, with its WIRING records and PARAM words. -/
def rdBlock (m : Sparse Nat) (wiring param : Sect) (o : Nat) : Block :=
  let conn := rd16 m (o + 8)
  let nconn := rd8 m (o + 10)
  let p := rd16 m (o + 12)
  let np := rd16 m (o + 14)
  { slot := rd16 m o, kind := rd8 m (o + 2), group := rd8 m (o + 3), order := rd16 m (o + 4), bridge := rd8 m (o + 6),
    policy := rd8 m (o + 7), holdFr := rd8 m (o + 11),
    wires := (List.range nconn).map fun i => rdWire m (wiring.off + 4 * (conn + i)),
    params := (List.range np).map fun i => rd32 m (param.off + 4 * (p + i)) }

/-- The command target at an offset. -/
def rdTarget (m : Sparse Nat) (o : Nat) : Target :=
  { id := rd16 m o, kind := rd8 m (o + 2), sense := rd8 m (o + 3), ref := rd16 m (o + 4), classes := rd8 m (o + 6),
    lo := rd32 m (o + 8), hi := rd32 m (o + 12) }

/-- A bank of the SENSE header. -/
def rdBank (m : Sparse Nat) (o : Nat) : BankRec :=
  { pm := rd8 m o, form := rd8 m (o + 1), sdly := rd8 m (o + 2), sdlev := rd8 m (o + 3), clkadj := rd16 m (o + 4) }

/-- A path record. -/
def rdPath (m : Sparse Nat) (o : Nat) : PathRec :=
  { chan := rd8 m (o + 1), k := rd8 m (o + 2), abank := rd8 m (o + 3), r := rd16 m (o + 4), nbank := rd8 m (o + 6),
    txf := rd8 m (o + 7), banks := rdBytes m (o + 8) 4, snapb := rd16 m (o + 12), scale := rd32 m (o + 16),
    offset := rd32 m (o + 20) }

/-- A resampler record. -/
def rdRes (m : Sparse Nat) (o : Nat) : ResRec :=
  { rch := rd8 m (o + 1), src := rd8 m (o + 2), lock := rd8 m (o + 3), bridge := rd8 m (o + 4), logn := rd8 m (o + 5),
    cyc := rd16 m (o + 6) }

/-- Put the blocks in image order (R157). -/
def orderBlocks (bs : List Block) : List Block :=
  (List.range bs.length).flatMap fun i => bs.filter (·.order == i)

/-- The image of a slot, read section by section. -/
def readImage (m : Sparse Nat) (slot : Nat) : Image :=
  let ss := sections m
  let fr := sectOf ss 1
  let wi := sectOf ss 6
  let pa := sectOf ss 7
  let co := sectOf ss 9
  let sn := sectOf ss 0x0B
  let recs := recOffs sn 128 32
  { slot := slot, imageId := rd32 m 0x18, version := rd32 m 0x1C, rollbackIdx := rd8 m 0x20, auth := rd8 m 0x21,
    frate := rd32 m fr.off, divs := rdBytes m (fr.off + 4) 4, tEnergize := rd32 m (fr.off + 8), tStop := rd32 m (fr.off + 12),
    legs := (recOffs (sectOf ss 2) 0 16).map (rdLeg m),
    phases := (recOffs (sectOf ss 3) 0 8).map (rdPhase m),
    bridges := (recOffs (sectOf ss 4) 0 48).map (rdBridge m),
    blocks := orderBlocks ((recOffs (sectOf ss 5) 0 16).map (rdBlock m wi pa)),
    wireInit := (recOffs (sectOf ss 8) 0 8).map fun o => (rd16 m o, rd32 m (o + 4)),
    delays := (List.range 4).map fun i => rd32 m (co.off + 4 * i),
    precedence := rdBytes m (co.off + 16) 4,
    targets := (recOffs co 20 16).map (rdTarget m),
    sorting := (recOffs (sectOf ss 0x0A) 0 8).map fun o => (rd8 m o, rd8 m (o + 1), rd16 m (o + 2)),
    banks := (List.range 12).map fun b => rdBank m (sn.off + 8 * b),
    groups := (List.range 4).map fun g => ⟨rd8 m (sn.off + 96 + 4 * g), rd8 m (sn.off + 97 + 4 * g)⟩,
    snapPh := rd8 m (sn.off + 112), snapFlow := rd16 m (sn.off + 114),
    paths := (recs.filter fun o => rd8 m o == 0).map (rdPath m),
    resamplers := (recs.filter fun o => rd8 m o == 1).map (rdRes m),
    safety := rdBytes m (sectOf ss 0x0D).off (sectOf ss 0x0D).len,
    health := rdBytes m (sectOf ss 0x0C).off (sectOf ss 0x0C).len,
    digest := [] }

/-! ### Findings of the check (R196) -/

/-- A refusal: code, section TYPE and record index (SEC_IMG_WHERE). -/
structure Refuse where
  code : Nat
  sect : Nat
  idx : Nat
deriving DecidableEq, Repr

/-- The first finding of a list of checks. -/
def firstRefusal : List (Option Refuse) → Option Refuse
  | [] => none
  | some r :: _ => some r
  | none :: rs => firstRefusal rs

/-- The lowest code among the rules a record breaks. -/
def lowestCode : List (Bool × Nat) → Option Nat
  | [] => none
  | (broken, c) :: rs => match lowestCode rs with
    | none => if broken then some c else none
    | some d => if broken then some (min c d) else some d

/-- Check the records of a section in ascending index. -/
def checkRecs (sect : Nat) (n : Nat) (rules : Nat → List (Bool × Nat)) : Option Refuse :=
  firstRefusal ((List.range n).map fun i => (lowestCode (rules i)).map fun c => ⟨c, sect, i⟩)

/-- A finding in the header, the section table or a signature block. -/
def headRefusal (broken : Bool) (c : Nat) : Option Refuse := if broken then some ⟨c, 0, 0⟩ else none

/-- Step 1 of Table SI-12 on `written` bytes committed: magic of the header and of the signature blocks, format, part, length. All of them report
section 0x00, record 0, and the lowest code among those broken (R196). -/
def checkHeader (m : Sparse Nat) (written : Nat) : Option Refuse :=
  let signed := rd32 m 0x10
  let len := rd32 m 0x0C
  firstRefusal [
    headRefusal (rd32 m 0 != 0x4D495342 || rd32 m signed != 0x47495342 || rd32 m (signed + 576) != 0x47495342) 0x40,
    headRefusal (rd16 m 4 != 1 || rd16 m 6 != 64 || rd16 m 0x16 != 0 || rd16 m 0x22 != 0 || !rdZero m 0x2C 20
      || rd32 m 0x24 / 2 ^ 20 % 2 ^ 11 != 0) 0x41,
    headRefusal (rd16 m 8 != 0x0960 || decide (0x0A1 < rd16 m 0x0A)) 0x42,
    headRefusal (len != signed + 1152 || decide (1048576 < len) || signed % 16 != 0 || len != written
      || decide (signed < 64)) 0x43]

/-- The size of a section of COUNT records (Table SI-2), where its COUNT is in range. -/
def sectSize (t n : Nat) : Option Nat :=
  match t with
  | 0x01 => if n = 1 then some 16 else none
  | 0x02 => if n = 96 then some (16 * n) else none
  | 0x03 => if 1 ≤ n ∧ n ≤ 48 then some (8 * n) else none
  | 0x04 => if 1 ≤ n ∧ n ≤ 16 then some (48 * n) else none
  | 0x05 => if 1 ≤ n ∧ n ≤ 1024 then some (16 * n) else none
  | 0x06 => if 1 ≤ n ∧ n ≤ 65536 then some (4 * n) else none
  | 0x07 => if n ≤ 65536 then some (4 * n) else none
  | 0x08 => if n ≤ 8160 then some (8 * n) else none
  | 0x09 => if n ≤ 1024 then some (20 + 16 * n) else none
  | 0x0A => if n = 32 then some (8 * n) else none
  | 0x0B => if n ≤ 152 then some (128 + 32 * n) else none
  | 0x0C => some (healthSize n)
  | 0x0D => if n ≤ 16 then some (176 + 32 * n) else none
  | _ => none

/-- Entries in ascending TYPE order, sections in the same order, aligned, apart and inside the signed range (R185). -/
def sectsOrdered (lo : Nat) (t : Option Nat) (hi : Nat) : List Sect → Bool
  | [] => true
  | e :: es => (match t with
      | none => true
      | some u => decide (u < e.typ)) && e.off % 16 == 0 && decide (lo ≤ e.off) && decide (e.off + e.len ≤ hi)
      && sectsOrdered (e.off + e.len) (some e.typ) hi es

/-- Padding between sections is zero (R185). -/
def padZero (m : Sparse Nat) (lo hi : Nat) : List Sect → Bool
  | [] => rdZero m lo (hi - lo)
  | e :: es => rdZero m lo (e.off - lo) && padZero m (e.off + e.len) hi es

/-- Step 2: the section table (R185, R186). -/
def checkSections (m : Sparse Nat) : Option Refuse :=
  let ss := sections m
  let n := rd16 m 0x14
  let signed := rd32 m 0x10
  let ok := (n == 12 || n == 13)
    && (List.range n).all (fun i => rd16 m (0x42 + 16 * i) == 0)
    && sectsOrdered (0x40 + 16 * n) none signed ss
    && ss.all (fun e => sectSize e.typ e.count == some e.len)
    && [1, 2, 3, 4, 5, 6, 7, 8, 9, 10, 11, 13].all (fun t => ss.any (·.typ == t))
    && padZero m (0x40 + 16 * n) signed ss
  headRefusal (!ok) 0x44

end Sys2Proof.Machine
end

