-- ==== Sys2Proof/Machine/ImageCheck.lean ====
section
/-!
DEFINITION. The check of a structure image (spec/07_structure_image.md R184 to R196): the steps of Table SI-12 in order, the first
failure reported with its code and place.
-/
namespace Sys2Proof.Machine

/-! ### Findings -/

/-- A finding where a condition is broken. -/
def ifBad (bad : Bool) (code sect idx : Nat) : List Refuse := if bad then [⟨code, sect, idx⟩] else []

/-- The order of reporting within a step: section, record, code (R196). -/
def Refuse.before (a b : Refuse) : Bool :=
  decide (a.sect < b.sect) || (a.sect == b.sect && (decide (a.idx < b.idx) || (a.idx == b.idx && decide (a.code < b.code))))

/-- The finding that is reported first. -/
def leastRefusal : List Refuse → Option Refuse
  | [] => none
  | r :: rs => match leastRefusal rs with
    | none => some r
    | some q => if q.before r then some q else some r

/-- A value within [lo, hi]. -/
def within (lo hi v : Nat) : Bool := decide (lo ≤ v) && decide (v ≤ hi)

/-- A value that an earlier entry of the list already has, by position. -/
def repeated (l : List Nat) (i : Nat) : Bool := (l.take i).contains (l.getD i 0)

/-! ### What the content steps read -/

/-- An image under check: its words, section table, the image with its blocks in record order, and for each BLOCK record the
indices of its first WIRING record and first PARAM word. -/
structure View where
  m : Sparse Nat
  ss : List Sect
  im : Image
  conn : List Nat
  par : List Nat

/-- Read an image for the check. -/
def View.of (m : Sparse Nat) (slot : Nat) : View :=
  let ss := sections m
  let offs := recOffs (sectOf ss 5) 0 16
  let bs := offs.map (rdBlock m (sectOf ss 6) (sectOf ss 7))
  { m := m, ss := ss, im := { readImage m slot with blocks := bs }, conn := offs.map fun o => rd16 m (o + 8),
    par := offs.map fun o => rd16 m (o + 12) }

/-- A section's offset. -/
def View.off (v : View) (t : Nat) : Nat := (sectOf v.ss t).off
/-- The blocks with their record indices. -/
def View.blocks (v : View) : List (Nat × Block) := (v.im.blocks.zipIdx).map fun p => (p.2, p.1)
/-- The blocks in image order. -/
def View.ordered (v : View) : Image := { v.im with blocks := orderBlocks v.im.blocks }

/-! ### Steps 3 to 6: node, signatures, rollback -/

/-- Bytes of a slot's words. -/
def slotBytes (m : Sparse Nat) (o n : Nat) : Bytes := (rdBytes m o n).map (BitVec.ofNat 8)

/-- A modulus in the installed enrolment record. -/
def enrModulus (s : State) (o : Nat) : Nat := beNat ((s.security.enr.drop o).take 512)
/-- Image authority a is enrolled (Table SE-2). -/
def imageAuthority? (s : State) (a : Nat) : Option Nat :=
  if a ≤ 3 ∧ ((s.security.enr.getD 27 0).toNat).testBit a then some (enrModulus s (1088 + 512 * a)) else none
/-- The safety authority, where one is enrolled. -/
def safetyAuthority? (s : State) : Option Nat :=
  if s.security.enr.getD 28 0 = 1 then some (enrModulus s 576) else none

/-- The fields of a signature block before SIG are those of KIND, AUTH and a key (Table SI-11). -/
def sigBlockOk (m : Sparse Nat) (o kind auth n : Nat) : Bool :=
  rd8 m (o + 4) == kind && rd8 m (o + 5) == auth && rd16 m (o + 6) == 0 && rdZero m (o + 40) 24
    && slotBytes m (o + 8) 32 == keyId n

/-- Steps 3 to 6 of Table SI-12. -/
def checkAuth (s : State) (m : Sparse Nat) : Option Refuse :=
  let signed := rd32 m 0x10
  let bind := rd32 m 0x24
  let ident := s.get R.NODE_IDENT_CLUSTER * 4096 + s.get R.NODE_IDENT_NODE
  let auth := rd8 m 0x21
  let sf := sectOf (sections m) 0x0D
  let rb := rd8 m 0x20
  let srb := rd8 m (sf.off + 4)
  let low (i v : Nat) : Bool := decide (i < 2) || decide (63 < i) || decide (v < s.get (R.SEC_RBi_COUNT i))
  firstRefusal [
    headRefusal (bind.testBit 31 && bind % 2 ^ 20 != ident) 0x45,
    match imageAuthority? s auth with
    | none => some ⟨0x46, 0, 0⟩
    | some n => firstRefusal [headRefusal (!sigBlockOk m signed 0 auth n) 0x46,
        headRefusal (!pssVerify n (slotBytes m 0 signed) (slotBytes m (signed + 64) 512)) 0x47],
    match safetyAuthority? s with
    | none => some ⟨0x48, 0, 0⟩
    | some n => headRefusal (!(sigBlockOk m (signed + 576) 1 0 n
        && pssVerify n (slotBytes m 0 64 ++ slotBytes m sf.off sf.len) (slotBytes m (signed + 640) 512))) 0x48,
    headRefusal (low rb (rd32 m 0x1C)) 0x49,
    if low srb (rd32 m sf.off) then some ⟨0x49, 0x0D, 0⟩ else none]

/-! ### Step 7: legs, phases, bridges, roles -/

/-- LEGMAP (Table SI-4, R18, R236). -/
def checkLegs (v : View) : List Refuse :=
  (v.im.legs.zipIdx).flatMap fun (l, n) =>
    let o := v.off 2 + 16 * n
    let blankOk := l.blank == 0xFF || (match v.im.legs[l.blank]? with
      | some b => b.phase != 0xFF
      | none => false)
    ifBad (!(l.phase == 0xFF || decide (l.phase < v.im.phases.length)) || decide (2 < l.safe) || (l.phase == 0xFF && l.safe != 0)
      || !blankOk || decide (2 < l.policy) || decide (1 < l.sense) || decide (16383 < l.dtRise) || decide (16383 < l.dtFall)
      || decide (4095 < l.minp) || !rdZero v.m (o + 5) 3 || !rdZero v.m (o + 14) 2) 0x4B 2 n

/-- PHASE (Table SI-5, R16, R17). -/
def checkPhases (v : View) : List Refuse :=
  (v.im.phases.zipIdx).flatMap fun (p, n) =>
    let second := p.neutral == 1 && (v.im.phases.take n).any fun q => q.bridge == p.bridge && q.neutral == 1
    let cphaseOk := match v.im.bridgeRec? p.bridge with
      | some b => decide (p.cphase < b.period)
      | none => false
    ifBad (decide (16 < p.nlegs)) 0x4A 3 n
      ++ ifBad (p.nlegs == 0 || p.nlegs != (phaseLegs v.im n).length || decide (1 < p.neutral) || second || !cphaseOk
        || rd8 v.m (v.off 3 + 8 * n + 3) != 0) 0x4B 3 n

/-- BRIDGE (Table SI-6, R16, R20, R187). -/
def checkBridges (v : View) : List Refuse :=
  (v.im.bridges.zipIdx).flatMap fun (b, n) =>
    let o := v.off 4 + 48 * n
    ifBad (decide (15 < b.num) || decide (8 < b.nphase)) 0x4A 4 n
      ++ ifBad (repeated (v.im.bridges.map (·.num)) n || b.nphase == 0 || b.nphase != (bridgePhases v.im b.num).length
        || decide (1 < b.cform) || !within 2400 1200000 b.period || decide (2 < b.reload) || (b.cform == 1 && b.reload != 0)
        || !within 1 255 b.tripN || !within 1 10000000 b.tripWin || !rdZero v.m (o + 9) 3 || !rdZero v.m (o + 34) 2
        || !rdZero v.m (o + 42) 6) 0x4B 4 n
      ++ ifBad (decide (4 < b.role) || (b.role != 1 && !rdZero v.m (o + 12) 20)) 0x4C 4 n

/-- The role of the bridge a block names, none where it names no bridge of the image. -/
def blockRole (im : Image) (b : Block) : Option Nat := (im.bridgeRec? b.bridge).map (·.role)

/-- Kinds that may name only a FORMING bridge (R528). -/
def formingKind (b : Block) : Bool :=
  (decide (0x10 ≤ b.kind) && decide (b.kind ≤ 0x18)) || (b.kind == 0x1C && b.par 0 == 0)

/-- Kinds that drive the MOD of a role (Table ND-2). -/
def drivingKind (role kind : Nat) : Bool :=
  match role with
  | 1 => kind == 0x10
  | 2 => kind == 0x1A
  | 3 => kind == 0x1B || kind == 0x1C
  | 4 => kind == 0x1A || kind == 0x05
  | _ => false

/-- The block that writes a wire. -/
def writerOf (im : Image) (w : Nat) : Option Block := im.blocks.find? fun b => (writtenWires im b).contains w

/-- One sweep of the blocks reached backwards from some wires: the writers of what the blocks reached read. -/
def reachSweep (im : Image) : Nat → List Nat → List Nat → List Nat
  | 0, _, seen => seen
  | n + 1, ws, seen =>
    let new := (ws.filterMap fun w => (writerOf im w).map (·.slot)).filter fun x => !seen.contains x
    if new.isEmpty then seen
    else reachSweep im n ((im.blocks.filter fun b => new.contains b.slot).flatMap (readWires im)) (seen ++ new.eraseDups)

/-- The wires of MOD's REF lead back to a driving kind of the bridge (R528). -/
def modDriven (im : Image) (b : Block) (role : Nat) : Bool :=
  let slots := reachSweep im 1025 (vecWires (inWire b 0) (refWidth im b)) []
  im.blocks.any fun q => slots.contains q.slot && q.bridge == b.bridge && drivingKind role q.kind

/-- BLOCK records against roles (R187, R528). -/
def checkRoles (v : View) : List Refuse :=
  v.blocks.flatMap fun (n, b) =>
    let role := blockRole v.im b
    let only := if formingKind b then role != some 1
      else if b.kind = 0x1B then role != some 3
      else if b.kind = 0x1A then role != some 2 && role != some 4
      else false
    let mod := b.kind == 0x19 && (match role with
      | some r => r == 0 || !modDriven v.im b r || (v.im.blocks.take n).any fun q => q.kind == 0x19 && q.bridge == b.bridge
      | none => true)
    ifBad ((b.bridge != 0xFF && role.isNone) || role == some 0 || only || mod) 0x4C 5 n

/-- Step 7. -/
def checkStep7 (v : View) : Option Refuse := leastRefusal (checkLegs v ++ checkPhases v ++ checkBridges v ++ checkRoles v)

/-! ### Step 8: values, wiring, order, assembly -/

/-- FRAME (Table SI-3, R160). -/
def checkFrame (v : View) : List Refuse :=
  let used := v.im.divs.filter (· != 7)
  ifBad (!within 4000 100000 v.im.frate || v.im.divs.any (fun d => decide (7 < d)) || decide (used.eraseDups.length ≠ used.length)) 0x51 1 0
    ++ ifBad (!within 100 600000 v.im.tEnergize || decide (60000 < v.im.tStop)) 0x4D 1 0

/-- Where a wire comes from: the record index of its writer, the output and the component. -/
def sources (v : View) : List (Nat × Nat × Nat × Nat) :=
  v.blocks.flatMap fun (n, b) =>
    ((outWidths v.im b).zipIdx).flatMap fun (w, j) => match outWire v.im b j with
      | some x => (List.range w).map fun c => (x + c, n, j, c)
      | none => []

/-- The source of a wire. -/
def sourceOf (src : List (Nat × Nat × Nat × Nat)) (w : Nat) : Option (Nat × Nat × Nat) := (src.find? (·.1 == w)).map (·.2)

/-- The blocks named at record indices. -/
def View.block (v : View) (n : Nat) : Block := v.im.blocks.getD n ⟨0, 0, 0, 0, 0, 0, 0, [], []⟩

/-- BRIDGE values: the ranges of a FORMING bridge (R82) and READYW (R188). -/
def checkBridgeValues (v : View) (src : List (Nat × Nat × Nat × Nat)) : List Refuse :=
  (v.im.bridges.zipIdx).flatMap fun (b, n) =>
    let range := b.role == 1 && !(pF 1000 20000000 1 b.sB && pF 50 15000 1 b.vB && within 0x0859999A 0xC8000000 b.f0
      && pF 0 10 1 b.xMin && pF 0 10 1 b.xMax && f32le b.xMin b.xMax)
    let readyOk := if b.role = 0 then b.readyW == 0xFFFF
      else match sourceOf src b.readyW with
        | some (i, j, _) =>
          let q := v.block i
          q.bridge == b.num && (b.role != 1 || (q.kind == 0x1C && q.par 0 == 0 && j == 4))
        | none => false
    ifBad range 0x4D 4 n ++ ifBad (!readyOk) 0x4F 4 n

/-- Number of input ports the wiring must give, where it is variable (R525). -/
def countsOk (b : Block) : Bool :=
  match b.kind with
  | 0x01 => within 2 8 b.nIn
  | 0x03 => b.nIn % 2 == 0 && within 2 16 b.nIn
  | 0x21 => b.nIn % 2 == 0 && within 4 34 b.nIn
  | _ => true

/-- BLOCK records by themselves: kind, slot, parameter count, order, group, policy, missing inputs (R145, R146, R155, R157, R160, R189, R525). -/
def checkBlocks (v : View) : List Refuse :=
  let slots := v.im.blocks.map (·.slot)
  let orders := v.im.blocks.map (·.order)
  let nw := (sectOf v.ss 6).count
  let np := (sectOf v.ss 7).count
  v.blocks.flatMap fun (n, b) =>
    let issued := within 1 0x21 b.kind
    let spec := paramSpec b
    let miss := (List.range (inWidths v.im b).length).any fun i => (inWire b i).isNone && !optionalIn v.im b i
    let missC := (List.range (cmdParams b.kind).length).any fun i => (cmdWire v.im b i).isNone
    ifBad (issued && (decide (1 < b.policy) || (if b.policy = 0 then b.holdFr == 0 else b.holdFr != 0)
        || (spec.isSome && !crossOk v.im b))) 0x4D 5 n
      ++ ifBad (!issued || decide (1023 < b.slot) || repeated slots n || spec.isNone
        || decide (np < v.par.getD n 0 + b.params.length)) 0x4E 5 n
      ++ ifBad (issued && (b.wires.isEmpty || !countsOk b || miss || missC || decide (nw < v.conn.getD n 0 + b.wires.length))) 0x4F 5 n
      ++ ifBad (decide (v.im.blocks.length ≤ b.order) || repeated orders n) 0x50 5 n
      ++ ifBad (groupDiv v.im b.group == 0 || decide (3 < b.group)) 0x51 5 n
      ++ ifBad (b.policy == 1 && blockRole v.im b == some 1) 0x52 5 n

/-- WIRING records: ports, flags, wires, two writers, vectors, and readers placed before their writers (R148, R150, R157, R189, R190). -/
def checkWiring (v : View) (src : List (Nat × Nat × Nat × Nat)) : List Refuse :=
  v.blocks.flatMap fun (n, b) =>
    let ni := (inWidths v.im b).length
    let no := (outWidths v.im b).length
    let nc := (cmdParams b.kind).length
    (b.wires.zipIdx).flatMap fun (r, i) =>
      let at_ := v.conn.getD n 0 + i
      let rise := match i with
        | 0 => true
        | i + 1 => decide ((b.wires.getD i ⟨0, 0, 0⟩).port < r.port)
      let flags := if r.port < ni then 0 else if r.port < ni + no then 1 else 2
      let width := if r.port < ni then (inWidths v.im b).getD r.port 0
        else if r.port < ni + no then (outWidths v.im b).getD (r.port - ni) 0 else 1
      let out := flags == 1
      let form := rise && decide (r.port < ni + no + nc) && r.flags == flags && decide (r.wire + width ≤ 8192) && decide (r.wire ≤ 8191)
        && (flags == 0 || decide (32 ≤ r.wire))
      let twice := out && (List.range width).any fun c =>
        (src.find? (·.1 == r.wire + c)).elim false fun e => !(e.2.1 == n && e.2.2.1 == r.port - ni && e.2.2.2 == c)
      let command := flags == 2 && (sourceOf src r.wire).isSome
      let owner (w : Nat) : Option (Nat × Nat) := (sourceOf src w).bind fun e =>
        if 1 < (outWidths v.im (v.block e.1)).getD e.2.1 0 then some (e.1, e.2.1) else none
      let split := flags == 0 && (List.range width).any fun c => (owner (r.wire + c)).isSome && owner (r.wire + c) != owner r.wire
      let early := flags != 1 && (List.range width).any fun c => match sourceOf src (r.wire + c) with
        | some (i, _, _) => (v.block i).kind != 0x1D && decide (b.order ≤ (v.block i).order)
        | none => false
      ifBad (!form || twice || command || split) 0x4F 6 at_ ++ ifBad early 0x50 5 n

/-- WIRING records that no block names: WIRE, FLAGS, and an output on a system wire (R189). -/
def checkLooseWiring (v : View) : List Refuse :=
  let used := v.blocks.flatMap fun (n, b) => (List.range b.wires.length).map (v.conn.getD n 0 + ·)
  ((List.range (sectOf v.ss 6).count).filter fun i => !used.contains i).flatMap fun i =>
    let r := rdWire v.m (v.off 6 + 4 * i)
    ifBad (decide (8191 < r.wire) || decide (3 < r.flags) || (r.isOut && decide (r.wire < 32))) 0x4F 6 i

/-- PARAM words: ranges, and zero for parameters marked C (R84, R167, R190). -/
def checkParams (v : View) : List Refuse :=
  v.blocks.flatMap fun (n, b) => match paramSpec b with
    | none => []
    | some spec => ((List.zip b.params spec).zipIdx).flatMap fun ((x, ok), i) =>
        let at_ := v.par.getD n 0 + i
        ifBad (!ok x) 0x4D 7 at_ ++ ifBad ((cmdParams b.kind).contains i && x != 0) 0x4F 7 at_

/-- WIREINIT, and the initial values of commanded parameters (R190, R191). -/
def checkInit (v : View) : List Refuse :=
  let ws := v.im.wireInit.map (·.1)
  (v.im.wireInit.zipIdx).flatMap (fun (e, n) =>
    ifBad (!within 32 8191 e.1 || repeated ws n || rd16 v.m (v.off 8 + 8 * n + 2) != 0) 0x4F 8 n
      ++ ifBad (!f32finite e.2) 0x4D 8 n)
  ++ v.blocks.flatMap fun (n, b) =>
    (List.range (cmdParams b.kind).length).flatMap fun i => match cmdWire v.im b i with
      | none => []
      | some w =>
        let (lo, hi) := cmdRange b.kind i
        let x := initWire v.im w
        let bad := !(f32finite x && f32le lo x && f32le x hi)
        match v.im.wireInit.findIdx? (·.1 == w) with
        | some k => ifBad bad 0x4D 8 k
        | none => ifBad bad 0x4D 7 (v.par.getD n 0 + i)

/-- Two command targets on one wire (R150). -/
def checkTargetWires (v : View) (src : List (Nat × Nat × Nat × Nat)) : List Refuse :=
  let wires := v.im.targets.map fun t => if t.kind = 0 then t.ref else 0x10000
  (v.im.targets.zipIdx).flatMap fun (t, n) =>
    if t.kind ≠ 0 then []
    else ifBad (repeated wires n) 0x4F 9 n ++ (match sourceOf src t.ref with
      | some (i, j, _) =>
        let b := v.block i
        let port := (inWidths v.im b).length + j
        let k := (b.wires.findIdx? (·.port == port)).getD 0
        [⟨0x4F, 6, v.conn.getD i 0 + k⟩]
      | none => [])

/-! #### FORMING bridges (R87, R88, R103, R114) -/

/-- The chain of Tables FV-3 and FE-1 in its order. -/
def formingChain : List Nat := [0x16, 0x18, 0x1C, 0x11, 0x12, 0x15, 0x13, 0x14, 0x17, 0x10]

/-- A connection: reader kind and input, writer kind and output, whether it passes a DELAY. -/
structure Conn4 where
  rk : Nat
  ri : Nat
  wk : Nat
  wo : Nat
  delay : Bool

/-- The connections that Tables FV-3 and FE-1 name. -/
def formingConns (harmonics : Bool) : List Conn4 :=
  [⟨0x16, 0, 0x10, 0, true⟩, ⟨0x18, 0, 0x08, 0, false⟩, ⟨0x18, 1, 0x08, 0, false⟩, ⟨0x18, 2, 0x16, 3, false⟩,
   ⟨0x18, 3, 0x16, 2, false⟩, ⟨0x18, 5, 0x10, 0, true⟩, ⟨0x18, 6, 0x1C, 2, true⟩, ⟨0x18, 7, 0x06, 1, true⟩]
  ++ [⟨0x1C, 0, 0x18, 2, false⟩, ⟨0x1C, 1, 0x18, 3, false⟩, ⟨0x1C, 2, 0x18, 4, false⟩, ⟨0x1C, 3, 0x16, 2, false⟩,
   ⟨0x1C, 5, 0x0B, 0, false⟩, ⟨0x1C, 6, 0x17, 5, true⟩, ⟨0x1C, 7, 0x12, 1, true⟩]
  ++ [⟨0x11, 0, 0x08, 0, false⟩, ⟨0x11, 1, 0x08, 0, false⟩, ⟨0x11, 2, 0x10, 0, true⟩, ⟨0x11, 3, 0x18, 0, false⟩,
   ⟨0x12, 0, 0x08, 0, false⟩, ⟨0x12, 1, 0x08, 0, false⟩, ⟨0x12, 2, 0x18, 1, false⟩]
  ++ [⟨0x15, 0, 0x12, 1, false⟩, ⟨0x15, 1, 0x1C, 1, false⟩, ⟨0x15, 2, 0x1C, 0, false⟩,
   ⟨0x13, 0, 0x15, 0, false⟩, ⟨0x13, 1, 0x0B, 0, false⟩, ⟨0x13, 2, 0x0B, 1, false⟩, ⟨0x13, 3, 0x0B, 2, false⟩]
  ++ [⟨0x14, 0, 0x13, 0, false⟩, ⟨0x14, 1, 0x0B, 0, false⟩, ⟨0x14, 2, 0x1C, 0, false⟩, ⟨0x14, 4, 0x10, 0, true⟩,
   ⟨0x17, 0, 0x14, 0, false⟩, ⟨0x17, 1, 0x13, 1, false⟩, ⟨0x17, 2, 0x13, 2, false⟩, ⟨0x17, 4, 0x0B, 0, false⟩]
  ++ (if harmonics then [⟨0x17, 3, 0x13, 3, false⟩] else [])
  ++ [⟨0x10, 0, 0x11, 1, false⟩, ⟨0x10, 1, 0x11, 0, false⟩, ⟨0x10, 3, 0x06, 1, false⟩, ⟨0x10, 4, 0x06, 0, false⟩]

/-- The block and output at a block's input, through a DELAY where the connection has one. -/
def connSource (v : View) (src : List (Nat × Nat × Nat × Nat)) (b : Block) (i : Nat) (delay : Bool) : Option (Block × Nat) :=
  match (inWire b i).bind (sourceOf src) with
  | none => none
  | some (n, j, c) =>
    if c ≠ 0 then none
    else if delay then
      let d := v.block n
      if d.kind ≠ 0x1D then none
      else match (inWire d 0).bind (sourceOf src) with
        | some (m, k, 0) => some (v.block m, k)
        | _ => none
    else some (v.block n, j)

/-- A block's input is connected to an output of a kind in the same bridge. -/
def connected (v : View) (src : List (Nat × Nat × Nat × Nat)) (b : Block) (i : Nat) (delay : Bool) (kind out : Nat) : Bool :=
  match connSource v src b i delay with
  | some (q, j) => q.kind == kind && j == out && q.bridge == b.bridge
  | none => false

/-- The guard chain: the SELECT that feeds SWING and the MAC that feeds it (Table FE-1, R133). -/
def guardOk (v : View) (src : List (Nat × Nat × Nat × Nat)) (g : Block) : Bool :=
  connected v src g 0 false 0x17 5 && connected v src g 1 false 0x14 1 && connected v src g 2 false 0x17 6
    && connected v src g 3 false 0x03 0

/-- The MAC reads P_DELIV, G_BL and P_SET. -/
def guardMacOk (v : View) (src : List (Nat × Nat × Nat × Nat)) (m : Block) : Bool :=
  let has (k o : Nat) : Bool := (List.range m.nIn).any fun i => connected v src m i false k o
  has 0x17 6 && has 0x14 2 && has 0x11 1

/-- The blocks of a kind among some, a PROFILE in its RAMP form. -/
def ofKind (bs : List (Nat × Block)) (k : Nat) : List (Nat × Block) := bs.filter fun p => p.2.kind == k && (k != 0x1C || p.2.par 0 == 0)

/-- The inputs that Tables FV-3 and FE-1 connect to one wire: V_AB, I_AB, V_DQP and FB_CLOSED, by kind and input. -/
def sharedWires : List (List (Nat × Nat)) :=
  [[(0x18, 1), (0x11, 0), (0x12, 0)], [(0x11, 1), (0x12, 1)], [(0x13, 1), (0x14, 1), (0x17, 4), (0x1C, 5)], [(0x18, 4), (0x1C, 4), (0x14, 3)]]

/-- The readers of a shared wire that read another one than the first of them. -/
def sharedBad (bs : List (Nat × Block)) : List Nat :=
  sharedWires.flatMap fun g =>
    let rs := g.flatMap fun e => ((ofKind bs e.1).head?.toList).map fun p => (p.1, inWire p.2 e.2)
    match rs with
    | [] => []
    | r :: rs => (rs.filter fun q => q.2 != r.2).map (·.1)

/-- The measurements of orders 2 and 3: a CLARKE of three SAMPLE channels at V_AB, I_AB and V_BUS; a SEQ of V_AB at THETA that writes V_DQP, V_DQN and
V_Z; a PARK or SEQ of I_AB at THETA; SYNC after all of order 3 (R87, R114). -/
def measureBad (v : View) (src : List (Nat × Nat × Nat × Nat)) (bs : List (Nat × Block)) (first : Nat) : List Nat :=
  let one (k : Nat) : Option (Nat × Block) := (ofKind bs k).head?
  let wire (k i : Nat) : Option Nat := (one k).bind fun p => inWire p.2 i
  let index (b : Block) : Nat := (bs.find? (·.2.slot == b.slot)).elim first (·.1)
  let sampled (b : Block) : Bool := (List.range 3).all fun i => match (inWire b i).bind (sourceOf src) with
    | some (n, _, _) => (v.block n).kind == 0x1E
    | none => false
  let clarke := [(0x18, 0), (0x18, 1), (0x11, 1)].flatMap fun (k, i) => match (one k).bind fun p => connSource v src p.2 i false with
    | some (q, _) => if sampled q then [] else [index q]
    | none => []
  let theta (b : Block) : Bool := connected v src b 1 false 0x16 0
  let seqs := (List.range 3).filterMap fun j => (one 0x13).bind fun p => connSource v src p.2 (1 + j) false
  let seq := match seqs with
    | (q, _) :: qs => if inWire q 0 == wire 0x18 1 && theta q && qs.all (fun r => r.1.slot == q.slot) then [] else [index q]
    | [] => []
  let third := (ofKind bs 0x09 ++ ofKind bs 0x0B).filter fun p => inWire p.2 0 == wire 0x18 1 || inWire p.2 0 == wire 0x11 1
  let current := if third.any (fun p => inWire p.2 0 == wire 0x11 1 && theta p.2) then [] else [first]
  let late := match one 0x18 with
    | some (i, y) => if third.all fun p => decide (p.2.order < y.order) then [] else [i]
    | none => []
  clarke ++ seq ++ current ++ late

/-- The one DELAY of W: length 1, in the fast group, the only one of the bridge, and every reader of W through DELAY reads it (R89). -/
def delayBad (bs : List (Nat × Block)) (im : Image) (sw : Block) : List Nat :=
  let ds := (ofKind bs 0x1D).filter fun p => (inWire p.2 0).isSome && inWire p.2 0 == outWire im sw 0
  match ds with
  | [] => []
  | [(i, d)] =>
    (if d.par 0 = 1 ∧ d.group = sw.group then [] else [i])
      ++ [(0x16, 0), (0x18, 5), (0x11, 2), (0x14, 4)].flatMap fun (k, n) => match (ofKind bs k).head? with
        | some (j, b) => if inWire b n == outWire im d 0 then [] else [j]
        | none => []
  | _ => ds.map (·.1)

/-- The PI of a bridge whose reference R is a component of an output of CURLIM. -/
def loopPi (v : View) (src : List (Nat × Nat × Nat × Nat)) (bs : List (Nat × Block)) (cl : Block) (out comp : Nat) : Option (Nat × Block) :=
  (ofKind bs 0x0C).find? fun p => match (inWire p.2 0).bind (sourceOf src) with
    | some (n, j, c) => (v.block n).slot == cl.slot && j == out && c == comp
    | none => false

/-- The current loop (R110, orders 11 and 12 of Table FV-3): a PI on each component of I_LIM_P with feed-forward, on I_LIM_N with N_EN = 1 and on
I_LIM_Z with Z_EN = 1, each against a measured current; every IPARK at THETA_MOD; MOD in its ABZ form, reached by them and by each PRES, all in
the fast group; z from the zero-sequence PI, or held at 0.0. -/
def loopBad (v : View) (src : List (Nat × Nat × Nat × Nat)) (bs : List (Nat × Block)) (first fast : Nat) (vimp cl : Block) (md : Nat × Block) :
    List Nat :=
  let nEn := vimp.par 2 == 1
  let zEn := vimp.par 5 == 1
  let want := [(0, 0), (0, 1)] ++ (if nEn then [(1, 0), (1, 1)] else []) ++ (if zEn then [(2, 0)] else [])
  let slots := reachSweep v.im 1025 (vecWires (inWire md.2 0) (refWidth v.im md.2)) []
  let measured (b : Block) : Bool := match (inWire b 1).bind (sourceOf src) with
    | some (n, _, _) => let q := v.block n
        q.bridge == b.bridge && [0x08, 0x09, 0x0B].contains q.kind
    | none => false
  let pis := want.flatMap fun (out, comp) => match loopPi v src bs cl out comp with
    | none => [first]
    | some (i, p) => if measured p && slots.contains p.slot && (out != 0 || (inWire p 2).isSome) then [] else [i]
  let iparks := (ofKind bs 0x0A).filter fun p => slots.contains p.2.slot
  let park := (if iparks.isEmpty then [first] else [])
    ++ (iparks.filter fun p => !connected v src p.2 1 false 0x16 1).map (·.1)
  let groups := ([0x0C, 0x0D, 0x0A].flatMap fun k => ofKind bs k).filter fun p => slots.contains p.2.slot && p.2.group != fast
  let pres := ([(0, 5), (1, 7), (2, 11), (3, 13)]).flatMap fun (bit, h) =>
    if (vimp.par 7).testBit bit && !((ofKind bs 0x0D).any fun p => p.2.par 1 == h && slots.contains p.2.slot) then [first] else []
  let zw := (inWire md.2 0).map (· + 2)
  let zOk := match zw with
    | none => false
    | some w => if zEn then (match loopPi v src bs cl 2 0 with
          | some (_, p) => (reachSweep v.im 1025 [w] []).contains p.slot
          | none => false)
        else (sourceOf src w).isNone && v.im.targets.all (fun t => t.kind != 0 || t.ref != w) && f32zero? (initWire v.im w)
  pis ++ park ++ groups.map (·.1) ++ pres ++ (if md.2.par 1 == 1 && zOk then [] else [md.1])

/-- The records that break the assembly of one FORMING bridge, each by its index; a missing block is placed at the bridge's first BLOCK
record, and a bridge without blocks at its BRIDGE record (R196). -/
def checkAssembly (v : View) (src : List (Nat × Nat × Nat × Nat)) (br : BridgeRec) (rec : Nat) : List Refuse :=
  let mine := v.blocks.filter fun p => p.2.bridge == br.num
  match mine with
  | [] => [⟨0x52, 4, rec⟩]
  | first :: _ =>
    let of (k : Nat) := ofKind mine k
    let one (k : Nat) : Option (Nat × Block) := (of k).head?
    let at_ (i : Nat) : List Refuse := [⟨0x52, 5, i⟩]
    let missing := (formingChain ++ [0x08, 0x09, 0x0B, 0x0C, 0x0A, 0x19, 0x06, 0x03]).flatMap fun k => if (of k).isEmpty then at_ first.1 else []
    let double := formingChain.flatMap fun k => if 1 < (of k).length then (of k).flatMap fun p => at_ p.1 else []
    match one 0x10 with
    | none => missing ++ double
    | some (si, sw) =>
      let fast := sw.group
      let sel := (connSource v src sw 3 false).map (·.1)
      let mac := (sel.bind fun g => connSource v src g 3 false).map (·.1)
      let ofBlock (b : Block) : Nat := (mine.find? (·.2.slot == b.slot)).elim first.1 (·.1)
      let groups := [0x16, 0x18, 0x1C, 0x13, 0x14, 0x17, 0x19].flatMap fun k => (of k).flatMap fun p =>
        if p.2.group = fast then [] else at_ p.1
      let slow := [0x11, 0x12, 0x15].flatMap fun k => (of k).filter fun p => p.2.group != fast
      let slowBad := match slow with
        | [] => []
        | p :: ps =>
          let n := groupDiv v.im p.2.group
          let nf := groupDiv v.im fast
          if ps.all (fun q => q.2.group == p.2.group) ∧ nf < n ∧ n ≤ 16 * nf then [] else slow.flatMap fun q => at_ q.1
      let places := (List.zip formingChain (formingChain.drop 1)).flatMap fun (a, b) => match one a, one b with
        | some (_, x), some (j, y) => if x.order < y.order then [] else at_ j
        | _, _ => []
      let mods := (of 0x19).flatMap fun p => if sw.order < p.2.order then [] else at_ p.1
      let conns := (formingConns (bridgeHarmonics v.im br.num != 0)).flatMap fun c => match one c.rk with
        | some (i, b) => if connected v src b c.ri c.delay c.wk c.wo then [] else at_ i
        | none => []
      let guard := match sel, mac, one 0x17 with
        | some g, some m, some (_, cl) =>
          (if guardOk v src g && (connSource v src sw 4 false).map (·.1) == some g && g.group == fast && decide (cl.order < g.order)
              && decide (g.order < sw.order) then [] else at_ (ofBlock g))
            ++ (if guardMacOk v src m && m.group == fast && decide (cl.order < m.order) && decide (m.order < g.order) then []
              else at_ (ofBlock m))
            ++ (match one 0x18 with
              | some (i, y) => if (connSource v src y 7 true).map (·.1) == some g then [] else at_ i
              | none => [])
        | _, _, _ => at_ si
      let zero := match one 0x13 with
        | some (i, q) => if (q.par 5 == 1) == hasNeutral v.im br.num then [] else at_ i
        | none => []
      let loop := match one 0x13, one 0x17, one 0x19 with
        | some (_, q), some (_, cl), some md => loopBad v src mine first.1 fast q cl md
        | _, _, _ => []
      let wires := sharedBad mine ++ measureBad v src mine first.1 ++ delayBad mine v.im sw ++ loop
      missing ++ double ++ groups ++ slowBad ++ places ++ mods ++ conns ++ guard ++ zero ++ wires.flatMap at_

/-- Every FORMING bridge. -/
def checkForming (v : View) (src : List (Nat × Nat × Nat × Nat)) : List Refuse :=
  (v.im.bridges.zipIdx).flatMap fun (b, n) => if b.role = 1 then checkAssembly v src b n else []

/-- Step 8. -/
def checkStep8 (v : View) : Option Refuse :=
  let src := sources v
  leastRefusal (checkFrame v ++ checkBridgeValues v src ++ checkBlocks v ++ checkWiring v src ++ checkLooseWiring v ++ checkParams v ++ checkInit v
    ++ checkTargetWires v src ++ checkForming v src)

/-! ### Step 9: budget, commands, sorting, sensing, health, safety -/

/-- ⌊0.9 × B⌋ (R163). -/
def budgetLimit (f : Nat) : Nat := 9 * (600000000 / f) / 10

/-- The budget: the first block past the limit on the lowest tile that exceeds it (R163, R196). -/
def checkBudget (v : View) : List Refuse :=
  let im := v.ordered
  let c := schedule im im.blocks
  let lim := budgetLimit im.frate
  match (List.range 16).find? fun t => decide (lim < tileDone c t) with
  | none => []
  | some t => match c.done.reverse.find? fun e => e.1 / 64 == t && decide (lim < e.2) with
    | some (slot, _) => [⟨0x53, 5, (v.im.blocks.findIdx? (·.slot == slot)).getD 0⟩]
    | none => []

/-- Target IDs of the safety function (Table SF-1). -/
def safetyTarget (id : Nat) : Bool :=
  within 0xFF00 0xFF07 id || within 0xFF10 0xFF1F id || within 0xFF20 0xFF27 id || id == 0xFF30 || id == 0xFF31

/-- The ranges of the parameters marked C that read a wire. -/
def commandRanges (v : View) (w : Nat) : List (Nat × Nat) :=
  v.im.blocks.flatMap fun b => (List.range (cmdParams b.kind).length).filterMap fun i =>
    if cmdWire v.im b i = some w then some (cmdRange b.kind i) else none

/-- The COMMAND section (R192, R193, R371). -/
def checkCommand (v : View) : List Refuse :=
  let d := v.im.delays
  let ids := v.im.targets.map (·.id)
  let perm := (List.range 4).all fun c => v.im.precedence.contains c
  ifBad (d.any (fun x => x != 0 && !within 85900 429496729 x) || d.getD 2 0 == 0 || !perm) 0x54 9 0
    ++ ifBad (decide (d.getD 0 0 < 1073742)) 0x57 9 0
    ++ (v.im.targets.zipIdx).flatMap fun (t, n) =>
      let finite := f32finite t.lo && f32finite t.hi
      let range := (commandRanges v t.ref).all fun r => f32eq t.lo r.1 && f32eq t.hi r.2
      let zero := f32zero? t.lo && f32zero? t.hi
      let kindOk := match t.kind with
        | 0 => within 32 8191 t.ref && (writerOf v.im t.ref).isNone && f32le t.lo t.hi && range
        | 1 => decide (t.ref ≤ 15) && zero
        | 2 => t.ref == 0 && t.sense == 3 && zero
        | 3 => decide (t.ref ≤ 15) && zero
        | _ => false
      ifBad (repeated ids n || !kindOk || !finite || decide (3 < t.sense) || decide (15 < t.classes)
          || rd8 v.m (v.off 9 + 20 + 16 * n + 7) != 0) 0x54 9 n
        ++ ifBad (within 0xFF00 0xFF3F t.id && !(safetyTarget t.id && t.kind == 0 && t.classes.testBit 0)) 0x57 9 n

/-- SORTING (Table SI-9). -/
def checkSorting (v : View) : List Refuse :=
  (v.im.sorting.zipIdx).flatMap fun (e, n) =>
    ifBad (decide (7 < e.1) || e.2.1 == 0 || !within 1 512 e.2.2 || !rdZero v.m (v.off 0x0A + 8 * n + 4) 4) 0x55 0x0A n

/-- Periods of a clock in a frame, none where it does not divide the frame (R260, R262). -/
def periodsOf (f p : Nat) : Option Nat := if p = 0 ∨ f = 0 ∨ 1200000000 % (f * p) ≠ 0 then none else some (1200000000 / (f * p))

/-- A clock period is even and from 48 to 240 ticks. -/
def clockPeriod (p : Nat) : Bool := p % 2 == 0 && within 48 240 p

/-- The SENSE header (Table SN-7, R258 to R262). -/
def senseHeadBad (v : View) : Bool :=
  let f := v.im.frate
  let o := v.off 0x0B
  (v.im.banks.zipIdx).any (fun (b, n) => !clockPeriod b.pm || decide (3 < b.form) || decide (1 < b.sdlev) || decide (4095 < b.clkadj)
      || rd16 v.m (o + 8 * n + 6) != 0 || (b.form != 0 && (periodsOf f b.pm).isNone))
    || (v.im.groups.zipIdx).any (fun (g, n) => !clockPeriod g.ps || decide (1 < g.en) || rd16 v.m (o + 96 + 4 * n + 2) != 0
      || (g.2 == 1 && (periodsOf f g.1).isNone))
    || decide (31 < v.im.snapPh) || decide (1023 < v.im.snapFlow) || rd8 v.m (o + 113) != 0 || !rdZero v.m (o + 116) 12
    || (v.im.legs.zipIdx).any fun (l, n) => l.sense == 1
      && ((v.im.pathRec? n).isNone || (v.im.banks.getD (n / 8) ⟨0, 0, 0, 0, 0⟩).form == 0)

/-- A response accepts a sinc order (Table SN-3). -/
def respTakes (r k : Nat) : Bool := if within 1 5 r then k == r else if within 6 10 r then k == r - 5 else decide (r ≤ 31)

/-- The frames between two triggers of a path, 1 where it triggers in every frame; none where R264 is broken. -/
def pathFrames (im : Image) (p : PathRec) : Option Nat :=
  match periodsOf im.frate (modPeriod im p.chan) with
  | none => none
  | some n =>
    let rd := p.r * romD (p.banks.getD 0 0)
    if rd = 0 then none
    else if n % rd = 0 then some 1
    else if rd % n = 0 ∧ [2, 4, 8, 16, 32, 64].contains (rd / n) then some (rd / n)
    else none

/-- A path record is broken (Table SN-8, R258, R262, R264, R268). -/
def pathBad (v : View) (p : PathRec) (o : Nat) : Bool :=
  let used := p.banks.take p.nbank
  let d := romD (used.getD 0 0)
  let sourceOk := if p.chan < 96 then
      (match v.im.legs[p.chan]? with
        | some l => l.phase != 0xFF && l.sense == 1
        | none => false) && (v.im.banks.getD (p.chan / 8) ⟨0, 0, 0, 0, 0⟩).form != 0
    else (v.im.groups.getD ((p.chan - 96) / 6) ⟨0, 0⟩).en == 1
  decide (119 < p.chan) || !within 1 5 p.k || !within 8 4096 p.r || !within 1 4 p.nbank || decide (p.nbank ≤ p.abank)
    || !within 1 128 p.txf || !f32finite p.scale || f32zero? p.scale || !f32finite p.offset
    || (p.banks.drop p.nbank).any (· != 0xFF)
    || used.any (fun r => decide (31 < r) || !respTakes r p.k || romD r != d)
    || !sourceOk || (pathFrames v.im p).isNone || !rdZero v.m (o + 14) 2 || !rdZero v.m (o + 24) 8

/-- A resampler record is broken (Table SN-9, R281). -/
def resBad (v : View) (r : ResRec) (o : Nat) : Bool :=
  decide (31 < r.rch) || (v.im.pathRec? r.src).isNone || decide (1 < r.lock) || !within 5 10 r.logn || !rdZero v.m (o + 8) 24
    || (if r.lock = 0 then r.bridge != 0xFF || !within 1 4096 r.cyc
        else r.cyc != 0 || (v.im.bridgeRec? r.bridge).map (·.role) != some 1)

/-- The SENSE section, and the SAMPLE blocks against the paths they read (R264, R285). -/
def checkSense (v : View) : List Refuse :=
  let offs := recOffs (sectOf v.ss 0x0B) 128 32
  let name (o : Nat) : Nat := if rd8 v.m o = 0 then rd8 v.m (o + 1) else 128 + rd8 v.m (o + 1)
  let names := offs.map name
  ifBad (senseHeadBad v) 0x56 0x0B 0
    ++ (offs.zipIdx).flatMap (fun (o, n) =>
      ifBad (repeated names n || (match rd8 v.m o with
        | 0 => pathBad v (rdPath v.m o) o
        | 1 => resBad v (rdRes v.m o) o
        | _ => true)) 0x56 0x0B n)
    ++ v.blocks.flatMap fun (n, b) =>
      let g := groupDiv v.im b.group
      ifBad (b.kind == 0x1E && b.params.any fun c =>
        if 128 ≤ c then !(v.im.resamplers.any (·.rch == c - 128))
        else match (v.im.pathRec? c).bind (pathFrames v.im) with
          | some a => g % a != 0
          | none => true) 0x56 5 n

/-- A leg-model record is broken (Table HL-1). -/
def legModelBad (v : View) (o : Nat) : Bool :=
  let f (i : Nat) := rd32 v.m (o + 4 + 4 * i)
  rd8 v.m o != 1 || decide (15 < rd8 v.m (o + 1)) || !rdZero v.m (o + 2) 2 || !rdZero v.m (o + 28) 4
    || !(pF 100 1000000000000 1 (f 0) && pF 1 200 1 (f 1) && pF (-40) 200 1 (f 2) && pF 1 10 1 (f 3) && pF 0 2 1 (f 4) && pF 1 10 1 (f 5))

/-- A DC-link record is broken. -/
def dcLinkBad (v : View) (o : Nat) : Bool :=
  let f (i : Nat) := rd32 v.m (o + 8 + 4 * i)
  rd8 v.m o != 2 || decide (3 < rd8 v.m (o + 1)) || !within 32 8191 (rd16 v.m (o + 2)) || !within 32 8191 (rd16 v.m (o + 4))
    || !rdZero v.m (o + 6) 2 || !rdZero v.m (o + 28) 4
    || !(pF 1 10000000 1000000 (f 0) && pF 1 1000000 1000000 (f 1) && pF 50 99 100 (f 2) && pF 11 100 10 (f 3) && pF 1 100000 10 (f 4))

/-- A contactor record is broken. -/
def contactorRecBad (v : View) (o : Nat) : Bool :=
  let n := rd8 v.m (o + 1)
  rd8 v.m o != 3 || decide (3 < n) || rd8 v.m (v.off 0x0D + 80 + 16 * n) != 1
    || !(rd16 v.m (o + 2) == 0xFFFF || within 32 8191 (rd16 v.m (o + 2)))
    || !within 1 1000000000 (rd32 v.m (o + 4)) || !within 1 1000000000 (rd32 v.m (o + 8)) || !pF 0 100000 1 (rd32 v.m (o + 12))
    || !rdZero v.m (o + 16) 16

/-- The HEALTH section and the TJEST blocks (R474, R482). -/
def checkHealth (v : View) : List Refuse :=
  let sc := sectOf v.ss 0x0C
  let o := sc.off
  let nlm := rd8 v.m o
  let ndc := rd8 v.m (o + 1)
  let nct := rd8 v.m (o + 2)
  let offs := recOffs sc 32 32
  let names := offs.map fun r => 256 * rd8 v.m r + rd8 v.m (r + 1)
  let models := (offs.take nlm).map fun r => rd8 v.m (r + 1)
  let has := v.ss.any (·.typ == 0x0C)
  (if has then
    ifBad (decide (16 < nlm) || decide (4 < ndc) || decide (4 < nct) || sc.count != nlm + ndc + nct || rd8 v.m (o + 3) != 0
      || !within 10 10000 (rd16 v.m (o + 4)) || !within 10 1000 (rd16 v.m (o + 6))
      || !(pF 0 20 1 (rd32 v.m (o + 8)) && pF 5 200 10 (rd32 v.m (o + 12)) && pF (-40) 100 1 (rd32 v.m (o + 16))
        && pF 1 30 1 (rd32 v.m (o + 20))) || !rdZero v.m (o + 24) 8) 0x56 0x0C 0
    ++ (offs.zipIdx).flatMap fun (r, n) =>
      ifBad (repeated names n || (if n < nlm then legModelBad v r else if n < nlm + ndc then dcLinkBad v r else contactorRecBad v r))
        0x56 0x0C n
  else [])
    ++ v.blocks.flatMap fun (n, b) =>
      let same := v.im.blocks.filter fun q => q.kind == 0x21 && q.bridge == b.bridge && decide (q.slot ≤ b.slot)
      let named := same.foldl (fun k q => k + (q.nIn - 2) / 2) 0
      ifBad (b.kind == 0x21 && (!(has && models.contains b.bridge) || decide ((imageLegs v.im b.bridge).length < named))) 0x56 5 n

/-- A safety input record is broken (Table SF-2, R374, R376, R393). -/
def inputBad (v : View) (i : Nat) : Bool :=
  let o := v.off 0x0D + 16 + 8 * i
  let func := rd8 v.m o
  let flags := rd8 v.m (o + 1)
  let react := rd8 v.m (o + 2)
  let filt := rd8 v.m (o + 4)
  let disc := rd8 v.m (o + 5)
  let par := rd16 v.m (o + 6)
  let earlier := (List.range i).any fun j => rd8 v.m (v.off 0x0D + 16 + 8 * j) == func
  let groupOn (g : Nat) : Bool := (v.im.groups.getD g ⟨0, 0⟩).en == 1
  if func = 0 then !rdZero v.m o 8
  else
    decide (6 < func) || decide (7 < flags) || decide (3 < react) || decide (15 < rd8 v.m (o + 3)) || !within 1 255 disc
      || (if func = 6 then decide (22 < filt) || !within 10 10000 par || decide (disc * 10 ≤ par) || !groupOn (filt / 6)
          else !within 1 250 filt)
      || (func == 1 && !flags.testBit 1) || ((func == 4 || func == 6) && earlier)
      || (func == 4 && (decide (10000 < par) || !groupOn 3))
      || (react == 1 && !within 10 60000 par) || (func != 4 && func != 6 && react != 1 && par != 0)

/-- A contactor output record is broken (Table SF-4, R374, R383). -/
def contactorBad (v : View) (n : Nat) : Bool :=
  let o := v.off 0x0D + 80 + 16 * n
  let fb (f : Nat) : Nat := v.off 0x0D + 144 + 4 * f
  let tp := (rd8 v.m (o + 1)).testBit 0
  let len := rd16 v.m (o + 2)
  let int := rd16 v.m (o + 4)
  if rd8 v.m o = 0 then !rdZero v.m o 16
  else
    decide (1 < rd8 v.m o) || decide (1 < rd8 v.m (o + 1))
      || !((within 100 1000 len && len % 10 == 0) || (!tp && len == 0)) || !(within 10 600 int || (!tp && int == 0))
      || !within 5 1000 (rd16 v.m (o + 6)) || decide (1000 < rd16 v.m (o + 8)) || rd8 v.m (o + 11) != 0
      || !within 32 8191 (rd16 v.m (o + 12)) || rd16 v.m (o + 14) != 0
      || (List.range 8).any fun f => (rd8 v.m (o + 10)).testBit f
        && !((rd8 v.m (fb f) == 1 || rd8 v.m (fb f) == 2) && rd8 v.m (fb f + 1) == n)

/-- A feedback record is broken (Table SF-6). -/
def feedbackBad (v : View) (f : Nat) : Bool :=
  let o := v.off 0x0D + 144 + 4 * f
  let use := rd8 v.m o
  if use = 0 then !rdZero v.m o 4
  else decide (3 < use) || (if use = 3 then rd8 v.m (o + 1) != 0 else decide (3 < rd8 v.m (o + 1))) || !within 1 50 (rd8 v.m (o + 2))
    || rd8 v.m (o + 3) != 0

/-- A connection record is broken (Table SF-11). -/
def connBad (v : View) (o : Nat) : Bool :=
  let dir := rd8 v.m (o + 2)
  let bus := rd8 v.m (o + 3)
  let addr := rd32 v.m (o + 4)
  let texp := rd16 v.m (o + 12)
  let tcyc := rd16 v.m (o + 14)
  let react := rd8 v.m (o + 16)
  let addrOk := if 4 ≤ bus then decide (addr < 4096) else if addr.testBit 31 then decide (addr % 2 ^ 31 < 2 ^ 29) else decide (addr < 2048)
  rd16 v.m o == 0 || decide (1 < dir) || decide (5 < bus) || !addrOk || texp == 0
    || (if dir = 1 then tcyc == 0 || decide (texp < 2 * tcyc) || react != 0 else tcyc != 0 || decide (3 < react))
    || decide (3 < rd8 v.m (o + 17)) || decide (15 < rd8 v.m (o + 18)) || !within 1 16 (rd8 v.m (o + 19))
    || (if dir = 0 ∧ react = 1 then !within 10 60000 (rd16 v.m (o + 20)) else rd16 v.m (o + 20) != 0) || !rdZero v.m (o + 22) 10

/-- The SAFETY section (R194, R374, R376, R383, R393). -/
def checkSafety (v : View) : List Refuse :=
  let o := v.off 0x0D
  let sc := sectOf v.ss 0x0D
  let offs := recOffs sc 176 32
  let ids := offs.map fun r => rd16 v.m r
  ifBad (rd8 v.m (o + 4) == v.im.rollbackIdx || rd8 v.m (o + 5) != sc.count || decide (15 < rd8 v.m (o + 6)) || !rdZero v.m (o + 7) 9
      || (List.range 8).any (inputBad v) || (List.range 4).any (contactorBad v) || (List.range 8).any (feedbackBad v)) 0x57 0x0D 0
    ++ (offs.zipIdx).flatMap fun (r, n) => ifBad (repeated ids n || connBad v r) 0x57 0x0D n

/-- Step 9. -/
def checkStep9 (v : View) : Option Refuse :=
  leastRefusal (checkBudget v ++ checkCommand v ++ checkSorting v ++ checkSense v ++ checkHealth v ++ checkSafety v)

/-- The check of R196 on the words of a slot of which `written` bytes were committed: none where the image passes. -/
def checkImage (s : State) (m : Sparse Nat) (slot written : Nat) : Option Refuse :=
  match checkHeader m written with
  | some r => some r
  | none => match checkSections m with
    | some r => some r
    | none => match checkAuth s m with
      | some r => some r
      | none =>
        let v := View.of m slot
        match checkStep7 v with
        | some r => some r
        | none => match checkStep8 v with
          | some r => some r
          | none => checkStep9 v

end Sys2Proof.Machine
end

