-- ==== Sys2Proof/Machine/Fixed.lean ====
section
/-!
DEFINITION. Fixed-point exponential and logarithm in units of 2⁻⁹⁶, for the life models of spec/18_health.md.
-/
namespace Sys2Proof.Machine

/-- One in units of 2⁻⁹⁶. -/
def fixUnit : Nat := 2 ^ 96

/-- ln 2 in units of 2⁻⁹⁶. -/
def ln2Fix : Nat := 54916777467707473351141471128

/-- Terms of the exponential series of r from term k on. -/
def expTerms (r : Nat) : Nat → Nat → Nat → Nat
  | 0, _, _ => 0
  | n + 1, k, t => t + expTerms r n (k + 1) (t * r / fixUnit / k)

/-- e^x, x and the result in units of 2⁻⁹⁶. -/
def expFix (x : Int) : Nat :=
  let n := x / (ln2Fix : Int)
  let r := (x - n * ln2Fix).toNat
  let e := expTerms r 40 1 fixUnit
  if 0 ≤ n then e * 2 ^ n.toNat else e / 2 ^ (-n).toNat

/-- Terms of atanh: z + z³/3 + … from exponent k on. -/
def atanhTerms (z2 : Nat) : Nat → Nat → Nat → Nat
  | 0, _, _ => 0
  | n + 1, k, t => t / k + atanhTerms z2 n (k + 2) (t * z2 / fixUnit)

/-- ln v, v > 0 and the result in units of 2⁻⁹⁶; 0 for v = 0. -/
def lnFix (v : Nat) : Int :=
  if v = 0 then 0
  else
    let k : Int := (Nat.log2 v : Int) - 96
    let m := if 0 ≤ k then v / 2 ^ k.toNat else v * 2 ^ (-k).toNat
    let z := (m - fixUnit) * fixUnit / (m + fixUnit)
    k * ln2Fix + 2 * atanhTerms (z * z / fixUnit) 60 1 z

/-- A finite binary32 value in units of 2⁻⁹⁶. -/
def f32Fix (b : Nat) : Int := f32toFix b 96

end Sys2Proof.Machine
end

