-- ==== Sys2Proof/Machine/SiteOut.lean ====
section
/-!
DEFINITION. Outgoing messages of a node to its peers: site messages with their numbers (spec/13_twin.md R361 to R363) and the reply that
returns a dead letter to its sender (R310, R432, R438).
-/
namespace Sys2Proof.Machine

/-- The member's role (Table TW-2). -/
def State.role (s : State) : Nat := s.get R.NODE_TWIN_STAT_ROLE

/-- The twin link is up for the pair (R356). -/
def State.linkUp (s : State) : Bool := s.get R.NODE_TWIN_STAT_LINK == 1

/-! ### Frames on the site ports (R428 to R433) -/

/-- The locally administered unicast address of port n of a node in a cluster (R428). -/
def portAddress (cluster n node : Nat) : Bytes := [0x02, 0x5A, 0x44] ++ leBytes 1 cluster ++ leBytes 1 (n * 16 + node / 256 % 16) ++ leBytes 1 node

/-- The site multicast address (R428). -/
def siteMulticast : Bytes := [0x03, 0x5A, 0x44, 0, 0, 0]

/-- The multicast address of a cluster (R428). -/
def clusterMulticast (cluster : Nat) : Bytes := [0x03, 0x5A, 0x44, 1, 0] ++ leBytes 1 cluster

/-- The payload limit of a port (R428). -/
def payloadLimit (s : State) (n : Nat) : Nat := if s.get (R.LK_SPn_CFG_JUMBO n) = 1 then 9000 else 1500

/-- The IEEE 802.1Q tag of a port's frames (R428). -/
def vlanTag (s : State) (n : Nat) : Bytes :=
  if s.get (R.LK_SPn_VLAN_EN n) = 1 then [0x81, 0x00] ++ beBytes 2 (s.get (R.LK_SPn_VLAN_PCP n) * 8192 + s.get (R.LK_SPn_VLAN_VID n)) else []

/-- An Ethernet frame of site traffic: EtherType 0x88B5 (R428). -/
def etherFrame (s : State) (n : Nat) (dst payload : Bytes) : Bytes :=
  dst ++ portAddress (s.get R.NODE_IDENT_CLUSTER) n (s.get R.NODE_IDENT_NODE) ++ vlanTag s n ++ [0x88, 0xB5] ++ payload

/-- The header of a site frame (Table LK-2). -/
def siteHeader (s : State) (kind dst msgId frag nfrag : Nat) : Bytes :=
  [1] ++ leBytes 1 kind ++ leBytes 1 (s.get R.NODE_IDENT_CLUSTER) ++ [0] ++ leBytes 2 (s.get R.NODE_IDENT_NODE) ++ leBytes 2 dst ++ leBytes 2 msgId
    ++ leBytes 1 frag ++ leBytes 1 nfrag ++ List.replicate 4 0

/-- The destination addresses that port n takes (R429): its own, the site's and its own cluster's multicast address, those of PTP. -/
def portTakes (s : State) (n : Nat) : List Bytes :=
  let c := s.get R.NODE_IDENT_CLUSTER
  [portAddress c n (s.get R.NODE_IDENT_NODE), siteMulticast, clusterMulticast c, [0x01, 0x1B, 0x19, 0, 0, 0], [0x01, 0x80, 0xC2, 0, 0, 0x0E]]

/-- A frame of KIND `kind` that arrives on port n is not dropped (R429). -/
def headTakes (s : State) (n kind : Nat) (h : SiteHead) : Bool :=
  (portTakes s n).contains (beBytes 6 h.dst.toNat) && h.ver == 1
    && (s.get (R.LK_SPn_CFG_CLF n) == 0 || h.cluster.toNat == s.get R.NODE_IDENT_CLUSTER || kind == 5)

/-- What a frame that port n takes does; another is counted in RXDROP (R429). -/
def siteTake (s : State) (n kind : Nat) (h : SiteHead) (act : State → State) : State :=
  if headTakes s n kind h then act s else s.bump (R.LK_SPn_CNT_RXDROP n) 1

/-- Pieces of at most `n` bytes, the last one shorter. -/
def fragments (n : Nat) : Nat → Bytes → List Bytes
  | 0, bs => [bs]
  | fuel + 1, bs => if bs.length ≤ n then [bs] else bs.take n :: fragments n fuel (bs.drop n)

/-- The ports a frame leaves on (R433). -/
def sitePorts (s : State) : List Nat :=
  let isUp (n : Nat) : Bool := s.get (R.LK_SPn_STAT_UP n) == 1
  let pref := s.get R.LK_CFG_PREF
  if s.get R.LK_CFG_REDUN = 1 then [0, 1].filter isUp else if isUp pref then [pref] else [1 - pref].filter isUp

/-- A message of a KIND to a peer leaves in one frame, for KIND 2 to 4 in as many fragments as it takes (R429, R430). DESIGN CHOICE, log entry
145: the unicast address of the peer's port of the same number, in the own cluster. -/
def siteFrameOut (s : State) (kind dst : Nat) (body : Bytes) : State :=
  let frames (n : Nat) : List OutMsg :=
    let fs := if 2 ≤ kind ∧ kind ≤ 4 then fragments (payloadLimit s n - 16) 15 body else [body]
    (fs.zipIdx).map fun f => .ether n (etherFrame s n (portAddress (s.get R.NODE_IDENT_CLUSTER) n dst)
      (siteHeader s kind dst s.links.msgId f.2 fs.length ++ f.1))
  (((sitePorts s).flatMap frames).foldl State.send s).nextMsgId

/-! ### Session frames (R418) -/

/-- The header of a session frame (Table SE-7). -/
def sessionHeader (id seq len flags : Nat) : Bytes := leBytes 4 id ++ leBytes 8 seq ++ leBytes 2 len ++ leBytes 2 flags

/-- A session frame with its plaintext encrypted and its tag (R418, Table SE-7). -/
def sessionFrameOf (x : Session) (seq flags : Nat) (plain : Bytes) : Bytes :=
  let iv := x.txSalt ++ beBytes 8 seq
  let cipher := gcmCrypt x.txKey iv plain
  let head := sessionHeader x.id seq cipher.length flags
  head ++ cipher ++ gcmTag x.txKey iv head cipher

/-- Send a frame on a session with the next SEQ (R418). -/
def sessionOut (s : State) (x : Session) (flags : Nat) (plain : Bytes) : State :=
  let s := { s with security := { s.security with
    sessions := s.security.sessions.map fun y => if y.index = x.index then { y with txSeq := x.txSeq + 1 } else y } }
  siteFrameOut s 1 x.peer (sessionFrameOf x x.txSeq flags plain)

/-! ### Site messages of a pair (R361 to R363) -/

/-- The next sequence number. -/
def seqNext (s : State) : Nat := s.getPair R.NODE_TWIN_SEQ_LO_NEXT R.NODE_TWIN_SEQ_HI_NEXT

/-- Set the next sequence number; the base in non-volatile memory is written every 2¹⁶ assignments (R363). -/
def setSeqNext (s : State) (n : Nat) : State :=
  let s := s.putPair R.NODE_TWIN_SEQ_LO_NEXT R.NODE_TWIN_SEQ_HI_NEXT n
  if s.twin.seqBase + 65536 ≤ n then { s with twin := { s.twin with seqBase := n } } else s

/-- The pair ID a message carries: the pair's, or the own node ID of a member that is not paired (R361). -/
def pairId (s : State) : Nat :=
  if s.get R.NODE_PAIR_PAIR_VALID = 1 then s.get R.NODE_PAIR_PAIR_ID else s.get R.NODE_IDENT_NODE

/-- Assign the next sequence number, or none once it would pass 2⁴⁸ − 1, which sets SEQ_END (R363). -/
def takeSeq (s : State) : Option Nat × State :=
  let n := seqNext s
  if s.get R.NODE_TWIN_STAT_SEQ_END = 1 then (none, s)
  else if 2 ^ 48 - 1 ≤ n then (some n, s.put R.NODE_TWIN_STAT_SEQ_END 1)
  else (some n, setSeqNext s (n + 1))

/-- A site message as plaintext of a session frame (Table LK-3). -/
def siteMessage (pair seq mtype : Nat) (body : Bytes) : Bytes :=
  leBytes 1 mtype ++ [0] ++ leBytes 2 pair ++ leBytes 6 seq ++ leBytes 2 body.length ++ List.replicate 4 0 ++ body

/-- The open session that new frames to a peer use. -/
def sessionTo (s : State) (peer : Nat) : Option Session := s.security.sessions.find? fun x => !x.twin && x.oldUntil.isNone && x.peer == peer

/-- A numbered site message goes out, not while PROV = 0 (R24). A DEAD_LETTER goes on the session with the refused command's sender, whom SOURCE in its
body names (R432); the sessions of other messages are the software's. -/
def siteSend (s : State) (seq mtype : Nat) (body : Bytes) : State :=
  if s.get R.NODE_IDENT_PROV = 0 then s
  else if mtype = 2 then
    match sessionTo s (leNat ((body.drop 2).take 2) % 4096) with
    | some x => sessionOut s x 0 (siteMessage (pairId s) seq mtype body)
    | none => s
  else s.send (.site (pairId s) seq mtype body)

/-- Number a message and send it: with a mirror to the partner first while the link is up and the member is ACTIVE (R361). -/
def siteNumber (s : State) (origin mtype : Nat) (body : Bytes) : State :=
  match takeSeq s with
  | (none, s) => s
  | (some n, s) =>
    if s.role = 4 ∧ s.linkUp then
      let s := { s with twin := { s.twin with mirrors := s.twin.mirrors ++ [(n, s.time.elapsed, leBytes 1 mtype ++ body)] } }
      s.send (.twin 7 0 (leBytes 6 n ++ leBytes 4 origin ++ leBytes 1 mtype ++ body))
    else siteSend s n mtype body

/-- A site message of the node with its ORIGIN: not while PROV = 0 (R24); a member that does not drive holds it, at most 256,
the oldest discarded with HELDLOSS (R362). -/
def siteOut (s : State) (origin mtype : Nat) (body : Bytes) : State :=
  if s.get R.NODE_IDENT_PROV = 0 then s
  else if s.role = 2 ∨ s.role = 3 ∨ s.role = 5 then
    let h := s.twin.held ++ [(origin, leBytes 1 mtype ++ body)]
    if 256 < h.length then
      ({ s with twin := { s.twin with held := h.drop 1 } }).mark R.NODE_TWIN_STAT_HELDLOSS 1
    else { s with twin := { s.twin with held := h } }
  else siteNumber s origin mtype body

/-- A dead letter returned to its sender (R310): to a SITE source the site message DEAD_LETTER (R432); to a TWIN source a FWD frame of the twin link (Table LK-5). DESIGN CHOICE, log entry 138: ORIGIN 0. -/
def deadLetterReply (s : State) (source k : Nat) (body : Bytes) : State :=
  if source = 0xFFFF then s
  else if source / 4096 = 3 then siteOut s 0 2 body
  else if source / 4096 = 1 ∧ s.linkUp then s.send (.twin 6 (k % 2 ^ 32) body)
  else s

end Sys2Proof.Machine
end

