-- ==== Sys2Proof/Machine/Office.lean ====
section
/-!
DEFINITION. The sorting office: making envelopes ready, the ledger, dispatch, completion, cancels and the post-dated trays
(spec/11_sorting_office.md). Other functions report through `postHw` and `deadLetter`.
-/
namespace Sys2Proof.Machine

/-! ### The ledger (R311, R312) -/

/-- A ledger record of Table SO-9. -/
def ledRecord (kind time id ph core detail : Nat) : Nat :=
  (kind % 16) * 2 ^ 60 + (time % 2 ^ 32) * 2 ^ 28 + (id % 65536) * 2 ^ 12 + (ph % 32) * 128 + (core % 8) * 16 + detail % 16

/-- The ANCHOR record of a postmark: bits [59:28] hold postmark bits [63:32] and bits [27:4] postmark bits [31:8]. -/
def ledAnchor (pm : Nat) : Nat := (pm / 2 ^ 32 % 2 ^ 32) * 2 ^ 28 + (pm % 2 ^ 32 / 256) * 16

/-- The ring is full and STOP = 1: writing has stopped (R311). -/
def ledFull (s : State) : State :=
  if 65536 ≤ s.office.ledCount ∧ s.get R.SO_LEDCFG_STOP = 1 then s.put R.SO_LEDSTAT_FULL 1 else s

/-- Write one record into the ring at SO_LEDPTR; with STOP = 1 writing stops when the ring is full (R311). -/
def ledWrite (s : State) (w : Nat) : State :=
  let s := ledFull s
  if s.get R.SO_LEDSTAT_FULL = 1 then s
  else
    let i := s.get R.SO_LEDPTR_NEXT
    let s := if s.office.ledCount ≥ 65536 then s.put R.SO_LEDSTAT_WRAPPED 1 else s
    let s := { s with office := { s.office with ledger := sset 0 s.office.ledger i w, ledCount := min 65536 (s.office.ledCount + 1) } }
    ledFull (s.put R.SO_LEDPTR_NEXT ((i + 1) % 65536))

/-- One record into the buffer of 64 (R311). The buffer is taken to have drained when the clock has moved on since it was
last written; records that find it full are lost. -/
def ledBuffer (s : State) (w : Nat) : State :=
  if s.office.bufFill < 64 then
    ledWrite { s with office := { s.office with bufFill := s.office.bufFill + 1 } } w
  else { s with office := { s.office with bufLost := s.office.bufLost + 1 } }

/-- When the buffer drains after an overflow, one LOSS record is written and SO_LEDSTAT.LOST grows (R311); with EN = 0 no record is written. -/
def ledDrain (s : State) (tick pm : Nat) : State :=
  if s.office.bufTick = tick then s
  else
    let s := { s with office := { s.office with bufTick := tick, bufFill := 0 } }
    if s.office.bufLost = 0 then s
    else
      let n := s.office.bufLost
      let s := { s with office := { s.office with bufLost := 0 } }
      let s := s.bump R.SO_LEDSTAT_LOST n
      if s.get R.SO_LEDCFG_EN = 0 then s else ledBuffer s (ledRecord 11 (pm / 256) (min 65535 n) 0 0 0)

/-- Write a record of the cycle of a D1 tick with its postmark (R311, R312), with the ANCHOR due before it. -/
def ledPut (s : State) (e : LedEntry) : State :=
  if s.get R.SO_LEDCFG_EN = 0 then s
  else
    let s := ledDrain s e.tick e.pm
    let s := if s.office.anchor = some (e.pm / 2 ^ 40) then s
      else ledBuffer { s with office := { s.office with anchor := some (e.pm / 2 ^ 40) } } (ledAnchor e.pm)
    if (s.get R.SO_LEDCFG_MASK).testBit e.kind then ledBuffer s (ledRecord e.kind (e.pm / 256) e.id e.ph e.core e.detail) else s

/-- A record of a later cycle stands before those of still later ones; within a cycle by port. -/
def ledLater (e : LedEntry) : List LedEntry → List LedEntry
  | [] => [e]
  | x :: xs => if e.tick < x.tick ∨ (e.tick = x.tick ∧ e.rank < x.rank) then e :: x :: xs else x :: ledLater e xs

/-- The records of cycles that have come are written, in cycle order (R303). -/
def ledFlush (s : State) : State :=
  (s.office.ahead.filter fun e => decide (e.tick ≤ s.time.count)).foldl ledPut
    { s with office := { s.office with ahead := s.office.ahead.filter fun e => decide (s.time.count < e.tick) } }

/-- The postmark of a D1 tick to come. -/
def State.postmarkAt (s : State) (tick : Nat) : Nat := (s.time.acc + (tick - s.time.count) * s.increment) / 2 ^ 40 % 2 ^ 64

/-- One ledger record of a scheduling decision in the cycle of a D1 tick, now or to come (R303, R311). -/
def ledAt (s : State) (tick rank kind id ph core detail : Nat) : State :=
  let e : LedEntry := { tick := tick, pm := s.postmarkAt tick, rank := rank, kind := kind, id := id, ph := ph, core := core, detail := detail }
  let s := ledFlush s
  if tick ≤ s.time.count then ledPut s e else { s with office := { s.office with ahead := ledLater e s.office.ahead } }

/-- One ledger record of a scheduling decision of the present cycle. -/
def ledEvent (s : State) (kind id ph core detail : Nat) : State := ledAt s s.time.count 0 kind id ph core detail

/-- After every step of the postmark an ANCHOR is due (R312). -/
def ledStepped (s : State) : State :=
  let s := ledFlush s
  if s.get R.SO_LEDCFG_EN = 0 then s
  else
    let s := ledDrain s s.time.count s.postmark
    ledBuffer { s with office := { s.office with anchor := some (s.postmark / 2 ^ 40) } } (ledAnchor s.postmark)

/-! ### One D1 cycle (R303) -/

/-- The present cycle has come to a place in the order of Table SO-5. -/
def State.served (s : State) (rank : Nat) : State := { s with office := { s.office with turn := (s.time.count, rank) } }

/-- The present cycle has passed a place in the order of Table SO-5. -/
def State.passed (s : State) (rank : Nat) : Bool := s.office.turn.1 == s.time.count && rank ≤ s.office.turn.2

/-- A request for the office is served in the present D1 cycle, or in the next where this one has passed its place in Table SO-5: completions by core
(10 + core), software posts and tray insertions by port (30 + port, one each), cancels by port, then core (50 + requester), dispatch (70).
DESIGN CHOICE, log entry 137. -/
def officeTurn (s : State) (rank : Nat) : State := (if s.passed rank then s.tick else s).served rank

/-- The D1 tick in which a hardware port or the trays (8) make their next envelope ready: one per cycle (R297, R306), in the order of Table SO-5, and the
state with that place taken. -/
def officeLane (s : State) (lane : Nat) : Nat × State :=
  let rank := if lane = 8 then 29 else 20 + lane
  let c := s.time.count + if s.passed rank then 1 else 0
  let at_ := max c (sget 0 s.office.laneAt lane)
  let s := if at_ = s.time.count then s.served rank else s
  (at_, { s with office := { s.office with laneAt := sset 0 s.office.laneAt lane (at_ + 1) } })

/-! ### Descriptors -/

/-- Envelopes in service on the cores. -/
def State.inService (s : State) : List Env := s.office.service.filterMap (·.2)

/-- Descriptors in use: waiting and in service (R290). -/
def State.inflight (s : State) : Nat := s.office.waiting.length + s.inService.length

/-- Descriptors that the software class holds (R290). -/
def State.swUse (s : State) : Nat :=
  (s.office.waiting.filter (·.software)).length + (s.inService.filter (·.software)).length

/-- Software-class envelopes waiting in a pigeonhole (R294). -/
def State.phSoft (s : State) (p : Nat) : Nat := (s.office.waiting.filter fun e => e.software && e.ph == p).length

/-- Envelopes waiting in a pigeonhole. -/
def State.phCount (s : State) (p : Nat) : Nat := (s.office.waiting.filter fun e => e.ph == p).length

/-- The free descriptor indexes. -/
def State.freeDescs (s : State) : List Nat :=
  let used := s.office.waiting.map (·.idx) ++ s.inService.map (·.idx)
  (List.range 512).filter fun i => !used.contains i

/-- Which of several free places the node takes is not given: one of them, by a free value. -/
def pickFree (s : State) (free : List Nat) : Nat × State :=
  let (n, s) := s.freshNat
  (free.getD (n % free.length) 0, s)

/-- ENV_ID of an envelope: bits [8:0] descriptor index, bits [15:9] generation (Table SO-1). -/
def Env.id (e : Env) : Nat := e.idx + e.gen * 512

/-- Which of two envelopes made ready in different cycles or by different ports comes first (R296, Table SO-5): by cycle, then hardware posts by
port, then tray releases, then software posts by port. -/
def Env.rank (e : Env) : Nat := if e.software = false then e.port else if e.fromTray then 8 else 10 + e.port

/-- An envelope made ready before another one. -/
def Env.before (a b : Env) : Bool := decide (a.readyAt < b.readyAt) || (a.readyAt == b.readyAt && decide (a.rank < b.rank))

/-- Put an envelope in its place among the waiting ones, which stand in the order they are made ready; FSEQ is the place in the flow (R295, R296). -/
def insertEnv (e : Env) (l : List Env) : List Env :=
  let later := l.dropWhile fun x => !e.before x
  l.takeWhile (fun x => !e.before x) ++ (match (if e.flow = 0xFFFF then none else later.find? (·.flow == e.flow)) with
    | some y => { e with fseq := y.fseq } :: later.map fun x => if x.flow = e.flow then { x with fseq := (x.fseq + 1) % 65536 } else x
    | none => e :: later)

/-- Make an envelope ready in the cycle of a D1 tick: it takes a descriptor, its generation advances, its flow counts it (R290, R291, R295). -/
def makeReady (s : State) (e : Env) (tick : Nat) : State × Env :=
  let (i, s) := pickFree s s.freeDescs
  let g := (sget 0 s.office.gens i + 1) % 128
  let fs := if e.flow = 0xFFFF then 0 else sget 0 s.office.flowSeq e.flow
  let e := { e with
    idx := i
    gen := g
    ready := s.postmarkAt tick
    readyAt := tick
    reserve := !e.software && decide (448 ≤ s.inflight)
    fseq := fs }
  let o := s.office
  let o := { o with
    waiting := insertEnv e o.waiting
    gens := sset 0 o.gens i g
    flowSeq := if e.flow = 0xFFFF then o.flowSeq else sset 0 o.flowSeq e.flow ((fs + 1) % 65536) }
  ({ s with office := o }, e)

/-- An envelope of a hardware function before it is made ready. -/
def hwEnv (typ ph flow pm port tag : Nat) (body : Bytes) : Env :=
  { typ := typ, ph := ph, flow := flow, idx := 0, gen := 0, postmark := pm, ready := 0, port := port, core := 0,
    fromTray := false, deferred := false, reserve := false, fseq := 0, tag := tag, body := body, software := false,
    trayId := none, readyAt := 0 }

/-- Post an envelope of the hardware class (R297 to R299): dropped and counted where the office does not run, or, in SO_DROP.HW or for a dead letter
in SO_DROP.DL, where no descriptor is free. -/
def postHw (s : State) (typ ph flow pm port tag : Nat) (body : Bytes) : State :=
  if s.get R.SO_STATUS_RUN = 0 then s.bump R.SO_DROP_HW 1
  else
    let (tick, s) := officeLane s port
    if s.freeDescs = [] then
      ledAt (s.bump (if typ = 0x17 then R.SO_DROP_DL else R.SO_DROP_HW) 1) tick (20 + port) 7 0xFFFF ph port (typ - 0x10)
    else
      let (s, e) := makeReady s (hwEnv typ ph flow pm port tag body) tick
      ledAt s tick (20 + port) 1 e.id e.ph port port

/-- A dead letter (R309): through port 4 to pigeonhole 1, flow 1,021; one whose source is of class TWIN or SITE is also returned to its sender (R310). -/
def deadLetter (s : State) (domain code source target pm k : Nat) (item : Bytes) : State :=
  let item := item.take 32
  let body := leBytes 1 domain ++ leBytes 1 code ++ leBytes 2 source ++ leBytes 2 target ++ leBytes 2 item.length
    ++ leBytes 8 pm ++ leBytes 8 k ++ item
  postHw (deadLetterReply s source k body) 0x17 1 1021 pm 4 0 body

/-! ### Software posts and tray insertions (R297, R298, R304) -/

/-- The post buffer word of a requester. -/
def State.pbufWord (s : State) (r i : Nat) : Nat := sget 0 s.office.pbuf (r * 1024 + i)

/-- The envelope in a requester's post buffer: header of Table SO-1 and LEN body bytes. -/
def pbufEnv (s : State) (r : Nat) : Env :=
  let w0 := s.pbufWord r 0
  let len := s.pbufWord r 1 / 65536
  let words := (List.range ((min len 4064 + 3) / 4)).map fun i => s.pbufWord r (8 + i)
  { typ := w0 % 256, ph := w0 / 256 % 256, flow := w0 / 65536, idx := 0, gen := 0,
    postmark := s.pbufWord r 2 + s.pbufWord r 3 * 2 ^ 32, ready := 0,
    port := if r = 0 then 5 else if r = 1 then 6 else 7, core := r - 2, fromTray := false, deferred := false,
    reserve := false, fseq := 0, tag := s.pbufWord r 7,
    body := (words.flatMap (leBytes 4)).take len, software := true, trayId := none, readyAt := 0 }

/-- LEN of the header in a requester's post buffer. -/
def pbufLen (s : State) (r : Nat) : Nat := s.pbufWord r 1 / 65536

/-- The refusal code of a software post, in the order of Table SO-3, if it meets a condition. -/
def postRefusal (s : State) (e : Env) (len : Nat) : Option Nat :=
  if s.get R.NODE_MODE_MODE = 0 ∨ s.get R.SO_STATUS_RUN = 0 then some 0x79
  else if 448 ≤ s.swUse then some 0x70
  else if e.ph ≤ 31 ∧ s.get (R.SO_PHp_LIMIT e.ph) ≤ s.phSoft e.ph then some 0x71
  else if 31 < e.ph then some 0x72
  else if 1023 < e.flow ∧ e.flow ≠ 0xFFFF then some 0x73
  else if 4064 < len then some 0x74
  else if e.typ < 1 ∨ 15 < e.typ then some 0x75
  else none

/-- The refusal code of a tray insertion, in the order of Table SO-3, if it meets a condition. -/
def trayRefusal (s : State) (e : Env) (len tray t : Nat) : Option Nat :=
  if s.get R.NODE_MODE_MODE = 0 ∨ s.get R.SO_STATUS_RUN = 0 then some 0x79
  else if 448 ≤ s.swUse then some 0x70
  else if e.ph ≤ 31 ∧ s.get (R.SO_PHp_LIMIT e.ph) ≤ s.phSoft e.ph then some 0x71
  else if 31 < e.ph then some 0x72
  else if 1023 < e.flow ∧ e.flow ≠ 0xFFFF then some 0x73
  else if 256 < len then some 0x74
  else if e.typ < 1 ∨ 15 < e.typ then some 0x75
  else if 1024 ≤ (s.office.trays.filter (·.tray == tray)).length then some 0x76
  else if t ≤ s.postmark then some 0x77
  else if s.postmark + 86400 * 2 ^ 32 < t then some 0x78
  else none

/-- A refused post: SO_RESULT holds the code and 0xFFFF, and the ledger records REFUSE (R298). -/
def postRefuse (s : State) (r port ph code : Nat) : State :=
  ledEvent ((s.put (R.SO_RESULT_CODE r) code).put (R.SO_RESULT_ID r) 0xFFFF) 6 0xFFFF ph port (code - 0x70)

/-- SO_POST with OP = 1: post the envelope in SO_PBUF (R297). -/
def softPost (s : State) (r : Nat) : State :=
  let e := pbufEnv s r
  let s := officeTurn s (30 + e.port)
  match postRefusal s e (pbufLen s r) with
  | some c => postRefuse s r e.port e.ph c
  | none =>
    if s.freeDescs = [] then postRefuse s r e.port e.ph 0x70
    else
      let (s, e) := makeReady s e s.time.count
      let s := (s.put (R.SO_RESULT_CODE r) 0).put (R.SO_RESULT_ID r) e.id
      ledEvent s 1 e.id e.ph e.core e.port

/-- A tray entry ID: bits [9:0] slot, [11:10] tray, [15:12] generation (R304). -/
def TrayEntry.id (t : TrayEntry) : Nat := t.slot + t.tray * 1024 + t.gen * 4096

/-- SO_POST with OP = 2: insert the envelope in SO_PBUF into a tray at the release postmark of SO_TRAY (R304). -/
def trayInsert (s : State) (r tray : Nat) : State :=
  let e := pbufEnv s r
  let s := officeTurn s (30 + e.port)
  let t := s.get (R.SO_TRAY_LO_FRAC r) + s.get (R.SO_TRAY_HI_SEC r) * 2 ^ 32
  match trayRefusal s e (pbufLen s r) tray t with
  | some c => postRefuse s r e.port e.ph c
  | none =>
    let used := (s.office.trays.filter (·.tray == tray)).map (·.slot)
    let (slot, s) := pickFree s ((List.range 1024).filter fun i => !used.contains i)
    let g := (sget 0 s.office.trayGens (tray * 1024 + slot) + 1) % 16
    let te : TrayEntry := { tray := tray, slot := slot, gen := g, t := t, env := { e with postmark := t }, deferred := false }
    let o := s.office
    let s := { s with office := { o with trays := o.trays ++ [te], trayGens := sset 0 o.trayGens (tray * 1024 + slot) g } }
    let s := (s.put (R.SO_RESULT_CODE r) 0).put (R.SO_RESULT_ID r) te.id
    ledEvent s 8 te.id e.ph e.core tray

/-! ### Cancel and completion (R301, R302) -/

/-- Cancel of a waiting envelope by ENV_ID (R302, R313). -/
def cancelEnvelope (s : State) (r id : Nat) : State :=
  let s := officeTurn s (50 + r)
  match s.office.waiting.find? (fun e => e.id == id && e.readyAt ≤ s.time.count) with
  | some e =>
    let s := { s with office := { s.office with waiting := s.office.waiting.filter fun x => x.id != id } }
    ledEvent (s.put (R.SO_CANRES_RES r) 1) 5 id e.ph 0 0
  | none => ledEvent (s.put (R.SO_CANRES_RES r) 2) 5 id 0 0 2

/-- Cancel of a tray entry by its ID (R302); an entry released in this cycle, or to be made ready in a cycle to come, is still
found under it (R303, R313). -/
def cancelTrayEntry (s : State) (r id : Nat) : State :=
  let s := officeTurn s (50 + r)
  match s.office.trays.find? (fun t => t.id == id) with
  | some t =>
    let s := { s with office := { s.office with trays := s.office.trays.filter fun x => x.id != id } }
    ledEvent (s.put (R.SO_CANRES_RES r) 1) 5 id t.env.ph 0 1
  | none =>
    match s.office.waiting.find? (fun e => e.trayId == some id && s.time.count ≤ e.readyAt) with
    | some e =>
      let s := { s with office := { s.office with waiting := s.office.waiting.filter fun x => x.id != e.id } }
      ledEvent (s.put (R.SO_CANRES_RES r) 1) 5 id e.ph 0 1
    | none => ledEvent (s.put (R.SO_CANRES_RES r) 2) 5 id 0 0 2

/-- A core completes its present envelope: descriptor, flow and core are freed (R301). A core with none in service, or a
host port, makes an address error (R313, R314). -/
def completeEnvelope (s : State) (r : Nat) : State :=
  if r < 2 then addrError s r 5 0x200064
  else
    match sget none s.office.service (r - 2) with
    | none => addrError s r 6 0x200064
    | some e =>
      let s := officeTurn s (10 + (r - 2))
      let o := s.office
      let s := { s with office := { o with
        service := sset none o.service (r - 2) none
        lastCore := if e.flow = 0xFFFF then o.lastCore else sset none o.lastCore e.flow (some (r - 2)) } }
      ledEvent s 4 e.id e.ph (r - 2) 0

/-! ### Dispatch (R295, R296, R300) -/

/-- The envelope is the earliest waiting one of its flow and none of the flow is in service (R295). -/
def eligible (s : State) (e : Env) : Bool :=
  e.flow == 0xFFFF ||
    (!(s.inService.any fun x => x.flow == e.flow) &&
      (match s.office.waiting.find? (fun x => x.flow == e.flow) with
       | some x => x.idx == e.idx
       | none => false))

/-- Free cores named by a pigeonhole's CORES. -/
def freeCores (s : State) (p : Nat) : List Nat :=
  (List.range 8).filter fun c => (sget none s.office.service c).isNone && (s.get (R.SO_PHp_CORES p)).testBit c

/-- Envelope `a` goes before `b`: higher PRIO, then lower pigeonhole number, then earlier POSTMARK (R296, R300); equal ones keep the order in which
they were made ready, in which `waiting` holds them. -/
def envBefore (s : State) (a b : Env) : Bool :=
  let pa := s.get (R.SO_PHp_PRIO a.ph)
  let pb := s.get (R.SO_PHp_PRIO b.ph)
  decide (pa > pb) || (pa == pb && (decide (a.ph < b.ph) || (a.ph == b.ph && decide (a.postmark < b.postmark))))

/-- The first of a list under `envBefore`, earlier entries winning ties. -/
def pickEnv (s : State) : List Env → Option Env
  | [] => none
  | e :: es => match pickEnv s es with
    | none => some e
    | some f => if envBefore s f e then some f else some e

/-- The one dispatch of a cycle (R300). -/
def dispatchOne (s : State) : State :=
  let s := officeTurn s 70
  match pickEnv s (s.office.waiting.filter fun e => e.readyAt ≤ s.time.count && eligible s e && !(freeCores s e.ph).isEmpty) with
  | none => s
  | some e =>
    let cores := freeCores s e.ph
    let pref := if e.flow = 0xFFFF then none else sget none s.office.lastCore e.flow
    let (c, p) := match pref with
      | some c => if cores.contains c then (c, 1) else (cores.headD 0, 0)
      | none => (cores.headD 0, 0)
    let o := s.office
    let s := { s with office := { o with
      waiting := o.waiting.filter fun x => x.idx != e.idx
      service := sset none o.service c (some e) } }
    ledEvent s 3 e.id e.ph c p

/-! ### The post-dated trays (R305 to R307) -/

/-- Tray tick m of second s falls at s + ⌊m × 2³²/10⁶⌋ units (R305). -/
def trayTickPm (n : Nat) : Nat := (n / 1000000) * 2 ^ 32 + (n % 1000000) * 2 ^ 32 / 1000000

/-- The global number of the first tray tick whose postmark is at or after `pm`. -/
def trayTickAtOrAfter (pm : Nat) : Nat := (pm * 1000000 + 2 ^ 32 - 1) / 2 ^ 32

/-- The number of the tray tick that comes next: the first not yet passed that the office has not had. -/
def nextTray (s : State) : Nat :=
  let n := trayTickAtOrAfter s.tickPm
  if s.office.lastTick = some n then n + 1 else n

/-- Release order within one tray tick: t, then tray number, then insertion order (R306). -/
def trayFirst : List TrayEntry → Option TrayEntry
  | [] => none
  | e :: es => match trayFirst es with
    | none => some e
    | some f => if f.t < e.t ∨ (f.t = e.t ∧ f.tray < e.tray) then some f else some e

/-- Put tray entries in release order. -/
def traySort : Nat → List TrayEntry → List TrayEntry
  | 0, _ => []
  | n + 1, l => match trayFirst l with
    | none => []
    | some e => e :: traySort n (l.filter fun x => x.id != e.id)

/-- Release one due tray entry in the next free cycle, or defer it to the next tray tick (R306). -/
def trayRelease (s : State) (te : TrayEntry) : State :=
  let (tick, s) := officeLane s 8
  if 448 ≤ s.swUse ∨ s.freeDescs = [] ∨ s.get (R.SO_PHp_LIMIT te.env.ph) ≤ s.phSoft te.env.ph then
    let o := s.office
    let s := { s with office := { o with
      trays := o.trays.map fun x => if x.id = te.id then { x with deferred := true } else x } }
    ledAt s tick 29 10 te.id te.env.ph 0 te.tray
  else
    let o := s.office
    let s := { s with office := { o with trays := o.trays.filter fun x => x.id != te.id } }
    let (s, e) := makeReady s { te.env with
      fromTray := true
      deferred := te.deferred
      postmark := te.t
      trayId := some te.id } tick
    ledAt s tick 29 2 e.id e.ph 0 (te.tray + if te.deferred then 4 else 0)

/-- The due entries of all four trays, released in order (R306). -/
def trayReleaseDue (s : State) (tickPm : Nat) : State :=
  if s.get R.SO_STATUS_RUN = 0 then s
  else
    let due := s.office.trays.filter fun t => decide (t.t ≤ tickPm)
    (traySort due.length due).foldl trayRelease s

/-- Discard records of the ledger, kind 9. -/
def ledDiscards (s : State) (l : List (Nat × Nat)) (detail : Nat) : State :=
  l.foldl (fun s p => ledEvent s 9 p.1 p.2 0 detail) s

/-- A step discards every tray entry, with one dead letter for each tray that held entries (R307). -/
def trayDiscardStep (s : State) (stepPm : Nat) : State :=
  let old := s.office.trays
  let s := ledDiscards { s with office := { s.office with trays := [] } } (old.map fun t => (t.id, t.env.ph)) 1
  (List.range 4).foldl (fun s t =>
    let n := (old.filter (·.tray == t)).length
    if n = 0 then s else deadLetter s 6 0x7A 0xFFFF n stepPm 0 []) s

/-- Image activation empties pigeonholes and trays without a dead letter (R201, R307). -/
def officeEmpty (s : State) : State :=
  let o := s.office
  let s' := { s with office := { o with waiting := [], trays := [], laneAt := [] } }
  let s' := ledDiscards s' (o.waiting.map fun e => (e.id, e.ph)) 0
  ledDiscards s' (o.trays.map fun t => (t.id, t.env.ph)) 1

/-- The sorting office begins to run at the end of BOOT (R299); with no image every pigeonhole has PRIO 0, CORES 0xFF and
LIMIT 16 (R294). -/
def officeStart (s : State) : State := s.put R.SO_STATUS_RUN 1

/-- With no image active every pigeonhole has PRIO 0, CORES 0xFF and LIMIT 16 (R294). -/
def officeDefault (s : State) : State :=
  (List.range 32).foldl (fun s p => ((s.put (R.SO_PHp_PRIO p) 0).put (R.SO_PHp_CORES p) 0xFF).put (R.SO_PHp_LIMIT p) 16) s

/-- Set the pigeonholes from the image's SORTING records (R294). -/
def officeConfig (s : State) (recs : List (Nat × Nat × Nat)) : State :=
  (recs.zipIdx).foldl (fun s (p, i) =>
    ((s.put (R.SO_PHp_PRIO i) p.1).put (R.SO_PHp_CORES i) p.2.1).put (R.SO_PHp_LIMIT i) p.2.2) s

end Sys2Proof.Machine
end

