-- ==== Sys2Proof/Machine/Health.lean ====
section
/-!
DEFINITION. Health: the node's own life, non-volatile memory, rainflow counting, damage, DC links, contactors and the report
(spec/18_health.md R468 to R485). None of it acts on an output.
-/
namespace Sys2Proof.Machine

/-- RUN seconds: the full hours and the time in RUN since the present one began. -/
def runSeconds (s : State) : Nat :=
  s.health.runHours * 3600 + (((s.health.paused.map (·.1)).getD s.time.elapsed) - s.health.hourAt) / 2 ^ 72

/-- RUN ends, at QUIET, HIBERNATE or a reset: its hour and the report period stand still. -/
def runPause (s : State) : State :=
  if s.health.paused.isSome then s else { s with health := { s.health with paused := some (s.time.elapsed, s.health.hc) } }

/-- RUN goes on: the hour of RUN and the report period are longer by the time out of RUN, and the life consumed in it does not count in the hour
(R478). -/
def runResume (s : State) : State :=
  let h := s.health
  match h.paused with
  | none => s
  | some (e, hc) =>
    let d := s.time.elapsed - e
    { s with health := { h with paused := none, hourAt := h.hourAt + d, reportAt := h.reportAt + d, hcHour := h.hcHour + (h.hc - hc) } }

/-! ### Non-volatile memory (R472, R473) -/

/-- Partitions of Table ND-6: 0 firmware slots, 1 image slots, 2 journal, 3 wear counters, 4 keys and counters, 5 reserved. One write of a
256-byte line. -/
def nvWrite (s : State) (part line : Nat) : State :=
  let k := part * 2 ^ 20 + line
  let n := sget 0 s.health.lines k + 1
  let s := { s with health := { s.health with lines := sset 0 s.health.lines k n } }
  s.put (R.HL_NVp_MAXW part) (max (s.get (R.HL_NVp_MAXW part)) (n + sget 0 s.health.rewrites part))

/-- An entry of the journal. The registers by which a host would read it have no layout in the spec, and the model has no view of it for a host
(DESIGN CHOICE, log entry 149). -/
def journalAdd (s : State) (kind value : Nat) : State :=
  nvWrite { s with journal := s.journal ++ [{ kind := kind, pm := s.postmark, value := value }] } 2 (s.journal.length / 16 % 16384)

/-- exp(a·(1/b − 1/(T + 273.15))) with T in units of 1/128 °C, `a` and `b` in hundredths of a kelvin; in units of 2⁻⁹⁶. -/
def arrhenius (a b : Nat) (t : Int) : Nat :=
  let tk : Int := t * 100 + 27315 * 128
  expFix (((a : Int) * fixUnit) / (b : Int) - ((a : Int) * fixUnit * 128) / tk)

/-- AF of R469. -/
def lifeRate (t : Int) : Nat := arrhenius 812350 37815 t

/-- Retention consumed in `ms` milliseconds at T, in units of 2⁻⁸⁰ (R473): 20 years of 8,766 hours. -/
def retentionUse (t : Int) (ms : Nat) : Nat :=
  ms * 2 ^ 80 / (20 * 8766 * 3600 * 1000) * arrhenius 247100 35815 t / fixUnit

/-- Every partition consumes retention; one that reaches 0.5 falls due (R473). -/
def retentionAdd (s : State) (t : Int) (ms : Nat) : State :=
  (List.range 6).foldl (fun s p =>
    let v := sget 0 s.health.retention p + retentionUse t ms
    let h := s.health
    { s with health := { h with
        retention := sset 0 h.retention p v
        due := if 2 ^ 79 ≤ v ∧ sget 0 h.due p = 0 then sset 0 h.due p (runSeconds s + 1) else h.due } }) s

/-- The time spent in HIBERNATE consumes retention at the 125 °C rate (R473). -/
def hibernateRetention (s : State) : State :=
  if s.root.hibernate then retentionAdd s (125 * 128) (s.since s.root.coarseAt * 1000 / 2 ^ 72) else s

/-- A partition due is rewritten in place, one write of every line of it (R472, R473). -/
def retentionRewrite (s : State) (p : Nat) : State :=
  if s.powered ∧ sget 0 s.health.due p ≠ 0 then
    let s := { s with health := { s.health with
      retention := sset 0 s.health.retention p 0, due := sset 0 s.health.due p 0
      rewrites := sset 0 s.health.rewrites p (sget 0 s.health.rewrites p + 1) } }
    s.put (R.HL_NVp_MAXW p) (s.get (R.HL_NVp_MAXW p) + 1)
  else s

/-! ### The die (R468 to R471) -/

/-- Junction maximum of the grade in units of 1/128 °C (Table SC-1). -/
def junctionMax : Int := if Config.gradeFuse = 1 then 150 * 128 else 125 * 128

/-- A sensor passes its range check: −55 °C to 150 °C (R468, R485). -/
def tempValid (t : Int) : Bool := decide (-7040 ≤ t) && decide (t ≤ 19200)

/-- T_die: the highest valid sensor; none where all eight fail. -/
def dieTemp (l : List Int) : Option Int :=
  (l.filter tempValid).foldl (fun (o : Option Int) t => match o with
    | none => some t
    | some u => some (max t u)) none

/-- The sensors as last read. -/
def lastTemps (s : State) : List Int := (List.range 8).map fun i => signed 16 (s.get (R.HL_TEMPs_T i))

/-- T_die as last read; 150 °C where every sensor fails. -/
def lastDie (s : State) : Int := (dieTemp (lastTemps s)).getD 19200

/-- DIE_HOT follows T_die: raised after 10 ms above the maximum, cleared after 1 s below it (R468). -/
def dieHot (s : State) (t : Option Int) : State :=
  let now := s.time.elapsed
  let h := s.health
  match t with
  | none => { s with health := { h with coolSince := none, flags := setBit h.flags 14 true } }
  | some v =>
    if junctionMax < v then
      let e := h.hotSince.getD now
      { s with health := { h with hotSince := some e, coolSince := none, flags := if usec 10000 ≤ now - e then setBit h.flags 14 true else h.flags } }
    else if v = junctionMax then { s with health := { h with hotSince := none, coolSince := none } }
    else
      let e := h.coolSince.getD now
      { s with health := { h with hotSince := none, coolSince := some e, flags := if usec 1000000 ≤ now - e then setBit h.flags 14 false else h.flags } }

/-- Drift in ppm of ring r. -/
def ringPpm (s : State) (r : Nat) : Int := signed 24 (s.get (R.HL_ROr_DRIFT r))

/-- Sums of a least-squares line over points (x, y): n, Σx, Σy, Σx², Σxy, Σy². -/
structure Sums where
  n : Int
  x : Int
  y : Int
  xx : Int
  xy : Int
  yy : Int
deriving DecidableEq, Repr

/-- The sums of a list of points. -/
def sumsOf (l : List (Int × Int)) : Sums :=
  l.foldl (fun a p => { n := a.n + 1, x := a.x + p.1, y := a.y + p.2, xx := a.xx + p.1 * p.1, xy := a.xy + p.1 * p.2, yy := a.yy + p.2 * p.2 })
    { n := 0, x := 0, y := 0, xx := 0, xy := 0, yy := 0 }

/-- n²·variance of x. -/
def Sums.sxx (a : Sums) : Int := a.n * a.xx - a.x * a.x
/-- n²·covariance. -/
def Sums.sxy (a : Sums) : Int := a.n * a.xy - a.x * a.y
/-- n²·variance of y. -/
def Sums.syy (a : Sums) : Int := a.n * a.yy - a.y * a.y

/-- Slope in units of 2⁻⁶⁴ per unit of x. -/
def Sums.slope (a : Sums) : Int := if a.sxx = 0 then 0 else a.sxy * 2 ^ 64 / a.sxx

/-- Standard error of the slope in units of 2⁻⁶⁴. -/
def Sums.slopeErr (a : Sums) : Nat :=
  if a.n ≤ 2 ∨ a.sxx = 0 then 0
  else isqrt (((a.syy * a.sxx - a.sxy * a.sxy) * 2 ^ 128 / (a.sxx * a.sxx * (a.n - 2))).toNat)

/-- The line's value at x, with a slope in units of 2⁻⁶⁴ through the mean point. -/
def Sums.at_ (a : Sums) (b x : Int) : Int := if a.n = 0 then 0 else (a.y * 2 ^ 64 + b * (a.n * x - a.x)) / (a.n * 2 ^ 64)

/-- Hours from x (seconds) until the line with slope b reaches a level; none where it does not come nearer. -/
def Sums.hoursTo (a : Sums) (b x level : Int) (falling : Bool) : Option Nat :=
  let y := a.at_ b x
  if (falling && decide (y ≤ level)) || (!falling && decide (level ≤ y)) then some 0
  else if b = 0 ∨ (falling && decide (0 < b)) || (!falling && decide (b < 0)) then none
  else some (((level - y) * 2 ^ 64 / b / 3600).toNat)

/-- Number of the slowest ring. -/
def slowestRing (s : State) : Nat :=
  (List.range 16).foldl (fun m r => if ringPpm s r < ringPpm s m then r else m) 0

/-- RL_D (R471): none before 500 h of RUN or where the slowest ring does not slow. -/
def ringLife (s : State) : Option Nat :=
  if s.health.runHours < 500 then none
  else
    let r := slowestRing s
    let a := sumsOf (s.health.rings.map fun e => ((e.1 : Int), e.2.getD r 0))
    a.hoursTo a.slope (runSeconds s) (-30000) true

/-- RL_T (R471) with the rate scaled to a temperature `d` (1/128 °C) above T_die. -/
def thermalLife (s : State) (d : Int) : Nat :=
  match s.health.rT with
  | none => 0xFFFFFFFF
  | some r =>
    if r = 0 then 0xFFFFFFFF
    else
      let t := lastDie s
      let left := 360000000 * 2 ^ 40 - s.health.hc
      min 0xFFFFFFFF (left / r * lifeRate t / lifeRate (t + d))

/-- RL_node with its rate scaled (R471). -/
def nodeLife (s : State) (d : Int) : Nat := match ringLife s with
  | some h => min h (thermalLife s d)
  | none => thermalLife s d

/-- The sixteen rings are measured (R470): the readings of the last 1,000 h of RUN are kept. -/
def ringMeasure (s : State) (counts : List Nat) : State :=
  if s.powered = false then s
  else
    let s := s.runElapsed ((s.time.elapsed / usec 10000000 + 1) * usec 10000000)
    let t := lastDie s
    let dr := (List.range 16).map fun r => Config.ringDrift r (counts.getD r 0) t
    let s := (dr.zipIdx).foldl (fun s p => s.put (R.HL_ROr_DRIFT p.2) (unsigned 24 p.1)) s
    let now := runSeconds s
    let s := if inQuietRun s then s else
      { s with health := { s.health with rings := ((now, dr) :: s.health.rings).filter fun e => decide (now ≤ e.1 + 3600000) } }
    s.put R.HL_NODE_RL (nodeLife s 0)
where
  /-- QUIET is no RUN. -/
  inQuietRun (s : State) : Bool := s.get R.NODE_MODE_QUIET == 1

/-! ### The HEALTH section (R482) -/

/-- The HEALTH section of the active image. -/
def healthSect (s : State) : List Nat := match s.image with
  | some im => im.health
  | none => []

/-- A byte of a section. -/
def hb (h : List Nat) (i : Nat) : Nat := h.getD i 0
/-- A little-endian u16 of a section. -/
def hb16 (h : List Nat) (i : Nat) : Nat := hb h i + 256 * hb h (i + 1)
/-- A little-endian u32 of a section. -/
def hb32 (h : List Nat) (i : Nat) : Nat := hb16 h i + 65536 * hb16 h (i + 2)

/-- Offsets of the leg-model records. -/
def legModels (h : List Nat) : List Nat := (List.range (hb h 0)).map fun i => 32 + 32 * i
/-- Offsets of the DC-link records. -/
def dcModels (h : List Nat) : List Nat := (List.range (hb h 1)).map fun i => 32 + 32 * (hb h 0 + i)
/-- Offsets of the contactor records. -/
def contactorModels (h : List Nat) : List Nat := (List.range (hb h 2)).map fun i => 32 + 32 * (hb h 0 + hb h 1 + i)

/-- The leg model of a bridge. -/
def legModel (h : List Nat) (b : Nat) : Option Nat := (legModels h).find? fun o => hb h (o + 1) == b
/-- The DC-link record of a link. -/
def dcModel (h : List Nat) (l : Nat) : Option Nat := (dcModels h).find? fun o => hb h (o + 1) == l
/-- The contactor record of an output. -/
def contactorModel (h : List Nat) (n : Nat) : Option Nat := (contactorModels h).find? fun o => hb h (o + 1) == n

/-- TAU_H; without a section a free value (R471 needs the rate and gives no other time constant). -/
def tauH (h : List Nat) : Nat := if h = [] then max 1 Config.tauDefault else max 1 (hb16 h 4)

/-! ### Rainflow (R474 to R476) -/

/-- The bin of a cycle, none where its range is below DT0 (R476). -/
def rainBin (h : List Nat) (range mean : Int) : Option Nat :=
  let q (v : Int) (o w : Nat) (m : Nat) : Nat :=
    let d := f32Fix (hb32 h w)
    if d ≤ 0 then 0 else min m (max 0 ((v - f32Fix (hb32 h o)) / d)).toNat
  if range < f32Fix (hb32 h 8) then none else some (16 * q mean 16 20 7 + q range 8 12 15)

/-- Count a cycle of range and mean in units of 2⁻⁹⁶ K, `n` half cycles. -/
def rainCount (h : List Nat) (r : Rainflow) (a b : Nat) (n : Nat) : Rainflow :=
  let x := f32Fix a
  let y := f32Fix b
  match rainBin h ((x - y).natAbs) ((x + y) / 2) with
  | none => r
  | some i => { r with bins := sset 0 r.bins i (min 0xFFFFFFFF (sget 0 r.bins i + n)) }

/-- The four-point rule applied until it no longer holds (R475). -/
def fourPoint (h : List Nat) : Nat → Rainflow → Rainflow
  | 0, r => r
  | n + 1, r => match r.points with
    | d :: c :: b :: a :: rest =>
      let dist (x y : Nat) : Nat := (f32Fix x - f32Fix y).natAbs
      if dist b c ≤ dist a b ∧ dist b c ≤ dist c d then fourPoint h n { rainCount h r b c 2 with points := d :: a :: rest } else r
    | _ => r

/-- Push a turning point; the engine and whether the stack overflowed (R475, Table HL-3). -/
def rainPush (h : List Nat) (r : Rainflow) (v : Nat) : Rainflow × Bool :=
  if 64 ≤ r.points.length then
    let old := r.points.drop (r.points.length - 2)
    let r := rainCount h r (old.getD 1 0) (old.getD 0 0) 1
    (fourPoint h 32 { r with points := v :: r.points.take (r.points.length - 2) }, true)
  else (fourPoint h 32 { r with points := v :: r.points }, false)

/-- One sample of Tj (R475): a turning point is declared when it reverses from the running extreme by at least HYS. -/
def rainSample (h : List Nat) (r : Rainflow) (v : Nat) : Rainflow × Bool :=
  let hys : Int := (hb16 h 6 : Int) * fixUnit / 100
  let x := f32Fix v
  let e := f32Fix r.extreme
  if r.seen = false then ({ r with seen := true, extreme := v }, false)
  else if r.points = [] then
    if hys ≤ x - e then
      let (r, o) := rainPush h r r.extreme
      ({ r with up := true, extreme := v }, o)
    else if hys ≤ e - x then
      let (r, o) := rainPush h r r.extreme
      ({ r with up := false, extreme := v }, o)
    else (r, false)
  else if r.up then
    if e < x then ({ r with extreme := v }, false)
    else if hys ≤ e - x then
      let (r, o) := rainPush h r r.extreme
      ({ r with up := false, extreme := v }, o)
    else (r, false)
  else
    if x < e then ({ r with extreme := v }, false)
    else if hys ≤ x - e then
      let (r, o) := rainPush h r r.extreme
      ({ r with up := true, extreme := v }, o)
    else (r, false)

/-- Feed leg n one Tj as its TJEST wrote it, value and status (R474). -/
def rainFeed (s : State) (n v st : Nat) : State :=
  let h := healthSect s
  if h = [] ∨ s.get R.NODE_MODE_MODE = 6 then s
  else if st.testBit 2 then { s with health := { s.health with tjRange := setBit s.health.tjRange n true } }
  else if st.testBit 0 = false then s
  else
    let (r, o) := rainSample h (sget Rainflow.none s.health.legs n) v
    let s := { s with health := { s.health with
      legs := sset Rainflow.none s.health.legs n r, tjRange := setBit s.health.tjRange n false } }
    if o then s.bump R.HL_STATUS_OVF 1 else s

/-! ### Damage and remaining life (R478, R479) -/

/-- 1/N_f at a bin in units of 2⁻⁸⁰ (R478). -/
def bitePerCycle (h : List Nat) (o bin : Nat) : Nat :=
  let dt := f32Fix (hb32 h 8) + f32Fix (hb32 h 12) * (2 * (bin % 16 : Nat) + 1) / 2
  let tm := f32Fix (hb32 h 16) + f32Fix (hb32 h 20) * (2 * (bin / 16 : Nat) + 1) / 2
  let nref := f32Fix (hb32 h (o + 4))
  let dref := f32Fix (hb32 h (o + 8))
  let tref := f32Fix (hb32 h (o + 12))
  let alpha := f32Fix (hb32 h (o + 16))
  let ea := f32Fix (hb32 h (o + 20))
  let zero : Int := 27315 * fixUnit / 100
  let u : Int := fixUnit
  if dt ≤ 0 ∨ dref ≤ 0 ∨ nref ≤ 0 ∨ tm + zero ≤ 0 ∨ tref + zero ≤ 0 then 0
  else
    let x := alpha * (lnFix dt.toNat - lnFix dref.toNat) / u
    let y := ea * 10 ^ 11 / 8617333 * 10 / 10 * (u * u / (tm + zero) - u * u / (tref + zero)) / u
    expFix (x - y) * 2 ^ 80 / nref.toNat

/-- D of leg n in units of 2⁻⁸⁰ (R478). -/
def legDamage (s : State) (n : Nat) : Nat :=
  let h := healthSect s
  match legModel h (s.get (R.LEGn_CFG_BRIDGE n)) with
  | none => 0
  | some o => (sget Rainflow.none s.health.legs n).bins.foldl (fun a e => a + e.2 * bitePerCycle h o e.1 / 2) 0

/-- The rate r of leg n in units of 2⁻⁸⁰ per hour. -/
def legRate (s : State) (n : Nat) : Option Nat := (sget (0, none) s.health.legHour n).2

/-- A u32 of the report. -/
def u32 (n : Nat) : Nat := min 0xFFFFFFFF n

/-- RL, RL_LO, RL_HI in hours and CYC (R479). -/
def legLife (s : State) (n : Nat) : Nat × Nat × Nat × Nat :=
  let h := healthSect s
  let o := (legModel h (s.get (R.LEGn_CFG_BRIDGE n))).getD 0
  let sc := (f32Fix (hb32 h (o + 24))).toNat
  let d := legDamage s n
  let cyc := u32 ((2 ^ 80 - d) * (f32Fix (hb32 h (o + 4))).toNat / 2 ^ 176)
  match legRate s n with
  | none => (0xFFFFFFFF, 0xFFFFFFFF, 0xFFFFFFFF, cyc)
  | some r =>
    if r = 0 then (0xFFFFFFFF, 0xFFFFFFFF, 0xFFFFFFFF, cyc)
    else (u32 ((2 ^ 80 - d) / r), u32 ((2 ^ 80 * fixUnit - sc * d) / (max 1 (sc * r))), u32 ((sc * 2 ^ 80 - d * fixUnit) / (r * fixUnit)), cyc)

/-- A rate update r := r + (d − r)/TAU_H; the first hour sets r := d (R478). -/
def rateUpdate (tau : Nat) (r : Option Nat) (d : Nat) : Option Nat :=
  some (match r with
    | none => d
    | some v => ((v : Int) + ((d : Int) - v) / tau).toNat)

/-- The end of an hour spent in RUN (R478, R481). -/
def hourlyUpdate (s : State) : State :=
  if s.powered = false ∨ s.get R.NODE_MODE_QUIET = 1 then s
  else
    let s := s.runElapsed (s.health.hourAt + usec 3600000000)
    let h := healthSect s
    let tau := tauH h
    let s := (List.range 96).foldl (fun s n =>
      let d := legDamage s n
      let (old, r) := sget (0, none) s.health.legHour n
      if (legModel h (s.get (R.LEGn_CFG_BRIDGE n))).isSome ∧ s.get (R.LEGn_CFG_ASSIGNED n) = 1 then
        { s with health := { s.health with legHour := sset (0, none) s.health.legHour n (d, rateUpdate tau r (d - old)) } }
      else s) s
    let s := (List.range 4).foldl (fun s n =>
      if (contactorModel h n).isSome then
        let ops := (sget (0, 0) s.health.ops n).1
        let (old, r) := sget (0, none) s.health.opsHour n
        { s with health := { s.health with opsHour := sset (0, none) s.health.opsHour n (ops, rateUpdate tau r ((ops - old) * 2 ^ 40)) } }
      else s) s
    let x := s.health
    { s with health := { x with
        rT := rateUpdate tau x.rT (x.hc - x.hcHour), hcHour := x.hc, runHours := x.runHours + 1, hourAt := s.time.elapsed } }

/-! ### DC links (R480) and contactors (R481) -/

/-- Δv and its fit over a window: sums over samples of i², i·Δi, Δi², i·Δv, Δi·Δv, Δv², Δv and the count. -/
structure Fit where
  ii : Int
  id : Int
  dd : Int
  iv : Int
  dv : Int
  vv : Int
  v : Int
  n : Int
deriving DecidableEq, Repr

/-- The sums of the high-passed samples (v, i) of a window. -/
def fitOf : List (Int × Int) → Fit → Fit
  | (v0, i0) :: (v1, i1) :: rest, a =>
    let dv := v1 - v0
    let di := i1 - i0
    fitOf ((v1, i1) :: rest)
      { ii := a.ii + i1 * i1, id := a.id + i1 * di, dd := a.dd + di * di, iv := a.iv + i1 * dv, dv := a.dv + di * dv, vv := a.vv + dv * dv,
        v := a.v + dv, n := a.n + 1 }
  | _, a => a

/-- The window's C and ESR in units of 2⁻⁴⁰ F and 2⁻⁴⁰ Ω where it is accepted (R480). Samples are in units of 2⁻¹⁶ V and A. -/
def fitWindow (h : List Nat) (o f : Nat) (samples : List (Int × Int)) : Option (Nat × Nat) :=
  let a := fitOf samples { ii := 0, id := 0, dd := 0, iv := 0, dv := 0, vv := 0, v := 0, n := 0 }
  let det := a.ii * a.dd - a.id * a.id
  let na := a.iv * a.dd - a.dv * a.id
  let nb := a.dv * a.ii - a.iv * a.id
  let imin := f32Fix (hb32 h (o + 24)) / 2 ^ 80
  if det ≤ 0 ∨ na ≤ 0 ∨ nb < 0 ∨ f = 0 ∨ a.n = 0 then none
  else if a.ii < a.n * imin * imin then none
  else
    let sse := a.vv - (na * a.iv + nb * a.dv) / det
    let sst := a.vv - a.v * a.v / a.n
    if 10 * sse ≤ sst then some ((det * 2 ^ 40 / (na * f)).toNat, (nb * 2 ^ 40 / det).toNat) else none

/-- The means over the last 64 accepted windows: C_EST and ESR_EST. -/
def dcEst (d : DcLink) : Nat × Nat :=
  let l := d.windows.take 64
  if l = [] then (0, 0) else ((l.map (·.2.1)).sum / l.length, (l.map (·.2.2)).sum / l.length)

/-- Limits of a link: C_EOL·C0 and ESR_EOL·ESR0 in units of 2⁻⁴⁰. -/
def dcLimits (h : List Nat) (o : Nat) : Int × Int :=
  let m (a b : Nat) : Int := f32Fix (hb32 h a) * f32Fix (hb32 h b) / 2 ^ 152
  (m (o + 8) (o + 16), m (o + 12) (o + 20))

/-- The fit of a window of 1 s ends (R480). -/
def dcLinkWindow (s : State) (l : Nat) (samples : List (Int × Int)) : State :=
  let h := healthSect s
  match dcModel h l with
  | none => s
  | some o =>
    if s.get R.NODE_MODE_MODE = 6 then s
    else match fitWindow h o s.fFrame samples with
      | none => s
      | some w =>
        let now := runSeconds s
        let d := sget DcLink.none s.health.dc l
        let ws := (now, w.1, w.2) :: d.windows
        let d := { d with windows := ws.take 64 ++ (ws.drop 64).filter fun e => decide (now ≤ e.1 + 3600000) }
        let lim := dcLimits h o
        let est := dcEst d
        let d := { d with worn := d.worn || decide ((est.1 : Int) ≤ lim.1) || decide (lim.2 ≤ (est.2 : Int)) }
        { s with health := { s.health with dc := sset DcLink.none s.health.dc l d } }

/-- The accepted windows of the last 1,000 h of RUN (R480). -/
def dcRecent (s : State) (d : DcLink) : List (Nat × Nat × Nat) := d.windows.filter fun e => decide (runSeconds s ≤ e.1 + 3600000)

/-- Accepted history shorter than 100 h (R480). -/
def dcShort (s : State) (d : DcLink) : Bool := match (dcRecent s d).head?, (dcRecent s d).getLast? with
  | some a, some b => decide (a.1 < b.1 + 360000)
  | _, _ => true

/-- RL, RL_LO and RL_HI of a link (R480). -/
def dcLife (s : State) (l : Nat) : Nat × Nat × Nat :=
  let d := sget DcLink.none s.health.dc l
  let h := healthSect s
  match dcModel h l with
  | none => (0, 0, 0)
  | some o =>
    if dcShort s d then (0xFFFFFFFF, 0xFFFFFFFF, 0xFFFFFFFF)
    else
      let lim := dcLimits h o
      let c := sumsOf ((dcRecent s d).map fun w => ((w.1 : Int), (w.2.1 : Int)))
      let e := sumsOf ((dcRecent s d).map fun w => ((w.1 : Int), (w.2.2 : Int)))
      let x : Int := runSeconds s
      let hc := (c.hoursTo c.slope x lim.1 true).getD 0xFFFFFFFF
      let he := (e.hoursTo e.slope x lim.2 false).getD 0xFFFFFFFF
      let band (a : Sums) (level : Int) (fall : Bool) : Nat × Nat :=
        let p := (a.hoursTo (a.slope - 2 * a.slopeErr) x level fall).getD 0xFFFFFFFF
        let q := (a.hoursTo (a.slope + 2 * a.slopeErr) x level fall).getD 0xFFFFFFFF
        (min p q, max p q)
      let g := if hc ≤ he then band c lim.1 true else band e lim.2 false
      (u32 (min hc he), u32 g.1, u32 g.2)

/-- A commanded opening of output n (R481); `x` is |IWIRE| at the end of the last frame (binary32). -/
def contactorOpening (s : State) (n : Nat) : State :=
  let h := healthSect s
  match contactorModel h n with
  | none => s
  | some o =>
    let w := hb16 h (o + 2)
    let elec := w == 0xFFFF || f32le (hb32 h (o + 12)) (f32abs (s.wireBits w))
    let (a, b) := sget (0, 0) s.health.ops n
    { s with health := { s.health with ops := sset (0, 0) s.health.ops n (a + 1, if elec then b + 1 else b) } }

/-- Remaining operations of output n and hours (R481). -/
def contactorLife (s : State) (n : Nat) : Nat × Nat :=
  let h := healthSect s
  match contactorModel h n with
  | none => (0, 0)
  | some o =>
    let (a, b) := sget (0, 0) s.health.ops n
    let left := min (hb32 h (o + 4) - a) (hb32 h (o + 8) - b)
    (left, match (sget (0, none) s.health.opsHour n).2 with
      | some r => if r = 0 then 0xFFFFFFFF else u32 (left * 2 ^ 40 / r)
      | none => 0xFFFFFFFF)

/-- CONTACTOR_WEAR holds for output n: 90 % of either rating. -/
def contactorWorn (s : State) (n : Nat) : Bool :=
  let h := healthSect s
  match contactorModel h n with
  | none => false
  | some o =>
    let (a, b) := sget (0, 0) s.health.ops n
    decide (9 * hb32 h (o + 4) ≤ 10 * a) || decide (9 * hb32 h (o + 8) ≤ 10 * b)

/-! ### Flags and the report (R483, R484) -/

/-- FLAGS of Table HL-2. -/
def healthFlags (s : State) : Nat :=
  let f (i : Nat) (b : Bool) (v : Nat) : Nat := if b then v + 2 ^ i else v
  let on (x : Fld) : Bool := s.get x == 1
  let h := s.health
  let v := f 0 (on R.NODE_TWIN_STAT_LINK_DOWN) 0
  let v := f 1 (h.flags.testBit 1) v
  let v := f 2 (on R.NODE_TWIN_STAT_HASH_MISMATCH) v
  let v := f 3 (on R.NODE_TWIN_STAT_UNEXPLAINED) v
  let v := f 4 (on R.NODE_TWIN_STAT_SENSE_DISAGREE) v
  let v := f 5 (on R.NODE_TWIN_STAT_RB_DISAGREE) v
  let v := f 6 (on R.NODE_TWIN_STAT_TEST_FAIL) v
  let v := f 7 (on R.NODE_TWIN_STAT_TAKEOVER) v
  let v := f 8 (on R.NODE_TWIN_STAT_HELDLOSS) v
  let v := f 9 (on R.NODE_TWIN_STAT_SEQ_END) v
  let v := f 10 (on R.SN_CAL_FAILED) v
  let v := f 11 (on R.SAF_ISO_WARN) v
  let v := f 12 (on R.SEC_STATUS_RNGFAIL) v
  let v := f 14 (h.flags.testBit 14) v
  let v := f 15 ((List.range 16).any fun r => decide (ringPpm s r < -30000)) v
  let v := f 16 (decide (324000000 * 2 ^ 40 ≤ h.hc) || (match ringLife s with
    | some n => decide (n < 5000)
    | none => false)) v
  let v := f 17 ((List.range 6).any fun p => decide (800000000 < s.get (R.HL_NVp_MAXW p))) v
  let v := f 18 (h.due.any fun e => decide (e.2 + 86400 ≤ runSeconds s + 1)) v
  let v := f 19 (h.tjRange != 0) v
  let v := f 20 ((List.range 96).any fun n => decide (2 ^ 80 * 8 ≤ 10 * legDamage s n)) v
  let v := f 21 (h.dc.any fun e => e.2.worn) v
  let v := f 22 ((List.range 4).any (contactorWorn s)) v
  f 23 (on R.HL_STATUS_COUNT_LOST) v

/-- The leg of bridge b of largest D. -/
def worstLeg (s : State) (b : Nat) : Nat :=
  let ls := (List.range 96).filter fun n => s.get (R.LEGn_CFG_ASSIGNED n) == 1 && s.get (R.LEGn_CFG_BRIDGE n) == b
  ls.foldl (fun m n => if legDamage s m < legDamage s n then n else m) (ls.headD 0)

/-- The bridge block of a report. -/
def bridgeBlock (s : State) (b : Nat) : Bytes :=
  if s.get (R.BRIDGE_CFG_PRESENT b) = 0 then List.replicate 32 0
  else
    let n := worstLeg s b
    let (rl, lo, hi, cyc) := legLife s n
    let have_ := (legModel (healthSect s) b).isSome
    leBytes 1 1 ++ leBytes 1 (s.get (R.BRIDGE_CFG_ROLE b)) ++ leBytes 1 n ++ [0]
      ++ (if have_ then leBytes 4 (f32ofScaled (legDamage s n) (-80)) ++ leBytes 4 rl ++ leBytes 4 lo ++ leBytes 4 hi ++ leBytes 4 cyc
          else List.replicate 20 0)
      ++ List.replicate 8 0

/-- The DC-link block of a report. -/
def dcBlock (s : State) (l : Nat) : Bytes :=
  if (dcModel (healthSect s) l).isNone then List.replicate 32 0
  else
    let d := sget DcLink.none s.health.dc l
    let est := dcEst d
    let (rl, lo, hi) := dcLife s l
    leBytes 4 (f32ofScaled est.1 (-40)) ++ leBytes 4 (f32ofScaled est.2 (-40)) ++ leBytes 4 rl ++ leBytes 4 lo ++ leBytes 4 hi
      ++ leBytes 4 (if dcShort s d then 1 else 0) ++ List.replicate 8 0

/-- The contactor block of a report. -/
def contactorBlock (s : State) (n : Nat) : Bytes :=
  if (contactorModel (healthSect s) n).isNone then List.replicate 16 0
  else
    let (a, b) := sget (0, 0) s.health.ops n
    let (ro, rh) := contactorLife s n
    leBytes 4 a ++ leBytes 4 b ++ leBytes 4 ro ++ leBytes 4 rh

/-- Form a report: HL_REPORT, LK_HIRQ bit 13, a HEALTH envelope (R483); HL_LEGn_D takes D. -/
def formReport (s : State) : State :=
  let pm := s.postmark
  let fl := healthFlags s
  let worst := (List.range 6).foldl (fun m p => if s.get (R.HL_NVp_MAXW m) < s.get (R.HL_NVp_MAXW p) then p else m) 0
  let node := leBytes 4 (nodeLife s 0) ++ leBytes 4 (nodeLife s 256) ++ leBytes 4 (nodeLife s (-256))
    ++ leBytes 4 (s.health.hc / 2 ^ 40 / 3600) ++ leBytes 4 (f32ofScaled (lastDie s) (-7))
    ++ leBytes 4 (unsigned 32 (ringPpm s (slowestRing s))) ++ leBytes 4 worst ++ leBytes 4 (s.get (R.HL_NVp_MAXW worst))
  let body := leBytes 4 0x544C4842 ++ leBytes 2 1 ++ leBytes 2 832 ++ leBytes 8 pm ++ leBytes 8 fl ++ leBytes 4 s.health.seq ++ [0, 0, 0, 0]
    ++ node ++ (List.range 16).flatMap (bridgeBlock s) ++ (List.range 4).flatMap (dcBlock s) ++ (List.range 4).flatMap (contactorBlock s)
    ++ List.replicate 64 0
  let s := { s with health := { s.health with seq := s.health.seq + 1, report := body, reportFlags := fl } }
  let s := (List.range 96).foldl (fun s n =>
    if s.get (R.LEGn_CFG_ASSIGNED n) = 1 then s.put (R.HL_LEGn_D_D n) (f32ofScaled (legDamage s n) (-80)) else s) s
  let s := (s.put R.HL_NODE_RL (nodeLife s 0)).putPair R.HL_FLAGS_LO_F R.HL_FLAGS_HI_F fl
  (postHw s 0x1E 1 1016 pm 4 0 body).irq 13

/-- A report is formed when a flag has changed since the last one (R483). -/
def healthCheck (s : State) : State :=
  if healthFlags s = s.health.reportFlags then s else formReport s

/-- The eight die sensors are read, every 1 ms (R468, R469, R473). -/
def dieTempSample (s : State) (temps : List Int) : State :=
  if s.powered = false then s
  else
    let s := s.runElapsed ((s.time.elapsed / usec 1000 + 1) * usec 1000)
    let l := (List.range 8).map fun i => temps.getD i 0
    let s := (l.zipIdx).foldl (fun s p => s.put (R.HL_TEMPs_T p.2) (unsigned 16 p.1)) s
    let t := dieTemp l
    let v := t.getD 19200
    let s := { s with health := { s.health with hc := s.health.hc + lifeRate v / 2 ^ 56 / 1000 } }
    healthCheck (dieHot (retentionAdd s v 1) t)

/-- A write of HL_CTRL.NOW (R483). -/
def reportNow (s : State) : State := if s.powered then formReport s else s

/-- Every HL_CTRL.PERIOD minutes in RUN (R483). -/
def reportPeriod (s : State) : State :=
  if s.powered = false ∨ s.get R.NODE_MODE_QUIET = 1 then s
  else
    let s := s.runElapsed (s.health.reportAt + usec (60000000 * max 1 (s.get R.HL_CTRL_PERIOD)))
    formReport { s with health := { s.health with reportAt := s.time.elapsed } }

/-- Counts, residues, H_c, retention state and contactor counts go to non-volatile memory (R477). -/
def counterWrite (s : State) : State :=
  let h := s.health
  nvWrite { s with health := { h with
    savedHc := h.hc, savedRetention := h.retention, savedLegs := h.legs, savedOps := h.ops, flushAt := s.time.elapsed } } 3 0

/-- Every 60 s (R477). -/
def counterFlush (s : State) : State :=
  if s.powered then counterWrite (s.runElapsed (s.health.flushAt + usec 60000000)) else s

/-- A reset loses what accumulated since the last write: COUNT_LOST, and the lost interval in milliseconds is journalled (R477). -/
def countsLost (s : State) : State :=
  let h := s.health
  let gap := s.since h.flushAt * 1000 / 2 ^ 72
  let s := { s with health := { h with
    hc := h.savedHc, retention := h.savedRetention, legs := h.savedLegs, ops := h.savedOps, flushAt := s.time.elapsed } }
  journalAdd (s.mark R.HL_STATUS_COUNT_LOST 1) 3 gap

/-- Activation of an image: with a different HEALTH section, the counts of legs whose bridge's model record is unchanged are kept, and everything else
restarts at 0 with the old values journalled (R485). `was` gives each leg's bridge in the image before. -/
def healthActivate (s : State) (was : List Nat) : State :=
  let old := s.health.model
  let new := healthSect s
  let s := s.put R.HL_STATUS_RUN (if new = [] then 0 else 1)
  let model (h : List Nat) (b : Nat) : Option (List Nat) := (legModel h b).map fun o => (h.drop o).take 32
  if old = new then s
  else
    let keep (n : Nat) : Bool := (model old (was.getD n 255)).isSome
      && model old (was.getD n 255) == model new (s.get (R.LEGn_CFG_BRIDGE n))
    let s := s.health.ops.foldl (fun s e => journalAdd s 4 (e.2.1 + e.2.2 * 2 ^ 32)) s
    let s := s.health.dc.foldl (fun s e => journalAdd s 6 ((dcEst e.2).1 + (dcEst e.2).2 * 2 ^ 64)) s
    let s := (s.health.legs.filter fun e => !keep e.1).foldl (fun s e => (e.2.bins.map (·.2)).foldl (fun s v => journalAdd s 5 v) s) s
    { s with health := { s.health with
        model := new
        legs := s.health.legs.filter fun e => keep e.1
        legHour := s.health.legHour.filter fun e => keep e.1
        dc := [], ops := [], opsHour := [], tjRange := 0 } }

end Sys2Proof.Machine
end

