-- ==== Sys2Proof/Machine/Measure.lean ====
section
/-!
DEFINITION. The measurement registers and log, the anti-rollback counters and the SECURITY envelope
(spec/15_security.md R409, R410, R412, R423).
-/
namespace Sys2Proof.Machine

/-- MRi as its 64 bytes (R409). -/
def mrBytes (s : State) (i : Nat) : Bytes := leBytes 64 (sget 0 s.security.mr i)

/-- An extension with digest d: MRi := SHA-512(MRi ‖ d), and an entry of the log (R409, R410). -/
def mrExtend (s : State) (i : Nat) (d : Bytes) : State :=
  let n := s.security.log.length
  let c := s.security
  let s := { s with security := { c with
    mr := sset 0 c.mr i (leNat (sha512 (mrBytes s i ++ d)))
    mr5Last := if i = 5 then leNat d else c.mr5Last
    log := if n < 64 then c.log ++ [(i, s.postmark, leNat d)] else c.log } }
  if n < 64 then s.put R.SEC_STATUS_LOGN (n + 1) else s.put R.SEC_STATUS_LOGFULL 1

/-- Counter i is raised to v where it is lower: the second copy is written, then the first (R412). -/
def counterRaise (s : State) (i v : Nat) : State :=
  if s.get (R.SEC_RBi_COUNT i) < v then
    (nvWrite (nvWrite s 4 (64 + i)) 4 i).put (R.SEC_RBi_COUNT i) v
  else s

/-- A SECURITY envelope (R423) and its host interrupt (Table LK-11). -/
def securityEnvelope (s : State) (event code peer session value : Nat) : State :=
  postHw (s.irq 5) 0x1B 1 1017 s.postmark 4 0
    (leBytes 1 event ++ leBytes 1 code ++ leBytes 2 peer ++ leBytes 4 session ++ leBytes 4 value ++ List.replicate 4 0)

/-- NODE_IDENT as a word (R24). -/
def identWord (s : State) : Nat :=
  s.get R.NODE_IDENT_PROV * 2 ^ 31 + s.get R.NODE_IDENT_TWIN * 2 ^ 20 + s.get R.NODE_IDENT_CLUSTER * 2 ^ 12 + s.get R.NODE_IDENT_NODE

/-- MR6 is extended with the SHA-512 of NODE_IDENT and POST_EPOCH (Table SE-4). DESIGN CHOICE, log entry 103: the bytes hashed are the three register
words. -/
def measureIdent (s : State) : State :=
  mrExtend s 6 (sha512 (leBytes 4 (identWord s) ++ leBytes 4 (s.get R.POST_EPOCH_LO_SEC)
    ++ leBytes 4 (s.get R.POST_EPOCH_HI_VALID * 2 ^ 31 + s.get R.POST_EPOCH_HI_SEC)))

end Sys2Proof.Machine
end

