-- ==== Sys2Proof/Machine/Crc.lean ====
section
/-!
DEFINITION. The cyclic redundancy checks of the spec, all reflected: CRC-64 of ECMA-182 (spec/06_fabric.md R183) and the 32-bit ones,
by their polynomials.
-/
namespace Sys2Proof.Machine

/-- `n` shifts of a reflected CRC register. -/
def crcShift (poly : Nat) : Nat → Nat → Nat
  | 0, c => c
  | n + 1, c => crcShift poly n (if c.testBit 0 then c / 2 ^^^ poly else c / 2)

/-- A reflected CRC over bytes from an initial value, without the final XOR. -/
def crcBytes (poly : Nat) : Nat → Bytes → Nat
  | c, [] => c
  | c, b :: bs => crcBytes poly (crcShift poly 8 (c ^^^ b.toNat)) bs

/-- CRC-64 with polynomial 0x42F0_E1EB_A9EA_3693 reflected, initial value and final XOR all ones (R183). -/
def crc64 (bs : Bytes) : Nat := crcBytes 0xC96C5795D7870F42 (2 ^ 64 - 1) bs ^^^ (2 ^ 64 - 1)

end Sys2Proof.Machine
end

