-- ==== Sys2Proof/Machine/Forming.lean ====
section
/-!
DEFINITION. The blocks of dead-grid start, ride-through and sharing as functions of their inputs, parameters and state variables
(spec/05_forming_events.md R114 to R144): SYNC, PROFILE in RAMP form, TVIMP, and the guard's switching state.
-/
namespace Sys2Proof.Machine

/-- A time parameter in postmark units, by truncation (R115). -/
def timeUnits (t : Nat) : Nat :=
  if f32neg? t then 0 else (f32mant t * 2 ^ (f32exp t) * 2 ^ 32) / 2 ^ 150

/-- A postmark difference in binary32 seconds (R88, R115). -/
def secondsOf (d : Nat) : Nat := f32ofScaled (d : Int) (-32)

/-- Postmarks are kept in state variables one up, 0 for none. -/
def since? (v : Nat) : Option Nat := if v = 0 then none else some (v - 1)

/-- The start of a run of a condition: kept while it lasts, the present frame where it begins (R128). -/
def runFrom (v : Nat) (c : Bool) (fk : Nat) : Nat := if !c then 0 else if v = 0 then fk + 1 else v

/-- A run has lasted `t` postmark units at the present frame. -/
def runLasts (v fk t : Nat) : Bool := v != 0 && decide (t ≤ fk - (v - 1))

/-- What SYNC and PROFILE take from the node beside their wires. -/
structure FormCtx where
  fk : Nat
  prevFk : Nat
  k : Nat
  ts : Nat
  wb : Nat
  mode : Nat
  tripped : Bool
  nodeId : Nat
  fRef : Nat
  pRef : Nat
  mP : Nat
  vRef : Nat
deriving DecidableEq, Repr

/-! ### SYNC (R128 to R130, R139 to R141) -/

/-- The part of SYNC whose equations the spec does not give, a second-order tracker of 10 Hz bandwidth over V_BUS: θ_bus and ω_bus (0 and
1), and a token of its history (2). -/
def syncTracker (i : Nat) (ins pars vars : List Nat) : Nat := Config.blockValue 0x18 0 i ins pars vars

/-- SYNC; |v+| of V_BUS and V_AB is the magnitude of the pair and θ_t its angle (DEDUCED from |v_bus| in R128, log entry 48). Inputs V_BUS V_AB DELTA ANCHORED FB_CLOSED W STATE GUARD_EN; parameters of Table FE-4. State: F_ADJ, runs of dead and live
bus, the count of R129, holding, f_hold, the tracker's token, the run of JOIN and SYNCING, and whether T_SYNC was exceeded. Answers the outputs,
the state and whether T_SYNC is exceeded. In RAMP or DONE with FB_CLOSED = 0 no rule gives F_ADJ a target, and it keeps its value (DESIGN CHOICE,
log entry 155). -/
def kSync (c : FormCtx) (ins p st : List Nat) : KindOut × Bool :=
  let i (n : Nat) := nthF ins n
  let tr (n : Nat) := syncTracker n ins p [nthF st 6]
  let thBus := tr 0
  let wBus := tr 1
  let vBus := fmag (i 0) (i 1)
  let thT := fatan2 (i 3) (i 2)
  let vAb := fmag (i 2) (i 3)
  let state := (f32toFix (i 8) 0).toNat
  let deadRun := runFrom (nthF st 1) (f32lt vBus (nthF p 0)) c.fk
  let liveRun := runFrom (nthF st 2) (f32le (nthF p 1) vBus) c.fk
  let dead := runLasts deadRun c.fk (timeUnits (nthF p 2))
  let live := runLasts liveRun c.fk (timeUnits (nthF p 2))
  let dth := wrapPi (fsub thBus thT)
  let dw := fsub wBus (i 7)
  let agree := f32le (f32abs (wrapPi (fadd dth (fmul (fmul c.wb dw) (nthF p 9))))) (nthF p 5)
    && f32le (f32abs dw) (nthF p 6) && f32le (f32abs (fsub vBus vAb)) (nthF p 7) && live
  let nok := if agree then min (nthF st 3 + 1) (max 1 (nthF p 8)) else 0
  let closing := state = 3 ∨ state = 4
  let joinRun := if closing then (if nthF st 7 = 0 then c.prevFk + 1 else nthF st 7) else 0
  let late := joinRun != 0 && decide (timeUnits (nthF p 10) < c.fk - (joinRun - 1))
  let fadj := nthF st 0
  let fsMax := nthF p 4
  let fMax := nthF p 12
  let win := nthF p 13
  let delta := i 4
  let guard := fhigh (i 9)
  let anch := fhigh (i 5)
  let restoring := fhigh (i 6) && (state == 2 || state == 5)
  let fun_ := fmul (f32negate (nthF p 11)) delta
  let hold0 := nthF st 4 = 1
  let fhold := nthF st 5
  let stillHold := hold0 && !(!guard && anch && f32le (f32abs delta) win && f32lt 0 (fmul fun_ fhold)
    && f32le (f32abs fhold) (f32abs fun_))
  let newHold := restoring && !guard && anch && !stillHold && f32lt win (f32abs delta) && f32eq (f32abs fadj) fMax
  let (tgt, hold1, fhold1) : Nat × Bool × Nat :=
    if closing then
      (fclamp (fadd (fsub (fsub wBus c.fRef) (fmul c.mP c.pRef)) (fmul (nthF p 3) dth)) (f32negate fsMax) fsMax, hold0, fhold)
    else if restoring then
      if guard || !anch then (fadj, hold0, fhold)
      else if stillHold then (fhold, true, fhold)
      else if newHold then (fadj, true, fadj)
      else (fclamp fun_ (f32negate fMax) fMax, false, fhold)
    else if state = 0 ∨ state = 1 then (0, hold0, fhold)
    else (fadj, hold0, fhold)
  let step := fmul (nthF p 14) c.ts
  let fadj1 := fmin (fmax tgt (fsub fadj step)) (fadd fadj step)
  let sat := (decide closing && f32eq (f32abs fadj1) fsMax) || (restoring && f32eq (f32abs fadj1) fMax)
  let vadj := if closing then fsub vBus c.vRef else 0
  ({ outs := [(fadj1, sat), (vadj, false), (fbool dead, false), (fbool live, false), (fbool (decide (nthF p 8 ≤ nok)), false)]
     vars := [fadj1, deadRun, liveRun, nok, if hold1 then 1 else 0, fhold1, tr 2, joinRun, fbool late] }, late)

/-! ### PROFILE in RAMP form (R116 to R127) -/

/-- What an evaluation of PROFILE in RAMP form gives: outputs and state, RAMP_STALL, and a START that found the bridge outside WAIT. -/
structure RampOut where
  out : KindOut
  stall : Bool
  notWait : Bool
deriving DecidableEq, Repr

/-- The state of PROFILE before its evaluation's transitions: state, E_SCALE, t0, anchored, failed close, CLOSE latched in SYNCING,
slot base, entry to WAIT in ENERGIZE, run of limiting, then the START that waits: t + D_accept one up, source, postmark, frame. -/
abbrev RampVars := List Nat

/-- Transitions out of WAIT (R121, R122, R126, R127): the state with t0, anchored, and the slot base. -/
def rampFromWait (c : FormCtx) (p : List Nat) (dead live anch : Bool) (start : Option Nat) (base wait : Nat) :
    Nat × Nat × Nat × Nat :=
  let pre := timeUnits (nthF p 3)
  let mode1 := nthF p 1 = 1
  match start with
  | some ta =>
    if mode1 ∧ anch ∧ dead then (1, ta + pre, 1, 0)
    else if mode1 ∧ anch ∧ live then (3, 0, 0, 0)
    else rest (ta + pre + timeUnits (nthF p 2) + 1)
  | none => rest base
where
  rest (base : Nat) : Nat × Nat × Nat × Nat :=
    let b := if base ≠ 0 then base else if c.mode = 3 then wait else 0
    let slot := b - 1 + (c.nodeId % max 1 (nthF p 7)) * timeUnits (nthF p 8)
    if b ≠ 0 ∧ slot ≤ c.fk ∧ dead then (1, slot + timeUnits (nthF p 3), 0, 0)
    else if b ≠ 0 ∧ slot ≤ c.fk ∧ live then (3, 0, 0, 0)
    else if (c.mode = 2 ∨ c.mode = 4) ∧ live then (3, 0, 0, 0)
    else (0, 0, 0, base)

/-- PROFILE in RAMP form: inputs BUS_DEAD BUS_LIVE SYNC_OK ANCHORED FB_CLOSED V_DQP LIMITING V_SET; parameters FORM and
then those of Table FE-3 in its order. E_SCALE takes its first step in the evaluation that enters JOIN (DESIGN CHOICE, log entry 156), and an
anchored ramp has its value of R117 in the evaluation that enters RAMP (DESIGN CHOICE, log entry 157). A START accepted while the bridge is
tripped finds it in WAIT and counts its slots (DEDUCED from R116 and R122, log entry 158). -/
def kRamp (c : FormCtx) (ins p : List Nat) (st : RampVars) : RampOut :=
  let i (n : Nat) := fhigh (nthF ins n)
  let dead := i 0
  let live := i 1
  let fb := i 4
  let lim := i 7
  let sw := c.mode = 2 ∨ c.mode = 3 ∨ c.mode = 4
  let out := !decide sw || c.tripped
  let s0 := if out then 0 else nthF st 0
  let clears := !decide sw || (c.tripped && nthF st 0 != 0)
  let base := if clears then 0 else nthF st 6
  let wait0 := if clears then 0 else nthF st 7
  let wait := if s0 = 0 ∧ c.mode = 3 ∧ wait0 = 0 then c.fk + 1 else wait0
  let start := if !decide sw then none else since? (nthF st 9)
  let notWait := start.isSome && s0 != 0
  let (s1, t0, anch, base1) :=
    if s0 ≠ 0 then (s0, nthF st 2, nthF st 3, 0)
    else if c.tripped then (0, 0, 0, match start with
      | some ta => ta + timeUnits (nthF p 3) + timeUnits (nthF p 2) + 1
      | none => base)
    else if out then (0, 0, 0, base)
    else rampFromWait c p dead live (i 3) start base wait
  let entered := s0 = 0 ∧ s1 = 1
  let failed0 := if entered then false else nthF st 4 = 1
  -- CLOSING (R116, R123)
  let (s2, close1, failed1, origin) : Nat × Bool × Bool × Bool :=
    if s1 = 1 then
      if failed0 then (if fb then (1, false, true, false) else (3, false, false, false))
      else if t0 ≤ c.fk then (if fb then (2, true, false, true) else (1, false, true, false))
      else (1, true, false, false)
    else (s1, false, false, false)
  -- E_SCALE (R117)
  let es0 := if s0 = 0 then 0 else nthF st 1
  let es1 :=
    if s2 = 0 ∨ s2 = 1 then 0
    else if s2 = 2 then
      if anch = 1 then fdiv (secondsOf (c.fk - t0)) (nthF p 2)
      else if origin then 0
      else if lim then es0 else fadd es0 (fdiv c.ts (nthF p 2))
    else if s2 = 3 then (if lim then es0 else fadd es0 (fdiv c.ts (nthF p 4)))
    else f32one
  let es := fclamp es1 0 f32one
  let full := f32le f32one es
  let s3 := if s2 = 2 ∧ full then 5 else if s2 = 3 ∧ full then 4 else s2
  let latched := s3 = 4 ∧ (nthF st 5 = 1 ∧ s2 = 4 ∨ i 2)
  let s4 := if s3 = 4 ∧ fb then 5 else s3
  let close := if s4 = 1 then close1 else if s4 = 2 ∨ s4 = 5 then true else if s4 = 4 then decide latched else false
  -- RAMP_STALL (R119)
  let stallRun := runFrom (nthF st 8) (s2 == 2 && anch == 1 && lim) c.fk
  let stall := runLasts stallRun c.fk (timeUnits (nthF p 5))
  -- V_NORM and READY (R118, R120)
  let vset := nthF ins 8
  let (vd, vq) := if f32lt es 0x3D4CCCCD then (vset, 0) else (fdiv (nthF ins 5) es, fdiv (nthF ins 6) es)
  let ready := s4 == 5 && fb && f32le (f32abs (fsub (fmag vd vq) vset)) (nthF p 6)
  { out := { outs := [(es, !f32eq es es1), (vd, false), (vq, false), (f32ofNat s4, false), (fbool close, false), (fbool ready, false)]
             vars := [s4, es, t0, anch, if failed1 then 1 else 0, if latched then 1 else 0, if s4 = 0 then base1 else 0,
                      if s4 = 0 then wait else 0, stallRun, 0, 0, 0, 0] }
    stall := stall, notWait := notWait }

/-! ### TVIMP (R131 to R136) -/

/-- The value of an envelope of 16 points (T, V) at elapsed time τ (R135). -/
def envelopeAt (tau : Nat) : List (Nat × Nat) → Nat
  | [] => 0
  | [p] => p.2
  | p :: q :: ps =>
    if f32le q.1 tau then envelopeAt tau (q :: ps)
    else if f32lt p.1 q.1 then fadd p.2 (fmul (fsub tau p.1) (fdiv (fsub q.2 p.2) (fsub q.1 p.1)))
    else p.2

/-- Pairs of a list of words. -/
def pairsOf : List Nat → List (Nat × Nat)
  | a :: b :: l => (a, b) :: pairsOf l
  | _ => []

/-- TVIMP: inputs I_REF_P V_DQP E_SCALE FB_CLOSED W; parameters of Table FE-5; RV and XV of the bridge's VIMP; `sw` whether the
bridge's legs count as switching (R134). State: x, act, phase (0 FAULT, 1 HOLD, 2 BLEND), g, F_entry, F_exit, F_rel, the count of
R134, and ENV_TRIP. -/
def kTvimp (fk ts : Nat) (sw : Bool) (rv xv : Nat) (ins p st : List Nat) : KindOut :=
  let i (n : Nat) := nthF ins n
  let vm := fmag (i 2) (i 3)
  let es := i 4
  let fb := fhigh (i 5)
  let w := i 6
  let vlo := nthF p 0
  let vhi := nthF p 1
  let hyst := nthF p 2
  let lo := fmul vlo es
  let out := f32le 0x3DCCCCCD es && (f32lt vm lo || f32lt vhi vm)
  let inb := f32le (fmul (fadd vlo hyst) es) vm && f32le vm (fsub vhi hyst)
  let act0 := nthF st 1 = 1
  let entry := if out && !act0 then fk else nthF st 4
  let ph0 := nthF st 2
  let hold := act0 && !out && ph0 == 0 && inb
  let ph1 := if out then 0 else if hold then 1 else ph0
  let exit := if hold then fk else nthF st 5
  let blend := act0 && !out && ph1 == 1 && decide (timeUnits (nthF p 5) ≤ fk - exit)
  let ph2 := if blend then 2 else ph1
  let rel := if blend then fk else nthF st 6
  let x0 := nthF st 0
  let inBlend := act0 && !out && ph2 == 2
  let xd := fmul x0 (fsub f32one (fmin (fdiv ts (nthF p 6)) f32one))
  let x1 := if out then (if f32lt vm lo then f32one else x0) else if inBlend then (if f32lt xd 0x3A83126F then 0 else xd) else x0
  let g := if out then 0 else if inBlend then
      (if timeUnits (nthF p 7) ≤ fk - rel then f32one else fmin (fdiv (secondsOf (fk - rel)) (nthF p 7)) f32one)
    else nthF st 3
  let ended := inBlend && f32le f32one g
  let act := (out || act0) && !ended
  let x := if ended then 0 else x1
  let zi := fmul xv w
  let sr := fadd rv (fmul x (nthF p 3))
  let si := fadd zi (fmul x (fmul (nthF p 4) w))
  let den := fadd (fmul sr sr) (fmul si si)
  let kr := fdiv (fadd (fmul rv sr) (fmul zi si)) den
  let ki := fdiv (fsub (fmul zi sr) (fmul rv si)) den
  let (d, q) := if f32zero? x then (i 0, i 1)
    else (fsub (fmul kr (i 0)) (fmul ki (i 1)), fadd (fmul kr (i 1)) (fmul ki (i 0)))
  let tau := secondsOf (fk - entry)
  let lv := pairsOf ((p.drop 10).take 32)
  let hv := pairsOf ((p.drop 42).take 32)
  let env := act && nthF p 9 == 1 && (f32lt vm (fmul es (envelopeAt tau lv)) || f32lt (envelopeAt tau hv) vm)
  let slipping := fb && sw && f32le 0x3DCCCCCD vm && f32lt (nthF p 8) (f32abs (fatan2 (i 3) (i 2)))
  let ns := if slipping then min 4 (nthF st 7 + 1) else 0
  { outs := [(d, false), (q, false), (fbool act, false), (g, false), (fbool env, false), (fbool (ns == 4), false)]
    vars := [x, if act then 1 else 0, ph2, g, entry, exit, rel, ns, fbool env] }

end Sys2Proof.Machine
end

