-- ==== Sys2Proof/Machine/CaptureCore.lean ====
section
/-!
DEFINITION. Capture windows and the flight record memory (spec/12_capture.md, R315 to R338): capture memory, rows, triggers,
segments, and the byte ring of the flight record. What a frame writes into the record is in Machine/Flight.lean.
-/
namespace Sys2Proof.Machine

/-! ### Capture memory (R315, R316): 32 MiB of bytes; a byte nothing has written reads 0 -/

/-- The value of an unlisted byte of capture memory. -/
def memDefault : Byte := 0

/-- Capture memory keeps the canonical form of `swf`. -/
abbrev Memory.wf (m : List Host.Cell) : Bool := swf memDefault m

/-- One byte of capture memory by its offset. -/
def memByte (m : List Host.Cell) (a : Nat) : Byte := sget memDefault m a

/-- Write bytes from an offset on; bytes beyond the 32 MiB do not exist and are not written. -/
def memWrite (m : List Host.Cell) (a : Nat) : Bytes → List Host.Cell
  | [] => m
  | b :: bs => memWrite (if a < 33554432 then sset memDefault m a b else m) (a + 1) bs

/-- A little-endian word of capture memory. -/
def memWord (m : List Host.Cell) (a : Nat) : Nat :=
  (memByte m a).toNat + (memByte m (a + 1)).toNat * 256 + (memByte m (a + 2)).toNat * 65536
    + (memByte m (a + 3)).toNat * 16777216

/-- State's capture memory with bytes written. -/
def State.capWrite (s : State) (a : Nat) (bs : Bytes) : State :=
  { s with capture := { s.capture with mem := memWrite s.capture.mem a bs } }

/-! ### Geometry of a window (R317, R318) -/

/-- The hidden part of window w. -/
def State.win (s : State) (w : Nat) : Win := sget Win.idle s.capture.wins w
/-- Set the hidden part of window w. -/
def State.setWin (s : State) (w : Nat) (x : Win) : State :=
  { s with capture := { s.capture with wins := sset Win.idle s.capture.wins w x } }
/-- State code of window w (Table CP-2). -/
def State.winState (s : State) (w : Nat) : Nat := s.get (R.CAP_WINw_STAT_STATE w)

/-- NSRC of window w. -/
def winNsrc (s : State) (w : Nat) : Nat := s.get (R.CAP_WINw_CFG_NSRC w)
/-- Row length L. -/
def winL (s : State) (w : Nat) : Nat := 16 + 4 * winNsrc s w
/-- First byte of the region. -/
def winBase (s : State) (w : Nat) : Nat := s.get (R.CAP_WINw_MEM_BASE w) * 65536
/-- Bytes of the region. -/
def winBytes (s : State) (w : Nat) : Nat := s.get (R.CAP_WINw_MEM_SIZE w) * 65536
/-- Segment bytes S: the equal share rounded down to a multiple of 16. -/
def winS (s : State) (w : Nat) : Nat := (winBytes s w - 256) / 2 ^ s.get (R.CAP_WINw_CFG_NSEGLOG w) / 16 * 16
/-- Rows of a segment's ring, N. -/
def winN (s : State) (w : Nat) : Nat := (winS s w - 128) / winL s w
/-- Source code n of window w, n from 0 to 15. -/
def winSrc (s : State) (w n : Nat) : Nat := s.get (R.CAP_WINw_SRCn_SRC w (n / 2)) / (if n % 2 = 0 then 1 else 65536) % 65536
/-- First byte of the present segment. -/
def winSeg (s : State) (w : Nat) : Nat := winBase s w + s.get (R.CAP_WINw_STAT_SEG w) * winS s w

/-- The value and status of a source: a sense channel gives its code and status word, a wire its value and status (R319). -/
def sourceValue (s : State) (sense : Sparse SenseOut) (code : Nat) : Nat × Nat :=
  if code / 16384 = 0 then
    let o := sget SenseOut.none sense (code % 256)
    (o.code % 16777216 + o.stat * 16777216, 0)
  else (s.wireBits (code % 8192), s.wireStat (code % 8192))

/-- A row of Table R319. -/
def rowBytes (s : State) (w pm : Nat) (sense : Sparse SenseOut) : Bytes :=
  let vals := (List.range (winNsrc s w)).map fun n => sourceValue s sense (winSrc s w n)
  let wstat := (vals.zipIdx).foldl (fun acc p => acc + p.1.2 % 16 * 16 ^ p.2) 0
  leBytes 8 pm ++ leBytes 8 wstat ++ vals.flatMap fun v => leBytes 4 v.1

/-- The segment header of Table CP-4. -/
def headerBytes (s : State) (w state : Nat) : Bytes :=
  let x := s.win w
  let (tk, tid, fine) := match x.taken with
    | some t => (t.kind, t.tid, t.fine)
    | none => (0xFF, 0, 0)
  let n := winN s w
  let first := if x.taken.isSome then (x.trow + 1 + n - x.validPre) % max 1 n else if x.rows ≤ n then 0 else x.pos
  leBytes 4 0x50414342 ++ leBytes 1 w ++ leBytes 1 state ++ leBytes 1 (winNsrc s w) ++ leBytes 1 tk ++ leBytes 4 x.seq
    ++ leBytes 2 (s.get (R.CAP_WINw_CFG_CLKK w) * 32768 + s.get (R.CAP_WINw_CFG_CLK w)) ++ leBytes 2 tid
    ++ leBytes 8 (fine / 256) ++ leBytes 1 (fine % 256) ++ leBytes 1 x.frac ++ leBytes 2 (winL s w) ++ leBytes 4 n
    ++ leBytes 4 x.trow ++ leBytes 4 x.validPre ++ leBytes 4 x.postDone ++ leBytes 4 first ++ leBytes 4 x.missed
    ++ List.replicate 12 0
    ++ (List.range 16).flatMap (fun i => leBytes 2 (if i < winNsrc s w then winSrc s w i else 0xFFFF))
    ++ List.replicate 32 0

/-- Write the present segment's header (R329). -/
def writeHeader (s : State) (w state : Nat) : State := s.capWrite (winSeg s w) (headerBytes s w state)

/-- Move a window to a state of Table CP-2 and keep CAP_STATUS in step with it. -/
def setWinState (s : State) (w st : Nat) : State :=
  let s := s.put (R.CAP_WINw_STAT_STATE w) st
  let armed := st = 1 ∨ st = 2 ∨ st = 3 ∨ st = 5
  let s := s.put R.CAP_STATUS_ARMED (setBit (s.get R.CAP_STATUS_ARMED) w (decide armed))
  s.put R.CAP_STATUS_DONE (setBit (s.get R.CAP_STATUS_DONE) w (decide (st = 4)))

/-! ### Missed triggers (R328) -/

/-- Count and log a missed trigger, with the window's state at the trigger. -/
def missTrigger (s : State) (w st : Nat) (t : Trig) : State :=
  let x := s.win w
  let i := s.get (R.CAP_WINw_MISS_NEXT w)
  let entry := leBytes 8 (t.fine / 256) ++ leBytes 1 (t.fine % 256) ++ leBytes 1 t.kind ++ leBytes 1 st
    ++ [0] ++ leBytes 4 x.seq
  let s := s.capWrite (winBase s w + winBytes s w - 256 + 16 * i) entry
  let s := s.put (R.CAP_WINw_MISS_NEXT w) ((i + 1) % 16)
  let s := s.bump (R.CAP_WINw_MISS_COUNT w) 1
  s.setWin w { s.win w with missed := x.missed + 1 }

/-! ### Segments (R326, R327) -/

/-- Close the segment after its POST rows: header STATE 2, then REARM or DONE (R327). -/
def segmentClose (s : State) (w : Nat) : State :=
  let s := writeHeader s w 2
  let s := s.bump (R.CAP_WINw_STAT_NDONE w) 1
  let s := s.setWin w { s.win w with rearm := true }
  let segs := 2 ^ s.get (R.CAP_WINw_CFG_NSEGLOG w)
  let more := s.get (R.CAP_WINw_STAT_SEG w) + 1 < segs ∨ s.get (R.CAP_WINw_CFG_WRAP w) = 1
  if s.get (R.CAP_WINw_CFG_AUTO w) = 1 ∧ more then setWinState s w 5 else setWinState s w 4

/-- Close when the POST rows have followed the trigger row. -/
def closeIfDone (s : State) (w : Nat) : State :=
  if s.winState w = 3 ∧ s.get (R.CAP_WINw_POST_N w) ≤ (s.win w).postDone then segmentClose s w else s

/-- Index in the newest-first list of row postmarks of the first row at or before `t`. -/
def rowBack (t : Nat) : List Nat → Nat → Option Nat
  | [], _ => none
  | u :: us, i => if u ≤ t then some i else rowBack t us (i + 1)

/-- Take a trigger on the row `back` rows before the newest one (R325, R326): `next` is the postmark of the row after it. -/
def takeTrigger (s : State) (w : Nat) (t : Trig) (back : Nat) (frac : Nat) : State :=
  let x := s.win w
  let n := max 1 (winN s w)
  let rowsTo := x.rows - back
  let s := s.setWin w { x with
    taken := some t
    frac := frac
    trow := (x.pos + n * (back + 1) - 1 - back) % n
    validPre := min rowsTo (s.get (R.CAP_WINw_PRE_N w))
    postDone := back
    missed := 0
    rearm := true }
  setWinState s w 3

/-- Trigger `a` is judged before `b`: the earlier postmark; at equal postmarks the configured source before FORCE (Table CP-5). -/
def trigFirst (a b : Trig) : Bool :=
  decide (a.fine < b.fine) || (a.fine == b.fine && (a.kind != 15 || b.kind == 15))

/-- Put a trigger in its place among those that wait. -/
def trigInsert (t : Trig) : List Trig → List Trig
  | [] => [t]
  | p :: ps => if trigFirst p t then p :: trigInsert t ps else t :: p :: ps

/-- Offer an edge trigger to a window: in FILLING and ARMED, and an edge in REARM, it waits for the row after it (R325); in POST, in DONE and a
FORCE in REARM it is missed (R328, Table CP-5). -/
def offerTrigger (s : State) (w : Nat) (t : Trig) : State :=
  let x := s.win w
  let st := s.winState w
  if st = 1 ∨ st = 2 ∨ (st = 5 ∧ t.kind ≠ 15) then s.setWin w { x with waits := trigInsert t x.waits }
  else if st = 3 ∨ st = 4 ∨ st = 5 then missTrigger s w st t
  else s

/-- Edge-class triggers of Table CP-3 by kind and index, at a fine postmark. -/
def capEdge (s : State) (kind tid fine : Nat) : State :=
  (List.range 8).foldl (fun s w =>
    if s.get (R.CAP_WINw_TRIG_TKIND w) = kind ∧ s.get (R.CAP_WINw_TRIG_TID w) = tid then
      offerTrigger s w ⟨kind, tid, fine⟩ else s) s

/-- Judge one trigger that waited, before the row of postmark `u`, in a window whose state was `st`: before row 0 of an ARM it is missed in the
re-arm time and otherwise ignored; the first one on a row of the segment is taken (R325); the others are missed (R328). A window whose trigger is
taken is itself a trigger source of kind 5. -/
def placeTrigger (u st : Nat) (s : State) (w : Nat) (t : Trig) : State :=
  let x := s.win w
  let now := s.winState w
  if now = 1 ∨ now = 2 then
    if x.row0 then (if x.rearm then missTrigger s w st t else s)
    else match rowBack (t.fine / 256) x.recent 0 with
      | none => s
      | some b =>
        let ui := x.recent.getD b 0 * 256
        let un := (if b = 0 then u else x.recent.getD (b - 1) 0) * 256
        let s := takeTrigger s w t b (256 * (t.fine - ui) / (un - ui))
        capEdge s 5 w t.fine
  else missTrigger s w st t

/-- The triggers earlier than the row of postmark `u` are judged when that row is written (R325, R328). -/
def placePending (s : State) (w u : Nat) : State :=
  let x := s.win w
  let st := s.winState w
  let (due, rest) := x.waits.partition fun t => decide (t.fine / 256 < u)
  due.foldl (fun s t => placeTrigger u st s w t) (s.setWin w { x with waits := rest })

/-- Triggers that wait in the re-arm time when no further row will come: they are missed. -/
def flushWaits (s : State) (w : Nat) : State :=
  let x := s.win w
  let st := s.winState w
  x.waits.foldl (fun s t => missTrigger s w st t) (s.setWin w { x with waits := [] })

/-- The condition of a data-class trigger (R324). -/
def capCondition (s : State) (w : Nat) (sense : Sparse SenseOut) : Bool :=
  let kind := s.get (R.CAP_WINw_TRIG_TKIND w)
  let tid := s.get (R.CAP_WINw_TRIG_TID w)
  let cond := s.get (R.CAP_WINw_TRIG_COND w)
  let thr := s.get (R.CAP_WINw_THR_THR w)
  let mask := s.get (R.CAP_WINw_TRIG_MASK w)
  if kind = 6 then
    let o := sget SenseOut.none sense tid
    let v := signed 24 (o.code % 16777216)
    let t := signed 24 (thr % 16777216)
    if cond = 0 then decide (t ≤ v) else if cond = 1 then decide (v < t) else o.stat &&& mask != 0
  else if kind = 7 then
    let v := s.wireBits (tid % 8192)
    if cond = 0 then f32le thr v else if cond = 1 then f32lt v thr else s.wireStat (tid % 8192) &&& mask != 0
  else false

/-- Write a row into the ring (R319, R322). -/
def putRow (s : State) (w u : Nat) (sense : Sparse SenseOut) : State :=
  let x := s.win w
  let n := max 1 (winN s w)
  let s := s.capWrite (winSeg s w + 128 + x.pos * winL s w) (rowBytes s w u sense)
  s.setWin w { s.win w with pos := (x.pos + 1) % n, rows := x.rows + 1, recent := (u :: x.recent).take 256, row0 := false }

/-- One row of a window's row clock at postmark `u` (R318, R322 to R327, Table CP-5). -/
def capRow (s : State) (w u : Nat) (sense : Sparse SenseOut) : State :=
  let st0 := s.winState w
  if st0 = 0 ∨ st0 = 4 then s
  else
    let s := closeIfDone (placePending s w u) w
    let s :=
      if s.winState w = 5 then
        let segs := 2 ^ s.get (R.CAP_WINw_CFG_NSEGLOG w)
        let s := s.put (R.CAP_WINw_STAT_SEG w) ((s.get (R.CAP_WINw_STAT_SEG w) + 1) % segs)
        let x := s.win w
        let s := s.setWin w { Win.idle with seq := x.seq + 1, run := x.run, row0 := true, waits := x.waits }
        writeHeader (setWinState s w 1) w 1
      else s
    if s.winState w = 4 then flushWaits s w
    else
      let fresh := (s.win w).row0
      let s := if fresh then s.setWin w { s.win w with rearm := false } else s
      let s := putRow s w u sense
      let s := if s.winState w = 1 ∧ s.get (R.CAP_WINw_PRE_N w) ≤ (s.win w).rows then setWinState s w 2 else s
      let s := if s.winState w = 3 then s.setWin w { s.win w with postDone := (s.win w).postDone + 1 } else s
      let c := capCondition s w sense
      let start := c && (!(s.win w).run || fresh)
      let s := s.setWin w { s.win w with run := c }
      let s := if start then
          let t : Trig := ⟨s.get (R.CAP_WINw_TRIG_TKIND w), s.get (R.CAP_WINw_TRIG_TID w), u * 256⟩
          if s.winState w = 1 ∨ s.winState w = 2 then capEdge (takeTrigger s w t 0 0) 5 w (u * 256)
          else missTrigger s w (s.winState w) t
        else s
      let s := closeIfDone s w
      if s.winState w = 4 then flushWaits s w else s

/-- Frame-clocked rows at the end of frame k (R318). -/
def capFrameRows (s : State) (k fk : Nat) : State :=
  (List.range 8).foldl (fun s w =>
    if s.get (R.CAP_WINw_CFG_CLKK w) = 1 ∧ k % 2 ^ s.get (R.CAP_WINw_CFG_CLK w) = 0 then
      capRow s w fk s.fabric.frameSense else s) s

/-- Channel-clocked rows at an output of channel c that represents postmark u (R318). -/
def capChannelRows (s : State) (c u : Nat) : State :=
  (List.range 8).foldl (fun s w =>
    if s.get (R.CAP_WINw_CFG_CLKK w) = 0 ∧ s.get (R.CAP_WINw_CFG_CLK w) = c then capRow s w u s.sense.latest else s) s

/-! ### ARM, STOP and FORCE (R320 to R323, R330) -/

/-- A window's source code is valid (R318). -/
def srcValid (code : Nat) : Bool :=
  (code / 16384 == 0 && decide (code % 256 ≤ 159) && code % 16384 / 256 == 0)
    || (code / 16384 == 1 && decide (code % 16384 < 8192))

/-- Worst-case write rate W_w in bytes per second, as a fraction (R320). -/
def winRate (s : State) (w : Nat) : Nat × Nat :=
  if s.get (R.CAP_WINw_CFG_CLKK w) = 1 then (winL s w * s.fFrame, 2 ^ s.get (R.CAP_WINw_CFG_CLK w))
  else
    let per := outPeriod s (s.get (R.CAP_WINw_CFG_CLK w))
    if per = 0 then (0, 1) else (winL s w * 1200000000, per)

/-- The load of some windows and the extension exceeds the capture port, exactly (R320, Table CP-1). -/
def portExceeded (s : State) (ws : List Nat) (ext : Nat) : Bool :=
  let (n, d) := ws.foldl (fun a w => let r := winRate s w; (a.1 * r.2 + r.1 * a.2, a.2 * r.2)) (ext, 1)
  decide (2400000000 * d < n)

/-- Two regions share a byte. -/
def regionsMeet (a la b lb : Nat) : Bool :=
  decide (a < b + lb) && decide (b < a + la) && decide (0 < la) && decide (0 < lb)

/-- The refusal code of an ARM, first row of Table CP-1 that holds (R320). -/
def armRefusal (s : State) (w : Nat) : Option Nat :=
  let n := winNsrc s w
  let srcs := (List.range n).map (winSrc s w)
  let frame := s.get (R.CAP_WINw_CFG_CLKK w) = 1
  let clk := s.get (R.CAP_WINw_CFG_CLK w)
  let others := (List.range 8).filter fun v => v != w && s.winState v != 0
  let ext := s.get R.CAP_FRCFG_EXT * 1048576
  let wires := srcs.any fun c => c / 16384 == 1
  if n = 0 ∨ 16 < n ∨ srcs.any (fun c => !srcValid c) ∨ (if frame then 6 < clk else (120 ≤ clk ∨ outPeriod s clk = 0))
      ∨ s.get (R.CAP_WINw_PRE_N w) = 0 then some 1
  else if ¬ frame ∧ srcs.any (fun c => c / 16384 == 1 || decide (120 ≤ c % 256) || !sameTriggers s clk (c % 256)) then some 2
  else if 33554432 < winBase s w + winBytes s w
      ∨ others.any (fun v => regionsMeet (winBase s w) (winBytes s w) (winBase s v) (winBytes s v))
      ∨ (ext ≠ 0 ∧ regionsMeet (winBase s w) (winBytes s w) (33554432 - ext) ext) then some 3
  else if winN s w < s.get (R.CAP_WINw_PRE_N w) + s.get (R.CAP_WINw_POST_N w) then some 4
  else if portExceeded s (w :: others) (if ext = 0 then 0 else 1200000000) then some 5
  else if s.image.isNone ∧ (frame ∨ wires) then some 6
  else none

/-- ARM: refused, without effect outside IDLE and DONE, or the window waits for its next row (R320 to R322, R330). -/
def windowArm (s : State) (w : Nat) : State :=
  let st := s.winState w
  if st = 0 ∨ st = 4 then
    match armRefusal s w with
    | some c => s.put (R.CAP_WINw_STAT_ARMERR w) c
    | none =>
      let rearm := (s.win w).rearm && st == 4
      let s := (s.put (R.CAP_WINw_STAT_ARMERR w) 0).put (R.CAP_WINw_STAT_SEG w) 0
      let s := s.put (R.CAP_WINw_STAT_NDONE w) 0
      let s := s.setWin w { Win.idle with row0 := true, rearm := rearm }
      writeHeader (setWinState s w 1) w 1
  else s

/-- Close the open segment with a STATE and make the window IDLE; triggers that wait in the re-arm time are missed (R328, R330). -/
def windowCut (s : State) (w state : Nat) : State :=
  let st := s.winState w
  let s := if st = 5 ∨ (st = 1 ∧ (s.win w).row0 ∧ (s.win w).rearm) then flushWaits s w else s
  let s := if st = 1 ∨ st = 2 ∨ st = 3 then writeHeader s w state else s
  setWinState (s.setWin w Win.idle) w 0

/-- STOP (R330, Table CP-2). -/
def windowStop (s : State) (w : Nat) : State := windowCut s w 4

/-- FORCE on a window with the postmark of the write (R323, R330). -/
def windowForce (s : State) (w : Nat) : State := offerTrigger s w ⟨15, 0, s.finePostmark⟩

/-- Image activation stops the windows that use a frame clock or a wire source (R330). -/
def capActivation (s : State) : State :=
  (List.range 8).foldl (fun s w =>
    if s.winState w ≠ 0 ∧ (s.get (R.CAP_WINw_CFG_CLKK w) = 1 ∨
        (List.range (winNsrc s w)).any (fun n => winSrc s w n / 16384 == 1)) then windowCut s w 4 else s) s

/-- A PIN, WATCHDOG or HOST reset cuts the open segments (R330). -/
def capReset (s : State) : State :=
  (List.range 8).foldl (fun s w =>
    if s.winState w = 0 ∨ s.winState w = 4 then s else windowCut s w 3) s

/-! ### The flight record memory (R331 to R338) -/

/-- One past the ring's last byte: 8 MiB and the extension (R333). -/
def frRingEnd (s : State) : Nat := 8388608 + s.get R.CAP_FRCFG_EXT * 1048576

/-- Bytes of capture memory as one 8-byte little-endian number. -/
def memWord8 (m : List Host.Cell) (a : Nat) : Nat := memWord m a + memWord m (a + 4) * 2 ^ 32

/-- The 8 bytes of the flight record at an offset; the extension lies at the top of capture memory (R333). -/
def frWord (s : State) (off : Nat) : Nat :=
  if off < 8388608 then sget 0 s.capture.flight (off / 8)
  else memWord8 s.capture.mem (33554432 - s.get R.CAP_FRCFG_EXT * 1048576 + (off - 8388608))

/-- Store 8 bytes of the flight record. -/
def frPut (s : State) (off v : Nat) : State :=
  if off < 8388608 then { s with capture := { s.capture with flight := sset 0 s.capture.flight (off / 8) (v % 2 ^ 64) } }
  else s.capWrite (33554432 - s.get R.CAP_FRCFG_EXT * 1048576 + (off - 8388608)) (leBytes 8 v)

/-- Store bytes from an offset that is a multiple of 8, padded with zeros to a multiple of 8. -/
def frPutBytes (s : State) (off : Nat) (bs : Bytes) : State :=
  (List.range ((bs.length + 7) / 8)).foldl (fun s i => frPut s (off + 8 * i) (leNat ((bs.drop (8 * i)).take 8))) s

/-- The bytes of the flight record from an offset. -/
def frBytes (s : State) (off n : Nat) : Bytes :=
  ((List.range ((n + 7) / 8)).flatMap fun i => leBytes 8 (frWord s (off + 8 * i))).take n

/-- Offsets of the oldest, the newest complete item and the oldest CHECKPOINT into the record header (Table CP-7), and the
frame numbers of CAP_FROLDK and CAP_FRNEWK. -/
def frPointers (s : State) : State :=
  let it := s.capture.items
  let oldest := (it.head?.map (·.off)).getD 0
  let newest := (it.getLast?.map (·.off)).getD 0
  let ckp := it.find? (·.kind == 1)
  let s := frPut s 56 (oldest + newest * 2 ^ 32)
  let s := frPut s 64 ((ckp.map (·.off)).getD 0)
  let s := s.putPair R.CAP_FROLDK_LO_K R.CAP_FROLDK_HI_K ((ckp.map (·.k)).getD 0)
  let newk := ((it.filter (·.kind != 0)).getLast?.map (·.k)).getD 0
  s.putPair R.CAP_FRNEWK_LO_K R.CAP_FRNEWK_HI_K newk

/-- Start the record afresh: an empty ring and a header of the image (R331, Table CP-7). -/
def frEmpty (s : State) : State :=
  let s := { s with capture := { s.capture with
    flight := [], items := [], next := 256, bufFill := 0, bufAt := s.time.elapsed, coder := [], holdCount := none,
    ckpDue := true } }
  let (id, ver, dig, rate) := match s.image with
    | some im => (im.imageId, im.version, im.digest.take 32, im.frate)
    | none => (0, 0, List.replicate 32 0, 0)
  let s := frPutBytes s 0 (leBytes 4 0x544C4642 ++ leBytes 2 1 ++ leBytes 2 (s.get R.NODE_IDENT_NODE) ++ leBytes 4 id
    ++ leBytes 4 ver ++ (dig ++ List.replicate (32 - dig.length) 0) ++ leBytes 4 rate ++ leBytes 4 (frRingEnd s))
  frPointers s

/-- Append one item to the ring, with a PAD item where it would wrap, dropping the items it overwrites (R332). -/
def frAppend (s : State) (kind flags k : Nat) (body : Bytes) : State :=
  let len := (16 + body.length + 7) / 8 * 8
  let e := frRingEnd s
  let off := s.capture.next
  let (s, off) :=
    if off + len ≤ e then (s, off)
    else
      let s := frPutBytes s off (leBytes 1 0 ++ [0] ++ leBytes 2 0 ++ leBytes 4 (e - off) ++ leBytes 8 k)
      ({ s with capture := { s.capture with
          items := (s.capture.items.filter fun i => decide (i.off < off)) ++ [⟨off, e - off, 0, k⟩] } }, 256)
  let s := frPutBytes s off (leBytes 1 kind ++ [0] ++ leBytes 2 flags ++ leBytes 4 len ++ leBytes 8 k ++ body)
  let keep := s.capture.items.filter fun i => decide (i.off + i.len ≤ off) || decide (off + len ≤ i.off)
  let s := { s with capture := { s.capture with items := keep ++ [⟨off, len, kind, k⟩], next := if off + len = e then 256 else off + len } }
  frPointers s

/-- The fill of the 64 KiB buffer after draining at 1.2 × 10⁹ bytes per second (R333). -/
def frBufNow (s : State) : Nat :=
  s.capture.bufFill - (s.time.elapsed - s.capture.bufAt) * 1200000000 / 2 ^ 72

/-- Write a FRAME item, or a GAP item with no body where the buffer is full (R333). -/
def frFrame (s : State) (flags k : Nat) (body : Bytes) : State :=
  let fill := frBufNow s
  let len := (16 + body.length + 7) / 8 * 8
  let s := { s with capture := { s.capture with bufAt := s.time.elapsed } }
  if fill + len ≤ 65536 then
    frAppend { s with capture := { s.capture with bufFill := fill + len } } 2 flags k body
  else
    (frAppend { s with capture := { s.capture with bufFill := fill } } 3 flags k []).bump R.CAP_FRSTAT_GAPS 1

/-! ### Holding the record (R337) -/

/-- HOLD is set: no items are written. -/
def frHold (s : State) (cause : Nat) : State :=
  let s := (s.put R.CAP_FRCFG_HOLD 1).put R.CAP_FRSTAT_HCAUSE cause
  let s := s.put R.CAP_FRSTAT_REC 0
  { s with capture := { s.capture with holdCount := none } }

/-- HOLD is cleared by a write: the record is emptied and starts with a CHECKPOINT at the next frame (R331, R337). -/
def frRelease (s : State) : State :=
  let s := (s.put R.CAP_FRCFG_HOLD 0).put R.CAP_FRSTAT_HCAUSE 0
  let s := frEmpty s
  s.put R.CAP_FRSTAT_REC (if s.image.isSome then 1 else 0)

/-- A hold cause of R337: bit 0 fabric fault, 1 bridge trip, 2 LOCKOUT, 3 RECOVERY. A further cause during the count of
POSTFR frames does not restart it. -/
def holdCause (s : State) (bit : Nat) : State :=
  if s.get R.CAP_FRCFG_HOLD = 0 ∧ (s.get R.CAP_FRCFG_AUTOHOLD).testBit bit ∧ s.capture.holdCount.isNone then
    { s with capture := { s.capture with holdCount := some (s.get R.CAP_FRCFG_POSTFR, bit) } }
  else s

/-- POSTFR frames after the cause, recording stops (R337). -/
def autoholdStop (s : State) : State :=
  match s.capture.holdCount with
  | some (0, bit) => frHold s (2 ^ bit)
  | _ => s

/-- One more frame recorded after a hold cause. -/
def holdTick (s : State) : State :=
  match s.capture.holdCount with
  | some (n + 1, bit) => { s with capture := { s.capture with holdCount := some (n, bit) } }
  | _ => s

end Sys2Proof.Machine
end

