-- ==== Sys2Proof/Machine/Legs.lean ====
section
/-!
DEFINITION. Legs: timer channels, edges, minimum pulse, staged, pending and active values, force, and what takes the gates to
safe levels (spec/08_legs.md). Trips are in Machine/Trips.lean.
-/
namespace Sys2Proof.Machine

/-! ### Instants (R204, R205) -/

/-- Taps in one second: 64 for each of 1.2 × 10⁹ carrier ticks. -/
def tapsPerSecond : Nat := 76800000000

/-- The fine postmark of a point `taps` taps after the fine postmark `z` (R205). -/
def tapPoint (z taps : Nat) : Nat := z + taps * 2 ^ 40 / tapsPerSecond

/-- Taps from the fine postmark `z` to the fine postmark `t`, rounded down; 0 before `z`. -/
def tapsSince (z t : Nat) : Nat := (t - z) * tapsPerSecond / 2 ^ 40

/-- The hidden part of leg n. -/
def State.leg (s : State) (n : Nat) : Leg := sget Leg.idle s.legs n
/-- Set the hidden part of leg n. -/
def State.setLeg (s : State) (n : Nat) (l : Leg) : State := { s with legs := sset Leg.idle s.legs n l }

/-- Taps from the leg's anchor to the present instant. -/
def legNow (s : State) (n : Nat) : Nat := tapsSince (s.leg n).anchor s.finePostmark

/-- h = ⌊P′/2⌋ (Table LG-1). -/
def Leg.h (l : Leg) : Nat := l.per / 2

/-- The leg's bridge. -/
def legBridge (s : State) (n : Nat) : Nat := s.get (R.LEGn_CFG_BRIDGE n)

/-- CFORM of the leg's bridge: true for a sawtooth carrier. -/
def legSaw (s : State) (n : Nat) : Bool := s.get (R.BRIDGE_CFG_CFORM (legBridge s n)) == 1

/-- RELOAD of the leg's bridge. -/
def legReload (s : State) (n : Nat) : Nat := s.get (R.BRIDGE_CFG_RELOAD (legBridge s n))

/-! ### Modes and levels -/

/-- The present mode code. -/
def State.mode (s : State) : Nat := s.get R.NODE_MODE_MODE

/-- Legs may switch: COMMISSION, ENERGIZE, SERVICE (Table MD-1), and STANDBY until the image's stop ramp ends (R69). A test of
kind FULL or CAL holds them (R79). -/
def State.switching (s : State) : Bool :=
  (s.mode == 2 || s.mode == 3 || s.mode == 4 || s.hidden.stopRamp.isSome) && !s.hidden.testHolds

/-- STO removes the gate enable (R377, R378). -/
def State.stoOn (s : State) : Bool :=
  s.get R.SAF_STATUS_STOA == 1 || s.get R.SAF_STATUS_STOB == 1 || s.get R.SAF_STATUS_ISTO == 1

/-- A leg of a SPARE bridge (R21). -/
def legSpare (s : State) (n : Nat) : Bool := s.get (R.BRIDGE_CFG_ROLE (legBridge s n)) == 0

/-- The mode in force at an order postmark: before the first transition after it (R240). -/
def modeAt (s : State) (order : Nat) : Nat :=
  match (s.hidden.modeLog.filter fun e => decide (order < e.1)).getLast? with
  | some e => e.2
  | none => s.mode

/-- The levels the gates are held at: both low in BOOT and LOCKOUT, under STO, with no image and of an unassigned leg, else the image's safe
levels (R18, R74, R250). -/
def holdLevels (s : State) (n : Nat) : Bool × Bool :=
  if s.stoOn ∨ s.mode = 0 ∨ s.mode = 7 ∨ s.image.isNone ∨ s.get (R.LEGn_CFG_ASSIGNED n) = 0 then (false, false)
  else ((s.get (R.LEGn_CFG_SAFE n)).testBit 0, (s.get (R.LEGn_CFG_SAFE n)).testBit 1)

/-- A cause of R220 that holds the leg now: the mode, STO, a latch, a bridge trip, or a safe set. -/
def heldCause (s : State) (n : Nat) : Bool :=
  !s.switching || s.stoOn || legSpare s n || (s.get (R.NODE_LTRIPm_LEG (n / 32))).testBit (n % 32)
    || (s.get R.NODE_BTRIP_BRIDGE).testBit (legBridge s n) || (s.leg n).safeMark

/-! ### Commanded levels and edges (R211, R222) -/

/-- Level of a gate at `x` taps: the planned edges up to `x` over the level before them. -/
def levelAt (base : Bool) (gh : Bool) (x : Nat) (plan : List GateEdge) : Bool :=
  plan.foldl (fun l e => if e.gh == gh && decide (e.at_ ≤ x) then e.level else l) base

/-- The gates (GH, GL) of leg n at `x` taps. -/
def gatesAt (l : Leg) (x : Nat) : Bool × Bool := (levelAt l.gh true x l.plan, levelAt l.gl false x l.plan)

/-- Fold the edges up to `x` into the levels, and note the latest of them. A readback mismatch ends where its gate is commanded to the level of the
ball (R223). -/
def settle (l : Leg) (x : Nat) : Leg :=
  let g := gatesAt l x
  let past := l.plan.filter fun e => decide (e.at_ ≤ x)
  { l with
    gh := g.1, gl := g.2, plan := l.plan.filter fun e => !decide (e.at_ ≤ x)
    rb := l.rb.filter fun r => !past.any fun e => e.gh == r.1 && e.level == r.2
    lastEdge := match past.getLast? with
    | some e => some e.at_
    | none => l.lastEdge }

/-- Drop what was planned after `x`. -/
def unplan (l : Leg) (x : Nat) : Leg := { settle l x with plan := [] }

/-- Take the gates to levels at `x`: a gate that goes low falls at `x`; one that goes high rises its dead time later if the
other gate was high before, at `x` otherwise (R222). -/
def driveTo (l : Leg) (x : Nat) (lv : Bool × Bool) (dtRise dtFall : Nat) : Leg :=
  let l := unplan l x
  let es :=
    (if l.gh && !lv.1 then [⟨x, true, false⟩] else []) ++ (if l.gl && !lv.2 then [⟨x, false, false⟩] else [])
    ++ (if !l.gh && lv.1 then [⟨if l.gl then x + 64 * dtRise else x, true, true⟩] else [])
    ++ (if !l.gl && lv.2 then [⟨if l.gh then x + 64 * dtFall else x, false, true⟩] else [])
  settle { l with plan := es } x

/-- DT_RISE of leg n in ticks. -/
def dtRise (s : State) (n : Nat) : Nat := s.get (R.LEGn_DT_RISE n)
/-- DT_FALL of leg n in ticks. -/
def dtFall (s : State) (n : Nat) : Nat := s.get (R.LEGn_DT_FALL n)

/-- The debt d in signed taps. -/
def legDebt (s : State) (n : Nat) : Int := signed 32 (s.get (R.LEGn_DEBT_D n))

/-- Store the debt and its largest magnitude (Table LG-12). -/
def setDebt (s : State) (n : Nat) (d : Int) : State :=
  let s := s.put (R.LEGn_DEBT_D n) (unsigned 32 d)
  s.event (R.LEGn_DEBTMAX_D n) (max d.natAbs)

/-- Stop pulse generation of leg n and take its gates to levels now. -/
def legStop (s : State) (n : Nat) (lv : Bool × Bool) : State :=
  let x := legNow s n
  s.setLeg n { driveTo (s.leg n) x lv (dtRise s n) (dtFall s n) with gen := false }

/-- Hold leg n: safe levels, HELD, d = 0, no pulse (R220). -/
def legHold (s : State) (n : Nat) : State :=
  let s := legStop s n (holdLevels s n)
  setDebt ((s.put (R.LEGn_STATUS_HELD n) 1).setLeg n { s.leg n with cut := false }) n 0

/-- The assigned legs of a bridge. -/
def bridgeLegs (s : State) (b : Nat) : List Nat :=
  (List.range 96).filter fun n => s.get (R.LEGn_CFG_ASSIGNED n) == 1 && legBridge s n == b

/-- All legs the active image assigns. -/
def assignedLegs (s : State) : List Nat := (List.range 96).filter fun n => s.get (R.LEGn_CFG_ASSIGNED n) == 1

/-- Hold every assigned leg: the mode, STO or a reinitialisation takes the outputs to safe levels (R74, R220). -/
def holdAll (s : State) : State := (assignedLegs s).foldl legHold s

/-- Legs that stay held when a control above them ends go to the levels of the highest one left: their safe levels when STO is released (Table TP-3). -/
def holdAgain (s : State) : State :=
  (assignedLegs s).foldl (fun s n => if s.get (R.LEGn_STATUS_HELD n) = 1 then legStop s n (holdLevels s n) else s) s

/-! ### From duty to edges (R209, R213) -/

/-- T = ⌊(DUTY × 64 × P′ + 2³⁰) / 2³¹⌋ taps (R209). -/
def onTime (duty per : Nat) : Nat := (duty * 64 * per + 2 ^ 30) / 2 ^ 31

/-- R of an up-down period, in taps from its zero (R209). -/
def riseAt (duty per : Nat) : Nat := 64 * (per / 2) - (onTime duty per + 1) / 2

/-- F of an up-down period, in taps from its zero (R209). -/
def fallAt (duty per : Nat) : Nat := min (64 * per) (64 * (per / 2) + onTime duty per / 2)

/-- Where an interval of level `lv` that opens with `duty` in the period at zero `z` (taps) would close with the same DUTY
(R213). -/
def closeEst (saw : Bool) (lv : Bool) (duty z per next : Nat) : Nat :=
  if saw then (if lv then z + onTime duty per else z + 64 * per)
  else if lv then z + fallAt duty per
  else z + 64 * per + riseAt duty next

/-- A and B of R212, in taps: the least width of an interval. -/
def minWidth (s : State) (n : Nat) (lv : Bool) : Nat :=
  let m := max (s.get (R.LEGn_MINP_MIN n)) 2
  64 * ((if lv then dtRise s n else dtFall s n) + m)

/-- The decision at an opening edge (R213): is an interval of estimated width `west` kept? -/
def keepInterval (policy : Nat) (west : Int) (sg d : Int) (a : Int) : Bool :=
  let w := west + sg * d
  if west ≤ 0 then false
  else if policy = 0 then decide (a ≤ w)
  else if policy = 1 then decide (0 < w)
  else decide (a ≤ 2 * w)

/-- Place the gate edges of one edge of s at `x` taps (Table LG-2): a delayed rise that s overtakes is not placed. -/
def placeEdge (l : Leg) (x : Nat) (rise : Bool) (dtr dtf : Nat) : Leg :=
  let p := l.plan.filter fun e => !(e.level && decide (x < e.at_))
  if rise then { l with plan := p ++ [⟨x, false, false⟩, ⟨x + 64 * dtr, true, true⟩] }
  else { l with plan := p ++ [⟨x, true, false⟩, ⟨x + 64 * dtf, false, true⟩] }

/-- Open an interval of level `lv` at `x` whose closing edge is estimated at `xc`: it is kept and its opening edge placed, or
dropped and nothing placed (R213). -/
def openInterval (s : State) (n : Nat) (lv : Bool) (x xc : Nat) : State :=
  let sg : Int := if lv then 1 else -1
  let k := keepInterval (s.get (R.LEGn_CFG_POLICY n)) ((xc : Int) - x) sg (legDebt s n) (minWidth s n lv)
  let l := { s.leg n with lv := lv, x0 := x, kind := if k then .kept else .dropped }
  s.setLeg n (if k then placeEdge l x lv (dtRise s n) (dtFall s n) else l)

/-- The debt after a closing edge under CARRY, clamped at dmax (R213, R214). -/
def carryDebt (s : State) (n : Nat) (v : Int) : State :=
  let dmax : Int := max (minWidth s n true) (minWidth s n false)
  let c := min (max v (-dmax)) dmax
  let s := if c = v then s else s.mark (R.LEGn_STATUS_DSAT n) 1
  setDebt s n c

/-- An edge of s from level `¬ lv` to `lv` falls at `x1` taps: the interval in progress closes, and the next one opens with its
own closing edge estimated by `est` from where it opens (R213). -/
def sEdge (s : State) (n : Nat) (lv : Bool) (x1 : Nat) (xcNext : Nat) : State :=
  let l := s.leg n
  if l.lv = lv then s
  else
    let a := minWidth s n l.lv
    let sg : Int := if l.lv then 1 else -1
    let carry := s.get (R.LEGn_CFG_POLICY n) = 2
    match l.kind with
    | .merged => openInterval s n lv x1 xcNext
    | .dropped =>
      let w := ((x1 : Int) - l.x0) + sg * legDebt s n
      let s := if l.x0 < x1 ∧ x1 - l.x0 < a then s.bump (R.LEGn_CNT_SHORT n) 1 else s
      let s := if carry then carryDebt s n (sg * w) else s
      s.setLeg n { s.leg n with lv := lv, x0 := x1, kind := .merged }
    | .kept =>
      let w := ((x1 : Int) - l.x0) + sg * legDebt s n
      let s := if l.x0 < x1 ∧ x1 - l.x0 < a then s.bump (R.LEGn_CNT_SHORT n) 1 else s
      let wout := max w (a : Int)
      let s := if carry then carryDebt s n (sg * (w - wout)) else s
      openInterval s n lv (l.x0 + wout.toNat) xcNext

/-- Begin pulse generation at `x` taps with s at level `lv` there (R220, R222, R241): the gate to rise waits its dead time if
the other gate is high. The interval in which generation starts is checked like any other, from the start point to the closing edge estimated at
`xc`; dropped, it gives the gates to the interval that follows it (R212, R213, log entry 147). -/
def genStart (s : State) (n : Nat) (x : Nat) (lv : Bool) (xc : Nat) : State :=
  let sg : Int := if lv then 1 else -1
  let k := keepInterval (s.get (R.LEGn_CFG_POLICY n)) ((xc : Int) - x) sg (legDebt s n) (minWidth s n lv)
  let l := driveTo (s.leg n) x (lv == k, lv != k) (dtRise s n) (dtFall s n)
  s.setLeg n { l with gen := true, cut := false, lv := lv, x0 := x, kind := if k then .kept else .dropped }

/-- Pulse generation may run: not held, not cut, no force code in effect (Table TP-3). -/
def mayGenerate (s : State) (n : Nat) : Bool :=
  s.get (R.LEGn_STATUS_HELD n) == 0 && !(s.leg n).cut && s.get (R.LEGn_STATUS_FCODE n) == 0

/-- Place the edges of the half-period that begins at `x` taps (the zero, or the peak of an up-down carrier) with the active
DUTY (R209, R213). -/
def placeHalf (s : State) (n : Nat) (peak : Bool) : State :=
  let l := s.leg n
  let duty := s.get (R.LEGn_DUTY_ACT_DUTY n)
  let next := s.get (R.LEGn_PERIOD_ACT_PERIOD n)
  let z := 64 * l.zero
  let t := onTime duty l.per
  if legSaw s n then
    if peak then s
    else
      let s := if mayGenerate s n && !l.gen then genStart s n z (decide (0 < t)) (closeEst true (decide (0 < t)) duty z l.per next) else s
      if !(s.leg n).gen then s
      else
        let s := if 0 < t then sEdge s n true z (closeEst true true duty z l.per next) else sEdge s n false z (z + 64 * l.per)
        if 0 < t ∧ t < 64 * l.per then sEdge s n false (z + t) (closeEst true false duty z l.per next) else s
  else if peak then
    let x := z + 64 * l.h
    let s := if mayGenerate s n && !l.gen then genStart s n x (decide (0 < t)) (closeEst false (decide (0 < t)) duty z l.per next) else s
    if !(s.leg n).gen then s
    else sEdge s n false (z + fallAt duty l.per) (closeEst false false duty z l.per next)
  else
    let lv : Bool := decide (riseAt duty l.per = 0 ∧ 0 < t)
    let s := if mayGenerate s n && !l.gen then
        genStart s n z lv (if lv then z + fallAt duty l.per else z + riseAt duty l.per) else s
    if !(s.leg n).gen then s
    else sEdge s n true (z + riseAt duty l.per) (closeEst false true duty z l.per next)

/-! ### Staged, pending and active values (R215 to R219) -/

/-- Store a staged PERIOD at the nearer bound and note an adjustment (R219). -/
def stagePeriod (s : State) (n v : Nat) : State :=
  let c := min 1200000 (max 2400 v)
  let s := if c = v then s else s.mark (R.LEGn_STATUS_PCLAMP n) 1
  s.put (R.LEGn_PERIOD_PERIOD n) c

/-- Store a staged PHASE modulo the staged PERIOD (R219). -/
def stagePhase (s : State) (n v : Nat) : State :=
  let p := s.get (R.LEGn_PERIOD_PERIOD n)
  let c := if p = 0 then v else v % p
  let s := if c = v then s else s.mark (R.LEGn_STATUS_PCLAMP n) 1
  s.put (R.LEGn_PHASE_PHASE n) c

/-- Store a staged DUTY, at most 1.0 (R208). -/
def stageDuty (s : State) (n v : Nat) : State :=
  let c := min 0x80000000 v
  let s := if c = v then s else s.mark (R.LEGn_STATUS_PCLAMP n) 1
  s.put (R.LEGn_DUTY_DUTY n) c

/-- The next point of leg n's carrier is a peak. -/
def nextIsPeak (s : State) (n : Nat) : Bool := !legSaw s n && !(s.leg n).down

/-- The next point of leg n's carrier, in carrier ticks from its anchor: the peak of the present period or the next zero. -/
def nextPoint (s : State) (n : Nat) : Nat :=
  let l := s.leg n
  if nextIsPeak s n then l.zero + l.h else l.zero + l.per

/-- A point of the carrier is a reload point (Table LG-1). -/
def reloads (s : State) (n : Nat) (peak : Bool) : Bool :=
  if peak then legReload s n != 0 else legSaw s n || legReload s n != 1

/-- A commit at `c` acts at a reload at `z` taps: c ≤ Z − τ, τ one carrier tick (R217). -/
def commitActs (l : Leg) (c zTaps : Nat) : Bool := decide (c ≤ tapPoint l.anchor (zTaps - 64)) && decide (64 ≤ zTaps)

/-- The next point is that of commit `a` but comes too soon for commit `c`: what was committed at `a` still acts there (R217). -/
def waitsBehind (s : State) (n : Nat) (here : Bool) (a c : Nat) : Bool :=
  here && commitActs (s.leg n) a (64 * nextPoint s n) && !commitActs (s.leg n) c (64 * nextPoint s n)

/-- Copy the staged set of one leg into its pending set at commit instant `c` (R215). It replaces the set that waits, unless that one acts at a reload
this one comes too late for: then it waits behind it (R217). -/
def loadLeg (s : State) (n c : Nat) (safe : Bool) : State :=
  if s.switching then
    let l := s.leg n
    let p : PendSet := { duty := s.get (R.LEGn_DUTY_DUTY n), phase := s.get (R.LEGn_PHASE_PHASE n),
                         period := s.get (R.LEGn_PERIOD_PERIOD n), safe := safe, commit := c }
    let keepD := l.pend.any fun q => waitsBehind s n (reloads s n (nextIsPeak s n)) q.commit c
    let keepP := l.pendPP.any fun q => waitsBehind s n (!nextIsPeak s n) q.commit c
    let l' := { l with
      pend := if keepD then l.pend else some p, pendNext := if keepD then some p else none
      pendPP := if keepP then l.pendPP else some p, pendPPNext := if keepP then some p else none }
    let lost := (l.pend.isSome && !keepD) || l.pendNext.isSome || (l.pendPP.isSome && !keepP) || l.pendPPNext.isSome
    (if lost then s.bump (R.LEGn_CNT_SUPER n) 1 else s).setLeg n l'
  else s

/-- A load-all of one bridge at commit instant `c` (R215, R232). -/
def loadBridge (s : State) (b c : Nat) : State :=
  (bridgeLegs s b).foldl (fun s n => loadLeg s n c false) s

/-- A BRIDGE_LOAD.LOAD write: no effect on a fabric-sourced bridge, which sets HOSTW (R216, R232). -/
def bridgeLoad (s : State) (b : Nat) : State :=
  if s.get (R.BRIDGE_CTRL_SRC b) = 1 then loadBridge s b s.finePostmark else s.mark (R.BRIDGE_STATUS_HOSTW b) 1

/-- A BRIDGE_LOAD.ALL write: every bridge with SRC = 1 (R232). -/
def globalLoad (s : State) : State :=
  (List.range 16).foldl (fun s b => if s.get (R.BRIDGE_CTRL_SRC b) = 1 then loadBridge s b s.finePostmark else s) s

/-- The levels of a force code (Table LG-6). -/
def forceLevels (s : State) (n code : Nat) : Bool × Bool :=
  if code = 1 then (false, false) else if code = 2 then (true, false) else if code = 3 then (false, true) else holdLevels s n

/-- The gates follow the force code in effect where nothing ranks above it (Table TP-3): no hold and no cut. -/
def forceDrive (s : State) (n x : Nat) : State :=
  let code := s.get (R.LEGn_STATUS_FCODE n)
  if code = 0 ∨ s.get (R.LEGn_STATUS_HELD n) = 1 ∨ (s.leg n).cut then s
  else s.setLeg n { driveTo (s.leg n) x (forceLevels s n code) (dtRise s n) (dtFall s n) with gen := false }

/-- DUTY transfers at a reload (R218), and HELD clears when every cause has ended (R220); then a force code in effect takes the gates (R226). -/
def dutyTransfer (s : State) (n x : Nat) : State :=
  let l := s.leg n
  match l.pend with
  | none => s
  | some p =>
    if commitActs l p.commit x then
      let s := s.put (R.LEGn_DUTY_ACT_DUTY n) p.duty
      let s := s.setLeg n { l with pend := l.pendNext, pendNext := none, safeMark := p.safe }
      if p.safe then (if s.get (R.LEGn_STATUS_HELD n) = 0 then legHold s n else s)
      else if heldCause s n ∨ s.get (R.LEGn_STATUS_HELD n) = 0 then s
      else forceDrive (s.put (R.LEGn_STATUS_HELD n) 0) n x
    else s

/-- PERIOD and PHASE transfer at a count zero, and the period that begins takes P′ = PERIOD_new + Δ (R218, R219). -/
def periodTransfer (s : State) (n x : Nat) : State :=
  let l := s.leg n
  match l.pendPP with
  | none => s.setLeg n { l with per := s.get (R.LEGn_PERIOD_ACT_PERIOD n) }
  | some p =>
    if commitActs l p.commit x then
      let old := s.get (R.LEGn_PHASE_ACT_PHASE n)
      let m := (p.phase + (old / p.period + 1) * p.period - old) % p.period
      let per := if p.period / 2 < m then m else p.period + m
      let s := (s.put (R.LEGn_PERIOD_ACT_PERIOD n) p.period).put (R.LEGn_PHASE_ACT_PHASE n) p.phase
      s.setLeg n { s.leg n with pendPP := (s.leg n).pendPPNext, pendPPNext := none, per := per }
    else s.setLeg n { l with per := s.get (R.LEGn_PERIOD_ACT_PERIOD n) }

/-! ### Force (R221, R222) -/

/-- A force code waiting for the reload takes effect (R221, R222); what ranks above it keeps the gates (Table TP-3). -/
def forceTakes (s : State) (n x : Nat) : State :=
  let l := s.leg n
  match l.force with
  | none => s
  | some (code, c) =>
    if commitActs l c x then
      let s := (s.setLeg n { l with force := l.forceNext, forceNext := none }).put (R.LEGn_STATUS_FCODE n) code
      if code = 0 then s else forceDrive (setDebt s n 0) n x
    else s

/-- A write of LEGn_FORCE.CODE (R221, R222). -/
def forceWrite (s : State) (n code : Nat) : State :=
  if 5 ≤ code then s
  else if (code = 2 ∨ code = 3) ∧ s.mode ≠ 2 then s.mark (R.LEGn_STATUS_FREFUSED n) 1
  else
    let l := s.leg n
    let c := s.finePostmark
    let keep := l.force.any fun q => waitsBehind s n (reloads s n (nextIsPeak s n)) q.2 c
    (s.put (R.LEGn_FORCE_CODE n) code).setLeg n
      { l with force := if keep then l.force else some (code, c), forceNext := if keep then some (code, c) else none }

/-- A change of twin role takes effect at the leg's first reload after it commits (R225). -/
def driveTakes (s : State) (n x : Nat) : State :=
  let l := s.leg n
  match l.drive with
  | none => s
  | some (m, c) => if commitActs l c x then (s.setLeg n { l with drive := none }).put (R.LEGn_STATUS_DRIVE n) m else s

/-! ### Mode transitions at the legs -/

/-- Every mode transition sets force codes to 0, SRC to 0 and discards the pending sets of host-sourced bridges (R216, R222). -/
def legsModeChange (s : State) : State :=
  let s := (List.range 96).foldl (fun s n =>
    let host := s.get (R.LEGn_CFG_ASSIGNED n) = 1 ∧ s.get (R.BRIDGE_CTRL_SRC (legBridge s n)) = 1
    let l := s.leg n
    let l := { l with force := none, forceNext := none }
    let l := if host then { l with pend := none, pendNext := none, pendPP := none, pendPPNext := none } else l
    ((s.put (R.LEGn_FORCE_CODE n) 0).put (R.LEGn_STATUS_FCODE n) 0).setLeg n l) s
  (List.range 16).foldl (fun s b => s.put (R.BRIDGE_CTRL_SRC b) 0) s

end Sys2Proof.Machine
end

