-- ==== Sys2Proof/Machine/Snapshots.lean ====
section
/-!
DEFINITION. Urgent snapshots: requests, the outputs that serve them, merging and posting (spec/10_sensing.md R279, R280).
-/
namespace Sys2Proof.Machine

/-- The paths whose SNAPB mask names bridge b; 31 takes every path with any bit set (R279). -/
def snapPaths (s : State) (b : Nat) : List Nat :=
  match s.image with
  | none => []
  | some im => (im.paths.filter fun p => if b = 31 then p.snapb != 0 else p.snapb.testBit b).map (·.chan)

/-- Two requests are served by the same outputs of a path: no trigger lies between their postmarks. -/
def sameTrigger (s : State) (p a b : Nat) : Bool := firstTrigger s p a == firstTrigger s p b

/-- A request can be merged into a waiting snapshot: every output that would serve it is one of those the snapshot has taken or waits for, and the
snapshot lists fewer than 8 requests (R280, Table SO-6). -/
def snapMerges (s : State) (paths : List Nat) (pm : Nat) (x : Snapshot) : Bool :=
  decide (x.reqs.length < 8) &&
    (match x.reqs with
     | (_, _, q) :: _ => paths.all fun p => (x.todo.contains p || x.got.any (·.1 == p)) && sameTrigger s p q pm
     | [] => false)

/-- The output of path p that was delivered for the first trigger not before a postmark, where that trigger has passed (R279). -/
def servedAlready (s : State) (p pm : Nat) : Option SenseOut :=
  (firstTrigger s p pm).bind fun t => (s.path p).recent.find? (·.trig == t)

/-- The record of one channel in a snapshot. -/
def snapRecord (p : Nat) (o : SenseOut) : Nat × Nat × Nat × Nat := (p, o.stat, o.code, o.rep)

/-- A snapshot as its request finds it: outputs already delivered for its triggers serve it at once (R279). -/
def snapNew (s : State) (paths : List Nat) (r : Nat × Nat × Nat) : Snapshot :=
  { reqs := [r], todo := paths.filter fun p => (servedAlready s p r.2.2).isNone
    got := paths.filterMap fun p => (servedAlready s p r.2.2).map (snapRecord p) }

/-- Merge a request into the first snapshot that can take it. -/
def snapMerge (s : State) (paths : List Nat) (r : Nat × Nat × Nat) : List Snapshot → Option (List Snapshot)
  | [] => none
  | x :: xs =>
    if snapMerges s paths r.2.2 x then some ({ x with reqs := x.reqs ++ [r] } :: xs)
    else (snapMerge s paths r xs).map (x :: ·)

/-- Snapshots waiting, into SN_SNAPSTAT.PEND. -/
def snapPend (s : State) : State := s.put R.SN_SNAPSTAT_PEND (min 4 s.sense.snaps.length)

/-- A snapshot request for a bridge: merged, taken, or dropped as the fifth (R280). `src` is 0 leg trip, 1 bridge trip,
2 host; `id` the leg, bridge or BRIDGE value. -/
def snapTake (s : State) (src id b pm : Nat) : State :=
  let paths := snapPaths s b
  if paths = [] then s
  else match snapMerge s paths (src, id, pm) s.sense.snaps with
    | some l => { s with sense := { s.sense with snaps := l } }
    | none =>
      if 4 ≤ s.sense.snaps.length then s.bump R.SN_SNAPSTAT_DROP 1
      else snapPend { s with sense := { s.sense with
        snaps := s.sense.snaps ++ [snapNew s paths (src, id, pm)] } }

/-- A snapshot request of a trip: leg n (0) takes its bridge's paths, bridge b (1) its own (R279). -/
def snapRequest (s : State) (src id pm : Nat) : State :=
  if src = 0 then
    (if s.get (R.LEGn_CFG_ASSIGNED id) = 1 then snapTake s 0 id (s.get (R.LEGn_CFG_BRIDGE id)) pm else s)
  else snapTake s src id id pm

/-- An output of path p at trigger `trig` serves the waiting snapshots whose request is not later (R279, R286). -/
def snapServe (s : State) (p : Nat) (o : SenseOut) : State :=
  { s with sense := { s.sense with snaps := s.sense.snaps.map fun x =>
      match x.reqs with
      | (_, _, q) :: _ =>
        if x.todo.contains p ∧ q ≤ o.trig then
          { x with todo := x.todo.filter (· != p), got := x.got ++ [snapRecord p o] }
        else x
      | [] => x } }

/-- The body of a SNAPSHOT envelope (Table SO-6): the channels in ascending order. -/
def snapBody (x : Snapshot) : Bytes :=
  leBytes 1 x.reqs.length ++ leBytes 1 x.got.length ++ [0, 0]
    ++ x.reqs.flatMap (fun r => leBytes 1 r.1 ++ leBytes 1 r.2.1 ++ List.replicate 6 0 ++ leBytes 8 r.2.2)
    ++ (List.range 120).flatMap fun c => (x.got.filter (·.1 == c)).flatMap fun g =>
      leBytes 1 g.1 ++ leBytes 1 g.2.1 ++ [0, 0] ++ leBytes 4 (unsigned 32 (signed 24 (g.2.2.1 % 16777216))) ++ leBytes 8 g.2.2.2

/-- Post the first snapshot whose last channel has been served, to SNAP_PH and SNAP_FLOW (R280, R297). -/
def snapPost (s : State) : State :=
  match s.sense.snaps.find? (fun x => x.todo.isEmpty) with
  | none => s
  | some x =>
    let (ph, fl) := match s.image with
      | some im => (im.snapPh, im.snapFlow)
      | none => (0, 0)
    let s := snapPend { s with sense := { s.sense with snaps := s.sense.snaps.filter fun y => y != x } }
    let pm := (x.reqs.head?.map (·.2.2)).getD 0
    (postHw s 0x15 ph fl pm 3 0 (snapBody x)).bump R.SN_SNAPSTAT_DONE 1

end Sys2Proof.Machine
end

