-- ==== Sys2Proof/Machine/Trips.lean ====
section
/-!
DEFINITION. Trips: leg trips by mode, escalation, bridge trips and their records, blanking, clearing, the window comparators
(spec/09_trips.md).
-/
namespace Sys2Proof.Machine

/-- The trips of bridge b. -/
def State.btrips (s : State) (b : Nat) : BridgeTrips := sget BridgeTrips.none s.trips.bridges b
/-- Set the trips of bridge b. -/
def State.setBtrips (s : State) (b : Nat) (x : BridgeTrips) : State :=
  { s with trips := { s.trips with bridges := sset BridgeTrips.none s.trips.bridges b x } }

/-- Bit b of NODE_BTRIP. -/
def bridgeLatched (s : State) (b : Nat) : Bool := (s.get R.NODE_BTRIP_BRIDGE).testBit b

/-- NODE_TRIPSTAT.ANY follows the latches (Table TP-10). -/
def tripAny (s : State) : State :=
  let any := s.get (R.NODE_LTRIPm_LEG 0) ≠ 0 ∨ s.get (R.NODE_LTRIPm_LEG 1) ≠ 0 ∨ s.get (R.NODE_LTRIPm_LEG 2) ≠ 0
    ∨ s.get R.NODE_BTRIP_BRIDGE ≠ 0
  s.put R.NODE_TRIPSTAT_ANY (if any then 1 else 0)

/-! ### Bridge trips (R245, R252) -/

/-- The record of a bridge trip, most significant first: FIRST, LAST and NCAUSE of NODE_BCAUSEb (Table TP-10). -/
def writeBcause (s : State) (b : Nat) (causes : List (Nat × Nat)) : State :=
  let s := s.put (R.NODE_BCAUSEb_FIRST b) ((causes.head?.map (·.1)).getD 0)
  let s := s.put (R.NODE_BCAUSEb_LAST b) (causes.foldl (fun m c => max m c.1) 0)
  s.put (R.NODE_BCAUSEb_NCAUSE b) (min 255 causes.length)

/-- Put a cause into a record in order of order postmark. -/
def insertCause (c : Nat × Nat) : List (Nat × Nat) → List (Nat × Nat)
  | [] => [c]
  | d :: ds => if c.2 < d.2 then c :: d :: ds else d :: insertCause c ds

/-- Post the envelope of a bridge trip record: it carries all its causes (R252, Table SO-6). -/
def postBridgeTrip (s : State) (b : Nat) : State :=
  let x := s.btrips b
  match x.record with
  | none => s
  | some (_, cs) =>
    let n := cs.length
    let pad := (4 - n % 4) % 4
    let body := leBytes 1 b ++ leBytes 1 n ++ leBytes 1 x.mode ++ [0] ++ cs.flatMap (fun c => leBytes 1 c.1)
      ++ List.replicate pad 0
    let pm := (cs.head?.map (·.2)).getD 0
    postHw (s.setBtrips b { x with record := none }) 0x13 0 1023 (pm / 256) 1 0 body

/-- The envelopes of the bridge trip records of frames before `k`. -/
def postBridgeTripsBefore (s : State) (k : Nat) : State :=
  (List.range 16).foldl (fun s b => match (s.btrips b).record with
    | some (j, _) => if j < k then postBridgeTrip s b else s
    | none => s) s

/-- The frame in which a fine postmark lies; 0 where no frame rate is known. -/
def frameOf (s : State) (fine : Nat) : Nat := if s.fFrame = 0 then 0 else frameAt s.fFrame (fine / 256)

/-- A target ID names the clear of bridge b: the node's own target, or a KIND 3 record of the image (R248). -/
def clearsBridge (s : State) (b id : Nat) : Bool :=
  id == 0x20000 + b || (match s.image.bind fun im => im.targets.find? (·.id == id) with
    | some r => r.kind == 3 && r.ref == b
    | none => false)

/-- A bridge trips while it is latched and a clear for it has been accepted: before the clear's frame its cause is present there, ESCALATION apart,
which has always ended; from that frame on it latches the bridge again (R248, R253). -/
def tripAgain (s : State) (b cause order : Nat) : State :=
  match s.acceptance.find? fun c => clearsBridge s b c.target with
  | none => s
  | some c =>
    if frameStart s.fFrame c.k * 256 ≤ order then { s with trips := { s.trips with queue := s.trips.queue ++ [(order, b, cause)] } }
    else if cause = 1 then s
    else { s with trips := { s.trips with again := setBit s.trips.again b true } }

/-- A bridge trip on b with a cause and its order postmark (R240, R245). While b is latched a cause of a later frame adds
nothing to its record. -/
def bridgeTrip (s : State) (b cause order : Nat) : State :=
  let m := modeAt s order
  let k := frameOf s order
  let open_ : Bool := match (s.btrips b).record with
    | some (j, _) => j == k
    | none => false
  let s := if bridgeLatched s b then tripAgain s b cause order else s
  if m = 0 ∨ (bridgeLatched s b ∧ open_ = false) then s
  else
    let s := if open_ then s else postBridgeTrip s b
    let x := s.btrips b
    let first := x.record.isNone
    let cs := insertCause (cause, order) ((x.record.map (·.2)).getD [])
    let s := writeBcause (s.setBtrips b { x with record := some (k, cs), mode := if first then m else x.mode }) b cs
    let s := if first then capEdge (snapRequest s 1 b (order / 256)) 3 b order else s
    let s := holdCause s 1
    let s :=
      if m = 2 ∨ m = 3 ∨ m = 4 then
        let s := tripAny (s.put R.NODE_BTRIP_BRIDGE (setBit (s.get R.NODE_BTRIP_BRIDGE) b true))
        let s := { s with trips := { s.trips with queue := s.trips.queue ++ [(order, b, cause)] } }
        (bridgeLegs s b).foldl legHold s
      else s
    if s.fFrame = 0 then postBridgeTrip s b else s

/-! ### Leg trips and escalation (R240 to R244) -/

/-- An order postmark as an instant of elapsed time: no step of the postmark comes between the two (R526). -/
def elapsedAt (s : State) (order : Nat) : Nat := s.time.elapsed + order * 2 ^ 32 - s.finePostmark * 2 ^ 32

/-- Put an instant into a history in order. -/
def insertInstant (t : Nat) : List Nat → List Nat
  | [] => [t]
  | u :: us => if t < u then t :: u :: us else u :: insertInstant t us

/-- `n` instants of an ordered history lie within `win` of one another. -/
def crowded (n win : Nat) (h : List Nat) : Bool :=
  (h.zip (h.drop (n - 1))).any fun p => decide (p.2 ≤ p.1 + win)

/-- Count a leg trip for its bridge; TRIP_N of them within TRIP_WIN of one another raise a bridge trip with cause 0x01 (R244). The history is kept in
order of order postmarks, twice the window long, so that a trip that arrives late still finds its neighbours. -/
def escalate (s : State) (b order : Nat) : State :=
  match s.image.bind (fun im => im.bridgeRec? b) with
  | none => s
  | some br =>
    let win := usec br.tripWin
    let x := s.btrips b
    let h := insertInstant (elapsedAt s order) x.window
    let last := h.getLast?.getD 0
    let h := h.filter fun t => decide (last ≤ t + 2 * win)
    let s := (s.setBtrips b { x with window := h }).put (R.NODE_BCNTb_WIN b) (min 255 (h.countP fun t => decide (last ≤ t + win)))
    if br.tripN ≠ 0 ∧ crowded br.tripN win h then bridgeTrip s b 1 order else s

/-- The LEG_TRIP envelope (Table SO-6). -/
def postLegTrip (s : State) (n cause order : Nat) : State :=
  let b := legBridge s n
  let body := leBytes 1 n ++ leBytes 1 cause ++ leBytes 1 (modeAt s order) ++ leBytes 1 (order % 256) ++ leBytes 1 b
    ++ leBytes 1 (s.get (R.NODE_BCNTb_WIN b)) ++ [0, 0]
  postHw s 0x12 0 1023 (order / 256) 1 0 body

/-- The leg latches set and cleared in the present D3 cycle. -/
def latchCycle (s : State) : List Nat × List Nat :=
  if s.trips.cycle = s.cycleNo then (s.trips.latchSet, s.trips.latchClr) else ([], [])

/-- Set leg n's latch and hold it (R242). A clear of the same D3 cycle is refused (R253). -/
def legLatch (s : State) (n : Nat) : State :=
  let f := R.NODE_LTRIPm_LEG (n / 32)
  let (st, cl) := latchCycle s
  let s := { s with trips := { s.trips with cycle := s.cycleNo, latchSet := n :: st, latchClr := cl } }
  let s := if cl.contains n then s.mark R.NODE_TRIPSTAT_CLRREF 1 else s
  legHold (tripAny (s.put f (setBit (s.get f) (n % 32) true))) n

/-- A SERVICE cut: the gates go to the safe levels until the next count zero; HELD and d stay (R241). -/
def legCut (s : State) (n : Nat) : State :=
  let s := legStop s n (holdLevels s n)
  s.setLeg n { s.leg n with cut := true }

/-- What every leg trip does whatever it acts on: the counts, the capture trigger and the snapshot. -/
def legTripNote (s : State) (n order : Nat) : State :=
  let s := s.bump R.NODE_TRIPSTAT_LTOTAL 1
  let s := if s.get (R.LEGn_CFG_ASSIGNED n) = 1 then s.bump (R.NODE_BCNTb_TOTAL (legBridge s n)) 1 else s
  capEdge (snapRequest s 0 n (order / 256)) 2 n order

/-- A leg trip of mode `m` acts on leg n: an unassigned leg and a leg of a SPARE bridge never act (R18, R21, Table TP-2). -/
def legTripActs (s : State) (n m : Nat) : Bool :=
  s.get (R.LEGn_CFG_ASSIGNED n) == 1 && !legSpare s n && (m == 2 || m == 3 || m == 4)

/-- Leg n is cut or latched already: an assertion adds no leg trip (R241, R242). -/
def legTripStands (s : State) (n m : Nat) : Bool :=
  if m = 4 then (s.leg n).cut else (s.get (R.NODE_LTRIPm_LEG (n / 32))).testBit (n % 32)

/-- A leg trip of leg n, counted toward escalation if `count`: by the mode in force at its order postmark (R240, Table TP-2). A cut of SERVICE touches no
leg that the mode holds since (R253). -/
def legTripBy (s : State) (n cause order : Nat) (count : Bool) : State :=
  let m := modeAt s order
  if legTripActs s n m ∧ legTripStands s n m then s
  else
    let s := legTripNote s n order
    if legTripActs s n m = false then postLegTrip s n cause order
    else
      let s := if m = 4 then (if s.mode = 4 then legCut s n else s) else legLatch s n
      let s := if count then escalate s (legBridge s n) order else s
      postLegTrip s n cause order

/-- A leg trip of one leg (R240). -/
def legTrip (s : State) (n cause order : Nat) : State := legTripBy s n cause order true

/-- A trip of every leg of a phase: one leg trip toward escalation, that of the first leg that trips by it (R233). -/
def phaseTrip (s : State) (ph cause order : Nat) : State :=
  let legs := (assignedLegs s).filter fun n => s.get (R.LEGn_CFG_PHASE n) == ph
  let m := modeAt s order
  (legs.foldl (fun (p : State × Bool) n =>
    (legTripBy p.1 n cause order p.2, p.2 && !(legTripActs p.1 n m && !legTripStands p.1 n m))) (s, true)).1

/-! ### Blanking (R236, R237) -/

/-- The fine postmark at which the blanking window of the latest commanded edge up to `t` ends or ended (R236, R237). -/
def blankStop (s : State) (n t : Nat) : Option Nat :=
  let m := s.get (R.LEGn_CFG_BLANK n)
  if m = 255 then none
  else
    let l := s.leg m
    let x := tapsSince l.anchor t
    let past := (l.plan.filter fun e => decide (e.at_ ≤ x)).map (·.at_)
    let edges := past ++ l.lastEdge.toList
    if edges.isEmpty then none
    else some (tapPoint l.anchor (edges.foldl max 0 + 64 * s.get (R.NODE_BLANKb_T (legBridge s m))))

/-- The fine postmark at which leg n's blanking window ends, if one is open at `t` (R236, R237). -/
def blankEnd (s : State) (n t : Nat) : Option Nat := (blankStop s n t).filter fun e => decide (t < e)

/-- Level of the filtered trip input of leg n. -/
def tripInput (s : State) (n : Nat) : Bool := (s.get (R.NODE_LTINm_LEG (n / 32))).testBit (n % 32)

/-- Set the filtered trip input level (NODE_LTINm). -/
def setTripInput (s : State) (n : Nat) (v : Bool) : State :=
  let f := R.NODE_LTINm_LEG (n / 32)
  s.put f (setBit (s.get f) (n % 32) v)

/-- A readback mismatch of leg n stands: its gate is not yet commanded to the level of the ball (R223). -/
def readbackStands (s : State) (n : Nat) : Bool := (settle (s.leg n) (legNow s n)).rb.isSome

/-- A source of the leg's trip is asserted: its filtered input, a readback mismatch or a TRIP-block request (R241). -/
def legSource (s : State) (n : Nat) : Bool := tripInput s n || readbackStands s n || (s.leg n).request.isSome

/-! ### Clearing (R247 to R249) -/

/-- A write of ones to NODE_LTRIPm: each named latch clears if no source of the leg's trip is asserted and the leg has not tripped in the same D3 cycle,
else CLRREF (R247, R253). -/
def legLatchClear (s : State) (m v : Nat) : State :=
  let f := R.NODE_LTRIPm_LEG m
  tripAny ((List.range 32).foldl (fun s i =>
    if v.testBit i ∧ (s.get f).testBit i then
      let n := 32 * m + i
      let (st, cl) := latchCycle s
      if legSource s n ∨ n ∈ st then s.mark R.NODE_TRIPSTAT_CLRREF 1
      else { s.put f (setBit (s.get f) i false) with trips := { s.trips with cycle := s.cycleNo, latchSet := st, latchClr := n :: cl } }
    else s) s)

/-- A window comparator that is a cause of bridge b's trip is outside its window. -/
def comparatorHolds (s : State) (b : Nat) : Bool :=
  (List.range 16).any fun c => (s.btrips b).cmps.testBit c &&
    ((s.get R.NODE_WCMPST_OVER).testBit c || (s.get R.NODE_WCMPST_UNDER).testBit c)

/-- A cause of bridge b's trip is still present at a frame start (R248): a comparator outside its window, a TRIP block of
the bridge that read X ≥ 0.5 at its last evaluation, or a trip after the clear was accepted (R253). ESCALATION has always ended. -/
def bridgeCausePresent (s : State) (b : Nat) : Bool :=
  comparatorHolds s b || s.fabric.tripHigh.testBit b || s.trips.again.testBit b

/-- A clear accepted for frame k takes effect at F_k (R248): the latch clears if every cause has ended, and a trip from F_k on latches again (R253);
otherwise a dead letter and CLRREF. -/
def bridgeClear (s : State) (b source pm k : Nat) (item : Bytes) : State :=
  let present := bridgeCausePresent s b
  let s := { s with trips := { s.trips with again := setBit s.trips.again b false } }
  if present then (deadLetter s 4 1 source b pm k item).mark R.NODE_TRIPSTAT_CLRREF 1
  else
    let fk := frameStart s.fFrame k * 256
    let late := s.trips.queue.filter fun e => e.2.1 == b && decide (fk ≤ e.1)
    let s := s.put R.NODE_BTRIP_BRIDGE (setBit (s.get R.NODE_BTRIP_BRIDGE) b false)
    let s := (s.setBtrips b { s.btrips b with window := [], cmps := 0 }).put (R.NODE_BCNTb_WIN b) 0
    let s := tripAny { s with trips := { s.trips with
      view := setBit s.trips.view b false, queue := s.trips.queue.filter fun e => e.2.1 != b } }
    late.foldl (fun s e => bridgeTrip s b e.2.2 e.1) s

/-- Image activation and reinitialisation clear every latch and history (R244, R249); a record being formed is still posted. -/
def tripsClearAll (s : State) : State :=
  let s := (List.range 3).foldl (fun s m => s.put (R.NODE_LTRIPm_LEG m) 0) s
  let s := (List.range 16).foldl (fun s b => (s.put (R.NODE_BCNTb_WIN b) 0).setBtrips b { s.btrips b with window := [], cmps := 0 })
    (s.put R.NODE_BTRIP_BRIDGE 0)
  tripAny { s with trips := { s.trips with view := 0, queue := [], again := 0 } }

/-! ### Window comparators (R238, R239) -/

/-- State of a comparator from its register bits: 0 inside, 1 OVER, 2 UNDER. -/
def comparatorState (s : State) (c : Nat) : Nat :=
  if (s.get R.NODE_WCMPST_OVER).testBit c then 1 else if (s.get R.NODE_WCMPST_UNDER).testBit c then 2 else 0

/-- The comparator is evaluated: ACT ≠ 0 and LO < HI as S12.0 (R238). -/
def comparatorRuns (s : State) (c : Nat) : Bool :=
  s.get (R.NODE_WCMPc_CFG_ACT c) != 0
    && decide (signed 12 (s.get (R.NODE_WCMPc_THR_LO c)) < signed 12 (s.get (R.NODE_WCMPc_THR_HI c)))

/-- A comparator with ACT = 2 raises a bridge trip on every bridge of MASK that the image defines, and is a cause of the trip that is then latched
(R239, R248). -/
def comparatorTrip (s : State) (c st order : Nat) : State :=
  if s.get (R.NODE_WCMPc_CFG_ACT c) = 2 then
    (List.range 16).foldl (fun s b =>
      if (s.get (R.NODE_WCMPc_CFG_MASK c)).testBit b ∧ s.get (R.BRIDGE_CFG_PRESENT b) = 1 then
        let s := bridgeTrip s b (if st = 1 then 2 else 3) order
        if bridgeLatched s b then s.setBtrips b { s.btrips b with cmps := setBit (s.btrips b).cmps c true } else s
      else s) s
  else s

/-- A comparator acts on becoming OVER or UNDER: it is recorded, and trips (R239). -/
def comparatorAct (s : State) (c st order : Nat) : State := comparatorTrip (capEdge s 4 c order) c st order

/-- NODE_WCMPST and CMPOUT take the state of comparator c (0 inside, 1 OVER, 2 UNDER). -/
def comparatorShow (s : State) (c st : Nat) : State :=
  let s := s.put R.NODE_WCMPST_OVER (setBit (s.get R.NODE_WCMPST_OVER) c (st == 1))
  let s := s.put R.NODE_WCMPST_UNDER (setBit (s.get R.NODE_WCMPST_UNDER) c (st == 2))
  s.put R.NODE_TRIPSTAT_CMPOUT (if s.get R.NODE_WCMPST_OVER = 0 ∧ s.get R.NODE_WCMPST_UNDER = 0 then 0 else 1)

/-- The settings let comparator c be in a state (R238). -/
def comparatorMay (s : State) (c st : Nat) : Bool :=
  comparatorRuns s c && (st != 1 || s.get (R.NODE_WCMPc_CFG_EN_HI c) == 1) && (st != 2 || s.get (R.NODE_WCMPc_CFG_EN_LO c) == 1)

/-- New settings that do not let a comparator be outside its window put it inside at once (R238). -/
def comparatorFollow (s : State) (c : Nat) : State :=
  if comparatorMay s c (comparatorState s c) then s else comparatorShow s c 0

/-- A comparator takes a state (0 inside, 1 OVER, 2 UNDER) with the order postmark of the crossing (R238, R239). -/
def comparatorSet (s : State) (c st order : Nat) : State :=
  let st := if comparatorMay s c st then st else 0
  let old := comparatorState s c
  let s := comparatorShow s c st
  if st ≠ 0 ∧ st ≠ old then comparatorAct s c st order else s

/-! ### Sources present when legs begin to switch (R243) -/

/-- A leg's asserted sources act: its input, its readback mismatch, its TRIP-block request (R243, R249). -/
def legSourcesAct (s : State) (n t : Nat) : State :=
  let s := if tripInput s n then legTrip s n 5 t else s
  let s := if readbackStands s n then legTrip s n 4 t else s
  match (s.leg n).request with
  | some cause => legTrip s n cause t
  | none => s

/-- A transition that makes legs switch: every asserted source acts as if it had asserted at that instant (R243). -/
def sourcesAct (s : State) : State :=
  let t := s.finePostmark
  let s := (assignedLegs s).foldl (fun s n => if legSpare s n then s else legSourcesAct s n t) s
  (List.range 16).foldl (fun s c => if comparatorState s c ≠ 0 then comparatorTrip s c (comparatorState s c) t else s) s

end Sys2Proof.Machine
end

