-- ==== Sys2Proof/Machine/Timebase.lean ====
section
/-!
DEFINITION. The timebase: sources, servo updates, states, error bound, steps, the coarse postmark (spec/02_postmark.md R32 to R47,
R526).
-/
namespace Sys2Proof.Machine

/-! ### The error bound (R37 to R39), in units of 2⁻⁷² ns -/

/-- Nanoseconds as units of the bound. -/
def nsUnits (n : Nat) : Nat := n * 2 ^ 72

/-- Time spent on the shadow oscillator until now. -/
def shadowTime (s : State) : Nat := s.time.shadowTotal + match s.time.shadowSince with
  | some e => s.time.elapsed - e
  | none => 0

/-- Growth of the bound since it was set: FU × τ, and 100 ppm of the time on the shadow oscillator (R37, R454). -/
def boundGrowth (s : State) : Nat :=
  5 * s.get R.POST_HOLD_FU * (s.time.elapsed - s.time.boundAt) + 100000 * (shadowTime s - s.time.boundShadow)

/-- The bound held now; none is unbounded. -/
def boundNow (s : State) : Option Nat := s.time.bound.map (· + boundGrowth s)

/-- Set the bound now. -/
def setBound (s : State) (b : Option Nat) : State :=
  { s with time := { s.time with bound := b, boundAt := s.time.elapsed, boundShadow := shadowTime s } }

/-- POST_ERRB in ns (R37). DESIGN CHOICE, log entry 133: the spec gives no rounding to whole ns; the largest offset is rounded up, a bound down. -/
def errbNow (s : State) : Nat :=
  let st := s.get R.POST_STATUS_STATE
  if st = 2 then min 0xFFFFFFFF ((s.time.recent.foldl max 0 * 1000000000 + 2 ^ 32 - 1) / 2 ^ 32)
  else if st = 0 then 0xFFFFFFFF
  else match boundNow s with
    | some b => min 0xFFFFFFFF (b / 2 ^ 72)
    | none => 0xFFFFFFFF

/-! ### States (R36) -/

/-- A condition of the guarantee fails in the present frame: HELD clears from that frame (R55). -/
def tigBreak (s : State) : State := { s.put R.POST_TIG_HELD 0 with fabric := { s.fabric with condHeld := false } }

/-- POST_TIG.TIMEBASE follows the timebase state (Table PM-8). -/
def tigTimebase (s : State) : State :=
  let st := s.get R.POST_STATUS_STATE
  if st = 2 ∨ st = 3 then s.put R.POST_TIG_TIMEBASE 0 else tigBreak (s.put R.POST_TIG_TIMEBASE 1)

/-- Change the timebase state; a change sets CHANGED and the host interrupt, LOCKED clears COARSE, and FREE counts at the nominal increment
(R36, R39, R42). -/
def setTimebase (s : State) (st : Nat) : State :=
  let s := if s.get R.POST_STATUS_STATE = st then s
    else ((s.put R.POST_STATUS_STATE st).mark R.POST_STATUS_CHANGED 1).irq 10
  let s := if st = 0 then s.put R.POST_TRIM_TRIM 0 else s
  let s := tigTimebase s
  let s := if st = 2 then s.put R.POST_STATUS_COARSE 0 else s
  let s := if st = 3 then { s with time := { s.time with recent := [], good := 0 } } else s
  if st = 4 then s else { s with time := { s.time with forced := false } }

/-- HOLDOVER-POOR or LOST by the bound held (Table PM-2). -/
def poorOrLost (s : State) : Nat :=
  match boundNow s with
  | some b => if b ≤ nsUnits (s.get R.POST_HOLD_POOR_US * 1000) then 4 else 5
  | none => 5

/-! ### Steps (R35, R52, R526) -/

/-- A leg's timer channel after a step continues at its next count zero at or after the new postmark (R526). -/
def legStepped (s : State) (n : Nat) : State :=
  let l := s.leg n
  let l := { l with per := if l.per = 0 then s.get (R.LEGn_PERIOD_ACT_PERIOD n) else l.per }
  if l.runs = false ∨ l.per = 0 then s
  else
    let now := s.finePostmark
    let perFine := l.per * 2 ^ 40 / 1200000000
    let base := if now < l.anchor then l.anchor - (l.anchor - now) / max 1 perFine * perFine - perFine else l.anchor
    let t := (tapsSince base now + 63) / 64
    let z := (t + l.per - 1 - (l.zero % l.per)) / l.per * l.per + l.zero % l.per
    s.setLeg n { l with anchor := base, zero := z, per := 0, down := true, plan := [], gen := false }

/-- What the step refuses and ends: tray entries (R307), then waiting commands with code 0x04 (R52), in the order of Table SO-5, the freshness of every
receive connection (R397); every path marks UNSETTLED (R269); schedules continue from the new postmark, and no instant counts as served (R526). -/
def afterStep (s : State) : State :=
  let waiting := s.acceptance
  let s := trayDiscardStep { s with acceptance := [] } s.postmark
  let s := waiting.foldl (fun s c => deadLetter s 1 4 c.source c.target c.t 0 c.item) s
  let s := { s with safety := { s.safety with cycle := none, conns := smap Conn.idle (fun c => { c with expiry := none }) s.safety.conns } }
  let s := unsettleAll (fadesEnd s)
  let s := (List.range 96).foldl legStepped s
  let s := { s with fabric := { s.fabric with next := none }, axisTick := none, office := { s.office with lastTick := none } }
  ledStepped s

/-- The counter takes a value of the accumulator by a step: STEPPED is set (R35). -/
def stepTo (s : State) (acc : Nat) : State :=
  if s.time.stopped then s
  else
    let s := { s with time := { s.time with acc := acc % 2 ^ 104 } }
    afterStep (s.mark R.POST_STATUS_STEPPED 1)

/-! ### Sources (R33, R34, R43) -/

/-- POST_CTRL and the epoch let a source steer: 1 PTP SITE0, 2 PTP SITE1, 3 1PPS, 4 TWIN. The ACTIVE member never steers from
TWIN. -/
def sourceEnabled (s : State) (c : Nat) : Bool :=
  if c = 1 then s.get R.POST_CTRL_EN_PTP0 == 1 && s.get R.POST_EPOCH_HI_VALID == 1
  else if c = 2 then s.get R.POST_CTRL_EN_PTP1 == 1 && s.get R.POST_EPOCH_HI_VALID == 1
  else if c = 3 then s.get R.POST_CTRL_EN_PPS == 1
  else c == 4 && s.get R.POST_CTRL_EN_TWIN == 1 && s.get R.NODE_TWIN_STAT_ROLE != 4

/-- The priority order of PRIO (Table PM-5). -/
def sourceOrder (s : State) : List Nat :=
  if s.get R.NODE_TWIN_STAT_ROLE = 3 ∧ s.get R.POST_CTRL_EN_TWIN = 1 then [4, 1, 2, 3]
  else if s.get R.POST_CTRL_PRIO = 1 then [3, 1, 2, 4]
  else if s.get R.POST_CTRL_PRIO = 2 then [4, 1, 2, 3]
  else [1, 2, 3, 4]

/-- The steering source: the first usable and enabled one, 0 for none (R33). -/
def steering (s : State) : Nat :=
  ((sourceOrder s).find? fun c => s.time.usable.contains c && sourceEnabled s c).getD 0

/-- Mark a source usable. -/
def markUsable (s : State) (c : Nat) : State :=
  if s.time.usable.contains c then s else { s with time := { s.time with usable := s.time.usable ++ [c] } }

/-! ### Servo updates (R35, R36, R527) -/

/-- |offset| in units of 2⁻³² s is at most `ns` nanoseconds. -/
def withinNs (offset : Int) (ns : Nat) : Bool := decide (offset.natAbs * 1000000000 ≤ ns * 2 ^ 32)

/-- POST_OFFSET: signed ns, clamped at ±(2³¹ − 1). -/
def offsetNs (offset : Int) : Int :=
  let v : Int := offset * 1000000000 / 2 ^ 32
  max (-2147483647) (min 2147483647 v)

/-- What R527 leaves to the servo, as a range of POST_TRIM for an offset: with the rate `r` at which the source is seen to run since the last update,
an offset above 20 ns falls by (SLEW − |r| − 10) ppm at least, and one within 20 ns is brought within 5 ns at the next update. Before the second update
no rate is seen, and the offset falls whatever it is. 3,935,305 units are 1 ppm. -/
def trimRange (s : State) (offset : Int) : Int × Int :=
  let ppm : Int := 3935305
  let lim : Int := s.get R.POST_CTRL_SLEW * ppm
  let seen : Option (Nat × Int) := match s.time.lastUpd with
    | some (c, o) => if c < s.time.count then
        some (s.time.count - c, signed 32 (s.get R.POST_TRIM_TRIM) - (offset - o) * 2 ^ 40 / ((s.time.count - c : Nat) : Int)) else none
    | none => none
  match seen with
  | none => if withinNs offset 20 then (-lim, lim) else if 0 < offset then (-lim, 10 * ppm - lim) else (lim - 10 * ppm, lim)
  | some (n, r) =>
    if withinNs offset 20 then
      let mid := r - offset * 2 ^ 40 / (n : Int)
      let w : Int := ((5 * 2 ^ 72 / 1000000000 / n : Nat) : Int)
      (mid - w, mid + w)
    else
      let fall : Int := max 0 (lim - (r.natAbs : Int) - 10 * ppm)
      if 0 < offset then (-lim, r - fall) else (r + fall, lim)

/-- The servo sets POST_TRIM by a law of its own (R527): a free value of that range, held within ±SLEW × 3,935,305 (R35). `left` is the offset that
the update leaves. -/
def servoTrim (s : State) (offset left : Int) : State :=
  let lim : Int := s.get R.POST_CTRL_SLEW * 3935305
  let into (v : Int) : Int := max (-lim) (min lim v)
  let (a, b) := trimRange s offset
  let (n, s) := s.freshNat
  let lo := into a
  let span := (into b - lo).toNat + 1
  let s := { s with time := { s.time with lastUpd := some (s.time.count, left) } }
  s.put R.POST_TRIM_TRIM (unsigned 32 (lo + ((n % span : Nat) : Int)))

/-- Count an update toward LOCKED and keep its magnitude among the last 16. -/
def noteUpdate (s : State) (offset : Int) : State :=
  let t := s.time
  { s with time := { t with
      good := if withinNs offset 20 then t.good + 1 else 0
      recent := (offset.natAbs :: t.recent).take 16 } }

/-- LOCKED after 16 consecutive updates within 20 ns; each LOCKED update restarts the bound at 20 ns (R37). -/
def lockWhenGood (s : State) : State :=
  if 16 ≤ s.time.good then setBound (setTimebase { s with time := { s.time with outliers := 0 } } 2) (some (nsUnits 20)) else s

/-- A valid measurement of the steering source: offset = counter − source in units of 2⁻³² s (Table PM-2, R35). -/
def servoStep (s : State) (offset : Int) : State :=
  let st := s.get R.POST_STATUS_STATE
  let s := s.put R.POST_OFFSET_OFS_NS (unsigned 32 (offsetNs offset))
  if s.time.stopped then s
  else if (st = 0 ∨ st = 1) ∧ (s.mode = 0 ∨ s.mode = 1) ∧ withinNs offset 10000 = false then
    let s := if st = 0 then setBound (setTimebase s 1) none else s
    let s := { s with time := { s.time with good := 0, recent := [] } }
    servoTrim (stepTo s (((s.time.acc : Int) - offset * 2 ^ 40).toNat)) offset 0
  else if st = 2 then
    if withinNs offset 100 then
      let s := noteUpdate { s with time := { s.time with outliers := 0 } } offset
      servoTrim (setBound s (some (nsUnits 20))) offset offset
    else if s.time.outliers + 1 < 4 then { s with time := { s.time with outliers := s.time.outliers + 1 } }
    else setTimebase { s with time := { s.time with outliers := 0, good := 0 } } 4
  else if st = 3 then
    let first := s.time.recent.isEmpty
    let isOver := match boundNow s with
      | some b => decide (nsUnits (offset.natAbs * 1000000000) > b * 2 ^ 32)
      | none => false
    if first && isOver then servoTrim (setTimebase s 4) offset offset
    else lockWhenGood (servoTrim (noteUpdate s offset) offset offset)
  else if st = 1 then lockWhenGood (servoTrim (noteUpdate s offset) offset offset)
  else
    let s := if st = 0 then setBound s none else s
    let s := setTimebase { s with time := { s.time with good := 0, recent := [] } } 1
    servoTrim (noteUpdate s offset) offset offset

/-- No usable source remains (Table PM-2): ACQUIRING and LOCKED leave their state, and in HOLDOVER-GOOD the next source's first offset is judged anew. -/
def noSource (s : State) : State :=
  let st := s.get R.POST_STATUS_STATE
  if st = 1 then setTimebase s (if s.time.bound.isNone && s.get R.POST_STATUS_COARSE == 0 then 0 else poorOrLost s)
  else if st = 2 then setTimebase s 3
  else if st = 3 then { s with time := { s.time with recent := [], good := 0 } }
  else s

/-- The steering source is no longer usable or enabled: the next one takes over without a step, or the state leaves (R33, R43). SRC_ACT reads 5 after a
host set until another source steers (R47). -/
def resteer (s : State) : State :=
  let c := s.get R.POST_STATUS_SRC_ACT
  let n := steering s
  if n = 0 then noSource (if c = 5 then s else s.put R.POST_STATUS_SRC_ACT 0)
  else if 1 ≤ c ∧ c ≤ 4 ∧ c ≠ n then s.put R.POST_STATUS_SRC_ACT n else s

/-- A valid measurement from a source: the source is usable, and it steers if it is the one chosen (R33). -/
def measurement (s : State) (c : Nat) (offset : Int) : State :=
  let s := markUsable s c
  if steering s = c then servoStep (s.put R.POST_STATUS_SRC_ACT c) offset else resteer s

/-- A source becomes unusable (R33). -/
def sourceLost (s : State) (c : Nat) : State :=
  resteer { s with time := { s.time with usable := s.time.usable.filter (· != c) } }

/-- Elapsed time until the bound exceeds a threshold in ns. -/
def boundWait (s : State) (ns : Nat) : Nat :=
  match boundNow s with
  | none => 0
  | some b =>
    let rate := 5 * s.get R.POST_HOLD_FU + (if s.time.shadowSince.isSome then 100000 else 0)
    if nsUnits ns < b ∨ rate = 0 then 0 else (nsUnits ns - b) / rate + 1

/-- The bound passes GOOD_NS in HOLDOVER-GOOD, or POOR_US in HOLDOVER-POOR that no forced entry holds (Table PM-2, R38). -/
def boundExceeded (s : State) : State :=
  let st := s.get R.POST_STATUS_STATE
  if st = 3 then
    setTimebase (s.runElapsed (s.time.elapsed + boundWait s (s.get R.POST_HOLD_GOOD_NS))) 4
  else if st = 4 ∧ s.time.forced = false then
    setTimebase (s.runElapsed (s.time.elapsed + boundWait s (s.get R.POST_HOLD_POOR_US * 1000))) 5
  else s

/-- A loss of clock-root lock forces HOLDOVER-POOR from any state other than FREE and LOST (R38). ACQUIRING entered from FREE, which alone holds no bound
without COARSE, takes one at the entry. -/
def forcePoor (s : State) : State :=
  let st := s.get R.POST_STATUS_STATE
  if st = 0 ∨ st = 5 then s
  else
    let s := if st = 1 ∧ s.time.bound.isNone ∧ s.get R.POST_STATUS_COARSE = 0 then
        let last := (signed 32 (s.get R.POST_OFFSET_OFS_NS)).natAbs
        setBound s (some (nsUnits (max 20 last)))
      else s
    let s := setTimebase s 4
    { s with time := { s.time with forced := true } }

/-! ### 1PPS and the host set (R33, R47) -/

/-- The present offset of the postmark from the nearest whole second. -/
def ppsOffset (s : State) : Int :=
  let f : Nat := s.postmark % 2 ^ 32
  if f < 2 ^ 31 then (f : Int) else (f : Int) - 2 ^ 32

/-- Load a host set: a step, STEPPED, SRC_ACT = 5 (R47). -/
def hostSet (s : State) (v : Nat) : State := (stepTo s (v * 2 ^ 40)).put R.POST_STATUS_SRC_ACT 5

/-- An edge on PPS_IN: a pending host set is loaded, or an edge within 1 µs of the prediction is a measurement; the second edge
outside it makes 1PPS unusable (Table PM-1, R33, R47). In FREE a whole second is known only after a host set; before it the edge only makes 1PPS usable.
DESIGN CHOICE, log entry 134: a pending value whose mode or state no longer permits a set at the edge is dropped. -/
def ppsEdge (s : State) (rising : Bool) : State :=
  if rising == (s.get R.POST_CTRL_PPS_EDGE == 1) then s
  else
    let free : Bool := s.get R.POST_STATUS_STATE == 0
    let may : Bool := free && (s.mode == 0 || s.mode == 1)
    match (if may then s.time.ppsSet else none) with
    | some v =>
      let s := hostSet { s with time := { s.time with ppsSet := none } } v
      setBound (setTimebase (markUsable s 3) 1) none
    | none =>
      let s := { s with time := { s.time with ppsSet := none } }
      let o := ppsOffset s
      if free && s.get R.POST_STATUS_SRC_ACT != 5 then markUsable { s with time := { s.time with ppsMiss := 0 } } 3
      else if withinNs o 1000 then measurement { s with time := { s.time with ppsMiss := 0 } } 3 o
      else if s.time.ppsMiss + 1 < 2 then { s with time := { s.time with ppsMiss := s.time.ppsMiss + 1 } }
      else sourceLost { s with time := { s.time with ppsMiss := 0 } } 3

/-- The commit of POST_SET (R47): only in BOOT and STANDBY while FREE. -/
def postSetCommit (s : State) (v : Nat) : State :=
  if (s.mode = 0 ∨ s.mode = 1) ∧ s.get R.POST_STATUS_STATE = 0 then
    if s.get R.POST_CTRL_EN_PPS = 1 ∧ s.time.usable.contains 3 then { s with time := { s.time with ppsSet := some v } }
    else hostSet s v
  else s

/-! ### The coarse postmark (R39, R454) -/

/-- The counter runs: neither HIBERNATE nor a reset that reloads it (R39). -/
def counterRuns (s : State) : Bool :=
  !s.root.hibernate && (s.root.resetKind.isNone || s.root.resetKind == some 3 || s.root.resetKind == some 4)

/-- The always-on domain at a crystal edge: the coarse postmark advances by 2¹⁷ units, the counter and the bound are copied while
the counter runs, and on the shadow oscillator the increment is recomputed from the ticks of the period, where the domains ran on it for all of
the period (DEDUCED, log entry 50). -/
def crystalEdge (s : State) : State :=
  let r := s.root
  let run := counterRuns s
  let inc := if r.xtalWhole ∧ 0 < r.xtalTicks then 2 ^ 57 / r.xtalTicks else s.time.shadowInc
  let shadow := run && s.get R.CK_STATUS_SHADOW == 1
  { s with
    root := { r with
      coarse := if run then some s.postmark else r.coarse.map fun c => min (2 ^ 64 - 1) (c + 2 ^ 17)
      coarseBound := if run then some (errbNow s) else r.coarseBound
      coarseAt := if run then s.time.elapsed else r.coarseAt
      xtalTicks := 0
      xtalWhole := true }
    time := { s.time with shadowInc := if shadow then inc else s.time.shadowInc } }

/-- The timebase as a load finds it: what counts elapsed time goes on. -/
def timeRestart (s : State) : TimeBase :=
  { TimeBase.reset with
    elapsed := s.time.elapsed, count := s.time.count, shadowSince := s.time.shadowSince, shadowTotal := s.time.shadowTotal }

/-- The counter loads the coarse postmark: COARSE, and the bound at the copy plus 100 ppm of the time spent plus 31 µs (R39). Without a
valid coarse postmark the counter starts at 0 in FREE. -/
def coarseLoad (s : State) (spent : Nat) : State :=
  match s.root.coarse with
  | none =>
    let s := { s with time := timeRestart s }
    tigTimebase ((s.put R.POST_STATUS_STATE 0).put R.POST_STATUS_COARSE 0)
  | some c =>
    let b := match s.root.coarseBound with
      | some n => if n = 0xFFFFFFFF then none else some (nsUnits (n + 31000) + 100000 * spent)
      | none => none
    let s := { s with time := { timeRestart s with acc := min (2 ^ 64 - 1) c * 2 ^ 40 } }
    let s := setBound (s.put R.POST_STATUS_COARSE 1) b
    setTimebase s (poorOrLost s)

end Sys2Proof.Machine
end

