-- ==== Sys2Proof/Machine/Acceptance.lean ====
section
/-!
DEFINITION. Acceptance of commands: targets, refusals, the frame of a command, contradictions (spec/02_postmark.md R48 to R52, R57
to R59).
-/
namespace Sys2Proof.Machine

/-! ### Targets the node defines itself (Table PM-9): above the 16-bit target IDs; the low 16 bits are what a report carries -/

/-- The node-mode target (R70). -/
def modeTarget : Nat := 0x10000
/-- The clear of bridge b (R248). -/
def clearTarget (b : Nat) : Nat := 0x20000 + b
/-- A bank request of path p (R270, R289). -/
def bankTarget (p : Nat) : Nat := 0x30000 + p
/-- A source change of path p (R271, R289). -/
def sourceTarget (p : Nat) : Nat := 0x40000 + p

/-- The command-table record of a target ID in the active image. -/
def targetRec (s : State) (id : Nat) : Option Target := s.image.bind fun im => im.targets.find? (·.id == id)

/-- What a target ID writes: the node's own targets as they are, KIND 2 and 3 records as the node's own targets, others by ID. -/
def targetKey (s : State) (id : Nat) : Nat :=
  if 0x10000 ≤ id then id
  else match targetRec s id with
    | some r => if r.kind = 2 then modeTarget else if r.kind = 3 then clearTarget r.ref else id
    | none => id

/-- The target is known to the class (0x06 otherwise, Table PM-9). -/
def targetKnown (s : State) (cls id : Nat) : Bool :=
  if 0x10000 ≤ id then true
  else match targetRec s id with
    | some r => r.classes.testBit cls
    | none => false

/-- D_accept of a class in the active image; 0 is disabled (R48, R192). -/
def dAccept (s : State) (cls : Nat) : Nat := match s.image with
  | some im => im.delays.getD cls 0
  | none => 0

/-- The frame of a command (R49). -/
def commandFrame (s : State) (cls t : Nat) : Nat := frameFrom s.fFrame (t + dAccept s cls)

/-- The refusal code of a command at its entry, first of BAD_SOURCE, UNKNOWN_TARGET, LATE, EARLY, QUEUE_FULL that holds (R51). In REPLAY
commands to fabric targets are refused as BAD_SOURCE (R342). -/
def acceptRefusal (s : State) (cls path source target t : Nat) : Option Nat :=
  let key := targetKey s target
  let now := s.postmark
  if source / 4096 ≠ cls ∨ cls ≠ path ∨ 3 < cls ∨ dAccept s cls = 0 ∨ (s.mode = 6 ∧ key ≠ modeTarget) then some 5
  else if targetKnown s cls target = false then some 6
  else if frameStart s.fFrame (commandFrame s cls t) ≤ now then some 1
  else if now + 60 * 2 ^ 32 < t + dAccept s cls then some 2
  else if 2048 ≤ s.acceptance.length then some 3
  else none

/-- The 16 bytes of a command entry of R334. -/
def commandEntry (target source value t : Nat) : Bytes :=
  leBytes 2 target ++ leBytes 2 source ++ leBytes 4 value ++ leBytes 8 t

/-- A member that is STANDBY or SYNCING (R351). -/
def follows (s : State) : Bool := s.get R.NODE_TWIN_STAT_ROLE == 3 || s.get R.NODE_TWIN_STAT_ROLE == 2

/-- An authenticated command enters the acceptance queue by the path of class `path` and is judged (R48 to R51). A HOST command with t = 0
takes the present postmark. A following twin member forwards it, unless its own safety function posted it (R399), and posts no dead letter (R351). -/
def acceptEnter (s : State) (path source seq target value t : Nat) (item : Bytes) : State :=
  let t := if path = 2 ∧ t = 0 then s.postmark else t
  let cls := source / 4096
  let s := if follows s ∧ path ≠ 0 ∧ target < 65536 then s.send (.twin 6 0 (commandEntry target source value t)) else s
  match acceptRefusal s cls path source target t with
  | some code =>
    let k := commandFrame s cls t
    let s := if code = 1 then s.bump R.POST_ACC_LATE 1 else s
    if follows s then s else deadLetter s 1 code source (target % 65536) t (if code = 1 then k else 0) item
  | none =>
    let k := commandFrame s cls t
    let s := if s.get R.NODE_TWIN_STAT_ROLE = 4 ∧ s.get R.NODE_TWIN_STAT_LINK = 1 ∧ target < 65536 then
        s.send (.twin 2 k (commandEntry target source value t)) else s
    { s with acceptance := s.acceptance ++
        [{ cls := cls, source := source, seq := seq, target := target, value := value, t := t, k := k, item := item }] }

/-- Source ID of a host requester's commands: class HOST, 0x000 for PCI Express and the service cores, 0x001 for quad-SPI (R48). -/
def hostSource (r : Nat) : Nat := if r = 1 then 0x2001 else 0x2000

/-- A host command to one of the node's own targets, with t = 0. -/
def hostCommand (s : State) (r target value : Nat) (item : Bytes) : State :=
  acceptEnter s 2 (hostSource r) 0 target value 0 item

/-! ### Contradictory masters (R57, R58) -/

/-- SENSE of a target: the mode is OFF, the node's other targets NONE. -/
def targetSense (s : State) (key : Nat) : Nat :=
  if key = modeTarget then 3 else if 0x10000 ≤ key then 0
  else match targetRec s key with
    | some r => if r.kind = 1 then 0 else r.sense
    | none => 0

/-- The value a command writes, clamped to LO and HI of a wire target (R85, R153). A NaN takes one of the limits, a free value says which (log entry
160). -/
def clampedValue (s : State) (c : Accepted) : Nat :=
  match targetRec s c.target with
  | some r =>
    if r.kind ≠ 0 then c.value
    else if f32isNan c.value then (if Config.nanLimit c.target then r.hi else r.lo)
    else fclamp c.value r.lo r.hi
  | none => c.value

/-- The command reduces its target from the value in force (R57). -/
def reduces (s : State) (c : Accepted) : Bool :=
  let key := targetKey s c.target
  if key = modeTarget then c.value == 1 && s.mode != 1
  else
    let inForce := match targetRec s key with
      | some r => s.wireBits r.ref
      | none => 0
    let v := clampedValue s c
    match targetSense s key with
    | 1 => f32lt v inForce
    | 2 => f32lt inForce v
    | 3 => f32lt v f32half && f32le f32half inForce
    | _ => false

/-- Place of a class in the image's precedence (R58). -/
def precedence (s : State) (cls : Nat) : Nat :=
  let p := match s.image with
    | some im => im.precedence
    | none => [0, 2, 1, 3]
  ((p.zipIdx).find? (·.1 == cls)).elim 4 (·.2)

/-- The step of Table PM-13 by which `a` beats `b`, if it does; duplicates separate at no step. -/
def beats (s : State) (a b : Accepted) : Option Nat :=
  let sense := targetSense s (targetKey s a.target)
  let ra := reduces s a
  let rb := reduces s b
  let va := clampedValue s a
  let vb := clampedValue s b
  let mode := targetKey s a.target == modeTarget
  let more (x y : Nat) := if mode then false else if sense = 1 then f32lt x y else if sense = 2 then f32lt y x else false
  if sense ≠ 0 ∧ ra ≠ rb then (if ra then some 1 else none)
  else if ra ∧ rb ∧ more va vb then some 1
  else if ra ∧ rb ∧ more vb va then none
  else if precedence s a.cls ≠ precedence s b.cls then (if precedence s a.cls < precedence s b.cls then some 2 else none)
  else if a.t ≠ b.t then (if a.t < b.t then some 3 else none)
  else if a.source ≠ b.source then (if a.source < b.source then some 4 else none)
  else if a.seq ≠ b.seq then (if b.seq < a.seq then some 5 else none)
  else none

/-- The winner of a list of contradicting commands. -/
def winnerOf (s : State) : Accepted → List Accepted → Accepted
  | w, [] => w
  | w, c :: cs => winnerOf s (if (beats s c w).isSome then c else w) cs

/-- One SUPERSEDED envelope and its count (R59). -/
def superseded (s : State) (k : Nat) (w l : Accepted) : State :=
  match beats s w l with
  | none => s
  | some step =>
    let fk := frameStart s.fFrame k
    let val := match targetRec s l.target with
      | some r => if r.kind = 0 then l.value else 0
      | none => 0
    let body := leBytes 2 l.target ++ leBytes 2 l.source ++ leBytes 2 w.source ++ leBytes 1 step ++ [0] ++ leBytes 8 l.t
      ++ leBytes 8 k ++ leBytes 4 val ++ List.replicate 4 0
    (postHw s 0x16 1 1022 fk 2 0 body).bump R.POST_ACC_SUPER 1

/-- The targets of a set, each once, in the set's order. -/
def setKeys (s : State) : List Accepted → List Nat
  | [] => []
  | c :: cs => let k := targetKey s c.target; k :: (setKeys s cs).filter (· != k)

/-- A command goes before another of an equal postmark by the resolution order: a reducing one, then by class, source and sequence number (R49,
Table PM-13). The values of two targets have no common measure by which one would reduce more. -/
def presentTie (s : State) (c d : Accepted) : Bool :=
  if reduces s c ≠ reduces s d then reduces s c
  else if precedence s c.cls ≠ precedence s d.cls then precedence s c.cls < precedence s d.cls
  else if c.source ≠ d.source then c.source < d.source
  else d.seq < c.seq

/-- Put a command in the order of presentation: ascending postmark, ties by the resolution order (R49). -/
def presentIn (s : State) (c : Accepted) : List Accepted → List Accepted
  | [] => [c]
  | d :: ds => if c.t < d.t ∨ (c.t = d.t ∧ presentTie s c d) then c :: d :: ds else d :: presentIn s c ds

/-- Close the acceptance set of frame k: the winners in the order of presentation, and the state with each loser reported (R50, R58,
R59). -/
def closeSet (s : State) (k : Nat) (set : List Accepted) : State × List Accepted :=
  (setKeys s set).foldl (fun (p : State × List Accepted) key =>
    match set.filter (fun c => targetKey s c.target == key) with
    | [] => p
    | c :: cs =>
      let w := winnerOf s c cs
      let st := (c :: cs).foldl (fun st l => superseded st k w l) p.1
      (st, presentIn s w p.2)) (s, [])

end Sys2Proof.Machine
end

