-- ==== Sys2Proof/Machine/TwinCore.lean ====
section
/-!
DEFINITION. Twin roles, the messages of a pair, and handing the drive over (spec/13_twin.md R346, R347, R354, R355, R361 to R364).
-/
namespace Sys2Proof.Machine

/-- LEGn_STATUS.DRIVE of a role (Table TW-2). -/
def roleDrive (role : Nat) : Nat := if role = 0 then 0 else if role = 4 then 1 else 2

/-- A TWIN envelope (R364). -/
def twinEnvelope (s : State) (event old new detail k : Nat) : State :=
  let body := leBytes 1 event ++ leBytes 1 old ++ leBytes 1 new ++ leBytes 1 detail ++ leBytes 4 0 ++ leBytes 8 k
  (postHw s 0x18 1 1020 s.postmark 4 0 body).irq 4

/-- At takeover or handover the held messages are sent in posting order (R362). -/
def sendHeld (s : State) : State :=
  let h := s.twin.held
  h.foldl (fun s m => siteNumber s m.1 (leNat (m.2.take 1)) (m.2.drop 1)) { s with twin := { s.twin with held := [] } }

/-- A STANDBY member finds a line other than it commands while the link is up (R365). -/
def readbackDisagree (s : State) : State := if s.role = 3 ∧ s.linkUp then s.mark R.NODE_TWIN_STAT_RB_DISAGREE 1 else s

/-! ### Role changes (R347) -/

/-- The drive of every leg changes at the leg's first reload after the commit at the present instant (R225); a change that does
not concern ACTIVE is at once. -/
def setDrive (s : State) (old new : Nat) : State :=
  if roleDrive old = roleDrive new then s
  else if old = 4 ∨ new = 4 then
    (List.range 96).foldl (fun s n => s.setLeg n { s.leg n with drive := some (roleDrive new, s.finePostmark) }) s
  else (List.range 96).foldl (fun s n => s.put (R.LEGn_STATUS_DRIVE n) (roleDrive new)) s

/-- Change the role, with its TWIN envelope and, with the link up, its role report (R347, R364, Table LK-5). A member that becomes ACTIVE numbers from the larger of its own next number, the
number after the last mirrored to it, and its base plus 2¹⁶ (R363), and sends its held messages. -/
def setRole (s : State) (new : Nat) : State :=
  let old := s.role
  if old = new then s
  else
    let s := setDrive (s.put R.NODE_TWIN_STAT_ROLE new) old new
    let s := twinEnvelope s 1 old new 0 (s.getPair R.FAB_FRAME_LO_K R.FAB_FRAME_HI_K)
    let s := if s.linkUp then s.send (.twin 4 0 [3, BitVec.ofNat 8 new]) else s
    let s := { s with twin := { s.twin with matches_ := 0 } }
    if new = 4 then
      let n := max (seqNext s) (max (s.twin.lastMirrored + 1) (s.twin.seqBase + 65536))
      sendHeld (setSeqNext s n)
    else s

/-- An ACTIVE member that enters RECOVERY or LOCKOUT or raises a fabric fault asks the partner to take over and becomes SUSPECT
(R355); a STANDBY or SYNCING member becomes SUSPECT (Table TW-3). -/
def twinFault (s : State) : State :=
  if s.twin.keep then s
  else if s.role = 4 then setRole (s.send (.twin 4 0 [1])) 5
  else if s.role = 2 ∨ s.role = 3 then setRole s 5
  else s

end Sys2Proof.Machine
end

