-- ==== Sys2Proof/Machine/ModeCore.lean ====
section
/-!
DEFINITION. Mode transitions and what every transition does (spec/03_modes.md R64 to R74), RECOVERY, and the refusal of mode
requests.
-/
namespace Sys2Proof.Machine

/-- The clock root is locked. -/
def clockLocked (s : State) : Bool := s.get R.CK_STATUS_LOCK == 1

/-- The power state is QUIET. -/
def inQuiet (s : State) : Bool := s.get R.NODE_MODE_QUIET == 1

/-- While the fabric is halted the angle-locked resamplers produce no outputs (R283). -/
def angleStop (s : State) : State := match s.image with
  | none => s
  | some im => (im.resamplers.filter (·.lock == 1)).foldl (fun s r =>
      { s.put (R.DEC_RSr_IDX_RUN r.rch) 0 with sense := { s.sense with
        resamplers := smod Resampler.idle s.sense.resamplers r.rch fun x => { x with sched := [] } } }) s

/-- The fabric halts: no frame is in evaluation, RUN = 0 (R165, R178). -/
def fabricHalt (s : State) : State :=
  let s := angleStop s
  { s.put R.FAB_STATUS_RUN 0 with fabric := { s.fabric with frame := none, staged := [], raised := [], written := [], sampling := none } }

/-! ### Positions of the axes (R488, R497) -/

/-- The axis beside its registers. -/
def State.axis (s : State) (n : Nat) : Axis := sget Axis.idle s.axes n
/-- Set it. -/
def State.setAxis (s : State) (n : Nat) (a : Axis) : State := { s with axes := sset Axis.idle s.axes n a }

/-- A 48-bit pair as an integer. -/
def axGet (s : State) (lo hi : Fld) : Int := signed 48 (s.getPair lo hi)
/-- Store a 48-bit value with its sign extension (R499). -/
def axPut (s : State) (lo hi : Fld) (v : Int) : State := s.putPair lo hi (unsigned 64 (signed 48 (unsigned 48 v)))

/-- A value as a signed 48-bit count. -/
def wrap48 (v : Int) : Int := signed 48 (unsigned 48 v)

/-- The steps of a list placed on a tick from `a` up to and without `b`, counted with their sign. -/
def stepSum (l : List (Nat × Bool)) (a b : Nat) : Int :=
  l.foldl (fun v e => if a ≤ e.1 ∧ e.1 < b then (if e.2 then v + 1 else v - 1) else v) 0

/-- Steps placed that AXn_POS does not count yet. -/
def axAhead (a : Axis) : Int := a.steps.foldl (fun v e => if a.counted < e.1 then (if e.2 then v + 1 else v - 1) else v) 0

/-- The position of the profile: every step placed so far (R488). -/
def axPos (s : State) (n : Nat) : Int := wrap48 (axGet s (R.AXn_POS_LO_W n) (R.AXn_POS_HI_W n) + axAhead (s.axis n))
/-- Set it; the steps placed stay. -/
def axSetPos (s : State) (n : Nat) (v : Int) : State := axPut s (R.AXn_POS_LO_W n) (R.AXn_POS_HI_W n) (v - axAhead (s.axis n))
/-- The command position before D1 tick c: the steps placed on earlier ticks (R488, R498). -/
def axCommand (s : State) (n c : Nat) : Int :=
  let a := s.axis n
  wrap48 (axGet s (R.AXn_POS_LO_W n) (R.AXn_POS_HI_W n) + stepSum a.steps (a.counted + 1) c)
/-- The encoder position. -/
def axEnc (s : State) (n : Nat) : Int := axGet s (R.AXn_ENC_LO_W n) (R.AXn_ENC_HI_W n)
/-- Set the encoder position. -/
def axSetEnc (s : State) (n : Nat) (v : Int) : State := axPut s (R.AXn_ENC_LO_W n) (R.AXn_ENC_HI_W n) v
/-- The positions go to non-volatile memory (R497): the count of every step placed, or of those made where the balls are given up. -/
def axSave (s : State) (n : Nat) (made : Bool) : State :=
  { s with axisNv := sset (0, 0) s.axisNv n (if made then axCommand s n (s.time.count + 1) else axPos s n, axEnc s n) }

/-- Entry to BOOT, LOCKOUT or REPLAY makes each axis stop quickly and drop its enable when stopped (R493). -/
def axesDrop (s : State) : State :=
  (List.range 4).foldl (fun s n =>
    let a := s.axis n
    let moving := s.get (R.AXn_STAT_STATE n) ≠ 0
    let a := { a with dropEn := moving, enabled := if moving then a.enabled else false, target := none, req := AxReq.none, homing := none }
    let s := s.setAxis n a
    if moving then s.put (R.AXn_STAT_STATE n) 4 else s) s

/-- Modes in which legs may switch. -/
def switchingMode (m : Nat) : Bool := m == 2 || m == 3 || m == 4

/-- LOCKOUT entry during steps 2 to 5 of an activation ends it with 0x66; no image is active (Table SI-20). -/
def activationAbort (s : State) : State :=
  match s.slots.activating with
  | some (_, 3) =>
    let s := { s with slots := { s.slots with activating := none, loading := none } }
    ((s.put R.SEC_IMG_STATUS_BUSY 0).put R.SEC_IMG_STATUS_CODE 0x66).irq 8
  | _ => s

/-- Write 0.0 to an output of a block, its status as it stands. -/
def outZero (im : Image) (b : Block) (s : State) (j : Nat) : State := match outWire im b j with
  | some w => { s with fabric := { s.fabric with wires := sset (0, 0) s.fabric.wires w (0, s.wireStat w) } }
  | none => s

/-- Entry to RECOVERY or LOCKOUT puts every FORMING bridge in WAIT with E_SCALE = 0.0 and CLOSE = 0.0, and READY follows STATE (R116, R120), in the
halted fabric too (DEDUCED, log entry 159). -/
def formingWait (s : State) : State := match s.image with
  | none => s
  | some im => (im.blocks.filter fun b => b.kind == 0x1C && b.par 0 == 0).foldl (fun s b =>
      let x := { sget BlkState.idle s.fabric.blocks b.slot with vars := initVars im b }
      let s := { s with fabric := { s.fabric with blocks := sset BlkState.idle s.fabric.blocks b.slot x } }
      [0, 2, 3, 4].foldl (outZero im b) s) s

/-- A transition to a mode with an ENTRY code (R64, R66): force codes and host sources end (R216, R222); legs go to their levels unless
the new mode lets them switch or the stop ramp runs (R69, R74); sources already asserted act where legs begin to switch (R243);
the fabric halts in RECOVERY and LOCKOUT with its FORMING bridges in WAIT, which ends the guarantee, and starts again from the image on exit (log entry 59); what hold causes, axes
and the twin do. -/
def setMode (s : State) (m entry : Nat) : State :=
  let old := s.mode
  let ramp := m = 1 ∧ (old = 3 ∨ old = 4)
  let s := ((s.put R.NODE_MODE_MODE m).put R.NODE_MODE_ENTRY entry).irq 0
  let s := legsModeChange s
  let s := { s with hidden := { s.hidden with
    stopRamp := if ramp then some s.time.elapsed else none
    modeLog := ((s.finePostmark, old) :: s.hidden.modeLog).take 4
    energizeAt := if m = 3 then s.time.elapsed else s.hidden.energizeAt } }
  let s := if switchingMode m ∨ ramp then s else holdAll s
  let s := if switchingMode m ∧ ¬ switchingMode old then sourcesAct s else s
  let s := if m = 5 ∨ m = 7 then formingWait (fabricHalt (tigBreak s)) else s
  let s := if (old = 5 ∨ old = 7) ∧ m ≠ 5 ∧ m ≠ 7 ∧ m ≠ 0 ∧ s.image.isSome then { s with fabric := { s.fabric with reinit := true, lapse := true } } else s
  let s := if m = 0 ∨ m = 6 ∨ m = 7 then axesDrop s else s
  let s := if m = 5 then twinFault (holdCause s 3) else s
  let s := if m = 7 then activationAbort ((twinFault (holdCause s 2)).irq 2) else s
  { s with fabric := { s.fabric with readyRun := 0 } }

/-- RECOVERY from a mode in which legs switch, at once (R69, R74); in other modes the mode is kept. -/
def enterRecovery (s : State) (entry : Nat) : State :=
  if switchingMode s.mode then
    let s := if entry = 3 then { s with hidden := { s.hidden with clockCause := true } } else s
    setMode s 5 entry
  else s

/-- A refused mode or power request (R68): REFUSE, a dead letter of domain 2. -/
def modeRefuse (s : State) (code source target pm k : Nat) (item : Bytes) : State :=
  deadLetter (s.put R.NODE_MODE_REFUSE code) 2 code source (target % 65536) pm k item

/-- The image's stop ramp ends (R69, R379): legs to safe levels. -/
def stopRampEnd (s : State) : State :=
  match s.hidden.stopRamp with
  | none => s
  | some e =>
    let t := match s.image with
      | some im => im.tStop
      | none => 0
    let s := s.runElapsed (e + usec (1000 * t))
    holdAll { s with hidden := { s.hidden with stopRamp := none } }

/-- A running test ends early with RESULT = 0x03 (R72, R79); what FULL destroyed is loaded again at the next frame. -/
def testAbort (s : State) : State :=
  match s.hidden.test with
  | none => s
  | some (kind, _) =>
    let s := { s with hidden := { s.hidden with test := none, testHolds := false } }
    let s := if kind = 1 then { s with fabric := { s.fabric with reinit := s.image.isSome, lapse := false } } else s
    let s := if kind = 1 ∨ kind = 2 then unsettleAll s else s
    (s.put R.NODE_TEST_RUNNING 0).put R.NODE_TEST_RESULT 3

end Sys2Proof.Machine
end

