-- ==== Sys2Proof/Machine/Fabric.lean ====
section
/-!
DEFINITION. Evaluation of a block in a frame (spec/06_fabric.md R145 to R175): reading wires under the invalid-input policy, the
kinds, writing outputs with their status, and what MOD, EVENT, TRIP, PROFILE, SYNC and TVIMP raise.
-/
namespace Sys2Proof.Machine

/-! ### Reading (R86, R155, R161) -/

/-- What a block reads in an evaluation: values by wire, the OR of the status bits, whether every wire was valid, whether an
input was held, and the longest hold; the new held table. -/
structure Reads where
  vals : Sparse Nat
  stat : Nat
  valid : Bool
  held : Bool
  longest : Nat
  table : Sparse (Option Nat × Nat)
deriving DecidableEq, Repr

/-- Read one wire: under HOLD an invalid one at its last valid value, or at its initial value (R86). -/
def readWire (s : State) (im : Image) (hold : Bool) (r : Reads) (w : Nat) : Reads :=
  let v := s.wireBits w
  let st := s.wireStat w
  let ok := st.testBit 0
  let (h, c) := sget (none, 0) r.table w
  let r := { r with stat := r.stat ||| (st - st % 2), valid := r.valid && ok }
  if ok then { r with vals := sset 0 r.vals w v, table := if hold then sset (none, 0) r.table w (some v, 0) else r.table }
  else if hold then
    { r with
      vals := sset 0 r.vals w (h.getD (initWire im w))
      held := true
      longest := max r.longest (c + 1)
      table := sset (none, 0) r.table w (h, min 255 (c + 1)) }
  else { r with vals := sset 0 r.vals w v }

/-- Read every wire of a block, each once. -/
def readAll (s : State) (im : Image) (b : Block) (bs : BlkState) : Reads :=
  (readWires im b).eraseDups.foldl (readWire s im (b.policy == 0))
    { vals := [], stat := 0, valid := true, held := false, longest := 0, table := bs.held }

/-- The inputs flattened in port order; an unconnected port reads `dflt`. -/
def flatInputs (im : Image) (b : Block) (r : Reads) : List Nat :=
  ((inWidths im b).zipIdx).flatMap fun p => match inWire b p.2 with
    | some w => (List.range p.1).map fun c => sget 0 r.vals (w + c)
    | none => List.replicate p.1 0

/-- A single input, where it is connected. -/
def input? (b : Block) (r : Reads) (i : Nat) : Option Nat := (inWire b i).map (sget 0 r.vals ·)

/-- A single input, `d` where it is not connected. -/
def inputD (b : Block) (r : Reads) (i d : Nat) : Nat := (input? b r i).getD d

/-- The parameters with the values of command-bound wires in place (R190). -/
def liveParams (im : Image) (b : Block) (r : Reads) : List Nat :=
  ((cmdParams b.kind).zipIdx).foldl (fun p c => match cmdWire im b c.2 with
    | some w => p.set c.1 (sget 0 r.vals w)
    | none => p) b.params

/-! ### Evaluation context -/

/-- The frame as a block sees it: number, F_k, the number of the group's next and previous evaluations by postmark, T_s. -/
structure Frame where
  k : Nat
  fk : Nat
  nextF : Nat
  prevF : Nat
  ts : Nat
deriving DecidableEq, Repr

/-- The frame of a block of a group of divisor n (R88, R160). -/
def frameOfGroup (f k n : Nat) : Frame :=
  let fk := frameStart f k
  let nx := frameStart f (k + n)
  { k := k, fk := fk, nextF := nx, prevF := frameStart f (k - n), ts := f32ofScaled ((nx - fk : Nat) : Int) (-32) }

/-- The bridge's legs count as switching in the frame (R134). -/
def legsSwitching (s : State) (b : Nat) : Bool := fhigh (s.wireBits 6) && !s.trips.view.testBit b

/-- 2π·F0 of a bridge in binary32 (R81, R171). -/
def omegaBase (im : Image) (b : Nat) : Nat := match im.bridgeRec? b with
  | some r => fmul f32twoPi (f32ofScaled (r.f0 : Int) (-23))
  | none => f32one

/-- The bridge a block names is FORMING. -/
def namesForming (im : Image) (b : Nat) : Bool := match im.bridgeRec? b with
  | some r => r.role == 1
  | none => false

/-- The command-bound parameter of a bridge's block, from its wire (R190). -/
def peerParam (s : State) (im : Image) (kind bridge i : Nat) : Nat := match im.peer kind bridge with
  | some b => match cmdWire im b i with
      | some w => s.wireBits w
      | none => b.par i
  | none => 0

/-- ANGLE runs anchored at this frame start (R100). -/
def anchorPermitted (s : State) : Bool :=
  (s.wireBits 4 == f32two || s.wireBits 4 == f32three) && s.get R.POST_EPOCH_HI_VALID == 1

/-! ### SAMPLE (R174, R263, R272, R283) -/

/-- The output a SAMPLE takes of a channel at F_k: the newest one of a path at the frame trigger, or the newest ready one of a
resampler. -/
def sampleOutput (s : State) (fk c : Nat) : SenseOut :=
  if c < 128 then sget SenseOut.none s.fabric.frameSense c
  else
    let r := sget Resampler.idle s.sense.resamplers (c - 128)
    (r.outs.find? fun o => decide (o.trig ≤ fk)).getD SenseOut.none

/-- The path record whose SCALE and OFFSET a channel carries. -/
def sampleScale (im : Image) (c : Nat) : Nat × Nat :=
  let p := if c < 128 then c else ((im.resamplers.find? (·.rch == c - 128)).map (·.src)).getD c
  match im.pathRec? p with
  | some r => (r.scale, r.offset)
  | none => (f32one, 0)

/-- OFFSET + SCALE × (x × 2⁻²³) (R263). -/
def sampleValue (im : Image) (c : Nat) (o : SenseOut) : Nat :=
  let (sc, ofs) := sampleScale im c
  fadd ofs (fmul sc (f32ofScaled (signed 24 o.code) (-23)))

/-- The wire status of a sample (R272); LATE-INPUT where the output is the one taken before. -/
def sampleStatus (o : SenseOut) (late : Bool) : Nat :=
  (if o.stat.testBit 0 then 1 else 0) + (if o.stat.testBit 1 || o.stat.testBit 4 then 2 else 0)
    + (if o.stat.testBit 2 then 4 else 0) + (if late then 8 else 0)

/-! ### VIMP's harmonics (R104) -/

/-- One cycle of the resamplers locked to a bridge, in ascending channel number, each sample in the units of its path (R104, R263): the phases a,
b and c in that order (DESIGN CHOICE, log entry 152). -/
def cycleSamples (s : State) (im : Image) (b : Nat) : List (List Nat) :=
  ((List.range 32).filterMap fun c => im.resamplers.find? fun r => r.rch == c && r.lock == 1 && r.bridge == b).map fun r =>
    let x := sget Resampler.idle s.sense.resamplers r.rch
    (List.range (2 ^ r.logn)).map fun j => sampleValue im (128 + r.rch) (sget SenseOut.none x.buffer j)

/-- An output in a cycle buffer of the bridge carries UNSETTLED. -/
def cycleUnsettled (s : State) (im : Image) (b : Nat) : Bool :=
  (im.resamplers.filter fun r => r.lock == 1 && r.bridge == b).any fun r =>
    let x := sget Resampler.idle s.sense.resamplers r.rch
    (List.range (2 ^ r.logn)).any fun j => (sget SenseOut.none x.buffer j).stat.testBit 1

/-- One fundamental cycle in postmark units. -/
def cycleUnits (im : Image) (b : Nat) : Nat := match im.bridgeRec? b with
  | some r => if r.f0 = 0 then 0 else 2 ^ 55 / r.f0
  | none => 0

/-- V_h of a bridge: the one-cycle DFT of its phases, harmonics 5 and 11 in negative sequence, 7 and 13 in positive (R104). -/
def harmonicPhasor (cycles : List (List Nat)) (i : Nat) : Nat × Nat :=
  let h := [5, 7, 11, 13].getD i 0
  let x (c : Nat) := dftPhasor h (cycles.getD c [])
  seqPhasor (i % 2 == 0) (x 0) (x 1) (x 2)

/-- The harmonic references, enabled ones in ascending h: V_h by the DFT over the cycle buffers, and then I_h (R104). -/
def harmonicRefs (s : State) (im : Image) (b : Block) (p : List Nat) : List Nat :=
  let cycles := cycleSamples s im b.bridge
  ((List.range 4).filter fun i => (nthF p 7).testBit i).flatMap fun i =>
    let v := harmonicPhasor cycles i
    kHarmonic v.1 v.2 (nthF p (8 + i)) (nthF p (12 + i))

/-! ### MOD (R172) -/

/-- The phase references of MOD's REF, by non-neutral or all phases as the form says: phase, v, and the set of AB2. -/
def modPhases (im : Image) (b : Block) (ref : List Nat) : List (Nat × Nat × Nat) :=
  let ph := bridgePhases im b.bridge
  match b.par 1 with
  | 0 => (ph.zipIdx).map fun p => (p.1.1, nthF ref p.2, 0)
  | 1 =>
    let live := ph.filter fun p => p.2.neutral == 0
    let vs := abzPhases (nthF ref 0) (nthF ref 1) (nthF ref 2)
    ph.map fun p => (p.1, if p.2.neutral = 1 then 0 else nthF vs ((live.map (·.1)).idxOf p.1), 0)
  | 2 =>
    (ph.zipIdx).map fun p =>
      let g := p.2 / 3
      (p.1.1, nthF (abzPhases (nthF ref (2 * g)) (nthF ref (2 * g + 1)) 0) (p.2 % 3), g)
  | _ => ph.map fun p => (p.1, nthF ref 0, 0)

/-- u0 of a set of phase voltages (R172). -/
def modOffset (form : Nat) (vs : List Nat) : Nat :=
  if form = 1 ∨ form = 2 then f32negate (fdiv (fadd (fmaxList vs) (fminList vs)) f32two) else 0

/-- The voltages of the cells of a phase's legs, from MOD's per-leg inputs in leg order (R172). -/
def phaseCells (im : Image) (b : Block) (cells : List Nat) (ph : Nat) : List Nat :=
  let legs := imageLegs im b.bridge
  (phaseLegs im ph).map fun n => nthF cells (legs.idxOf n)

/-- What the references of a phase may reach: V_DC/2, or half of what the phase's cells make up in MMC form (R172; the half DEDUCED, log entry
153). -/
def phaseReach (im : Image) (b : Block) (vdc : Nat) (cells : List Nat) (ph : Nat) : Nat :=
  if b.par 0 = 3 then fdiv ((phaseCells im b cells ph).foldl fadd 0) f32two else fdiv vdc f32two

/-- A leg goes before another in the order of cell voltages: lower voltage, then lower leg (R172). -/
def cellBefore (a b : Nat × Nat) : Bool := f32lt a.2 b.2 || (f32eq a.2 b.2 && decide (a.1 < b.1))

/-- Put a leg into the order of cell voltages. -/
def cellInsert (a : Nat × Nat) : List (Nat × Nat) → List (Nat × Nat)
  | [] => [a]
  | b :: bs => if cellBefore a b then a :: b :: bs else b :: cellInsert a bs

/-- The legs of a phase whose cells are inserted in MMC form: the n of lowest voltage while the arm charges, of highest while it discharges
(R172). How many and whether the arm charges are free values (log entry 153). -/
def mmcInserted (im : Image) (b : Block) (k w vdc : Nat) (cells : List Nat) (ph : Nat) : List Nat :=
  let vs := phaseCells im b cells ph
  let sorted := (((phaseLegs im ph).zip vs).foldl (fun l p => cellInsert p l) []).map (·.1)
  let n := Config.mmcCount w vdc vs % (sorted.length + 1)
  if Config.mmcCharging k ph then sorted.take n else sorted.drop (sorted.length - n)

/-- The leg references of all phases after the multiplication of v by g: phase, w. -/
def modRefs (b : Block) (g : Nat) (ph : List (Nat × Nat × Nat)) : List (Nat × Nat) :=
  let sc := b.par 2
  let u (grp : Nat) := modOffset (b.par 0) ((ph.filter (·.2.2 == grp)).map fun p => fmul sc (fmul g p.2.1))
  ph.map fun p => (p.1, fadd (fmul sc (fmul g p.2.1)) (u p.2.2))

/-- Safe duty of a leg (R172). -/
def safeDuty (im : Image) (n : Nat) : Nat := match im.legs[n]? with
  | some l => if l.safe.testBit 0 then 0x80000000 else 0
  | none => 0

/-- MOD's result: duties by leg with the safe mark, V_REAL, SAT, and whether V_REAL is written invalid. -/
structure ModOut where
  duties : List (Nat × Nat × Bool)
  real : List Nat
  sat : Bool
  bad : Bool
deriving DecidableEq, Repr

/-- Duty d = 0.5 + w/V_DC clamped to [0, 1], as U1.31 (R172, R208). -/
def dutyOf (w vdc : Nat) : Nat := (f32toFix (fclamp (fadd f32half (fdiv w vdc)) 0 f32one) 31).toNat

/-- The factor that brings every reference within its reach: the least of reach/|w| over the phases beyond theirs (R172), none where all are
within. -/
def modScale (im : Image) (b : Block) (vdc : Nat) (cells : List Nat) (w : List (Nat × Nat)) : Option Nat :=
  let reach := phaseReach im b vdc cells
  match w.filter fun p => f32lt (reach p.1) (f32abs p.2) with
  | [] => none
  | beyond => some (if b.par 0 = 3 then fminList (beyond.map fun p => fdiv (reach p.1) (f32abs p.2))
      else fdiv (fdiv vdc f32two) (fmaxList (w.map fun p => f32abs p.2)))

/-- MOD with references and DC link in frame k; `safe` forces the safe duties (R172). -/
def kMod (im : Image) (b : Block) (k : Nat) (ref : List Nat) (vdc : Nat) (cells : List Nat) (safe : Bool) : ModOut :=
  let legs := imageLegs im b.bridge
  if safe || !f32lt 0 vdc then
    { duties := legs.map fun n => (n, safeDuty im n, true), real := ref.map fun _ => 0, sat := true, bad := true }
  else
    let ph := modPhases im b ref
    let scale := modScale im b vdc cells (modRefs b f32one ph)
    let isOver := scale.isSome
    let g := scale.getD f32one
    let w := modRefs b g ph
    let duty (x n : Nat) : Nat :=
      let wx := ((w.find? (·.1 == x)).map (·.2)).getD 0
      if b.par 0 = 3 then (if (mmcInserted im b k wx vdc cells x).contains n then 0x80000000 else 0) else dutyOf wx vdc
    { duties := (bridgePhases im b.bridge).flatMap fun p => (phaseLegs im p.1).map fun n => (n, duty p.1 n, false)
      real := ref.map fun v => if isOver then fmul g v else v
      sat := isOver, bad := false }

/-! ### The kinds (R166) -/

/-- An output as a kind gives it: value, own OVERRANGE, VALID withheld, own UNSETTLED, and a status that replaces R154's. -/
structure OutCell where
  v : Nat
  ovr : Bool
  bad : Bool
  uns : Bool
  stat : Option Nat
deriving DecidableEq, Repr

/-- An output with its own OVERRANGE. -/
def OutCell.of (o : OutVal) : OutCell := { v := o.1, ovr := o.2, bad := false, uns := false, stat := none }

/-- What an evaluation gives beside outputs and state: duties, sample entries (code, status; R334), and requests of blocks that have no output for them: RAMP_STALL,
SYNC_TIMEOUT, a START outside WAIT. -/
structure KindRes where
  outs : List OutCell
  vars : List Nat
  duties : List (Nat × Nat × Bool)
  samples : List (Nat × Nat)
  stall : Bool
  syncLate : Bool
  notWait : Bool
deriving DecidableEq, Repr

/-- A kind without effects of its own. -/
def plainRes (o : KindOut) : KindRes :=
  { outs := o.outs.map OutCell.of, vars := o.vars, duties := [], samples := [], stall := false, syncLate := false, notWait := false }

/-- One value. -/
def oneOut (v : Nat) (ovr : Bool) (vars : List Nat) : KindRes := plainRes { outs := [(v, ovr)], vars := vars }

/-- Values without conditions of their own. -/
def outsOf (vs vars : List Nat) : KindRes := plainRes { outs := vs.map fun v => (v, false), vars := vars }

/-- The context of SYNC and PROFILE. -/
def formCtx (s : State) (im : Image) (b : Block) (fr : Frame) : FormCtx :=
  { fk := fr.fk, prevFk := fr.prevF, k := fr.k, ts := fr.ts, wb := omegaBase im b.bridge, mode := (f32toFix (s.wireBits 2) 0).toNat
    tripped := s.trips.view.testBit b.bridge
    nodeId := if s.get R.NODE_PAIR_PAIR_VALID = 1 then s.get R.NODE_PAIR_PAIR_ID else s.get R.NODE_IDENT_NODE
    fRef := peerParam s im 0x11 b.bridge 1, pRef := peerParam s im 0x11 b.bridge 0
    mP := ((im.peer 0x11 b.bridge).map (·.par 2)).getD 0
    vRef := peerParam s im 0x12 b.bridge 1 }

/-- FOC's clamp of one pair of voltage references to the limit that its V_DC input gives (R173): the pair, and whether it was clamped. -/
def focClamp (lim al be : Nat) : Nat × Nat × Bool :=
  let m := fmag al be
  if f32lt lim m then (fmul al (fdiv lim m), fmul be (fdiv lim m), true) else (al, be, false)

/-- Evaluate a block's kind: inputs flattened `x`, single inputs through `r`, parameters `p`, state `st`. -/
def evalKind (s : State) (im : Image) (b : Block) (fr : Frame) (r : Reads) (fault : Bool) (st : List Nat) : KindRes :=
  let x := flatInputs im b r
  let p := liveParams im b r
  let i (n : Nat) := nthF x n
  let ts := fr.ts
  match b.kind with
  | 0x01 => oneOut (kAdd (nthF p 0) 0 0 x) false []
  | 0x02 => oneOut (if nthF p 0 = 1 then fdiv (i 0) (i 1) else fmul (i 0) (i 1)) false []
  | 0x03 => let n := b.nIn / 2
            oneOut (kMac (nthF p 0) (p.drop 1) (x.take n) (x.drop n)) false []
  | 0x04 => outsOf (x.map (fmul (nthF p 1))) []
  | 0x05 => let (y, c) := kLimit (i 0) (inputD b r 1 (nthF p 0)) (inputD b r 2 (nthF p 1)) (nthF p 2) ts (nthF st 0)
            oneOut y c [y]
  | 0x06 => outsOf [if fhigh (i 0) then i 2 else i 3, fbool (fhigh (i 0) || fhigh (i 1))] []
  | 0x07 => let (y, c) := kLookup (i 0) (pairsOf p)
            oneOut y c []
  | 0x08 => outsOf (kClarke (i 0) (i 1) (i 2)) []
  | 0x09 => outsOf (kPark (i 0) (i 1) (i 2) (nthF p 0 == 1)) []
  | 0x0A => outsOf (kIpark (i 0) (i 1) (i 2) (nthF p 0 == 1)) []
  | 0x0B => plainRes (kSeq (i 0) (i 1) (i 2) (i 3) (nthF p 0) ts st)
  | 0x0C =>
    let track := (input? b r 3).filter fun _ => match inWire b 3 with
      | some w => (s.wireStat w).testBit 0
      | none => false
    plainRes (kPi (i 0) (i 1) (i 2) track (i 4) p ts st)
  | 0x0D => let wb := if namesForming im b.bridge then omegaBase im b.bridge else f32one
            plainRes (kPres (i 0) (i 1) (i 2) p wb ts st)
  | 0x0E => plainRes (kLeadlag (i 0) p ts st)
  | 0x0F => let (y, v) := kBiquad (i 0) p st
            oneOut y false v
  | 0x10 => plainRes (kSwing (i 0) (i 1) (input? b r 2) (i 3) (i 4) p ts st)
  | 0x11 => plainRes (kDroopp (i 0) (i 1) (i 2) (i 3) (i 4) (i 5) p ts st)
  | 0x12 => plainRes (kDroopq (i 0) (i 1) (i 2) (i 3) (i 4) p ts st)
  | 0x13 =>
    let w := (delayedW im b.bridge).elim f32one (sget 0 r.vals ·)
    let base := kVimp (i 0) (i 1) (i 2) (i 3) (i 4) (i 5) w p
    let last := if cycleUnsettled s im b.bridge || nthF st 0 == 0 then fr.fk + 1 else nthF st 1
    let uns := decide (fr.fk < last - 1 + cycleUnits im b.bridge)
    { outsOf base [1, last] with
      outs := base.map (fun v => OutCell.of (v, false))
        ++ (harmonicRefs s im b p).map fun v => { OutCell.of (v, false) with uns := uns } }
  | 0x14 =>
    let (rv, xv) := match im.peer 0x13 b.bridge with
      | some q => (q.par 0, q.par 1)
      | none => (0, 0)
    plainRes (kTvimp fr.fk ts (legsSwitching s b.bridge) rv xv x p st)
  | 0x15 => plainRes (kVreg (i 0) (i 1) (i 2) (inputD b r 2 f32one) p ts st)
  | 0x16 =>
    let f0 := ((im.bridgeRec? b.bridge).map (·.f0)).getD 0
    plainRes (kAngle (i 0) f0 fr.fk (fr.nextF - fr.fk) (anchorPermitted s) p st)
  | 0x17 =>
    let h := 2 * bridgeHarmonics im b.bridge
    plainRes (kCurlim (i 0) (i 1) (i 2) (i 3) (i 4) ((x.drop 5).take h) (i (5 + h)) (i (6 + h)) (legsSwitching s b.bridge) p ts st)
  | 0x18 => let (o, late) := kSync (formCtx s im b fr) x p st
            { plainRes o with syncLate := late }
  | 0x19 =>
    let n := refWidth im b
    let m := kMod im b fr.k (x.take n) (i n) (x.drop (n + 1)) (fault || (b.policy == 1 && !r.valid))
    { plainRes { outs := [], vars := [] } with
      duties := m.duties
      outs := m.real.map (fun v => { OutCell.of (v, m.sat) with bad := m.bad }) ++ [OutCell.of (fbool m.sat, false)] }
  | 0x1A => plainRes (kDcreg (i 0) (i 1) (i 2) (input? b r 3) p ts st)
  | 0x1B => let n := if nthF p 0 = 2 then 5 else 3
            let raw (j : Nat) := Config.blockValue 0x1B (nthF p 0) j x p (ts :: st)
            let pairs := (List.range (n / 2)).map fun j => focClamp (Config.focLimit (x.getLast?.getD 0)) (raw (2 * j)) (raw (2 * j + 1))
            let sat := pairs.any (·.2.2)
            plainRes
              { outs := pairs.flatMap (fun q => [(q.1, sat), (q.2.1, sat)]) ++ [(fbool sat, sat)]
                vars := [Config.blockValue 0x1B (nthF p 0) 1000 x p (ts :: st)] }
  | 0x1C =>
    if nthF p 0 = 0 then
      let o := kRamp (formCtx s im b fr) x p st
      { plainRes o.out with stall := o.stall, notWait := o.notWait }
    else
      let n := if nthF p 0 = 1 then 1 else 2
      { outsOf [] [Config.blockValue 0x1C (nthF p 0) 1000 x p (ts :: st)] with
        outs := (List.range n).map fun j =>
          OutCell.of (Config.blockValue 0x1C (nthF p 0) j x p (ts :: st),
            (j == n - 1) && Config.blockValue 0x1C (nthF p 0) (100 + j) x p (ts :: st) % 2 == 1) }
  | 0x1E =>
    let taken := s.fabric.samples.length
    let one (q : Nat × Nat) : Nat × Nat × Nat := match s.fabric.feed with
      | some l =>
        let e := l.getD (taken + q.2) (0, 0)
        (e.1, e.2, 0)
      | none =>
        let o := sampleOutput s fr.fk q.1
        (o.code % 2 ^ 24, sampleStatus o (nthF st q.2 == o.rep + 1), o.rep + 1)
    let outs := (p.zipIdx).map one
    { outsOf [] (outs.map fun o => o.2.2) with
      samples := outs.map fun o => (o.1, o.2.1)
      outs := (outs.zip p).map fun o =>
        { OutCell.of (sampleValue im o.2 { SenseOut.none with code := o.1.1 }, false) with stat := some o.1.2.1 } }
  | 0x1F => outsOf [] [fbool (fhigh (i 0))]
  | 0x20 => outsOf [] [fbool (fhigh (i 0))]
  | 0x21 =>
    let n := (b.nIn - 2) / 2
    let lo := 0xC25C0000
    let hi := 0x437A0000
    { outsOf [] [Config.blockValue 0x21 0 1000 x p (ts :: st)] with
      outs := (List.range n).map fun j =>
        let v := Config.blockValue 0x21 0 j x p (ts :: st) % 2 ^ 32
        OutCell.of (v, f32lt v lo || f32lt hi v) }
  | _ => outsOf [] st

/-- The bounds of an output's clamp, which R176 applies to the +0.0 that replaces a NaN. -/
def nanBounds (im : Image) (b : Block) (r : Reads) (j : Nat) : Option (Nat × Nat) :=
  let p := liveParams im b r
  match b.kind, j with
  | 0x05, 0 => some (inputD b r 1 (nthF p 0), inputD b r 2 (nthF p 1))
  | 0x0C, 0 => some (nthF p 3, nthF p 4)
  | 0x10, 0 => some (nthF p 4, nthF p 5)
  | 0x11, 1 => some (nthF p 4, nthF p 5)
  | 0x12, 1 => some (nthF p 4, nthF p 5)
  | 0x15, 0 => some (nthF p 3, nthF p 4)
  | 0x1A, 0 => some (0, f32one)
  | 0x1A, 1 => if nthF p 0 = 0 then some (f32negate (nthF p 5), nthF p 5) else none
  | 0x18, 0 => some (f32negate (nthF p 4), nthF p 4)
  | 0x1C, 0 => if nthF p 0 = 0 then some (0, f32one) else none
  | 0x1B, _ => some (0, 0)
  | _, _ => none

/-! ### Writing (R150, R153, R154) -/

/-- Replace a NaN or an infinity: the value, VALID withheld, OVERRANGE, and the counts of NaN and infinities (R153). -/
def replaced (v : Nat) : Nat × Bool × Bool × Nat × Nat :=
  if f32isNan v then (0, true, false, 1, 0)
  else if f32isInf v then ((if f32neg? v then 0xFF7FFFFF else 0x7F7FFFFF), false, true, 0, 1)
  else (v % 2 ^ 32, false, false, 0, 0)

/-- The value and status an output is written with, and the NaN and infinities replaced: `flat` its place among the flattened outputs. `allBad`
withholds VALID (a state variable was a NaN). -/
def cellWord (im : Image) (b : Block) (r : Reads) (valid allBad : Bool) (flat : Nat) (c : OutCell) : (Nat × Nat) × Nat × Nat :=
  let (v, nan, inf, nn, ni) := replaced c.v
  let (v, ovr) := if nan then (match nanBounds im b r flat with
      | some (lo, hi) => (fclamp 0 lo hi, f32lt 0 lo || f32lt hi 0)
      | none => (0, c.ovr)) else (v, c.ovr)
  let base := r.stat ||| (if ovr || inf then 4 else 0) ||| (if c.uns || r.held then 2 else 0)
  let ok := valid && !nan && !allBad && !c.bad
  let st := match c.stat with
    | some t => if nan then t - t % 2 else t ||| (if inf then 4 else 0)
    | none => base - base % 2 + (if ok then 1 else 0)
  ((v, st % 16), nn, ni)

/-- Write one output. -/
def writeCell (im : Image) (b : Block) (r : Reads) (valid allBad : Bool) (s : State) (w : Nat) (flat : Nat) (c : OutCell) : State :=
  let (x, nn, ni) := cellWord im b r valid allBad flat c
  let s := (s.bump R.FAB_NAN_NAN nn).bump R.FAB_NAN_INF ni
  { s with fabric := { s.fabric with wires := sset (0, 0) s.fabric.wires w x } }

/-- What TJEST hands the rainflow counting beside its wires, leg by leg (R175). -/
def tjestTake (s : State) (im : Image) (b : Block) (word : Nat → Nat × Nat) : State :=
  if b.kind ≠ 0x21 then s
  else { s with fabric := { s.fabric with
    tj := ((tjestLegs im b).zipIdx).foldl (fun m p => sset (0, 0) m p.1 (word p.2)) s.fabric.tj } }

/-- The wires of the outputs, flattened beside their cells: an unconnected output is not written. -/
def outTargets (im : Image) (b : Block) : List (Option Nat) :=
  ((kindPorts im b).2.zipIdx).flatMap fun p => (List.range p.1).map fun c => (outWire im b p.2).map (· + c)

/-- Write every output of a block and FAULT. -/
def writeOuts (s : State) (im : Image) (b : Block) (r : Reads) (valid allBad fault : Bool) (outs : List OutCell) : State :=
  let s := (((outTargets im b).zip outs).zipIdx).foldl (fun s p => match p.1.1 with
    | some w => writeCell im b r valid allBad s w p.2 p.1.2
    | none => s) s
  match outWire im b (kindPorts im b).2.length with
  | some w => writeCell im b r true allBad s w 1000 (OutCell.of (fbool fault, false))
  | none => s

/-- The state variables with NaN and infinities replaced where they are binary32 (R153), and how many of each were met. -/
def cleanVars (kind : Nat) (vars : List Nat) : List Nat × Nat × Nat :=
  let floats := (vars.zipIdx).filter fun p => floatVar kind p.2
  ((vars.zipIdx).map fun p => if floatVar kind p.2 then (replaced p.1).1 else p.1,
    floats.countP fun p => f32isNan p.1, floats.countP fun p => f32isInf p.1)

/-! ### Effects -/

/-- A protection request of SCOPE and TARGET, acting (R174, R233). -/
def tripRequest (s : State) (scope target cause fk : Nat) : State :=
  if scope = 0 then (if target < 96 then legTrip s target cause (fk * 256) else s)
  else if scope = 1 then phaseTrip s target cause (fk * 256)
  else if s.get (R.BRIDGE_CFG_PRESENT target) = 1 then bridgeTrip s target cause (fk * 256) else s

/-- Whether the request stands (X ≥ 0.5): the legs of SCOPE 0 and 1 keep it as a source with its cause, the bridge of SCOPE 2 as a cause. -/
def requestStands (s : State) (im : Image) (scope target cause : Nat) (on : Bool) : State :=
  let legs := if on = false then [] else if scope = 0 then [target] else if scope = 1 then phaseLegs im target else []
  let s := legs.foldl (fun s n => s.setLeg n { s.leg n with request := some ((s.leg n).request.getD cause) }) s
  if scope = 2 ∧ on then { s with fabric := { s.fabric with tripHigh := setBit s.fabric.tripHigh target true } } else s

/-- A TRIP block with X high or low; `was` its X in the evaluation before (R174). In REPLAY the request does not reach the trip
logic (R342). -/
def tripBlock (s : State) (im : Image) (slot scope target cause fk : Nat) (on was : Bool) : State :=
  let s := requestStands s im scope target cause on
  let s := if on ∧ s.mode ≠ 6 then tripRequest s scope target cause fk else s
  if on ∧ ¬ was then
    { s with fabric := { s.fabric with raised := s.fabric.raised ++
      [{ typ := 0x11, ph := 0, flow := 1023, tag := cause
         body := leBytes 2 slot ++ leBytes 1 scope ++ leBytes 1 target ++ leBytes 1 cause ++ [0, 0, 0] }] } }
  else s

/-- A TRIP block of the image reads the wire as its X for this bridge with this cause (R143). -/
def wiredTrip (im : Image) (b : Block) (j cause : Nat) : Bool := match outWire im b j with
  | some w => im.blocks.any fun t => t.kind == 0x20 && t.par 0 == 2 && t.par 1 == b.bridge && t.par 2 == cause && inWire t 0 == some w
  | none => false

/-- EVENT (R174). -/
def eventBlock (s : State) (b : Block) (r : Reads) (fr : Frame) (on was : Bool) : State :=
  let raise := match b.par 0 with
    | 0 => on && !was
    | 1 => !on && was
    | 2 => on != was
    | _ => on
  if raise then
    let d (n : Nat) := inputD b r (n + 1) 0
    let sd (n : Nat) := (inWire b (n + 1)).elim 0 s.wireStat
    let stat := sd 0 + 16 * sd 1 + 256 * sd 2 + 4096 * sd 3
    { s with fabric := { s.fabric with raised := s.fabric.raised ++
      [{ typ := 0x10, ph := b.par 2, flow := b.par 3, tag := b.par 1
         body := leBytes 8 fr.k ++ leBytes 2 b.slot ++ leBytes 2 stat ++ leBytes 4 0 ++ leBytes 4 (d 0) ++ leBytes 4 (d 1)
           ++ leBytes 4 (d 2) ++ leBytes 4 (d 3) }] } }
  else s

/-- Stage MOD's duties: the newest set of each leg (R172). -/
def stageDuties (s : State) (ds : List (Nat × Nat × Bool)) : State :=
  { s with fabric := { s.fabric with staged := (s.fabric.staged.filter fun e => !ds.any (·.1 == e.1)) ++ ds } }

/-- What a block's evaluation does beside its outputs. -/
def blockEffects (s : State) (im : Image) (b : Block) (fr : Frame) (r : Reads) (was : List Nat) (k : KindRes) : State :=
  let on := fhigh (nthF (flatInputs im b r) 0)
  let prev := fhigh (nthF was 0)
  match b.kind with
  | 0x19 => stageDuties s k.duties
  | 0x1E =>
    let s := if s.fabric.feed.isSome then s else
      ((b.params.zip k.samples).filter fun p => decide (128 ≤ p.1) && p.2.2.testBit 3).foldl (fun s p =>
        s.bump (R.DEC_RSr_CNT_LATE (p.1 - 128)) 1) s
    { s with fabric := { s.fabric with samples := s.fabric.samples ++ k.samples } }
  | 0x1F => eventBlock s b r fr on prev
  | 0x20 => tripBlock s im b.slot (b.par 0) (b.par 1) (b.par 2) fr.fk on prev
  | 0x14 =>
    let hi (j : Nat) := ((k.outs[j]?).map fun o => fhigh o.v).getD false
    let slip := hi 5
    let env := hi 4
    let s := if slip && !wiredTrip im b 4 0x22 then tripBlock s im b.slot 2 b.bridge 0x22 fr.fk true (nthF was 7 == 4) else s
    if env && !wiredTrip im b 3 0x23 then tripBlock s im b.slot 2 b.bridge 0x23 fr.fk true (fhigh (nthF was 8)) else s
  | 0x18 => if k.syncLate then tripBlock s im b.slot 2 b.bridge 0x21 fr.fk true (fhigh (nthF was 8)) else s
  | 0x1C =>
    let s := if k.stall then tripBlock s im b.slot 2 b.bridge 0x20 fr.fk true false else s
    if k.notWait then deadLetter s 3 1 (nthF was 10) b.bridge (nthF was 11) (nthF was 12) (sget [] s.fabric.startItems b.bridge) else s
  | _ => s

/-! ### One block in one frame (R155, R156, R159) -/

/-- The state of the block in a slot. -/
def blkState (s : State) (slot : Nat) : BlkState := sget BlkState.idle s.fabric.blocks slot
/-- Set the state of the block in a slot. -/
def setBlk (s : State) (slot : Nat) (x : BlkState) : State :=
  { s with fabric := { s.fabric with blocks := sset BlkState.idle s.fabric.blocks slot x } }

/-- DELAY captures its input at its place in the order (R159). -/
def delayCapture (s : State) (b : Block) : State :=
  match inWire b 0 with
  | none => s
  | some w =>
    let x := blkState s b.slot
    setBlk s b.slot { x with stages := (sget (0, 0) s.fabric.wires w :: x.stages).take (max 1 (b.par 0)) }

/-- DELAY updates its output at step 1 of R156. -/
def delayUpdate (im : Image) (s : State) (b : Block) : State :=
  match outWire im b 0, (blkState s b.slot).stages.getLast? with
  | some w, some v => { s with fabric := { s.fabric with wires := sset (0, 0) s.fabric.wires w v } }
  | _, _ => s

/-- A stateful block under PASS that reads an invalid wire keeps its outputs with VALID = 0 and its state (R155). -/
def keepOuts (s : State) (im : Image) (b : Block) (r : Reads) : State :=
  (writtenWires im b).foldl (fun s w =>
    let v := (sget (0, 0) s.fabric.wires w).1
    { s with fabric := { s.fabric with wires := sset (0, 0) s.fabric.wires w (v, (r.stat - r.stat % 2) % 16) } }) s

/-- Evaluate one block (R155, R156 step 3). -/
def evalBlock (im : Image) (k : Nat) (s : State) (b : Block) : State :=
  let fr := frameOfGroup im.frate k (groupDiv im b.group)
  if b.kind = 0x1D then delayCapture s b
  else
    let x := blkState s b.slot
    let r := readAll s im b x
    if b.policy = 1 ∧ statefulKind b ∧ r.valid = false then
      setBlk (tjestTake (keepOuts s im b r) im b fun j => ((sget (0, 0) s.fabric.tj ((tjestLegs im b).getD j 96)).1, (r.stat - r.stat % 2) % 16))
        b.slot x
    else
      let fault := b.policy == 0 && !r.valid && (x.fault || decide (b.holdFr ≤ r.longest))
      let res := evalKind s im b fr r fault x.vars
      let (vars, nn, ni) := cleanVars b.kind res.vars
      let s := (s.bump R.FAB_NAN_NAN nn).bump R.FAB_NAN_INF ni
      let valid := if b.policy = 0 then true else r.valid
      let s := writeOuts s im b r valid (decide (0 < nn)) fault res.outs
      let s := tjestTake s im b fun j => (res.outs[j]?).elim (0, 0) fun c => (cellWord im b r valid (decide (0 < nn)) j c).1
      let s := setBlk s b.slot { x with vars := vars, held := r.table, fault := fault }
      blockEffects s im b fr r x.vars res

/-- The block's group is due in frame k (R160). -/
def blockDue (im : Image) (k : Nat) (b : Block) : Bool :=
  groupDiv im b.group != 0 && k % groupDiv im b.group == 0

/-- The blocks due in frame k, in image order (R156). -/
def dueBlocks (im : Image) (k : Nat) : List Block := im.blocks.filter (blockDue im k)

/-- Steps 1 and 3 of R156 about a middle step that writes the commands. -/
def evalFrame (s : State) (im : Image) (k : Nat) (commands : State → State) : State :=
  let due := dueBlocks im k
  let s := (due.filter (·.kind == 0x1D)).foldl (delayUpdate im) s
  let s := commands s
  let s := { s with fabric := { s.fabric with tripHigh := 0 } }
  let s := (List.range 96).foldl (fun s n => if (s.leg n).request.isSome then s.setLeg n { s.leg n with request := none } else s) s
  let s := (im.blocks.filter fun b => b.kind == 0x20 && !blockDue im k b).foldl (fun s b =>
    requestStands s im (b.par 0) (b.par 1) (b.par 2) (fhigh (nthF (blkState s b.slot).vars 0))) s
  due.foldl (evalBlock im k) s

end Sys2Proof.Machine
end

