-- ==== Sys2Proof/Machine/Flight.lean ====
section
/-!
DEFINITION. What a frame leaves behind: the frame hash, FRAME and CHECKPOINT items, their coding and their reading back
(spec/06_fabric.md R183; spec/12_capture.md R331 to R336).
-/
namespace Sys2Proof.Machine

/-! ### The frame hash (R183) -/

/-- The words a load-all writes for leg n: staged duty, phase and period. For a host-sourced bridge, those that MOD produced with the image's
phase and period (R216). -/
def loadWords (s : State) (im : Image) (n : Nat) : Nat × Nat × Nat :=
  if s.get (R.LEGn_CFG_ASSIGNED n) = 1 ∧ s.get (R.BRIDGE_CTRL_SRC (legBridge s n)) = 1 then
    let ph := (im.legs[n]?.map (·.phase)).getD 255
    (((s.fabric.staged.find? (·.1 == n)).map (·.2.1)).getD 0, (im.phases[ph]?.map (·.cphase)).getD 0,
      ((im.bridgeRec? (legBridge s n)).map (·.period)).getD 0)
  else (s.get (R.LEGn_DUTY_DUTY n), s.get (R.LEGn_PHASE_PHASE n), s.get (R.LEGn_PERIOD_PERIOD n))

/-- What the hash is taken over: wires, staged words, bodies of the frame's EVENT and TRIP envelopes. -/
def hashInput (s : State) (im : Image) : Bytes :=
  (List.range 8192).flatMap (fun w => leBytes 4 (s.wireBits w) ++ leBytes 1 (s.wireStat w % 16))
    ++ (List.range 96).flatMap (fun n =>
      let (d, p, t) := loadWords s im n
      leBytes 4 d ++ leBytes 4 p ++ leBytes 4 t)
    ++ s.fabric.raised.flatMap (·.body)

/-- The hash of the frame in evaluation. -/
def frameHash (s : State) (im : Image) : Nat := crc64 (hashInput s im)

/-! ### Sample entries (R335) -/

/-- One sample entry after the two previous codes and the previous status of its position: the shortest form that applies. -/
def codeEntry (x1 x2 st0 x st : Nat) : Bytes :=
  let p : Nat := (2 * x1 + 2 ^ 24 - x2) % 2 ^ 24
  let r := signed 24 ((x + 2 ^ 24 - p) % 2 ^ 24)
  if st = st0 ∧ -64 ≤ r ∧ r ≤ 63 then leBytes 1 (unsigned 7 r)
  else if st = st0 ∧ -8192 ≤ r ∧ r ≤ 8191 then beBytes 2 (0x8000 + unsigned 14 r)
  else if st = st0 ∧ -1048576 ≤ r ∧ r ≤ 1048575 then beBytes 3 (0xC00000 + unsigned 21 r)
  else leBytes 1 (0xE0 + st % 16) ++ leBytes 3 x

/-- Code the entries of a frame by position, with the coder's new state. -/
def codeEntries (m : Sparse (Nat × Nat × Nat)) : Nat → List (Nat × Nat) → Bytes × Sparse (Nat × Nat × Nat)
  | _, [] => ([], m)
  | i, (x, st) :: es =>
    let (x1, x2, st0) := sget (0, 0, 0) m i
    let bs := codeEntry x1 x2 st0 x st
    let (rest, m') := codeEntries (sset (0, 0, 0) m i (x, x1, st)) (i + 1) es
    (bs ++ rest, m')

/-- Read one entry back: code, status, the bytes that follow. -/
def readEntry (x1 x2 st0 : Nat) (bs : Bytes) : Nat × Nat × Bytes :=
  let p : Nat := (2 * x1 + 2 ^ 24 - x2) % 2 ^ 24
  let b := leNat (bs.take 1)
  let at_ (r : Int) : Nat := unsigned 24 (p + r)
  if b < 128 then (at_ (signed 7 b), st0, bs.drop 1)
  else if b < 192 then (at_ (signed 14 (beNat (bs.take 2) % 2 ^ 14)), st0, bs.drop 2)
  else if b < 224 then (at_ (signed 21 (beNat (bs.take 3) % 2 ^ 21)), st0, bs.drop 3)
  else (leNat ((bs.drop 1).take 3), b % 16, bs.drop 4)

/-- Read `n` entries from position `i`: the entries, the bytes that follow, the coder. -/
def readEntries (m : Sparse (Nat × Nat × Nat)) : Nat → Nat → Bytes → List (Nat × Nat) × Bytes × Sparse (Nat × Nat × Nat)
  | _, 0, bs => ([], bs, m)
  | i, n + 1, bs =>
    let (x1, x2, st0) := sget (0, 0, 0) m i
    let (x, st, bs) := readEntry x1 x2 st0 bs
    let (es, bs, m) := readEntries (sset (0, 0, 0) m i (x, x1, st)) (i + 1) n bs
    ((x, st) :: es, bs, m)

/-! ### FRAME items (R334) -/

/-- SYS of Table CP-8: system wires 2 and 4 to 7 as the frame read them. -/
def sysWord (s : State) : Nat :=
  let v (w : Nat) := (f32toFix (s.wireBits w) 0).toNat
  v 2 % 8 + (v 4 % 8) * 8 + (v 5 % 4) * 64 + (v 6 % 2) * 256 + (v 7 % 2) * 512

/-- The wire of a safety command target reads 0.5 or more as applied (R371). -/
def targetOn (s : State) (im : Image) (id : Nat) : Bool := match im.targets.find? (·.id == id) with
  | some t => t.kind == 0 && f32le f32half (s.wireBits t.ref)
  | none => false

/-- A mask of flags. -/
def maskOf (n : Nat) (f : Nat → Bool) : Nat := (List.range n).foldl (fun m i => setBit m i (f i)) 0

/-- DISC of Table CP-8: bridge-trip states, feedback-contact inputs, safety-input off-demands as the frame applied them. -/
def discWord (s : State) (im : Image) : Nat :=
  s.trips.view % 65536 + maskOf 8 (fun f => targetOn s im (0xFF20 + f)) * 65536
    + maskOf 8 (fun i => targetOn s im (0xFF00 + i)) * 16777216

/-- One resampler entry: RCH, STAT, J, CODE. -/
def rsEntry (e : Nat × Nat × SenseOut) : Bytes :=
  leBytes 1 e.1 ++ leBytes 1 e.2.2.stat ++ leBytes 2 e.2.1 ++ leBytes 4 e.2.2.code

/-- Padding to a multiple of `n`. -/
def padTo (n : Nat) (bs : Bytes) : Bytes := bs ++ List.replicate ((n - bs.length % n) % n) 0

/-- The fields of Table CP-8 from HASH to the reserved u16. -/
def frameFields (hash sys disc nsamp nrs ncmd : Nat) : Bytes :=
  leBytes 8 hash ++ leBytes 4 sys ++ leBytes 4 disc ++ leBytes 2 nsamp ++ leBytes 2 nrs ++ leBytes 2 ncmd ++ [0, 0]

/-- The command entries of the frame. -/
def commandEntries (s : State) : Bytes := s.fabric.written.flatMap fun c => commandEntry c.target c.source (clampedValue s c) c.t

/-- Write the FRAME item of the frame completed: HASH 0 with FAULTED; LAPSE where POST_TIG.HELD is 0 (R332, R334, R335). -/
def writeFrameItem (s : State) (im : Image) (k hash : Nat) (faulted : Bool) : State :=
  let flags := (if faulted then 1 else 0) + (if s.get R.POST_TIG_HELD = 0 then 2 else 0)
  let (es, coder) := codeEntries s.capture.coder 0 s.fabric.samples
  let s := { s with capture := { s.capture with coder := coder } }
  let body := frameFields (if faulted then 0 else hash) (sysWord s) (discWord s im) s.fabric.samples.length
    s.sense.frameOuts.length s.fabric.written.length
  let body := padTo 8 (padTo 4 (body ++ es) ++ s.sense.frameOuts.flatMap rsEntry) ++ commandEntries s
  frFrame s flags k body

/-! ### CHECKPOINT items (R336) -/

/-- The slots in use, ascending. -/
def slotOrder (im : Image) : List Block :=
  (List.range 1024).filterMap fun i => im.blocks.find? (·.slot == i)

/-- Bytes of one state variable: a binary32 word where the equations name one, 8 bytes where a variable is a postmark or a phase (DEDUCED,
log entry 73). -/
def varBytes (kind : Nat) : Nat := if floatState kind then 4 else 8

/-- A block's state in a CHECKPOINT: variables, DELAY stages, FAULT, held inputs. -/
def blkBytes (b : Block) (x : BlkState) : Bytes :=
  x.vars.flatMap (leBytes (varBytes b.kind)) ++ x.stages.flatMap (fun v => leBytes 4 v.1 ++ leBytes 4 v.2)
    ++ leBytes 4 (if x.fault then 1 else 0)
    ++ x.held.flatMap fun h => leBytes 4 h.1 ++ leBytes 4 (if h.2.1.isSome then 1 else 0) ++ leBytes 4 (h.2.1.getD 0) ++ leBytes 4 h.2.2

/-- Split bytes into pieces of `n`. -/
def pieces (n : Nat) (bs : Bytes) : List Bytes := (List.range (bs.length / n)).map fun i => (bs.drop (n * i)).take n

/-- Read a block's state back. -/
def blkRead (im : Image) (b : Block) (bs : Bytes) : BlkState :=
  let nv := (initVars im b).length * varBytes b.kind
  let ns := (initBlock im b).stages.length * 8
  { vars := (pieces (varBytes b.kind) (bs.take nv)).map leNat
    stages := (pieces 8 ((bs.drop nv).take ns)).map fun p => (leNat (p.take 4), leNat (p.drop 4))
    fault := leNat ((bs.drop (nv + ns)).take 4) == 1
    held := (pieces 16 (bs.drop (nv + ns + 4))).map fun p =>
      (leNat (p.take 4), (if leNat ((p.drop 4).take 4) = 1 then some (leNat ((p.drop 8).take 4)) else none, leNat ((p.drop 12).take 4))) }

/-- The body of a CHECKPOINT: FRATE, wires, status bytes, blocks, cycle buffers, CURLIM budgets and debts. -/
def ckpBody (s : State) (im : Image) : Bytes :=
  leBytes 4 im.frate
    ++ (List.range 8192).flatMap (fun w => leBytes 4 (s.wireBits w))
    ++ (List.range 8192).flatMap (fun w => leBytes 1 (s.wireStat w % 16))
    ++ (slotOrder im).flatMap (fun b =>
      let bs := blkBytes b (blkState s b.slot)
      leBytes 2 b.slot ++ leBytes 2 bs.length ++ bs)
    ++ im.resamplers.flatMap (fun r =>
      let x := sget Resampler.idle s.sense.resamplers r.rch
      (List.range (2 ^ r.logn)).flatMap fun j =>
        let o := sget SenseOut.none x.buffer j
        leBytes 4 o.code ++ leBytes 4 o.stat)
    ++ ((slotOrder im).filter (·.kind == 0x17)).flatMap (fun b => leBytes 4 ((blkState s b.slot).vars.headD 0))
    ++ (List.range 96).flatMap fun n => leBytes 4 (s.get (R.LEGn_DEBT_D n))

/-- Load the blocks of a CHECKPOINT: the state and the bytes that follow. -/
def ckpBlocks (im : Image) : List Block → State × Bytes → State × Bytes
  | [], p => p
  | b :: bl, (s, bs) =>
    let n := leNat ((bs.drop 2).take 2)
    ckpBlocks im bl (setBlk s b.slot (blkRead im b ((bs.drop 4).take n)), bs.drop (4 + n))

/-- Load the cycle buffers of a CHECKPOINT. -/
def ckpBuffers : List ResRec → State × Bytes → State × Bytes
  | [], p => p
  | r :: rs, (s, bs) =>
    let n := 2 ^ r.logn
    let buf := ((pieces 8 (bs.take (8 * n))).zipIdx).foldl (fun m p =>
      sset SenseOut.none m p.2 { SenseOut.none with code := leNat (p.1.take 4), stat := leNat (p.1.drop 4) % 256 }) []
    let s := { s with sense := { s.sense with
      resamplers := smod Resampler.idle s.sense.resamplers r.rch fun x => { x with buffer := buf } } }
    ckpBuffers rs (s, bs.drop (8 * n))

/-- Load a CHECKPOINT body into the fabric (R340, R366). -/
def ckpLoad (s : State) (im : Image) (body : Bytes) : State :=
  let vals := pieces 4 ((body.drop 4).take 32768)
  let stats := (body.drop 32772).take 8192
  let wires := ((vals.zip stats).zipIdx).foldl (fun m p => sset (0, 0) m p.2 (leNat p.1.1, p.1.2.toNat)) []
  let s := { s with fabric := { s.fabric with wires := wires } }
  (ckpBuffers im.resamplers (ckpBlocks im (slotOrder im) (s, body.drop 40964))).1

/-- The first slot whose state differs between a body and the fabric (R340); 0x7FF for none. -/
def ckpDiffers (s : State) : List Block → Bytes → Nat
  | [], _ => 0x7FF
  | b :: bl, bs =>
    let n := leNat ((bs.drop 2).take 2)
    if (bs.drop 4).take n = blkBytes b (blkState s b.slot) then ckpDiffers s bl (bs.drop (4 + n)) else b.slot

/-- A CHECKPOINT item of frame k; the coder starts afresh (R331, R335). -/
def writeCheckpoint (s : State) (k : Nat) (body : Bytes) : State :=
  let s := frAppend s 1 (if s.get R.POST_TIG_HELD = 0 then 2 else 0) k body
  { s with capture := { s.capture with coder := [], ckpDue := false } }

/-- A CHECKPOINT is due at frame k: after HOLD is cleared, or at a multiple of 4,096 × 2^CKPLOG (R331). -/
def ckpDueAt (s : State) (k : Nat) : Bool :=
  s.capture.ckpDue || k % (4096 * 2 ^ s.get R.CAP_FRCFG_CKPLOG) == 0

/-- The items of a completed frame: its CHECKPOINT where one is due, then its FRAME item (R331); the hold count runs down (R337). -/
def recordFrame (s : State) (im : Image) (k hash : Nat) (faulted : Bool) : State :=
  let s := autoholdStop s
  if s.get R.CAP_FRCFG_HOLD = 1 then s
  else
    let s := match s.fabric.start with
      | some body => if s.fabric.base || ckpDueAt s k then writeCheckpoint s k body else s
      | none => s
    holdTick (writeFrameItem s im k hash faulted)

end Sys2Proof.Machine
end

