-- ==== Sys2Proof/Machine/SafetyRec.lean ====
section
/-!
DEFINITION. The records of the SAFETY section (spec/14_safety.md Tables SF-2, SF-4, SF-6, SF-11), and the requests of contactor outputs as frames
leave them (R379).
-/
namespace Sys2Proof.Machine

/-- The SAFETY section of the active image. -/
def safetySect (s : State) : List Nat := match s.image with
  | some im => im.safety
  | none => []

/-- A byte of a section. -/
def sb (h : List Nat) (i : Nat) : Nat := h.getD i 0
/-- A 16-bit field of a section. -/
def sb16 (h : List Nat) (i : Nat) : Nat := sb h i + 256 * sb h (i + 1)
/-- A 32-bit field of a section. -/
def sb32 (h : List Nat) (i : Nat) : Nat := sb16 h i + 65536 * sb16 h (i + 2)

/-! ### Safety inputs (Table SF-2) -/

/-- FUNC of input i. -/
def inFunc (h : List Nat) (i : Nat) : Nat := sb h (16 + 8 * i)
/-- ANTIVALENT. -/
def inAnti (h : List Nat) (i : Nat) : Bool := (sb h (17 + 8 * i)).testBit 0
/-- LATCH. -/
def inLatch (h : List Nat) (i : Nat) : Bool := (sb h (17 + 8 * i)).testBit 1
/-- WAKE. -/
def inWake (h : List Nat) (i : Nat) : Bool := (sb h (17 + 8 * i)).testBit 2
/-- REACT. -/
def inReact (h : List Nat) (i : Nat) : Nat := sb h (18 + 8 * i)
/-- CMASK. -/
def inMask (h : List Nat) (i : Nat) : Nat := sb h (19 + 8 * i) % 16
/-- FILT. -/
def inFilt (h : List Nat) (i : Nat) : Nat := sb h (20 + 8 * i)
/-- DISC. -/
def inDisc (h : List Nat) (i : Nat) : Nat := sb h (21 + 8 * i)
/-- PARAM. -/
def inParam (h : List Nat) (i : Nat) : Nat := sb16 h (22 + 8 * i)

/-- The input of a FUNC that the section uses (PLUG and INSULATION occur at most once, R374). -/
def inputOf (h : List Nat) (func : Nat) : Option Nat := (List.range 8).find? fun i => inFunc h i == func
/-- The PLUG input. -/
def plugInput (h : List Nat) : Option Nat := inputOf h 4
/-- The INSULATION input. -/
def isoInput (h : List Nat) : Option Nat := inputOf h 6

/-! ### Contactor outputs (Table SF-4) -/

/-- USE of output n. -/
def outUse (h : List Nat) (n : Nat) : Bool := sb h (80 + 16 * n) == 1
/-- TP_EN. -/
def outTpEn (h : List Nat) (n : Nat) : Bool := (sb h (81 + 16 * n)).testBit 0
/-- TP_LEN in µs. -/
def outTpLen (h : List Nat) (n : Nat) : Nat := sb16 h (82 + 16 * n)
/-- TP_INT in 100 ms. -/
def outTpInt (h : List Nat) (n : Nat) : Nat := sb16 h (84 + 16 * n)
/-- T_FB in ms. -/
def outTfb (h : List Nat) (n : Nat) : Nat := sb16 h (86 + 16 * n)
/-- T_OPEN in ms. -/
def outTopen (h : List Nat) (n : Nat) : Nat := sb16 h (88 + 16 * n)
/-- FBMASK. -/
def outFbMask (h : List Nat) (n : Nat) : Nat := sb h (90 + 16 * n)
/-- REQWIRE. -/
def outReqWire (h : List Nat) (n : Nat) : Nat := sb16 h (92 + 16 * n)

/-! ### Feedback (Table SF-6) -/

/-- USE of feedback f. -/
def fbUse (h : List Nat) (f : Nat) : Nat := sb h (144 + 4 * f)

/-! ### Connections (Table SF-11) -/

/-- Connection j is defined: its CONN is not 0. -/
def connDefined (h : List Nat) (j : Nat) : Bool := sb16 h (176 + 32 * j) != 0
/-- CONN. -/
def connId (h : List Nat) (j : Nat) : Nat := sb16 h (176 + 32 * j)
/-- DIR = 1: a send connection. -/
def connSends (h : List Nat) (j : Nat) : Bool := connDefined h j && sb h (178 + 32 * j) == 1
/-- A receive connection. -/
def connReceives (h : List Nat) (j : Nat) : Bool := connDefined h j && sb h (178 + 32 * j) == 0
/-- BUS. -/
def connBus (h : List Nat) (j : Nat) : Nat := sb h (179 + 32 * j)
/-- ADDR. -/
def connAddr (h : List Nat) (j : Nat) : Nat := sb32 h (180 + 32 * j)
/-- SECRET. -/
def connSecret (h : List Nat) (j : Nat) : Nat := sb32 h (184 + 32 * j)
/-- TEXP in 100 µs. -/
def connTexp (h : List Nat) (j : Nat) : Nat := sb16 h (188 + 32 * j)
/-- TCYC in 100 µs. -/
def connTcyc (h : List Nat) (j : Nat) : Nat := sb16 h (190 + 32 * j)
/-- REACT. -/
def connReact (h : List Nat) (j : Nat) : Nat := sb h (192 + 32 * j)
/-- LATCH. -/
def connLatch (h : List Nat) (j : Nat) : Bool := (sb h (193 + 32 * j)).testBit 0
/-- TMODE. -/
def connTmode (h : List Nat) (j : Nat) : Bool := (sb h (193 + 32 * j)).testBit 1
/-- CMASK. -/
def connMask (h : List Nat) (j : Nat) : Nat := sb h (194 + 32 * j) % 16
/-- SEQWIN. -/
def connSeqwin (h : List Nat) (j : Nat) : Nat := sb h (195 + 32 * j)
/-- T_SS1. -/
def connTss1 (h : List Nat) (j : Nat) : Nat := sb16 h (196 + 32 * j)

/-- Connection j of the state. -/
def State.conn (s : State) (j : Nat) : Conn := sget Conn.idle s.safety.conns j
/-- Set connection j. -/
def State.setConn (s : State) (j : Nat) (c : Conn) : State :=
  { s with safety := { s.safety with conns := sset Conn.idle s.safety.conns j c } }

/-- Contactor output n of the state. -/
def State.contactor (s : State) (n : Nat) : Contactor := sget Contactor.off s.safety.outs n
/-- Set contactor output n. -/
def State.setContactor (s : State) (n : Nat) (c : Contactor) : State :=
  { s with safety := { s.safety with outs := sset Contactor.off s.safety.outs n c } }

/-! ### Requests of the outputs (R379) -/

/-- A demand that has reached output n and still holds it off. -/
def demandHolds (s : State) (n : Nat) : Bool :=
  s.safety.demands.any fun d => d.cmask.testBit n && !d.toOpen.testBit n && (d.live || d.latch)

/-- At the end of a frame: an output that a demand has held off may come on again once its request has read below 0.5 with the demand ended. -/
def contactorFrame (s : State) : State :=
  (List.range 4).foldl (fun s n =>
    let c := s.contactor n
    if c.heldOff ∧ demandHolds s n = false ∧ f32lt (s.wireBits (outReqWire (safetySect s) n)) f32half then
      s.setContactor n { c with heldOff := false }
    else s) s

end Sys2Proof.Machine
end

