-- ==== Sys2Proof/Machine/Sense.lean ====
section
/-!
DEFINITION. Sense channels: decimation, represented instants, banks and fades, over-range and loss, the calibration rotation, the
resampler (spec/10_sensing.md R258 to R289).
-/
namespace Sys2Proof.Machine

/-! ### Decimation (R267, R268) -/

/-- One value through the integrators. -/
def integrate (x : Int) : List Int → List Int
  | [] => []
  | i :: is => (i + x) :: integrate (i + x) is

/-- One value through the combs: the result and their new state. -/
def combs (x : Int) : List Int → Int × List Int
  | [] => (x, [])
  | c :: cs =>
    let (y, cs') := combs (x - c) cs
    (y, x :: cs')

/-- A list of K zeros where a stage holds no history. -/
def stagesOf (k : Nat) (l : List Int) : List Int := if l.length = k then l else List.replicate k 0

/-- R modulator periods through the sinc stage: one value of the delay line, which keeps the last 191. -/
def sincOut (k : Nat) (xs : List Int) (p : Path) : Path :=
  let integ := xs.foldl (fun i x => integrate x i) (stagesOf k p.integ)
  let (y, comb) := combs (integ.getLast?.getD 0) (stagesOf k p.comb)
  { p with integ := integ, comb := comb, line := (y :: p.line).take 191 }

/-- An exact quotient rounded to nearest, ties to even. -/
def roundEven (a : Int) (d : Nat) : Int :=
  let q := a / (d : Int)
  let r := (a - q * d) * 2
  if r < d then q else if (d : Int) < r then q + 1 else if q % 2 = 0 then q else q + 1

/-- Clamp to 24 bits: the code and whether it was clamped. -/
def clampCode (v : Int) : Int × Bool :=
  if v < -8388608 then (-8388608, true) else if 8388607 < v then (8388607, true) else (v, false)

/-- A response over the delay line: taps 1 for BYPASS, 1, 2, 1 for FAST, eight equal ones for BOX8, each with unit sum (DEDUCED, log
entry 84); the others are free values of the ROM. `norm` is R^K. -/
def respond (resp norm : Nat) (line : List Int) : Int × Bool :=
  let x (i : Nat) : Int := line.getD i 0
  let v := if resp = 0 then roundEven (x 0) norm
    else if resp = 30 then roundEven (x 0 + 2 * x 1 + x 2) (4 * norm)
    else if resp = 31 then roundEven ((List.range 8).foldl (fun a i => a + x i) 0) (8 * norm)
    else Config.romResponse resp ((norm : Int) :: line)
  clampCode v

/-! ### Bitstreams (R261, R274) -/

/-- One bit of a bitstream: the run of equal bits, and whether the last 32 bits hold more than 30 ones or fewer than 2. -/
def bitStep (p : Path) (b : Bool) : Path :=
  let bits := (b :: p.bits).take 32
  let ones := bits.countP id
  let isOver := bits.length == 32 && (decide (30 < ones) || decide (ones < 2))
  { p with
    bits := bits
    run := if p.bits.head? = some b then p.run + 1 else 1
    overAge := if isOver then some 0 else p.overAge.map (· + 1) }

/-- Modulator periods in the span of an output: those its sinc and response weights draw on (R273), in a fade the weights of both banks. -/
def pathSpan (s : State) (p : Nat) : Nat :=
  let r := s.get (R.DEC_PATHp_CFG_R p)
  let l := match (s.path p).fade with
    | some (_, _, b) => max (romL (activeResp s p)) (romL (bankResp s p b))
    | none => romL (activeResp s p)
  s.get (R.DEC_PATHp_CFG_K p) * (r - 1) + 1 + (l - 1) * r

/-- Set a channel's bit of SN_LOSTm. -/
def setLost (s : State) (p : Nat) (v : Bool) : State :=
  let f := R.SN_LOSTm_CH (p / 32)
  (s.put f (setBit (s.get f) (p % 32) v)).setPath p { s.path p with lost := v }

/-- LOST begins on a bitstream channel with an image path (R258, R274). -/
def bitstreamLost (s : State) (p : Nat) : State :=
  if s.get (R.DEC_PATHp_CFG_DEFINED p) = 1 ∧ s.get R.SN_STATUS_RUN = 1 ∧ p < 96 then
    setLost (s.setPath p { s.path p with overAge := some 0 }) p true
  else s

/-- LOST ends: the path restarts and marks U outputs (R269, R274). -/
def lostEnd (s : State) (p : Nat) : State := if (s.path p).lost then pathUnsettle (setLost s p false) p else s

/-! ### Slices (R262, R273, R276) -/

/-- The physical slice that feeds path p, a slice path: its source's slice, or the spare (24) that stands in for it. -/
def feedingSlice (s : State) (p : Nat) : Nat :=
  let n := pathSlice s p
  if s.sense.subst = some n then 24 else n

/-- The reference group that a slice uses: the spare uses that of the slice of the present step (R276). -/
def sliceGroup (s : State) (n : Nat) : Nat :=
  if n = 24 then (s.sense.subst.getD (s.get R.SN_CAL_STEP)) / 6 else n / 6

/-- D1 ticks as elapsed time at the nominal rate. -/
def tickTime (n : Nat) : Nat := n * 2 ^ 72 / 1200000000

/-- An overload interval touches an output's span that ends now, after the interval is extended by `ext` (R273). -/
def touches (s : State) (span ext : Nat) (o : Overload) : Bool :=
  decide (o.start ≤ s.time.elapsed) && decide (s.time.elapsed ≤ o.stop + span + ext)

/-- Detection of an overload on a slice now (R273): the interval runs from the first of 4 saturated periods to the end of the reset of 16
periods. -/
def sliceOverload (s : State) (n : Nat) (positive : Bool) : State :=
  match s.image with
  | none => s
  | some im =>
    let per := (im.groups.getD (sliceGroup s n) ⟨0, 0⟩).ps
    if s.get R.SN_STATUS_RUN = 0 ∨ s.get (R.SN_GRPg_EN (sliceGroup s n)) = 0 then s
    else
      let now := s.time.elapsed
      let o : Overload := { slice := n, start := now - tickTime (4 * per), stop := now + tickTime (16 * per), positive := positive }
      { s with sense := { s.sense with overloads := (s.sense.overloads.filter fun x => decide (now ≤ x.stop + 2 ^ 72)) ++ [o] } }

/-! ### Banks (R270) -/

/-- Number of banks of path p. -/
def pathNbank (s : State) (p : Nat) : Nat := match s.image.bind (·.pathRec? p) with
  | some r => r.nbank
  | none => 0

/-- A bank request accepted for frame k (R270). -/
def bankAccepted (s : State) (p b source pm k : Nat) (item : Bytes) : State :=
  let x := s.path p
  if pathNbank s p ≤ b then deadLetter s 5 1 source p pm k item
  else match x.fade with
    | none => if s.get (R.DEC_PATHp_BANK_ABANK p) = b then s else fadeStart s p b
    | some (_, _, t) =>
      if x.held = none ∧ t = b then s
      else
        let s := s.setPath p { x with held := some b }
        (s.put (R.DEC_PATHp_BANK_HELD p) 1).put (R.DEC_PATHp_BANK_HBANK p) b

/-- A new source is an input of the path's kind that suits it (R271). -/
def sourceFits (s : State) (p src : Nat) : Bool :=
  match s.image with
  | none => false
  | some im =>
    if p < 96 then
      let a := im.banks.getD (p / 8) ⟨0, 0, 0, 0, 0⟩
      let b := im.banks.getD (src / 8) ⟨0, 0, 0, 0, 0⟩
      decide (src < 96) && (match im.legs[src]? with
        | some l => l.sense == 1
        | none => false) && a.pm == b.pm && a.clkadj == b.clkadj
    else decide (96 ≤ src) && decide (src < 120)
      && (im.groups.getD ((p - 96) / 6) ⟨0, 0⟩).ps == (im.groups.getD ((src - 96) / 6) ⟨0, 0⟩).ps
      && (im.groups.getD ((src - 96) / 6) ⟨0, 0⟩).en == 1

/-- A source change accepted for frame k (R271). -/
def sourceAccepted (s : State) (p src source pm k : Nat) (item : Bytes) : State :=
  if s.mode ≠ 1 ∧ s.mode ≠ 2 then deadLetter s 5 2 source p pm k item
  else if s.get (R.DEC_PATHp_CFG_DEFINED p) = 0 ∨ sourceFits s p src = false then deadLetter s 5 3 source p pm k item
  else pathUnsettle (s.put (R.DEC_PATHp_CFG_SRC p) src) p

/-! ### Resamplers (R281, R282) -/

/-- The resampler of channel r. -/
def State.resampler (s : State) (r : Nat) : Resampler := sget Resampler.idle s.sense.resamplers r
/-- Set a resampler. -/
def State.setResampler (s : State) (r : Nat) (x : Resampler) : State :=
  { s with sense := { s.sense with resamplers := sset Resampler.idle s.sense.resamplers r x } }

/-- A path's output goes to the resamplers it feeds. -/
def feedResamplers (s : State) (p : Nat) (o : SenseOut) : State :=
  match s.image with
  | none => s
  | some im => (im.resamplers.filter (·.src == p)).foldl (fun s r =>
      let x := s.resampler r.rch
      s.setResampler r.rch { x with hist := (o :: x.hist).take 64 }) s

/-- Place of the source output i with u_i ≤ t < u_(i+1) in a newest-first list. -/
def sourceAt (t : Nat) : List SenseOut → Nat → Option Nat
  | [], _ => none
  | o :: os, i => if o.rep ≤ t then some i else sourceAt t os (i + 1)

/-- Produce the next output of resampler r, once source output i + 8 is there (R282). -/
def resamplerOutput (s : State) (r : Nat) : State :=
  let x := s.resampler r
  match x.sched with
  | [] => s
  | (t, j) :: rest =>
    match sourceAt t x.hist 0 with
    | none => s
    | some a =>
      if a < 8 then s
      else
        let taps := (List.range 16).map fun m => x.hist.getD (a + 7 - m) SenseOut.none
        let u := (x.hist.getD a SenseOut.none).rep
        let un := (x.hist.getD (a - 1) SenseOut.none).rep
        let p := if u < un then 256 * (t - u) / (un - u) else 0
        let (code, isOver) := clampCode (Config.interpolate (taps.map fun o => signed 24 o.code) p)
        let st := taps.foldl (fun a o => a ||| o.stat) 0
        let st := st ||| (if isOver then 4 else 0) ||| (if 0 < x.unsettled then 2 else 0)
        let o : SenseOut := { code := unsigned 32 code, stat := st, rep := t, trig := (x.hist.getD (a - 8) SenseOut.none).trig }
        let s := s.setResampler r { x with
          sched := rest
          unsettled := x.unsettled - 1
          buffer := sset SenseOut.none x.buffer j o
          outs := (o :: x.outs).take 64 }
        let s := { s with sense := { s.sense with
          latest := sset SenseOut.none s.sense.latest (128 + r) o
          frameOuts := s.sense.frameOuts ++ [(r, j, o)] } }
        let s := (s.put (R.SN_CHc_CODE_CODE (128 + r)) o.code).put (R.SN_CHc_STAT_STAT (128 + r)) st
        let s := (s.put (R.DEC_RSr_IDX_RUN r) 1).put (R.DEC_RSr_IDX_J r) j
        s.bump (R.DEC_RSr_CNT_OUT r) 1

/-- The first 16 outputs after a restart of the lock are UNSETTLED (R282). -/
def resamplersRestart (s : State) : State :=
  match s.image with
  | none => s
  | some im => im.resamplers.foldl (fun s r =>
      (s.setResampler r.rch { s.resampler r.rch with unsettled := 16, sched := [] }).put (R.DEC_RSr_IDX_RUN r.rch) 0) s

/-- Fix the output instants of frame k by frame lock: every j with t_j in [F_k, F_{k+1}) (R281). -/
def frameLocked (f k cyc n : Nat) : List (Nat × Nat) :=
  let k0 := if cyc = 0 then k else k / cyc * cyc
  let a := frameStart f k0
  let d := frameStart f (k0 + cyc) - a
  ((List.range n).map fun j => (a + j * d / n, j)).filter fun e =>
    decide (frameStart f k ≤ e.1) && decide (e.1 < frameStart f (k + 1))

/-- Fix the output instants of frame k by angle lock: φ_k and φ_(k+n) from the ANGLE block's state (R281). -/
def angleLocked (phi next fk fn logn : Nat) : List (Nat × Nat) :=
  let d := (next + 2 ^ 32 - phi) % 2 ^ 32
  let n := 2 ^ logn
  let at_ (j : Nat) : Nat := (j * 2 ^ (32 - logn) + 2 ^ 32 - phi) % 2 ^ 32
  let j0 := (phi + 2 ^ (32 - logn) - 1) / 2 ^ (32 - logn) % n
  if d = 0 then []
  else (((List.range n).map fun i => (j0 + i) % n).filter fun j => decide (at_ j < d)).map fun j => (fk + at_ j * (fn - fk) / d, j)

/-! ### The calibration rotation (R276 to R278) -/

/-- The rotation runs: every mode except BOOT and LOCKOUT, not in QUIET or under a test. -/
def calRuns (s : State) : Bool :=
  s.mode != 0 && s.mode != 7 && !inQuiet s && !s.hidden.testHolds && !s.sense.calHalted && s.get R.SN_STATUS_RUN == 1

/-- Elapsed time since the step began. -/
def calAge (s : State) : Nat := match s.sense.calStart with
  | some e => s.since e
  | none => 0

/-- A step begins, from its beginning (R276, R278). -/
def calBegin (s : State) (step : Nat) : State :=
  let s := { s with sense := { s.sense with calStart := some s.time.elapsed, subst := none, spare := Path.idle } }
  (s.put R.SN_CAL_STEP step).put R.SN_CAL_PHASE 1

/-- The rotation stands still in QUIET and under FULL and CAL; slice s resumes as the source (R278, R286). -/
def calSuspend (s : State) : State :=
  if s.sense.calHalted then s
  else ({ s with sense := { s.sense with calStart := none, subst := none } }).put R.SN_CAL_PHASE 0

/-- A step fails (R277): before substitution slice s stays the source; at or after the calibration the spare stays and the rotation halts. -/
def calFail (s : State) (afterSubst : Bool) : State :=
  if calRuns s = false ∨ s.sense.calStart = none then s
  else
    let n := s.get R.SN_CAL_STEP
    let s := (s.put R.SN_CAL_FAILED 1).put R.SN_CAL_FSLICE n
    if afterSubst ∧ n < 24 then
      ({ s with sense := { s.sense with subst := some n, calHalted := true } }).put R.SN_CAL_PHASE 2
    else ({ s with sense := { s.sense with subst := none } }).put R.SN_CAL_PHASE 0

/-- A path of the image takes the outputs of slice n: without one the step has no output to wait for (DEDUCED, log entry 164). -/
def slicePath (s : State) (n : Nat) : Bool := (imagePaths s).any fun p => decide (96 ≤ p) && pathSlice s p == n

/-- CAL_STEP: 250 ms after the present step began the next one begins; a suspended step starts again (R276). A step that waits for its substitution
has failed by then, and one that waits for its handback fails 20 ms after 240 ms (R277). -/
def calStep (s : State) : State :=
  if calRuns s = false then s
  else match s.sense.calStart with
    | none => calBegin s (s.get R.SN_CAL_STEP)
    | some e =>
      let s := s.runElapsed (e + usec 250000)
      let n := s.get R.SN_CAL_STEP
      if s.sense.subst = some n then calFail (s.runElapsed (e + usec 260000)) true
      else
        let s := if n < 24 ∧ s.get R.SN_CAL_PHASE = 1 ∧ slicePath s n then calFail s false else s
        if n < 24 then calBegin s (n + 1) else calBegin (s.bump R.SN_CAL_ROT 1) 0

/-- What the rotation does at an output of path p, fed by slice n, whose paired codes differ by `paired` and that carries `st`
(Table SN-6, R277, R286): each wait lasts 20 ms, the slice's delay line begins empty when it is reconnected at 230 ms. -/
def calAtOutput (s : State) (p n paired st : Nat) : State :=
  if calRuns s = false ∨ s.get R.SN_CAL_STEP ≠ n ∨ s.sense.calStart = none then s
  else
    let age := calAge s
    let clean := st &&& 0x16 == 0 && decide (paired ≤ 256)
    let ph := s.get R.SN_CAL_PHASE
    if ph = 1 ∧ usec 30000 < age then calFail s false
    else if ph = 1 ∧ usec 10000 ≤ age ∧ clean then
      ({ s with sense := { s.sense with subst := some n } }).put R.SN_CAL_PHASE 2
    else if ph = 2 ∧ usec 230000 ≤ age then
      (s.setPath p { s.path p with integ := [], comb := [], line := [] }).put R.SN_CAL_PHASE 3
    else if ph = 3 ∧ usec 260000 < age then calFail s true
    else if ph = 3 ∧ usec 240000 ≤ age ∧ clean then
      ({ s with sense := { s.sense with subst := none } }).put R.SN_CAL_PHASE 0
    else s

/-! ### One output (R264 to R274) -/

/-- The modulator periods since the last trigger, in units of 2⁻²³ of full scale: a bit weighs ±1. -/
def modValues (bitstream : Bool) (mods : List Int) : List Int :=
  if bitstream then mods.map fun m => if 0 ≤ m then 8388608 else -8388608 else mods

/-- The delay line after R·D modulator periods. -/
def runSinc (k r : Nat) : Nat → List Int → Path → Path
  | 0, _, p => p
  | n + 1, xs, p => runSinc k r n (xs.drop r) (sincOut k (xs.take r) p)

/-- The bits of one output, one after the other: LOST begins with the 256th bit of one level and ends with the 256th bit without an over-range window
(R274). Answers the path, and after how many of the bits LOST last ended. -/
def bitsThrough (i : Nat) : List Int → Path → Option Nat → Path × Option Nat
  | [], x, c => (x, c)
  | m :: ms, x, c =>
    let x := bitStep x (decide (0 ≤ m))
    if x.lost = false ∧ 256 ≤ x.run then bitsThrough (i + 1) ms { x with lost := true } c
    else if x.lost ∧ x.overAge.any (decide <| 256 ≤ ·) then bitsThrough (i + 1) ms { x with lost := false } (some (i + 1))
    else bitsThrough (i + 1) ms x c

/-- Slice n converts its own input: the spare stands in for a slice until it is reconnected at 230 ms (Table SN-6). -/
def sliceConverts (s : State) (n : Nat) : Bool := !(s.sense.subst == some n && (s.sense.calHalted || s.get R.SN_CAL_PHASE == 2))

/-- Feed the periods of one output to bitstream path p. Where LOST ends among them the path restarts there: what came before is no history
(R269, R274). -/
def bitFeed (s : State) (p k r d : Nat) (xs : List Int) : State :=
  let (x, cut) := bitsThrough 0 xs (s.path p) none
  let was := (s.path p).lost
  let s := s.setPath p x
  let s := if x.lost = was ∧ cut = none then s else setLost s p x.lost
  let s := if cut.isSome then pathUnsettle s p else s
  let n := cut.getD 0
  s.setPath p (runSinc k r d (List.replicate n 0 ++ (modValues true xs).drop n) (s.path p))

/-- Feed the periods of one output to slice path p: to the slice while it converts, and to the spare while it serves the slice. Both convert one
input: the model gives them the same periods (DESIGN CHOICE, log entry 163). -/
def sliceFeed (s : State) (p k r d : Nat) (xs : List Int) : State :=
  let n := pathSlice s p
  let s := if sliceConverts s n then s.setPath p (runSinc k r d xs (s.path p)) else s
  if spareServes s n then { s with sense := { s.sense with spare := runSinc k r d xs s.sense.spare } } else s

/-- Feed the periods of one output to path p. -/
def pathFeed (s : State) (p d : Nat) (mods : List Int) : State :=
  let r := s.get (R.DEC_PATHp_CFG_R p)
  let k := s.get (R.DEC_PATHp_CFG_K p)
  let xs := (mods ++ List.replicate (r * d) 0).take (r * d)
  if p < 96 then bitFeed s p k r d xs else sliceFeed s p k r d xs

/-- What an output carries: code, status, group delay, and whether an overload of its own slice marks it. -/
structure OutParts where
  code : Int
  stat : Nat
  tau : Int
  isOver : Bool
deriving DecidableEq, Repr

/-- Form the output of path p from its delay line; LOST governs an over-range (R286, DEDUCED in log entry 83). With the fade (R270), the marks of R273 and R274, and the test and clock marks. -/
def pathOutput (s : State) (p : Nat) (subst : Bool) : OutParts :=
  let x := s.path p
  let line := if subst then s.sense.spare.line else x.line
  let norm := s.get (R.DEC_PATHp_CFG_R p) ^ s.get (R.DEC_PATHp_CFG_K p)
  let a := activeResp s p
  let (y, c) := respond a norm line
  let (y, c, tau) := match x.fade with
    | none => (y, c, pathTau s p a)
    | some (i, n, b) =>
      let (z, c') := respond (bankResp s p b) norm line
      let i : Int := ((i + 1 : Nat) : Int)
      let t0 := pathTau s p a
      let t1 := pathTau s p (bankResp s p b)
      ((y * ((n : Int) - i) + z * i) / (n : Int), c || c', t0 + i * (t1 - t0) / (n : Int))
  let span := tickTime (pathSpan s p * (match s.image with
    | some im => modPeriod im p
    | none => 0))
  let own := if p < 96 then [] else s.sense.overloads.filter fun o => o.slice == feedingSlice s p && touches s span 0 o
  let dist := decide (96 ≤ p) && s.sense.overloads.any fun o => o.slice != feedingSlice s p
    && sliceGroup s o.slice == sliceGroup s (feedingSlice s p) && touches s span (usec 40) o
  let bitOver := decide (p < 96) && (match x.overAge with
    | some n => decide (n < pathSpan s p)
    | none => false)
  let isOver := !own.isEmpty
  let y := match own.getLast? with
    | some o => if o.positive then 8388607 else -8388608
    | none => y
  let uns := decide (0 < x.unsettled) || x.fade.isSome || (decide (0 < x.flush) && !isOver) || s.hidden.testHolds
  let stat := (if !x.lost && clockLocked s then 1 else 0) + (if uns then 2 else 0) + (if (c || isOver || bitOver) && !x.lost then 4 else 0)
    + (if dist then 16 else 0) + (if x.fade.isSome then 32 else 0) + (if subst then 64 else 0) + (if x.lost then 128 else 0)
  { code := y, stat := stat, tau := tau, isOver := isOver }

/-- One step of a running fade; the target bank is active after its last output, and a held request then runs (R270). -/
def fadeStep (s : State) (p : Nat) : State :=
  match (s.path p).fade with
  | none => s
  | some (i, n, b) =>
    if i + 1 < n then
      (s.setPath p { s.path p with fade := some (i + 1, n, b) }).put (R.DEC_PATHp_BANK_XFLEFT p) (min 65535 (n - i - 1))
    else
      fadeClose s p b

/-- Deliver an output: the channel's registers, resamplers, snapshots, capture. -/
def deliver (s : State) (p : Nat) (o : SenseOut) : State :=
  let s := { s with sense := { s.sense with latest := sset SenseOut.none s.sense.latest p o } }
  let s := s.setPath p { s.path p with recent := (o :: (s.path p).recent).take 64 }
  let s := (s.put (R.SN_CHc_CODE_CODE p) (unsigned 32 (signed 24 o.code))).put (R.SN_CHc_STAT_STAT p) o.stat
  let f := R.SN_ORm_CH (p / 32)
  let s := if o.stat.testBit 2 then s.put f (setBit (s.get f) (p % 32) true) else s
  capChannelRows (snapServe (feedResamplers s p o) p o) p o.rep

/-- The trigger of path p that comes next: the first not yet passed that the path has not had (R264). -/
def nextTrigger (s : State) (p : Nat) : Option Nat :=
  match firstTrigger s p s.tickPm with
  | some t => if (s.path p).lastTrig = some t then firstTrigger s p (t + 1) else some t
  | none => none

/-- The bank and source requests of path p whose frame has come at trigger t, applied before its output is formed: they take effect at the first
output whose trigger is not before F_k (R270, R271). -/
def pathAccepts (s : State) (p t : Nat) : State :=
  [sourceTarget p, bankTarget p].foldl (fun s key =>
    let due (c : Accepted) : Bool := c.target == key && decide (frameStart s.fFrame c.k ≤ t)
    match s.acceptance.find? due with
    | none => s
    | some c =>
      let set := s.acceptance.filter fun d => due d && d.k == c.k
      let (s, won) := closeSet { s with acceptance := s.acceptance.filter fun d => !(due d && d.k == c.k) } c.k set
      won.foldl (fun s w =>
        if key = bankTarget p then bankAccepted s p w.value w.source w.t c.k w.item else sourceAccepted s p w.value w.source w.t c.k w.item) s) s

/-- One trigger of path p: the clock runs to it, and the path delivers its output (R264 to R278). -/
def senseTrigger (s : State) (p : Nat) (mods : List Int) (paired : Nat) : State :=
  if s.get R.SN_STATUS_RUN = 0 ∨ s.get (R.DEC_PATHp_CFG_DEFINED p) = 0 then s
  else match nextTrigger s p with
    | none => s
    | some t =>
      let s := pathAccepts (s.runTo t) p t
      let s := pathFeed s p (romD (activeResp s p)) mods
      let n := pathSlice s p
      let pre := pathOutput s p (decide (96 ≤ p) && s.sense.subst == some n)
      let s := if 96 ≤ p then calAtOutput s p n paired pre.stat else s
      let q := pathOutput s p (decide (96 ≤ p) && s.sense.subst == some n)
      let x := s.path p
      let keep := x.lost || (s.hidden.testHolds && decide (96 ≤ p))
      let last := sget SenseOut.none s.sense.latest p
      let o : SenseOut := { code := if keep then last.code else unsigned 24 q.code, stat := q.stat, rep := ((t : Int) - q.tau).toNat, trig := t }
      let s := s.setPath p { x with
        unsettled := x.unsettled - 1
        flush := if q.isOver then pathU s p else x.flush - 1
        lastTrig := some t }
      deliver (fadeStep s p) p o

/-! ### Modulator and slice clocks (R259, R260, R262, R454) -/

/-- D1 ticks since the first one of the present frame (DEDUCED, log entry 165: at the present increment). -/
def frameTicks (s : State) : Nat :=
  let f := s.fFrame
  (s.time.acc - frameStart f (frameAt f s.postmark) * 2 ^ 40) / max 1 s.increment

/-- A clock of period P at the present D1 tick: it rises on the first tick of a frame and every P ticks, is high for P/2, and the low time of the last
period of the frame takes up what the frame has over. -/
def frameClock (s : State) (per : Nat) : Bool :=
  let i := frameTicks s
  decide (0 < per) && decide (i / per < 1200000000 / (s.fFrame * per)) && decide (i % per < per / 2)

/-- The balls MCLKb and MCLKb_C (R259): both low with FORM 0 and while the clocks do not run; MCLKb_C low in the CMOS forms. -/
def mclkBalls (s : State) (b : Nat) : Bool × Bool :=
  let form := s.get (R.SN_BANKb_FORM b)
  let on := s.get R.SN_STATUS_RUN == 1 && form != 0
  let level := frameClock s (s.get (R.SN_BANKb_PM b))
  (on && level, on && form == 3 && !level)

/-- The slice clock of reference group g (R262). -/
def sliceClock (s : State) (g : Nat) : Bool :=
  s.get R.SN_STATUS_RUN == 1 && s.get (R.SN_GRPg_EN g) == 1 && frameClock s (s.get (R.SN_GRPg_PS g))

/-- The sense inputs start again after QUIET, FULL or CAL, and at relock: every path restarts and marks U outputs (R269). -/
def senseResume (s : State) : State := unsettleAll s

end Sys2Proof.Machine
end

