-- ==== Sys2Proof/Machine/Frame.lean ====
section
/-!
DEFINITION. The frame: completion with its load-all, fabric faults, mode requests at a frame start, system wires, evaluation on the
node's own inputs, on a bundle and on the flight record (spec/06_fabric.md R149 to R165; spec/02_postmark.md R53 to R55;
spec/03_modes.md R69 to R71; spec/12_capture.md R339 to R342; spec/13_twin.md R348 to R350, R366).
-/
namespace Sys2Proof.Machine

/-! ### The guarantee (R53 to R55) -/

/-- No condition of Table PM-11 that the state can break is broken now. -/
def tigOk (s : State) : Bool :=
  let st := s.get R.POST_STATUS_STATE
  (st == 2 || st == 3) && s.get R.POST_TIG_HWFAULT == 0 && s.get R.POST_TIG_IMAGE == 0

/-- The guarantee at the start of frame F_k: a base frame begins it anew; else a broken condition clears HELD (R55). POST_TIG.IMAGE reads 0 from the
activation's own base frame on (DESIGN CHOICE, log entry 139). -/
def tigStart (s : State) (fk : Nat) : State :=
  let s := s.put R.POST_TIG_OVERRUN 0
  if s.fabric.base then
    let s := s.put R.POST_TIG_IMAGE 0
    let ok := tigOk s
    let s := (s.putPair R.POST_TIGBASE_LO_FRAC R.POST_TIGBASE_HI_SEC fk).put R.POST_TIG_HELD (if ok then 1 else 0)
    { s with fabric := { s.fabric with condHeld := ok, wasHeld := s.fabric.wasHeld || ok } }
  else
    let ok := tigOk s
    { (if ok then s else s.put R.POST_TIG_HELD 0) with fabric := { s.fabric with condHeld := ok } }

/-- A whole frame in which all conditions held becomes the new base (R55). -/
def tigComplete (s : State) (fk : Nat) : State :=
  if s.get R.POST_TIG_HELD = 0 ∧ s.fabric.condHeld ∧ tigOk s then
    let s := (s.putPair R.POST_TIGBASE_LO_FRAC R.POST_TIGBASE_HI_SEC fk).put R.POST_TIG_HELD 1
    let s := if s.fabric.wasHeld then s.bump R.POST_TIG_LAPSES 1 else s
    { s with fabric := { s.fabric with wasHeld := true, base := true } }
  else s

/-- A hardware fault is flagged (Table PM-11). -/
def hwFault (s : State) : State := tigBreak (s.put R.POST_TIG_HWFAULT 1)

/-! ### Redelivery: the record (R332, R339, R340) -/

/-- An item of the flight record as its header gives it. -/
structure RecItem where
  off : Nat
  kind : Nat
  flags : Nat
  len : Nat
  k : Nat
deriving DecidableEq, Repr

/-- A u32 of the record's header. -/
def recHead (s : State) (o : Nat) : Nat := leNat (frBytes s o 4)

/-- The item at an offset. -/
def recItem (s : State) (off : Nat) : RecItem :=
  let h := frBytes s off 16
  { off := off, kind := leNat (h.take 1), flags := leNat ((h.drop 2).take 2), len := leNat ((h.drop 4).take 4), k := leNat (h.drop 8) }

/-- The item is formed as R332 gives. -/
def recSound (s : State) (it : RecItem) : Bool :=
  it.kind ≤ 3 && decide (16 ≤ it.len ∨ it.kind = 0 ∧ 8 ≤ it.len) && it.len % 8 == 0 && decide (it.off + it.len ≤ recHead s 52)

/-- The offset of the item that follows, none after the newest. -/
def recNext (s : State) (it : RecItem) : Option Nat :=
  if it.off = recHead s 60 then none else some (if recHead s 52 ≤ it.off + it.len then 256 else it.off + it.len)

/-- Item bound of a walk through the record. -/
def recFuel : Nat := 2097152

/-- The first CHECKPOINT of a frame at or after `k`, from an offset on. -/
def recCheckpoint (s : State) (k : Nat) : Nat → Option Nat → Option RecItem
  | 0, _ => none
  | _, none => none
  | n + 1, some o =>
    let it := recItem s o
    if recSound s it = false then none
    else if it.kind = 1 ∧ k ≤ it.k then some it
    else recCheckpoint s k n (recNext s it)

/-- The CHECKPOINT a run starts from: CAP_RPSTART = 0 selects the oldest (R339). -/
def replayStart? (s : State) : Option RecItem :=
  if recHead s 64 = 0 then none
  else recCheckpoint s (s.getPair R.CAP_RPSTART_LO_W R.CAP_RPSTART_HI_W) recFuel (some (recHead s 64))

/-- The active image is the record's image (R339). -/
def replayImage (s : State) : Bool := match s.image with
  | none => false
  | some im => recHead s 0 == 0x544C4642 && recHead s 8 == im.imageId && recHead s 12 == im.version
      && frBytes s 16 32 == im.digest.take 32

/-- REPLAY is refused with 0x01 (R339). -/
def replayRefused (s : State) : Bool := !replayImage s || (replayStart? s).isNone

/-- A REPLAY run begins (Table CP-10, step 1). -/
def replayBegin (s : State) : State :=
  let s := frHold s 0
  let s := ((s.put R.CAP_RPSTAT_STATE 1).put R.CAP_RPSTAT_REASON 0).put R.CAP_RPSTAT_SKIPS 0
  let s := (s.put R.CAP_RPDIV_SLOT 0x7FF).put R.CAP_RPDIV_NDIV 0
  let e := s.getPair R.CAP_RPEND_LO_W R.CAP_RPEND_HI_W
  let s := { s with capture := { s.capture with replay := (replayStart? s).map fun (it : RecItem) =>
    { off := some it.off, endK := if e = 0 then 2 ^ 64 else e, seeking := false, first := true, stop := 0, hash := 0, latched := false,
      resampled := [], coder := [] } } }
  { s with fabric := { s.fabric with feed := none } }

/-- A run ends with its REASON: the node enters STANDBY with ENTRY = 8; HOLD stays 1 (Table CP-10, step 6). After a divergence the
fabric stays halted (R341); otherwise it starts again from the image at the next frame. -/
def replayEnd (s : State) (reason : Nat) : State :=
  if s.capture.replay.isNone then s
  else
    let s := ((s.put R.CAP_RPSTAT_STATE 2).put R.CAP_RPSTAT_REASON reason).irq 7
    let s := { s with capture := { s.capture with replay := none } }
    let s := fabricHalt (tigBreak { s with fabric := { s.fabric with feed := none } })
    let s := if reason = 3 ∨ reason = 4 then s else { s with fabric := { s.fabric with reinit := true, lapse := true } }
    setMode s 1 8

/-! ### Completion of a frame (R156, R183, R215 to R217) -/

/-- MOD's set of a leg of a fabric-sourced bridge goes to the staged registers (R216). -/
def stageMod (im : Image) (s : State) (e : Nat × Nat × Bool) : State :=
  let n := e.1
  if s.get (R.BRIDGE_CTRL_SRC (legBridge s n)) = 1 then s
  else
    let ph := (im.legs[n]?.map (·.phase)).getD 255
    let s := stagePeriod s n (((im.bridgeRec? (legBridge s n)).map (·.period)).getD 0)
    stageDuty (stagePhase s n ((im.phases[ph]?.map (·.cphase)).getD 0)) n e.2.1

/-- The fabric's load-all at commit instant `c`: every bridge with SRC = 0 (R215, R216). -/
def loadAll (s : State) (im : Image) (c : Nat) : State :=
  let s := s.fabric.staged.foldl (stageMod im) s
  (assignedLegs s).foldl (fun s n =>
    if s.get (R.BRIDGE_CTRL_SRC (legBridge s n)) = 1 then s
    else loadLeg s n c (((s.fabric.staged.find? (·.1 == n)).map (·.2.2)).getD false)) s

/-- The EVENT and TRIP_BLOCK envelopes of the frame, in image order; in REPLAY only where CAP_RPCFG.POST says so, to its PH and FLOW
(R174, R342). -/
def postRaised (s : State) (fk : Nat) : State :=
  let all := s.fabric.raised
  if s.mode = 6 then
    if s.get R.CAP_RPCFG_POST = 0 then s
    else
      let ph := s.get R.CAP_RPCFG_PH
      let flow := if s.get R.CAP_RPCFG_NOFLOW = 1 then 0xFFFF else s.get R.CAP_RPCFG_FLOW
      all.foldl (fun s r => postHw s r.typ ph flow fk 0 r.tag r.body) s
  else all.foldl (fun s r => postHw s r.typ r.ph r.flow fk 0 r.tag r.body) s

/-- The wire window follows a completed frame unless it is frozen (R180, R182). -/
def windowFollow (s : State) (im : Image) (k : Nat) : State :=
  if s.get R.FAB_SNAP_FREEZE = 1 then s
  else
    let s := (s.putPair R.FAB_SNAPK_LO_K R.FAB_SNAPK_HI_K k).put R.FAB_SNAP_FROZEN 0
    { s with fabric := { s.fabric with window := s.fabric.wires, windowImage := some im } }

/-- Resampler entries go to the cycle buffers (R334). -/
def resampledIn (s : State) (es : List (Nat × Nat × SenseRec)) : State :=
  es.foldl (fun s e =>
    let x := s.resampler e.1
    let o : SenseOut := { SenseOut.none with code := e.2.2.1, stat := e.2.2.2 }
    s.setResampler e.1 { x with buffer := sset SenseOut.none x.buffer e.2.1 o }) s

/-- A replayed frame is compared with its record; a divergence is counted, and with STOPDIV it ends the run (R340, R341). -/
def replayCompare (s : State) (k h : Nat) : State :=
  match s.capture.replay with
  | none => s
  | some r =>
    let differs := h ≠ r.hash
    let s := resampledIn s r.resampled
    let s := if differs then s.bump R.CAP_RPDIV_NDIV 1 else s
    let s := if r.latched then s
      else ((s.putPair R.CAP_RPK_LO_W R.CAP_RPK_HI_W k).putPair R.CAP_RPREC_LO_W R.CAP_RPREC_HI_W r.hash).putPair
        R.CAP_RPCALC_LO_W R.CAP_RPCALC_HI_W h
    let reason := if r.stop ≠ 0 then r.stop else if differs then 3 else 0
    let s := { s with capture := { s.capture with replay := some { r with stop := 0, latched := r.latched || reason != 0, resampled := [] } } }
    if reason ≠ 0 ∧ s.get R.CAP_RPCFG_STOPDIV = 1 then replayEnd (s.put R.FAB_SNAP_FROZEN 1) reason else s

/-- What a completed frame leaves for the next: nothing of its own. -/
def frameClear (s : State) : State :=
  { s with
    fabric := { s.fabric with frame := none, raised := [], written := [], samples := [], base := false, start := none, feed := none, await := false, sampling := none }
    sense := { s.sense with frameOuts := [] } }

/-- The largest completion of each tile since activation takes in that of frame k (Table FB-12): the schedule of the blocks due. -/
def tilePeaks (s : State) (im : Image) (k : Nat) : State :=
  let c := schedule im (dueBlocks im k)
  (List.range 16).foldl (fun s t => s.put (R.FAB_TILEt_PEAK_CYC t) (max (s.get (R.FAB_TILEt_PEAK_CYC t)) (tileDone c t))) s

/-- The frame in evaluation completes: load-all, hash, envelopes, flight record, capture rows, the window (R156, R183); into QUIET without
a load-all (R461). -/
def completeFrameWith (s : State) (im : Image) (load : Bool) : State :=
  match s.fabric.frame with
  | none => postBridgeTripsBefore s (s.fabric.next.getD 0)
  | some k =>
    let fk := frameStart im.frate k
    let live := s.fabric.next.getD k
    let s := if load then loadAll s im (frameStart im.frate live * 256) else s
    let h := frameHash s im
    let s := postRaised s fk
    let s := postBridgeTripsBefore s live
    let s := tigComplete s fk
    let s := recordFrame s im k h false
    let s := capFrameRows s k fk
    let s := (s.putPair R.FAB_FRAME_LO_K R.FAB_FRAME_HI_K k).putPair R.FAB_HASH_LO_H R.FAB_HASH_HI_H h
    let s := { windowFollow s im k with fabric := { (windowFollow s im k).fabric with hash := h } }
    let s := { s with twin := { s.twin with ownHash := some (k, h), comparable := s.role == 4 || s.fabric.feed.isSome } }
    let s := replayCompare s k h
    frameClear (contactorFrame (tilePeaks s im k))

/-- The frame in evaluation completes with its load-all. -/
def completeFrame (s : State) (im : Image) : State := completeFrameWith s im true

/-! ### Fabric faults (R164, R165) -/

/-- The FABRIC_FAULT envelope (Table SO-6). -/
def postFabricFault (s : State) (code tile k fk : Nat) : State :=
  let body := leBytes 1 code ++ leBytes 1 tile ++ leBytes 1 s.mode ++ List.replicate 5 0 ++ leBytes 8 k
  (postHw s 0x14 0 1023 fk 0 0 body).irq 3

/-- A fabric fault of Table FB-6 in the frame in evaluation: the fabric halts without a load-all, the fault is recorded, the
envelopes raised and one FABRIC_FAULT are posted, and the mode responds (R165). -/
def fabricFault (s : State) (code tile : Nat) : State :=
  match s.image with
  | none => s
  | some im =>
    if s.get R.FAB_STATUS_RUN = 0 then s
    else
      let k := s.fabric.frame.getD (frameAt im.frate s.postmark)
      let fk := frameStart im.frate k
      let s := ((s.put R.FAB_STATUS_FAULT code).put R.FAB_STATUS_FTILE tile).putPair R.FAB_FAULTK_LO_K R.FAB_FAULTK_HI_K k
      let s := if code = 1 then tigBreak (s.put R.POST_TIG_OVERRUN 1) else hwFault s
      let s := postFabricFault (postRaised s fk) code tile k fk
      let s := if s.mode = 6 then s else recordFrame s im k 0 true
      let s := holdCause (fabricHalt s) 0
      let s := frameClear s
      let s := if s.mode = 6 then replayEnd s 6
        else if s.mode = 1 then { s with fabric := { s.fabric with reinit := true, lapse := false } }
        else enterRecovery s 4
      twinFault s

/-! ### Reinitialisation (R151, R206, R249, R269, R282) -/

/-- Leg n is anchored at F_S: its first count zero falls CPHASE ticks later; it is held with d = 0 (R206, R214, R220). -/
def legAnchor (s : State) (im : Image) (fs n : Nat) : State :=
  let ph := (im.legs[n]?.map (·.phase)).getD 255
  let cph := (im.phases[ph]?.map (·.cphase)).getD 0
  let per := ((im.bridgeRec? (legBridge s n)).map (·.period)).getD 0
  let s := ((s.put (R.LEGn_PERIOD_PERIOD n) per).put (R.LEGn_PERIOD_ACT_PERIOD n) per).put (R.LEGn_DUTY_DUTY n) 0
  let s := ((s.put (R.LEGn_PHASE_PHASE n) cph).put (R.LEGn_PHASE_ACT_PHASE n) cph).put (R.LEGn_DUTY_ACT_DUTY n) 0
  let s := legHold s n
  s.setLeg n { s.leg n with runs := true, anchor := fs * 256, zero := cph, per := 0, down := true, pend := none, pendNext := none, pendPP := none,
                            pendPPNext := none, force := none, forceNext := none, safeMark := false, cut := false, plan := [], lastEdge := none }

/-- The fabric starts from the image at frame start F_S: wires and block states take their initial values, legs are anchored, trips clear and act
again where their sources stand, sense paths and resamplers restart. The frame is a base frame but after a lapse: RECOVERY, LOCKOUT or REPLAY (R55,
R79, R151, R165, R249). -/
def fabricInit (s : State) (im : Image) (fs : Nat) : State :=
  let f := s.fabric
  let s := { s with fabric := { f with
    wires := initWires im
    blocks := im.blocks.foldl (fun m (b : Block) => sset BlkState.idle m b.slot (initBlock im b)) []
    frame := none, staged := [], raised := [], written := [], tripHigh := 0, readyRun := 0, base := !f.lapse, wasHeld := f.lapse && f.wasHeld, lapse := false
    reinit := false
    samples := [], feed := none, start := none, startItems := [], tj := [], await := false, sampling := none } }
  let s := (s.put R.FAB_STATUS_RUN 1).put R.FAB_STATUS_FAULT 0
  let s := (s.put R.POST_TIG_HWFAULT 0).put R.POST_TIG_OVERRUN 0
  let s := tripsClearAll s
  let s := (assignedLegs s).foldl (fun s n => legAnchor s im fs n) s
  let s := if s.switching then sourcesAct s else s
  resamplersRestart (unsettleAll s)

/-! ### Mode requests at a frame start (R68 to R71) -/

/-- No safety input and no STO input demands, and internal STO is not applied. -/
def safetyPermits (s : State) : Bool := !s.stoOn && s.get R.SAF_STATUS_DEMAND == 0

/-- The pairs of modes between which a request leads (Table MD-5). -/
def requestLeads (m code : Nat) : Bool :=
  [(1, 2), (1, 3), (1, 6), (2, 1), (3, 1), (4, 1), (5, 1), (5, 3), (6, 1)].contains (m, code)

/-- The refusal code of a mode request judged now, if it meets a condition of Table MD-4. Where several hold, the first in the order 5, 1, 7, 2, 3, 4
is reported (DESIGN CHOICE, log entry 140); a RECOVERY cause other than clock loss counts as cleared at once (DESIGN CHOICE, log entry
141). -/
def modeRefusal (s : State) (code : Nat) : Option Nat :=
  let m := s.mode
  if m = 7 then some 5
  else if requestLeads m code = false ∨ (inQuiet s ∧ code ≠ 1) then some 1
  else if m = 5 ∧ s.hidden.clockCause ∧ clockLocked s = false then some 7
  else if code ≠ 1 ∧ s.image = none then some 2
  else if code = 3 ∧ safetyPermits s = false then some 3
  else if code = 2 ∧ (s.get R.SAF_STATUS_STOA = 1 ∨ s.get R.SAF_STATUS_STOB = 1) then some 3
  else if (code = 2 ∨ code = 3) ∧ clockLocked s = false then some 4
  else if code = 6 ∧ replayRefused s then some 1
  else none

/-- A mode request is judged and takes effect (R68, R69, R71); in QUIET a STANDBY request has no effect (R461). -/
def modeJudge (s : State) (q : ModeReq) (k : Nat) : State :=
  let code := q.code
  if inQuiet s ∧ code = 1 then s
  else match modeRefusal s code with
  | some c => modeRefuse s c q.source q.target q.pm k q.item
  | none =>
    if code = 6 then setMode (replayBegin s) 6 0
    else if s.mode = 6 then replayEnd s 5
    else setMode { s with hidden := { s.hidden with clockCause := false } } code 0

/-- PENDING: a mode request waits for its frame (Table MD-2); a power request does not enter acceptance. -/
def modePending (s : State) : State :=
  let waits := s.acceptance.any (fun c => targetKey s c.target == modeTarget) || !s.hidden.held.isEmpty
    || s.hidden.atTick.isSome
  s.put R.NODE_MODE_PENDING (if waits then 1 else 0)

/-- The requests of a frame: those held during a test, then the winner of this frame (R79). FULL and CAL hold them. -/
def modeRequests (s : State) (k : Nat) (reqs : List Accepted) : State :=
  let new := reqs.map fun c => ({ code := c.value, target := if c.target = modeTarget then 0 else c.target, source := c.source, pm := c.t, item := c.item } : ModeReq)
  if s.hidden.testHolds then { s with hidden := { s.hidden with held := s.hidden.held ++ new } }
  else
    let all := s.hidden.held ++ new
    all.foldl (fun s q => modeJudge s q k) { s with hidden := { s.hidden with held := [] } }

/-- Every non-SPARE bridge's READY wire is VALID and at least 0.5 (R69). -/
def allReady (s : State) (im : Image) : Bool :=
  im.bridges.all fun b => b.role == 0 || ((s.wireStat b.readyW).testBit 0 && f32le f32half (s.wireBits b.readyW))

/-- The automatic transitions at a frame start: SERVICE in the frame after 8 ready frames, and the energize timeout (Table MD-5). -/
def modeAutomatic (s : State) (im : Image) : State :=
  if s.mode ≠ 3 then s
  else if 8 ≤ s.fabric.readyRun then setMode s 4 2
  else if s.hidden.energizeAt + usec (1000 * im.tEnergize) ≤ s.time.elapsed then setMode s 5 6
  else s

/-! ### What a frame reads -/

/-- What a frame takes from a bundle or a recorded frame in place of the node's own inputs: SYS, the bridge-trip states of DISC, sample
entries, commands. -/
structure FrameFeed where
  sys : Nat
  view : Nat
  samples : List (Nat × Nat)
  cmds : List Accepted
deriving DecidableEq, Repr

/-- Set a system wire. -/
def sysWire (s : State) (w v : Nat) : State :=
  { s with fabric := { s.fabric with wires := sset (0, 0) s.fabric.wires w (v, 1) } }

/-- The role as system wire 5 gives it (Table FB-3). -/
def roleWire (s : State) : Nat := if s.role = 0 then 0 else if s.role = 4 then 1 else 2

/-- SYS of Table CP-8 from the node's own state at a frame start. -/
def ownSys (s : State) : Nat :=
  s.mode + s.get R.POST_STATUS_STATE * 8 + roleWire s * 64 + (if switchingMode s.mode then 256 else 0) + s.get R.POST_TIG_HELD * 512

/-- The system wires of frame k (Table FB-3). -/
def systemWires (s : State) (f k sys : Nat) : State :=
  let s := sysWire (sysWire s 0 0) 1 f32one
  let s := sysWire s 3 (f32ofScaled ((frameStart f (k + 1) - frameStart f k : Nat) : Int) (-32))
  let s := sysWire (sysWire s 2 (f32ofNat (sys % 8))) 4 (f32ofNat (sys / 8 % 8))
  sysWire (sysWire (sysWire s 5 (f32ofNat (sys / 64 % 4))) 6 (f32ofNat (sys / 256 % 2))) 7 (f32ofNat (sys / 512 % 2))

/-- Bridge-trip states as the fabric sees them from frame start F_k: those of the frame before, with the trips whose order postmark lies before F_k; the
clears accepted for the frame have taken effect (R246). -/
def tripView (s : State) (fk : Nat) : State :=
  let (now, later) := s.trips.queue.partition fun e => decide (e.1 < fk * 256)
  { s with trips := { s.trips with queue := later, view := now.foldl (fun v e => setBit v e.2.1 true) s.trips.view } }

/-- What a SAMPLE would take in the frame of every channel: of a path the newest output at the frame trigger, of a resampler the newest ready
one (R174, R263, R283, R318). -/
def frameSamples (s : State) (im : Image) (fk : Nat) : State :=
  let paths := im.paths.foldl (fun m p =>
    let o := ((s.path p.chan).recent.find? fun o => decide (o.trig ≤ fk)).getD (sget SenseOut.none s.sense.latest p.chan)
    if o.trig ≤ fk then sset SenseOut.none m p.chan o else m) s.fabric.frameSense
  { s with fabric := { s.fabric with frameSense := im.resamplers.foldl (fun m r =>
      sset SenseOut.none m (128 + r.rch) (sampleOutput s fk (128 + r.rch))) paths } }

/-- The samples of a replayed or bundled frame stand for the outputs a SAMPLE takes in it, with a status word of the recorded status bits; a channel
the frame does not hold keeps its output (R318, R342; DESIGN CHOICE, log entry 170). -/
def fedSamples (s : State) (im : Image) (k : Nat) (es : List (Nat × Nat)) : State :=
  let chans := ((dueBlocks im k).filter (·.kind == 0x1E)).flatMap (·.params)
  { s with fabric := { s.fabric with frameSense := (chans.zip es).foldl (fun m p =>
      sset SenseOut.none m p.1 { sget SenseOut.none m p.1 with code := p.2.1, stat := p.2.2 % 8 }) s.fabric.frameSense } }

/-- A SAMPLE due in frame k reads a path whose output of trigger F_k has not come (R266). -/
def samplesAwaited (s : State) (im : Image) (k : Nat) : Bool :=
  s.get R.SN_STATUS_RUN == 1 && (dueBlocks im k).any fun b => b.kind == 0x1E && b.params.any fun c =>
    decide (c < 120) && !(s.path c).lastTrig.any fun t => decide (frameStart im.frate k ≤ t)

/-! ### Commands of a frame (R85, R121) -/

/-- A command to a wire target: its clamped value, VALID, OVERRANGE where the clamp acts (R85, Table FB-2). -/
def writeTarget (s : State) (c : Accepted) : State :=
  match targetRec s c.target with
  | some r =>
    let v := clampedValue s c
    { s with fabric := { s.fabric with wires := sset (0, 0) s.fabric.wires r.ref (v, if v = c.value then 1 else 5) } }
  | none => s

/-- A START accepted at its frame (R121): outside the switching modes a dead letter NOT_SWITCHING; else the PROFILE of its bridge takes
it with t + D_accept. -/
def startAccepted (s : State) (im : Image) (k : Nat) (c : Accepted) : State :=
  match targetRec s c.target with
  | none => s
  | some r =>
    let m := (f32toFix (s.wireBits 2) 0).toNat
    if switchingMode m = false then deadLetter s 3 2 c.source r.ref c.t k c.item
    else match im.peer 0x1C r.ref with
      | none => s
      | some b =>
        let x := blkState s b.slot
        let pad := x.vars ++ List.replicate (13 - x.vars.length) 0
        let s := setBlk s b.slot { x with vars := pad.take 9 ++ [c.t + dAccept s c.cls + 1, c.source, c.t, k] }
        { s with fabric := { s.fabric with startItems := sset [] s.fabric.startItems r.ref c.item } }

/-- Step 2 of R156: the winning commands to wires and the START actions. -/
def frameCommands (im : Image) (k : Nat) (cmds : List Accepted) (s : State) : State :=
  let fab := cmds.filter fun c => match targetRec s c.target with
    | some r => r.kind == 0 || r.kind == 1
    | none => false
  let s := { s with fabric := { s.fabric with written := fab } }
  fab.foldl (fun s c => match targetRec s c.target with
    | some r => if r.kind = 0 then writeTarget s c else startAccepted s im k c
    | none => s) s

/-! ### After the evaluation -/

/-- The rainflow engines take the outputs of the TJEST blocks due, whether or not a wire carries them (R175, R475); in REPLAY they ignore them
(R342). -/
def rainflowFrame (s : State) (im : Image) (k : Nat) : State :=
  if s.mode = 6 then s
  else ((dueBlocks im k).filter (·.kind == 0x21)).foldl (fun s b =>
    (tjestLegs im b).foldl (fun s n =>
      let x := sget (0, 0) s.fabric.tj n
      rainFeed s n x.1 x.2) s) s

/-- φ of the ANGLE of a bridge in this frame and in its next. -/
def angleOf (s : State) (im : Image) (b : Nat) : Option (Nat × Nat) :=
  (im.peer 0x16 b).map fun q =>
    let v := (blkState s q.slot).vars
    (nthF v 5, nthF v 0)

/-- The divisor of the rate group of a bridge's ANGLE (R281). -/
def angleGroup (im : Image) (b : Nat) : Nat := ((im.peer 0x16 b).map fun q => groupDiv im q.group).getD 0

/-- Output instants of the resamplers of one lock, added to those that still wait. -/
def scheduleLock (s : State) (im : Image) (lock : Nat) (new : ResRec → List (Nat × Nat)) : State :=
  (im.resamplers.filter (·.lock == lock)).foldl (fun s r =>
    let x := s.resampler r.rch
    s.setResampler r.rch { x with sched := x.sched ++ new r }) s

/-- The frame fixes the output instants of the frame-locked resamplers, whether or not the fabric runs (R281, R283). -/
def scheduleFrames (s : State) (im : Image) (k : Nat) : State :=
  scheduleLock s im 0 fun r => frameLocked im.frate k r.cyc (2 ^ r.logn)

/-- A frame in which ANGLE has run fixes the output instants in [F_k, F_(k+n)) of the resamplers locked to it (R281). -/
def scheduleAngles (s : State) (im : Image) (k : Nat) : State :=
  scheduleLock s im 1 fun r =>
    let n := angleGroup im r.bridge
    if n = 0 ∨ k % n ≠ 0 then []
    else match angleOf s im r.bridge with
      | some (phi, next) => angleLocked phi next (frameStart im.frate k) (frameStart im.frate (k + n)) r.logn
      | none => []

/-- Evaluate frame k with its inputs in place: system wires, trip states, samples, commands (R156). A CHECKPOINT body is taken at its start
where one may be written. -/
def evaluateFrame (s : State) (im : Image) (k : Nat) (feed : Option FrameFeed) (cmds : List Accepted) : State :=
  let fk := frameStart im.frate k
  let s := tigStart s fk
  let s := tripView s fk
  let s := match feed with
    | some x =>
      let s := fedSamples (systemWires s im.frate k x.sys) im k x.samples
      { s with trips := { s.trips with view := x.view }, fabric := { s.fabric with feed := some x.samples } }
    | none => frameSamples (systemWires s im.frate k (ownSys s)) im fk
  let held := s.get R.POST_TIG_HELD
  let want := s.fabric.base || held == 0 || ckpDueAt s k
  let s := { s with fabric := { s.fabric with frame := some k, await := false, samples := []
                                              start := if want then some (ckpBody s im) else none } }
  let s := evalFrame s im k (frameCommands im k (match feed with
    | some x => x.cmds
    | none => cmds))
  let s := { s with fabric := { s.fabric with readyRun := if s.mode = 3 ∧ allReady s im then s.fabric.readyRun + 1 else 0 } }
  let s := rainflowFrame s im k
  if s.mode = 6 then s else scheduleAngles s im k

/-! ### A replayed frame (R340) -/

/-- The samples, resampler entries and commands of a FRAME item's body, with the coder. -/
def readFrameItem (coder : Sparse (Nat × Nat × Nat)) (k : Nat) (body : Bytes) :
    FrameFeed × Nat × List (Nat × Nat × SenseRec) × Sparse (Nat × Nat × Nat) :=
  let u (o n : Nat) := leNat ((body.drop o).take n)
  let nsamp := u 16 2
  let nrs := u 18 2
  let ncmd := u 20 2
  let (es, rest, coder) := readEntries coder 0 nsamp (body.drop 24)
  let used := body.length - rest.length
  let o1 := (used + 3) / 4 * 4
  let rs := (pieces 8 ((body.drop o1).take (8 * nrs))).map fun p =>
    (leNat (p.take 1), leNat ((p.drop 2).take 2), (leNat (p.drop 4), leNat ((p.drop 1).take 1)))
  let o2 := (o1 + 8 * nrs + 7) / 8 * 8
  let cmds := (pieces 16 ((body.drop o2).take (16 * ncmd))).map fun p =>
    let src := leNat ((p.drop 2).take 2)
    ({ cls := src / 4096, source := src, seq := 0, target := leNat (p.take 2), value := leNat ((p.drop 4).take 4), t := leNat (p.drop 8),
       k := k, item := [] } : Accepted)
  ({ sys := u 8 4, view := u 12 2, samples := es, cmds := cmds }, leNat (body.take 8), rs, coder)

/-- Walk the record from the run's place to the next frame to be evaluated, and evaluate it (Table CP-10, steps 2, 4 and 5). -/
def replayWalk (im : Image) : Nat → State → State
  | 0, s => replayEnd s 7
  | n + 1, s =>
    match s.capture.replay with
    | none => s
    | some r => match r.off with
      | none => replayEnd s 2
      | some o =>
        let it := recItem s o
        let setR (s : State) (r : Replay) : State := { s with capture := { s.capture with replay := some { r with off := recNext s it } } }
        if recSound s it = false then replayEnd s 7
        else if it.kind = 0 then replayWalk im n (setR s r)
        else if r.endK < it.k then replayEnd s 1
        else
          let body := frBytes s (o + 16) (it.len - 16)
          if it.kind = 1 then
            if r.first ∨ r.seeking then
              let s := setR (ckpLoad s im body) { r with seeking := false, coder := [] }
              let s := if r.first then { s with fabric := { s.fabric with base := true, wasHeld := false } } else s
              replayWalk im n s
            else
              let d := ckpDiffers s (slotOrder im) (body.drop 40964)
              if d = 0x7FF then replayWalk im n (setR s { r with coder := [] })
              else
                let s := if s.get R.CAP_RPDIV_SLOT = 0x7FF then s.put R.CAP_RPDIV_SLOT d else s
                replayWalk im n (setR (s.bump R.CAP_RPDIV_NDIV 1) { r with coder := [], stop := 4 })
          else if r.seeking then replayWalk im n (setR s r)
          else if it.kind = 3 ∨ it.flags % 4 ≠ 0 then
            replayWalk im n (setR (s.bump R.CAP_RPSTAT_SKIPS 1) { r with seeking := true })
          else
            let (feed, hash, rs, coder) := readFrameItem r.coder it.k body
            let s := setR s { r with first := false, hash := hash, resampled := rs, coder := coder }
            evaluateFrame s im it.k (some feed) []

/-! ### The twin's part in a frame (R348, R366) -/

/-- A sample entry uncoded (Table LK-5). -/
def uncoded (e : Nat × Nat) : Bytes := leBytes 3 e.1 ++ leBytes 1 e.2

/-- The ACTIVE member sends bundle k (R348, R439): HASH of frame k − 1, NCMD its CMD frames. -/
def sendBundle (s : State) (im : Image) (k hash ncmd : Nat) (rs : List (Nat × Nat × SenseOut)) : State :=
  if s.role = 4 ∧ s.linkUp then
    s.send (.twin 1 k (frameFields hash (sysWord s) (discWord s im) s.fabric.samples.length rs.length ncmd
      ++ s.fabric.samples.flatMap uncoded ++ rs.flatMap rsEntry))
  else s

/-- What resynchronisation sends of a leg: the postmark of the last count zero, P′, the staged, pending and active sets (R366). -/
def legState (s : State) (n : Nat) : Bytes :=
  let l := s.leg n
  let p := l.pend.getD { duty := 0, phase := 0, period := 0, safe := false, commit := 0 }
  leBytes 2 n ++ leBytes 9 (tapPoint l.anchor (64 * l.zero)) ++ leBytes 4 l.per
    ++ leBytes 4 (s.get (R.LEGn_DUTY_DUTY n)) ++ leBytes 4 (s.get (R.LEGn_PHASE_PHASE n)) ++ leBytes 4 (s.get (R.LEGn_PERIOD_PERIOD n))
    ++ leBytes 1 (if l.pend.isSome then 1 else 0) ++ leBytes 4 p.duty ++ leBytes 4 p.phase ++ leBytes 4 p.period
    ++ leBytes 4 (s.get (R.LEGn_DUTY_ACT_DUTY n)) ++ leBytes 4 (s.get (R.LEGn_PHASE_ACT_PHASE n))
    ++ leBytes 4 (s.get (R.LEGn_PERIOD_ACT_PERIOD n))

/-- Split bytes into pieces of `n`, the last one shorter where it must be. -/
def piecesUpTo (n : Nat) (bs : Bytes) : List Bytes :=
  (List.range ((bs.length + n - 1) / n)).map fun i => (bs.drop (n * i)).take n

/-- At F_{k_s} the ACTIVE member sends the fabric state, the legs, its waiting commands and the next sequence number, in STATE frames of at most
4,096 bytes (R366, Table LK-5). -/
def sendState (s : State) (im : Image) (k : Nat) : State :=
  if s.twin.resyncAt = some k then
    let body := ckpBody s im ++ (assignedLegs s).flatMap (legState s)
      ++ s.acceptance.flatMap (fun c => commandEntry c.target c.source c.value c.t) ++ leBytes 6 (seqNext s)
    let s := (piecesUpTo 4096 body).foldl (fun s p => s.send (.twin 8 k p)) s
    { s with twin := { s.twin with resyncAt := none } }
  else s

/-- A frame that has waited for its samples is evaluated with those that are there (R266). -/
def sampledFrame (s : State) : State :=
  match s.image, s.fabric.sampling, s.fabric.frame with
  | some im, some w, some k =>
    sendBundle (evaluateFrame { s with fabric := { s.fabric with sampling := none } } im k none w.won) im k s.fabric.hash w.ncmd w.outs
  | _, _, _ => s

/-- An output has come: a frame that waits for no further one is evaluated. -/
def frameSampled (s : State) : State :=
  match s.image, s.fabric.sampling, s.fabric.frame with
  | some im, some _, some k => if samplesAwaited s im k then s else sampledFrame s
  | _, _, _ => s

/-- Frame k is evaluated on the node's own inputs, or waits for its samples (R266). -/
def ownFrame (s : State) (k : Nat) (won : List Accepted) (ncmd : Nat) (outs : List (Nat × Nat × SenseOut)) : State :=
  frameSampled { s with fabric := { s.fabric with frame := some k, sampling := some { won := won, ncmd := ncmd, outs := outs } } }

/-- A member evaluates on its partner's bundles (R349): STANDBY, SYNCING with the state loaded, SUSPECT while the link is up. -/
def usesBundles (s : State) : Bool :=
  (s.role == 3 && s.linkUp) || (s.role == 2 && s.linkUp && s.twin.loaded) || (s.role == 5 && s.linkUp)

/-! ### The frame start (R156) -/

/-- The live number of the next frame. -/
def nextFrame (s : State) (im : Image) : Nat := s.fabric.next.getD (frameFrom im.frate s.tickPm)

/-- The commands of the closed set that name the node's own targets: modes, clears, banks and sources, in the order of presentation. -/
def ownTargets (s : State) (k : Nat) (won : List Accepted) : State :=
  let key (c : Accepted) := targetKey s c.target
  let s := modeRequests s k (won.filter fun c => key c == modeTarget)
  won.foldl (fun s c =>
    let t := key c
    if 0x20000 ≤ t ∧ t < 0x30000 then
      (if s.mode = 6 then s else bridgeClear s (t - 0x20000) c.source c.t k c.item)
    else if 0x30000 ≤ t ∧ t < 0x40000 then bankAccepted s (t - 0x30000) c.value c.source c.t k c.item
    else if 0x40000 ≤ t then sourceAccepted s (t - 0x40000) c.value c.source c.t k c.item
    else s) s

/-- A member that loses step with its bundle evaluates its own inputs: a STANDBY member sets DIVERGED (R350). -/
def missedBundle (s : State) (im : Image) : State :=
  match s.fabric.frame with
  | none => s
  | some k =>
    if s.fabric.await = false then s
    else
      let s := s.bump R.NODE_TWIN_CNT_BMISS 1
      let s := if s.role = 3 then s.put R.NODE_TWIN_STAT_DIVERGED 1 else s
      let (s, won) := closeSet s k s.fabric.written
      evaluateFrame { s with fabric := { s.fabric with written := [] } } im k none won

/-- A frame that still waits, for its samples or for its bundle, is evaluated before anything follows it. -/
def frameCatchUp (s : State) (im : Image) : State :=
  let s := sampledFrame s
  if s.fabric.await then missedBundle s im else s

/-- A REPLAY run that ends by itself in this frame has ended when the requests of the frame are judged (R71). -/
def replayEnds (s : State) (im : Image) : State :=
  if s.mode ≠ 6 then s
  else
    let t := replayWalk im recFuel s
    if t.mode = 6 then s else t

/-- The frame start F_k: the frame before completes; the acceptance set closes; reinitialisation, mode requests and automatic transitions;
clears, banks and sources; and the evaluation on the inputs of the role and mode (R31, R50, R71, R156). An automatic transition in the frame comes
before the requests, which are judged against the mode it leaves (R71). -/
def frameBegin (s : State) (im : Image) (k : Nat) : State :=
  let s := frameCatchUp (s.runTo (frameStart im.frate k)) im
  let s := { s with fabric := { s.fabric with next := some k } }
  let s := if s.linkUp then { s with twin := { s.twin with quiet := s.twin.quiet + 1 } } else s
  let rs := s.sense.frameOuts
  let ncmd := (s.acceptance.filter fun c => c.k ≤ k).length
  let s := completeFrame s im
  let s := { s with fabric := { s.fabric with next := some (k + 1) } }
  let set := s.acceptance.filter fun c => decide (c.k ≤ k)
  let s := { s with acceptance := s.acceptance.filter fun c => decide (k < c.k) }
  let waits := usesBundles s
  let (own, fab) := if waits then set.partition fun c => decide (0x10000 ≤ c.target) else (set, [])
  let (s, won) := closeSet s k own
  let s := if s.fabric.reinit ∧ s.mode ≠ 5 ∧ s.mode ≠ 7 ∧ inQuiet s = false then fabricInit s im (frameStart im.frate k) else s
  let s := replayEnds (modeAutomatic s im) im
  let s := modePending (ownTargets s k won)
  let s := if s.fabric.reinit ∧ s.mode ≠ 5 ∧ s.mode ≠ 7 ∧ inQuiet s = false then fabricInit s im (frameStart im.frate k) else s
  let s := sendState s im k
  let s := if s.mode = 6 ∨ inQuiet s then s else scheduleFrames s im k
  if s.mode = 6 then replayWalk im recFuel s
  else if s.get R.FAB_STATUS_RUN = 0 then s
  else if waits ∧ usesBundles s then { s with fabric := { s.fabric with frame := some k, await := true, written := fab } }
  else ownFrame s k won ncmd rs

/-- FRAME_START: the next frame of the active image; without an image no frame starts (R31). -/
def frameStartStep (s : State) : State :=
  match s.image with
  | none => s
  | some im => frameBegin s im (nextFrame s im)

end Sys2Proof.Machine
end

