-- ==== Sys2Proof/Machine/SafetyFn.lean ====
section
/-!
DEFINITION. The safety function: cycles, inputs, reactions, contactor outputs, the plug, LOCKOUT and its causes, LRST (spec/14_safety.md R369
to R393).
-/
namespace Sys2Proof.Machine

/-! ### Cycles (R369) -/

/-- Postmark of the start of safety cycle c: tray tick 100c. -/
def cyclePm (c : Nat) : Nat := trayTickPm (100 * c)

/-- The last cycle whose start lies at or before a postmark. -/
def cycleAt (pm : Nat) : Nat := ((pm + 1) * 10000 - 1) / 2 ^ 32

/-- The first cycle whose start lies at or after a postmark. -/
def cycleFrom (pm : Nat) : Nat := (trayTickAtOrAfter pm + 99) / 100

/-- The cycle after the last one evaluated. -/
def cycleNext (s : State) : Nat := (s.safety.cycle.map (· + 1)).getD 0

/-- A duration of µs has passed since an instant of elapsed time, as a cycle start sees it. -/
def lasted (s : State) (since us : Nat) : Bool := decide (since + usec us ≤ s.time.elapsed + usec 1)

/-! ### Causes and LOCKOUT (R385, R386) -/

/-- Causes of the kind Fault (Table SF-8). -/
def faultCause (code : Nat) : Bool := !(code == 0x01 || code == 0x0C || code == 0x0D || code == 0x0E)

/-- Causes that only the self-check clears. -/
def selfCheckCause (code : Nat) : Bool := [0x04, 0x05, 0x07, 0x09, 0x0F].contains code

/-- OPEN counts the causes not yet cleared. -/
def openCount (s : State) : State := s.put R.SAF_LOCK_OPEN (min 255 s.safety.causes.length)

/-- The lockout latch is written with a cause, or the cause is added (R72, R386). -/
def latchCause (s : State) (code index : Nat) : State :=
  let s :=
    if s.get R.NODE_MODE_LATCH = 0 then
      (((s.put R.NODE_MODE_LATCH 1).put R.SAF_LOCK_FIRST code).put R.SAF_LOCK_INDEX index).put R.SAF_LOCK_NCAUSE 1
    else s.bump R.SAF_LOCK_NCAUSE 1
  openCount { s with safety := { s.safety with causes := s.safety.causes ++ [(code, index)] } }

/-- A SAFETY envelope (R398). -/
def safetyEnvelope (s : State) (event index cause td : Nat) : State :=
  let body := leBytes 1 event ++ leBytes 1 index ++ leBytes 1 cause ++ leBytes 1 s.mode ++ leBytes 4 0 ++ leBytes 8 td
  (postHw s 0x19 0 1019 td 4 0 body).irq 5

/-- LOCKOUT is entered (R72, R386): tests end, NODE_MODE reads LOCKOUT with ENTRY = 7, the envelope is posted. In LOCKOUT a later cause changes
nothing else. -/
def lockoutEnter (s : State) (code index td : Nat) : State :=
  if s.mode = 7 then s
  else safetyEnvelope (setMode (testAbort s) 7 7) 3 index code td

/-- A STANDBY request of the safety function (R372): where a mode change is required, or a request that would start switching waits. -/
def standbyRequest (s : State) (pm : Nat) : State :=
  if switchingMode s.mode ∨ s.get R.NODE_MODE_PENDING = 1 ∨ s.acceptance.any (fun c => targetKey s c.target == modeTarget) then
    let n := s.safety.seq
    modePending (acceptEnter { s with safety := { s.safety with seq := n + 1 } } 0 0 n modeTarget 1 pm [])
  else s

/-! ### Outputs (R379 to R383) -/

/-- REQWIRE of output n reads at least 0.5 with VALID = 1. -/
def outRequested (s : State) (n : Nat) : Bool :=
  let w := outReqWire (safetySect s) n
  (s.wireStat w).testBit 0 && f32le f32half (s.wireBits w)

/-- Feedback f reads closed. -/
def fbClosed (s : State) (f : Nat) : Bool := (s.get R.SAF_FB_LEVEL).testBit f

/-- Feedback f shows the state of its output: closed with it for USE 1, open with it for USE 2. -/
def fbAgrees (s : State) (n f : Nat) : Bool :=
  let on := (s.contactor n).on
  match fbUse (safetySect s) f with
  | 1 => fbClosed s f == on
  | 2 => fbClosed s f != on
  | _ => true

/-- Output n is commanded off and every feedback input that monitors it confirms it open (R391). -/
def outConfirmedOpen (s : State) (n : Nat) : Bool :=
  !(s.contactor n).on &&
    (List.range 8).all fun f => !(outFbMask (safetySect s) n).testBit f || fbAgrees s n f

/-- The outputs of a mask. -/
def maskOuts (m : Nat) : List Nat := (List.range 4).filter fun n => m.testBit n

/-- An output of the mask is commanded on or not confirmed open. -/
def maskBusy (s : State) (m : Nat) : Bool := (maskOuts m).any fun n => !outConfirmedOpen s n

/-- A USE 3 feedback input exists, and one of them reads closed. -/
def lockFeedback (s : State) : Bool × Bool :=
  let fs := (List.range 8).filter fun f => fbUse (safetySect s) f == 3
  (!fs.isEmpty, fs.any (fbClosed s))

/-- The plug state of SAF_PLUG. -/
def plugState (s : State) : Nat := s.get R.SAF_PLUG_STATE

/-- The plug and lock conditions of an output in the PLUG input's CMASK (R391). -/
def plugPermits (s : State) (n : Nat) : Bool :=
  match plugInput (safetySect s) with
  | none => true
  | some i => !(inMask (safetySect s) i).testBit n || (plugState s == 1 && (!(lockFeedback s).1 || (lockFeedback s).2))

/-- The mode lets output n be on (R379, Table MD-6). -/
def modePermitsOut (s : State) (n : Nat) : Bool :=
  let m := s.mode
  if switchingMode m then outRequested s n
  else if m = 5 then (sb (safetySect s) 6).testBit n
  else m == 1 && s.hidden.stopRamp.isSome && (s.contactor n).on

/-- Output n is commanded on (R379). -/
def outPermitted (s : State) (n : Nat) : Bool :=
  outUse (safetySect s) n && s.mode != 7 && !(s.safety.causes.any fun c => faultCause c.1) && !demandHolds s n && modePermitsOut s n
    && plugPermits s n && !(s.contactor n).heldOff

/-- Set one of the two command bits, or readback bits, of each channel of output n. -/
def setOutBits (s : State) (f : Fld) (n : Nat) (a b : Bool) : State := s.put f (setBit (setBit (s.get f) (2 * n) a) (2 * n + 1) b)

/-- The balls of output n follow its command and its pulses. -/
def outBalls (s : State) (n : Nat) : State :=
  let c := s.contactor n
  let a := c.on && c.pulseA.isNone
  let b := c.on && c.pulseB.isNone
  let s := setOutBits (setOutBits s R.SAF_OUT_CMD n a b) R.SAF_OUT_RB n a b
  s.put R.SAF_OUT_TPACT (setBit (s.get R.SAF_OUT_TPACT) n (c.pulseA.isSome || c.pulseB.isSome))

/-- Command output n: a change is noted, a pulse that runs when it goes off gives no result (R382), an opening is counted (R481). -/
def outCommand (s : State) (n : Nat) (on : Bool) : State :=
  let c := s.contactor n
  if c.on = on then s
  else
    let now := s.time.elapsed
    let c := { c with on := on, changedAt := now, discA := c.discA || c.pulseA.isSome, discB := c.discB || c.pulseB.isSome }
    let c := if on then { c with lastA := now, lastB := now } else c
    let s := outBalls (s.setContactor n c) n
    if on then s else contactorOpening s n

/-- Every output follows R379. -/
def outsFollow (s : State) : State := (List.range 4).foldl (fun s n => outCommand s n (outPermitted s n)) s

/-- The node drives the safety balls: unpaired, or ACTIVE (R399). -/
def drivesOuts (s : State) : Bool := s.role == 0 || s.role == 4

/-- A test pulse may start on channel ch of output n at this cycle start (R381, R382). -/
def pulseFree (s : State) (n : Nat) (ch : Bool) : Bool :=
  let c := s.contactor n
  let h := safetySect s
  drivesOuts s && outUse h n && outTpEn h n && c.on && lasted s c.changedAt (1000 * outTfb h n) && c.pulseA.isNone && c.pulseB.isNone
    && lasted s (if ch then c.lastA else c.lastB) 10000

/-- The periodic test of channel ch of output n is due: on A once per TP_INT, on B TP_INT/2 after the pulse on A. -/
def pulseDue (s : State) (n : Nat) (ch : Bool) : Bool :=
  let c := s.contactor n
  let t := 100000 * outTpInt (safetySect s) n
  if ch then decide (c.lastB < c.lastA) && lasted s c.lastA (t / 2) else lasted s c.lastA t

/-- Start what test pulses are due or requested at this cycle start. -/
def pulseStart (s : State) (o : Nat) : State :=
  let n := o / 2
  let ch := o % 2 == 1
  let asked := s.safety.tpReq.testBit o
  if pulseFree s n ch ∧ (asked ∨ pulseDue s n ch) then
    let c := s.contactor n
    let now := s.time.elapsed
    let c := if ch then { c with pulseB := some now, lastB := now, discB := false } else { c with pulseA := some now, lastA := now, discA := false }
    let s := { s.setContactor n c with safety := { (s.setContactor n c).safety with tpReq := setBit s.safety.tpReq o false } }
    outBalls s n
  else s

/-- The end of a test pulse on output ball o = 2n + ch (R381, R382): at TP_LEN the ball returns to its command; a discarded result is noted, a failed
test is the fault TEST_PULSE. -/
def pulseEnd (s : State) (o : Nat) (ok : Bool) : State :=
  let n := o / 2
  let ch := o % 2 == 1
  let c := s.contactor n
  match (if ch then c.pulseB else c.pulseA) with
  | none => s
  | some e =>
    let s := s.runElapsed (e + usec (outTpLen (safetySect s) n))
    let disc := if ch then c.discB else c.discA
    let c := if ch then { c with pulseB := none, discB := false } else { c with pulseA := none, discA := false }
    let s := outBalls (s.setContactor n c) n
    if disc then
      safetyEnvelope (s.mark R.SAF_TPRES_DISCARD (2 ^ o)) 5 o 0 s.postmark
    else
      let s := (s.bump R.SAF_CNT_TPDONE 1).put R.SAF_TPRES_PASS (setBit (s.get R.SAF_TPRES_PASS) o ok)
      if ok then s else { s with safety := { s.safety with faults := s.safety.faults ++ [(0x04, o)] } }

/-! ### The plug (R390, R391) -/

/-- The band of a pilot value (Table SF-9): 0 OPEN, 1 PLUGGED, 2 RELEASE, 3 below 0.40 V, 4 between bands. One code is 2.048/2²³ V. -/
def pilotBand (code : Nat) : Nat :=
  let v : Int := signed 24 code * 2048
  let at_ (mv : Int) : Int := mv * 2 ^ 23
  if v < at_ 400 then 3
  else if at_ 600 ≤ v ∧ v ≤ at_ 1000 then 1
  else if at_ 1200 ≤ v ∧ v ≤ at_ 1600 then 2
  else if at_ 1800 ≤ v then 0
  else 4

/-- The band after FILT: a band held for FILT counts; a value between bands counts as FAULT after 10 ms. -/
def pilotFilter (s : State) (filt code : Nat) : State :=
  let b := pilotBand code
  let f := s.safety
  let since := if f.band.1 = b then f.band.2 else s.time.elapsed
  let due := lasted s since (if b = 4 then 10000 else 100 * filt)
  { s with safety := { f with band := (b, since), pilotBand := if due then (if b = 4 then 3 else b) else f.pilotBand } }

/-- The plug state of the filtered band and channel B. -/
def plugOf (band : Nat) (b : Bool) : Nat :=
  match band, b with
  | 0, false => 0
  | 1, true => 1
  | 2, true => 2
  | _, _ => 3

/-- SAF_PLUG follows the pilot and SINiB of the PLUG input. -/
def plugFollow (s : State) (i code : Nat) : State :=
  let s := pilotFilter (s.put R.SAF_PLUG_CODE code) (inFilt (safetySect s) i) code
  s.put R.SAF_PLUG_STATE (plugOf s.safety.pilotBand ((s.get R.SAF_IN_LEVEL).testBit (2 * i + 1)))

/-- CONLOCK (R391): high from the first cycle with PLUGGED and a request, until every CMASK output has been confirmed open for T_UNLOCK. -/
def conlockFollow (s : State) : State :=
  let h := safetySect s
  match plugInput h with
  | none => s
  | some i =>
    let m := inMask h i
    let want := plugState s == 1 && (maskOuts m).any (outRequested s)
    let conf := if maskBusy s m then none else some (s.safety.confirmed.getD s.time.elapsed)
    let s := { s with safety := { s.safety with confirmed := conf } }
    let release := match conf with
      | some e => lasted s e (1000 * inParam h i)
      | none => false
    let s := if want then s.put R.SAF_PLUG_LOCKCMD 1 else if release then s.put R.SAF_PLUG_LOCKCMD 0 else s
    s.put R.SAF_PLUG_LOCKFB (if (lockFeedback s).2 then 1 else 0)

/-! ### Inputs and what they demand (R373, R390 to R392) -/

/-- The pair of levels of input i: 0 permits, 1 demands, 2 discrepancy (R373). -/
def inputPair (s : State) (i : Nat) : Nat :=
  let v := s.get R.SAF_IN_LEVEL
  let a := v.testBit (2 * i)
  let b := v.testBit (2 * i + 1) != inAnti (safetySect s) i
  if a && b then 0 else if !a && !b then 1 else 2

/-- The input is a pair of balls: neither PLUG nor INSULATION nor unused. -/
def inputPlain (h : List Nat) (i : Nat) : Bool := [1, 2, 3, 5].contains (inFunc h i)

/-- A live demand of a source. -/
def demandLive (s : State) (src : DemandSrc) : Bool := s.safety.demands.any fun d => d.src == src && d.live

/-- Input i demands off in this cycle. RELEASE demands while the contactors are not confirmed open, and a demand it has begun lasts until the
plug is PLUGGED or OPEN (Table SF-17). -/
def inputDemands (s : State) (i : Nat) : Bool :=
  let h := safetySect s
  if inputPlain h i then inputPair s i != 0
  else if inFunc h i = 4 then
    (plugState s == 2 && maskBusy s (inMask h i)) || (demandLive s (.input i) && (plugState s == 2 || plugState s == 3))
  else if inFunc h i = 6 then s.get R.SAF_ISO_FAULT == 1
  else false

/-- DISCREP and how long each discrepancy, or plug fault, has lasted. -/
def discFollow (s : State) : State :=
  let h := safetySect s
  (List.range 8).foldl (fun s i =>
    let bad := if inputPlain h i then inputPair s i == 2 else inFunc h i == 4 && plugState s == 3
    let d := if bad then some ((sget none s.safety.discSince i).getD s.time.elapsed) else none
    let s := { s with safety := { s.safety with discSince := sset none s.safety.discSince i d } }
    s.put R.SAF_IN_DISCREP (setBit (s.get R.SAF_IN_DISCREP) i (bad && inputPlain h i))) s

/-- Connection j demands off in this cycle (R397): not fresh, PERMIT = 0, or a frame came too late. -/
def connDemands (s : State) (j : Nat) : Bool :=
  let c := s.conn j
  let fresh := match c.expiry with
    | some e => decide (s.postmark < e)
    | none => false
  connReceives (safetySect s) j && (!fresh || !c.permit || c.lapsed)

/-- FRESH of every connection. -/
def connFollow (s : State) : State :=
  (List.range 16).foldl (fun s j =>
    let fresh := match (s.conn j).expiry with
      | some e => decide (s.postmark < e)
      | none => false
    s.put (R.SAF_RFj_STAT_FRESH j) (if connReceives (safetySect s) j && fresh then 1 else 0)) s

/-! ### Faults of a cycle (R370, R373, R377, R383, R391) -/

/-- The fault conditions that hold in this cycle, by code and index, in the order of the codes. -/
def faultsNow (s : State) : List (Nat × Nat) :=
  let h := safetySect s
  let disc := (List.range 8).filterMap fun i => match sget none s.safety.discSince i with
    | some e => if inputPlain h i && lasted s e (10000 * inDisc h i) then some (0x02, i) else none
    | none => none
  let sto := match s.safety.stoSince with
    | some e => if lasted s e 100000 then [(0x03, 0)] else []
    | none => []
  let fb := (List.range 4).flatMap fun n =>
    if outUse h n && lasted s (s.contactor n).changedAt (1000 * outTfb h n) then
      (List.range 8).filterMap fun f => if (outFbMask h n).testBit f && !fbAgrees s n f then some (0x06, f) else none
    else []
  let cmp := if 2 ≤ s.safety.differ then [(0x07, 0)] else []
  let plug := match plugInput h with
    | none => []
    | some i =>
      (if plugState s == 0 && (maskBusy s (inMask h i) || s.get R.SAF_PLUG_LOCKCMD == 1) then [(0x0A, i)] else [])
      ++ (match sget none s.safety.discSince i with
        | some e => if lasted s e (10000 * inDisc h i) then [(0x0B, i)] else []
        | none => [])
  disc ++ sto ++ s.safety.faults ++ fb ++ cmp ++ plug

/-- New faults: conditions without an open cause of theirs. -/
def faultsNew (s : State) : List (Nat × Nat) := (faultsNow s).filter fun c => !s.safety.causes.contains c

/-- MISMATCH of the feedback inputs in fault. -/
def fbMismatch (s : State) : State :=
  (faultsNow s).foldl (fun s c => if c.1 = 0x06 then s.mark R.SAF_FB_MISMATCH (2 ^ c.2) else s) s

/-! ### When causes clear (Table SF-8) -/

/-- The cause still stands. -/
def causeStands (s : State) (c : Nat × Nat) : Bool :=
  let h := safetySect s
  match c.1 with
  | 0x01 => inputDemands s c.2
  | 0x02 => inputPlain h c.2 && inputPair s c.2 == 2
  | 0x03 => s.get R.SAF_STATUS_STOA != s.get R.SAF_STATUS_STOB
  | 0x06 => (List.range 4).any fun n => (List.range 8).any fun f => (outFbMask h n).testBit f && !fbAgrees s n f
  | 0x08 => s.get R.SAF_LRST_PRESSED == 1
  | 0x0A => match plugInput h with
    | some i => plugState s != 0 || maskBusy s (inMask h i)
    | none => false
  | 0x0B => plugState s == 3 && (plugInput h).isSome
  | 0x0C => connDemands s c.2
  | 0x0D => s.get R.SAF_ISO_FAULT == 1
  | 0x0E => inputDemands s c.2
  | _ => true

/-- Drop the causes whose condition for clearing holds. -/
def causesClear (s : State) : State :=
  openCount { s with safety := { s.safety with causes := s.safety.causes.filter (causeStands s) } }

/-! ### Demands and reactions (R376) -/

/-- Index and LATCH cause of a demand's source. -/
def srcCause (s : State) : DemandSrc → Nat × Nat
  | .input i => (i, if inFunc (safetySect s) i = 6 then 0x0D else 0x01)
  | .conn j => (j, 0x0C)

/-- A demand begins in this cycle (R376, R386): counted, reported, the latch written for LATCH = 1, STANDBY requested unless REACT is OPEN. -/
def demandStart (s : State) (src : DemandSrc) (react cmask tss1 : Nat) (latch : Bool) (td : Nat) : State :=
  let (ix, code) := srcCause s src
  let s := s.bump R.SAF_CNT_DEMANDS 1
  let s := if latch then latchCause s code ix else s
  let s := safetyEnvelope s 1 ix (if latch then code else 0) td
  let d : Demand := { src := src, react := react, cmask := cmask, latch := latch, tss1 := tss1, td := td, at_ := s.time.elapsed, live := true,
                      stoDone := decide (react = 3), toOpen := cmask }
  let s := { s with safety := { s.safety with demands := s.safety.demands ++ [d] } }
  if react = 3 then s else standbyRequest s td

/-- A demand ends in this cycle. -/
def demandEnd (s : State) (src : DemandSrc) (td : Nat) : State :=
  let (ix, code) := srcCause s src
  let latch := s.safety.demands.any fun d => d.src == src && d.live && d.latch
  let s := { s with safety := { s.safety with demands := s.safety.demands.map fun d => if d.src == src then { d with live := false } else d } }
  safetyEnvelope s 2 ix (if latch then code else 0) td

/-- Begin or end the demand of a source by what it reads. -/
def demandFollow (s : State) (src : DemandSrc) (now : Bool) (react cmask tss1 : Nat) (latch : Bool) (td : Nat) : State :=
  if demandLive s src = now then s
  else if now then demandStart s src react cmask tss1 latch td
  else demandEnd s src td

/-- The demands of all inputs and connections. -/
def demandsFollow (s : State) (td : Nat) : State :=
  let h := safetySect s
  let s := (List.range 8).foldl (fun s i =>
    let now := inputDemands s i
    let s := s.put R.SAF_STATUS_DEMAND (setBit (s.get R.SAF_STATUS_DEMAND) i now)
    demandFollow s (.input i) now (inReact h i) (inMask h i) (inParam h i) (inLatch h i) td) s
  (List.range 16).foldl (fun s j =>
    let now := connDemands s j
    let s := s.put R.SAF_STATUS_RFOFF (setBit (s.get R.SAF_STATUS_RFOFF) j now)
    let s := demandFollow s (.conn j) now (connReact h j) (connMask h j) (connTss1 h j) (connLatch h j) td
    s.setConn j { s.conn j with lapsed := false }) s

/-- The steps of one reaction that are due (Table SF-3). A REACT 0 demand beside an SS1-t reaction makes the earlier step of each govern
(Table SF-13). -/
def reactionStep (s : State) (stoNow : Bool) (d : Demand) : Demand :=
  match d.react with
  | 0 => { d with stoDone := true, toOpen := 0 }
  | 1 => if stoNow || lasted s d.at_ (1000 * d.tss1) then { d with stoDone := true, toOpen := 0 } else d
  | _ =>
    let left := (List.range 4).foldl (fun m n =>
      if d.toOpen.testBit n && !lasted s d.at_ (1000 * outTopen (safetySect s) n) then setBit m n true else m) 0
    { d with stoDone := true, toOpen := left }

/-- The outputs newly taken off by a demand are held off until their request drops (R379). -/
def holdOff (s : State) (before after : Demand) : State :=
  (List.range 4).foldl (fun s n =>
    if before.toOpen.testBit n && !after.toOpen.testBit n then s.setContactor n { s.contactor n with heldOff := true } else s) s

/-- Every reaction takes its due steps. -/
def reactionsStep (s : State) : State :=
  let stoNow := s.safety.demands.any fun d => d.react == 0 && d.live
  let ds := s.safety.demands
  let s' := ds.foldl (fun s d => holdOff s d (reactionStep s stoNow d)) s
  { s' with safety := { s'.safety with demands := ds.map (reactionStep s stoNow) } }

/-- A reaction whose steps have all been carried out. -/
def Demand.complete (d : Demand) : Bool := d.stoDone && d.toOpen == 0

/-- LATCH demands whose reaction is complete enter LOCKOUT (R376); demands that have ended and completed are dropped. -/
def demandsComplete (s : State) : State :=
  let s' := s.safety.demands.foldl (fun s d =>
    if d.latch && d.complete then let (ix, code) := srcCause s d.src; lockoutEnter s code ix d.td else s) s
  { s' with safety := { s'.safety with demands := s'.safety.demands.filter fun d => d.live || !d.complete } }

/-- Internal STO (R378): a fault, a demand whose STO step has been carried out, or LOCKOUT holds it. It sets HELD on every leg. -/
def istoFollow (s : State) : State :=
  let on := s.mode == 7 || (s.safety.causes.any fun c => faultCause c.1)
    || (s.safety.demands.any fun d => d.react != 3 && d.stoDone && (d.live || d.latch))
  let was := s.get R.SAF_STATUS_ISTO == 1
  let s := s.put R.SAF_STATUS_ISTO (if on then 1 else 0)
  if on && !was then holdAll s else if was && !on && !s.stoOn then holdAgain s else s

/-- PERMIT: no demand, fault, STO or LOCKOUT holds any output. -/
def permitFollow (s : State) : State :=
  let ok := !s.stoOn && s.mode != 7 && s.safety.causes.isEmpty && s.get R.SAF_STATUS_DEMAND == 0 && s.get R.SAF_STATUS_RFOFF == 0
  s.put R.SAF_STATUS_PERMIT (if ok then 1 else 0)

/-! ### Reports to the fabric (R371) -/

/-- A posted value and its target: posted only on a change and to a target of KIND 0 with CLASSES bit 0. -/
def targetPost (s : State) (pm id v : Nat) : State :=
  if sget 0 s.safety.posted id = v then s
  else
    let n := s.safety.seq
    let s := { s with safety := { s.safety with posted := sset 0 s.safety.posted id v } }
    match targetRec s id with
    | some r =>
      if r.kind = 0 ∧ r.classes.testBit 0 then
        acceptEnter { s with safety := { s.safety with seq := n + 1 } } 0 0 n id v pm []
      else s
    | none => s

/-- A truth value as a posted value. -/
def f32bool (b : Bool) : Nat := if b then 0x3F800000 else 0

/-- The values of Table SF-1. -/
def targetsPost (s : State) (pm : Nat) : State :=
  let s := (List.range 8).foldl (fun s i => targetPost s pm (0xFF00 + i) (f32bool ((s.get R.SAF_STATUS_DEMAND).testBit i))) s
  let s := (List.range 16).foldl (fun s j => targetPost s pm (0xFF10 + j) (f32bool ((s.get R.SAF_STATUS_RFOFF).testBit j))) s
  let s := (List.range 8).foldl (fun s f => targetPost s pm (0xFF20 + f) (f32bool (fbClosed s f))) s
  let s := targetPost s pm 0xFF30 (f32ofNat (plugState s))
  targetPost s pm 0xFF31 (f32bool s.stoOn)

/-- A STO input that demands asks for STANDBY once (R377). -/
def stoRequest (s : State) (pm : Nat) : State :=
  let on := s.get R.SAF_STATUS_STOA == 1 || s.get R.SAF_STATUS_STOB == 1
  let was := sget 0 s.safety.posted 0x1FF31
  let s := { s with safety := { s.safety with posted := sset 0 s.safety.posted 0x1FF31 (if on then 1 else 0) } }
  if on ∧ was = 0 then standbyRequest s pm else s

/-! ### The cycle -/

/-- The faults of a cycle: each acts as REACT 0 on every output and enters LOCKOUT (R376, R386). -/
def faultsTake (s : State) (td : Nat) : State :=
  let new := faultsNew s
  let s := { s with safety := { s.safety with faults := [] } }
  match new with
  | [] => s
  | (code, ix) :: _ =>
    let s := new.foldl (fun s c => latchCause s c.1 c.2) s
    let s := (List.range 4).foldl (fun s n =>
      if (s.contactor n).on then s.setContactor n { s.contactor n with heldOff := true } else s) s
    lockoutEnter (istoFollow (outsFollow s)) code ix td

/-- One safety cycle (R369 to R372): readings, comparison, causes, demands, faults, reactions, outputs, test pulses, reports. -/
def cycleBody (s : State) (pilot : Nat) (agree : Bool) (pm : Nat) : State :=
  let s := { s with safety := { s.safety with differ := if agree then 0 else s.safety.differ + 1 } }
  let s := match plugInput (safetySect s) with
    | some i => plugFollow s i pilot
    | none => s
  let s := causesClear (connFollow (discFollow s))
  let s := stoRequest (demandsFollow s pm) pm
  let s := reactionsStep s
  let s := faultsTake (fbMismatch s) pm
  let s := istoFollow (outsFollow s)
  let s := demandsComplete s
  let s := conlockFollow (istoFollow (outsFollow s))
  let s := if s.safety.demands.any (fun d => d.td == pm) then s else (List.range 8).foldl pulseStart s
  targetsPost (permitFollow s) pm

/-- Run the safety cycle c. -/
def cycleRun (s : State) (c pilot : Nat) (agree : Bool) : State :=
  let s := s.runTo (cyclePm c)
  cycleBody { s with safety := { s.safety with cycle := some c } } (pilot % 2 ^ 24) agree (cyclePm c)

/-- SAFETY_CYCLE: the next cycle, with the pilot value and whether the channels agree. Without power no cycle runs. -/
def safetyCycle (s : State) (pilot : Nat) (agree : Bool) : State :=
  if s.powered then cycleRun s (max (cycleNext s) (cycleAt s.postmark)) pilot agree else s

/-- The first cycle at or after the present instant, on the last pilot value and with agreeing channels. -/
def cycleHeld (s : State) : State :=
  if s.powered then cycleRun s (max (cycleNext s) (cycleFrom s.tickPm)) (s.get R.SAF_PLUG_CODE) true else s

/-- The cycle that sees a duration of µs since an instant end. -/
def cycleDue (s : State) (since us : Nat) : State := cycleHeld (s.runElapsed (since + usec us - usec 1))

/-- A fault found outside a cycle: the next cycle takes it. -/
def faultFound (s : State) (code index : Nat) : State :=
  if s.powered then cycleHeld { s with safety := { s.safety with faults := s.safety.faults ++ [(code, index)] } } else s

/-! ### LRST (R387, R388) -/

/-- LRST_N is pressed: in LOCKOUT a self-check starts. -/
def lrstPress (s : State) : State :=
  let s := s.put R.SAF_LRST_PRESSED 1
  let lock := s.mode == 7
  { s with safety := { s.safety with press := some s.time.elapsed, stuck := false, selfCheck := false, selfRunning := lock } }

/-- The self-check ends: a pass clears the causes marked for it. -/
def selfCheckDone (s : State) (pass : Bool) : State :=
  if s.safety.selfRunning = false then s
  else
    let cs := if pass then s.safety.causes.filter (fun c => !selfCheckCause c.1) else s.safety.causes
    openCount { s with safety := { s.safety with selfRunning := false, selfCheck := true, causes := cs } }

/-- A press held longer than 3 s: STUCK, reported once. -/
def stuckNow (s : State) : State :=
  if s.safety.stuck then s
  else safetyEnvelope { s.mark R.SAF_LRST_STUCK 1 with safety := { s.safety with stuck := true } } 7 0 0 s.postmark

/-- LRST_N stays pressed longer than 3 s. -/
def lrstStuck (s : State) : State :=
  match s.safety.press with
  | none => s
  | some e => stuckNow (s.runElapsed (e + usec 3000001))

/-- LRST_N is released: the release leaves LOCKOUT if it is valid and nothing holds (R73, R387). The second part says that it did. -/
def lrstRelease (s : State) : State × Bool :=
  match s.safety.press with
  | none => (s, false)
  | some e =>
    let len := s.since e
    let s := (s.put R.SAF_LRST_LAST (min 65535 (len / usec 10000))).put R.SAF_LRST_PRESSED 0
    let s := { s with safety := { s.safety with press := none } }
    if len + usec 1 < usec 100000 then (s.mark R.SAF_LRST_SHORT 1, false)
    else if usec 3000001 < len then (stuckNow s, false)
    else if s.mode ≠ 7 then (s, false)
    else
      let s := cycleHeld s
      if s.safety.selfCheck ∧ s.safety.selfRunning = false ∧ s.safety.causes = [] ∧ s.get R.SAF_STATUS_DEMAND = 0 then
        let s := setMode (s.put R.NODE_MODE_LATCH 0) 1 9
        (safetyEnvelope (permitFollow (istoFollow s)) 4 (s.get R.SAF_LOCK_INDEX) (s.get R.SAF_LOCK_FIRST) s.postmark, true)
      else (s, false)

end Sys2Proof.Machine
end

