-- ==== Sys2Proof/Machine/SafetyExec.lean ====
section
/-!
DEFINITION. Registered frames, the insulation measurement, and the commands of the safety function (spec/14_safety.md).
-/
namespace Sys2Proof.Machine

/-! ### Checks of registered frames (R395) -/

/-- CRC-32C: polynomial 0x1EDC_6F41 reflected, initial value and final XOR all ones (R395). -/
def crc32c (bs : Bytes) : Nat := crcBytes 0x82F63B78 0xFFFFFFFF bs ^^^ 0xFFFFFFFF

/-- `n` shifts of a CRC register of 32 bits, most significant bit first. -/
def crcUp (poly : Nat) : Nat → Nat → Nat
  | 0, c => c
  | n + 1, c => crcUp poly n (if c.testBit 31 then c * 2 % 2 ^ 32 ^^^ poly else c * 2 % 2 ^ 32)

/-- CRC-32K: polynomial 0x741B_8CD7, not reflected, initial value SECRET, final XOR 0 (R395). -/
def crc32k (secret : Nat) (bs : Bytes) : Nat := bs.foldl (fun c b => crcUp 0x741B8CD7 8 (c ^^^ b.toNat * 2 ^ 24)) (secret % 2 ^ 32)

/-! ### Receiving (R396, R397) -/

/-- 100 µs in units of 2⁻³² s, rounded down. -/
def texpUnits (n : Nat) : Nat := n * 2 ^ 32 / 10000

/-- A frame is rejected at connection j: its counter grows. -/
def rejectAt (s : State) (f : Nat → Fld) (j : Nat) : State := s.bump (f j) 1

/-- The time check of Table SF-12 fails. -/
def frameTimeBad (s : State) (j pm texp ta : Nat) : Bool :=
  let h := safetySect s
  if connTmode h j then (s.conn j).begun && decide (pm ≤ (s.conn j).lastPm)
  else
    let st := s.get R.POST_STATUS_STATE
    !(st == 2 || st == 3) || decide (2 * 2 ^ 32 < (pm - ta) * 1000000)
      || decide (min texp (connTexp h j) * 2 ^ 32 < (ta - pm) * 10000)

/-- Bytes `n` from offset `i` of a frame. -/
def frameField (f : Bytes) (i n : Nat) : Nat := leNat ((f.drop i).take n)

/-- An accepted frame renews its connection and is posted (R396 to R398). -/
def frameAccept (s : State) (j : Nat) (f : Bytes) (ta : Nat) : State :=
  let h := safetySect s
  let pm := frameField f 4 8
  let len := frameField f 14 1
  let data := (f.drop 16).take len
  let permit := (frameField f 16 1).testBit 0
  let e := if connTmode h j then ta + texpUnits (frameField f 12 2) else pm + texpUnits (frameField f 12 2)
  let c := s.conn j
  let late := match c.expiry with
    | some x => decide (x ≤ ta)
    | none => false
  let s := s.setConn j { c with expiry := some e, lastPm := pm, seq := frameField f 2 2, permit := permit, begun := true, lapsed := c.lapsed || late }
  let s := ((s.put (R.SAF_RFj_STAT_FRESH j) (if ta < e then 1 else 0)).put (R.SAF_RFj_STAT_PERMIT j) (if permit then 1 else 0)).put
    (R.SAF_RFj_STAT_SEQ j) (frameField f 2 2)
  let body := f.take 2 ++ (f.drop 2).take 2 ++ leBytes 1 len ++ [0, 0, 0] ++ leBytes 8 pm ++ data
  postHw s 0x1A 1 1018 ta 4 0 body

/-- A registered frame from a bus and address, checked in the order of Table SF-12 (R396). A frame that fails check 1 or 2 names no connection: it is
counted at every receive connection on that bus and address. -/
def frameReceive (s : State) (bus addr : Nat) (f : Bytes) : State :=
  let h := safetySect s
  let ta := s.postmark
  let here := (List.range 16).filter fun j => connReceives h j && connBus h j == bus && connAddr h j == addr
  let len := frameField f 14 1
  let body := f.take (16 + len)
  if f.length < 24 + len ∨ f.length < 24 ∨ len = 0 ∨ 32 < len then here.foldl (fun s j => rejectAt s R.SAF_RFj_CNT_CRCC j) s
  else match here.find? (fun j => connId h j == frameField f 0 2) with
    | none => here.foldl (fun s j => rejectAt s R.SAF_RFj_CNT_CRCC j) s
    | some j =>
      let seq := frameField f 2 2
      let start := (frameField f 15 1).testBit 0
      let adv := (seq + 65536 - (s.conn j).seq) % 65536
      if frameField f (16 + len) 4 ≠ crc32c body then rejectAt s R.SAF_RFj_CNT_CRCC j
      else if frameField f (20 + len) 4 ≠ crc32k (connSecret h j) body then rejectAt s R.SAF_RFj_CNT_CRCK j
      else if start = false ∧ (adv = 0 ∨ connSeqwin h j < adv) then rejectAt s R.SAF_RFj_CNT_SEQ j
      else if frameTimeBad s j (frameField f 4 8) (frameField f 12 2) ta then rejectAt s R.SAF_RFj_CNT_TIME j
      else frameAccept s j f ta

/-! ### Sending (R398) -/

/-- The DATA of a frame the node sends. -/
def statusData (s : State) : Bytes :=
  let dem := s.get R.SAF_STATUS_DEMAND
  let rf := s.get R.SAF_STATUS_RFOFF
  let bit (b : Bool) (i : Nat) : Nat := if b then 2 ^ i else 0
  let flags := bit (s.get R.SAF_STATUS_PERMIT == 1) 0 + bit (s.mode == 7) 1 + bit s.stoOn 2 + bit (dem != 0 || rf != 0) 3
  leBytes 1 flags ++ leBytes 1 (s.get R.SAF_LOCK_FIRST) ++ leBytes 1 dem ++ leBytes 2 rf ++ leBytes 1 (plugState s) ++ [0, 0]

/-- The bytes of a registered frame (Table SF-10). -/
def frameBytes (conn seq pm texp flags secret : Nat) (data : Bytes) : Bytes :=
  let body := leBytes 2 conn ++ leBytes 2 seq ++ leBytes 8 pm ++ leBytes 2 texp ++ leBytes 1 data.length ++ leBytes 1 flags ++ data
  body ++ leBytes 4 (crc32c body) ++ leBytes 4 (crc32k secret body)

/-- The next cycle start that is a multiple of TCYC and later than the connection's last frame. -/
def sendCycle (s : State) (j : Nat) : Nat :=
  let t := max 1 (connTcyc (safetySect s) j)
  let c := (max (cycleFrom s.tickPm) (s.safety.cycle.getD 0) + t - 1) / t * t
  if (s.conn j).begun ∧ cyclePm c ≤ (s.conn j).lastPm then c + t else c

/-- A registered frame leaves on its bus: a CAN controller, or as KIND 6 a site port, to the peer node that ADDR names (Table SF-11, Table LK-2). -/
def registeredSend (s : State) (bus addr : Nat) (frame : Bytes) : State :=
  if bus < 4 then s.send (.registered bus addr frame)
  else
    let node := addr % 4096
    (s.send (.ether (bus - 4) (etherFrame s (bus - 4) (portAddress (s.get R.NODE_IDENT_CLUSTER) (bus - 4) node)
      (siteHeader s 6 node s.links.msgId 0 1 ++ frame)))).nextMsgId

/-- A registered frame as it arrives: on a site port a frame of KIND 6 (R429). -/
def frameIn (s : State) (bus : Nat) (h : SiteHead) (addr : Nat) (f : Bytes) : State :=
  if bus < 4 then frameReceive s bus addr f else siteTake s (bus - 4) 6 h fun s => frameReceive s bus addr f

/-- Send connection j sends its frame at the next multiple of TCYC. -/
def frameSend (s : State) (j : Nat) : State :=
  let h := safetySect s
  if connSends h j = false ∨ s.powered = false then s
  else
    let pm := cyclePm (sendCycle s j)
    let s := s.runTo pm
    let c := s.conn j
    let seq := (c.seq + 1) % 65536
    let s := (s.setConn j { c with seq := seq, begun := true, lastPm := pm }).put (R.SAF_RFj_STAT_SEQ j) seq
    registeredSend s (connBus h j) (connAddr h j)
      (frameBytes (connId h j) seq pm (connTexp h j) (if c.begun then 0 else 1) (connSecret h j) (statusData s))

/-! ### Insulation (R392) -/

/-- R_iso in kΩ of two means in µV at the slice that differ by d: ΔV_m = 20·d against ΔV_i = 20 V and R_S = 100 kΩ. -/
def isoResult (d : Nat) : Nat := if 1000000 ≤ d then 1048575 else min 1048575 (100 * d / (1000000 - d))

/-- A half-period of the injection ends with its mean (µV at the slice), and ISO_INJ takes its other level where the node drives it; one whose outputs
were flagged gives no result (R392, R399). -/
def isoMeasure (s : State) (mean : Int) (valid : Bool) : State :=
  let h := safetySect s
  match isoInput h with
  | none => s
  | some i =>
    let s := { s with safety := { s.safety with isoInj := s.powered && !inQuiet s && drivesOuts s && !s.safety.isoInj } }
    if s.powered = false ∨ inQuiet s ∨ valid = false then { s with safety := { s.safety with isoMean := none } }
    else
      let old := s.safety.isoMean
      let s := { s with safety := { s.safety with isoMean := some mean } }
      match old with
      | none => s
      | some m =>
        let r := isoResult (mean - m).natAbs
        let below := if r < inParam h i then s.safety.isoBelow + 1 else 0
        let above := if r < inParam h i then 0 else s.safety.isoAbove + 1
        let s := { s with safety := { s.safety with isoBelow := below, isoAbove := above } }
        let s := (s.put R.SAF_ISO_VALID 1).put R.SAF_ISO_R_ISO r
        let s := s.put R.SAF_ISO_FAULT (if 2 ≤ below then 1 else if 2 ≤ above then 0 else s.get R.SAF_ISO_FAULT)
        if r < 10 * inDisc h i then safetyEnvelope (s.mark R.SAF_ISO_WARN 1) 6 i 0 s.postmark else s

/-! ### Image activation and resets -/

/-- The SAFETY section takes effect at image activation: every connection begins, target values are posted afresh, outputs are off with no test
running (R371, R397). -/
def safetyActivate (s : State) : State :=
  let h := safetySect s
  let f := s.safety
  let s := { s with safety := { f with
    conns := [], posted := [], discSince := [], band := (0, s.time.elapsed), pilotBand := 0, confirmed := none, isoMean := none, isoBelow := 0,
    isoAbove := 0, tpReq := 0, outs := (List.range 4).foldl (fun m n => sset Contactor.off m n { Contactor.off with changedAt := s.time.elapsed }) [] } }
  let s := ((s.put R.SAF_OUT_CMD 0).put R.SAF_OUT_RB 0).put R.SAF_OUT_TPACT 0
  let s := ((s.put R.SAF_ISO_VALID 0).put R.SAF_ISO_FAULT 0).put R.SAF_ISO_R_ISO 0
  (List.range 16).foldl (fun s j =>
    let s := (s.put (R.SAF_RFj_STAT_DEFINED j) (if connDefined h j then 1 else 0)).put (R.SAF_RFj_STAT_DIR j) (if connSends h j then 1 else 0)
    ((s.put (R.SAF_RFj_STAT_FRESH j) 0).put (R.SAF_RFj_STAT_PERMIT j) 0).put (R.SAF_RFj_STAT_SEQ j) 0) s

/-! ### The commands -/

/-- SAFETY_CYCLE (R369). -/
def execSafetyCycle (pilot : Nat) (agree : Bool) (s : State) : Host.Outcome State Fault Refusal := runs s (safetyCycle s pilot agree)

/-- SAFETY_INPUT_CHANGE (R373): the filtered levels of SINiA and SINiB. -/
def execSafetyInputChange (input : Fin 8) (a b : Bool) (s : State) : Host.Outcome State Fault Refusal :=
  runs s (setOutBits s R.SAF_IN_LEVEL input.val a b)
/-- DISCREPANCY (R373): the cycle at which a discrepancy of the input has lasted DISC. -/
def execDiscrepancy (input : Fin 8) (s : State) : Host.Outcome State Fault Refusal :=
  runs s (match sget none s.safety.discSince input.val with
    | some e => cycleDue s e (10000 * inDisc (safetySect s) input.val)
    | none => s)

/-- The STO balls take levels after their filter: high permits. Gates go low at once (R377); once STO is released, held legs go to their safe levels
(Table TP-3). -/
def stoInput (s : State) (a b : Bool) : State :=
  let s := (s.put R.SAF_STATUS_STOA (if a then 0 else 1)).put R.SAF_STATUS_STOB (if b then 0 else 1)
  let s := { s with safety := { s.safety with stoSince := if a = b then none else some (s.safety.stoSince.getD s.time.elapsed) } }
  if a && b then (if s.stoOn then s else holdAgain s) else holdAll s

/-- STO_INPUT (R377). -/
def execStoInput (a b : Bool) (s : State) : Host.Outcome State Fault Refusal := runs s (stoInput s a b)
/-- STO_DISCREPANCY (R377). -/
def execStoDiscrepancy (s : State) : Host.Outcome State Fault Refusal :=
  runs s (match s.safety.stoSince with
    | some e => cycleDue s e 100000
    | none => s)

/-- SS1_TIMEOUT (R376): the cycle at which the first SS1-t reaction ends its time. -/
def execSs1Timeout (s : State) : Host.Outcome State Fault Refusal :=
  runs s (match s.safety.demands.find? (fun d => d.react == 1 && !d.stoDone) with
    | some d => cycleDue s d.at_ (1000 * d.tss1)
    | none => s)

/-- CONTACTOR_OPEN_DELAY (R376): the cycle at which T_OPEN of the output ends. -/
def execContactorOpenDelay (output : Fin 4) (s : State) : Host.Outcome State Fault Refusal :=
  runs s (match s.safety.demands.find? (fun d => (d.react == 2 || d.react == 3) && d.toOpen.testBit output.val) with
    | some d => cycleDue s d.at_ (1000 * outTopen (safetySect s) output.val)
    | none => s)

/-- TEST_PULSE_END (R381): a failed test is found by the next cycle. -/
def execTestPulseEnd (output : Fin 8) (ok : Bool) (s : State) : Host.Outcome State Fault Refusal :=
  let s' := pulseEnd s output.val ok
  runs s (if s'.safety.faults = [] then s' else cycleHeld s')

/-- A SAF_TPREQ write: tests of outputs that are tested at all run at the next permitted cycle (R381). -/
def testPulseRequest (s : State) (v : Nat) : State :=
  let h := safetySect s
  let m := (List.range 8).foldl (fun m o => if v.testBit o && outUse h (o / 2) && outTpEn h (o / 2) then setBit m o true else m) s.safety.tpReq
  { s with safety := { s.safety with tpReq := m } }

/-- TEST_PULSE_REQUEST (R381). -/
def execTestPulseRequest (r : Requester) (v : Word) (s : State) : Host.Outcome State Fault Refusal := runsBy r s (testPulseRequest s v.toNat)

/-- A readback mismatch of output ball o: a fault of the member that drives it; another member only compares its commands with the lines (R380, R399). -/
def outputReadback (s : State) (o : Nat) : State := if drivesOuts s then faultFound s 0x05 o else readbackDisagree s

/-- OUTPUT_READBACK (R380). -/
def execOutputReadback (output : Fin 8) (s : State) : Host.Outcome State Fault Refusal := runs s (outputReadback s output.val)

/-- FEEDBACK (R383): a filtered level of a feedback input; one that disagrees with its output later than T_FB is found by the next cycle. -/
def feedbackLevel (s : State) (f : Nat) (level : Bool) : State :=
  let s := s.put R.SAF_FB_LEVEL (setBit (s.get R.SAF_FB_LEVEL) f level)
  if (faultsNew s).any (fun c => c == (0x06, f)) then cycleHeld s else s

/-- FEEDBACK (R383). -/
def execFeedback (contact : Fin 8) (level : Bool) (s : State) : Host.Outcome State Fault Refusal :=
  runs s (feedbackLevel s contact.val level)
/-- REGISTERED_FRAME (R396). -/
def execRegisteredFrame (bus : Fin 6) (addr : FrameAddr) (frame : Bytes) (s : State) : Host.Outcome State Fault Refusal :=
  runsLink s (frameIn s bus.val addr.head addr.addr.toNat frame)

/-- CONNECTION_EXPIRY (R397): the first cycle at or after the expiry instant. -/
def execConnectionExpiry (conn : Fin 16) (s : State) : Host.Outcome State Fault Refusal :=
  runs s (match (s.conn conn.val).expiry with
    | some e => cycleHeld (s.runTo e)
    | none => s)

/-- REGISTERED_FRAME_SEND (R398). -/
def execRegisteredFrameSend (conn : Fin 16) (s : State) : Host.Outcome State Fault Refusal := runsLink s (frameSend s conn.val)

/-- INSULATION_MEASURE (R392). -/
def execInsulationMeasure (mean : Int) (valid : Bool) (s : State) : Host.Outcome State Fault Refusal := runs s (isoMeasure s mean valid)

/-- CONLOCK_RELEASE (R391): the cycle at which T_UNLOCK after confirmation ends. -/
def execConlockRelease (s : State) : Host.Outcome State Fault Refusal :=
  runs s (match s.safety.confirmed, plugInput (safetySect s) with
    | some e, some i => cycleDue s e (1000 * inParam (safetySect s) i)
    | _, _ => s)

/-- STOP_RAMP_END (R379): legs at safe levels; the next cycle takes the contactors off. -/
def execStopRampEnd (s : State) : Host.Outcome State Fault Refusal :=
  runs s (if s.hidden.stopRamp.isSome then cycleHeld (stopRampEnd s) else s)

/-- LRST_PRESS (R388). A press while nothing runs is seen at the end of BOOT (Table MD-5). -/
def execLrstPress (s : State) : Host.Outcome State Fault Refusal :=
  answers s (if s.powered then lrstPress s else { s with safety := { s.safety with press := some s.time.elapsed } })
/-- LOCKOUT_SELF_CHECK_DONE (R388). -/
def execLockoutSelfCheckDone (pass : Bool) (s : State) : Host.Outcome State Fault Refusal := runs s (selfCheckDone s pass)

/-- LRST_STUCK (R387). -/
def execLrstStuck (s : State) : Host.Outcome State Fault Refusal := runs s (lrstStuck s)

end Sys2Proof.Machine
end

