-- ==== Sys2Proof/Machine/ImageSlots.lean ====
section
/-!
DEFINITION. Image slots and activation (spec/07_structure_image.md R198 to R203).
-/
namespace Sys2Proof.Machine

/-! ### Slots (R198 to R200) -/

/-- The state of a slot: 0 EMPTY, 1 WRITING, 2 VALID, 3 REFUSED (Table SI-16). -/
def slotState (s : State) (n : Nat) : Nat := s.get R.SEC_IMG_STATUS_STATE / 4 ^ n % 4

/-- Set the state of a slot; VERSION and IMAGE_ID read 0 unless the slot is VALID (Table SI-17). -/
def setSlotState (s : State) (n v ver id : Nat) : State :=
  let st := s.get R.SEC_IMG_STATUS_STATE
  let s := s.put R.SEC_IMG_STATUS_STATE (st - slotState s n * 4 ^ n + v * 4 ^ n)
  (s.put (R.SEC_IMG_VERs_VER n) ver).put (R.SEC_IMG_IDs_ID n) id

/-- The words of a slot. -/
def slotWords (s : State) (n : Nat) : Sparse Nat := sget [] s.slots.words n

/-- The result of an operation, with the host interrupt of its end (Table LK-11). -/
def slotCode (s : State) (c : Nat) : State := (s.put R.SEC_IMG_STATUS_CODE c).irq 8

/-- The requester that owns a slot in WRITING. -/
def slotOwner (s : State) (n : Nat) : Option Nat := (sget none s.slots.opens n).map (·.1)

/-- The slot carries the active mark. -/
def slotMarked (s : State) (n : Nat) : Bool := s.get R.SEC_IMG_STATUS_ACT_MARK == 1 && s.get R.SEC_IMG_STATUS_ACT_SLOT == n

/-- An operation on slot n meets BUSY or another requester's slot (code 0x60). -/
def slotBusy (s : State) (r n : Nat) : Bool :=
  s.get R.SEC_IMG_STATUS_BUSY == 1 || (match slotOwner s n with
    | some o => o != r
    | none => false)

/-- A slot is open no longer. -/
def slotClose (s : State) (n : Nat) : State :=
  { s with slots := { s.slots with
      opens := sset none s.slots.opens n none
      cur := if s.slots.cur = some n then none else s.slots.cur } }

/-- OPEN (R200). -/
def imgOpen (s : State) (r n : Nat) : State :=
  if slotBusy s r n then slotCode s 0x60
  else if slotMarked s n then slotCode s 0x62
  else
    let s := setSlotState s n 1 0 0
    let s := { s with slots := { s.slots with
      words := sset [] s.slots.words n [], opens := sset none s.slots.opens n (some (r, 0, false)), cur := some n } }
    slotCode (s.put R.SEC_IMG_PTR_OFS 0) 0

/-- A word for the open slot (R200). -/
def imgData (s : State) (r addr v : Nat) : State :=
  match s.slots.cur with
  | none => addrError s r 5 addr
  | some n => match sget none s.slots.opens n with
    | none => addrError s r 5 addr
    | some (o, w, _) =>
      if o ≠ r then addrError s r 5 addr
      else if 1048576 ≤ w then
        { s with slots := { s.slots with opens := sset none s.slots.opens n (some (o, w, true)) } }
      else
        let s := { s with slots := { s.slots with
          words := sset [] s.slots.words n (sset 0 (slotWords s n) (w / 4) v)
          opens := sset none s.slots.opens n (some (o, w + 4, false)) } }
        let s := s.put R.SEC_IMG_PTR_OFS (w + 4)
        if w % 256 = 0 then nvWrite s 1 (n * 4096 + w / 256) else s

/-- A slot becomes REFUSED with CODE and WHERE (R200, R201). -/
def slotRefuse (s : State) (n : Nat) (f : Refuse) : State :=
  let s := setSlotState s n 3 0 0
  slotCode ((s.put R.SEC_IMG_WHERE_SECT f.sect).put R.SEC_IMG_WHERE_REC f.idx) f.code

/-- COMMIT (R200). -/
def imgCommit (s : State) (r n : Nat) : State :=
  if slotBusy s r n then slotCode s 0x60
  else match sget none s.slots.opens n with
    | none => slotCode s 0x65
    | some (_, w, isOver) =>
      let s := slotClose s n
      if isOver then slotRefuse s n ⟨0x63, 0, 0⟩
      else match checkImage s (slotWords s n) n w with
        | some f => slotRefuse s n f
        | none =>
          let m := slotWords s n
          slotCode (setSlotState s n 2 (rd32 m 0x1C) (rd32 m 0x18)) 0

/-- ERASE (R200). -/
def imgErase (s : State) (r n : Nat) : State :=
  if slotBusy s r n then slotCode s 0x60
  else if slotMarked s n then slotCode s 0x62
  else
    let s := slotClose (setSlotState s n 0 0 0) n
    slotCode { s with slots := { s.slots with words := sset [] s.slots.words n [] } } 0

/-- ABORT (R200). -/
def imgAbort (s : State) (r n : Nat) : State :=
  if slotBusy s r n then slotCode s 0x60
  else if (sget none s.slots.opens n).isNone then slotCode s 0x65
  else
    let s := slotClose (setSlotState s n 0 0 0) n
    slotCode { s with slots := { s.slots with words := sset [] s.slots.words n [] } } 0

/-- A slot in WRITING at a reset becomes REFUSED with code 0x64 (R198). -/
def slotsAtReset (s : State) : State :=
  let s := (List.range 4).foldl (fun s n => if slotState s n = 1 then slotRefuse s n ⟨0x64, 0, 0⟩ else s) s
  { s with slots := { s.slots with opens := [], cur := none, activating := none, loading := none } }

/-! ### Activation (R201) -/

/-- The check of step 1, on the image as the slot holds it. -/
def recheck (s : State) (n : Nat) : Option Refuse := checkImage s (slotWords s n) n (rd32 (slotWords s n) 0x0C)

/-- The image of a slot with its digest. -/
def slotImage (s : State) (n : Nat) : Image :=
  let m := slotWords s n
  { readImage m n with digest := sha512 (slotBytes m 0 (rd32 m 0x10)) }

/-- ACTIVATE: step 1 of Table SI-19. -/
def imgActivate (s : State) (r n : Nat) : State :=
  if slotBusy s r n then slotCode s 0x60
  else if s.mode ≠ 1 ∨ inQuiet s then slotCode s 0x61
  else if slotState s n ≠ 2 then slotCode s 0x65
  else match recheck s n with
    | some f => slotRefuse s n f
    | none => { s.put R.SEC_IMG_STATUS_BUSY 1 with slots := { s.slots with activating := some (n, 1) } }

/-- Waiting commands are refused with 0x05; mode requests due now with 0x02 (step 3). -/
def refuseWaiting (s : State) (k : Nat) : State :=
  let cs := s.acceptance
  cs.foldl (fun s c =>
    if targetKey s c.target = modeTarget ∧ c.k ≤ k then modeRefuse s 2 c.source (if c.target = modeTarget then 0 else c.target) c.t k c.item
    else deadLetter s 1 5 c.source c.target c.t k c.item) { s with acceptance := [] }

/-- With no image active FAB_STATUS and FAB_CFG hold nothing of one (R178, R179). -/
def fabricDefault (s : State) : State :=
  [R.FAB_STATUS_ACTIVE, R.FAB_STATUS_SLOT, R.FAB_STATUS_USED, R.FAB_CFG_FRATE, R.FAB_CFG_G0, R.FAB_CFG_G1, R.FAB_CFG_G2, R.FAB_CFG_G3].foldl
    (fun s f => s.put f f.reset) s

/-- The previous image stops (steps 2 and 3): its pigeonholes and trays are emptied before the refusals of the cycle are posted (R307), and the
registers that show the active image read as with none (R179, R294). -/
def imageStop (s : State) (k : Nat) : State :=
  let s := officeDefault (fabricDefault (fabricHalt s))
  let s := tigBreak (s.put R.POST_TIG_IMAGE 1)
  let s := { s with fabric := { s.fabric with next := none, await := false, sampling := none } }
  modePending (refuseWaiting (officeEmpty s) k)

/-- Leg n as its LEGMAP record says (step 4): held at its safe levels, staged and active duties 0; an unassigned leg both low, its trip input ignored
(R18, R228). -/
def legConfig (im : Image) (s : State) (n : Nat) : State :=
  let s := s.setLeg n { Leg.idle with input := (s.leg n).input, rb := (s.leg n).rb }
  let s := ((s.put (R.LEGn_DUTY_DUTY n) 0).put (R.LEGn_DUTY_ACT_DUTY n) 0).put (R.LEGn_FORCE_CODE n) 0
  let s := (((s.put (R.LEGn_STATUS_FCODE n) 0).put (R.LEGn_STATUS_PEND_D n) 0).put (R.LEGn_STATUS_PEND_PP n) 0).put (R.LEGn_STATUS_DRIVE n)
    (roleDrive s.role)
  match im.legs[n]? with
  | some l =>
    let s := ((s.put (R.LEGn_CFG_PHASE n) l.phase).put (R.LEGn_CFG_BLANK n) l.blank).put (R.LEGn_CFG_SAFE n) l.safe
    let s := (s.put (R.LEGn_CFG_POLICY n) l.policy).put (R.LEGn_CFG_SENSE n) l.sense
    let s := ((s.put (R.LEGn_DT_RISE n) l.dtRise).put (R.LEGn_DT_FALL n) l.dtFall).put (R.LEGn_MINP_MIN n) l.minp
    let s := setTripInput s n (l.phase != 0xFF && (s.leg n).input)
    if l.phase = 0xFF then legHold ((s.put (R.LEGn_CFG_ASSIGNED n) 0).put (R.LEGn_CFG_BRIDGE n) 0) n
    else
      let ph := im.phases.getD l.phase ⟨0, 0, 0, 0⟩
      let s := (s.put (R.LEGn_CFG_ASSIGNED n) 1).put (R.LEGn_CFG_BRIDGE n) ph.bridge
      let per := ((im.bridgeRec? ph.bridge).map (·.period)).getD 0
      let s := ((s.put (R.LEGn_PERIOD_PERIOD n) per).put (R.LEGn_PERIOD_ACT_PERIOD n) per)
      let s := ((s.put (R.LEGn_PHASE_PHASE n) ph.cphase).put (R.LEGn_PHASE_ACT_PHASE n) ph.cphase)
      legHold s n
  | none => s

/-- Bridge b as the image defines it. -/
def bridgeConfig (im : Image) (s : State) (b : Nat) : State :=
  let s := s.put (R.BRIDGE_CTRL_SRC b) 0
  match im.bridgeRec? b with
  | none =>
    ((((s.put (R.BRIDGE_CFG_PRESENT b) 0).put (R.BRIDGE_CFG_ROLE b) 0).put (R.BRIDGE_CFG_NPHASE b) 0).put (R.BRIDGE_CFG_CFORM b) 0).put
      (R.BRIDGE_CFG_RELOAD b) 0
  | some r =>
    ((((s.put (R.BRIDGE_CFG_PRESENT b) 1).put (R.BRIDGE_CFG_ROLE b) r.role).put (R.BRIDGE_CFG_NPHASE b) r.nphase).put
      (R.BRIDGE_CFG_CFORM b) r.cform).put (R.BRIDGE_CFG_RELOAD b) r.reload

/-- Banks and groups (Table SN-12). -/
def senseConfig (im : Image) (s : State) : State :=
  let s := (im.banks.zipIdx).foldl (fun s (k, b) =>
    (((((s.put (R.SN_BANKb_PM b) k.pm).put (R.SN_BANKb_FORM b) k.form).put (R.SN_BANKb_SDLEV b) k.sdlev).put (R.SN_BANKb_CLKADJ b) k.clkadj).put
      (R.SN_BANKb_SDLY b) k.sdly)) s
  let s := (im.groups.zipIdx).foldl (fun s (g, n) => (s.put (R.SN_GRPg_PS n) g.ps).put (R.SN_GRPg_EN n) g.en) s
  let en := (im.banks.zipIdx).foldl (fun v (k, b) => if k.form = 0 then v else v + 2 ^ b) 0
  let gr := (im.groups.zipIdx).foldl (fun v (g, n) => if g.en = 1 then v + 2 ^ n else v) 0
  let s := ((s.put R.SN_STATUS_BANKEN en).put R.SN_STATUS_GRPEN gr).put R.SN_STATUS_RUN (if inQuiet s then 0 else 1)
  ((s.put R.SN_CAL_ROT 0).put R.SN_CAL_STEP 0).put R.SN_CAL_PHASE 0

/-- Path p as the image defines it, on its initial bank (R266 to R270). `s` holds the image. -/
def pathConfig (im : Image) (s : State) (p : Nat) : State :=
  let s := s.setPath p Path.idle
  let s := ((((s.put (R.DEC_PATHp_BANK_FADING p) 0).put (R.DEC_PATHp_BANK_HELD p) 0).put (R.DEC_PATHp_BANK_HBANK p) 0).put
    (R.DEC_PATHp_BANK_TBANK p) 0).put (R.DEC_PATHp_BANK_XFLEFT p) 0
  match im.pathRec? p with
  | none =>
    let s := ((((s.put (R.DEC_PATHp_CFG_DEFINED p) 0).put (R.DEC_PATHp_CFG_K p) 0).put (R.DEC_PATHp_CFG_DLOG p) 0).put (R.DEC_PATHp_CFG_R p) 0).put
      (R.DEC_PATHp_CFG_SRC p) 0
    ((s.put (R.DEC_PATHp_BANK_ABANK p) 0).put (R.DEC_PATHp_BANK_ARESP p) 0).put (R.DEC_PATHp_DLY_UNITS p) 0
  | some r =>
    let d := romD (r.banks.getD 0 0)
    let s := ((((s.put (R.DEC_PATHp_CFG_DEFINED p) 1).put (R.DEC_PATHp_CFG_K p) r.k).put (R.DEC_PATHp_CFG_DLOG p) (Nat.log2 d)).put
      (R.DEC_PATHp_CFG_R p) r.r).put (R.DEC_PATHp_CFG_SRC p) p
    setActiveBank s p r.abank

/-- Resampler r as the image defines it. -/
def resConfig (im : Image) (s : State) (r : Nat) : State :=
  let s := (s.put (R.DEC_RSr_IDX_RUN r) 0).put (R.DEC_RSr_IDX_J r) 0
  match im.resamplers.find? (·.rch == r) with
  | none =>
    (((((s.put (R.DEC_RSr_CFG_DEFINED r) 0).put (R.DEC_RSr_CFG_LOCK r) 0).put (R.DEC_RSr_CFG_BRIDGE r) 0).put (R.DEC_RSr_CFG_LOGN r) 0).put
      (R.DEC_RSr_CFG_CYC r) 0).put (R.DEC_RSr_CFG_SRC r) 0
  | some c =>
    (((((s.put (R.DEC_RSr_CFG_DEFINED r) 1).put (R.DEC_RSr_CFG_LOCK r) c.lock).put (R.DEC_RSr_CFG_BRIDGE r) c.bridge).put
      (R.DEC_RSr_CFG_LOGN r) c.logn).put (R.DEC_RSr_CFG_CYC r) c.cyc).put (R.DEC_RSr_CFG_SRC r) c.src

/-- FAB_CFG, FAB_STATUS and the tiles (R163, R178, R179). -/
def fabricConfig (im : Image) (s : State) : State :=
  let g (i : Nat) : Nat := im.divs.getD i 7
  let s := ((((s.put R.FAB_CFG_FRATE im.frate).put R.FAB_CFG_G0 (g 0)).put R.FAB_CFG_G1 (g 1)).put R.FAB_CFG_G2 (g 2)).put R.FAB_CFG_G3 (g 3)
  let s := (s.put R.FAB_STATUS_SLOT im.slot).put R.FAB_STATUS_USED im.blocks.length
  let c := schedule im im.blocks
  (List.range 16).foldl (fun s t => (s.put (R.FAB_TILEt_STATIC_CYC t) (tileDone c t)).put (R.FAB_TILEt_PEAK_CYC t) 0) s

/-- Step 4: everything the image sets is loaded. What registers show of an active image alone, FAB_CFG and the pigeonholes among it, they show from its
activation frame (R179, R294). -/
def imageLoad (s : State) (im : Image) : State :=
  let was := (List.range 96).map fun n => if s.get (R.LEGn_CFG_ASSIGNED n) = 1 then s.get (R.LEGn_CFG_BRIDGE n) else 255
  let s := { s.put R.SN_SNAPSTAT_PEND 0 with image := some im, sense := { Sense.reset with latest := s.sense.latest } }
  let s := { s with fabric := { Fabric.reset with window := s.fabric.window, windowImage := s.fabric.windowImage, hash := s.fabric.hash } }
  let s := (List.range 16).foldl (bridgeConfig im) s
  let s := (List.range 96).foldl (legConfig im) s
  let s := (List.range 120).foldl (pathConfig im) (senseConfig im s)
  let s := (List.range 4).foldl (fun s m => s.put (R.SN_LOSTm_CH m) 0) s
  let s := (List.range 32).foldl (resConfig im) s
  let s := capActivation (healthActivate (safetyActivate s) was)
  let s := if s.get R.CAP_FRCFG_HOLD = 0 then frEmpty s else s
  { s with image := none, slots := { s.slots with loading := some im } }

/-- Step 5: the mark, then the counters, then the measurement registers. -/
def imageMark (s : State) (im : Image) : State :=
  let sf : List Nat := im.safety
  let s := nvWrite ((s.put R.SEC_IMG_STATUS_ACT_MARK 1).put R.SEC_IMG_STATUS_ACT_SLOT im.slot) 4 128
  let s := counterRaise s im.rollbackIdx im.version
  let s := counterRaise s (hb sf 4) (hb32 sf 0)
  mrExtend (mrExtend s 3 im.digest) 4 (sha512 (sf.map (BitVec.ofNat 8)))

/-- Steps 2 to 5 at the next frame start; without a previous image at the next tray tick. A mode other than STANDBY refuses the activation
with 0x61 and the previous image runs on. -/
def activationStop (s : State) : State :=
  match s.slots.activating with
  | some (n, 1) =>
    let refused (s : State) : State :=
      slotCode ({ s with slots := { s.slots with activating := none } }.put R.SEC_IMG_STATUS_BUSY 0) 0x61
    let load (s : State) (k : Nat) : State :=
      let im := slotImage s n
      let s := imageLoad (imageStop s k) im
      imageMark { s with slots := { s.slots with activating := some (n, 3) } } im
    (match s.image with
    | some im =>
      let k := nextFrame s im
      let s := s.runTo (frameStart im.frate k)
      if s.mode ≠ 1 ∨ inQuiet s then frameBegin (refused s) im k
      else
        let s := frameCatchUp s im
        load (completeFrame { s with fabric := { s.fabric with next := some k } } im) k
    | none =>
      let s := s.runTo (trayTickPm (nextTray s))
      if s.mode ≠ 1 ∨ inQuiet s then refused s else load s 0)
  | _ => s

/-- Step 6 at the next frame start of the new image: ACTIVE, and the base frame (R55, R201). -/
def activationStart (s : State) : State :=
  match s.slots.activating, s.slots.loading with
  | some (_, 3), some im =>
    let k := frameFrom im.frate (s.postmark + 1)
    let s := s.runTo (frameStart im.frate k)
    let s := { s with image := some im, slots := { s.slots with activating := none, loading := none } }
    let s := (s.put R.FAB_STATUS_ACTIVE 1).put R.SEC_IMG_STATUS_BUSY 0
    let s := officeConfig (fabricConfig im s) im.sorting
    let s := { s with fabric := { s.fabric with next := some k, reinit := true } }
    let s := if s.get R.CAP_FRCFG_HOLD = 0 then s.put R.CAP_FRSTAT_REC 1 else s
    frameBegin (slotCode s 0) im k
  | _, _ => s

/-- On entry to STANDBY from BOOT or, with no image active, from LOCKOUT, the marked slot is activated by steps 1, 4, 5 and 6 (R202, Table SI-20). -/
def activateMarked (s : State) : State :=
  let n := s.get R.SEC_IMG_STATUS_ACT_SLOT
  if s.get R.SEC_IMG_STATUS_ACT_MARK = 0 ∨ slotState s n ≠ 2 ∨ s.image.isSome then s
  else match recheck s n with
    | some f => slotRefuse s n f
    | none =>
      let im := slotImage s n
      let s := tigBreak ((counterRaise s im.rollbackIdx im.version).put R.POST_TIG_IMAGE 1)
      let s := imageLoad (s.put R.SEC_IMG_STATUS_BUSY 1) im
      imageMark { s with slots := { s.slots with activating := some (n, 3) } } im

/-! ### The commands -/

/-- IMG_OPEN (R200). -/
def execImgOpen (r : Requester) (slot : Fin 4) (s : State) : Host.Outcome State Fault Refusal := runsBy r s (imgOpen s r.num slot.val)
/-- IMG_DATA_WRITE (R200). -/
def execImgDataWrite (r : Requester) (v : Word) (s : State) : Host.Outcome State Fault Refusal := runsBy r s (imgData s r.num 0x500804 v.toNat)
/-- IMG_COMMIT (R200). -/
def execImgCommit (r : Requester) (slot : Fin 4) (s : State) : Host.Outcome State Fault Refusal := runsBy r s (imgCommit s r.num slot.val)
/-- IMG_ACTIVATE (R201). -/
def execImgActivate (r : Requester) (slot : Fin 4) (s : State) : Host.Outcome State Fault Refusal := runsBy r s (imgActivate s r.num slot.val)
/-- IMG_ERASE (R200). -/
def execImgErase (r : Requester) (slot : Fin 4) (s : State) : Host.Outcome State Fault Refusal := runsBy r s (imgErase s r.num slot.val)
/-- IMG_ABORT (R200). -/
def execImgAbort (r : Requester) (slot : Fin 4) (s : State) : Host.Outcome State Fault Refusal := runsBy r s (imgAbort s r.num slot.val)
/-- ACTIVATION_STOP (R201). -/
def execActivationStop (s : State) : Host.Outcome State Fault Refusal := runs s (activationStop s)
/-- ACTIVATION_START (R201). -/
def execActivationStart (s : State) : Host.Outcome State Fault Refusal := runs s (activationStart s)

/-- LRST_RELEASE (R73, R387): with no image active, the exit to STANDBY activates the marked slot. -/
def execLrstRelease (s : State) : Host.Outcome State Fault Refusal :=
  let x := lrstRelease s
  answers s (if s.powered then (if x.2 then activateMarked x.1 else x.1) else { s with safety := { s.safety with press := none } })

end Sys2Proof.Machine
end

