-- ==== Sys2Proof/Machine/Identity.lean ====
section
/-!
DEFINITION. Enrolment, the exchange key, firmware slots and the random generator (spec/15_security.md R402 to R413, R422).
-/
namespace Sys2Proof.Machine

/-! ### Bytes -/

/-- `n` bytes at an offset. -/
def sliceOf (b : Bytes) (o n : Nat) : Bytes := (b.drop o).take n
/-- A little-endian field at an offset. -/
def fieldOf (b : Bytes) (o n : Nat) : Nat := leNat (sliceOf b o n)
/-- `n` bytes at an offset are zero. -/
def zeroAt (b : Bytes) (o n : Nat) : Bool := (sliceOf b o n).all (· == 0)

/-! ### Signature blocks (R404, Table SI-11) -/

/-- The fields of a signature block before SIG name this KIND, AUTH and key. -/
def sigHead (b : Bytes) (kind auth n : Nat) : Bool :=
  b.length == 576 && fieldOf b 0 4 == 0x47495342 && fieldOf b 4 1 == kind && fieldOf b 5 1 == auth && zeroAt b 6 2
    && sliceOf b 8 32 == keyId n && zeroAt b 40 24

/-- A signature block of this KIND, AUTH and key over a message. -/
def sigOk (b : Bytes) (kind auth n : Nat) (msg : Bytes) : Bool := sigHead b kind auth n && pssVerify n msg (sliceOf b 64 512)

/-- A signature block of the node's device identity key over a message, with a fresh salt. -/
def dikSign (s : State) (msg : Bytes) : Bytes × State :=
  let (salt, s) := s.freshBytes 64
  (leBytes 4 0x47495342 ++ [4, 0, 0, 0] ++ keyId Config.dikModulus ++ List.replicate 24 0
    ++ pssSign Config.dikModulus Config.dikPrivate msg salt, s)

/-! ### The enrolment record (Table SE-2, R405 to R407) -/

/-- A record is installed. -/
def enrolled (s : State) : Bool := s.get R.SEC_STATUS_ENROLLED == 1
/-- SITE_ID of the enrolment, 0 without one. -/
def siteId (s : State) : Nat := fieldOf s.security.enr 8 4
/-- The site authority's modulus. -/
def siteKey (s : State) : Nat := enrModulus s 64
/-- FRANK_WIN in units of elapsed time. -/
def frankWin (s : State) : Nat := usec (1000 * fieldOf s.security.enr 24 2)

/-- A record keeps Table SE-2. -/
def recordOk (b : Bytes) : Bool :=
  let imask := fieldOf b 27 1
  let nfw := fieldOf b 26 1
  let win := fieldOf b 24 2
  b.length == 4224 && fieldOf b 0 4 == 0x524E4542 && fieldOf b 4 2 == 1 && decide (fieldOf b 6 2 < 2) && fieldOf b 8 4 != 0
    && decide (fieldOf b 16 8 < 2 ^ 48) && decide (10 ≤ win) && decide (win ≤ 10000) && decide (nfw ≤ 8) && decide (imask < 16)
    && decide (fieldOf b 28 1 ≤ 1) && zeroAt b 29 35 && decide (2 ^ 4095 ≤ beNat (sliceOf b 64 512))
    && (fieldOf b 28 1 == 1 || zeroAt b 576 512)
    && (List.range 4).all (fun a => imask.testBit a || zeroAt b (1088 + 512 * a) 512) && zeroAt b (3136 + 64 * nfw) (64 * (8 - nfw))

/-- The result of a SEC_CTRL operation; a refusal of Table SE-8 posts a SECURITY envelope (R423). -/
def secResult (s : State) (code : Nat) : State :=
  let s := s.put R.SEC_RESULT_CODE code
  if 0x80 ≤ code then securityEnvelope s 1 code 0xFFFF 0 0 else s

/-- Site sessions open. -/
def siteSessions (s : State) : List Session := s.security.sessions.filter fun x => !x.twin && x.oldUntil.isNone

/-- SEC_SESS shows the site sessions open. -/
def sessShow (s : State) : State := s.put R.SEC_SESS_OPEN (siteSessions s).length

/-- Sessions close, each with its SECURITY envelope (R419, R423). -/
def sessionsClose (s : State) (p : Session → Bool) : State :=
  let gone := s.security.sessions.filter p
  let s := { s with security := { s.security with sessions := s.security.sessions.filter fun x => !p x } }
  sessShow (gone.foldl (fun s x => securityEnvelope s 3 0 x.peer x.id 0) s)

/-- MR2 and MR5 as the end of BOOT and each INSTALL extend them (Table SE-4). -/
def measureEnrolment (s : State) : State :=
  let img := (List.range 4).filterMap (imageAuthority? s)
  let ids := (siteKey s :: img ++ (safetyAuthority? s).toList).flatMap keyId
  let s := mrExtend s 2 (sha512 ids)
  mrExtend s 5 (sha512 s.security.enr)

/-- The epoch takes a value that differs: FREE, STEPPED, waiting commands refused under R52, tray entries discarded under R307 (R406). -/
def epochSet (s : State) (valid sec : Nat) : State :=
  let same := s.get R.POST_EPOCH_HI_VALID = valid ∧ s.get R.POST_EPOCH_LO_SEC = sec % 2 ^ 32 ∧ s.get R.POST_EPOCH_HI_SEC = sec / 2 ^ 32
  if same then s
  else
    let s := ((s.put R.POST_EPOCH_LO_SEC (sec % 2 ^ 32)).put R.POST_EPOCH_HI_SEC (sec / 2 ^ 32)).put R.POST_EPOCH_HI_VALID valid
    let s := measureIdent s
    let s := (setTimebase s 0).mark R.POST_STATUS_STEPPED 1
    let waiting := s.acceptance
    let s := waiting.foldl (fun s c => deadLetter s 1 4 c.source c.target c.t 0 c.item) { s with acceptance := [] }
    trayDiscardStep (modePending s) s.postmark

/-- Generation of an exchange key starts where none exists and none runs (R403, R406). -/
def dxkStart (s : State) : State :=
  if s.security.dxk.isSome then s else { s with security := { s.security with dxkGen := true } }

/-- A record signed by the enrolled authority with RELEASE = 1 leaves the node unenrolled (R407). -/
def release (s : State) : State :=
  let s := (List.range 4).foldl (fun s n => setSlotState s n 0 0 0) s
  let s := { s with slots := { s.slots with words := [], opens := [], cur := none } }
  let s := (s.put R.SEC_IMG_STATUS_ACT_MARK 0).put R.SEC_IMG_STATUS_ACT_SLOT 0
  let s := (((s.put R.NODE_IDENT_PROV 0).put R.NODE_IDENT_TWIN 0).put R.NODE_IDENT_CLUSTER 0).put R.NODE_IDENT_NODE 0
  let s := (s.put R.SEC_STATUS_ENROLLED 0).put R.SEC_STATUS_DXK 0
  let s := { s with security := { s.security with enr := [], dxk := none, dxkGen := false, attempts := [] } }
  epochSet (sessionsClose s fun _ => true) 0 0

/-- The record that the enrolment buffer holds (R405). -/
def enrRecord (s : State) : Bytes := (List.range 1056).flatMap fun i => leBytes 4 (sget 0 s.security.enrBuf i)

/-- INSTALL (R405, R406). -/
def install (s : State) : State :=
  let b := enrRecord s
  let full := s.security.enrOpen && s.get R.SEC_ENR_PTR_OFS == 4224
  let signer := if enrolled s then siteKey s else beNat (sliceOf b 64 512)
  if s.get R.SEC_RESULT_BUSY = 1 then secResult s 0x60
  else if s.mode ≠ 1 then secResult s 0x87
  else if full = false ∨ recordOk b = false then secResult s 0x84
  else if sigOk (sliceOf b 3648 576) 3 0 signer (b.take 3648) = false ∨ (enrolled s = false ∧ fieldOf b 6 2 = 1) then secResult s 0x85
  else if fieldOf b 12 4 < s.get (R.SEC_RBi_COUNT 1) then secResult s 0x86
  else
    let s := { s with security := { s.security with enrOpen := false } }
    if fieldOf b 6 2 = 1 then secResult (release s) 0
    else
      let s := nvWrite { s with security := { s.security with enr := b } } 4 129
      let s := counterRaise (s.put R.SEC_STATUS_ENROLLED 1) 1 (fieldOf b 12 4)
      let s := sessionsClose (measureEnrolment s) fun x => !x.twin
      let s := epochSet (dxkStart s) 1 (fieldOf b 16 6)
      secResult (securityEnvelope s 4 0 0xFFFF 0 (fieldOf b 12 4)) 0

/-- ENR_OPEN (R405). -/
def enrOpen (s : State) : State :=
  if s.get R.SEC_RESULT_BUSY = 1 then secResult s 0x60
  else if s.mode ≠ 1 then secResult s 0x87
  else secResult ({ s with security := { s.security with enrBuf := [], enrOpen := true } }.put R.SEC_ENR_PTR_OFS 0) 0

/-- A word of the record (R405). -/
def enrData (s : State) (v : Nat) : State :=
  let p := s.get R.SEC_ENR_PTR_OFS
  if s.security.enrOpen ∧ p < 4224 then
    { s.put R.SEC_ENR_PTR_OFS (p + 4) with security := { s.security with enrBuf := sset 0 s.security.enrBuf (p / 4) v } }
  else s

/-- REKEYX (R403): BUSY until the key is generated. -/
def rekeyx (s : State) : State :=
  if s.get R.SEC_RESULT_BUSY = 1 ∨ s.security.dxkGen then secResult s 0x60
  else if s.mode ≠ 1 then secResult s 0x87
  else if s.get R.SEC_STATUS_RNGFAIL = 1 then secResult s 0x92
  else { s.put R.SEC_RESULT_BUSY 1 with security := { s.security with dxkGen := true } }

/-- Generation ends: the key is a free value (R403, R406). -/
def dxkGenerated (s : State) : State :=
  if s.security.dxkGen = false then s
  else
    let (n, s) := s.freshNat
    let (d, s) := s.freshNat
    let s := { s with security := { s.security with dxk := some (n % 2 ^ 4096, d % 2 ^ 4096), dxkGen := false } }
    let s := if s.get R.SEC_RESULT_BUSY = 1 then secResult (s.put R.SEC_RESULT_BUSY 0) 0 else s
    securityEnvelope (s.put R.SEC_STATUS_DXK 1) 7 0 0xFFFF 0 0

/-- EXTEND: MR7 takes the digest in SEC_EXT_D (R409). -/
def extend (s : State) : State :=
  if s.get R.SEC_RESULT_BUSY = 1 then secResult s 0x60
  else secResult (mrExtend s 7 ((List.range 16).flatMap fun n => leBytes 4 (s.get (R.SEC_EXT_Dn_D n)))) 0

/-- CLOSE of a site session by its index (R419). -/
def sessionClose (s : State) (index : Nat) : State :=
  if s.get R.SEC_RESULT_BUSY = 1 then secResult s 0x60
  else secResult (sessionsClose s fun x => !x.twin && x.index == index) 0

/-! ### Firmware slots (R408, R413, Table SE-3) -/

/-- The state of a firmware slot. -/
def fwState (s : State) (n : Nat) : Nat := s.get R.SEC_FW_STATUS_STATE / 4 ^ n % 4
/-- Set the state and VERSION of a firmware slot. -/
def setFwState (s : State) (n v ver : Nat) : State :=
  let st := s.get R.SEC_FW_STATUS_STATE
  (s.put R.SEC_FW_STATUS_STATE (st - fwState s n * 4 ^ n + v * 4 ^ n)).put (R.SEC_FW_VERs_VER n) ver
/-- The words of a firmware slot. -/
def fwWords (s : State) (n : Nat) : Sparse Nat := sget [] s.security.fw n

/-- The result of a firmware slot operation (R413, R423). -/
def fwCode (s : State) (c : Nat) : State :=
  let s := (s.put R.SEC_FW_STATUS_CODE c).irq 8
  if 0x80 ≤ c then securityEnvelope s 1 c 0xFFFF 0 0 else s

/-- Another requester's slot. -/
def fwBusy (s : State) (r n : Nat) : Bool :=
  s.get R.SEC_FW_STATUS_BUSY == 1 || (match sget none s.security.fwOpens n with
    | some (o, _, _) => o != r
    | none => false)

/-- The slot whose firmware runs. -/
def fwRunning (s : State) (n : Nat) : Bool := s.security.fwRuns && s.get R.SEC_FW_STATUS_RUN == n

/-- A firmware slot is open no longer. -/
def fwClose (s : State) (n : Nat) : State :=
  { s with security := { s.security with
      fwOpens := sset none s.security.fwOpens n none
      fwCur := if s.security.fwCur = some n then none else s.security.fwCur } }

/-- OPEN. -/
def fwOpen (s : State) (r n : Nat) : State :=
  if fwBusy s r n then fwCode s 0x60
  else if fwRunning s n then fwCode s 0x62
  else
    let s := setFwState s n 1 0
    let s := { s with security := { s.security with
      fw := sset [] s.security.fw n [], fwOpens := sset none s.security.fwOpens n (some (r, 0, false)), fwCur := some n } }
    fwCode (s.put R.SEC_FW_PTR_OFS 0) 0

/-- A word for the open slot. -/
def fwData (s : State) (r addr v : Nat) : State :=
  match s.security.fwCur with
  | none => addrError s r 5 addr
  | some n => match sget none s.security.fwOpens n with
    | none => addrError s r 5 addr
    | some (o, w, _) =>
      if o ≠ r then addrError s r 5 addr
      else if 2097152 ≤ w then { s with security := { s.security with fwOpens := sset none s.security.fwOpens n (some (o, w, true)) } }
      else
        let s := { s with security := { s.security with
          fw := sset [] s.security.fw n (sset 0 (fwWords s n) (w / 4) v), fwOpens := sset none s.security.fwOpens n (some (o, w + 4, false)) } }
        let s := s.put R.SEC_FW_PTR_OFS (w + 4)
        if w % 256 = 0 then nvWrite s 0 (n * 8192 + w / 256) else s

/-- The header of Table SE-3 is broken. -/
def fwHeaderBad (m : Sparse Nat) : Bool :=
  let signed := rd32 m 16
  rd32 m 0 != 0x4D574642 || rd16 m 4 != 1 || rd16 m 6 != 64 || rd16 m 8 != 0x960 || decide (0x0A1 < rd16 m 10)
    || rd32 m 12 != signed + 576 || decide (2097152 < rd32 m 12) || signed % 16 != 0 || decide (signed ≤ rd32 m 24) || !rdZero m 28 36

/-- The checks of R411 on a firmware slot: the refusal code, if one fails. -/
def fwCheck (s : State) (m : Sparse Nat) : Option Nat :=
  let signed := rd32 m 16
  let blk := slotBytes m signed 576
  let auth := fieldOf blk 5 1
  let n := Config.vendorKey (1 + auth)
  if fwHeaderBad m then some 0x80
  else if 1 < auth ∨ (auth = 0 ∧ s.get R.SEC_STATUS_REVOKED0 = 1) ∨ sigHead blk 2 auth n = false then some 0x81
  else if pssVerify n (slotBytes m 0 signed) (sliceOf blk 64 512) = false then some 0x82
  else if rd32 m 20 < s.get (R.SEC_RBi_COUNT 0) then some 0x83
  else none

/-- COMMIT. -/
def fwCommit (s : State) (r n : Nat) : State :=
  if fwBusy s r n then fwCode s 0x60
  else match sget none s.security.fwOpens n with
    | none => fwCode s 0x65
    | some (_, w, isOver) =>
      let s := fwClose s n
      let m := fwWords s n
      if isOver then fwCode (setFwState s n 3 0) 0x63
      else if w < rd32 m 12 then fwCode (setFwState s n 3 0) 0x80
      else match fwCheck s m with
        | some c => fwCode (setFwState s n 3 0) c
        | none => fwCode (setFwState s n 2 (rd32 m 20)) 0

/-- MARK: the slot is tried first at the next boot. -/
def fwMark (s : State) (r n : Nat) : State :=
  if fwBusy s r n then fwCode s 0x60
  else if fwState s n ≠ 2 then fwCode s 0x65
  else fwCode (nvWrite (s.put R.SEC_FW_STATUS_MARK n) 4 130) 0

/-- ERASE. -/
def fwErase (s : State) (r n : Nat) : State :=
  if fwBusy s r n then fwCode s 0x60
  else if fwRunning s n then fwCode s 0x62
  else
    let s := fwClose (setFwState s n 0 0) n
    fwCode { s with security := { s.security with fw := sset [] s.security.fw n [] } } 0

/-- ABORT. -/
def fwAbort (s : State) (r n : Nat) : State :=
  if fwBusy s r n then fwCode s 0x60
  else if (sget none s.security.fwOpens n).isNone then fwCode s 0x65
  else
    let s := fwClose (setFwState s n 0 0) n
    fwCode { s with security := { s.security with fw := sset [] s.security.fw n [] } } 0

/-- CONFIRM raises counter 0 to the running VERSION (R413). -/
def fwConfirm (s : State) : State :=
  if s.security.fwRuns = false then s
  else
    let s := counterRaise s 0 s.security.runVer
    fwCode (securityEnvelope s 5 0 0xFFFF 0 s.security.runVer) 0

/-- REVOKE0, taken only from firmware signed with key 1 (R413). -/
def revoke0 (s : State) (r : Nat) : State :=
  if 2 ≤ r ∧ s.security.fwRuns ∧ s.security.runAuth = 1 then fwCode (s.put R.SEC_STATUS_REVOKED0 1) 0 else s

/-- A firmware slot in WRITING at any reset becomes REFUSED with code 0x64 (R198 as R413 takes it over). -/
def fwAtReset (s : State) : State :=
  let s := (List.range 2).foldl (fun s n => if fwState s n = 1 then (setFwState s n 3 0).put R.SEC_FW_STATUS_CODE 0x64 else s) s
  { s with security := { s.security with fwOpens := [], fwCur := none, fwRuns := false } }

/-! ### The random generator (R422) -/

/-- A failed health test. -/
def rngFail (s : State) : State :=
  if s.get R.SEC_STATUS_RNGFAIL = 1 then s else securityEnvelope (s.put R.SEC_STATUS_RNGFAIL 1) 6 0 0xFFFF 0 0

/-- A read of SEC_RNG: 32 fresh bits, 0 after a failure. -/
def rngRead (s : State) : Nat × State :=
  if s.get R.SEC_STATUS_RNGFAIL = 1 then (0, s) else (s.freshNat.1 % 2 ^ 32, s.freshNat.2)

/-- What a requester's read returned. -/
def State.readBack (s : State) (r : Nat) (l : List Nat) : State :=
  { s with links := { s.links with readData := sset [] s.links.readData r l } }

/-! ### The commands -/

/-- ENR_OPEN (R405). -/
def execEnrOpen (r : Requester) (s : State) : Host.Outcome State Fault Refusal := runsBy r s (enrOpen s)
/-- ENR_DATA_WRITE (R405). -/
def execEnrDataWrite (r : Requester) (v : Word) (s : State) : Host.Outcome State Fault Refusal := runsBy r s (enrData s v.toNat)
/-- INSTALL (R405). -/
def execInstall (r : Requester) (s : State) : Host.Outcome State Fault Refusal := runsBy r s (install s)
/-- REKEYX (R403). -/
def execRekeyx (r : Requester) (s : State) : Host.Outcome State Fault Refusal := runsBy r s (rekeyx s)
/-- DXK_GENERATED (R406). -/
def execDxkGenerated (s : State) : Host.Outcome State Fault Refusal := runs s (dxkGenerated s)
/-- EXTEND (R409). -/
def execExtend (r : Requester) (s : State) : Host.Outcome State Fault Refusal := runsBy r s (extend s)
/-- CLOSE (R419). -/
def execClose (r : Requester) (index : BitVec 9) (s : State) : Host.Outcome State Fault Refusal := runsBy r s (sessionClose s index.toNat)
/-- FW_OPEN (R413). -/
def execFwOpen (r : Requester) (slot : Fin 2) (s : State) : Host.Outcome State Fault Refusal := runsBy r s (fwOpen s r.num slot.val)
/-- FW_DATA_WRITE (R413). -/
def execFwDataWrite (r : Requester) (v : Word) (s : State) : Host.Outcome State Fault Refusal := runsBy r s (fwData s r.num 0x500044 v.toNat)
/-- FW_COMMIT (R413). -/
def execFwCommit (r : Requester) (slot : Fin 2) (s : State) : Host.Outcome State Fault Refusal := runsBy r s (fwCommit s r.num slot.val)
/-- FW_MARK (R413). -/
def execFwMark (r : Requester) (slot : Fin 2) (s : State) : Host.Outcome State Fault Refusal := runsBy r s (fwMark s r.num slot.val)
/-- CONFIRM (R413). -/
def execConfirm (r : Requester) (s : State) : Host.Outcome State Fault Refusal := runsBy r s (fwConfirm s)
/-- FW_ERASE (R413). -/
def execFwErase (r : Requester) (slot : Fin 2) (s : State) : Host.Outcome State Fault Refusal := runsBy r s (fwErase s r.num slot.val)
/-- FW_ABORT (R413). -/
def execFwAbort (r : Requester) (slot : Fin 2) (s : State) : Host.Outcome State Fault Refusal := runsBy r s (fwAbort s r.num slot.val)
/-- REVOKE0 (R413). -/
def execRevoke0 (r : Requester) (s : State) : Host.Outcome State Fault Refusal := runsBy r s (revoke0 s r.num)
/-- RNG_HEALTH_FAIL (R422). -/
def execRngHealthFail (s : State) : Host.Outcome State Fault Refusal := runs s (rngFail s)
/-- RNG_READ (R422). -/
def execRngRead (r : Requester) (s : State) : Host.Outcome State Fault Refusal :=
  runsBy r s ((rngRead s).2.readBack r.num [(rngRead s).1])

end Sys2Proof.Machine
end

