-- ==== Sys2Proof/Machine/SelfTest.lean ====
section
/-!
DEFINITION. Self-test and foreground calibration (spec/03_modes.md R76 to R79).
-/
namespace Sys2Proof.Machine

/-- The kinds of a test: LIGHT, FULL, CAL, and the non-intrusive part that a FULL request runs in SERVICE (Table MD-9). -/
def testLightKind : Nat := 0
/-- FULL. -/
def testFullKind : Nat := 1
/-- CAL. -/
def testCalKind : Nat := 2
/-- FULL in SERVICE: the non-intrusive part, with RESULT = BUSY_IN_SERVICE. -/
def testPartKind : Nat := 3

/-- Duration of a test in microseconds (Table MD-9). -/
def testTime (kind : Nat) : Nat := if kind = 1 then 180000 else if kind = 2 then 40000 else 12000

/-- A test begins: RUNNING. FULL and CAL hold the legs and stop the calibration rotation (R79, R278); FULL destroys the fabric state and the sorting
office's memory. -/
def testBegin (s : State) (kind : Nat) : State :=
  let holds := kind = 1 ∨ kind = 2
  let s := s.put R.NODE_TEST_RUNNING 1
  let s := { s with hidden := { s.hidden with test := some (kind, s.time.elapsed), testHolds := decide holds } }
  let s := if holds then calSuspend (holdAll s) else s
  if kind = 1 then
    let s := { fabricHalt s with office := Office.reset }
    { s with fabric := { s.fabric with wires := [], blocks := [] } }
  else s

/-- Refuse a test request. -/
def testBusy (s : State) (code : Nat) : State := s.put R.NODE_TEST_RESULT code

/-- A request for a test is taken or refused by mode (Table MD-9), by QUIET, which also judges the D3 cycle in which it is left (R78), and ignored while one runs (R77). -/
def testRequest (s : State) (kind : Nat) : State :=
  let m := s.mode
  if s.get R.NODE_TEST_RUNNING = 1 then s
  else if inQuiet s ∨ s.hidden.quietEnd = some s.cycleNo then testBusy s 0x12
  else if kind = 0 then (if m = 1 ∨ m = 2 ∨ m = 4 ∨ m = 7 then testBegin s 0 else testBusy s 0x11)
  else if m = 1 ∨ m = 2 then testBegin s kind
  else if m = 4 then (if kind = 1 then testBegin (testBusy s 0x10) 3 else testBusy s 0x10)
  else testBusy s 0x11

/-- A write of NODE_TEST: the highest request bit set alone (R76). -/
def testWrite (s : State) (v : Nat) : State :=
  if v.testBit 2 then testRequest s 2 else if v.testBit 1 then testRequest s 1 else if v.testBit 0 then testRequest s 0 else s

/-- A test ends at its duration: RESULT and FAILUNIT; held mode requests are judged at the next frame start. After FULL the fabric starts from the
image again; the sense paths restart (R79, R269). A STANDBY twin member whose LIGHT fails becomes SUSPECT (R365). -/
def testDone (s : State) (pass : Bool) (unit : Nat) : State :=
  match s.hidden.test with
  | none => s
  | some (kind, at_) =>
    let s := s.runElapsed (at_ + usec (testTime kind))
    let s := { s with hidden := { s.hidden with test := none, testHolds := false } }
    let s := s.put R.NODE_TEST_RUNNING 0
    let s := if kind = 3 then s else s.put R.NODE_TEST_RESULT (if pass then 1 else 2)
    let s := s.put R.NODE_TEST_FAILUNIT (if pass then 0 else unit)
    let s := if kind = 1 then { s with fabric := { s.fabric with reinit := s.image.isSome, lapse := false } } else s
    let s := if kind = 1 ∨ kind = 2 then senseResume s else s
    if pass = false ∧ kind = 0 ∧ s.role = 3 then
      let k := s.getPair R.FAB_FRAME_LO_K R.FAB_FRAME_HI_K
      setRole (twinEnvelope (s.mark R.NODE_TWIN_STAT_TEST_FAIL 1) 6 3 5 0 k) 5
    else s

/-- TEST_LIGHT (R77). -/
def execTestLight (r : Requester) (s : State) : Host.Outcome State Fault Refusal := runsBy r s (testRequest s testLightKind)
/-- TEST_FULL (R77). -/
def execTestFull (r : Requester) (s : State) : Host.Outcome State Fault Refusal := runsBy r s (testRequest s testFullKind)
/-- TEST_CAL (R77). -/
def execTestCal (r : Requester) (s : State) : Host.Outcome State Fault Refusal := runsBy r s (testRequest s testCalKind)
/-- TEST_DONE (R79). -/
def execTestDone (pass : Bool) (unit : BitVec 8) (s : State) : Host.Outcome State Fault Refusal :=
  runs s (testDone s pass unit.toNat)

end Sys2Proof.Machine
end

