-- ==== Sys2Proof/Machine/Twin.lean ====
section
/-!
DEFINITION. Twin pairs: pair formation, bundles and hashes, arbitration, handover, link loss, takeover, mirrors, resynchronisation
(spec/13_twin.md R344 to R367; spec/16_links.md R439, R440).
-/
namespace Sys2Proof.Machine

/-- The frame concerned in a TWIN envelope: the last completed one. -/
def lastFrame (s : State) : Nat := s.getPair R.FAB_FRAME_LO_K R.FAB_FRAME_HI_K

/-- What this member knows of its partner's role. -/
def partnerRole (s : State) : Nat := (s.twin.partner.map (·.role)).getD 0

/-- Note a role of the partner. -/
def setPartnerRole (s : State) (role : Nat) : State :=
  { s with twin := { s.twin with partner := s.twin.partner.map fun p => { p with role := role } } }

/-! ### The pair (R25, R344, R347, R349, R439) -/

/-- NODE, CLUSTER and TWIN of an identity word (Table ND-4). -/
def identNode (w : Nat) : Nat := w % 4096

/-- The bundle budget of the active image: W of R439 in bytes. The largest number of outputs of a resampler in a frame is taken at its nominal
rate (DEDUCED, log entry 91). -/
def bundleBytes (im : Image) : Nat :=
  let nsamp := (im.blocks.filter fun b => b.kind == 0x1E && groupDiv im b.group != 0).foldl (fun n b => n + b.params.length) 0
  let nrs := im.resamplers.foldl (fun n r =>
    let out := if r.lock = 0 then (2 ^ r.logn + r.cyc - 1) / max 1 r.cyc
      else (2 ^ r.logn * ((im.bridgeRec? r.bridge).map (·.f0)).getD 0 + im.frate * 2 ^ 23 - 1) / max 1 (im.frate * 2 ^ 23)
    n + out) 0
  24 + 4 * nsamp + 8 * nrs

/-- The member meets the budget of R349 and R439. -/
def twinBudget (s : State) : Bool := match s.image with
  | none => false
  | some im =>
    let b := 600000000 / max 1 im.frate
    ((List.range 16).all fun t => decide (s.get (R.FAB_TILEt_STATIC_CYC t) + 1200 ≤ 9 * b / 10)) && decide (bundleBytes im ≤ 864)

/-- The identities agree (R25). -/
def identAgrees (s : State) (p : Partner) : Bool :=
  let w := p.ident.toNat
  w.testBit 20 && w / 4096 % 256 == s.get R.NODE_IDENT_CLUSTER && identNode w != s.get R.NODE_IDENT_NODE

/-- The active images agree (R344). -/
def imagesAgree (s : State) (p : Partner) : Bool := match s.image with
  | none => false
  | some im => im.imageId == p.imageId && im.version == p.version && im.digest == p.digest

/-- NODE_PAIR as the identities give it; TWIN_IDENT_MISMATCH where they disagree (R25). -/
def pairIdentity (s : State) (p : Partner) : State :=
  let w := p.ident.toNat
  let ok := identAgrees s p
  let own := s.get R.NODE_IDENT_NODE
  let s := (s.put R.NODE_PAIR_PAIR_VALID (if ok then 1 else 0)).put R.NODE_PAIR_PARTNER (if ok then identNode w else 0)
  let s := s.put R.NODE_PAIR_PAIR_ID (if ok then min own (identNode w) else 0)
  { s with health := { s.health with flags := setBit s.health.flags 1 (!ok) } }

/-- A SYNCING member asks for its partner's state (Table TW-5, step 1). -/
def syncRequest (s : State) : State :=
  let s := { s with twin := { s.twin with loaded := false, buffered := [], matches_ := 0 } }
  let s := { s with fabric := { s.fabric with await := false, frame := if s.fabric.await then none else s.fabric.frame } }
  s.send (.twin 8 0 [])

/-- Enter SYNCING and ask for state. -/
def enterSyncing (s : State) : State :=
  let s := setRole s 2
  syncRequest { s.put R.NODE_TWIN_STAT_DIVERGED 0 with twin := { s.twin with attempts := 0 } }

/-- A failed attempt: step 1 again once, then SUSPECT (Table TW-5, step 5). -/
def syncFail (s : State) : State :=
  if s.twin.attempts = 0 then syncRequest { s with twin := { s.twin with attempts := 1 } } else setRole s 5

/-- The pair forms if identity, images and budget agree, and roles are assigned (R344, Table TW-3). -/
def pairForm (s : State) (p : Partner) : State :=
  let s := pairIdentity s p
  let refuse (s : State) (c : Nat) : State := s.put R.NODE_TWIN_STAT_REFUSE c
  if s.get R.NODE_IDENT_TWIN = 0 ∨ identAgrees s p = false then refuse s 3
  else if imagesAgree s p = false then refuse s 1
  else if twinBudget s = false ∨ p.budget = false then refuse s 2
  else
    let own := s.get R.NODE_IDENT_NODE
    let other := identNode p.ident.toNat
    if s.role = 1 ∧ p.role = 1 then (if own < other then setRole s 4 else enterSyncing s)
    else if s.role = 1 ∧ p.role = 4 then enterSyncing s
    else if s.role = 4 ∧ p.role = 4 ∧ other < own then enterSyncing s
    else s

/-- The session of the twin link opens by a run of Table SE-6 on that link (R421): identifier, keys and salts are free values. -/
def twinSession (s : State) (p : Partner) : State :=
  let (k, s) := s.freshBytes 72
  let (i, s) := s.freshNat
  let (d, s) := s.freshNat
  let cut (o n : Nat) : Bytes := (k.drop o).take n
  let low := decide (s.get R.NODE_IDENT_NODE < p.ident.toNat % 4096)
  let x : Session := { index := 256, id := i % (2 ^ 32 - 1) + 1, peer := p.ident.toNat % 4096, dik := d % 2 ^ 4096, twin := true
                       txKey := if low then cut 0 32 else cut 32 32, txSalt := if low then cut 64 4 else cut 68 4
                       rxKey := if low then cut 32 32 else cut 0 32, rxSalt := if low then cut 68 4 else cut 64 4
                       txSeq := 2, rxHigh := 0, rxMap := 0, opened := s.time.elapsed, oldUntil := none }
  { s with security := { s.security with sessions := s.security.sessions.filter (fun y => !y.twin) ++ [x] } }

/-- Block lock of the twin link. -/
def twinBlock (s : State) (v : Nat) : State := (s.put R.LK_TWIN_STAT_BLOCK v).put R.LK_STATUS_TWIN_UP v

/-- HELLO: the session of the twin link is open, LINK reads 1, and the partner is known (R421). A session needs PROV, an exchange key and the
random generator. -/
def hello (s : State) (p : Partner) : State :=
  if s.get R.NODE_IDENT_TWIN = 0 ∨ s.get R.NODE_IDENT_PROV = 0 ∨ s.get R.SEC_STATUS_DXK = 0 ∨ s.get R.SEC_STATUS_RNGFAIL = 1 then s
  else
    let s := (twinBlock (twinSession s p) 1).put R.LK_TWIN_STAT_SESSION 1
    let s := { s.put R.NODE_TWIN_STAT_LINK 1 with twin := { s.twin with partner := some p, quiet := 0 } }
    let s := s.put R.NODE_TWIN_STAT_SILENT 0
    pairForm s p

/-! ### Hash comparison (R352, R353, R366) -/

/-- A mismatch of frame j at a member outside resynchronisation: recorded and counted; an arbitration opens unless one is open (R353). -/
def hashMismatch (s : State) (j : Nat) : State :=
  let s := s.putPair R.NODE_TWIN_MISK_LO_K R.NODE_TWIN_MISK_HI_K j
  let s := (s.mark R.NODE_TWIN_STAT_HASH_MISMATCH 1).bump R.NODE_TWIN_CNT_MISM 1
  if s.role = 2 then syncFail s
  else if s.twin.arb.isSome then s
  else { s with twin := { s.twin with arb := some j } }

/-- Compare a hash of frame k with the own one, where the frame is compared (R352). The ACTIVE member takes a SYNCING partner for STANDBY after the
64 matching hashes that make it so (Table TW-5; DEDUCED, log entry 173). -/
def hashCompare (s : State) (k h : Nat) : State :=
  match s.twin.ownHash with
  | none => s
  | some (j, own) =>
    if j ≠ k ∨ s.twin.comparable = false ∨ h = 0 ∨ s.role = 5 ∨ s.role = 1 ∨ s.role = 0 ∨ (s.role = 4 ∧ partnerRole s = 5)
        ∨ s.get R.NODE_TWIN_STAT_DIVERGED = 1 then s
    else if h = own then
      let n := s.twin.matches_ + 1
      let s := { s with twin := { s.twin with matches_ := n } }
      if s.role = 4 ∧ partnerRole s = 2 ∧ 64 ≤ n then setPartnerRole s 3 else s
    else if s.role = 4 ∧ partnerRole s = 2 then
      let s := s.putPair R.NODE_TWIN_MISK_LO_K R.NODE_TWIN_MISK_HI_K j
      let s := { s with twin := { s.twin with matches_ := 0 } }
      (s.mark R.NODE_TWIN_STAT_HASH_MISMATCH 1).bump R.NODE_TWIN_CNT_MISM 1
    else hashMismatch s k

/-- The hash that the partner returns reaches the ACTIVE member (R352). -/
def hashReceived (s : State) (k h : Nat) : State :=
  if s.role = 4 ∧ s.linkUp then hashCompare { s with twin := { s.twin with quiet := 0 } } k h else s

/-- A fault that the scrub found: which of codes 0x2 and 0x4, and the tile, are free values (R353). -/
def scrubFault (s : State) : State :=
  let (n, s) := s.freshNat
  let (t, s) := s.freshNat
  fabricFault s (if n % 2 = 0 then 2 else 4) (t % 16)

/-- Neither member finds a fault and CFG.MISMATCH = 0: UNEXPLAINED; a second within 60 s makes the partner SUSPECT (Table TW-4, row 4).
Answers whether it is such a second one. -/
def unexplained (s : State) : State × Bool :=
  let again := match s.twin.unexplainedAt with
    | some e => decide (s.since e ≤ usec 60000000)
    | none => false
  ({ s.mark R.NODE_TWIN_STAT_UNEXPLAINED 1 with twin := { s.twin with unexplainedAt := some s.time.elapsed } }, again)

/-- The row of Table TW-4. -/
def arbRow (s : State) (active partner : Bool) : Nat :=
  if active && !partner then 1 else if !active && partner then 2 else if active && partner then 3
  else if s.get R.NODE_TWIN_CFG_MISMATCH = 1 then 5 else 4

/-- The outcome at the ACTIVE member. -/
def arbActive (s : State) (row : Nat) : State :=
  if row = 1 then scrubFault s
  else if row = 2 then setPartnerRole s 5
  else if row = 3 then
    let s := scrubFault { s with twin := { s.twin with keep := true } }
    setPartnerRole { s with twin := { s.twin with keep := false } } 5
  else if row = 4 then
    let (s, again) := unexplained s
    setPartnerRole s (if again then 5 else 2)
  else setPartnerRole (enterRecovery s 4) 2

/-- The outcome at the partner. -/
def arbPartner (s : State) (row : Nat) : State :=
  if row = 1 then s
  else if row = 2 ∨ row = 3 then setRole (scrubFault s) 5
  else if row = 4 then
    let (s, again) := unexplained s
    if again then setRole s 5 else enterSyncing s
  else enterSyncing s

/-- ARBITRATION_OUTCOME: the scrub results are exchanged (R353, Table TW-4). -/
def arbitrationOutcome (s : State) (own partner : Bool) : State :=
  match s.twin.arb with
  | none => s
  | some j =>
    let s := { s with twin := { s.twin with arb := none } }
    let old := s.role
    let row := if old = 4 then arbRow s own partner else arbRow s partner own
    let s := if old = 4 then arbActive s row else arbPartner s row
    twinEnvelope s 2 old s.role row j

/-! ### Bundles (R349, R350, R365, R366, R439) -/

/-- A CMD frame's command as an acceptance set holds it. -/
def cmdAccepted (k : Nat) (c : Command) : Accepted :=
  { cls := c.source.toNat / 4096, source := c.source.toNat, seq := c.seq, target := c.target.toNat, value := c.value.toNat,
    t := c.t.toNat, k := k, item := c.item }

/-- CMD frames received with K = k. -/
def cmdsOf (s : State) (k : Nat) : List Command := (s.twin.cmds.filter (·.1 == k)).map (·.2)

/-- What a bundle feeds to its frame. -/
def bundleFeed (b : Bundle) (cmds : List Accepted) : FrameFeed :=
  { sys := b.sys.toNat, view := b.disc % 65536, samples := b.samples.map (·.2), cmds := cmds }

/-- Evaluate the frame of a bundle: its commands are resolved, the node's own targets among them act, the resampler entries go to the cycle
buffers, and the blocks read the bundle (R349). -/
def bundleFrame (s : State) (im : Image) (b : Bundle) : State :=
  let (s, won) := closeSet s b.k ((cmdsOf s b.k).map (cmdAccepted b.k))
  let s := { s with twin := { s.twin with cmds := s.twin.cmds.filter fun e => decide (b.k < e.1) } }
  let s := ownTargets s b.k (won.filter fun c => decide (0x10000 ≤ targetKey s c.target))
  let s := resampledIn s (b.resampled.map fun e => (e.1, e.2.1, (e.2.2.1, e.2.2.2)))
  evaluateFrame { s with fabric := { s.fabric with written := [] } } im b.k (some (bundleFeed b won)) []

/-- The member's own output of a channel from the triggers of frame k: the newest one after F_(k − 1) and not after F_k, if there is one. -/
def ownOutput (s : State) (im : Image) (k c : Nat) : Option SenseOut :=
  let outs := if c < 128 then (s.path c).recent else (s.resampler (c - 128)).outs
  (outs.find? fun o => decide (o.trig ≤ frameStart im.frate k)).filter fun o => decide (frameStart im.frate (k - 1) < o.trig)

/-- A STANDBY member compares its own codes from the same trigger with the bundle's: 16 outputs in a row beyond STOL set SENSE_DISAGREE (R365). -/
def senseCompare (s : State) (im : Image) (b : Bundle) : State :=
  if s.role ≠ 3 then s
  else b.samples.foldl (fun s e => match ownOutput s im b.k e.1 with
    | none => s
    | some o =>
      let far := decide (s.get R.NODE_TWIN_CHK_STOL < (signed 24 (o.code % 2 ^ 24) - signed 24 (e.2.1 % 2 ^ 24)).natAbs)
      let n := if far then sget 0 s.twin.sense e.1 + 1 else 0
      let s := { s with twin := { s.twin with sense := sset 0 s.twin.sense e.1 n } }
      if n = 16 then
        let s := (s.mark R.NODE_TWIN_STAT_SENSE_DISAGREE 1).put R.NODE_TWIN_CNT_SDCH e.1
        twinEnvelope s 7 s.role s.role e.1 b.k
      else s) s

/-- A complete bundle reaches a member that follows; one that comes too late is discarded and counted (R349, R350, R352, Table LK-9). -/
def bundleTake (s : State) (im : Image) (b : Bundle) : State :=
  let s := { s with twin := { s.twin with quiet := 0 } }
  if s.role = 3 ∧ s.get R.NODE_TWIN_STAT_DIVERGED = 1 then enterSyncing s
  else if s.role = 2 ∧ s.twin.loaded = false then
    if 4096 ≤ s.twin.buffered.length then syncFail s
    else { s with twin := { s.twin with buffered := s.twin.buffered ++ [b] } }
  else if s.fabric.await = false ∨ s.fabric.frame ≠ some b.k ∨ frameStart im.frate b.k + 8590 < s.postmark then
    (if frameStart im.frate b.k + 8590 < s.postmark then s.bump R.LK_TWIN_CNT_LATE 1 else s)
  else
    let s := match s.twin.ownHash with
      | some (j, h) => s.send (.twin 3 j (leBytes 8 h))
      | none => s
    let s := senseCompare (hashCompare s (b.k - 1) b.hash.toNat) im b
    if s.fabric.await then bundleFrame s im b else s

/-- The member listens to bundles; one that has taken the drive since its frame began still evaluates that frame on its bundle (R354). -/
def listens (s : State) : Bool := s.linkUp && (s.role == 2 || s.role == 3 || s.role == 5 || (s.role == 4 && s.fabric.await))

/-- BUNDLE_RECEIVED: complete once its NCMD CMD frames are there (R439). -/
def bundleReceived (s : State) (b : Bundle) : State :=
  match s.image with
  | none => s
  | some im =>
    if listens s = false then s
    else if (cmdsOf s b.k).length < b.ncmd then { s with twin := { s.twin with bundle := some b } }
    else bundleTake s im b

/-- TWIN_CMD_RECEIVED: a CMD frame; it may complete a bundle that waits (R439). -/
def cmdReceived (s : State) (k : Nat) (c : Command) : State :=
  match s.image with
  | none => s
  | some im =>
    if listens s = false then s
    else
      let s := { s with twin := { s.twin with cmds := s.twin.cmds ++ [(k, c)] } }
      match s.twin.bundle with
      | some b =>
        if (cmdsOf s b.k).length < b.ncmd then s
        else bundleTake { s with twin := { s.twin with bundle := none } } im b
      | none => s

/-- BUNDLE_MISSED: no complete bundle by F_k + 2 µs (R350). -/
def bundleMissed (s : State) : State :=
  match s.image, s.fabric.frame with
  | some im, some k =>
    if s.fabric.await then missedBundle (s.runTo (frameStart im.frate k + 8590)) im else s
  | _, _ => s

/-! ### Handover (R354, R355) -/

/-- HANDOVER write: the role passes to a STANDBY partner in step, with the link up; else REFUSE = 5 (R354). The partner is in step when
its hash of the last frame has come back. -/
def handover (s : State) : State :=
  if s.role = 4 ∧ s.linkUp ∧ partnerRole s = 3 ∧ s.twin.quiet ≤ 1 then
    setPartnerRole (setRole (s.send (.twin 4 0 [0])) 3) 4
  else s.put R.NODE_TWIN_STAT_REFUSE 5

/-- TWIN stops steering a member that becomes ACTIVE: the next usable source steers, without a step (R33, R34). -/
def twinSteerEnd (s : State) : State :=
  let u := s.time.usable
  let t := sourceLost s 4
  { t with time := { t.time with usable := u } }

/-- HANDOVER_REQUEST_RECEIVED: a STANDBY member in step takes the role; for LOCKOUT only where its own safety function permits operation (R355).
The reason of the request (0 host, 1 fault, 2 LOCKOUT) is a free value. -/
def handoverReceived (s : State) : State :=
  let (n, s) := s.freshNat
  if s.role = 3 ∧ s.linkUp ∧ s.get R.NODE_TWIN_STAT_DIVERGED = 0 ∧ (n % 3 ≠ 2 ∨ safetyPermits s) then
    setPartnerRole (setRole (twinSteerEnd (s.send (.twin 4 0 [2]))) 4) (if n % 3 = 0 then 3 else 5)
  else s

/-! ### Link loss, takeover, ALONE (R356 to R360) -/

/-- Messages that wait for their acknowledgement are sent (R361). -/
def flushMirrors (s : State) : State :=
  let m := s.twin.mirrors
  m.foldl (fun s e => siteSend s e.1 (leNat (e.2.2.take 1)) (e.2.2.drop 1)) { s with twin := { s.twin with mirrors := [] } }

/-- LINK_LOSS: the third consecutive frame without the partner's traffic (R356). -/
def linkLoss (s : State) : State :=
  if s.linkUp = false ∨ s.twin.quiet < 3 then s
  else
    let s := (s.put R.NODE_TWIN_STAT_LINK 0).mark R.NODE_TWIN_STAT_LINK_DOWN 1
    let s := twinBlock s.freshNat.2 (s.freshNat.1 % 2)
    let old := s.role
    let open_ := s.twin.arb.isSome
    let s := { s with twin := { s.twin with arb := none, resyncAt := none, bundle := none, cmds := [] } }
    let s := flushMirrors s
    let s := if old = 2 then setRole s 1 else if open_ ∧ old = 3 then setRole s 5 else s
    let s := if s.role = 1 ∨ s.role = 5 then { s with fabric := { s.fabric with await := false, frame := if s.fabric.await then none else s.fabric.frame } } else s
    twinEnvelope s 3 old s.role 0 (lastFrame s)

/-- TWIN_LINK_UP: the link returns (R360, Table TW-3). -/
def linkReturns (s : State) : State :=
  if s.linkUp ∨ s.get R.NODE_IDENT_TWIN = 0 then s
  else match s.twin.partner with
    | none => s
    | some p =>
      let s := (twinBlock (s.put R.NODE_TWIN_STAT_LINK 1) 1).put R.NODE_TWIN_STAT_SILENT 0
      let s := { s with twin := { s.twin with quiet := 0 } }
      pairForm (twinEnvelope s 4 s.role s.role 0 (lastFrame s)) p

/-- TAKEOVER: a STANDBY member with LINK = 0 at the instant at which SILENT becomes 1 (R357, R358). -/
def takeover (s : State) : State :=
  if s.role = 3 ∧ s.linkUp = false then
    let s := (s.put R.NODE_TWIN_STAT_SILENT 1).mark R.NODE_TWIN_STAT_TAKEOVER 1
    let s := setRole (twinSteerEnd s) 4
    twinEnvelope s 5 3 4 0 (lastFrame s)
  else s

/-- ALONE: a SEEKING member becomes ACTIVE with the link down and no ball edge during the last TSIL; else REFUSE = 4 (R359). Whether an edge
appeared is a free value: no command carries the levels of the balls. -/
def alone (s : State) : State :=
  let (n, s) := s.freshNat
  if s.role = 1 ∧ s.linkUp = false ∧ n % 2 = 0 then setRole s 4 else s.put R.NODE_TWIN_STAT_REFUSE 4

/-- REJOIN: a SUSPECT member with the link up and no own fault present becomes SYNCING (Table TW-3). -/
def rejoin (s : State) : State :=
  if s.role = 5 ∧ s.linkUp ∧ s.mode ≠ 5 ∧ s.mode ≠ 7 ∧ s.get R.FAB_STATUS_FAULT = 0 then enterSyncing s else s

/-! ### Mirrors (R361 to R363) -/

/-- MIRROR: the partner sends the message on its own site ports with the same number, discards its held copy, and acknowledges. -/
def mirror (s : State) (seq origin : Nat) (msg : Bytes) : State :=
  if s.linkUp = false ∨ s.role = 4 then s
  else
    let s := { s with twin := { s.twin with
      lastMirrored := max s.twin.lastMirrored seq, held := s.twin.held.filter fun h => h.1 != origin } }
    let s := siteSend s seq (leNat (msg.take 1)) (msg.drop 1)
    s.send (.twin 7 0 (leBytes 6 seq))

/-- The ACTIVE member sends the mirrored message on its site ports. -/
def mirrorSend (s : State) (seq : Nat) : State :=
  match s.twin.mirrors.find? (·.1 == seq) with
  | none => s
  | some e =>
    let s := { s with twin := { s.twin with mirrors := s.twin.mirrors.filter fun m => m.1 != seq } }
    siteSend s e.1 (leNat (e.2.2.take 1)) (e.2.2.drop 1)

/-- MIRROR_ACK_TIMEOUT: 10 µs after the mirror was sent (R361). -/
def mirrorTimeout (s : State) (seq : Nat) : State :=
  match s.twin.mirrors.find? (·.1 == seq) with
  | none => s
  | some e => mirrorSend (s.runElapsed (e.2.1 + usec 10)) seq

/-! ### Resynchronisation (R366) -/

/-- RESYNC_REQUEST: the ACTIVE member chooses k_s, the first frame that starts at least 100 µs later (Table TW-5). -/
def resyncRequest (s : State) : State :=
  match s.image with
  | none => s
  | some im =>
    if s.role = 4 ∧ s.linkUp then
      setPartnerRole { s with twin := { s.twin with resyncAt := some (frameFrom im.frate (s.postmark + 429497)), matches_ := 0 } } 2
    else s

/-- The nearest tap after `z` to the fine postmark `t`: points of one grid keep their places when its origin is moved. -/
def nearTap (z t : Nat) : Nat := ((t - z) * tapsPerSecond + 2 ^ 39) / 2 ^ 40

/-- A leg with the fine postmark `z` as origin of its positions: what is placed and what is in progress stay at their instants. -/
def Leg.rebase (l : Leg) (z : Nat) : Leg :=
  let at_ (x : Nat) : Nat := nearTap z (tapPoint l.anchor x)
  { l with anchor := z, x0 := at_ l.x0, plan := l.plan.map fun e => { e with at_ := at_ e.at_ }, lastEdge := l.lastEdge.map at_ }

/-- A leg takes its partner's anchor and sets (R206, R366). Its positions count from one second, a whole number of taps, before its partner's count
zero, so that none lies before the origin. -/
def legResync (s : State) (a : LegAnchor) : State :=
  let n := a.leg
  let s := ((s.put (R.LEGn_DUTY_DUTY n) a.staged.1).put (R.LEGn_PHASE_PHASE n) a.staged.2.1).put (R.LEGn_PERIOD_PERIOD n) a.staged.2.2
  let s := ((s.put (R.LEGn_DUTY_ACT_DUTY n) a.active.1).put (R.LEGn_PHASE_ACT_PHASE n) a.active.2.1).put (R.LEGn_PERIOD_ACT_PERIOD n)
    a.active.2.2
  let p : Option PendSet := a.pending.map fun q => { duty := q.1, phase := q.2.1, period := q.2.2.1, safe := false, commit := q.2.2.2 }
  let past := decide (64 * (a.per / 2) ≤ tapsSince a.zero s.finePostmark) && a.per != 0
  let l := Leg.rebase (settle (s.leg n) (legNow s n)) (a.zero - 2 ^ 40)
  s.setLeg n { l with
    runs := true, zero := (a.zero - (a.zero - 2 ^ 40)) * 1200000000 / 2 ^ 40, per := a.per, down := past
    pend := p, pendNext := none, pendPP := p, pendPPNext := none }

/-- Evaluate buffered bundles back to back (Table TW-5, step 4). -/
def runBuffered (im : Image) : List Bundle → State → State
  | [], s => s
  | b :: bs, s =>
    let s := { s with fabric := { s.fabric with next := some b.k } }
    let s := hashCompare (completeFrame s im) (b.k - 1) b.hash.toNat
    if s.role ≠ 2 ∨ s.twin.loaded = false then s
    else
      let s := bundleFrame { s with fabric := { s.fabric with next := some (b.k + 1) } } im b
      runBuffered im bs s

/-- STATE_TRANSFER: a SYNCING member loads its partner's state; k_s is its base frame (R366, R55). -/
def stateTransfer (s : State) (x : Transfer) : State :=
  match s.image with
  | none => s
  | some im =>
    if s.role ≠ 2 ∨ s.linkUp = false ∨ s.twin.loaded then s
    else
      let s := ckpLoad { s with fabric := { s.fabric with frame := none, await := false } } im x.checkpoint
      let s := s.put R.FAB_STATUS_RUN 1
      let s := x.legs.foldl legResync s
      let cmds := x.waiting.map fun c => (commandFrame s (c.source.toNat / 4096) c.t.toNat, c)
      let bufs := s.twin.buffered.filter fun b => decide (x.k ≤ b.k)
      let s := { s with
        twin := { s.twin with loaded := true, buffered := [], matches_ := 0, ownHash := none, cmds := s.twin.cmds ++ cmds
                              lastMirrored := max s.twin.lastMirrored (x.nextSeq - 1) }
        fabric := { s.fabric with base := true, wasHeld := false, staged := [], raised := [], next := some (max x.k (s.fabric.next.getD x.k)) } }
      runBuffered im bufs s

/-- RESYNC_COMPLETE: after 64 consecutive matching hashes the member becomes STANDBY (Table TW-5, step 5). -/
def resyncComplete (s : State) : State :=
  if s.role = 2 ∧ s.twin.loaded ∧ 64 ≤ s.twin.matches_ then { setRole s 3 with twin := { (setRole s 3).twin with attempts := 0 } } else s

/-- PARTNER_LIGHT_TEST: a STANDBY member runs LIGHT every NODE_TWIN_CHK.TEST seconds (R365). -/
def partnerLight (s : State) : State :=
  let t := s.get R.NODE_TWIN_CHK_TEST
  if s.role ≠ 3 ∨ t = 0 then s
  else
    let s := s.runElapsed (s.twin.lightAt + usec (1000000 * t))
    testRequest { s with twin := { s.twin with lightAt := s.time.elapsed } } 0

/-- A command forwarded by the partner enters the ACTIVE member's queue on arrival (R351). -/
def forwarded (s : State) (c : Command) : State :=
  if s.role = 4 ∧ s.linkUp then
    acceptEnter s c.path.val c.source.toNat c.seq c.target.toNat c.value.toNat c.t.toNat c.item
  else s

/-- TIME gives the member a measurement of its partner's postmark (R440). -/
def twinTime (s : State) (offset : Int) : State :=
  if s.linkUp then measurement (s.freshNat.2.put R.LK_TWIN_STAT_DELAY s.freshNat.1) 4 offset else s

/-! ### Meanings -/

/-- BUNDLE_RECEIVED (R349). -/
def execBundleReceived (b : Bundle) (s : State) : Host.Outcome State Fault Refusal := runsLink s (bundleReceived s b)
/-- TWIN_CMD_RECEIVED (R439). -/
def execTwinCmdReceived (k : Nat) (c : Command) (s : State) : Host.Outcome State Fault Refusal := runsLink s (cmdReceived s k c)
/-- BUNDLE_MISSED (R350). -/
def execBundleMissed (s : State) : Host.Outcome State Fault Refusal := runs s (bundleMissed s)
/-- HASH_RECEIVED (R352). -/
def execHashReceived (k : Nat) (h : BitVec 64) (s : State) : Host.Outcome State Fault Refusal := runsLink s (hashReceived s k h.toNat)
/-- ARBITRATION_OUTCOME (R353). -/
def execArbitrationOutcome (own partner : Bool) (s : State) : Host.Outcome State Fault Refusal :=
  runsLink s (arbitrationOutcome s own partner)
/-- HANDOVER (R354). -/
def execHandover (r : Requester) (s : State) : Host.Outcome State Fault Refusal := runsBy r s (handover s)
/-- HANDOVER_REQUEST_RECEIVED (R355). -/
def execHandoverRequestReceived (s : State) : Host.Outcome State Fault Refusal := runsLink s (handoverReceived s)
/-- LINK_LOSS (R356). -/
def execLinkLoss (s : State) : Host.Outcome State Fault Refusal := runs s (linkLoss s)
/-- TWIN_LINK_UP (R360). -/
def execTwinLinkUp (s : State) : Host.Outcome State Fault Refusal := runsLink s (linkReturns s)
/-- TAKEOVER (R358). -/
def execTakeover (s : State) : Host.Outcome State Fault Refusal := runs s (takeover s)
/-- ALONE (R359). -/
def execAlone (r : Requester) (s : State) : Host.Outcome State Fault Refusal := runsBy r s (alone s)
/-- REJOIN (R347). -/
def execRejoin (r : Requester) (s : State) : Host.Outcome State Fault Refusal := runsBy r s (rejoin s)
/-- HELLO (R421). -/
def execHello (p : Partner) (s : State) : Host.Outcome State Fault Refusal := runsLink s (hello s p)
/-- TWIN_TIME (R440). -/
def execTwinTime (offset : Int) (s : State) : Host.Outcome State Fault Refusal := runsLink s (twinTime s offset)
/-- FORWARDED_COMMAND (R351). -/
def execForwardedCommand (c : Command) (s : State) : Host.Outcome State Fault Refusal := runsLink s (forwarded s c)
/-- MIRROR (R361). -/
def execMirror (seq : BitVec 48) (origin : Word) (msg : Bytes) (s : State) : Host.Outcome State Fault Refusal :=
  runsLink s (mirror s seq.toNat origin.toNat msg)
/-- MIRROR_ACK_TIMEOUT (R361). -/
def execMirrorAckTimeout (seq : BitVec 48) (s : State) : Host.Outcome State Fault Refusal := runs s (mirrorTimeout s seq.toNat)
/-- MIRROR_ACK (R361). -/
def execMirrorAck (seq : BitVec 48) (s : State) : Host.Outcome State Fault Refusal := runsLink s (mirrorSend s seq.toNat)
/-- RESYNC_REQUEST (R366). -/
def execResyncRequest (s : State) : Host.Outcome State Fault Refusal := runs s (resyncRequest s)
/-- STATE_TRANSFER (R366). -/
def execStateTransfer (x : Transfer) (s : State) : Host.Outcome State Fault Refusal := runsLink s (stateTransfer s x)
/-- RESYNC_COMPLETE (R366). -/
def execResyncComplete (s : State) : Host.Outcome State Fault Refusal := runs s (resyncComplete s)
/-- PARTNER_LIGHT_TEST (R365). -/
def execPartnerLightTest (s : State) : Host.Outcome State Fault Refusal := runs s (partnerLight s)

end Sys2Proof.Machine
end

