-- ==== Sys2Proof/Machine/Resets.lean ====
section
/-!
DEFINITION. Resets as they are asserted, and the wake from HIBERNATE: what they keep and what they return to its default
(spec/17_clocks_resets.md R456 to R459, R464, R465; spec/03_modes.md R80 Table MD-10; spec/00_scope.md R10).
-/
namespace Sys2Proof.Machine

/-- The bit of a Kept mask for a reset kind (Table CK-3); 5 is a wake from HIBERNATE (Table SC-5). -/
def keptBit (kind : Nat) : Nat := if kind = 5 then 6 else kind

/-- Every register field takes its Reset value but those kept (R10). -/
def regsReset (s : State) (kind : Nat) : State :=
  { s with regs := s.regs.filter fun e => (keptOfKey Config.gradeFuse e.1).testBit (keptBit kind) }

/-- The ledger, the flight record and capture memory are kept through PIN, WATCHDOG and HOST (Table MD-10). -/
def keepsRecords (kind : Nat) : Bool := kind == 2 || kind == 3 || kind == 4

/-- The sorting office: empty, the ledger kept or not. -/
def officeReset (s : State) (keep : Bool) : State :=
  let o := s.office
  { s with office := if keep then { Office.reset with ledger := o.ledger, ledCount := o.ledCount, anchor := o.anchor } else Office.reset }

/-- Capture: the memories and the record kept or not. -/
def captureReset (s : State) (keep : Bool) : State :=
  let c := s.capture
  { s with capture := if keep then { Capture.reset with mem := c.mem, flight := c.flight, items := c.items, next := c.next }
    else Capture.reset }

/-- What only SRAM or logic holds returns to its default; what non-volatile memory holds stays (Table MD-10). -/
def contentsReset (s : State) (kind : Nat) : State :=
  let s := captureReset (officeReset s (keepsRecords kind)) (keepsRecords kind)
  let sec := s.security
  { s with
    shadows := [], hidden := ModeState.reset, legs := [], trips := Trips.reset, sense := Sense.reset, image := none
    fabric := Fabric.reset, acceptance := []
    safety := { Safety.reset with causes := s.safety.causes, press := s.safety.press }
    security := { Security.reset with enr := sec.enr, dxk := sec.dxk, fw := sec.fw, fwOpens := sec.fwOpens, fwCur := sec.fwCur }
    links := { Links.reset with readData := s.links.readData }
    twin := { Twin.reset with seqBase := s.twin.seqBase }
    axes := [], cycle := CycleSets.reset }

/-- The clock root stops; time spent on the shadow oscillator counts from here. -/
def rootStops (s : State) : State :=
  { s with
    time := { s.time with shadowSince := some (s.time.shadowSince.getD s.time.elapsed) }
    root := { s.root with
      lineStart := s.time.elapsed, winStart := s.time.elapsed, ref0Edge := true, ref1Edge := true, wdogRuns := false, settle := none
      relock := false, hibernate := false } }

/-- The always-on domain restarts: what it holds takes its Reset values (Table CK-8). -/
def aonRestart (s : State) : State :=
  let s := { s with
    regs := s.regs.filter fun e => !(decide (0x20000 * 32 ≤ e.1) && decide (e.1 < 0x30000 * 32))
    root := { s.root with coarse := none, coarseBound := none, coarseAt := 0, xtalTicks := 0, xtalWhole := false } }
  s.put R.CK_RSTCAUSE_COARSE_LOST 1

/-- CK_RSTCAUSE of a start. -/
def rstCause (s : State) (kind bosup : Nat) : State :=
  ((s.put R.CK_RSTCAUSE_KIND kind).put R.CK_RSTCAUSE_WAKE (if kind = 5 then 1 else 0)).put R.CK_RSTCAUSE_BOSUP bosup

/-- A reset is asserted (R456, R457): the open segments are cut and the record held where a kind keeps them (R330, R337), slots in WRITING
are refused (R198), counts not yet written are lost (R477). The PCI Express link stays up through WATCHDOG and HOST (Table CK-4). -/
def resetContents (s : State) (kind : Nat) : State :=
  let lose := kind ≠ 5 ∧ s.root.hibernate = false
  let s := runPause (hibernateRetention s)
  let hold := keepsRecords kind && (s.get R.CAP_FRCFG_AUTOHOLD).testBit 4 && s.get R.CAP_FRCFG_HOLD == 0
  let s := if keepsRecords kind then capReset s else s
  let s := if hold then frHold s 16 else s
  let link : Nat := if kind = 3 ∨ kind = 4 then s.get R.LK_STATUS_PCIE_UP * 16 + s.get R.LK_STATUS_GEN * 4 + s.get R.LK_STATUS_WIDTH else 0
  let s := regsReset (contentsReset (rootStops s) kind) kind
  let s := ((s.put R.LK_STATUS_PCIE_UP (link / 16)).put R.LK_STATUS_GEN (link / 4)).put R.LK_STATUS_WIDTH link
  let s := if kind = 3 ∨ kind = 4 then tigTimebase s else s
  let s := fwAtReset (slotsAtReset s)
  if lose then countsLost s else s

/-- The kind recorded when a reset meets another that is still asserted: the first of Table CK-3; in a wake only COLD and BROWNOUT (R465, R466). -/
def kindRecorded (old : Option Nat) (kind : Nat) : Nat := match old with
  | none => kind
  | some 5 => if kind ≤ 1 then kind else 5
  | some k => min k kind

/-- A reset is asserted. In HIBERNATE supplies may be absent, and only the loss of the always-on domain is a reset (R463, R465). -/
def resetAssert (s : State) (kind bosup : Nat) (aonLost : Bool) : State :=
  if s.root.hibernate ∧ aonLost = false then s
  else
    let k := kindRecorded s.root.resetKind kind
    if s.root.resetKind = some 5 ∧ k = 5 then s
    else
      let lost := decide (s.root.resetKind = some 0) && s.get R.CK_RSTCAUSE_COARSE_LOST == 1
      let bos := if s.root.resetKind = some 1 ∧ kind = 1 then s.get R.CK_RSTCAUSE_BOSUP ||| bosup else bosup
      let s := resetContents s kind
      let s := { s with root := { s.root with resetKind := some k } }
      let s := if k = kind then rstCause (s.put R.CK_RSTCAUSE_COARSE_LOST (if lost then 1 else 0)) k (if k = 1 then bos else 0) else s
      if aonLost then aonRestart s else s

/-! ### Wake (R389, R464, R465) -/

/-- The node wakes: CK_WAKE names the first cause, and the start waits for its release. -/
def wakeUp (s : State) (cause input : Nat) : State :=
  let s := (s.put R.CK_WAKE_CAUSE cause).put R.CK_WAKE_INPUT input
  let s := resetContents s 5
  let s := rstCause (s.put R.CK_RSTCAUSE_COARSE_LOST 0) 5 0
  { s with root := { s.root with resetKind := some 5 } }

/-- The alarm: the coarse postmark has reached CK_ALARM while ALARM_EN = 1. -/
def alarmDue (s : State) : Bool :=
  s.get R.CK_WAKE_ALARM_EN == 1 && (match s.root.coarse with
    | some c => decide (s.getPair R.CK_ALARM_LO_FRAC R.CK_ALARM_HI_SEC ≤ c)
    | none => false)

/-- An alarm wakes the node from HIBERNATE. -/
def alarmWake (s : State) : State := if s.root.hibernate && alarmDue s then wakeUp s 4 0 else s

end Sys2Proof.Machine
end

