-- ==== Sys2Proof/Machine/Power.lean ====
section
/-!
DEFINITION. The frame start and the tray tick of the node, with what waits for them: an activation, the power states QUIET and
HIBERNATE; requests of modes and power states (spec/03_modes.md R64 to R71, R78; spec/17_clocks_resets.md R461 to R463;
spec/11_sorting_office.md R305).
-/
namespace Sys2Proof.Machine

/-! ### QUIET (R461, R462) -/

/-- The fields that QUIET does not keep (R10, R80) and that hold what has happened; a field that shows a present condition goes on showing it. -/
def quietFields : List Fld :=
  [R.NODE_PAIR_PAIR_VALID, R.NODE_PAIR_PARTNER, R.NODE_PAIR_PAIR_ID, R.NODE_TEST_RESULT, R.NODE_TEST_FAILUNIT, R.NODE_ADDRERR_COUNT, R.NODE_ADDRERR_REQ, R.NODE_ADDRERR_KIND, R.NODE_ADDRERR_ADDR_ADDR,
    R.NODE_TRIPSTAT_LTOTAL, R.NODE_TRIPSTAT_BLANKED, R.NODE_TWIN_STAT_REFUSE, R.NODE_TWIN_CNT_BMISS, R.NODE_TWIN_CNT_MISM, R.POST_OFFSET_OFS_NS,
    R.POST_TIG_LAPSES, R.POST_TIG_HWFAULT, R.POST_TIG_OVERRUN, R.POST_TIG_FOREIGN, R.POST_ACC_SUPER, R.POST_ACC_LATE,
    R.POST_TIGBASE_LO_FRAC, R.POST_TIGBASE_HI_SEC, R.CK_LOCKWIN_COUNT, R.CK_WDOG_CFG_TIMEOUT, R.SN_SNAPSTAT_DONE, R.SN_SNAPSTAT_DROP,
    R.SN_SNAPSTAT_PEND, R.SN_CAL_STEP, R.SN_CAL_PHASE, R.SEC_ENR_PTR_OFS, R.SEC_FW_PTR_OFS, R.SEC_IMG_PTR_OFS, R.LK_TWIN_STAT_DELAY,
    R.FAB_SNAP_FROZEN, R.FAB_SNAP_FREEZE, R.FAB_NAN_INF, R.FAB_NAN_NAN, R.SO_DROP_HW, R.SO_DROP_DL, R.CAP_FRPTR_OFS, R.SAF_ISO_VALID,
    R.SAF_ISO_R_ISO, R.SAF_CNT_TPDONE, R.SAF_CNT_DEMANDS, R.SEC_CNT_TAGFAIL, R.SEC_CNT_REPLAY, R.SEC_IMG_STATUS_CODE, R.SEC_IMG_WHERE_SECT,
    R.SEC_IMG_WHERE_REC, R.LK_TWIN_CNT_TAGFAIL, R.LK_TWIN_CNT_LATE, R.HL_STATUS_OVF]
  ++ (List.range 16).flatMap (fun n => [R.NODE_BCNTb_TOTAL n, R.SAF_RFj_CNT_CRCC n, R.SAF_RFj_CNT_CRCK n, R.SAF_RFj_CNT_SEQ n, R.SAF_RFj_CNT_TIME n])
  ++ (List.range 32).flatMap (fun n => [R.DEC_RSr_IDX_RUN n, R.DEC_RSr_IDX_J n, R.DEC_RSr_CNT_OUT n, R.DEC_RSr_CNT_LATE n])
  ++ (List.range 8).flatMap (fun n => [R.CAP_WINw_STAT_ARMERR n, R.CAP_WINw_MISS_COUNT n])
  ++ (List.range 4).flatMap (fun n => [R.SN_ORm_CH n, R.SN_LOSTm_CH n, R.LK_CANc_TXDONE_DONE n, R.AXn_STAT_FAULT n, R.AXn_STAT_CHATTER n])
  ++ (List.range 2).flatMap (fun n => [R.LK_SPn_CNT_RXDROP n, R.LK_SPn_CNT_DUP n])
  ++ (List.range 8).flatMap (fun n => (List.range 10).map fun r => R.SEC_FRANK_NONCEn_N n r)

/-- The write positions that SEC_FW_PTR and SEC_IMG_PTR show go with them. -/
def quietPointers (s : State) : State :=
  let sec := s.security
  let fw (m : Sparse (Option (Nat × Nat × Bool))) (n : Nat) := match sget none m n with
    | some (o, _, x) => sset none m n (some (o, 0, x))
    | none => m
  { s with
    security := { sec with fwOpens := match sec.fwCur with
      | some n => fw sec.fwOpens n
      | none => sec.fwOpens }
    slots := { s.slots with opens := match s.slots.cur with
      | some n => fw s.slots.opens n
      | none => s.slots.opens } }

/-- Entry into and exit from QUIET return those fields to their Reset values (R10). -/
def quietReset (s : State) : State := { quietFields.foldl (fun s f => s.put f f.reset) (quietPointers (tigBreak s)) with cycle := CycleSets.reset }

/-- The number of the next frame whose start is not yet past. -/
def frameAhead (s : State) (im : Image) : Nat := max (nextFrame s im) (frameFrom im.frate s.tickPm)

/-- What QUIET gates: the fabric, the modulators and the slices. Fades end on their target bank, the calibration rotation stops, the wear counts
are written, the insulation measurement pauses (R278, R286, R392, R461, R477). -/
def quietGate (s : State) : State :=
  let s := { s with hidden := { s.hidden with power := none }, fabric := { s.fabric with frame := none, await := false, sampling := none }
                    safety := { s.safety with isoMean := none, isoInj := false } }
  let s := (s.put R.FAB_STATUS_RUN 0).put R.SN_STATUS_RUN 0
  modePending (quietReset (runPause (counterWrite (calSuspend (resamplersRestart (fadesEnd (s.put R.NODE_MODE_QUIET 1)))))))

/-- QUIET is entered at frame start F_k: the running frame completes without a load-all, and the frame start goes on with a gated fabric. -/
def quietFrame (s : State) (im : Image) (k : Nat) : State :=
  let s := s.runTo (frameStart im.frate k)
  let s := frameCatchUp s im
  let s := completeFrameWith { s with fabric := { s.fabric with next := some k } } im false
  frameBegin (quietGate s) im k

/-- QUIET is left: the slices restart and settle for 2 ms; every path marks its outputs (R269, R462). -/
def quietLeave (s : State) : State :=
  let s := { s with hidden := { s.hidden with power := none }, root := { s.root with settle := some (s.time.elapsed + usec 2000) } }
  let s := quietReset (runResume (s.put R.NODE_MODE_QUIET 0))
  let s := { s with hidden := { s.hidden with quietEnd := some s.cycleNo } }
  modePending (senseResume (if s.image.isSome then s.put R.SN_STATUS_RUN 1 else s))

/-- The fabric resumes with its kept state at the first frame start after the settling, a base frame (R55, R462). -/
def fabricResume (s : State) : State :=
  match s.root.settle with
  | none => s
  | some e =>
    let s := { s.runElapsed e with root := { s.root with settle := none } }
    match s.image with
    | none => s
    | some im =>
      if s.mode = 5 ∨ s.mode = 7 then s
      else
        let k := frameAhead s im
        let s := s.put R.FAB_STATUS_RUN 1
        let s := if s.fabric.wasHeld then s.bump R.POST_TIG_LAPSES 1 else s
        frameBegin { s with fabric := { s.fabric with base := true, next := some k } } im k

/-! ### HIBERNATE (R463) -/

/-- HIBERNATE entry (Table CK-5): the fabric halts, the balls go to pull-down, links and sessions close; the counts and the
axes' positions are written and the journal records the entry; the always-on domain takes the coarse postmark and the error bound; PWR_EN goes low, and the watchdog has stopped. An alarm already past wakes the node at once (R464). -/
def hibernateEnter (s : State) : State :=
  let s := fabricHalt (holdAll { s with hidden := { s.hidden with power := none } })
  let s := (List.range 4).foldl (fun s n => axSave s n true) s
  let s := sessionsClose s fun _ => true
  let s := { s with legs := [], safety := { s.safety with outs := [], isoMean := none, isoInj := false }, links := { Links.reset with readData := s.links.readData } }
  let s := journalAdd (counterWrite (runPause s)) 2 s.postmark
  alarmWake { s with root := { s.root with
    coarse := some s.postmark, coarseBound := some (errbNow s), coarseAt := s.time.elapsed, hibernate := true, settle := none
    wdogRuns := false } }

/-! ### The instants -/

/-- The power state asked for may be entered now: QUIET from STANDBY, HIBERNATE from STANDBY or LOCKOUT; not while a test runs (R65, R78). A HIBERNATE
request waits for the test's end as a QUIET request does (DESIGN CHOICE, log entry 142). -/
def powerMay (s : State) (p : Nat) : Bool :=
  s.hidden.test.isNone && (s.mode == 1 || p == 3 && s.mode == 7)

/-- A waiting QUIET or HIBERNATE request that its mode no longer permits is refused at its instant. -/
def powerLate (s : State) (k : Nat) : State :=
  match s.hidden.power with
  | some p =>
    if p = 1 ∨ s.hidden.test.isSome ∨ powerMay s p then s
    else modeRefuse { s with hidden := { s.hidden with power := none } } (if s.mode = 7 then 5 else 1) s.hidden.powerBy.1 0 s.hidden.powerBy.2 k []
  | none => s

/-- The start of a frame with what waits for it: an activation's stop or start, HIBERNATE, QUIET, the resumption after QUIET, or the frame
itself (R31, R156, R201, R461 to R463). Without an image no frame starts. -/
def nodeFrameStart (s : State) : State :=
  match s.slots.activating, s.image with
  | some (_, 3), _ => activationStart s
  | some (_, 1), some _ => activationStop s
  | _, none => s
  | _, some im =>
    let k := nextFrame s im
    let s := powerLate s k
    match s.hidden.power, s.root.settle with
    | some 3, _ => if powerMay s 3 then hibernateEnter (s.runTo (frameStart im.frate k)) else frameBegin s im k
    | some 2, _ => if powerMay s 2 then quietFrame s im k else frameBegin s im k
    | _, some e => if e ≤ (s.runTo (frameStart im.frate k)).time.elapsed then fabricResume s else frameBegin s im k
    | _, none => frameBegin s im k

/-- What waits for a tray tick: RUN; with no image QUIET, HIBERNATE and a STANDBY request (R70, R461 to R463). -/
def powerTick (s : State) : State :=
  let s := if s.image.isSome then s else powerLate s 0
  let s := match s.hidden.power with
    | some 1 => quietLeave s
    | some 2 => if s.image.isNone && powerMay s 2 then quietGate s else s
    | some 3 => if s.image.isNone && powerMay s 3 then hibernateEnter s else s
    | _ => s
  match s.hidden.atTick with
  | some q =>
    let done (s : State) : State := { s with hidden := { s.hidden with atTick := none } }
    if s.hidden.testHolds then s
    else if q.code = 1 ∧ s.mode = 1 then modePending (done s)
    else modePending (modeJudge (done s) q 0)
  | none => s

/-- The next tray tick: due entries are released (R305, R306), and what waits for a tray tick happens. -/
def trayTick (s : State) : State :=
  let n := nextTray s
  let s := if s.slots.activating.any (·.2 == 1) && s.image.isNone then activationStop s else s.runTo (trayTickPm n)
  powerTick (trayReleaseDue { s with office := { s.office with lastTick := some n } } (trayTickPm n))

/-! ### Requests (R67 to R70) -/

/-- A write of NODE_MODE_REQ with VALID = 1 (R70): a HOST command to the node mode; with no image a STANDBY request waits for the next tray tick and
another is refused with 0x02. -/
def modeRequest (s : State) (r code : Nat) : State :=
  if s.image.isSome then modePending (hostCommand s r modeTarget code [])
  else if inQuiet s ∧ code = 1 then s
  else if code = 1 ∧ s.slots.activating.isNone then
    modePending { s with hidden := { s.hidden with atTick := some { code := 1, target := 0, source := hostSource r, pm := s.postmark, item := [] } } }
  else modeRefuse s 2 (hostSource r) 0 s.postmark 0 []

/-- A write of NODE_MODE_REQ.PWR: RUN acts in QUIET; QUIET and HIBERNATE are refused where the mode does not lead to them (R65, R461 to R463). -/
def powerRequest (s : State) (r p : Nat) : State :=
  let wait (s : State) : State := { s with hidden := { s.hidden with power := some p, powerBy := (hostSource r, s.postmark) } }
  if p = 1 then (if inQuiet s then wait s else s)
  else if p = 2 ∧ inQuiet s then s
  else if s.mode = 1 ∨ (p = 3 ∧ s.mode = 7) then wait s
  else modeRefuse s (if s.mode = 7 then 5 else 1) (hostSource r) 0 s.postmark 0 []

/-- A write of NODE_MODE_REQ (R67): both fields at once are refused with 0x06. -/
def modeReqWrite (s : State) (r v : Nat) : State :=
  let p := bitsOf v 11 10
  if v.testBit 3 then
    (if p ≠ 0 then modeRefuse s 6 (hostSource r) 0 s.postmark 0 [] else modeRequest s r (v % 8))
  else if p ≠ 0 then powerRequest s r p else s

/-! ### The commands -/

/-- FRAME_START (R156). -/
def execFrameStart (s : State) : Host.Outcome State Fault Refusal := runs s (nodeFrameStart s)
/-- TRAY_TICK (R305). -/
def execTrayTick (s : State) : Host.Outcome State Fault Refusal := runs s (trayTick s)
/-- REQUEST_STANDBY (R70). -/
def execRequestStandby (r : Requester) (s : State) : Host.Outcome State Fault Refusal := runsBy r s (modeReqWrite s r.num 9)
/-- REQUEST_COMMISSION (R69). -/
def execRequestCommission (r : Requester) (s : State) : Host.Outcome State Fault Refusal := runsBy r s (modeReqWrite s r.num 10)
/-- REQUEST_ENERGIZE (R69). -/
def execRequestEnergize (r : Requester) (s : State) : Host.Outcome State Fault Refusal := runsBy r s (modeReqWrite s r.num 11)
/-- REQUEST_REPLAY (R339). -/
def execRequestReplay (r : Requester) (s : State) : Host.Outcome State Fault Refusal := runsBy r s (modeReqWrite s r.num 14)
/-- REQUEST_RUN (R462). -/
def execRequestRun (r : Requester) (s : State) : Host.Outcome State Fault Refusal := runsBy r s (modeReqWrite s r.num 0x400)
/-- REQUEST_QUIET (R461). -/
def execRequestQuiet (r : Requester) (s : State) : Host.Outcome State Fault Refusal := runsBy r s (modeReqWrite s r.num 0x800)
/-- REQUEST_HIBERNATE (R463). -/
def execRequestHibernate (r : Requester) (s : State) : Host.Outcome State Fault Refusal := runsBy r s (modeReqWrite s r.num 0xC00)

/-- QUIET_ENTRY (R461): the frame start, or with no image the tray tick, at which a QUIET request takes effect. -/
def execQuietEntry (s : State) : Host.Outcome State Fault Refusal :=
  runs s (if s.hidden.power = some 2 then (if s.image.isSome then nodeFrameStart s else trayTick s) else s)
/-- QUIET_EXIT (R462): the tray tick at which a RUN request takes effect. -/
def execQuietExit (s : State) : Host.Outcome State Fault Refusal :=
  runs s (if s.hidden.power = some 1 then trayTick s else s)
/-- FABRIC_RESUME (R462). -/
def execFabricResume (s : State) : Host.Outcome State Fault Refusal := runs s (fabricResume s)
/-- HIBERNATE_ENTRY (R463): the frame start, or with no image the tray tick, at which a HIBERNATE request takes effect. -/
def execHibernateEntry (s : State) : Host.Outcome State Fault Refusal :=
  runs s (if s.hidden.power = some 3 then (if s.image.isSome then nodeFrameStart s else trayTick s) else s)

end Sys2Proof.Machine
end

