-- ==== Sys2Proof/Machine/Axes.lean ====
section
/-!
DEFINITION. The auxiliary positioning axes (spec/19_aux_axes.md R487 to R499). The spec bounds a jerk-limited motion and says how it ends; the jerk
that each evaluation takes within the bounds is a free value. The command position counts the steps; the profile runs ahead of it by the steps
placed and not yet due (R488).
-/
namespace Sys2Proof.Machine

/-! ### Registers -/

/-- SLIMP. -/
def axLimP (s : State) (n : Nat) : Int := axGet s (R.AXn_SLIMP_LO_W n) (R.AXn_SLIMP_HI_W n)
/-- SLIMN. -/
def axLimN (s : State) (n : Nat) : Int := axGet s (R.AXn_SLIMN_LO_W n) (R.AXn_SLIMN_HI_W n)
/-- AXn_STAT.STATE. -/
def axState (s : State) (n : Nat) : Nat := s.get (R.AXn_STAT_STATE n)

/-- Modes in which an axis moves (R493). -/
def axMode (s : State) : Bool := [1, 2, 3, 4, 5].contains s.mode

/-- The evaluation interval divides a second into 100,000 (R488). -/
def axRate : Int := 100000

/-- The axis has stopped: its positions go to non-volatile memory, and AXn_EN goes low where it waits for the stop (R493, R497). -/
def axStopped (s : State) (n : Nat) : State :=
  let s := axSave s n false
  let a := s.axis n
  let s := s.setAxis n { a with vel := 0, acc := 0, frac := 0, target := if axState s n = 1 then none else a.target, back := false,
                                enabled := a.enabled && !a.dropEn, dropEn := false }
  s.put (R.AXn_STAT_STATE n) 0

/-- A quick stop at A_STOP (R493); the target goes, and homing ends. -/
def axQuick (s : State) (n : Nat) : State :=
  let a := s.axis n
  let s := s.setAxis n { a with target := none, homing := none, back := false }
  if axState s n = 0 ∨ a.vel = 0 then axStopped s n else s.put (R.AXn_STAT_STATE n) 4

/-! ### The stopping point (R492) -/

/-- The distance of a jerk-limited stop from velocity v ≥ 0 and acceleration a along it, in 2⁻³² counts: the acceleration falls at J to −a_p, stays
there if a_p = A, and rises at J to 0. -/
def stopDistance (v a amax j : Int) : Int :=
  if j ≤ 0 ∨ amax ≤ 0 then 0
  else
    let sq := j * v * 2 ^ 32 + a * a / 2
    let ap := min (amax * 2 ^ 32) (isqrt sq.toNat : Int)
    let ap := max ap (-a)
    let dist (v a j t : Int) : Int := v * t / 2 ^ 32 + a * t * t / 2 ^ 65 + j * t * t * t / (6 * 2 ^ 64)
    let t1 := (a + ap) / j
    let v1 := v + a * t1 / 2 ^ 32 - j * t1 * t1 / 2 ^ 33
    let v3 := ap * ap / (2 * j * 2 ^ 32)
    let t2 := if ap = 0 ∨ v1 ≤ v3 then 0 else (v1 - v3) * 2 ^ 32 / ap
    max 0 (dist v a (-j) t1 + dist v1 (-ap) 0 t2 + dist v3 (-ap) j (ap / j))

/-- JMAX in counts/s³. -/
def axJerk (s : State) (n : Nat) : Int := 16 * s.get (R.AXn_JMAX_J n)
/-- AMAX in counts/s². -/
def axAmax (s : State) (n : Nat) : Int := s.get (R.AXn_AMAX_A n)

/-- The point at which a jerk-limited stop begun now would end. -/
def stopPoint (s : State) (n : Nat) (v a frac : Int) (pos : Int) : Int :=
  let d : Int := if v < 0 then -1 else 1
  pos + (frac + d * stopDistance (d * v) (d * a) (axAmax s n) (axJerk s n)) / 2 ^ 32

/-- A limit stop (R492): LIMSTOP, or HWLIM for a switch. -/
def axLimit (s : State) (n : Nat) (f : Fld) : State := axQuick (s.put f 1) n

/-- Homing ends with a FAULT and a quick stop (R495). -/
def homeFail (s : State) (n code : Nat) : State :=
  (axQuick (s.put (R.AXn_STAT_HOMED n) 0) n).put (R.AXn_STAT_FAULT n) code

/-! ### Requests at an evaluation (R490, R494, R498) -/

/-- Homing begins (R494): a method that does not suit ENCMODE sets FAULT = 3; method 8 takes the SSI reading as absolute. -/
def axHome (s : State) (n : Nat) : State :=
  let m := s.get (R.AXn_HOME_METHOD n) + 1
  let enc := s.get (R.AXn_CFG_ENCMODE n)
  if (m = 3 ∨ m = 4 ∨ m = 7) ∧ enc ≠ 1 ∨ m = 8 ∧ enc ≠ 2 then s.put (R.AXn_STAT_FAULT n) 3
  else if axMode s = false then s
  else
    let a := s.axis n
    let s := (s.put (R.AXn_STAT_FAULT n) 0).put (R.AXn_STAT_HOMED n) 0
    if m = 8 then
      ((axSave (axSetPos s n (axEnc s n)) n false).put (R.AXn_STAT_HOMED n) 1).put (R.AXn_STAT_REHOME_ADVISED n) 0
    else
      (s.setAxis n { a with homing := some { method := m, armed := m ≠ 5 ∧ m ≠ 6 }, target := none, back := false }).put (R.AXn_STAT_STATE n) 3

/-- A committed target is judged (R490): outside the soft limits it is refused with TGTERR and changes nothing. -/
def axTarget (s : State) (n : Nat) (t : Int) : State :=
  if axMode s = false ∨ t < axLimN s n ∨ axLimP s n < t then s.mark (R.AXn_STAT_TGTERR n) 1
  else
    let a := s.axis n
    let s := s.put (R.AXn_STAT_FAULT n) 0
    let d : Int := if a.vel < 0 then -1 else 1
    let beyond := decide (a.vel ≠ 0 ∧ d * t < d * stopPoint s n a.vel a.acc a.frac (axPos s n))
    let s := s.setAxis n { a with target := some t, back := beyond, homing := none }
    if axState s n = 4 then s else s.put (R.AXn_STAT_STATE n) 1

/-- What waits for the evaluation acts in the order of Table AX-3. -/
def axRequests (s : State) (n : Nat) : State :=
  let a := s.axis n
  let q := a.req
  let s := s.setAxis n { a with req := AxReq.none, edge := false }
  let lost (s : State) : State := if q.target.isSome then s.mark (R.AXn_STAT_TGTERR n) 1 else s
  if q.qstop then lost (axQuick s n)
  else if q.stop then
    let s := s.setAxis n { s.axis n with target := none, homing := none, back := false }
    lost (if axState s n = 1 ∨ axState s n = 3 then s.put (R.AXn_STAT_STATE n) 2 else s)
  else if q.home then axHome (lost s) n
  else match q.target with
    | some t => axTarget s n t
    | none => s

/-! ### One evaluation of motion -/

/-- The direction of the homing search (Table AX-2). -/
def homeDir (h : Homing) : Int :=
  if h.method = 5 then (if h.armed then 1 else -1)
  else if h.method = 6 then (if h.armed then -1 else 1)
  else if h.method = 2 ∨ h.method = 4 then -1 else 1

/-- The limit that aborts homing: true LIMP (Table AX-2). -/
def homeAbort (h : Homing) : Bool := h.method == 1 || h.method == 3 || h.method == 5 || h.method == 7

/-- D1 ticks of a time in nanoseconds, at least it. -/
def d1Ticks (s : State) (ns : Nat) : Nat :=
  if s.get R.CK_STATUS_SHADOW = 1 then ticksFor s (ns * 2 ^ 72 / 1000000000 + 1) else (ns * 6 + 4) / 5

/-- Place the steps between two positions of the profile, in 2⁻³² counts, over the `w` ticks to the next evaluation (R488): each on the tick at which
the position, interpolated linearly, passes its count, 500 ns after the step before it and DIRSU after a DIR edge at the earliest. DIR changes with the sign of the
motion. -/
def axPlace (s : State) (n w : Nat) (p q : Int) : State :=
  let a := s.axis n
  let up := decide (p < q)
  let k := (q / 2 ^ 32 - p / 2 ^ 32).natAbs
  let a := if p ≠ q ∧ up ≠ a.dir then { a with dir := up, dirAt := some s.time.count } else a
  let gap := d1Ticks s 500
  let least := match a.dirAt with
    | some t => t + d1Ticks s (1000 * s.get (R.AXn_CFG_DIRSU n))
    | none => 0
  let place (l : List (Nat × Bool)) (i : Nat) : List (Nat × Bool) :=
    let c : Int := if up then (p / 2 ^ 32 + 1 + i) * 2 ^ 32 else (p / 2 ^ 32 - i) * 2 ^ 32
    let d := (q - p).natAbs
    let at_ := s.time.count + max 1 (((c - p).natAbs * w + (d - 1)) / d)
    let after := match l with
      | (t, _) :: _ => t + gap
      | [] => 0
    (max (max at_ after) least, up) :: l
  s.setAxis n { a with steps := (List.range k).foldl place a.steps }

/-- AXn_POS counts the steps up to the present tick; steps long past are forgotten. -/
def axCount (s : State) (n : Nat) : State :=
  let a := s.axis n
  let s := axPut s (R.AXn_POS_LO_W n) (R.AXn_POS_HI_W n) (axCommand s n (s.time.count + 1))
  let keep := d1Ticks s 500
  s.setAxis n { a with counted := max a.counted s.time.count
                       steps := a.steps.filter fun e => decide (s.time.count < e.1 + keep) }

/-- The profile goes to a position, in 2⁻³² counts, with a velocity and an acceleration. -/
def axGo (s : State) (n : Nat) (q v' acc' : Int) : State :=
  let a := s.axis n
  let p := axPos s n * 2 ^ 32 + a.frac
  let next := match s.axisTick with
    | some k => k + 10
    | none => nextTray s
  let s := axPlace s n (ticksFor s (trayTickPm next * 2 ^ 40 - s.time.acc)) p q
  s.setAxis n { s.axis n with
    vel := v', acc := acc', frac := q % 2 ^ 32, limp := a.limp && decide (0 ≤ v'), limn := a.limn && decide (v' ≤ 0) }

/-- The position after one interval with the mean of the velocities at its ends. -/
def axAfter (s : State) (n : Nat) (v' : Int) : Int := axPos s n * 2 ^ 32 + (s.axis n).frac + ((s.axis n).vel + v') / 2 / axRate

/-- The position moves by the mean velocity of the interval. -/
def axMove (s : State) (n : Nat) (v' acc' : Int) : State := axGo s n (axAfter s n v') v' acc'

/-- The balls AXn_STEP, AXn_DIR and AXn_EN (R487, R488, R493): STEP is high for the first 250 ns of each step; in HIBERNATE and during a reset
all are pulled down. -/
def axisBalls (s : State) (n : Nat) : Bool × Bool × Bool :=
  let a := s.axis n
  if s.powered = false then (false, false, false)
  else (a.steps.any fun e => decide (e.1 ≤ s.time.count ∧ s.time.count < e.1 + d1Ticks s 250), a.dir, a.enabled)

/-- A deceleration at A_STOP (R493). -/
def axBrake (s : State) (n : Nat) : State :=
  let a := s.axis n
  let dv : Int := s.get (R.AXn_ASTOP_A n) * 2 ^ 32 / axRate
  let v := if 0 ≤ a.vel then max 0 (a.vel - dv) else min 0 (a.vel + dv)
  let s := axMove s n v 0
  if v = 0 then axStopped s n else s

/-- The acceleration after one evaluation with a free jerk within J_MAX, kept within A_MAX (R490). -/
def axFreeAcc (s : State) (n : Nat) : Int × State :=
  let (f, s) := s.freshNat
  let j := (axJerk s n * 2 ^ 32 / axRate).toNat
  let dj : Int := ((f % (2 * j + 1) : Nat) : Int) - (j : Int)
  let amax := axAmax s n * 2 ^ 32
  (max (-amax) (min amax ((s.axis n).acc + dj)), s)

/-- A jerk-limited stop: the velocity falls to 0 and the axis stands (R491, R493, R494). -/
def axSlow (s : State) (n : Nat) (after : State → State) : State :=
  let a := s.axis n
  let d : Int := if a.vel < 0 then -1 else 1
  let (acc, s) := axFreeAcc s n
  let v := max 0 (d * (a.vel + acc / axRate))
  let v := min v (max (d * a.vel) (s.get (R.AXn_VMAX_V n) * 2 ^ 32))
  let s := axMove s n (d * v) acc
  if v = 0 then after s else s

/-- Motion in direction d at up to `vmax` counts/s, to a goal where there is one: it arrives with velocity and acceleration 0 (R490). -/
def axRun (s : State) (n : Nat) (d : Int) (vmax : Nat) (goal : Option Int) : State :=
  let a := s.axis n
  if d * a.vel < 0 then
    axSlow s n fun s => s.setAxis n { s.axis n with acc := 0, back := false }
  else
    let (acc, s) := axFreeAcc s n
    let cap (v : Int) : Int := d * max 0 (min (d * v) ((vmax : Int) * 2 ^ 32))
    let v := cap (a.vel + acc / axRate)
    let j := axJerk s n * 2 ^ 32 / axRate
    let (v, acc) := match goal with
      | none => (v, acc)
      | some g =>
        let q := axAfter s n v
        if d * g < d * stopPoint s n v acc (q % 2 ^ 32) (q / 2 ^ 32) then
          let b := max (-(axAmax s n * 2 ^ 32)) (d * a.acc - j)
          (cap (a.vel + d * b / axRate), d * b)
        else (v, acc)
    match goal with
    | none => axMove s n v acc
    | some g => if d * g ≤ d * (axAfter s n v / 2 ^ 32) then axStopped (axGo s n (g * 2 ^ 32) v acc) n else axMove s n v acc

/-- What the axis does in one evaluation after its requests (R488 to R494). -/
def axMotion (s : State) (n : Nat) : State :=
  let a := s.axis n
  match axState s n with
  | 1 => match a.target with
    | none => axStopped s n
    | some t =>
      let p := axPos s n
      if a.back then axSlow s n fun s => s.setAxis n { s.axis n with acc := 0, back := false }
      else if t = p ∧ a.vel = 0 then axStopped s n
      else axRun s n (if p < t then 1 else -1) (s.get (R.AXn_VMAX_V n)) (some t)
  | 2 => if a.vel = 0 then axStopped s n else axSlow s n fun s => axStopped s n
  | 3 => match a.homing with
    | none => if a.vel = 0 then axStopped s n else s.put (R.AXn_STAT_STATE n) 2
    | some h => axRun s n (homeDir h) (4 * s.get (R.AXn_HOME_HVEL n)) none
  | 4 => axBrake s n
  | _ => s


/-- The direction of motion, of an axis at rest the one in which it is to move. -/
def axDir (s : State) (n : Nat) : Int :=
  let a := s.axis n
  if a.vel ≠ 0 then a.vel.sign
  else match a.homing, a.target with
    | some h, _ => homeDir h
    | none, some t => (t - axPos s n).sign
    | none, none => 0

/-- The stopping check of an evaluation and the active limit switches in the direction of motion (R492); in homing the aborting limit ends it, and the
limit that methods 5 and 6 seek turns the search (R494, R495). -/
def axCheck (s : State) (n : Nat) : State :=
  let a := s.axis n
  let d := axDir s n
  let p := stopPoint s n a.vel a.acc a.frac (axPos s n)
  if axState s n = 0 ∨ axState s n = 4 then s
  else if 0 < d ∧ axLimP s n < p ∨ d < 0 ∧ p < axLimN s n then axLimit s n (R.AXn_STAT_LIMSTOP n)
  else if 0 < d ∧ a.limp ∨ d < 0 ∧ a.limn then
    match a.homing with
    | none => axLimit s n (R.AXn_STAT_HWLIM n)
    | some h =>
      if homeAbort h = decide (0 < d) then homeFail s n 1
      else if h.armed = false then s.setAxis n { a with homing := some { h with armed := true } }
      else s
  else s

/-- A difference beyond EFERR begins, lasts or ends (R489). -/
def axError (s : State) (n : Nat) : State :=
  let a := s.axis n
  let e := s.get (R.AXn_LCFG_EFERR n)
  let isOver := decide (e ≠ 0 ∧ e < (axCommand s n (s.time.count + 1) - axEnc s n).natAbs)
  s.setAxis n { a with errSince := if isOver then some (a.errSince.getD s.time.elapsed) else none }

/-- One evaluation of axis n. A target that waited for a quick stop starts when the axis stands. -/
def axEvaluate (s : State) (n : Nat) : State :=
  let s := axCheck (axRequests (axCount s n) n) n
  let s := axMotion s n
  let s := if axState s n = 0 ∧ (s.axis n).target.isSome then s.put (R.AXn_STAT_STATE n) 1 else s
  axError s n

/-- The next evaluation: the next tray tick, not yet evaluated, whose number is a multiple of 10 (R488). -/
def axisEvaluation (s : State) : State :=
  let n := (trayTickAtOrAfter s.tickPm + 9) / 10 * 10
  let n := if s.axisTick = some n then n + 10 else n
  (List.range 4).foldl axEvaluate { s.runTo (trayTickPm n) with axisTick := some n }

/-! ### Operations (R487, R490, R493, R494, R499) -/

/-- Change what waits for the next evaluation. -/
def axWait (s : State) (n : Nat) (f : AxReq → AxReq) : State := s.setAxis n { s.axis n with req := f (s.axis n).req }

/-- The target pair commits at its _HI write; in BOOT, LOCKOUT and REPLAY the target is refused with TGTERR (R493, R499). -/
def targetCommit (s : State) (n v : Nat) : State :=
  let t := signed 48 v
  let s := axPut s (R.AXn_TGT_LO_W n) (R.AXn_TGT_HI_W n) t
  if axMode s then axWait s n fun q => { q with target := some t } else s.mark (R.AXn_STAT_TGTERR n) 1

/-- A soft limit commits at its _HI write (R499). -/
def limitCommit (s : State) (n : Nat) (positive : Bool) (v : Nat) : State :=
  if positive then axPut s (R.AXn_SLIMP_LO_W n) (R.AXn_SLIMP_HI_W n) (signed 48 v)
  else axPut s (R.AXn_SLIMN_LO_W n) (R.AXn_SLIMN_HI_W n) (signed 48 v)

/-- The encoder has been judged after a driver power-down or a restore: REHOME_ADVISED unless it confirms the position (R497). -/
def axConfirm (s : State) (n : Nat) (ok : Bool) : State :=
  let s := s.setAxis n { s.axis n with wasDown := false, downErr := false }
  if ok then s else s.put (R.AXn_STAT_REHOME_ADVISED n) 1

/-- ENABLE (R487): AXn_EN goes high. With ENCMODE = 1 a driver power-down has ended with it, and the encoder's count is judged (R497). -/
def axEnable (s : State) (n : Nat) : State :=
  let a := s.axis n
  let s := s.setAxis n { a with enabled := true, dropEn := false }
  if a.wasDown ∧ s.get (R.AXn_CFG_ENCMODE n) = 1 then
    axConfirm s n (!a.downErr && decide ((axCommand s n (s.time.count + 1) - axEnc s n).natAbs ≤ s.get (R.AXn_LCFG_CONFTOL n)))
  else s

/-- A write of AXn_CTRL.OP (Table AX-5). -/
def axOp (s : State) (n op : Nat) : State :=
  if op = 1 then axWait s n fun q => { q with home := true }
  else if op = 2 then axWait s n fun q => { q with stop := true }
  else if op = 3 then axWait s n fun q => { q with qstop := true }
  else if op = 4 then axEnable s n
  else if op = 5 then s.setAxis n { s.axis n with enabled := false, dropEn := false }
  else s

/-! ### Events at the balls -/

/-- A qualified homing edge (R494): the position is latched without a step of its tick (R498), the coordinate shifted so that it reads HOFS, and the axis
stops under the jerk limit. -/
def homingEdge (s : State) (n : Nat) : State :=
  let a := s.axis n
  match a.homing with
  | none => if a.edge then s.bump (R.AXn_STAT_CHATTER n) 1 else s
  | some h =>
    if axState s n ≠ 3 ∨ h.armed = false then s
    else
      let d := axGet s (R.AXn_HOFS_LO_W n) (R.AXn_HOFS_HI_W n) - axCommand s n s.time.count
      let was : Homed := { count := s.time.count, shift := d, search := h, advised := s.get (R.AXn_STAT_REHOME_ADVISED n) }
      let s := axSetEnc (axSetPos s n (axPos s n + d)) n (axEnc s n + d)
      let s := s.setAxis n { a with homing := none, edge := true, homed := some was, limp := a.limp && h.method != 6, limn := a.limn && h.method != 5 }
      ((s.put (R.AXn_STAT_STATE n) 2).put (R.AXn_STAT_HOMED n) 1).put (R.AXn_STAT_REHOME_ADVISED n) 0

/-- A limit switch trips (R492, R494, R495): in homing the aborting limit ends it, and the limit that methods 5 and 6 seek turns the search, and a homing edge latched on the
same tick is discarded (R498); else motion toward it makes a limit stop. -/
def limitSwitch (s : State) (n : Nat) (positive : Bool) : State :=
  let a := s.axis n
  let s := s.setAxis n (if positive then { a with limp := true } else { a with limn := true })
  match a.homing with
  | some h =>
    if homeAbort h = positive then homeFail s n 1
    else if h.armed = false then s.setAxis n { s.axis n with homing := some { h with armed := true } }
    else s
  | none =>
    let same := a.homed.filter fun w => w.count == s.time.count && homeAbort w.search == positive
    match same with
    | some w =>
      let s := axSetEnc (axSetPos s n (axPos s n - w.shift)) n (axEnc s n - w.shift)
      homeFail (s.put (R.AXn_STAT_REHOME_ADVISED n) w.advised) n 1
    | none =>
      if axState s n ≠ 0 ∧ (if positive then 0 < a.vel else a.vel < 0) then axLimit s n (R.AXn_STAT_HWLIM n) else s

/-- AXn_DRVOK falls (R495, R497): a quick stop of the command; a power-down that the encoder must confirm. -/
def driverFault (s : State) (n : Nat) : State :=
  let a := s.axis n
  let moving := axState s n ≠ 0
  let s := s.setAxis n { a with wasDown := true, downErr := false }
  let s := if a.homing.isSome then (homeFail s n 2).put (R.AXn_STAT_REHOME_ADVISED n) 1
    else if moving then (axQuick s n).put (R.AXn_STAT_FAULT n) 2
    else s
  if s.get (R.AXn_CFG_ENCMODE n) = 0 then axConfirm s n false else s

/-- A following error that has lasted 1 ms (R489). -/
def followingError (s : State) (n : Nat) : State :=
  let s := axError s n
  match (s.axis n).errSince with
  | none => s
  | some e => (axQuick (s.runElapsed (e + usec 1000)) n).put (R.AXn_STAT_FAULT n) 4

/-- The selected latch edge, on the tap of its tick (R496). -/
def latchEdge (s : State) (n tap : Nat) : State :=
  if s.get (R.AXn_STAT_LVALID n) = 1 then s
  else
    let t := s.finePostmarkTap tap
    let s := axPut s (R.AXn_LPOS_LO_W n) (R.AXn_LPOS_HI_W n) (axCommand s n s.time.count)
    let s := axPut s (R.AXn_LENC_LO_W n) (R.AXn_LENC_HI_W n) (axEnc s n)
    let s := (s.put (R.AXn_LPM_LO_W n) (t / 256 % 2 ^ 32)).put (R.AXn_LPM_HI_W n) (t % 256 * 2 ^ 24 + t / 2 ^ 40 % 2 ^ 24)
    s.mark (R.AXn_STAT_LVALID n) 1

/-- Gray code of w bits to binary. -/
def fromGray : Nat → Nat → Nat
  | 0, g => g
  | w + 1, g => Nat.xor g (fromGray w (g / 2))

/-- An SSI reading (R489, R497): EBITS + 1 bits, from Gray code where EGRAY = 1. The first one after a power-down or a restore confirms the position
or not. -/
def ssiRead (s : State) (n bits : Nat) : State :=
  if s.get (R.AXn_CFG_ENCMODE n) ≠ 2 then s
  else
    let w := s.get (R.AXn_CFG_EBITS n) + 1
    let v := bits % 2 ^ w
    let v : Int := if s.get (R.AXn_CFG_EGRAY n) = 1 then fromGray w v else v
    let kept := axEnc s n
    let s := if (s.axis n).wasDown then axConfirm s n (decide ((v - kept).natAbs ≤ s.get (R.AXn_LCFG_CONFTOL n))) else s
    axError (axSetEnc s n v) n

/-- The place of (A, B) in the quadrature cycle. -/
def quadrature (a b : Bool) : Int := if a then (if b then 2 else 1) else if b then 3 else 0

/-- A transition of A, B and Z after the filter (R489). -/
def encoderTransition (s : State) (n : Nat) (qa qb qz : Bool) : State :=
  let a := s.axis n
  let rise := qz && !a.encZ
  let both := qa != a.encA && qb != a.encB
  let d := (quadrature qa qb - quadrature a.encA a.encB) % 4
  let counts := s.get (R.AXn_CFG_ENCMODE n) = 1
  let s := s.setAxis n { a with encA := qa, encB := qb, encZ := qz, downErr := a.downErr || (decide counts && both && a.wasDown) }
  if counts then
    let s := if both then s.mark (R.AXn_STAT_ENCERR n) 1
      else if d = 0 then s
      else axSetEnc s n (axEnc s n + (if d = 1 then 1 else -1))
    axError (if rise then s.mark (R.AXn_STAT_ZSEEN n) 1 else s) n
  else s

/-- BOOT restores the positions, and the encoder must confirm them (R497); it never does with ENCMODE = 1. -/
def axRestore (s : State) (n : Nat) : State :=
  let (p, e) := sget (0, 0) s.axisNv n
  let s := axSetEnc (axSetPos (s.setAxis n { Axis.idle with wasDown := true }) n p) n e
  if s.get (R.AXn_CFG_ENCMODE n) = 2 then s else axConfirm s n false

/-! ### The commands -/

/-- AXIS_EVALUATION (R488). -/
def execAxisEvaluation (s : State) : Host.Outcome State Fault Refusal := runs s (axisEvaluation s)
/-- HOME (R494). -/
def execHome (r : Requester) (axis : Fin 4) (s : State) : Host.Outcome State Fault Refusal := runsBy r s (axOp s axis.val 1)
/-- STOP (R493). -/
def execStop (r : Requester) (axis : Fin 4) (s : State) : Host.Outcome State Fault Refusal := runsBy r s (axOp s axis.val 2)
/-- QSTOP (R493). -/
def execQstop (r : Requester) (axis : Fin 4) (s : State) : Host.Outcome State Fault Refusal := runsBy r s (axOp s axis.val 3)
/-- ENABLE (R487). -/
def execEnable (r : Requester) (axis : Fin 4) (s : State) : Host.Outcome State Fault Refusal := runsBy r s (axOp s axis.val 4)
/-- DISABLE (R487). -/
def execDisable (r : Requester) (axis : Fin 4) (s : State) : Host.Outcome State Fault Refusal := runsBy r s (axOp s axis.val 5)
/-- HOMING_EDGE (R494). -/
def execHomingEdge (axis : Fin 4) (_tap : Fin 64) (s : State) : Host.Outcome State Fault Refusal := runs s (homingEdge s axis.val)
/-- LIMIT_SWITCH (R492). -/
def execLimitSwitch (axis : Fin 4) (positive : Bool) (s : State) : Host.Outcome State Fault Refusal :=
  runs s (limitSwitch s axis.val positive)
/-- DRIVER_FAULT (R497). -/
def execDriverFault (axis : Fin 4) (s : State) : Host.Outcome State Fault Refusal := runs s (driverFault s axis.val)
/-- FOLLOWING_ERROR (R489). -/
def execFollowingError (axis : Fin 4) (s : State) : Host.Outcome State Fault Refusal := runs s (followingError s axis.val)
/-- LATCH_EDGE (R496). -/
def execLatchEdge (axis : Fin 4) (tap : Fin 64) (s : State) : Host.Outcome State Fault Refusal := runs s (latchEdge s axis.val tap.val)
/-- SSI_READ (R489). -/
def execSsiRead (axis : Fin 4) (bits : Word) (s : State) : Host.Outcome State Fault Refusal := runs s (ssiRead s axis.val bits.toNat)
/-- ENCODER_TRANSITION (R489). -/
def execEncoderTransition (axis : Fin 4) (a b z : Bool) (s : State) : Host.Outcome State Fault Refusal :=
  runs s (encoderTransition s axis.val a b z)

end Sys2Proof.Machine
end

