-- ==== Sys2Proof/Machine/CaptureCmds.lean ====
section
/-!
DEFINITION. Commands of capture and the flight record (spec/12_capture.md R320 to R338).
-/
namespace Sys2Proof.Machine

/-- A write of HOLD (R337): 1 freezes the record, 0 clears HOLD and empties it. A write that leaves HOLD as it is does neither. -/
def holdWrite (s : State) (hold : Bool) : State :=
  if hold then (if s.get R.CAP_FRCFG_HOLD = 1 then s else frHold s 0)
  else if s.get R.CAP_FRCFG_HOLD = 0 then s else frRelease s

/-- The window's POST rows have been written (R327). -/
def segmentDone (s : State) (w : Nat) : State := if s.winState w = 3 then closeIfDone s w else s

/-- WINDOW_ARM (R322). -/
def execWindowArm (r : Requester) (w : Fin 8) (s : State) : Host.Outcome State Fault Refusal := runsBy r s (windowArm s w.val)
/-- WINDOW_STOP (R330). -/
def execWindowStop (r : Requester) (w : Fin 8) (s : State) : Host.Outcome State Fault Refusal := runsBy r s (windowStop s w.val)
/-- WINDOW_FORCE (R323). -/
def execWindowForce (r : Requester) (w : Fin 8) (s : State) : Host.Outcome State Fault Refusal := runsBy r s (windowForce s w.val)
/-- SEGMENT_CLOSE (R327). -/
def execSegmentClose (w : Fin 8) (s : State) : Host.Outcome State Fault Refusal := runs s (segmentDone s w.val)
/-- FLIGHT_RECORD_HOLD (R337). -/
def execFlightRecordHold (r : Requester) (s : State) : Host.Outcome State Fault Refusal := runsBy r s (holdWrite s true)
/-- FLIGHT_RECORD_RELEASE (R337). -/
def execFlightRecordRelease (r : Requester) (s : State) : Host.Outcome State Fault Refusal := runsBy r s (holdWrite s false)
/-- AUTOHOLD_STOP (R337). -/
def execAutoholdStop (s : State) : Host.Outcome State Fault Refusal := runs s (autoholdStop s)

end Sys2Proof.Machine
end

