-- ==== Sys2Proof/Machine/FrameEvents.lean ====
section
/-!
DEFINITION. What happens in a frame as commands of its own: commands reaching their targets, the events of the forming blocks, fabric faults, the
wire window (spec/03_modes.md R69; spec/04_forming_voltage.md R85, R86, R107; spec/05_forming_events.md R119 to R134; spec/06_fabric.md R164,
R165, R180; spec/01_node.md R26). An event of the frame happens in the next frame evaluated, on the samples that are there, or not at all.
-/
namespace Sys2Proof.Machine

/-! ### Events of the next frame -/

/-- The next frame starts if the event happens in it: `happens` compares the states before and after. -/
def ifHappens (s : State) (happens : Image → State → Bool) : State :=
  match s.image with
  | none => s
  | some im =>
    let t := sampledFrame (nodeFrameStart s)
    if happens im t then t else s

/-- A state variable of a bridge's block of a kind. -/
def peerVar (s : State) (im : Image) (kind b i : Nat) : Nat := match im.peer kind b with
  | some q => nthF (blkState s q.slot).vars i
  | none => 0

/-- The bridge has a block of the kind. -/
def peerIs (im : Image) (kind b : Nat) : Bool := (im.peer kind b).isSome

/-- An output of a bridge's block reads at least 0.5. -/
def peerHigh (s : State) (im : Image) (kind b j : Nat) : Bool :=
  match (im.peer kind b).bind fun q => outWire im q j with
  | some w => fhigh (s.wireBits w)
  | none => false

/-- A block's variable passes from one value to another. -/
def peerPasses (s : State) (kind b i v w : Nat) (im : Image) (t : State) : Bool :=
  peerIs im kind b && peerVar s im kind b i == v && peerVar t im kind b i == w

/-- A block of the bridge raises a trip of a cause that it did not raise in the frame before. -/
def peerTrips (s : State) (kind b cause : Nat) (im : Image) (t : State) : Bool :=
  match im.peer kind b with
  | none => false
  | some q =>
    let raised (x : State) := x.fabric.raised.any fun r => r.typ == 0x11 && r.tag == cause && leNat (r.body.take 2) == q.slot
    raised t && !raised s

/-- The block in a slot. -/
def blockIn (im : Image) (slot : Nat) : Option Block := im.blocks.find? (·.slot == slot)

/-- RAMP_ORIGIN (R123): a bridge in CLOSING enters RAMP, or releases CLOSE after a failed close. -/
def rampOrigin (s : State) (b : Nat) : State := ifHappens s fun im t =>
  peerPasses s 0x1C b 0 1 2 im t ||
    peerPasses s 0x1C b 4 0 1 im t

/-- SLOT_TIME (R127): a bridge in WAIT acts on the bus state on a free start. -/
def slotTime (s : State) (b : Nat) : State := ifHappens s fun im t =>
  (peerPasses s 0x1C b 0 0 1 im t && peerVar t im 0x1C b 3 == 0) || peerPasses s 0x1C b 0 0 3 im t

/-- BUS_STATE_PERSIST (R128): BUS_DEAD or BUS_LIVE rises. -/
def busStatePersist (s : State) (b : Nat) : State := ifHappens s fun im t =>
  (peerHigh t im 0x18 b 2 && !peerHigh s im 0x18 b 2) || (peerHigh t im 0x18 b 3 && !peerHigh s im 0x18 b 3)

/-- SYNC_OK (R129): SYNC_OK rises. -/
def syncOk (s : State) (b : Nat) : State := ifHappens s fun im t => peerHigh t im 0x18 b 4 && !peerHigh s im 0x18 b 4

/-- SYNC_TIMEOUT (R129): a bridge in JOIN or SYNCING longer than T_SYNC trips. -/
def syncTimeout (s : State) (b : Nat) : State := ifHappens s (peerTrips s 0x18 b 0x21)

/-- RAMP_STALL (R119): limiting for T_STALL during an anchored ramp trips. -/
def rampStall (s : State) (b : Nat) : State := ifHappens s (peerTrips s 0x1C b 0x20)

/-- POLE_SLIP (R134): the fourth consecutive evaluation beyond SLIP_MAX. -/
def poleSlip (s : State) (b : Nat) : State := ifHappens s (peerPasses s 0x14 b 7 3 4)

/-- TVIMP_HOLD_END (R131): HOLD passes to BLEND. -/
def tvimpHoldEnd (s : State) (b : Nat) : State := ifHappens s (peerPasses s 0x14 b 2 1 2)

/-- TVIMP_BLEND_END (R131): the event ends and TV_ACT clears. -/
def tvimpBlendEnd (s : State) (b : Nat) : State := ifHappens s (peerPasses s 0x14 b 1 1 0)

/-- INPUT_HOLD_FAULT (R86): the block sets FAULT. -/
def inputHoldFault (s : State) (slot : Nat) : State := ifHappens s fun im t =>
  (blockIn im slot).isSome && !(blkState s slot).fault && (blkState t slot).fault

/-- BUDGET_EXHAUSTED (R107): the overload budget of a CURLIM reaches 0. -/
def budgetExhausted (s : State) (slot : Nat) : State := ifHappens s fun im t =>
  ((blockIn im slot).any (·.kind == 0x17)) && f32lt 0 (nthF (blkState s slot).vars 0) && f32zero? (nthF (blkState t slot).vars 0)

/-- ENERGIZE_TIMEOUT (R69): at the frame start ENERGIZE has lasted the image's timeout. -/
def energizeTimeout (s : State) : State := ifHappens s fun _ t =>
  s.mode == 3 && t.mode == 5 && t.get R.NODE_MODE_ENTRY == 6

/-! ### Fabric and memory faults -/

/-- FABRIC_OVERRUN (R164): the tile has not completed at F_k + T_frame. -/
def fabricOverrun (s : State) (tile : Nat) : State :=
  match s.image, s.fabric.frame with
  | some im, some k =>
    if s.get R.FAB_STATUS_RUN = 0 then s else fabricFault (s.runTo (frameStart im.frate (k + 1))) 1 tile
  | _, _ => s

/-- The FAULT code of a cause (Table FB-6). -/
def causeCode : FabricCause → Nat
  | .stateEcc => 2
  | .exchangeParity => 3
  | .config => 4

/-- UNCORRECTABLE_MEMORY_ERROR (R26): a hardware fault; a switching mode goes to RECOVERY with ENTRY = 5; a fault condition for a twin member
(R66, R357). -/
def memoryError (s : State) : State := twinFault (enterRecovery (hwFault s) 5)

/-- A write of FAB_SNAP: FREEZE holds the window at the last completed frame; without it the window follows from the next completed frame (R180). -/
def freezeWrite (s : State) (freeze : Bool) : State :=
  let s := s.put R.FAB_SNAP_FREEZE (if freeze then 1 else 0)
  if freeze then s.put R.FAB_SNAP_FROZEN 1 else s

/-! ### Commands to targets -/

/-- An authenticated command by its path (R48 to R51). -/
def commandEnter (s : State) (c : Command) : State :=
  modePending (acceptEnter s c.path.val c.source.toNat c.seq c.target.toNat c.value.toNat c.t.toNat c.item)

/-- A START of a class for a bridge, of postmark t, enters the acceptance queue as a command to the bridge's START target (R49, R58, R121); the
queue judges the class. An image without such a target has no START for the bridge. -/
def startCommand (s : State) (b t cls : Nat) : State :=
  match s.image.bind fun im => im.targets.find? fun r => r.kind == 1 && r.ref == b with
  | none => s
  | some r => acceptEnter s cls (cls * 4096) 0 r.id 0 t (commandEntry r.id (cls * 4096) 0 t)

/-! ### The commands of the table -/

/-- ENERGIZE_TIMEOUT (R69). -/
def execEnergizeTimeout (s : State) : Host.Outcome State Fault Refusal := runs s (energizeTimeout s)
/-- INPUT_HOLD_FAULT (R86). -/
def execInputHoldFault (slot : Fin 1024) (s : State) : Host.Outcome State Fault Refusal := runs s (inputHoldFault s slot.val)
/-- BUDGET_EXHAUSTED (R107). -/
def execBudgetExhausted (slot : Fin 1024) (s : State) : Host.Outcome State Fault Refusal := runs s (budgetExhausted s slot.val)
/-- RAMP_ORIGIN (R123). -/
def execRampOrigin (bridge : Fin 16) (s : State) : Host.Outcome State Fault Refusal := runs s (rampOrigin s bridge.val)
/-- SLOT_TIME (R127). -/
def execSlotTime (bridge : Fin 16) (s : State) : Host.Outcome State Fault Refusal := runs s (slotTime s bridge.val)
/-- BUS_STATE_PERSIST (R128). -/
def execBusStatePersist (bridge : Fin 16) (s : State) : Host.Outcome State Fault Refusal := runs s (busStatePersist s bridge.val)
/-- SYNC_OK (R129). -/
def execSyncOk (bridge : Fin 16) (s : State) : Host.Outcome State Fault Refusal := runs s (syncOk s bridge.val)
/-- SYNC_TIMEOUT (R129). -/
def execSyncTimeout (bridge : Fin 16) (s : State) : Host.Outcome State Fault Refusal := runs s (syncTimeout s bridge.val)
/-- RAMP_STALL (R119). -/
def execRampStall (bridge : Fin 16) (s : State) : Host.Outcome State Fault Refusal := runs s (rampStall s bridge.val)
/-- POLE_SLIP (R134). -/
def execPoleSlip (bridge : Fin 16) (s : State) : Host.Outcome State Fault Refusal := runs s (poleSlip s bridge.val)
/-- TVIMP_HOLD_END (R131). -/
def execTvimpHoldEnd (bridge : Fin 16) (s : State) : Host.Outcome State Fault Refusal := runs s (tvimpHoldEnd s bridge.val)
/-- TVIMP_BLEND_END (R131). -/
def execTvimpBlendEnd (bridge : Fin 16) (s : State) : Host.Outcome State Fault Refusal := runs s (tvimpBlendEnd s bridge.val)
/-- FABRIC_OVERRUN (R164). -/
def execFabricOverrun (tile : Fin 16) (s : State) : Host.Outcome State Fault Refusal := runs s (fabricOverrun s tile.val)
/-- FABRIC_FAULT (R165). -/
def execFabricFault (cause : FabricCause) (tile : Fin 16) (s : State) : Host.Outcome State Fault Refusal :=
  runs s (fabricFault s (causeCode cause) tile.val)
/-- FREEZE_WINDOW (R180). -/
def execFreezeWindow (r : Requester) (freeze : Bool) (s : State) : Host.Outcome State Fault Refusal := runsBy r s (freezeWrite s freeze)
/-- UNCORRECTABLE_MEMORY_ERROR (R26). -/
def execUncorrectableMemoryError (s : State) : Host.Outcome State Fault Refusal := runs s (memoryError s)
/-- ACCEPT_COMMAND (R50). -/
def execAcceptCommand (c : Command) (s : State) : Host.Outcome State Fault Refusal := runs s (commandEnter s c)
/-- WIRE_TARGET_COMMAND (R85): accepted for its frame, at whose start its clamped value is written. -/
def execWireTargetCommand (c : Command) (s : State) : Host.Outcome State Fault Refusal :=
  runs s (if (targetRec s c.target.toNat).any (·.kind == 0) then commandEnter s c else s)
/-- START (R121). -/
def execStart (bridge : Fin 16) (t : BitVec 64) (cls : Fin 4) (s : State) : Host.Outcome State Fault Refusal :=
  runs s (startCommand s bridge.val t.toNat cls.val)

end Sys2Proof.Machine
end

