-- ==== Sys2Proof/Machine/HealthCmds.lean ====
section
/-!
DEFINITION. Commands of health and wear (spec/18_health.md R468 to R483).
-/
namespace Sys2Proof.Machine

/-- DIE_TEMP_SAMPLE (R468). -/
def execDieTempSample (temps : List Int) (s : State) : Host.Outcome State Fault Refusal := runs s (dieTempSample s temps)
/-- RING_MEASURE (R470). -/
def execRingMeasure (counts : List Nat) (s : State) : Host.Outcome State Fault Refusal := runs s (ringMeasure s counts)
/-- HOURLY_UPDATE (R478). -/
def execHourlyUpdate (s : State) : Host.Outcome State Fault Refusal := runs s (hourlyUpdate s)
/-- COUNTER_FLUSH (R477). -/
def execCounterFlush (s : State) : Host.Outcome State Fault Refusal := runs s (counterFlush s)
/-- RETENTION_REWRITE (R473). -/
def execRetentionRewrite (part : Fin 6) (s : State) : Host.Outcome State Fault Refusal := runs s (retentionRewrite s part.val)
/-- DC_LINK_WINDOW (R480). -/
def execDcLinkWindow (link : Fin 4) (samples : List (Int × Int)) (s : State) : Host.Outcome State Fault Refusal :=
  runs s (dcLinkWindow s link.val samples)
/-- REPORT_NOW (R483). -/
def execReportNow (r : Requester) (s : State) : Host.Outcome State Fault Refusal := runsBy r s (reportNow s)
/-- REPORT_PERIOD (R483). -/
def execReportPeriod (s : State) : Host.Outcome State Fault Refusal := runs s (reportPeriod s)

end Sys2Proof.Machine
end

