-- ==== Sys2Proof/Machine/LegCmds.lean ====
section
/-!
DEFINITION. Commands of legs and trips: reload points, staged writes, load-alls, force, readback, trip inputs, comparators, clears
(spec/08_legs.md R206 to R226; spec/09_trips.md R234 to R249).
-/
namespace Sys2Proof.Machine

/-! ### Reload points (R206, R207, R217 to R222, R241) -/

/-- Let the clock run forward to a fine postmark. -/
def runToFine (s : State) (fine : Nat) : State := s.ticks (ticksFor s (fine * 2 ^ 32 - s.time.acc))

/-- What takes effect at a reload at `x` taps: force, drive, the DUTY transfer. -/
def reloadTakes (s : State) (n x : Nat) : State := dutyTransfer (driveTakes (forceTakes s n x) n x) n x

/-- A SERVICE cut at a count zero: it ends where no source of the leg's trip is asserted, and a force code in effect then takes the gates (Table TP-3);
otherwise it lasts another period, which counts as a new leg trip and posts no envelope (R241, R244, R252). Outside SERVICE it ends. -/
def cutZero (s : State) (n x : Nat) : State :=
  let l := s.leg n
  if l.cut = false then s
  else if legSource s n ∧ s.mode = 4 then
    let order := tapPoint l.anchor x
    escalate (legTripNote s n order) (legBridge s n) order
  else forceDrive (s.setLeg n { l with cut := false }) n x

/-- The channel reaches its next point: transfers where it is a reload point, PERIOD and PHASE at a zero, and the edges of the half-period that
begins. -/
def legPoint (s : State) (n : Nat) : State :=
  let peak := nextIsPeak s n
  let x := 64 * nextPoint s n
  let s := runToFine s (tapPoint (s.leg n).anchor x)
  let l := settle (s.leg n) x
  if peak then
    let s := s.setLeg n { l with down := true }
    placeHalf (if reloads s n true then reloadTakes s n x else s) n true
  else
    let s := s.setLeg n { l with zero := x / 64, down := legSaw s n }
    let s := if reloads s n false then reloadTakes s n x else s
    placeHalf (cutZero (periodTransfer s n x) n x) n false

/-- RELOAD: the leg's channel runs to its next reload point (R207). A channel that does not run has none. -/
def reload (s : State) (n : Nat) : State :=
  if (s.leg n).runs = false ∨ s.get (R.LEGn_PERIOD_ACT_PERIOD n) = 0 then s
  else
    let here := reloads s n (nextIsPeak s n)
    let s := legPoint s n
    if here then s else legPoint s n

/-! ### Host writes (R208, R215, R216, R219) -/

/-- A host write to a staged register: HOSTW where the bridge's source is the fabric. An unassigned leg belongs to no bridge; its staged
values change and load nowhere (R18). -/
def stagedWrite (s : State) (n : Nat) (which : Staged) (v : Nat) : State :=
  if s.get (R.LEGn_CFG_ASSIGNED n) = 1 ∧ s.get (R.BRIDGE_CTRL_SRC (legBridge s n)) = 0 then
    s.mark (R.BRIDGE_STATUS_HOSTW (legBridge s n)) 1
  else match which with
    | .duty => stageDuty s n v
    | .phase => stagePhase s n v
    | .period => stagePeriod s n v

/-- A write of BRIDGE_CTRL.SRC (R216): SRC = 1 takes effect only in COMMISSION. -/
def setSource (s : State) (b : Nat) (host : Bool) : State :=
  if host then (if s.mode = 2 then s.put (R.BRIDGE_CTRL_SRC b) 1 else s) else s.put (R.BRIDGE_CTRL_SRC b) 0

/-! ### Readback (R223) -/

/-- A readback error on a gate of leg n (true: GH): RBERR; with DRIVE = 0 or 1 the mismatch stands until the gate is commanded to the ball's level, and
is a leg trip in a mode in which legs switch; with DRIVE = 2 it goes to the twin logic. -/
def readbackError (s : State) (n : Nat) (gh : Bool) : State :=
  let s := s.mark (R.LEGn_STATUS_RBERR n) 1
  let l := settle (s.leg n) (legNow s n)
  let s := if s.get (R.LEGn_STATUS_DRIVE n) = 2 then s else s.setLeg n { l with rb := some (gh, if gh then !l.gh else !l.gl) }
  if s.get (R.LEGn_STATUS_DRIVE n) = 2 then
    readbackDisagree s
  else if switchingMode s.mode then legTrip s n 4 s.finePostmark
  else s

/-! ### Trip inputs (R234 to R237) -/

/-- The order postmark of an edge of the ball: the filter length removed (R235). -/
def edgeOrder (s : State) : Nat := s.finePostmark - tapPoint 0 (64 * s.get R.NODE_TRIPCFG_FILT)

/-- A blanked input that is still high acts at the end of its window, as soon as that is past (R237). -/
def blankedActs (s : State) (n : Nat) : State :=
  let l := s.leg n
  if l.blanked = false ∨ tripInput s n = false then s
  else match blankStop s n s.finePostmark with
    | some e =>
      if s.finePostmark < e then s else legTrip (s.setLeg n { l with blanked := false }) n 5 e
    | none => legTrip (s.setLeg n { l with blanked := false }) n 5 s.finePostmark

/-- The end of leg n's blanking window: an input still high acts on that tick. -/
def blankWindowEnd (s : State) (n : Nat) : State :=
  if (s.leg n).blanked = false ∨ tripInput s n = false then s
  else match blankEnd s n s.finePostmark with
    | some e => blankedActs (runToFine s e) n
    | none => blankedActs s n

/-- The filtered trip input of leg n takes a level (R234, R236, R237); its rise is a capture trigger (Table CP-3). That of an unassigned leg is ignored
(R18); its level counts once the leg is assigned. -/
def legTripInput (s : State) (n : Nat) (high : Bool) : State :=
  let s := s.setLeg n { s.leg n with input := high }
  if s.get (R.LEGn_CFG_ASSIGNED n) = 0 ∨ tripInput s n = high then s
  else if high then
    let s := capEdge (setTripInput s n true) 1 n (edgeOrder s)
    if (blankEnd s n s.finePostmark).isSome then s.setLeg n { s.leg n with blanked := true }
    else legTrip s n 5 (edgeOrder s)
  else
    let s := blankedActs s n
    let s := if (s.leg n).blanked then (s.setLeg n { s.leg n with blanked := false }).bump R.NODE_TRIPSTAT_BLANKED 1 else s
    setTripInput s n false

/-! ### Comparators and clears -/

/-- The state code of a comparator. -/
def cmpCode : CmpState → Nat
  | .inside => 0
  | .above => 1
  | .below => 2

/-- A clear of a bridge enters acceptance as a write of its bit of NODE_BTRIP_CLR does, and takes effect at its frame (R248). -/
def bridgeTripClear (s : State) (b : Nat) : State := hostCommand s 0 (clearTarget b) 0 []

/-! ### The commands -/

/-- RELOAD (R218). -/
def execReload (leg : Fin 96) (s : State) : Host.Outcome State Fault Refusal := runs s (reload s leg.val)
/-- STAGED_WRITE (R216). -/
def execStagedWrite (r : Requester) (leg : Fin 96) (which : Staged) (v : Word) (s : State) : Host.Outcome State Fault Refusal :=
  runsBy r s (stagedWrite s leg.val which v.toNat)
/-- BRIDGE_LOAD (R232). -/
def execBridgeLoad (r : Requester) (bridge : Fin 16) (s : State) : Host.Outcome State Fault Refusal := runsBy r s (bridgeLoad s bridge.val)
/-- GLOBAL_LOAD (R232). -/
def execGlobalLoad (r : Requester) (s : State) : Host.Outcome State Fault Refusal := runsBy r s (globalLoad s)
/-- FORCE (R221). -/
def execForce (r : Requester) (leg : Fin 96) (code : BitVec 3) (s : State) : Host.Outcome State Fault Refusal :=
  runsBy r s (forceWrite s leg.val code.toNat)
/-- SET_SOURCE (R216). -/
def execSetSource (r : Requester) (bridge : Fin 16) (host : Bool) (s : State) : Host.Outcome State Fault Refusal :=
  runsBy r s (setSource s bridge.val host)
/-- READBACK_ERROR (R223). -/
def execReadbackError (leg : Fin 96) (high : Bool) (s : State) : Host.Outcome State Fault Refusal := runs s (readbackError s leg.val high)
/-- LEG_TRIP_INPUT (R234). -/
def execLegTripInput (leg : Fin 96) (high : Bool) (s : State) : Host.Outcome State Fault Refusal := runs s (legTripInput s leg.val high)
/-- BLANK_WINDOW_END (R237). -/
def execBlankWindowEnd (leg : Fin 96) (s : State) : Host.Outcome State Fault Refusal := runs s (blankWindowEnd s leg.val)
/-- WINDOW_COMPARATOR (R239): the change has persisted CFILT D3 cycles; its order postmark is the crossing (R235). -/
def execWindowComparator (cmp : Fin 16) (st : CmpState) (s : State) : Host.Outcome State Fault Refusal :=
  runs s (comparatorSet s cmp.val (cmpCode st) (s.finePostmark - tapPoint 0 (256 * s.get (R.NODE_WCMPc_CFG_CFILT cmp.val))))
/-- LEG_LATCH_CLEAR (R247). -/
def execLegLatchClear (r : Requester) (m : Fin 3) (v : Word) (s : State) : Host.Outcome State Fault Refusal :=
  runsBy r s (legLatchClear s m.val v.toNat)
/-- BRIDGE_TRIP_CLEAR (R248). -/
def execBridgeTripClear (bridge : Fin 16) (s : State) : Host.Outcome State Fault Refusal := runs s (bridgeTripClear s bridge.val)

end Sys2Proof.Machine
end

