-- ==== Sys2Proof/Machine/Clock.lean ====
section
/-!
DEFINITION. The clock root: references, lock windows, relock; the release of a reset, BOOT and its end; the watchdog; resets and wake as
commands (spec/17_clocks_resets.md R449 to R467; spec/03_modes.md R69, R75; spec/15_security.md R408, R409).
-/
namespace Sys2Proof.Machine

/-! ### References and lock (R450 to R455) -/

/-- REFCLKn is enabled. -/
def refEnabled (s : State) (n : Nat) : Bool := s.get (if n = 0 then R.CK_REF_REF0_EN else R.CK_REF_REF1_EN) == 1

/-- REFCLKn is OK (R450). -/
def refOk (s : State) (n : Nat) : Bool := s.get (if n = 0 then R.CK_STATUS_REF0_OK else R.CK_STATUS_REF1_OK) == 1

/-- Set REFn_OK. -/
def setRefOk (s : State) (n : Nat) (b : Bool) : State :=
  s.put (if n = 0 then R.CK_STATUS_REF0_OK else R.CK_STATUS_REF1_OK) (if b then 1 else 0)

/-- REFCLKn shows edges, or none for more than 100 ns. -/
def setRefEdge (s : State) (n : Nat) (b : Bool) : State :=
  { s with root := { s.root with ref0Edge := if n = 0 then b else s.root.ref0Edge, ref1Edge := if n = 0 then s.root.ref1Edge else b } }

/-- The active reference. -/
def refActive (s : State) : Nat := s.get R.CK_STATUS_ACT

/-- The reference to make active: SEL, or the other one where SEL's is disabled; none with both disabled (R455). -/
def refWanted (s : State) : Option Nat :=
  let n := s.get R.CK_REF_SEL
  if refEnabled s n then some n else if refEnabled s (1 - n) then some (1 - n) else none

/-- The delay line starts on the active reference; lock windows run from 40 µs (R452, Table CK-2). -/
def lineStarts (s : State) : State :=
  { s with root := { s.root with lineStart := s.time.elapsed, winStart := s.time.elapsed + usec 40 } }

/-- Links whose lanes run from the root lose block lock (R449, R454). -/
def linksRelock (s : State) : State :=
  let s := (List.range 2).foldl (fun s n =>
    if s.get (R.LK_SPn_STAT_UP n) = 1 then (s.put (R.LK_SPn_STAT_UP n) 0).irq 11 else s) s
  (((twinBlock s 0).put R.LK_STATUS_PCIE_UP 0).put R.LK_STATUS_GEN 0).put R.LK_STATUS_WIDTH 0

/-- Steps 0 to 2 of Table CK-2 at a loss: `act` is the reference to make active where the loss is a change of reference. A FULL or CAL test is
aborted (R79), the timebase goes to HOLDOVER-POOR (R38), the mode to RECOVERY where legs switch (R69). -/
def relock (s : State) (loss : Nat) (act : Option Nat) : State :=
  let s := ((s.put R.CK_STATUS_LOCK 0).put R.CK_STATUS_SHADOW 1).put R.CK_STATUS_LOSS loss
  let s := { s with
    time := { s.time with shadowSince := some (s.time.shadowSince.getD s.time.elapsed) }
    root := { s.root with relock := true, xtalWhole := false } }
  let s := linksRelock (enterRecovery (forcePoor (if s.hidden.testHolds then testAbort s else s)) 3)
  let other := 1 - refActive s
  let s := match act with
    | some n => s.put R.CK_STATUS_ACT n
    | none => if s.get R.CK_REF_AUTO = 1 ∧ refEnabled s other ∧ refOk s other then s.put R.CK_STATUS_ACT other else s
  lineStarts s

/-- The root is locked. -/
def locked (s : State) : Bool := s.get R.CK_STATUS_LOCK == 1

/-- REFERENCE_EDGE_GAP: more than 100 ns without an edge of the active reference. -/
def edgeGap (s : State) : State :=
  let s := setRefOk (setRefEdge s (refActive s) false) (refActive s) false
  if locked s then relock s 1 none else s

/-- TUNING_RANGE_END. -/
def tuningEnd (s : State) : State := if locked s then relock s 3 none else s

/-- A window in tolerance: 393,216 ± 19 (R451). -/
def windowGood (count : Nat) : Bool := decide (393197 ≤ count) && decide (count ≤ 393235)

/-- Lock is declared (step 4 of Table CK-2): the domains return to the root, the RECOVERY cause clears (R454), paths mark their outputs (R269). -/
def lockDeclare (s : State) : State :=
  let spent := match s.time.shadowSince with
    | some e => s.time.elapsed - e
    | none => 0
  let s := (s.put R.CK_STATUS_LOCK 1).put R.CK_STATUS_SHADOW 0
  let s := if s.root.relock then s.bump R.CK_STATUS_RELOCKS 1 else s
  unsettleAll { s with
    time := { s.time with shadowSince := none, shadowTotal := s.time.shadowTotal + spent }
    root := { s.root with relock := false }
    hidden := { s.hidden with clockCause := false } }

/-- LOCK_WINDOW_END: 4,096 cycles of the active reference (163.84 µs) with `count` root cycles (R450 to R452). Without an enabled reference no
window runs. -/
def lockWindow (s : State) (count : Nat) : State :=
  let n := refActive s
  if refEnabled s n = false then s
  else
    let e := s.root.winStart + 16384 * 2 ^ 72 / 100000000
    let s := setRefEdge (s.runElapsed e) n true
    let s := { s.put R.CK_LOCKWIN_COUNT count with root := { s.root with winStart := max e s.time.elapsed } }
    let near : Bool := decide (393138 ≤ count) && decide (count ≤ 393294)
    let s := setRefOk s n (near || !locked s)
    let s := setRefOk s (1 - n) (if n = 0 then s.root.ref1Edge else s.root.ref0Edge)
    if locked s then (if windowGood count then s else relock s 2 none)
    else if windowGood count then lockDeclare s else s

/-- A write of CK_REF (R455): AUTO always, SEL and the enables only in BOOT and STANDBY; a change of the active reference is a relock. -/
def refWrite (s : State) (v : Nat) : State :=
  let s := s.put R.CK_REF_AUTO (bitsOf v 31 31)
  if s.mode = 0 ∨ s.mode = 1 then
    let s := ((s.put R.CK_REF_SEL (bitsOf v 30 30)).put R.CK_REF_REF1_EN (bitsOf v 29 29)).put R.CK_REF_REF0_EN (bitsOf v 28 28)
    match refWanted s with
    | some n => if n = refActive s then s else relock s 4 (some n)
    | none => if locked s then relock s 4 (some (refActive s)) else s
  else s

/-! ### BOOT (R75, R408, R409) -/

/-- MR0 is extended at reset release (Table SE-4). -/
def bootMeasure (s : State) : State :=
  if sget 0 s.security.mr 0 = 0 then mrExtend s 0 (sha512 Config.bootRom) else s

/-- A firmware slot is started: MR1, RUN, the watchdog (R408, R460). -/
def fwStart (s : State) (n : Nat) (fallen : Bool) : State :=
  let m := fwWords s n
  let signed := rd32 m 16
  let s := mrExtend s 1 (sha512 (slotBytes m 0 signed))
  let s := (s.put R.SEC_FW_STATUS_RUN n).put R.SEC_FW_STATUS_BOOTFALL (if fallen then 1 else 0)
  { s with
    security := { s.security with fwRuns := true, runAuth := fieldOf (slotBytes m signed 576) 5 1, runVer := rd32 m 20 }
    root := { s.root with wdogRuns := true, wdogAt := s.time.elapsed } }

/-- The boot ROM tries the marked slot, then the other; with both refused the node stays in BOOT (R75, R408). -/
def bootFirmware (s : State) : State :=
  let a := s.get R.SEC_FW_STATUS_MARK
  match fwCheck s (fwWords s a) with
  | none => fwStart s a false
  | some c =>
    let s := s.put R.SEC_FW_STATUS_CODE c
    match fwCheck s (fwWords s (1 - a)) with
    | none => fwStart s (1 - a) true
    | some d => { s.put R.SEC_FW_STATUS_CODE d with hidden := { s.hidden with bootRefused := true } }

/-- What the boot ROM does after a release, once. -/
def bootRun (s : State) : State :=
  if s.security.fwRuns ∨ s.hidden.bootRefused then s else bootFirmware (bootMeasure s)

/-- The hold of RESET_N ends (R458): CK_HOLD, RESET_HELD_LONG, the journal entry to come. -/
def holdEnd (s : State) : State :=
  if s.root.resetN then s
  else
    let ms := s.since s.root.pinLow * 1000 / 2 ^ 72
    let s := s.put R.CK_HOLD_MS (min 0xFFFFFFFF ms)
    let s := if 10000 < ms then s.mark R.CK_RSTCAUSE_RESET_HELD_LONG 1 else s
    { s with root := { s.root with resetN := true, holdNote := true } }

/-- RESET_RELEASE (R457): no earlier than 10 µs after assertion, or 2 ms where supplies had failed; the counter is loaded where the kind asks for it
(R39), the root starts, BOOT begins. -/
def resetRelease (s : State) (fselHigh : Bool) : State :=
  match s.root.resetKind with
  | none => s
  | some kind =>
    let s := holdEnd s
    let s := s.runElapsed (s.root.lineStart + usec (if kind = 2 ∨ kind = 3 ∨ kind = 4 then 10 else 2000))
    let s := if kind = 3 ∨ kind = 4 then s else coarseLoad s (s.time.elapsed - s.root.coarseAt)
    let s := runResume { s with root := { s.root with resetKind := none, xtalWhole := false } }
    let s := s.put R.CK_STATUS_ACT ((refWanted s).getD (s.get R.CK_REF_SEL))
    let s := lineStarts (s.put R.SAF_STATUS_FSEL (if fselHigh then 1 else 0))
    let s := s.put R.SAF_LRST_PRESSED (if s.safety.press.isSome then 1 else 0)
    bootRun ((List.range 4).foldl axRestore s)

/-- The role at the end of BOOT: SINGLE with TWIN = 0, SEEKING with TWIN = 1 (Table TW-3), and the drive mode of every leg (Table LG-7). -/
def bootRole (s : State) : State :=
  let role := s.get R.NODE_IDENT_TWIN
  (List.range 96).foldl (fun s n => s.put (R.LEGn_STATUS_DRIVE n) (roleDrive role)) (setRole s role)

/-- The end of BOOT (Table MD-5): MR2, MR5 and MR6 are extended, a hold of RESET_N is journalled, the sorting office runs; LOCKOUT with the latch set,
LRST closed or a failed self-check of a safety input, else STANDBY and the marked image. -/
def bootComplete (s : State) (ok : Bool) : State :=
  if s.mode ≠ 0 then s
  else
    let s := bootRun s
    if s.security.fwRuns = false then s
    else
      let s := bootRole (officeStart (measureIdent (measureEnrolment s)))
      let s := if s.root.holdNote then
          { journalAdd s 1 (s.get R.CK_HOLD_MS + s.get R.CK_RSTCAUSE_RESET_HELD_LONG * 2 ^ 32) with root := { s.root with holdNote := false } }
        else s
      if s.safety.press.isSome then lockoutEnter (latchCause s 0x08 0) 0x08 0 s.postmark
      else if ok = false then lockoutEnter (latchCause s 0x09 0) 0x09 0 s.postmark
      else if s.get R.NODE_MODE_LATCH = 1 then lockoutEnter s (s.get R.SAF_LOCK_FIRST) (s.get R.SAF_LOCK_INDEX) s.postmark
      else activateMarked (setMode s 1 1)

/-! ### The watchdog (R460) -/

/-- The watchdog's timeout in elapsed time. -/
def wdogTime (s : State) : Nat := usec (1000 * s.get R.CK_WDOG_CFG_TIMEOUT)

/-- CK_WDOG_STAT: milliseconds to expiry. -/
def wdogRemain (s : State) : Nat :=
  let t := s.get R.CK_WDOG_CFG_TIMEOUT
  if s.root.wdogRuns then t - s.since s.root.wdogAt * 1000 / 2 ^ 72 else t

/-- The count restarts. -/
def wdogRestart (s : State) : State := { s with root := { s.root with wdogAt := s.time.elapsed } }

/-- A write of CK_WDOG_KICK: 0x5A of a service core; anything else is an address error. -/
def wdogKick (s : State) (r code : Nat) : State :=
  if code = 0x5A ∧ 2 ≤ r then wdogRestart s else addrError s r (if r < 2 then 5 else 6) 0x2001C

/-- A write of CK_WDOG_CFG: in STANDBY, clamped to 10 to 60,000 ms, and the count restarts. -/
def wdogConfig (s : State) (v : Nat) : State :=
  if s.mode = 1 then wdogRestart (s.put R.CK_WDOG_CFG_TIMEOUT (max 10 (min 60000 (v % 65536)))) else s

/-- The watchdog expires. -/
def wdogExpire (s : State) : State :=
  if s.root.wdogRuns then resetAssert (s.runElapsed (s.root.wdogAt + wdogTime s)) 3 0 false else s

/-! ### Reset and wake as they come from outside -/

/-- PIN: RESET_N has been low for 100 ns. In HIBERNATE and while a wake waits only the hold is counted (R466). -/
def pinLow (s : State) : State :=
  let s := if s.root.resetN then { s with root := { s.root with resetN := false, pinLow := s.time.elapsed } } else s
  resetAssert s 2 0 false

/-- A write of CK_RSTREQ: 0xC1 resets. -/
def hostReset (s : State) (key : Nat) : State := if key = 0xC1 then resetAssert s 4 0 false else s

/-- WAKE (R389, R464): the source must be watched or enabled; an input whose record has LATCH = 1 and that demands sets the lockout latch. -/
def wake (s : State) (c : WakeCause) : State :=
  if s.root.hibernate = false then s
  else match c with
    | .input i demands =>
      let h := safetySect s
      if inWake h i.val then
        let s := if demands && inLatch h i.val then latchCause s 0x0E i.val else s
        wakeUp s 1 i.val
      else s
    | .lrst => wakeUp s 2 0
    | .wakeN => if s.get R.CK_WAKE_WAKEN_EN = 1 then wakeUp s 3 0 else s
    | .alarm => alarmWake s

/-! ### The commands -/

/-- CRYSTAL_EDGE (R39, R454, R464). -/
def execCrystalEdge (s : State) : Host.Outcome State Fault Refusal := answers s (alarmWake (crystalEdge s))
/-- REFERENCE_EDGE_GAP (R452). -/
def execReferenceEdgeGap (s : State) : Host.Outcome State Fault Refusal := runs s (edgeGap s)
/-- LOCK_WINDOW_END (R451). -/
def execLockWindowEnd (count : BitVec 19) (s : State) : Host.Outcome State Fault Refusal := runs s (lockWindow s count.toNat)
/-- TUNING_RANGE_END (R452). -/
def execTuningRangeEnd (s : State) : Host.Outcome State Fault Refusal := runs s (tuningEnd s)
/-- REFERENCE_SELECT (R455). -/
def execReferenceSelect (r : Requester) (v : Word) (s : State) : Host.Outcome State Fault Refusal := runsBy r s (refWrite s v.toNat)
/-- COLD (R456). -/
def execCold (aonLost : Bool) (s : State) : Host.Outcome State Fault Refusal := answers s (resetAssert s 0 0 aonLost)
/-- BROWNOUT (R456). -/
def execBrownout (supplies : BitVec 5) (s : State) : Host.Outcome State Fault Refusal := answers s (resetAssert s 1 supplies.toNat false)
/-- PIN (R458). -/
def execPin (s : State) : Host.Outcome State Fault Refusal := answers s (pinLow s)
/-- WATCHDOG_EXPIRY (R460). -/
def execWatchdogExpiry (s : State) : Host.Outcome State Fault Refusal := runs s (wdogExpire s)
/-- HOST_RESET (R456). -/
def execHostReset (r : Requester) (key : BitVec 8) (s : State) : Host.Outcome State Fault Refusal := runsBy r s (hostReset s key.toNat)
/-- RESET_RELEASE (R457). -/
def execResetRelease (fselHigh : Bool) (s : State) : Host.Outcome State Fault Refusal := answers s (resetRelease s fselHigh)
/-- WATCHDOG_KICK (R460). -/
def execWatchdogKick (r : Requester) (code : BitVec 8) (s : State) : Host.Outcome State Fault Refusal := runsBy r s (wdogKick s r.num code.toNat)
/-- WAKE (R464). -/
def execWake (cause : WakeCause) (s : State) : Host.Outcome State Fault Refusal := answers s (wake s cause)
/-- BOOT_COMPLETE (R75). -/
def execBootComplete (selfCheckOk : Bool) (s : State) : Host.Outcome State Fault Refusal := runs s (bootComplete s selfCheckOk)

end Sys2Proof.Machine
end

