-- ==== Sys2Proof/Machine/Links.lean ====
section
/-!
DEFINITION. The links' own commands: site ports, PTP messages, the PCI Express endpoint, the CAN controllers (spec/16_links.md R426 to R446).
-/
namespace Sys2Proof.Machine

/-! ### Site ports (R426, R433) -/

/-- A site port comes up in the form of its RATE; its PTP clock listens. A disabled port stays down, and so does every port while the root is not
locked (R449). -/
def portUp (s : State) (n : Nat) : State :=
  if s.get (R.LK_SPn_CFG_EN n) = 0 ∨ locked s = false ∨ s.get (R.LK_SPn_STAT_UP n) = 1 then s
  else
    let s := (s.put (R.LK_SPn_STAT_UP n) 1).put (R.LK_SPn_STAT_RATE n) (s.get (R.LK_SPn_CFG_RATE n))
    (s.put (R.LK_SPn_STAT_PSTATE n) (if s.get (R.LK_SPn_CFG_PTPROLE n) = 0 then 0 else 4)).irq 11

/-- A site port goes down. The PTP state of a port that is down is not given: a free value while PTP is on. -/
def portDown (s : State) (n : Nat) : State :=
  if s.get (R.LK_SPn_STAT_UP n) = 0 then s
  else
    let s := (s.put (R.LK_SPn_STAT_UP n) 0).irq 11
    if s.get (R.LK_SPn_CFG_PTPROLE n) = 0 then s.put (R.LK_SPn_STAT_PSTATE n) 0
    else s.freshNat.2.put (R.LK_SPn_STAT_PSTATE n) s.freshNat.1

/-! ### PTP (R435, R436) -/

/-- The node's own data set as the best master clock algorithm compares it. -/
def ptpOwn (s : State) : Nat :=
  s.get R.LK_PTP_CFG_PRIO1 * 65536 + s.get R.LK_PTP_CFG_CLASS * 256 + s.get R.LK_PTP_CFG_PRIO2

/-- LK_SPn_ASYM in units of 2⁻³² s: positive when the path toward the master is the longer one. -/
def ptpAsym (s : State) (n : Nat) : Int := signed 16 (s.get (R.LK_SPn_ASYM_ASYM n)) * 2 ^ 32 / 10000000000

/-- The postmark of a PTP time: seconds less the epoch, and the nanoseconds in units of 2⁻³² s, rounded to nearest (R40). -/
def ptpPostmark (s : State) (sec ns : Nat) : Int :=
  ((sec : Int) - (s.get R.POST_EPOCH_LO_SEC + s.get R.POST_EPOCH_HI_SEC * 2 ^ 32 : Nat)) * 2 ^ 32 + ((ns * 2 ^ 32 + 500000000) / 1000000000 : Nat)

/-- The offset counter − source that a Sync gives at its arrival (R40, R436). -/
def ptpOffset (s : State) (m : PtpMessage) : Int := (s.postmark : Int) - ptpPostmark s m.sec.toNat m.ns + ptpAsym s m.port.val

/-- A PTP message on a port that is up with PTP on. Messages of an unsupported mapping or another domain are ignored. An Announce (0xB) goes to the best
master clock algorithm, a Sync (0x0) is a measurement of a port in SLAVE state (9), a Delay_Req (0x1) of E2E and a Pdelay_Req (0x2) of P2P are
answered, the former by a port in MASTER state (6). -/
def ptpMessage (s : State) (m : PtpMessage) : State :=
  let n := m.port.val
  let state := s.get (R.LK_SPn_STAT_PSTATE n)
  let role := s.get (R.LK_SPn_CFG_PTPROLE n)
  if s.get (R.LK_SPn_STAT_UP n) = 0 ∨ role = 0 ∨ m.supported = false ∨ m.domain ≠ s.get R.LK_PTP_CFG_DOMAIN then s
  else if m.mtype = 0xB then
    let s := { s with links := { s.links with ptp := sset 0 s.links.ptp n m.dataset } }
    s.put (R.LK_SPn_STAT_PSTATE n) (Config.bestMaster n role (s.get R.LK_PTP_CFG_SLAVEONLY == 1) (ptpOwn s) m.dataset)
  else if m.mtype = 0 ∧ state = 9 then measurement s (n + 1) (ptpOffset s m)
  else if m.mtype = 1 ∧ state = 6 ∧ s.get (R.LK_SPn_CFG_DELAYM n) = 0 then s.send (.ptp n 9)
  else if m.mtype = 2 ∧ s.get (R.LK_SPn_CFG_DELAYM n) = 1 then s.send (.ptp n 3)
  else s

/-! ### PCI Express (R441) -/

/-- Function Level Reset: the requester's shadows return to reset. -/
def flr (s : State) : State := { s with shadows := sset Shadow.none s.shadows 0 Shadow.none }

/-- The link trains to a rate and width, or goes down. -/
def pcieLink (s : State) (up : Bool) (rate width : Nat) : State :=
  if up = false then ((s.put R.LK_STATUS_PCIE_UP 0).put R.LK_STATUS_GEN 0).put R.LK_STATUS_WIDTH 0
  else if locked s = false ∨ rate = 0 ∨ width = 0 ∨ width = 3 then s
  else ((s.put R.LK_STATUS_PCIE_UP 1).put R.LK_STATUS_GEN rate).put R.LK_STATUS_WIDTH width

/-- An interrupt of the host is asserted: HSPI_IRQ_N is low (R443), and so is INTA asserted with MSI-X disabled (R442), while any enabled bit of LK_HIRQ is
set. -/
def hostIrq (s : State) : Bool := s.get R.LK_HIRQ_CAUSE &&& s.get R.LK_HIRQ_EN_EN != 0

/-! ### CAN (R444 to R446) -/

/-- Controller c is on and not in bus-off. -/
def canOn (s : State) (c : Nat) : Bool := s.get (R.LK_CANc_CFG_EN c) == 1 && s.get (R.LK_CANc_STAT_BUSOFF c) == 0

/-- LK_STATUS.CAN_ON. -/
def canOnBits (s : State) : Nat := (List.range 4).foldl (fun v c => setBit v c (canOn s c)) 0

/-- Filter f of controller c takes a frame (R445). -/
def canTakes (s : State) (c : Nat) (m : CanFrame) (f : Nat) : Bool :=
  s.get (R.LK_CANc_FLTf_ID_EN c f) == 1 && s.get (R.LK_CANc_FLTf_ID_IDE c f) == m.ide.toNat
    && (s.get (R.LK_CANc_FLTf_ID_ID c f) ^^^ m.id.toNat) &&& s.get (R.LK_CANc_FLTf_MASK_MASK c f) == 0

/-- The body of a CAN_RX envelope (R445). -/
def canBody (m : CanFrame) (pm : Nat) : Bytes :=
  leBytes 1 m.ctl.val ++ leBytes 1 (m.ide.toNat + 2 * m.fdf.toNat + 4 * m.brs.toNat) ++ leBytes 1 m.data.length ++ [0]
    ++ leBytes 4 m.id.toNat ++ leBytes 8 pm ++ m.data

/-- A received frame acts by its lowest matching filter (R445). Without the root the controllers run at half bit rate and every frame is errored
(R454); an FD frame is none with FD = 0. -/
def canReceive (s : State) (m : CanFrame) : State :=
  let c := m.ctl.val
  if canOn s c = false ∨ locked s = false ∨ (m.fdf ∧ s.get (R.LK_CANc_CFG_FD c) = 0) then s
  else match (List.range 64).find? (canTakes s c m) with
    | none => s
    | some f =>
      match s.get (R.LK_CANc_FLTf_RT_ACT c f) with
      | 1 =>
        let flow := if s.get (R.LK_CANc_FLTf_RT_NOFLOW c f) = 1 then 0xFFFF else s.get (R.LK_CANc_FLTf_RT_FLOW c f)
        postHw s 0x1C (s.get (R.LK_CANc_FLTf_RT_PH c f)) flow s.postmark 4 0 (canBody m s.postmark)
      | 2 => frameReceive s c (m.id.toNat + m.ide.toNat * 2 ^ 31) m.data
      | _ => s

/-- Buffers requested of controller c. -/
def canPending (s : State) (c : Nat) : Nat := sget 0 s.links.canPend c

/-- Set the buffers requested. -/
def setCanPending (s : State) (c v : Nat) : State := { s with links := { s.links with canPend := sset 0 s.links.canPend c v } }

/-- A write of LK_CANc_TXREQ. -/
def canRequest (s : State) (c bits : Nat) : State := setCanPending s c (canPending s c ||| bits % 65536)

/-- Word w of transmit buffer b. -/
def canWord (s : State) (c b w : Nat) : Nat := s.get (R.LK_CANc_TXBUFb_W c (18 * b + w))

/-- The data of transmit buffer b: LEN bytes of words 2 to 17, at most 64. -/
def canData (s : State) (c b : Nat) : Bytes :=
  ((List.range 16).flatMap fun i => leBytes 4 (canWord s c b (2 + i))).take (canWord s c b 1 % 128)

/-- A requested buffer has been sent (R446): by a controller that is on, may send and whose root is locked. -/
def canSent (s : State) (c b : Nat) : State :=
  if (canPending s c).testBit b ∧ canOn s c ∧ s.get (R.LK_CANc_CFG_LISTEN c) = 0 ∧ locked s then
    let s := (setCanPending s c (setBit (canPending s c) b false)).send (.can c (canWord s c b 0) (canData s c b))
    s.mark (R.LK_CANc_TXDONE_DONE c) (2 ^ b)
  else s

/-- A controller enters bus-off; its transmit error count then is not given: a free value. -/
def canOff (s : State) (c : Nat) : State :=
  if canOn s c then (s.freshNat.2.put (R.LK_CANc_STAT_TEC c) s.freshNat.1 |>.put (R.LK_CANc_STAT_BUSOFF c) 1).irq 12 else s

/-- A controller leaves bus-off with its error counts at 0, as ISO 11898-1 has it. -/
def canBack (s : State) (c : Nat) : State :=
  (((s.put (R.LK_CANc_STAT_BUSOFF c) 0).put (R.LK_CANc_STAT_PASSIVE c) 0).put (R.LK_CANc_STAT_TEC c) 0).put (R.LK_CANc_STAT_REC c) 0

/-- CAN_BUS_OFF_RECOVERY: only with AUTOREC = 1. -/
def canRecover (s : State) (c : Nat) : State :=
  if s.get (R.LK_CANc_CFG_EN c) = 1 ∧ s.get (R.LK_CANc_STAT_BUSOFF c) = 1 ∧ s.get (R.LK_CANc_CFG_AUTOREC c) = 1 then canBack s c else s

/-! ### The commands -/

/-- SITE_PORT_UP (R433). -/
def execSitePortUp (port : Fin 2) (s : State) : Host.Outcome State Fault Refusal := runsLink s (portUp s port.val)
/-- SITE_PORT_DOWN (R433). -/
def execSitePortDown (port : Fin 2) (s : State) : Host.Outcome State Fault Refusal := runsLink s (portDown s port.val)
/-- PTP_MESSAGE (R435). -/
def execPtpMessage (m : PtpMessage) (s : State) : Host.Outcome State Fault Refusal := runsLink s (ptpMessage s m)
/-- FUNCTION_LEVEL_RESET (R441). -/
def execFunctionLevelReset (s : State) : Host.Outcome State Fault Refusal := runs s (flr s)
/-- PCIE_LINK_CHANGE (R441). -/
def execPcieLinkChange (up : Bool) (rate width : BitVec 2) (s : State) : Host.Outcome State Fault Refusal :=
  runs s (pcieLink s up rate.toNat width.toNat)
/-- CAN_FRAME_RECEIVED (R445). -/
def execCanFrameReceived (f : CanFrame) (s : State) : Host.Outcome State Fault Refusal := runsLink s (canReceive s f)
/-- CAN_TX_REQUEST (R446). -/
def execCanTxRequest (r : Requester) (ctl : Fin 4) (bits : BitVec 16) (s : State) : Host.Outcome State Fault Refusal :=
  runsBy r s (canRequest s ctl.val bits.toNat)
/-- CAN_TX_DONE (R446). -/
def execCanTxDone (ctl : Fin 4) (buf : Fin 16) (s : State) : Host.Outcome State Fault Refusal := runsLink s (canSent s ctl.val buf.val)
/-- CAN_BUS_OFF (R444). -/
def execCanBusOff (ctl : Fin 4) (s : State) : Host.Outcome State Fault Refusal := runsLink s (canOff s ctl.val)
/-- CAN_BUS_OFF_RECOVERY (R444). -/
def execCanBusOffRecovery (ctl : Fin 4) (s : State) : Host.Outcome State Fault Refusal := runsLink s (canRecover s ctl.val)

end Sys2Proof.Machine
end

