-- ==== Sys2Proof/Machine/OfficeCmds.lean ====
section
/-!
DEFINITION. Commands of the sorting office: posts, tray insertions, completion, cancels, dispatch, the ledger (spec/11_sorting_office.md R297
to R313).
-/
namespace Sys2Proof.Machine

/-- One dispatch, at most one in a D1 cycle, while the office runs (R300). -/
def dispatchCycle (s : State) : State := if s.get R.SO_STATUS_RUN = 0 then s else dispatchOne s

/-- The ledger buffer has drained after an overflow: one LOSS record (R311). -/
def ledgerLoss (s : State) : State :=
  if s.office.bufLost = 0 then s
  else ledDrain (ledFlush { s with office := { s.office with bufTick := s.time.count + 1 } }) s.time.count s.postmark

/-- POST_ENVELOPE (R297). -/
def execPostEnvelope (r : Requester) (s : State) : Host.Outcome State Fault Refusal := runsBy r s (softPost s r.num)
/-- TRAY_INSERT (R304). -/
def execTrayInsert (r : Requester) (tray : Fin 4) (s : State) : Host.Outcome State Fault Refusal := runsBy r s (trayInsert s r.num tray.val)
/-- COMPLETE_ENVELOPE (R301). -/
def execCompleteEnvelope (r : Requester) (s : State) : Host.Outcome State Fault Refusal := runsBy r s (completeEnvelope s r.num)
/-- CANCEL_ENVELOPE (R302). -/
def execCancelEnvelope (r : Requester) (id : BitVec 16) (s : State) : Host.Outcome State Fault Refusal :=
  runsBy r s (cancelEnvelope s r.num id.toNat)
/-- CANCEL_TRAY_ENTRY (R302). -/
def execCancelTrayEntry (r : Requester) (id : BitVec 16) (s : State) : Host.Outcome State Fault Refusal :=
  runsBy r s (cancelTrayEntry s r.num id.toNat)
/-- DISPATCH (R300). -/
def execDispatch (s : State) : Host.Outcome State Fault Refusal := runs s (dispatchCycle s)
/-- LEDGER_LOSS (R311). -/
def execLedgerLoss (s : State) : Host.Outcome State Fault Refusal := runs s (ledgerLoss s)

end Sys2Proof.Machine
end

