-- ==== Sys2Proof/Machine/SenseCmds.lean ====
section
/-!
DEFINITION. Commands of sensing: triggers, overloads, lost bitstreams, calibration, snapshots, resamplers, bank and source requests
(spec/10_sensing.md R264 to R289).
-/
namespace Sys2Proof.Machine

/-- A write of SN_SNAP_REQ: a bridge, or 31 for all; 16 to 30 have no effect (R279). -/
def snapshotRequest (s : State) (b : Nat) : State :=
  if 16 ≤ b ∧ b < 31 then s else snapRequest s 2 b s.postmark

/-- A write of DEC_PATHp_REQ with BANKREQ = 1: a HOST command to the path (R270, R289). -/
def bankRequest (s : State) (r p b : Nat) : State := hostCommand s r (bankTarget p) b []

/-- A write of DEC_PATHp_REQ with SRCREQ = 1 (R271, R289). -/
def sourceRequest (s : State) (r p src : Nat) : State := hostCommand s r (sourceTarget p) src []

/-- A write of DEC_PATHp_REQ makes one command for each request bit (R289). -/
def pathRequest (s : State) (r p v : Nat) : State :=
  let s := if v.testBit 31 then sourceRequest s r p (bitsOf v 30 24) else s
  if v.testBit 2 then bankRequest s r p (v % 4) else s

/-- SENSE_TRIGGER (R264); a frame that waits for the output is then evaluated (R266). -/
def execSenseTrigger (path : Fin 120) (mods : List Int) (paired : Nat) (s : State) : Host.Outcome State Fault Refusal :=
  runs s (frameSampled (senseTrigger s path.val mods paired))
/-- SLICE_OVERLOAD (R273). -/
def execSliceOverload (slice : Fin 25) (positive : Bool) (s : State) : Host.Outcome State Fault Refusal :=
  runs s (sliceOverload s slice.val positive)
/-- BITSTREAM_LOST (R274). -/
def execBitstreamLost (chan : Fin 96) (s : State) : Host.Outcome State Fault Refusal := runs s (bitstreamLost s chan.val)
/-- LOST_END (R274). -/
def execLostEnd (chan : Fin 96) (s : State) : Host.Outcome State Fault Refusal := runs s (lostEnd s chan.val)
/-- CAL_STEP (R276). -/
def execCalStep (s : State) : Host.Outcome State Fault Refusal := runs s (calStep s)
/-- CAL_STEP_FAIL (R277). -/
def execCalStepFail (afterSubst : Bool) (s : State) : Host.Outcome State Fault Refusal := runs s (calFail s afterSubst)
/-- SNAPSHOT_REQUEST (R279). -/
def execSnapshotRequest (r : Requester) (bridge : BitVec 5) (s : State) : Host.Outcome State Fault Refusal :=
  runsBy r s (snapshotRequest s bridge.toNat)
/-- SNAPSHOT_POST (R280). -/
def execSnapshotPost (s : State) : Host.Outcome State Fault Refusal := runs s (snapPost s)
/-- RESAMPLER_OUTPUT (R281). -/
def execResamplerOutput (ch : Fin 32) (s : State) : Host.Outcome State Fault Refusal := runs s (resamplerOutput s ch.val)
/-- BANK_REQUEST (R270). -/
def execBankRequest (r : Requester) (path : Fin 120) (bank : BitVec 2) (s : State) : Host.Outcome State Fault Refusal :=
  runsBy r s (bankRequest s r.num path.val bank.toNat)
/-- SOURCE_CHANGE (R271). -/
def execSourceChange (r : Requester) (path : Fin 120) (src : BitVec 8) (s : State) : Host.Outcome State Fault Refusal :=
  runsBy r s (sourceRequest s r.num path.val (src.toNat % 128))

end Sys2Proof.Machine
end

