-- ==== Sys2Proof/Machine/Sessions.lean ====
section
/-!
DEFINITION. Franking statements, site sessions, broadcasts and site messages (spec/15_security.md R414 to R421, spec/16_links.md
R429 to R433).
-/
namespace Sys2Proof.Machine

/-! ### Statements (R414, R415, Table SE-5) -/

/-- SEC_FRANK_STATUS.QUEUE of every bank shows the requests waiting. -/
def queueShow (s : State) : State :=
  (List.range 10).foldl (fun s r => s.put (R.SEC_FRANK_STATUS_QUEUE r) s.security.queue.length) s

/-- A statement request joins the queue. -/
def frankQueue (s : State) (w : FrankWho) (nonce : Bytes) : State :=
  queueShow { s with security := { s.security with queue := s.security.queue ++ [(w, nonce)] } }

/-- A request of bank r with the nonce it holds (R415). -/
def frankRequest (s : State) (r : Nat) : State :=
  let refuse (c : Nat) : State := securityEnvelope (s.put (R.SEC_FRANK_STATUS_CODE r) c) 1 c 0xFFFF 0 0
  if s.get R.SEC_STATUS_RNGFAIL = 1 then refuse 0x92
  else if 8 ≤ s.security.queue.length ∨ s.get (R.SEC_FRANK_STATUS_BUSY r) = 1 then refuse 0x8A
  else
    let nonce := (List.range 8).flatMap fun n => leBytes 4 (s.get (R.SEC_FRANK_NONCEn_N n r))
    let s := ((s.put (R.SEC_FRANK_STATUS_BUSY r) 1).put (R.SEC_FRANK_STATUS_DONE r) 0).put (R.SEC_FRANK_STATUS_CODE r) 0
    frankQueue s (.host r) nonce

/-- NODE_PAIR as a word. -/
def pairWord (s : State) : Nat :=
  s.get R.NODE_PAIR_PAIR_VALID * 2 ^ 31 + s.get R.NODE_PAIR_PARTNER * 4096 + s.get R.NODE_PAIR_PAIR_ID

/-- Bytes 0 to 1,471 of a statement captured now (Table SE-5). -/
def statementBody (s : State) (nonce : Bytes) : Bytes :=
  let flags := s.get R.NODE_IDENT_PROV + 2 * s.get R.NODE_IDENT_TWIN + 4 * s.get R.NODE_PAIR_PAIR_VALID + 8 * s.get R.POST_STATUS_COARSE
    + 16 * s.get R.SEC_STATUS_LOGFULL
  let (id, ver) := match s.image with
    | some im => (im.imageId, im.version)
    | none => (0, 0)
  leBytes 4 0x4B524642 ++ leBytes 2 1 ++ leBytes 2 2048 ++ leBytes 2 0x960 ++ leBytes 2 0x0A1 ++ leBytes 1 Config.gradeFuse ++ leBytes 1 flags
    ++ leBytes 1 (s.get R.POST_STATUS_STATE) ++ [0] ++ leBytes 4 (identWord s) ++ leBytes 4 (pairWord s) ++ leBytes 4 (siteId s)
    ++ leBytes 4 (errbNow s) ++ leBytes 8 s.postmark ++ sliceOf (nonce ++ List.replicate 32 0) 0 32 ++ leBytes 4 s.security.runVer
    ++ leBytes 1 (s.get R.SEC_FW_STATUS_RUN) ++ List.replicate 3 0 ++ leBytes 4 id ++ leBytes 4 ver ++ List.replicate 40 0
    ++ (List.range 8).flatMap (mrBytes s) ++ (List.range 64).flatMap (fun i => leBytes 4 (s.get (R.SEC_RBi_COUNT i)))
    ++ (match s.security.dxk with
      | some (n, _) => beBytes 512 n
      | none => List.replicate 512 0)
    ++ keyId Config.dikModulus ++ leBytes 32 s.security.mr5Last

/-- STATEMENT_CAPTURE: the request at the head of the queue is captured (R414). -/
def statementCapture (s : State) : State :=
  match s.security.signing, s.security.queue with
  | none, (w, nonce) :: rest =>
    queueShow { s with security := { s.security with queue := rest, signing := some (w, statementBody s nonce) } }
  | _, _ => s

/-- An entry of the measurement log (R410). -/
def logEntry (e : Nat × Nat × Nat) : Bytes := leBytes 1 e.1 ++ List.replicate 7 0 ++ leBytes 8 e.2.1 ++ leBytes 64 e.2.2

/-- STATEMENT_READY: the statement is signed and given to its bank or sent as FRANK_REP, while PROV = 1 (R24, R414, R415,
Table LK-2). -/
def statementReady (s : State) : State :=
  match s.security.signing with
  | none => s
  | some (w, body) =>
    let (sig, s) := dikSign s body
    let s := { s with security := { s.security with signing := none } }
    match w with
    | .host r =>
      let s := { s with security := { s.security with banks := sset [] s.security.banks r (body ++ sig) } }
      ((s.put (R.SEC_FRANK_STATUS_BUSY r) 0).put (R.SEC_FRANK_STATUS_DONE r) 1).irq 9
    | .peer n =>
      if s.get R.NODE_IDENT_PROV = 0 then securityEnvelope s 1 0x88 n 0 0
      else siteFrameOut s 3 n (body ++ sig ++ leBytes 2 Config.deviceCert.length ++ leBytes 1 s.security.log.length ++ [0] ++ Config.deviceCert
        ++ s.security.log.flatMap logEntry)

/-! ### Attempts (R417, Table SE-6) -/

/-- The node's own ID. -/
def ownNode (s : State) : Nat := s.get R.NODE_IDENT_NODE

/-- The attempt with a peer. -/
def attemptOf (s : State) (peer : Nat) : Option Attempt := s.security.attempts.find? (·.peer == peer)

/-- Set or drop the attempt with a peer. -/
def setAttempt (s : State) (peer : Nat) (a : Option Attempt) : State :=
  { s with security := { s.security with attempts := (s.security.attempts.filter fun x => x.peer != peer) ++ a.toList } }

/-- A refusal that concerns a peer (R423). -/
def peerRefuse (s : State) (code peer : Nat) : State := securityEnvelope s 1 code peer 0 0

/-- The open session with a peer that new frames use. -/
def sessionWith (s : State) (peer : Nat) : Option Session := (siteSessions s).find? (·.peer == peer)

/-- Why a session attempt is refused now: 0x88, 0x89, 0x92, 0x8F. -/
def attemptRefusal (s : State) (peer : Nat) : Option Nat :=
  if s.get R.NODE_IDENT_PROV = 0 then some 0x88
  else if s.get R.SEC_STATUS_DXK = 0 then some 0x89
  else if s.get R.SEC_STATUS_RNGFAIL = 1 then some 0x92
  else if 256 ≤ (siteSessions s).length ∧ (sessionWith s peer).isNone then some 0x8F
  else none

/-- Step 1: FRANK_REQ with a fresh nonce. -/
def attemptStart (s : State) (peer : Nat) (peerNonce : Bytes) : State :=
  match attemptRefusal s peer with
  | some c => peerRefuse s c peer
  | none =>
    let (nonce, s) := s.freshBytes 32
    let s := setAttempt s peer (some { peer := peer, nonce := nonce, sentAt := s.time.elapsed, peerNonce := peerNonce, dik := 0, dxk := 0,
                                       checkedAt := none, id := 0, secret := [] })
    siteFrameOut s 2 peer nonce

/-- The label of step 4: NONCE_L ‖ NONCE_H ‖ node IDs of L and H. -/
def keyLabel (s : State) (a : Attempt) : Bytes :=
  if ownNode s < a.peer then a.nonce ++ a.peerNonce ++ leBytes 2 (ownNode s) ++ leBytes 2 a.peer
  else a.peerNonce ++ a.nonce ++ leBytes 2 a.peer ++ leBytes 2 (ownNode s)

/-- Steps 3 to 5 at L, once the peer is checked and its nonce known. -/
def keySend (s : State) (a : Attempt) : State :=
  if a.dik = 0 ∨ a.peerNonce = [] ∨ a.secret ≠ [] ∨ a.peer ≤ ownNode s then s
  else if s.get R.NODE_IDENT_PROV = 0 then peerRefuse (setAttempt s a.peer none) 0x88 a.peer
  else if a.dxk = 0 then peerRefuse (setAttempt s a.peer none) 0x89 a.peer
  else
    let (secret, s) := s.freshBytes 72
    let (seed, s) := s.freshBytes 64
    let (i, s) := s.freshNat
    let id := i % (2 ^ 32 - 1) + 1
    let label := keyLabel s a
    let cipher := oaepEncrypt a.dxk secret label seed
    let (sig, s) := dikSign s (leBytes 4 id ++ cipher ++ label)
    let s := setAttempt s a.peer (some { a with id := id, secret := secret, checkedAt := some s.time.elapsed })
    siteFrameOut s 4 a.peer (leBytes 4 id ++ cipher ++ sig)

/-- A message of KIND 2 to 4, whole or a fragment of it (R430): its content acts once every fragment has arrived. Up to 16 messages are reassembled
at a time, another is dropped; one not complete within FRANK_WIN of its first fragment is forgotten. A FRAGNO or NFRAG outside Table LK-2 is nothing
(DESIGN CHOICE, log entry 99). -/
def siteMessageIn (s : State) (n kind src : Nat) (h : SiteHead) (act : State → State) : State :=
  siteTake s n kind h fun s =>
    let k := h.nfrag.toNat
    let i := h.frag.toNat
    if k = 0 ∨ 16 < k ∨ k ≤ i then s
    else if k = 1 then act s
    else
      let live := s.links.parts.filter fun p => decide (s.since p.at_ ≤ frankWin s)
      let same (p : Reassembly) : Bool := p.src == src && p.msgId == h.msgId.toNat
      let rest := live.filter fun p => !same p
      let old := live.find? same
      let got := setBit ((old.map (·.got)).getD 0) i true
      let keep (l : List Reassembly) : State := { s with links := { s.links with parts := l } }
      if got = 2 ^ k - 1 then act (keep rest)
      else if old.isNone ∧ 16 ≤ live.length then (keep live).bump (R.LK_SPn_CNT_RXDROP n) 1
      else keep (rest ++ [{ src := src, msgId := h.msgId.toNat, at_ := (old.map (·.at_)).getD s.time.elapsed, got := got }])

/-- FRANK_REQ of a peer: a statement for it, and the node's own part of the attempt (R415, R417). -/
def frankReq (s : State) (f : FrankReq) : State :=
  let peer := f.peer.toNat
  if s.get R.NODE_IDENT_PROV = 0 then peerRefuse s 0x88 peer
  else if s.get R.SEC_STATUS_RNGFAIL = 1 then peerRefuse s 0x92 peer
  else if 8 ≤ s.security.queue.length ∨ s.security.queue.any (fun q => q.1 == .peer peer) then peerRefuse s 0x8A peer
  else
    let s := frankQueue s (.peer peer) f.nonce
    match attemptOf s peer with
    | none => attemptStart s peer f.nonce
    | some a =>
      let a := { a with peerNonce := f.nonce }
      keySend (setAttempt s peer (some a)) a

/-- The policy of check 4 of R416 on a statement under the key `n`. -/
def peerPolicy (s : State) (st : Bytes) (n : Nat) : Bool :=
  let node := fieldOf st 16 4 % 4096
  let nfw := fieldOf s.security.enr 26 1
  (fieldOf st 13 1).testBit 0 && fieldOf st 24 4 == siteId s && sliceOf st 1440 32 == leBytes 32 s.security.mr5Last
    && node != ownNode s && (siteSessions s).all (fun x => x.peer != node || x.dik == n)
    && (nfw == 0 || (List.range nfw).any fun i =>
      sliceOf st 192 64 == sha512 (List.replicate 64 0 ++ sliceOf s.security.enr (3136 + 64 * i) 64))

/-- Check 2 of R416. -/
def peerStatement (st nonce : Bytes) (n : Nat) : Bool :=
  st.length == 2048 && fieldOf st 0 4 == 0x4B524642 && fieldOf st 4 2 == 1 && fieldOf st 6 2 == 2048
    && sigOk (sliceOf st 1472 576) 4 0 n (st.take 1472) && sliceOf st 1408 32 == keyId n && sliceOf st 40 32 == nonce

/-- FRANK_REP of a peer, checked under R416 in order. -/
def frankRep (s : State) (f : FrankRep) : State :=
  let peer := f.peer.toNat
  match attemptOf s peer with
  | none => s
  | some a =>
    let fail (c : Nat) : State := peerRefuse (setAttempt s peer none) c peer
    if a.dik ≠ 0 then s
    else match Config.certKey f.cert with
      | none => fail 0x8B
      | some n =>
        if peerStatement f.statement a.nonce n = false then fail 0x8C
        else if frankWin s < s.since a.sentAt then fail 0x8E
        else if peerPolicy s f.statement n = false then fail 0x8D
        else
          let a := { a with dik := n, dxk := beNat (sliceOf f.statement 896 512), checkedAt := some s.time.elapsed }
          keySend (setAttempt s peer (some a)) a

/-! ### Sessions (R417 to R419, R421) -/

/-- The smallest session index that is free. -/
def freeIndex (s : State) : Nat := ((List.range 257).find? fun i => s.security.sessions.all (·.index != i)).getD 256

/-- A session opens: an earlier one with the peer receives for 10 s more (R419). -/
def sessionOpen (s : State) (x : Session) : State :=
  let old := s.security.sessions.map fun y =>
    if y.peer = x.peer ∧ !y.twin ∧ y.oldUntil.isNone then { y with oldUntil := some (s.time.elapsed + usec 10000000) } else y
  let s := { s with security := { s.security with sessions := old ++ [x] } }
  securityEnvelope (sessShow s) 2 0 x.peer x.id 0

/-- The session of an attempt from its secret: K_LH, K_HL, SALT_LH, SALT_HL (Table SE-6). -/
def sessionOf (s : State) (a : Attempt) (id : Nat) (secret : Bytes) (low : Bool) : Session :=
  let klh := sliceOf secret 0 32
  let khl := sliceOf secret 32 32
  let slh := sliceOf secret 64 4
  let shl := sliceOf secret 68 4
  { index := freeIndex s, id := id, peer := a.peer, dik := a.dik, twin := false
    txKey := if low then klh else khl, txSalt := if low then slh else shl, rxKey := if low then khl else klh
    rxSalt := if low then shl else slh, txSeq := 1, rxHigh := 0, rxMap := 0, opened := s.time.elapsed, oldUntil := none }

/-- The tag that a received frame must carry (R418). -/
def rxTag (x : Session) (seq flags : Nat) (cipher : Bytes) : Bytes :=
  gcmTag x.rxKey (x.rxSalt ++ beBytes 8 seq) (sessionHeader x.id seq cipher.length flags) cipher

/-- KEY_TRANSPORT at H: verified, decrypted, the session opens and KEY_CONFIRM goes out as SEQ 1 (step 6). -/
def keyTransport (s : State) (m : KeyMsg) : State :=
  let peer := m.peer.toNat
  match attemptOf s peer with
  | none => s
  | some a =>
    let fail (c : Nat) : State := peerRefuse (setAttempt s peer none) c peer
    if ownNode s ≤ peer ∨ a.dik = 0 then s
    else
      let id := m.session.toNat
      let label := keyLabel s a
      let late : Bool := match a.checkedAt with
        | some e => decide (frankWin s < s.since e)
        | none => false
      let plain := match s.security.dxk with
        | some (n, d) => oaepDecrypt n d m.cipher label
        | none => none
      if late ∨ id = 0 ∨ sigOk m.check 4 0 a.dik (leBytes 4 id ++ m.cipher ++ label) = false then fail 0x90
      else match plain with
        | none => fail 0x90
        | some secret =>
          if secret.length ≠ 72 then fail 0x90
          else match attemptRefusal s peer with
            | some c => fail c
            | none =>
              let s := sessionOpen (setAttempt s peer none) (sessionOf s a id secret false)
              match sessionTo s peer with
              | some x => sessionOut s x 1 []
              | none => s

/-- KEY_CONFIRM at L: the session opens when its tag verifies (step 7). -/
def keyConfirm (s : State) (m : KeyMsg) : State :=
  let peer := m.peer.toNat
  match attemptOf s peer with
  | none => s
  | some a =>
    if a.secret = [] ∨ m.session.toNat ≠ a.id then s
    else if s.get R.NODE_IDENT_PROV = 0 then peerRefuse (setAttempt s peer none) 0x88 peer
    else
      let x := sessionOf s a a.id a.secret true
      if m.check = rxTag x 1 1 [] then sessionOpen (setAttempt s peer none) { x with rxHigh := 2, rxMap := 0 }
      else s.bump R.SEC_CNT_TAGFAIL 1

/-- KEY_TRANSPORT_TIMEOUT: the attempt fails with 0x90 at FRANK_WIN after step 2 or step 5; one whose FRANK_REP has not come fails
with 0x8E at FRANK_WIN after its request (R416, R417). -/
def keyTimeout (s : State) (peer : Nat) : State :=
  match attemptOf s peer with
  | none => s
  | some a =>
    let (e, c) := match a.checkedAt with
      | some e => (e, 0x90)
      | none => (a.sentAt, 0x8E)
    let s := s.runElapsed (e + frankWin s)
    peerRefuse (setAttempt s peer none) c peer

/-- REASSEMBLY_TIMEOUT: at FRANK_WIN after its first fragment the oldest message of a peer is discarded; a check that waits for it fails with 0x8E
(R430, Table LK-9). -/
def reassemblyTimeout (s : State) (peer : Nat) : State :=
  match s.links.parts.find? (·.src == peer) with
  | none => s
  | some p =>
    let s := s.runElapsed (p.at_ + frankWin s)
    let s := { s with links := { s.links with parts := s.links.parts.erase p } }
    match attemptOf s peer with
    | none => s
    | some a => if a.dik = 0 then peerRefuse (setAttempt s peer none) 0x8E peer else s

/-- SESSION_REKEY: a new run of Table SE-6 when either SEQ reaches 2³² or the age reaches LIFE hours (R419). -/
def sessionRekey (s : State) (peer : Nat) : State :=
  match sessionWith s peer with
  | none => s
  | some x =>
    if (attemptOf s peer).isSome then s
    else if 2 ^ 32 ≤ x.txSeq ∨ 2 ^ 32 < x.rxHigh then attemptStart s peer []
    else attemptStart (s.runElapsed (x.opened + usec (s.get R.SEC_SESSCFG_LIFE * 3600000000))) peer []

/-- OLD_SESSION_EXPIRY: the old session stops receiving and closes. -/
def oldExpiry (s : State) (peer : Nat) : State :=
  match s.security.sessions.find? (fun x => x.peer == peer && x.oldUntil.isSome) with
  | none => s
  | some x =>
    let s := s.runElapsed (x.oldUntil.getD 0)
    sessionsClose s fun y => y == x

/-! ### Session frames (R419, R431, R433) -/

/-- A number against the highest accepted so far and a 1,024-bit map below it (R363, R419): none where it is refused, else what both become. `top` is
one past the highest, 0 before the first; bit i of the map marks the number i + 1 below the highest. -/
def seqMap (top map n : Nat) : Option (Nat × Nat) :=
  if top ≤ n then some (n + 1, (if top = 0 then 0 else map * 2 + 1) * 2 ^ (min 1025 (n - top)) % 2 ^ 1024)
  else if n + 1 = top ∨ 1024 < top - 1 - n ∨ map.testBit (top - n - 2) then none
  else some (top, setBit map (top - n - 2) true)

/-- The same frame was accepted on the other port within 1 s (R433). -/
def seenOther (s : State) (port id seq : Nat) : Bool :=
  s.get R.LK_CFG_REDUN == 1 && s.links.seen.any fun e => e.1 == id && e.2.1 == seq && e.2.2.1 != port && decide (s.since e.2.2.2 ≤ 2 ^ 72)

/-- A decrypted site message survives the check of R363 and waits for its step; a copy is counted in DUP (R431). -/
def messageIn (s : State) (port : Nat) (plain : Bytes) : State :=
  let pair := fieldOf plain 2 2
  let seq := fieldOf plain 4 6
  let len := fieldOf plain 10 2
  let (high, map) := sget (0, 0) s.links.pairs pair
  if plain.length < 16 then s
  else match seqMap high map seq with
    | none => s.bump (R.LK_SPn_CNT_DUP port) 1
    | some hm =>
      let m : SiteMessage := { mtype := fieldOf plain 0 1, pair := BitVec.ofNat 16 pair, seq := BitVec.ofNat 48 seq, body := sliceOf plain 16 len
                               ta := s.postmark }
      { s with links := { s.links with pairs := sset (0, 0) s.links.pairs pair hm, inbox := s.links.inbox ++ [m] } }

/-- A session frame (R418, R419). -/
def sessionFrame (s : State) (f : SessionFrame) : State :=
  let port := f.port.val
  let id := f.session.toNat
  let seq := f.seq.toNat
  let flags := f.flags.toNat
  let twin := port = 2
  match s.security.sessions.find? (fun x => x.id == id && x.twin == decide twin) with
  | none => s
  | some x =>
    let isOver : Bool := match x.oldUntil with
      | some e => decide (e < s.time.elapsed)
      | none => false
    if isOver then s
    else if ¬ twin ∧ seenOther s port id seq then s.bump (R.LK_SPn_CNT_DUP port) 1
    else if f.tag ≠ rxTag x seq flags f.payload then
      (if twin then s.bump R.LK_TWIN_CNT_TAGFAIL 1 else s.bump R.SEC_CNT_TAGFAIL 1)
    else match seqMap x.rxHigh x.rxMap seq with
      | none => s.bump R.SEC_CNT_REPLAY 1
      | some (high, map) =>
        let s := { s with security := { s.security with
          sessions := s.security.sessions.map fun y => if y = x then { y with rxHigh := high, rxMap := map } else y } }
        if twin then s
        else
          let s := { s with links := { s.links with
            seen := (s.links.seen.filter fun e => decide (s.since e.2.2.2 ≤ 2 ^ 72)) ++ [(id, seq, port, s.time.elapsed)] } }
          messageIn s port (gcmCrypt x.rxKey (x.rxSalt ++ beBytes 8 seq) f.payload)

/-! ### Site messages (R432) -/

/-- A message that waits is taken; one that does not, is nothing. -/
def takeMessage (s : State) (m : SiteMessage) (mtype : Nat) (act : State → State) : State :=
  if m ∈ s.links.inbox ∧ m.mtype = mtype then act { s with links := { s.links with inbox := s.links.inbox.erase m } } else s

/-- SITE_COMMAND: class SITE and the sender's own pair, then acceptance. -/
def siteCommand (s : State) (m : SiteMessage) : State :=
  takeMessage s m 1 fun s =>
    let source := fieldOf m.body 2 2
    let target := fieldOf m.body 0 2
    let t := fieldOf m.body 8 8
    if source / 4096 ≠ 3 ∨ source % 4096 ≠ m.pair.toNat then deadLetter s 1 5 source target t 0 m.body
    else acceptEnter s 3 source m.seq.toNat target (fieldOf m.body 4 4) t m.body

/-- SITE_DEAD_LETTER: the report reaches the node; no further effect is stated. -/
def siteDeadLetter (s : State) (m : SiteMessage) : State := takeMessage s m 2 id

/-- SITE_DATA: a SITE_RX envelope (R432). -/
def siteData (s : State) (m : SiteMessage) : State :=
  takeMessage s m 3 fun s =>
    let head := leBytes 1 3 ++ [0] ++ leBytes 2 m.pair.toNat ++ leBytes 6 m.seq.toNat ++ leBytes 2 m.body.length ++ List.replicate 4 0
    let flow := if s.get R.LK_CFG_NOFLOW = 1 then 0xFFFF else s.get R.LK_CFG_SFLOW
    postHw s 0x1D (s.get R.LK_CFG_SPH) flow m.ta 4 0 (head ++ m.body)

/-! ### Broadcasts (R420) -/

/-- A broadcast record: verified under R411, then acceptance. -/
def broadcast (s : State) (b : BroadcastRec) : State :=
  let r := b.record
  let bseq := fieldOf r 8 8
  let high : Bool := match s.security.bseq with
    | some h => decide (h < bseq)
    | none => true
  let source := fieldOf r 24 2
  if r.length = 32 ∧ fieldOf r 0 4 = 0x44524242 ∧ enrolled s ∧ fieldOf r 4 4 = siteId s ∧ source / 4096 = 3 ∧ sigOk b.sig 3 0 (siteKey s) r ∧ high then
    acceptEnter { s with security := { s.security with bseq := some bseq } } 3 source bseq (fieldOf r 26 2) (fieldOf r 28 4) (fieldOf r 16 8) r
  else peerRefuse s 0x91 0xFFFF

/-! ### Frames as they arrive on a site port (R429, R430) -/

/-- FRANK_REQ as a frame of KIND 2. -/
def frankReqIn (s : State) (f : FrankReq) : State := siteMessageIn s f.port.val 2 f.peer.toNat f.head fun s => frankReq s f

/-- FRANK_REP as a frame of KIND 3. -/
def frankRepIn (s : State) (f : FrankRep) : State := siteMessageIn s f.port.val 3 f.peer.toNat f.head fun s => frankRep s f

/-- KEY_TRANSPORT as a frame of KIND 4. -/
def keyTransportIn (s : State) (m : KeyMsg) : State := siteMessageIn s m.port.val 4 m.peer.toNat m.head fun s => keyTransport s m

/-- KEY_CONFIRM as a frame of KIND 1. -/
def keyConfirmIn (s : State) (m : KeyMsg) : State := siteTake s m.port.val 1 m.head fun s => keyConfirm s m

/-- A session frame of a site port as a frame of KIND 1, one of the twin link as it is. -/
def sessionFrameIn (s : State) (f : SessionFrame) : State :=
  if f.port = 2 then sessionFrame s f else siteTake s f.port.val 1 f.head fun s => sessionFrame s f

/-- A broadcast record as a frame of KIND 5. -/
def broadcastIn (s : State) (b : BroadcastRec) : State := siteTake s b.port.val 5 b.head fun s => broadcast s b

/-! ### The commands -/

/-- FRANK_REQUEST (R415). -/
def execFrankRequest (r : Requester) (s : State) : Host.Outcome State Fault Refusal := runsBy r s (frankRequest s r.num)
/-- STATEMENT_CAPTURE (R414). -/
def execStatementCapture (s : State) : Host.Outcome State Fault Refusal := runs s (statementCapture s)
/-- STATEMENT_READY (R414). -/
def execStatementReady (s : State) : Host.Outcome State Fault Refusal := runs s (statementReady s)
/-- FRANK_REQ (R415). -/
def execFrankReq (f : FrankReq) (s : State) : Host.Outcome State Fault Refusal := runsLink s (frankReqIn s f)
/-- FRANK_REP (R416). -/
def execFrankRep (f : FrankRep) (s : State) : Host.Outcome State Fault Refusal := runsLink s (frankRepIn s f)
/-- KEY_TRANSPORT (R417). -/
def execKeyTransport (k : KeyMsg) (s : State) : Host.Outcome State Fault Refusal := runsLink s (keyTransportIn s k)
/-- KEY_CONFIRM (R417). -/
def execKeyConfirm (k : KeyMsg) (s : State) : Host.Outcome State Fault Refusal := runsLink s (keyConfirmIn s k)
/-- KEY_TRANSPORT_TIMEOUT (R417). -/
def execKeyTransportTimeout (peer : BitVec 12) (s : State) : Host.Outcome State Fault Refusal := runs s (keyTimeout s peer.toNat)
/-- SESSION_FRAME (R419). -/
def execSessionFrame (f : SessionFrame) (s : State) : Host.Outcome State Fault Refusal := runsLink s (sessionFrameIn s f)
/-- SESSION_REKEY (R419). -/
def execSessionRekey (peer : BitVec 12) (s : State) : Host.Outcome State Fault Refusal := runs s (sessionRekey s peer.toNat)
/-- OLD_SESSION_EXPIRY (R419). -/
def execOldSessionExpiry (peer : BitVec 12) (s : State) : Host.Outcome State Fault Refusal := runs s (oldExpiry s peer.toNat)
/-- BROADCAST (R420). -/
def execBroadcast (b : BroadcastRec) (s : State) : Host.Outcome State Fault Refusal := runsLink s (broadcastIn s b)
/-- SITE_COMMAND (R432). -/
def execSiteCommand (m : SiteMessage) (s : State) : Host.Outcome State Fault Refusal := runsLink s (siteCommand s m)
/-- SITE_DEAD_LETTER (R432). -/
def execSiteDeadLetter (m : SiteMessage) (s : State) : Host.Outcome State Fault Refusal := runsLink s (siteDeadLetter s m)
/-- SITE_DATA (R432). -/
def execSiteData (m : SiteMessage) (s : State) : Host.Outcome State Fault Refusal := runsLink s (siteData s m)
/-- REASSEMBLY_TIMEOUT (R430). -/
def execReassemblyTimeout (peer : BitVec 12) (s : State) : Host.Outcome State Fault Refusal := runs s (reassemblyTimeout s peer.toNat)

end Sys2Proof.Machine
end

