-- ==== Sys2Proof/Machine/Bus.lean ====
section
/-!
DEFINITION. The register bus as the requesters see it: reads with what each register shows at that moment, writes with what each register does,
64-bit pairs and their shadows, wide accesses and the quad-SPI port (spec/00_scope.md R5 to R10; spec/01_node.md R24, R27, R28, R524;
spec/02_postmark.md R47, R60 to R63; spec/12_capture.md R316, R321, R338; spec/16_links.md R442, R443, R448; spec/19_aux_axes.md R499).
-/
namespace Sys2Proof.Machine

/-! ### What a register shows (R5) -/

/-- Leg n: its commanded gate levels, what is pending, its position; the level of a ball is an input and so a free value, but for a ball whose mismatch
stands (R223). -/
def legLive (s : State) (n : Nat) : State :=
  let l := s.leg n
  let g := gatesAt l (legNow s n)
  let c := if l.runs ∧ l.per ≠ 0 then (legNow s n / 64 - l.zero) % l.per else 0
  let down : Bool := !legSaw s n && decide (l.per / 2 ≤ c) && l.runs
  let (rb, s) := s.freshNat
  let s := (s.put (R.LEGn_STATUS_GH n) g.1.toNat).put (R.LEGn_STATUS_GL n) g.2.toNat
  let (h, v) : Nat × Nat := match (settle l (legNow s n)).rb with
    | some (true, v) => (v.toNat, rb / 2)
    | some (false, v) => (rb % 2, v.toNat)
    | none => (rb % 2, rb / 2)
  let s := (s.put (R.LEGn_STATUS_RB_GH n) h).put (R.LEGn_STATUS_RB_GL n) v
  let s := (s.put (R.LEGn_STATUS_PEND_D n) l.pend.isSome.toNat).put (R.LEGn_STATUS_PEND_PP n) l.pendPP.isSome.toNat
  (s.put (R.LEGn_COUNT_C n) c).put (R.LEGn_COUNT_DOWN n) down.toNat

/-- Bridge b of the active image: what its legs are doing (Table LG-14). -/
def bridgeLive (s : State) (b : Nat) : State :=
  if s.get (R.BRIDGE_CFG_PRESENT b) = 0 then s
  else
    let ls := bridgeLegs s b
    let s := s.put (R.BRIDGE_STATUS_SWITCHING b) (ls.any fun n => (s.leg n).gen).toNat
    let s := s.put (R.BRIDGE_STATUS_HELD b) (ls.any fun n => s.get (R.LEGn_STATUS_HELD n) == 1).toNat
    s.put (R.BRIDGE_STATUS_FORCED b) (ls.any fun n => s.get (R.LEGn_STATUS_FCODE n) != 0).toNat

/-- SO_COREc and SO_CUR of a core. -/
def coreLive (s : State) (c : Nat) : State :=
  match sget none s.office.service c with
  | none =>
    let s := ((s.put (R.SO_COREc_BUSY c) 0).put (R.SO_COREc_NOFLOW c) 1).put (R.SO_COREc_FLOW c) 0
    ((s.put (R.SO_COREc_ID c) 0).put (R.SO_CUR_BUSY (c + 2)) 0).put (R.SO_CUR_ID (c + 2)) 0
  | some e =>
    let none_ := decide (e.flow = 0xFFFF)
    let s := ((s.put (R.SO_COREc_BUSY c) 1).put (R.SO_COREc_NOFLOW c) none_.toNat).put (R.SO_COREc_FLOW c) (if none_ then 0 else e.flow)
    ((s.put (R.SO_COREc_ID c) e.id).put (R.SO_CUR_BUSY (c + 2)) 1).put (R.SO_CUR_ID (c + 2)) e.id

/-- The sorting office's registers. -/
def officeLive (s : State) (r a : Nat) : State :=
  let s := (s.put R.SO_STATUS_INFLIGHT s.inflight).put R.SO_STATUS_SWUSE s.swUse
  if 0x200080 ≤ a ∧ a < 0x2000A0 then coreLive s ((a - 0x200080) / 4)
  else if a = 0x200060 then coreLive s (r - 2)
  else if 0x200100 ≤ a ∧ a < 0x200180 then s.put (R.SO_PHp_COUNT ((a - 0x200100) / 4)) (s.phCount ((a - 0x200100) / 4))
  else if 0x200180 ≤ a ∧ a < 0x200190 then
    s.put (R.SO_TRAYt_COUNT ((a - 0x200180) / 4)) (s.office.trays.filter (·.tray == (a - 0x200180) / 4)).length
  else s

/-- The state with the fields of the register at `a` as they stand now. -/
def live (s : State) (r a : Nat) : State :=
  if a = 0x10000 ∨ a = 0x10004 then s.putPair R.POST_NOW_LO_FRAC R.POST_NOW_HI_SEC s.postmark
  else if a = 0x10014 then s.put R.POST_ERRB_ERR_NS (errbNow s)
  else if a = 0x20020 then s.put R.CK_WDOG_STAT_REMAIN (wdogRemain s)
  else if 0x40000 ≤ a ∧ a < 0x58000 then legLive s ((a - 0x40000) / 0x400)
  else if 0x60000 ≤ a ∧ a < 0x61000 then bridgeLive s ((a - 0x60000) / 0x100)
  else if 0x200000 ≤ a ∧ a < 0x200200 then officeLive s r a
  else if a = 0x50000C then (rngRead s).2.put R.SEC_RNG_R (rngRead s).1
  else if a = 0x600000 then s.put R.LK_STATUS_CAN_ON (canOnBits s)
  else if a = 0x700008 ∨ a = 0x70000C then s.putPair R.HL_FLAGS_LO_F R.HL_FLAGS_HI_F (healthFlags s)
  else if 0x780000 ≤ a ∧ a < 0x784000 ∧ (a % 0x1000 = 0x10 ∨ a % 0x1000 = 0x14) then
    let n := (a - 0x780000) / 0x1000
    axPut s (R.AXn_POS_LO_W n) (R.AXn_POS_HI_W n) (axCommand s n (s.time.count + 1))
  else s

/-- The word of a register: WO fields and reserved bits read 0 (R5, R8). -/
def fieldsWord (s : State) (fs : List Fld) : Nat :=
  fs.foldl (fun w f => if f.acc = .wo then w else w + s.shown f * 2 ^ f.lsb) 0

/-- A read clears the RC fields (R5, R6). -/
def clearRead (s : State) (fs : List Fld) : State := fs.foldl (fun s f => if f.acc = .rc then s.clear f 0 else s) s

/-- A read of a register's word. -/
def regRead (s : State) (r a : Nat) (fs : List Fld) : Nat × State :=
  let t := live s r a
  (fieldsWord t fs, { clearRead s fs with fresh := t.fresh })

/-! ### Windows (R182, R314, R316, R425, R486) -/

/-- The little-endian word at offset `o` of bytes that read as zero past their end. -/
def bytesWord (bs : Bytes) (o : Nat) : Nat := leNat ((bs.drop o).take 4)

/-- The wire window: value and status words (Table FB-13). -/
def wireWord (s : State) (o : Nat) : Nat :=
  let w := o / 8
  let x := sget (0, 0) s.fabric.window w
  if o % 8 = 0 then x.1
  else x.2 % 16 + 65536 * (match s.fabric.windowImage with
    | some im => wireWriter im w
    | none => 0x7FF)

/-- The bytes of an envelope as SO_CURBUF shows them (Table SO-1). -/
def envBytes (e : Env) : Bytes :=
  let port := e.port + (if e.port = 7 then 8 * e.core else 0)
  let flags := e.fromTray.toNat + 2 * e.deferred.toNat + 4 * e.reserve.toNat
  leBytes 1 e.typ ++ leBytes 1 e.ph ++ leBytes 2 e.flow ++ leBytes 2 e.id ++ leBytes 2 e.body.length ++ leBytes 8 e.postmark ++ leBytes 8 e.ready
    ++ leBytes 1 port ++ leBytes 1 flags ++ leBytes 2 e.fseq ++ leBytes 4 e.tag ++ e.body

/-- A word of SO_CURBUF; past the envelope, and with none in service, it is a free value. -/
def curbufWord (s : State) (c o : Nat) : Nat × State :=
  let bs := match sget none s.office.service c with
    | some e => envBytes e
    | none => []
  if o + 4 ≤ bs.length then (bytesWord bs o, s)
  else
    let n := bs.length - o
    ((bytesWord bs o + s.freshNat.1 * 256 ^ n) % 2 ^ 32, s.freshNat.2)

/-- The registers that only service cores have (R314). -/
def coreOnly (a : Nat) : Bool := a == 0x200060 || a == 0x200064 || decide (0x202000 ≤ a ∧ a < 0x203000)

/-- A word of a window; none where the address lies in no window. -/
def windowRead (s : State) (r a : Nat) : Option (Nat × State) :=
  if coreOnly a ∧ r < 2 then some (0, addrError s r 5 a)
  else if 0x100000 ≤ a ∧ a < 0x110000 then some (wireWord s (a - 0x100000), s)
  else if 0x201000 ≤ a ∧ a < 0x202000 then some (s.pbufWord r ((a - 0x201000) / 4), s)
  else if 0x202000 ≤ a ∧ a < 0x203000 then some (curbufWord s (r - 2) (a - 0x202000))
  else if 0x280000 ≤ a ∧ a < 0x300000 then
    some (sget 0 s.office.ledger ((a - 0x280000) / 8) / (if a % 8 = 0 then 1 else 2 ^ 32) % 2 ^ 32, s)
  else if 0x500400 ≤ a ∧ a < 0x500600 then some (bytesWord (mrBytes s ((a - 0x500400) / 64)) (a % 64), s)
  else if 0x502000 ≤ a ∧ a < 0x502800 then some (bytesWord (sget [] s.security.banks r) (a - 0x502000), s)
  else if 0x503000 ≤ a ∧ a < 0x504000 then some (bytesWord Config.deviceCert (a - 0x503000), s)
  else if 0x504000 ≤ a ∧ a < 0x505400 then
    some (bytesWord (((s.security.log[(a - 0x504000) / 80]?).map logEntry).getD []) ((a - 0x504000) % 80), s)
  else if 0x701000 ≤ a ∧ a < 0x701340 then some (bytesWord s.health.report (a - 0x701000), s)
  else if 0x710000 ≤ a ∧ a < 0x71C000 then
    some (min (2 ^ 32 - 1) (sget 0 (sget Rainflow.none s.health.legs ((a - 0x710000) / 512)).bins ((a - 0x710000) % 512 / 4)), s)
  else if 0x1000000 ≤ a ∧ a < 0x3000000 then some (memWord s.capture.mem (a - 0x1000000), s)
  else none

/-- A write into a window: SO_PBUF takes it; the wire window and capture memory record an address error (R28, R316); the others
take no writes. -/
def windowWrite (s : State) (r a v : Nat) : Option State :=
  if coreOnly a ∧ r < 2 ∧ a ≠ 0x200064 then some (addrError s r 5 a)
  else if (0x100000 ≤ a ∧ a < 0x110000) ∨ (0x1000000 ≤ a ∧ a < 0x3000000) then some (addrError s r 2 a)
  else if 0x201000 ≤ a ∧ a < 0x202000 then
    some { s with office := { s.office with pbuf := sset 0 s.office.pbuf (r * 1024 + (a - 0x201000) / 4) v } }
  else if (0x202000 ≤ a ∧ a < 0x203000) ∨ (0x280000 ≤ a ∧ a < 0x300000) ∨ (0x500400 ≤ a ∧ a < 0x500600) ∨ (0x502000 ≤ a ∧ a < 0x502800)
      ∨ (0x503000 ≤ a ∧ a < 0x505400) ∨ (0x701000 ≤ a ∧ a < 0x701340) ∨ (0x710000 ≤ a ∧ a < 0x71C000) then some s
  else none

/-! ### 64-bit pairs (R60 to R63) -/

/-- `a` is the _LO word of a pair of a block's offset list. -/
def inBlock (base size : Nat) (offs : List Nat) (a : Nat) : Bool := decide (base ≤ a ∧ a < base + size) && offs.contains (a - base)

/-- The _LO words of the axes' pairs. -/
def axisLo (a : Nat) (offs : List Nat) : Bool := decide (0x780000 ≤ a ∧ a < 0x784000) && offs.contains (a % 0x1000)

/-- `a` is the _LO word of a 64-bit pair. -/
def isLo (a : Nat) : Bool :=
  [0x2018, 0x2020, 0x10000, 0x10020, 0x10028, 0x10038, 0x20028, 0xC0010, 0xC0018, 0xC0020, 0xC0028, 0x200048, 0x700008].contains a
  || inBlock 0x300000 0x80 [0x10, 0x18, 0x20, 0x50, 0x58, 0x60, 0x68, 0x70] a
  || axisLo a [0x10, 0x18, 0x20, 0x28, 0x30, 0x4C, 0x60, 0x68, 0x70]
  || decide (0x80100 ≤ a ∧ a < 0x80600 ∧ a % 8 = 0) || decide (0x280000 ≤ a ∧ a < 0x300000 ∧ a % 8 = 0)

/-- `a` is the _LO word of a writable pair. -/
def isWrLo (a : Nat) : Bool :=
  [0x10028, 0x20028, 0x200048, 0x300010, 0x300050, 0x300058].contains a || axisLo a [0x18, 0x28, 0x30, 0x4C]

/-- `a` is the _HI word of such a pair. -/
def isHi (a : Nat) : Bool := decide (4 ≤ a) && isLo (a - 4)
/-- The same for a writable pair. -/
def isWrHi (a : Nat) : Bool := decide (4 ≤ a) && isWrLo (a - 4)

/-- The shadows of a requester. -/
def State.shadow (s : State) (r : Nat) : Shadow := sget Shadow.none s.shadows r
/-- Set the shadows of a requester. -/
def State.setShadow (s : State) (r : Nat) (x : Shadow) : State := { s with shadows := sset Shadow.none s.shadows r x }

/-! ### CAP_FRDATA (R338) -/

/-- The 8 bytes at CAP_FRPTR; beyond the record's memory a free value. -/
def frAtPtr (s : State) : Nat × State :=
  let p := s.get R.CAP_FRPTR_OFS
  if p + 8 ≤ frRingEnd s then (frWord s p, s) else (s.freshNat.1 % 2 ^ 64, s.freshNat.2)

/-- CAP_FRPTR advances by 8. -/
def frAdvance (s : State) : State := s.put R.CAP_FRPTR_OFS (s.get R.CAP_FRPTR_OFS + 8)

/-- A write pair of CAP_FRDATA: only in STANDBY with HOLD = 1, inside the record's memory. -/
def frStore (s : State) (r v : Nat) : State :=
  let p := s.get R.CAP_FRPTR_OFS
  if s.mode = 1 ∧ s.get R.CAP_FRCFG_HOLD = 1 ∧ p + 8 ≤ frRingEnd s then frAdvance (frPut s p v) else addrError s r 6 0x300014

/-! ### Reads -/

/-- Access to the sorting office finds in the ledger what the cycles that have come have written. -/
def ledgerMet (s : State) (a : Nat) : State := if 0x200000 ≤ a ∧ a < 0x300000 then ledFlush s else s

/-- A read of one word, the shadows aside: windows, CAP_FRDATA at its pointer, registers; elsewhere 0 and an address error (R9). -/
def readWord (s : State) (r a : Nat) : Nat × State :=
  let s := ledgerMet s a
  match windowRead s r a with
  | some x => x
  | none =>
    if a = 0x300010 then ((frAtPtr s).1 % 2 ^ 32, (frAtPtr s).2)
    else if a = 0x300014 then ((frAtPtr s).1 / 2 ^ 32, (frAtPtr s).2)
    else match regFields Config.gradeFuse r a with
      | some fs => regRead s r a fs
      | none => (0, addrError s r 1 a)

/-- A pair as one access: its 64-bit value. -/
def readPair (s : State) (r a : Nat) : Nat × State :=
  if a = 0x300010 then ((frAtPtr s).1, frAdvance (frAtPtr s).2)
  else
    let (lo, s) := readWord s r a
    let (hi, s) := readWord s r (a + 4)
    (lo + hi * 2 ^ 32, s)

/-- An aligned 32-bit read by a requester (R9, R60). -/
def busRead (s : State) (r a : Nat) : Nat × State :=
  if a % 4 ≠ 0 then (0, addrError s r 1 a)
  else if isLo a then
    let (v, s) := readPair s r a
    (v % 2 ^ 32, s.setShadow r { s.shadow r with rd := some (a, v) })
  else if isHi a then
    match (s.shadow r).rd with
    | some (b, v) =>
      if b + 4 = a then (v / 2 ^ 32, s)
      else let (v, s) := readWord s r a; (v, addrError s r 3 a)
    | none => let (v, s) := readWord s r a; (v, addrError s r 3 a)
  else readWord s r a

/-- `n` reads at ascending addresses: the words, first to last. -/
def busReads (s : State) (r a : Nat) : Nat → List Nat × State
  | 0 => ([], s)
  | n + 1 =>
    let (v, s) := busRead s r (a % 2 ^ 32)
    let (vs, s) := busReads s r (a + 4) n
    (v :: vs, s)

/-- A read of `size` bytes. A word is one access; PCI Express may also read 8 bytes, a pair in one access at its _LO address, and longer runs
of words (R9, R62, R442). Any other is not performed. -/
def sizedRead (s : State) (r a size : Nat) : List Nat × State :=
  if size = 4 then ([(busRead s r a).1], (busRead s r a).2)
  else if r = 0 ∧ size % 4 = 0 ∧ 4 < size then
    (if size = 8 ∧ isLo a then
      let (v, s) := readPair s r a
      ([v % 2 ^ 32, v / 2 ^ 32], s)
    else busReads s r a (size / 4))
  else ([0], addrError s r 1 a)

/-! ### Writes of registers -/

/-- The value a written word has for a field. -/
def fieldOfWord (v : Nat) (f : Fld) : Nat := v / 2 ^ f.lsb % 2 ^ f.width

/-- What a write does to a field by its access code (R5): RW and WS take the value, W1C clears the bits written as 1, RO and RC nothing; the action of
a WO field is its register's. -/
def fieldWrite (v : Nat) (s : State) (f : Fld) : State :=
  match f.acc with
  | .rw | .ws => s.put f (fieldOfWord v f)
  | .w1c => s.clear f ((2 ^ f.width - 1) ^^^ fieldOfWord v f)
  | .ro | .rc | .wo => s

/-- A write to a register whose fields do nothing else. -/
def plainWrite (s : State) (r a v : Nat) : State :=
  match regFields Config.gradeFuse r a with
  | some fs => fs.foldl (fieldWrite v) s
  | none => addrError s r 1 a

/-- A write to NODE_IDENT (R24, R406): only in STANDBY; stored in non-volatile memory first; PROV becomes 1 only while enrolled. MR6 is extended
(Table SE-4). -/
def identWrite (s : State) (v : Nat) : State :=
  if s.mode ≠ 1 then s
  else
    let prov := if v.testBit 31 ∧ s.get R.SEC_STATUS_ENROLLED = 0 then s.get R.NODE_IDENT_PROV else bitsOf v 31 31
    let s := nvWrite s 4 131
    let s := (s.put R.NODE_IDENT_PROV prov).put R.NODE_IDENT_TWIN (bitsOf v 20 20)
    measureIdent ((s.put R.NODE_IDENT_CLUSTER (bitsOf v 19 12)).put R.NODE_IDENT_NODE (bitsOf v 11 0))

/-- A write of NODE_BTRIP_CLR: one HOST command per bit (R248). -/
def tripClears (s : State) (r v : Nat) : State :=
  (List.range 16).foldl (fun s b => if v.testBit b then hostCommand s r (clearTarget b) 0 [] else s) s

/-- A write of NODE_WCMPc_CFG: ACT = 3 and SRC from 24 leave those fields as they are (Table TP-8). -/
def cmpWrite (s : State) (r a v : Nat) : State :=
  let c := (a - 0x1100) / 8
  let act := s.get (R.NODE_WCMPc_CFG_ACT c)
  let src := s.get (R.NODE_WCMPc_CFG_SRC c)
  let s := plainWrite s r a v
  let s := if bitsOf v 31 30 = 3 then s.put (R.NODE_WCMPc_CFG_ACT c) act else s
  let s := if 24 ≤ bitsOf v 27 23 then s.put (R.NODE_WCMPc_CFG_SRC c) src else s
  comparatorFollow s c

/-- A write of NODE_TWIN_CTRL (Table TW-9). -/
def twinControl (s : State) (v : Nat) : State :=
  let s := if v.testBit 0 then handover s else s
  let s := if v.testBit 1 then rejoin s else s
  if v.testBit 2 then alone s else s

/-- A write in the node control block. -/
def nodeWrite (s : State) (r a v : Nat) : State :=
  let trips : Bool := s.mode == 1 || s.mode == 2
  if a = 0x4 then identWrite s v
  else if a = 0x14 then modeReqWrite s r v
  else if a = 0x18 then testWrite s v
  else if a = 0x1010 ∨ a = 0x1014 ∨ a = 0x1018 then legLatchClear s ((a - 0x1010) / 4) v
  else if a = 0x1034 then tripClears s r v
  else if a = 0x1000 ∨ (0x1040 ≤ a ∧ a < 0x1080) then (if trips then plainWrite s r a v else s)
  else if 0x1100 ≤ a ∧ a < 0x1180 then
    (if trips then (if a % 8 = 0 then cmpWrite s r a v else comparatorFollow (plainWrite s r a v) ((a - 0x1100) / 8)) else s)
  else if a = 0x2000 then
    (if s.mode = 1 then
      let s := plainWrite s r a v
      let s := s.put R.NODE_TWIN_CFG_SILN (max 1 (s.get R.NODE_TWIN_CFG_SILN))
      let s := s.put R.NODE_TWIN_CFG_EDGEW (max 1 (s.get R.NODE_TWIN_CFG_EDGEW))
      s.put R.NODE_TWIN_CFG_TSIL (max 5 (s.get R.NODE_TWIN_CFG_TSIL))
    else s)
  else if a = 0x2004 then (if s.mode = 1 then plainWrite s r a v else s)
  else if a = 0x2008 then twinControl s v
  else plainWrite s r a v

/-- A write in the postmark block (Tables PM-5, PM-6). -/
def postWrite (s : State) (r a v : Nat) : State :=
  if a = 0x1000C then
    let prio := s.get R.POST_CTRL_PRIO
    let s := plainWrite s r a v
    let s := s.put R.POST_CTRL_SLEW (max 1 (min 500 (s.get R.POST_CTRL_SLEW)))
    if bitsOf v 9 8 = 3 then s.put R.POST_CTRL_PRIO prio else s
  else if a = 0x10010 then
    let s := plainWrite s r a v
    let s := (s.put R.POST_HOLD_FU (max 1 (s.get R.POST_HOLD_FU))).put R.POST_HOLD_POOR_US (max 1 (s.get R.POST_HOLD_POOR_US))
    s.put R.POST_HOLD_GOOD_NS (max 100 (s.get R.POST_HOLD_GOOD_NS))
  else plainWrite s r a v

/-- A write in the clock and reset block. -/
def clockWrite (s : State) (r a v : Nat) : State :=
  if a = 0x20004 then refWrite s v
  else if a = 0x20010 then hostReset s (v % 256)
  else if a = 0x20018 then wdogConfig s v
  else if a = 0x2001C then wdogKick s r (v % 256)
  else plainWrite s r a v

/-- A write to a leg's registers (R208, R216, R219, R221). -/
def legWrite (s : State) (r a v : Nat) : State :=
  let n := (a - 0x40000) / 0x400
  let o := a % 0x400
  if o = 0x10 then stagedWrite s n .duty v
  else if o = 0x14 then stagedWrite s n .phase (v % 2 ^ 24)
  else if o = 0x18 then stagedWrite s n .period (v % 2 ^ 24)
  else if o = 0x30 then forceWrite s n (v % 8)
  else if o = 0x44 then
    let s := plainWrite s r a v
    (s.put (R.LEGn_RBCFG_SETTLE n) (max 8 (s.get (R.LEGn_RBCFG_SETTLE n)))).put (R.LEGn_RBCFG_TOL n) (max 1 (s.get (R.LEGn_RBCFG_TOL n)))
  else plainWrite s r a v

/-- A write to a bridge's registers (R216, R232). -/
def bridgeWrite (s : State) (r a v : Nat) : State :=
  let b := (a - 0x60000) / 0x100
  if a % 0x100 = 4 then setSource s b (v.testBit 0)
  else if a % 0x100 = 8 then
    let s := if v.testBit 1 then globalLoad s else s
    if v.testBit 0 then bridgeLoad s b else s
  else plainWrite s r a v

/-- A write in the sense and decimation blocks (R279, R289). -/
def senseWrite (s : State) (r a v : Nat) : State :=
  if a = 0x80008 then snapshotRequest s (v % 32)
  else if 0xA0000 ≤ a ∧ a < 0xA0780 ∧ a % 16 = 8 then pathRequest s r ((a - 0xA0000) / 16) v
  else plainWrite s r a v

/-- A write in the sorting office (R297, R301, R302, R304, Table SO-13). -/
def officeWrite (s : State) (r a v : Nat) : State :=
  if a = 0x200004 then
    let s := plainWrite (ledgerMet s a) r a v
    if v.testBit 30 then ledFull s else s.put R.SO_LEDSTAT_FULL 0
  else if a = 0x200040 then
    (if bitsOf v 31 30 = 1 then softPost s r else if bitsOf v 31 30 = 2 then trayInsert s r (bitsOf v 29 28) else s)
  else if a = 0x200050 then
    (if bitsOf v 31 30 = 1 then cancelEnvelope s r (v % 65536) else if bitsOf v 31 30 = 2 then cancelTrayEntry s r (v % 65536) else s)
  else if a = 0x200064 then (if r < 2 ∨ v.testBit 0 then completeEnvelope s r else s)
  else plainWrite s r a v

/-- A write of CAP_FRCFG: EXT changes only in STANDBY with HOLD = 1 and empties the record, CKPLOG from 5 is left (R333, R337, Table CP-12). -/
def frConfig (s : State) (v : Nat) : State :=
  let s := (s.put R.CAP_FRCFG_AUTOHOLD (bitsOf v 30 26)).put R.CAP_FRCFG_POSTFR (v % 65536)
  let s := if bitsOf v 18 16 ≤ 4 then s.put R.CAP_FRCFG_CKPLOG (bitsOf v 18 16) else s
  let ext := bitsOf v 23 19
  let s :=
    if ext ≤ 16 ∧ ext ≠ s.get R.CAP_FRCFG_EXT ∧ s.mode = 1 ∧ s.get R.CAP_FRCFG_HOLD = 1 then frEmpty (s.put R.CAP_FRCFG_EXT ext) else s
  holdWrite s (v.testBit 31)

/-- A write to a capture window's registers: the set-up only while it is IDLE or DONE (R321, Table CP-12). -/
def winWrite (s : State) (r a v : Nat) : State :=
  let w := (a - 0x300100) / 0x80
  let o := a % 0x80
  if o = 0x18 then
    (if v % 4 = 1 then windowArm s w else if v % 4 = 2 then windowStop s w else if v % 4 = 3 then windowForce s w else s)
  else if (s.winState w = 0 ∨ s.winState w = 4) = false then s
  else
    let nseg := s.get (R.CAP_WINw_CFG_NSEGLOG w)
    let kind := s.get (R.CAP_WINw_TRIG_TKIND w)
    let cond := s.get (R.CAP_WINw_TRIG_COND w)
    let s := plainWrite s r a v
    if o = 0 then (if 4 < bitsOf v 20 18 then s.put (R.CAP_WINw_CFG_NSEGLOG w) nseg else s)
    else if o = 0x10 then
      let s := if 7 < bitsOf v 31 28 then s.put (R.CAP_WINw_TRIG_TKIND w) kind else s
      if bitsOf v 25 24 = 3 then s.put (R.CAP_WINw_TRIG_COND w) cond else s
    else s

/-- A write in the capture block. -/
def captureWrite (s : State) (r a v : Nat) : State :=
  if a = 0x300004 then frConfig s v
  else if a = 0x30000C then s.put R.CAP_FRPTR_OFS (v / 8 * 8)
  else if 0x300100 ≤ a ∧ a < 0x300500 then
    winWrite s r a v
  else plainWrite s r a v

/-- A write in the safety block (R381). -/
def safetyWrite (s : State) (r a v : Nat) : State := if a = 0x400028 then testPulseRequest s v else plainWrite s r a v

/-- A write of SEC_CTRL (Table SE-11). -/
def secControl (s : State) (v : Nat) : State :=
  let op := bitsOf v 31 28
  if op = 1 then enrOpen s
  else if op = 2 then install s
  else if op = 3 then rekeyx s
  else if op = 4 then extend s
  else if op = 5 then sessionClose s (v % 512)
  else s

/-- A write of SEC_FW_CTRL (Table SE-11). -/
def fwControl (s : State) (r v : Nat) : State :=
  let op := bitsOf v 31 28
  let n := v % 2
  if op = 1 then fwOpen s r n
  else if op = 2 then fwCommit s r n
  else if op = 3 then fwMark s r n
  else if op = 4 then fwConfirm s
  else if op = 5 then fwErase s r n
  else if op = 6 then fwAbort s r n
  else if op = 7 then revoke0 s r
  else s

/-- A write of SEC_IMG_CTRL (Table SI-15). -/
def imgControl (s : State) (r v : Nat) : State :=
  let op := bitsOf v 31 28
  let n := v % 4
  if op = 1 then imgOpen s r n
  else if op = 2 then imgCommit s r n
  else if op = 3 then imgActivate s r n
  else if op = 4 then imgErase s r n
  else if op = 5 then imgAbort s r n
  else s

/-- A write in the security block. -/
def securityWrite (s : State) (r a v : Nat) : State :=
  if a = 0x500004 then secControl s v
  else if a = 0x500018 then
    (if s.mode = 1 then s.put R.SEC_SESSCFG_LIFE (max 1 (min 24 (v % 32))) else s)
  else if a = 0x50001C then enrData s v
  else if a = 0x500040 then fwControl s r v
  else if a = 0x500044 then fwData s r a v
  else if a = 0x500060 then (if v.testBit 0 then frankRequest s r else s)
  else if 0x5000C0 ≤ a ∧ a < 0x500100 then s.put (R.SEC_EXT_Dn_D ((a - 0x5000C0) / 4)) v
  else if a = 0x500800 then imgControl s r v
  else if a = 0x500804 then imgData s r a v
  else plainWrite s r a v

/-- A write of LK_SPn_CFG: values outside their range leave PTPROLE and LOGSYNC; a change of EN or RATE retrains the port (R448). -/
def portConfig (s : State) (r a v n : Nat) : State :=
  let role := s.get (R.LK_SPn_CFG_PTPROLE n)
  let sync := s.get (R.LK_SPn_CFG_LOGSYNC n)
  let was := s.get (R.LK_SPn_CFG_EN n) + 2 * s.get (R.LK_SPn_CFG_RATE n)
  let s := plainWrite s r a v
  let s := if bitsOf v 25 24 = 3 then s.put (R.LK_SPn_CFG_PTPROLE n) role else s
  let s := if 1 < bitsOf v 11 8 ∧ bitsOf v 11 8 < 12 then s.put (R.LK_SPn_CFG_LOGSYNC n) sync else s
  if s.get (R.LK_SPn_CFG_EN n) + 2 * s.get (R.LK_SPn_CFG_RATE n) = was then s else portDown s n

/-- A write to a CAN controller's registers (R444 to R446, R448). -/
def canWrite (s : State) (r a v : Nat) : State :=
  let c := (a - 0x601000) / 0x1000
  let o := a % 0x1000
  let setUp : Bool := s.mode == 0 || s.mode == 1
  if o = 0 then
    (if setUp then
      let s := plainWrite s r a v
      if v.testBit 31 ∧ s.get (R.LK_CANc_STAT_BUSOFF c) = 1 ∧ s.get (R.LK_CANc_CFG_AUTOREC c) = 0 then canBack s c else s
    else s)
  else if o = 4 then
    (if setUp then let s := plainWrite s r a v; s.put (R.LK_CANc_NBT_BRP c) (max 1 (s.get (R.LK_CANc_NBT_BRP c))) else s)
  else if o = 8 then
    (if setUp then let s := plainWrite s r a v; s.put (R.LK_CANc_DBT_BRP c) (max 1 (s.get (R.LK_CANc_DBT_BRP c))) else s)
  else if o = 0x10 then canRequest s c v
  else if 0x100 ≤ o ∧ o < 0x500 ∧ o % 16 = 8 ∧ bitsOf v 31 30 = 3 then
    let act := s.get (R.LK_CANc_FLTf_RT_ACT c ((o - 0x100) / 16))
    (plainWrite s r a v).put (R.LK_CANc_FLTf_RT_ACT c ((o - 0x100) / 16)) act
  else if 0x600 ≤ o ∧ o < 0xA80 then (if (canPending s c).testBit ((o - 0x600) / 72) then s else plainWrite s r a v)
  else plainWrite s r a v

/-- A write in the links block. -/
def linksWrite (s : State) (r a v : Nat) : State :=
  if a = 0x600010 ∨ a = 0x600050 then
    (if s.mode = 0 ∨ s.mode = 1 then portConfig s r a v ((a - 0x600010) / 0x40) else s)
  else if a = 0x600100 then (if s.mode = 0 ∨ s.mode = 1 then plainWrite s r a v else s)
  else if 0x601000 ≤ a ∧ a < 0x605000 then canWrite s r a v
  else plainWrite s r a v

/-- A write in the health block (R483). -/
def healthWrite (s : State) (r a v : Nat) : State :=
  if a = 0x700004 then
    let s := s.put R.HL_CTRL_PERIOD (max 1 (v % 65536))
    if v.testBit 31 then reportNow s else s
  else plainWrite s r a v

/-- A write to an axis's registers: AXn_CFG, AXn_HOME and the kinematic limits only while it is stopped (R499). -/
def axisWrite (s : State) (r a v : Nat) : State :=
  let n := (a - 0x780000) / 0x1000
  let o := a % 0x1000
  if o = 8 then axOp s n (v % 8)
  else if o = 0 ∨ o = 0x38 ∨ o = 0x3C ∨ o = 0x40 ∨ o = 0x44 ∨ o = 0x48 then
    (if axState s n ≠ 0 then s
    else
      let enc := s.get (R.AXn_CFG_ENCMODE n)
      let s := plainWrite s r a v
      if o = 0 ∧ bitsOf v 31 30 = 3 then s.put (R.AXn_CFG_ENCMODE n) enc else s)
  else if o = 0x58 ∧ bitsOf v 29 28 = 3 then
    let edge := s.get (R.AXn_LCFG_LEDGE n)
    (plainWrite s r a v).put (R.AXn_LCFG_LEDGE n) edge
  else plainWrite s r a v

/-- A write of one word to a register that is not half of a writable pair, by its block (Table ND-7). -/
def regWrite (s : State) (r a v : Nat) : State :=
  if a < 0x10000 then nodeWrite s r a v
  else if a < 0x20000 then postWrite s r a v
  else if a < 0x30000 then clockWrite s r a v
  else if a < 0x40000 then plainWrite s r a v
  else if a < 0x58000 then legWrite s r a v
  else if a < 0x60000 then plainWrite s r a v
  else if a < 0x61000 then bridgeWrite s r a v
  else if a < 0x80000 then plainWrite s r a v
  else if a < 0xC0000 then senseWrite s r a v
  else if a = 0xC0008 then freezeWrite s (v.testBit 0)
  else if a < 0x200000 then plainWrite s r a v
  else if a < 0x300000 then officeWrite s r a v
  else if a < 0x400000 then captureWrite s r a v
  else if a < 0x500000 then safetyWrite s r a v
  else if a < 0x600000 then securityWrite s r a v
  else if a < 0x700000 then linksWrite s r a v
  else if a < 0x780000 then healthWrite s r a v
  else if a < 0x784000 then axisWrite s r a v
  else plainWrite s r a v

/-- A writable pair takes both words in one cycle (R63); `a` is its _LO address. -/
def pairCommit (s : State) (r a v : Nat) : State :=
  let n := (a - 0x780000) / 0x1000
  if a = 0x10028 then postSetCommit s v
  else if a = 0x20028 then s.putPair R.CK_ALARM_LO_FRAC R.CK_ALARM_HI_SEC v
  else if a = 0x200048 then s.putPair (R.SO_TRAY_LO_FRAC r) (R.SO_TRAY_HI_SEC r) v
  else if a = 0x300010 then frStore s r v
  else if a = 0x300050 then s.putPair R.CAP_RPSTART_LO_W R.CAP_RPSTART_HI_W v
  else if a = 0x300058 then s.putPair R.CAP_RPEND_LO_W R.CAP_RPEND_HI_W v
  else if a % 0x1000 = 0x18 then targetCommit s n v
  else if a % 0x1000 = 0x28 then limitCommit s n true v
  else if a % 0x1000 = 0x30 then limitCommit s n false v
  else axPut s (R.AXn_HOFS_LO_W n) (R.AXn_HOFS_HI_W n) (signed 48 v)

/-- An aligned 32-bit write by a requester: a window, half of a writable pair, or a register; an unmapped address is an address error and nothing else
(R9, R63). -/
def busWrite (s : State) (r a v : Nat) : State :=
  if a % 4 ≠ 0 then addrError s r 1 a
  else match windowWrite s r a v with
    | some t => t
    | none =>
      if isWrLo a then s.setShadow r { s.shadow r with wr := some (a, v) }
      else if isWrHi a then
        match (s.shadow r).wr with
        | some (b, lo) =>
          if b + 4 = a then pairCommit (s.setShadow r { s.shadow r with wr := none }) r b (lo + v * 2 ^ 32) else addrError s r 4 a
        | none => addrError s r 4 a
      else if (regFields Config.gradeFuse r a).isNone then addrError s r 1 a
      else regWrite s r a v

/-- Writes at ascending addresses. -/
def busWrites (s : State) (r a : Nat) : List Nat → State
  | [] => s
  | v :: vs => busWrites (busWrite s r (a % 2 ^ 32) v) r (a + 4) vs

/-- An 8-byte PCI Express write: a pair in one access at its _LO address, else two words (R62). -/
def wideWrite (s : State) (a v : Nat) : State :=
  if isLo a then (if isWrLo a then pairCommit s 0 a v else s)
  else busWrites s 0 a [v % 2 ^ 32, v / 2 ^ 32]

/-- A write of `size` bytes, the value extended with zeros (R9, R62, R442). -/
def sizedWrite (s : State) (r a size v : Nat) : State :=
  if size = 4 then busWrite s r a v
  else if r = 0 ∧ size = 8 then wideWrite s a v
  else if r = 0 ∧ size % 4 = 0 ∧ 8 < size then busWrites s r a (v :: List.replicate (size / 4 - 1) 0)
  else addrError s r 1 a

/-! ### The quad-SPI port (R443) -/

/-- An address of the capture memory window. -/
def inCapture (a : Nat) : Bool := decide (0x1000000 ≤ a ∧ a < 0x3000000)

/-- READ: words from any address but the capture memory window, which returns 0 and sets NOTREADY. -/
def spiReads (s : State) (a : Nat) : Nat → List Nat × State
  | 0 => ([], s)
  | n + 1 =>
    let a := a % 2 ^ 32
    let (v, s) := if inCapture a then (0, { s with links := { s.links with qspiNotReady := true } }) else busRead s 1 a
    let (vs, s) := spiReads s (a + 4) n
    (v :: vs, s)

/-- READ_CAP: words from the capture memory window; the spec does not say what it returns elsewhere, a free value. -/
def spiCaps (s : State) (a : Nat) : Nat → List Nat × State
  | 0 => ([], s)
  | n + 1 =>
    let a := a % 2 ^ 32
    let (v, s) := if inCapture a then busRead s 1 a else (s.freshNat.1 % 2 ^ 32, s.freshNat.2)
    let (vs, s) := spiCaps s (a + 4) n
    (v :: vs, s)

/-- STATUS: the byte of Table LK-7; bits 0 and 1 clear. -/
def spiStatus (s : State) : Nat × State :=
  (s.links.qspiErr.toNat + 2 * s.links.qspiNotReady.toNat + (if s.mode = 0 then 4 else 0),
    { s with links := { s.links with qspiErr := false, qspiNotReady := false } })

/-! ### The commands -/

/-- A read of `n` words by a requester. In a WATCHDOG or HOST reset a PCI Express read returns all ones (Table CK-4); else a node that does not run answers none. -/
def readRuns (s : State) (r n : Nat) (x : List Nat × State) : Host.Outcome State Fault Refusal :=
  if s.serves r then answers s (x.2.readBack r x.1)
  else if r = 0 ∧ (s.root.resetKind = some 3 ∨ s.root.resetKind = some 4) then answers s (s.readBack 0 (List.replicate n 0xFFFFFFFF))
  else answers s s

/-- POST_SET (R47): the write of POST_SET_HI. -/
def execPostSet (r : Requester) (hi : Word) (s : State) : Host.Outcome State Fault Refusal := runsBy r s (busWrite s r.num 0x1002C hi.toNat)
/-- SHADOW_LO_READ (R60). -/
def execShadowLoRead (r : Requester) (addr : Word) (s : State) : Host.Outcome State Fault Refusal :=
  readRuns s r.num 1 (sizedRead s r.num addr.toNat 4)
/-- SHADOW_HI_READ (R60). -/
def execShadowHiRead (r : Requester) (addr : Word) (s : State) : Host.Outcome State Fault Refusal :=
  readRuns s r.num 1 (sizedRead s r.num addr.toNat 4)
/-- SHADOW_LO_WRITE (R63). -/
def execShadowLoWrite (r : Requester) (addr v : Word) (s : State) : Host.Outcome State Fault Refusal :=
  runsBy r s (busWrite s r.num addr.toNat v.toNat)
/-- SHADOW_HI_WRITE (R63). -/
def execShadowHiWrite (r : Requester) (addr v : Word) (s : State) : Host.Outcome State Fault Refusal :=
  runsBy r s (busWrite s r.num addr.toNat v.toNat)
/-- WIDE_ACCESS (R62): an 8-byte access of the PCI Express port, a read without data. -/
def execWideAccess (addr : Word) (data : Option (BitVec 64)) (s : State) : Host.Outcome State Fault Refusal :=
  match data with
  | some v => runs s (wideWrite s addr.toNat v.toNat)
  | none => readRuns s 0 2 (sizedRead s 0 addr.toNat 8)
/-- READ_TO_CLEAR (R5). -/
def execReadToClear (r : Requester) (addr : Word) (size : Nat) (s : State) : Host.Outcome State Fault Refusal :=
  readRuns s r.num ((size + 3) / 4) (sizedRead s r.num addr.toNat size)
/-- WRITE_ONE_TO_CLEAR (R5). -/
def execWriteOneToClear (r : Requester) (addr v : Word) (s : State) : Host.Outcome State Fault Refusal :=
  runsBy r s (busWrite s r.num addr.toNat v.toNat)
/-- REGISTER_WRITE (R5). -/
def execRegisterWrite (r : Requester) (addr : Word) (size : Nat) (v : Word) (s : State) : Host.Outcome State Fault Refusal :=
  runsBy r s (sizedWrite s r.num addr.toNat size v.toNat)
/-- IDENT_WRITE (R24). -/
def execIdentWrite (r : Requester) (v : Word) (s : State) : Host.Outcome State Fault Refusal := runsBy r s (identWrite s v.toNat)
/-- FR_DATA_READ (R338). -/
def execFrDataRead (r : Requester) (s : State) : Host.Outcome State Fault Refusal := readRuns s r.num 1 (sizedRead s r.num 0x300010 4)
/-- FR_DATA_WRITE (R338): the write pair. -/
def execFrDataWrite (r : Requester) (v : BitVec 64) (s : State) : Host.Outcome State Fault Refusal :=
  runsBy r s (busWrites s r.num 0x300010 [v.toNat % 2 ^ 32, v.toNat / 2 ^ 32])
/-- TARGET_COMMIT (R490): the write of AXn_TGT_HI. -/
def execTargetCommit (r : Requester) (axis : Fin 4) (hi : Word) (s : State) : Host.Outcome State Fault Refusal :=
  runsBy r s (busWrite s r.num (0x78001C + 0x1000 * axis.val) hi.toNat)
/-- SOFT_LIMIT_COMMIT (R499): the write of AXn_SLIMP_HI or AXn_SLIMN_HI. -/
def execSoftLimitCommit (r : Requester) (axis : Fin 4) (positive : Bool) (hi : Word) (s : State) : Host.Outcome State Fault Refusal :=
  runsBy r s (busWrite s r.num ((if positive then 0x78002C else 0x780034) + 0x1000 * axis.val) hi.toNat)
/-- QSPI_READ (R443). -/
def execQspiRead (addr : Word) (words : Nat) (s : State) : Host.Outcome State Fault Refusal := readRuns s 1 words (spiReads s addr.toNat words)
/-- QSPI_READ_CAP (R443). -/
def execQspiReadCap (addr : Word) (words : Nat) (s : State) : Host.Outcome State Fault Refusal := readRuns s 1 words (spiCaps s addr.toNat words)
/-- QSPI_WRITE (R443). -/
def execQspiWrite (addr : Word) (data : List Word) (s : State) : Host.Outcome State Fault Refusal :=
  runs s (busWrites s 1 addr.toNat (data.map (·.toNat)))
/-- QSPI_STATUS (R443). -/
def execQspiStatus (s : State) : Host.Outcome State Fault Refusal := readRuns s 1 1 ([(spiStatus s).1], (spiStatus s).2)

end Sys2Proof.Machine
end

