-- ==== Sys2Proof/Machine/TimeCmds.lean ====
section
/-!
DEFINITION. Commands of the postmark's timebase (spec/02_postmark.md R33 to R40).
-/
namespace Sys2Proof.Machine

/-- SERVO_UPDATE (R527): a valid measurement from source 1 to 4 (PTP SITE0, PTP SITE1, 1PPS, TWIN). -/
def execServoUpdate (src : Fin 4) (offset : Int) (s : State) : Host.Outcome State Fault Refusal :=
  runs s (measurement s (src.val + 1) offset)
/-- PPS_EDGE (R33). -/
def execPpsEdge (rising : Bool) (s : State) : Host.Outcome State Fault Refusal := runs s (ppsEdge s rising)
/-- SOURCE_UNUSABLE (R33). -/
def execSourceUnusable (src : Fin 4) (s : State) : Host.Outcome State Fault Refusal := runs s (sourceLost s (src.val + 1))
/-- HOLDOVER_BOUND_EXCEEDED (R36). -/
def execHoldoverBoundExceeded (s : State) : Host.Outcome State Fault Refusal := runs s (boundExceeded s)
/-- POSTMARK_SECONDS_END (R40): the clock runs to the end of the seconds count. -/
def execPostmarkSecondsEnd (s : State) : Host.Outcome State Fault Refusal :=
  runs s (if s.time.stopped then s else s.ticks (ticksFor s (2 ^ 104 - s.time.acc)))

end Sys2Proof.Machine
end

