-- ==== Sys2Proof/Machine/Dispatch.lean ====
section
/-!
DEFINITION. One arm per command of spec/opcode_table.json: a direct call of the command's meaning.
-/
namespace Sys2Proof.Machine

def exec (i : Instr) (s : State) : Host.Outcome State Fault Refusal :=
  match i with
  | .frameStart => Sys2Proof.Machine.execFrameStart s
  | .trayTick => Sys2Proof.Machine.execTrayTick s
  | .safetyCycle pilot agree => Sys2Proof.Machine.execSafetyCycle pilot agree s
  | .axisEvaluation => Sys2Proof.Machine.execAxisEvaluation s
  | .servoUpdate src offset => Sys2Proof.Machine.execServoUpdate src offset s
  | .ppsEdge rising => Sys2Proof.Machine.execPpsEdge rising s
  | .sourceUnusable src => Sys2Proof.Machine.execSourceUnusable src s
  | .holdoverBoundExceeded => Sys2Proof.Machine.execHoldoverBoundExceeded s
  | .postmarkSecondsEnd => Sys2Proof.Machine.execPostmarkSecondsEnd s
  | .postSet r hi => Sys2Proof.Machine.execPostSet r hi s
  | .shadowLoRead r addr => Sys2Proof.Machine.execShadowLoRead r addr s
  | .shadowHiRead r addr => Sys2Proof.Machine.execShadowHiRead r addr s
  | .shadowLoWrite r addr v => Sys2Proof.Machine.execShadowLoWrite r addr v s
  | .shadowHiWrite r addr v => Sys2Proof.Machine.execShadowHiWrite r addr v s
  | .wideAccess addr data => Sys2Proof.Machine.execWideAccess addr data s
  | .readToClear r addr size => Sys2Proof.Machine.execReadToClear r addr size s
  | .writeOneToClear r addr v => Sys2Proof.Machine.execWriteOneToClear r addr v s
  | .registerWrite r addr size v => Sys2Proof.Machine.execRegisterWrite r addr size v s
  | .identWrite r v => Sys2Proof.Machine.execIdentWrite r v s
  | .acceptCommand c => Sys2Proof.Machine.execAcceptCommand c s
  | .wireTargetCommand c => Sys2Proof.Machine.execWireTargetCommand c s
  | .start bridge t cls => Sys2Proof.Machine.execStart bridge t cls s
  | .requestStandby r => Sys2Proof.Machine.execRequestStandby r s
  | .requestCommission r => Sys2Proof.Machine.execRequestCommission r s
  | .requestEnergize r => Sys2Proof.Machine.execRequestEnergize r s
  | .requestReplay r => Sys2Proof.Machine.execRequestReplay r s
  | .requestRun r => Sys2Proof.Machine.execRequestRun r s
  | .requestQuiet r => Sys2Proof.Machine.execRequestQuiet r s
  | .requestHibernate r => Sys2Proof.Machine.execRequestHibernate r s
  | .quietEntry => Sys2Proof.Machine.execQuietEntry s
  | .quietExit => Sys2Proof.Machine.execQuietExit s
  | .fabricResume => Sys2Proof.Machine.execFabricResume s
  | .hibernateEntry => Sys2Proof.Machine.execHibernateEntry s
  | .energizeTimeout => Sys2Proof.Machine.execEnergizeTimeout s
  | .stopRampEnd => Sys2Proof.Machine.execStopRampEnd s
  | .lrstPress => Sys2Proof.Machine.execLrstPress s
  | .lockoutSelfCheckDone pass => Sys2Proof.Machine.execLockoutSelfCheckDone pass s
  | .lrstRelease => Sys2Proof.Machine.execLrstRelease s
  | .lrstStuck => Sys2Proof.Machine.execLrstStuck s
  | .testLight r => Sys2Proof.Machine.execTestLight r s
  | .testFull r => Sys2Proof.Machine.execTestFull r s
  | .testCal r => Sys2Proof.Machine.execTestCal r s
  | .testDone pass unit => Sys2Proof.Machine.execTestDone pass unit s
  | .bootComplete selfCheckOk => Sys2Proof.Machine.execBootComplete selfCheckOk s
  | .inputHoldFault slot => Sys2Proof.Machine.execInputHoldFault slot s
  | .budgetExhausted slot => Sys2Proof.Machine.execBudgetExhausted slot s
  | .rampOrigin bridge => Sys2Proof.Machine.execRampOrigin bridge s
  | .slotTime bridge => Sys2Proof.Machine.execSlotTime bridge s
  | .busStatePersist bridge => Sys2Proof.Machine.execBusStatePersist bridge s
  | .syncOk bridge => Sys2Proof.Machine.execSyncOk bridge s
  | .syncTimeout bridge => Sys2Proof.Machine.execSyncTimeout bridge s
  | .rampStall bridge => Sys2Proof.Machine.execRampStall bridge s
  | .poleSlip bridge => Sys2Proof.Machine.execPoleSlip bridge s
  | .tvimpHoldEnd bridge => Sys2Proof.Machine.execTvimpHoldEnd bridge s
  | .tvimpBlendEnd bridge => Sys2Proof.Machine.execTvimpBlendEnd bridge s
  | .fabricOverrun tile => Sys2Proof.Machine.execFabricOverrun tile s
  | .fabricFault cause tile => Sys2Proof.Machine.execFabricFault cause tile s
  | .freezeWindow r freeze => Sys2Proof.Machine.execFreezeWindow r freeze s
  | .imgOpen r slot => Sys2Proof.Machine.execImgOpen r slot s
  | .imgDataWrite r v => Sys2Proof.Machine.execImgDataWrite r v s
  | .imgCommit r slot => Sys2Proof.Machine.execImgCommit r slot s
  | .imgActivate r slot => Sys2Proof.Machine.execImgActivate r slot s
  | .imgErase r slot => Sys2Proof.Machine.execImgErase r slot s
  | .imgAbort r slot => Sys2Proof.Machine.execImgAbort r slot s
  | .activationStop => Sys2Proof.Machine.execActivationStop s
  | .activationStart => Sys2Proof.Machine.execActivationStart s
  | .reload leg => Sys2Proof.Machine.execReload leg s
  | .stagedWrite r leg which v => Sys2Proof.Machine.execStagedWrite r leg which v s
  | .bridgeLoad r bridge => Sys2Proof.Machine.execBridgeLoad r bridge s
  | .globalLoad r => Sys2Proof.Machine.execGlobalLoad r s
  | .force r leg code => Sys2Proof.Machine.execForce r leg code s
  | .setSource r bridge host => Sys2Proof.Machine.execSetSource r bridge host s
  | .readbackError leg high => Sys2Proof.Machine.execReadbackError leg high s
  | .legTripInput leg high => Sys2Proof.Machine.execLegTripInput leg high s
  | .blankWindowEnd leg => Sys2Proof.Machine.execBlankWindowEnd leg s
  | .windowComparator cmp st => Sys2Proof.Machine.execWindowComparator cmp st s
  | .legLatchClear r m v => Sys2Proof.Machine.execLegLatchClear r m v s
  | .bridgeTripClear bridge => Sys2Proof.Machine.execBridgeTripClear bridge s
  | .senseTrigger path mods paired => Sys2Proof.Machine.execSenseTrigger path mods paired s
  | .sliceOverload slice positive => Sys2Proof.Machine.execSliceOverload slice positive s
  | .bitstreamLost chan => Sys2Proof.Machine.execBitstreamLost chan s
  | .lostEnd chan => Sys2Proof.Machine.execLostEnd chan s
  | .calStep => Sys2Proof.Machine.execCalStep s
  | .calStepFail afterSubst => Sys2Proof.Machine.execCalStepFail afterSubst s
  | .snapshotRequest r bridge => Sys2Proof.Machine.execSnapshotRequest r bridge s
  | .snapshotPost => Sys2Proof.Machine.execSnapshotPost s
  | .resamplerOutput ch => Sys2Proof.Machine.execResamplerOutput ch s
  | .bankRequest r path bank => Sys2Proof.Machine.execBankRequest r path bank s
  | .sourceChange r path src => Sys2Proof.Machine.execSourceChange r path src s
  | .postEnvelope r => Sys2Proof.Machine.execPostEnvelope r s
  | .trayInsert r tray => Sys2Proof.Machine.execTrayInsert r tray s
  | .completeEnvelope r => Sys2Proof.Machine.execCompleteEnvelope r s
  | .cancelEnvelope r id => Sys2Proof.Machine.execCancelEnvelope r id s
  | .cancelTrayEntry r id => Sys2Proof.Machine.execCancelTrayEntry r id s
  | .dispatch => Sys2Proof.Machine.execDispatch s
  | .ledgerLoss => Sys2Proof.Machine.execLedgerLoss s
  | .windowArm r w => Sys2Proof.Machine.execWindowArm r w s
  | .windowStop r w => Sys2Proof.Machine.execWindowStop r w s
  | .windowForce r w => Sys2Proof.Machine.execWindowForce r w s
  | .segmentClose w => Sys2Proof.Machine.execSegmentClose w s
  | .flightRecordHold r => Sys2Proof.Machine.execFlightRecordHold r s
  | .flightRecordRelease r => Sys2Proof.Machine.execFlightRecordRelease r s
  | .autoholdStop => Sys2Proof.Machine.execAutoholdStop s
  | .frDataRead r => Sys2Proof.Machine.execFrDataRead r s
  | .frDataWrite r v => Sys2Proof.Machine.execFrDataWrite r v s
  | .bundleReceived b => Sys2Proof.Machine.execBundleReceived b s
  | .twinCmdReceived k c => Sys2Proof.Machine.execTwinCmdReceived k c s
  | .bundleMissed => Sys2Proof.Machine.execBundleMissed s
  | .hashReceived k hash => Sys2Proof.Machine.execHashReceived k hash s
  | .arbitrationOutcome own partner => Sys2Proof.Machine.execArbitrationOutcome own partner s
  | .handover r => Sys2Proof.Machine.execHandover r s
  | .handoverRequestReceived => Sys2Proof.Machine.execHandoverRequestReceived s
  | .linkLoss => Sys2Proof.Machine.execLinkLoss s
  | .twinLinkUp => Sys2Proof.Machine.execTwinLinkUp s
  | .takeover => Sys2Proof.Machine.execTakeover s
  | .alone r => Sys2Proof.Machine.execAlone r s
  | .rejoin r => Sys2Proof.Machine.execRejoin r s
  | .hello p => Sys2Proof.Machine.execHello p s
  | .twinTime offset => Sys2Proof.Machine.execTwinTime offset s
  | .forwardedCommand c => Sys2Proof.Machine.execForwardedCommand c s
  | .mirror seq origin msg => Sys2Proof.Machine.execMirror seq origin msg s
  | .mirrorAckTimeout seq => Sys2Proof.Machine.execMirrorAckTimeout seq s
  | .resyncRequest => Sys2Proof.Machine.execResyncRequest s
  | .stateTransfer x => Sys2Proof.Machine.execStateTransfer x s
  | .resyncComplete => Sys2Proof.Machine.execResyncComplete s
  | .partnerLightTest => Sys2Proof.Machine.execPartnerLightTest s
  | .safetyInputChange input a b => Sys2Proof.Machine.execSafetyInputChange input a b s
  | .discrepancy input => Sys2Proof.Machine.execDiscrepancy input s
  | .stoInput a b => Sys2Proof.Machine.execStoInput a b s
  | .stoDiscrepancy => Sys2Proof.Machine.execStoDiscrepancy s
  | .ss1Timeout => Sys2Proof.Machine.execSs1Timeout s
  | .contactorOpenDelay output => Sys2Proof.Machine.execContactorOpenDelay output s
  | .testPulseEnd output ok => Sys2Proof.Machine.execTestPulseEnd output ok s
  | .testPulseRequest r v => Sys2Proof.Machine.execTestPulseRequest r v s
  | .outputReadback output => Sys2Proof.Machine.execOutputReadback output s
  | .feedback contact level => Sys2Proof.Machine.execFeedback contact level s
  | .registeredFrame bus addr frame => Sys2Proof.Machine.execRegisteredFrame bus addr frame s
  | .connectionExpiry conn => Sys2Proof.Machine.execConnectionExpiry conn s
  | .registeredFrameSend conn => Sys2Proof.Machine.execRegisteredFrameSend conn s
  | .insulationMeasure mean valid => Sys2Proof.Machine.execInsulationMeasure mean valid s
  | .conlockRelease => Sys2Proof.Machine.execConlockRelease s
  | .enrOpen r => Sys2Proof.Machine.execEnrOpen r s
  | .enrDataWrite r v => Sys2Proof.Machine.execEnrDataWrite r v s
  | .install r => Sys2Proof.Machine.execInstall r s
  | .rekeyx r => Sys2Proof.Machine.execRekeyx r s
  | .dxkGenerated => Sys2Proof.Machine.execDxkGenerated s
  | .extend r => Sys2Proof.Machine.execExtend r s
  | .close r index => Sys2Proof.Machine.execClose r index s
  | .fwOpen r slot => Sys2Proof.Machine.execFwOpen r slot s
  | .fwDataWrite r v => Sys2Proof.Machine.execFwDataWrite r v s
  | .fwCommit r slot => Sys2Proof.Machine.execFwCommit r slot s
  | .fwMark r slot => Sys2Proof.Machine.execFwMark r slot s
  | .confirm r => Sys2Proof.Machine.execConfirm r s
  | .fwErase r slot => Sys2Proof.Machine.execFwErase r slot s
  | .fwAbort r slot => Sys2Proof.Machine.execFwAbort r slot s
  | .revoke0 r => Sys2Proof.Machine.execRevoke0 r s
  | .frankRequest r => Sys2Proof.Machine.execFrankRequest r s
  | .statementCapture => Sys2Proof.Machine.execStatementCapture s
  | .statementReady => Sys2Proof.Machine.execStatementReady s
  | .frankReq f => Sys2Proof.Machine.execFrankReq f s
  | .frankRep f => Sys2Proof.Machine.execFrankRep f s
  | .keyTransport k => Sys2Proof.Machine.execKeyTransport k s
  | .keyConfirm k => Sys2Proof.Machine.execKeyConfirm k s
  | .keyTransportTimeout peer => Sys2Proof.Machine.execKeyTransportTimeout peer s
  | .sessionFrame f => Sys2Proof.Machine.execSessionFrame f s
  | .sessionRekey peer => Sys2Proof.Machine.execSessionRekey peer s
  | .oldSessionExpiry peer => Sys2Proof.Machine.execOldSessionExpiry peer s
  | .broadcast b => Sys2Proof.Machine.execBroadcast b s
  | .rngHealthFail => Sys2Proof.Machine.execRngHealthFail s
  | .rngRead r => Sys2Proof.Machine.execRngRead r s
  | .siteCommand m => Sys2Proof.Machine.execSiteCommand m s
  | .siteDeadLetter m => Sys2Proof.Machine.execSiteDeadLetter m s
  | .siteData m => Sys2Proof.Machine.execSiteData m s
  | .reassemblyTimeout peer => Sys2Proof.Machine.execReassemblyTimeout peer s
  | .sitePortUp port => Sys2Proof.Machine.execSitePortUp port s
  | .sitePortDown port => Sys2Proof.Machine.execSitePortDown port s
  | .ptpMessage m => Sys2Proof.Machine.execPtpMessage m s
  | .functionLevelReset => Sys2Proof.Machine.execFunctionLevelReset s
  | .qspiRead addr words => Sys2Proof.Machine.execQspiRead addr words s
  | .qspiReadCap addr words => Sys2Proof.Machine.execQspiReadCap addr words s
  | .qspiWrite addr data => Sys2Proof.Machine.execQspiWrite addr data s
  | .qspiStatus => Sys2Proof.Machine.execQspiStatus s
  | .canFrameReceived f => Sys2Proof.Machine.execCanFrameReceived f s
  | .canTxRequest r ctl bits => Sys2Proof.Machine.execCanTxRequest r ctl bits s
  | .canTxDone ctl buf => Sys2Proof.Machine.execCanTxDone ctl buf s
  | .canBusOff ctl => Sys2Proof.Machine.execCanBusOff ctl s
  | .canBusOffRecovery ctl => Sys2Proof.Machine.execCanBusOffRecovery ctl s
  | .referenceEdgeGap => Sys2Proof.Machine.execReferenceEdgeGap s
  | .lockWindowEnd count => Sys2Proof.Machine.execLockWindowEnd count s
  | .tuningRangeEnd => Sys2Proof.Machine.execTuningRangeEnd s
  | .referenceSelect r v => Sys2Proof.Machine.execReferenceSelect r v s
  | .cold aonLost => Sys2Proof.Machine.execCold aonLost s
  | .brownout supplies => Sys2Proof.Machine.execBrownout supplies s
  | .pin => Sys2Proof.Machine.execPin s
  | .watchdogExpiry => Sys2Proof.Machine.execWatchdogExpiry s
  | .hostReset r key => Sys2Proof.Machine.execHostReset r key s
  | .resetRelease fselHigh => Sys2Proof.Machine.execResetRelease fselHigh s
  | .watchdogKick r code => Sys2Proof.Machine.execWatchdogKick r code s
  | .wake cause => Sys2Proof.Machine.execWake cause s
  | .dieTempSample temps => Sys2Proof.Machine.execDieTempSample temps s
  | .ringMeasure counts => Sys2Proof.Machine.execRingMeasure counts s
  | .hourlyUpdate => Sys2Proof.Machine.execHourlyUpdate s
  | .counterFlush => Sys2Proof.Machine.execCounterFlush s
  | .retentionRewrite part => Sys2Proof.Machine.execRetentionRewrite part s
  | .dcLinkWindow link samples => Sys2Proof.Machine.execDcLinkWindow link samples s
  | .reportNow r => Sys2Proof.Machine.execReportNow r s
  | .reportPeriod => Sys2Proof.Machine.execReportPeriod s
  | .targetCommit r axis hi => Sys2Proof.Machine.execTargetCommit r axis hi s
  | .softLimitCommit r axis positive hi => Sys2Proof.Machine.execSoftLimitCommit r axis positive hi s
  | .home r axis => Sys2Proof.Machine.execHome r axis s
  | .stop r axis => Sys2Proof.Machine.execStop r axis s
  | .qstop r axis => Sys2Proof.Machine.execQstop r axis s
  | .enable r axis => Sys2Proof.Machine.execEnable r axis s
  | .disable r axis => Sys2Proof.Machine.execDisable r axis s
  | .homingEdge axis tap => Sys2Proof.Machine.execHomingEdge axis tap s
  | .limitSwitch axis positive => Sys2Proof.Machine.execLimitSwitch axis positive s
  | .driverFault axis => Sys2Proof.Machine.execDriverFault axis s
  | .followingError axis => Sys2Proof.Machine.execFollowingError axis s
  | .latchEdge axis tap => Sys2Proof.Machine.execLatchEdge axis tap s
  | .ssiRead axis bits => Sys2Proof.Machine.execSsiRead axis bits s
  | .crystalEdge => Sys2Proof.Machine.execCrystalEdge s
  | .encoderTransition axis a b z => Sys2Proof.Machine.execEncoderTransition axis a b z s
  | .mirrorAck seq => Sys2Proof.Machine.execMirrorAck seq s
  | .uncorrectableMemoryError => Sys2Proof.Machine.execUncorrectableMemoryError s
  | .pcieLinkChange up rate width => Sys2Proof.Machine.execPcieLinkChange up rate width s

end Sys2Proof.Machine
end

