-- ==== Sys2Proof/Safety.lean ====
section
/-!
DEFINITION. What a safe run is: the sound states, what one step may do to a state, and how a statement says what a command leaves
alone. No meaning uses this file.
-/
namespace Sys2Proof.Machine

/-- The register table is sorted, and every value fits a 32-bit register (R4). -/
def regsOk (m : Sparse Nat) : Prop := srising none m = true ∧ ∀ e ∈ m, e.2 < 2 ^ 32

/-- The capture memory keeps its canonical form inside the 32 MiB of its window (R316), and so do the words of the flight recorder (R333). -/
def memOk (c : Capture) : Prop := Memory.wf c.mem = true ∧ (∀ e ∈ c.mem, e.1 < 33554432) ∧ swf 0 c.flight = true

/-- The states every step keeps to: registers and memories in their canonical form, the counter inside its 104 bits (R32). -/
structure Sound (s : State) : Prop where
  regs : regsOk s.regs
  time : s.time.acc < 2 ^ 104
  memory : memOk s.capture

/-- What never goes back: the time that has passed, what has been sent, the free values drawn. -/
structure Onward (s t : State) : Prop where
  elapsed : s.time.elapsed ≤ t.time.elapsed
  outbox : s.outbox <+: t.outbox
  fresh : s.fresh ≤ t.fresh

/-- The parts of State; `regs` is the register table as a whole, `memory` the capture memory and the flight recorder's words, `capture`
the rest of the capture unit. -/
inductive Part
  | regs | time | root | shadows | hidden | office | capture | legs | trips | sense | image | slots | fabric | acceptance
  | safety | security | links | twin | health | axes | axisTick | axisNv | journal | cycle | fresh | outbox | memory
deriving DecidableEq, Repr

/-- The register fields of Machine/Regs.lean by name. -/
inductive Reg
  | NODE_REV_PART | NODE_REV_GRADE | NODE_REV_REV | NODE_IDENT_PROV | NODE_IDENT_TWIN | NODE_IDENT_CLUSTER
  | NODE_IDENT_NODE | NODE_PAIR_PAIR_VALID | NODE_PAIR_PARTNER | NODE_PAIR_PAIR_ID | NODE_MODE_REFUSE | NODE_MODE_ENTRY
  | NODE_MODE_QUIET | NODE_MODE_PENDING | NODE_MODE_LATCH | NODE_MODE_MODE | NODE_MODE_REQ_PWR | NODE_MODE_REQ_VALID
  | NODE_MODE_REQ_MODE | NODE_TEST_RUNNING | NODE_TEST_RESULT | NODE_TEST_FAILUNIT | NODE_TEST_CAL | NODE_TEST_FULL
  | NODE_TEST_LIGHT | NODE_ADDRERR_COUNT | NODE_ADDRERR_REQ | NODE_ADDRERR_KIND | NODE_ADDRERR_ADDR_ADDR
  | NODE_TRIPCFG_FILT | NODE_TRIPSTAT_LTOTAL | NODE_TRIPSTAT_BLANKED | NODE_TRIPSTAT_CLRREF | NODE_TRIPSTAT_CMPOUT
  | NODE_TRIPSTAT_ANY | NODE_BTRIP_BRIDGE | NODE_BTRIP_CLR_BRIDGE | NODE_WCMPST_UNDER | NODE_WCMPST_OVER
  | NODE_TWIN_CFG_MISMATCH | NODE_TWIN_CFG_SILN | NODE_TWIN_CFG_EDGEW | NODE_TWIN_CFG_TSIL | NODE_TWIN_CHK_TEST
  | NODE_TWIN_CHK_STOL | NODE_TWIN_CTRL_ALONE | NODE_TWIN_CTRL_REJOIN | NODE_TWIN_CTRL_HANDOVER | NODE_TWIN_STAT_ROLE
  | NODE_TWIN_STAT_LINK | NODE_TWIN_STAT_SILENT | NODE_TWIN_STAT_DIVERGED | NODE_TWIN_STAT_SEQ_END | NODE_TWIN_STAT_REFUSE
  | NODE_TWIN_STAT_LINK_DOWN | NODE_TWIN_STAT_HASH_MISMATCH | NODE_TWIN_STAT_UNEXPLAINED | NODE_TWIN_STAT_SENSE_DISAGREE
  | NODE_TWIN_STAT_RB_DISAGREE | NODE_TWIN_STAT_TEST_FAIL | NODE_TWIN_STAT_TAKEOVER | NODE_TWIN_STAT_HELDLOSS
  | NODE_TWIN_CNT_BMISS | NODE_TWIN_CNT_MISM | NODE_TWIN_CNT_SDCH | NODE_TWIN_SEQ_LO_NEXT | NODE_TWIN_SEQ_HI_NEXT
  | NODE_TWIN_MISK_LO_K | NODE_TWIN_MISK_HI_K | NODE_LTRIPm_LEG | NODE_LTINm_LEG | NODE_BLANKb_T | NODE_BCAUSEb_FIRST
  | NODE_BCAUSEb_LAST | NODE_BCAUSEb_NCAUSE | NODE_BCNTb_TOTAL | NODE_BCNTb_WIN | NODE_WCMPc_CFG_ACT | NODE_WCMPc_CFG_EN_HI
  | NODE_WCMPc_CFG_EN_LO | NODE_WCMPc_CFG_SRC | NODE_WCMPc_CFG_CFILT | NODE_WCMPc_CFG_MASK | NODE_WCMPc_THR_HYST
  | NODE_WCMPc_THR_HI | NODE_WCMPc_THR_LO | POST_NOW_LO_FRAC | POST_NOW_HI_SEC | POST_STATUS_CHANGED | POST_STATUS_STEPPED
  | POST_STATUS_SRC_ACT | POST_STATUS_COARSE | POST_STATUS_STATE | POST_CTRL_SLEW | POST_CTRL_PRIO | POST_CTRL_PPS_EDGE
  | POST_CTRL_EN_TWIN | POST_CTRL_EN_PPS | POST_CTRL_EN_PTP1 | POST_CTRL_EN_PTP0 | POST_HOLD_FU | POST_HOLD_POOR_US
  | POST_HOLD_GOOD_NS | POST_ERRB_ERR_NS | POST_OFFSET_OFS_NS | POST_TRIM_TRIM | POST_EPOCH_LO_SEC | POST_EPOCH_HI_VALID
  | POST_EPOCH_HI_SEC | POST_SET_LO_FRAC | POST_SET_HI_SEC | POST_TIG_LAPSES | POST_TIG_HWFAULT | POST_TIG_TIMEBASE
  | POST_TIG_OVERRUN | POST_TIG_FOREIGN | POST_TIG_IMAGE | POST_TIG_HELD | POST_ACC_SUPER | POST_ACC_LATE
  | POST_TIGBASE_LO_FRAC | POST_TIGBASE_HI_SEC | CK_STATUS_LOCK | CK_STATUS_SHADOW | CK_STATUS_ACT | CK_STATUS_REF1_OK
  | CK_STATUS_REF0_OK | CK_STATUS_LOSS | CK_STATUS_RELOCKS | CK_REF_AUTO | CK_REF_SEL | CK_REF_REF1_EN | CK_REF_REF0_EN
  | CK_LOCKWIN_COUNT | CK_RSTCAUSE_RESET_HELD_LONG | CK_RSTCAUSE_WAKE | CK_RSTCAUSE_COARSE_LOST | CK_RSTCAUSE_BOSUP
  | CK_RSTCAUSE_KIND | CK_RSTREQ_KEY | CK_HOLD_MS | CK_WDOG_CFG_TIMEOUT | CK_WDOG_KICK_CODE | CK_WDOG_STAT_REMAIN
  | CK_WAKE_CAUSE | CK_WAKE_INPUT | CK_WAKE_ALARM_EN | CK_WAKE_WAKEN_EN | CK_ALARM_LO_FRAC | CK_ALARM_HI_SEC
  | LEGn_CFG_BLANK | LEGn_CFG_PHASE | LEGn_CFG_BRIDGE | LEGn_CFG_SAFE | LEGn_CFG_POLICY | LEGn_CFG_SENSE
  | LEGn_CFG_ASSIGNED | LEGn_DT_RISE | LEGn_DT_FALL | LEGn_MINP_MIN | LEGn_DUTY_DUTY | LEGn_PHASE_PHASE
  | LEGn_PERIOD_PERIOD | LEGn_DUTY_ACT_DUTY | LEGn_PHASE_ACT_PHASE | LEGn_PERIOD_ACT_PERIOD | LEGn_FORCE_CODE
  | LEGn_STATUS_DRIVE | LEGn_STATUS_HELD | LEGn_STATUS_PEND_D | LEGn_STATUS_PEND_PP | LEGn_STATUS_FCODE
  | LEGn_STATUS_FREFUSED | LEGn_STATUS_DSAT | LEGn_STATUS_RBERR | LEGn_STATUS_PCLAMP | LEGn_STATUS_RB_GL
  | LEGn_STATUS_RB_GH | LEGn_STATUS_GL | LEGn_STATUS_GH | LEGn_DEBT_D | LEGn_DEBTMAX_D | LEGn_COUNT_DOWN | LEGn_COUNT_C
  | LEGn_RBCFG_SETTLE | LEGn_RBCFG_TOL | LEGn_CNT_SHORT | LEGn_CNT_SUPER | BRIDGE_CFG_PRESENT | BRIDGE_CFG_ROLE
  | BRIDGE_CFG_NPHASE | BRIDGE_CFG_CFORM | BRIDGE_CFG_RELOAD | BRIDGE_CTRL_SRC | BRIDGE_LOAD_ALL | BRIDGE_LOAD_LOAD
  | BRIDGE_STATUS_SWITCHING | BRIDGE_STATUS_HELD | BRIDGE_STATUS_FORCED | BRIDGE_STATUS_HOSTW | SN_STATUS_RUN
  | SN_STATUS_GRPEN | SN_STATUS_BANKEN | SN_CAL_FAILED | SN_CAL_PHASE | SN_CAL_FSLICE | SN_CAL_STEP | SN_CAL_ROT
  | SN_SNAP_REQ_BRIDGE | SN_SNAPSTAT_DONE | SN_SNAPSTAT_DROP | SN_SNAPSTAT_PEND | SN_ORm_CH | SN_LOSTm_CH | SN_BANKb_PM
  | SN_BANKb_FORM | SN_BANKb_SDLEV | SN_BANKb_CLKADJ | SN_BANKb_SDLY | SN_GRPg_EN | SN_GRPg_PS | SN_CHc_CODE_CODE
  | SN_CHc_STAT_STAT | DEC_PATHp_CFG_DEFINED | DEC_PATHp_CFG_K | DEC_PATHp_CFG_DLOG | DEC_PATHp_CFG_R | DEC_PATHp_CFG_SRC
  | DEC_PATHp_BANK_FADING | DEC_PATHp_BANK_HELD | DEC_PATHp_BANK_HBANK | DEC_PATHp_BANK_TBANK | DEC_PATHp_BANK_ABANK
  | DEC_PATHp_BANK_ARESP | DEC_PATHp_BANK_XFLEFT | DEC_PATHp_REQ_SRCREQ | DEC_PATHp_REQ_NEWSRC | DEC_PATHp_REQ_BANKREQ
  | DEC_PATHp_REQ_BANK | DEC_PATHp_DLY_UNITS | DEC_RSr_CFG_DEFINED | DEC_RSr_CFG_LOCK | DEC_RSr_CFG_BRIDGE
  | DEC_RSr_CFG_LOGN | DEC_RSr_CFG_CYC | DEC_RSr_CFG_SRC | DEC_RSr_IDX_RUN | DEC_RSr_IDX_J | DEC_RSr_CNT_OUT
  | DEC_RSr_CNT_LATE | FAB_STATUS_RUN | FAB_STATUS_FAULT | FAB_STATUS_FTILE | FAB_STATUS_SLOT | FAB_STATUS_ACTIVE
  | FAB_STATUS_USED | FAB_CFG_G3 | FAB_CFG_G2 | FAB_CFG_G1 | FAB_CFG_G0 | FAB_CFG_FRATE | FAB_SNAP_FROZEN | FAB_SNAP_FREEZE
  | FAB_NAN_INF | FAB_NAN_NAN | FAB_FRAME_LO_K | FAB_FRAME_HI_K | FAB_HASH_LO_H | FAB_HASH_HI_H | FAB_SNAPK_LO_K
  | FAB_SNAPK_HI_K | FAB_FAULTK_LO_K | FAB_FAULTK_HI_K | FAB_TILEt_STATIC_CYC | FAB_TILEt_PEAK_CYC | SO_STATUS_RUN
  | SO_STATUS_INFLIGHT | SO_STATUS_SWUSE | SO_LEDCFG_EN | SO_LEDCFG_STOP | SO_LEDCFG_MASK | SO_LEDSTAT_FULL
  | SO_LEDSTAT_WRAPPED | SO_LEDSTAT_LOST | SO_LEDPTR_NEXT | SO_DROP_HW | SO_DROP_DL | SO_POST_OP | SO_POST_TRAY
  | SO_RESULT_CODE | SO_RESULT_ID | SO_TRAY_LO_FRAC | SO_TRAY_HI_SEC | SO_CANCEL_KIND | SO_CANCEL_ID | SO_CANRES_RES
  | SO_CUR_BUSY | SO_CUR_ID | SO_DONE_DONE | SO_COREc_BUSY | SO_COREc_NOFLOW | SO_COREc_FLOW | SO_COREc_ID | SO_PHp_PRIO
  | SO_PHp_CORES | SO_PHp_LIMIT | SO_PHp_COUNT | SO_TRAYt_COUNT | CAP_STATUS_ARMED | CAP_STATUS_DONE | CAP_FRCFG_HOLD
  | CAP_FRCFG_AUTOHOLD | CAP_FRCFG_EXT | CAP_FRCFG_CKPLOG | CAP_FRCFG_POSTFR | CAP_FRSTAT_REC | CAP_FRSTAT_HCAUSE
  | CAP_FRSTAT_GAPS | CAP_FRPTR_OFS | CAP_FRDATA_LO_D | CAP_FRDATA_HI_D | CAP_FROLDK_LO_K | CAP_FROLDK_HI_K
  | CAP_FRNEWK_LO_K | CAP_FRNEWK_HI_K | CAP_RPCFG_POST | CAP_RPCFG_STOPDIV | CAP_RPCFG_PH | CAP_RPCFG_NOFLOW
  | CAP_RPCFG_FLOW | CAP_RPSTAT_STATE | CAP_RPSTAT_REASON | CAP_RPSTAT_SKIPS | CAP_RPDIV_SLOT | CAP_RPDIV_NDIV
  | CAP_RPSTART_LO_W | CAP_RPSTART_HI_W | CAP_RPEND_LO_W | CAP_RPEND_HI_W | CAP_RPK_LO_W | CAP_RPK_HI_W | CAP_RPREC_LO_W
  | CAP_RPREC_HI_W | CAP_RPCALC_LO_W | CAP_RPCALC_HI_W | CAP_WINw_CFG_CLK | CAP_WINw_CFG_CLKK | CAP_WINw_CFG_AUTO
  | CAP_WINw_CFG_WRAP | CAP_WINw_CFG_NSEGLOG | CAP_WINw_CFG_NSRC | CAP_WINw_MEM_SIZE | CAP_WINw_MEM_BASE | CAP_WINw_PRE_N
  | CAP_WINw_POST_N | CAP_WINw_TRIG_TKIND | CAP_WINw_TRIG_COND | CAP_WINw_TRIG_MASK | CAP_WINw_TRIG_TID | CAP_WINw_THR_THR
  | CAP_WINw_CTRL_OP | CAP_WINw_STAT_STATE | CAP_WINw_STAT_ARMERR | CAP_WINw_STAT_SEG | CAP_WINw_STAT_NDONE
  | CAP_WINw_MISS_COUNT | CAP_WINw_MISS_NEXT | CAP_WINw_SRCn_SRC | SAF_STATUS_PERMIT | SAF_STATUS_ISTO | SAF_STATUS_STOA
  | SAF_STATUS_STOB | SAF_STATUS_FSEL | SAF_STATUS_DEMAND | SAF_STATUS_RFOFF | SAF_LOCK_FIRST | SAF_LOCK_INDEX
  | SAF_LOCK_NCAUSE | SAF_LOCK_OPEN | SAF_IN_DISCREP | SAF_IN_LEVEL | SAF_OUT_TPACT | SAF_OUT_RB | SAF_OUT_CMD
  | SAF_FB_MISMATCH | SAF_FB_LEVEL | SAF_LRST_PRESSED | SAF_LRST_STUCK | SAF_LRST_SHORT | SAF_LRST_LAST | SAF_PLUG_STATE
  | SAF_PLUG_LOCKCMD | SAF_PLUG_LOCKFB | SAF_PLUG_CODE | SAF_ISO_VALID | SAF_ISO_WARN | SAF_ISO_FAULT | SAF_ISO_R_ISO
  | SAF_TPRES_DISCARD | SAF_TPRES_PASS | SAF_CNT_TPDONE | SAF_CNT_DEMANDS | SAF_TPREQ_CH | SAF_RFj_STAT_DEFINED
  | SAF_RFj_STAT_FRESH | SAF_RFj_STAT_PERMIT | SAF_RFj_STAT_DIR | SAF_RFj_STAT_SEQ | SAF_RFj_CNT_CRCC | SAF_RFj_CNT_CRCK
  | SAF_RFj_CNT_SEQ | SAF_RFj_CNT_TIME | SEC_STATUS_ENROLLED | SEC_STATUS_DXK | SEC_STATUS_RNGFAIL | SEC_STATUS_LOGFULL
  | SEC_STATUS_REVOKED0 | SEC_STATUS_LOGN | SEC_CTRL_OP | SEC_CTRL_SESSION | SEC_RESULT_BUSY | SEC_RESULT_CODE | SEC_RNG_R
  | SEC_CNT_TAGFAIL | SEC_CNT_REPLAY | SEC_SESS_OPEN | SEC_SESSCFG_LIFE | SEC_ENR_DATA_WORD | SEC_ENR_PTR_OFS
  | SEC_FW_CTRL_OP | SEC_FW_CTRL_SLOT | SEC_FW_DATA_WORD | SEC_FW_PTR_OFS | SEC_FW_STATUS_BUSY | SEC_FW_STATUS_CODE
  | SEC_FW_STATUS_BOOTFALL | SEC_FW_STATUS_RUN | SEC_FW_STATUS_MARK | SEC_FW_STATUS_STATE | SEC_IMG_CTRL_OP
  | SEC_IMG_CTRL_SLOT | SEC_IMG_DATA_WORD | SEC_IMG_PTR_OFS | SEC_IMG_STATUS_BUSY | SEC_IMG_STATUS_CODE
  | SEC_IMG_STATUS_ACT_SLOT | SEC_IMG_STATUS_ACT_MARK | SEC_IMG_STATUS_STATE | SEC_IMG_WHERE_SECT | SEC_IMG_WHERE_REC
  | SEC_FW_VERs_VER | SEC_FRANK_CTRL_REQ | SEC_FRANK_STATUS_BUSY | SEC_FRANK_STATUS_DONE | SEC_FRANK_STATUS_CODE
  | SEC_FRANK_STATUS_QUEUE | SEC_FRANK_NONCEn_N | SEC_EXT_Dn_D | SEC_RBi_COUNT | SEC_IMG_VERs_VER | SEC_IMG_IDs_ID
  | LK_STATUS_PCIE_UP | LK_STATUS_GEN | LK_STATUS_WIDTH | LK_STATUS_TWIN_UP | LK_STATUS_CAN_ON | LK_HIRQ_CAUSE
  | LK_HIRQ_EN_EN | LK_CFG_REDUN | LK_CFG_PREF | LK_CFG_SPH | LK_CFG_NOFLOW | LK_CFG_SFLOW | LK_PTP_CFG_SLAVEONLY
  | LK_PTP_CFG_DOMAIN | LK_PTP_CFG_CLASS | LK_PTP_CFG_PRIO1 | LK_PTP_CFG_PRIO2 | LK_TWIN_STAT_BLOCK | LK_TWIN_STAT_SESSION
  | LK_TWIN_STAT_DELAY | LK_TWIN_CNT_TAGFAIL | LK_TWIN_CNT_LATE | LK_SPn_CFG_EN | LK_SPn_CFG_RATE | LK_SPn_CFG_JUMBO
  | LK_SPn_CFG_CLF | LK_SPn_CFG_PTPROLE | LK_SPn_CFG_DELAYM | LK_SPn_CFG_ONESTEP | LK_SPn_CFG_LOGSYNC | LK_SPn_STAT_UP
  | LK_SPn_STAT_RATE | LK_SPn_STAT_PSTATE | LK_SPn_VLAN_EN | LK_SPn_VLAN_PCP | LK_SPn_VLAN_VID | LK_SPn_ASYM_ASYM
  | LK_SPn_CNT_RXDROP | LK_SPn_CNT_DUP | LK_CANc_CFG_EN | LK_CANc_CFG_FD | LK_CANc_CFG_AUTOREC | LK_CANc_CFG_LISTEN
  | LK_CANc_CFG_TDC | LK_CANc_CFG_TDCO | LK_CANc_NBT_BRP | LK_CANc_NBT_TSEG1 | LK_CANc_NBT_TSEG2 | LK_CANc_NBT_SJW
  | LK_CANc_DBT_BRP | LK_CANc_DBT_TSEG1 | LK_CANc_DBT_TSEG2 | LK_CANc_DBT_SJW | LK_CANc_STAT_BUSOFF | LK_CANc_STAT_PASSIVE
  | LK_CANc_STAT_TEC | LK_CANc_STAT_REC | LK_CANc_STAT_LEC | LK_CANc_TXREQ_REQ | LK_CANc_TXDONE_DONE | LK_CANc_FLTf_ID_EN
  | LK_CANc_FLTf_ID_IDE | LK_CANc_FLTf_ID_ID | LK_CANc_FLTf_MASK_MASK | LK_CANc_FLTf_RT_ACT | LK_CANc_FLTf_RT_PH
  | LK_CANc_FLTf_RT_NOFLOW | LK_CANc_FLTf_RT_FLOW | LK_CANc_TXBUFb_W | HL_STATUS_RUN | HL_STATUS_COUNT_LOST | HL_STATUS_OVF
  | HL_CTRL_NOW | HL_CTRL_PERIOD | HL_FLAGS_LO_F | HL_FLAGS_HI_F | HL_NODE_RL | HL_TEMPs_T | HL_ROr_DRIFT | HL_NVp_MAXW
  | HL_LEGn_D_D | AXn_CFG_ENCMODE | AXn_CFG_EGRAY | AXn_CFG_ESCLK | AXn_CFG_EBITS | AXn_CFG_ESSI | AXn_CFG_DIRSU
  | AXn_CFG_EFILT | AXn_STAT_STATE | AXn_STAT_HOMED | AXn_STAT_REHOME_ADVISED | AXn_STAT_FAULT | AXn_STAT_LIMSTOP
  | AXn_STAT_HWLIM | AXn_STAT_TGTERR | AXn_STAT_ENCERR | AXn_STAT_ZSEEN | AXn_STAT_LVALID | AXn_STAT_CHATTER | AXn_CTRL_OP
  | AXn_POS_LO_W | AXn_POS_HI_W | AXn_TGT_LO_W | AXn_TGT_HI_W | AXn_ENC_LO_W | AXn_ENC_HI_W | AXn_SLIMP_LO_W
  | AXn_SLIMP_HI_W | AXn_SLIMN_LO_W | AXn_SLIMN_HI_W | AXn_VMAX_V | AXn_AMAX_A | AXn_JMAX_J | AXn_ASTOP_A | AXn_HOME_METHOD
  | AXn_HOME_HFILT | AXn_HOME_HVEL | AXn_HOFS_LO_W | AXn_HOFS_HI_W | AXn_LCFG_LSRC | AXn_LCFG_LEDGE | AXn_LCFG_CONFTOL
  | AXn_LCFG_EFERR | AXn_LPOS_LO_W | AXn_LPOS_HI_W | AXn_LENC_LO_W | AXn_LENC_HI_W | AXn_LPM_LO_W | AXn_LPM_HI_W
deriving DecidableEq

/-- The field that a name stands for; a repeated register takes its one or two indexes. -/
def Reg.fld : Reg → Nat → Nat → Fld
  | .NODE_REV_PART, _, _ => R.NODE_REV_PART
  | .NODE_REV_GRADE, i, _ => R.NODE_REV_GRADE i
  | .NODE_REV_REV, _, _ => R.NODE_REV_REV
  | .NODE_IDENT_PROV, _, _ => R.NODE_IDENT_PROV
  | .NODE_IDENT_TWIN, _, _ => R.NODE_IDENT_TWIN
  | .NODE_IDENT_CLUSTER, _, _ => R.NODE_IDENT_CLUSTER
  | .NODE_IDENT_NODE, _, _ => R.NODE_IDENT_NODE
  | .NODE_PAIR_PAIR_VALID, _, _ => R.NODE_PAIR_PAIR_VALID
  | .NODE_PAIR_PARTNER, _, _ => R.NODE_PAIR_PARTNER
  | .NODE_PAIR_PAIR_ID, _, _ => R.NODE_PAIR_PAIR_ID
  | .NODE_MODE_REFUSE, _, _ => R.NODE_MODE_REFUSE
  | .NODE_MODE_ENTRY, _, _ => R.NODE_MODE_ENTRY
  | .NODE_MODE_QUIET, _, _ => R.NODE_MODE_QUIET
  | .NODE_MODE_PENDING, _, _ => R.NODE_MODE_PENDING
  | .NODE_MODE_LATCH, _, _ => R.NODE_MODE_LATCH
  | .NODE_MODE_MODE, _, _ => R.NODE_MODE_MODE
  | .NODE_MODE_REQ_PWR, _, _ => R.NODE_MODE_REQ_PWR
  | .NODE_MODE_REQ_VALID, _, _ => R.NODE_MODE_REQ_VALID
  | .NODE_MODE_REQ_MODE, _, _ => R.NODE_MODE_REQ_MODE
  | .NODE_TEST_RUNNING, _, _ => R.NODE_TEST_RUNNING
  | .NODE_TEST_RESULT, _, _ => R.NODE_TEST_RESULT
  | .NODE_TEST_FAILUNIT, _, _ => R.NODE_TEST_FAILUNIT
  | .NODE_TEST_CAL, _, _ => R.NODE_TEST_CAL
  | .NODE_TEST_FULL, _, _ => R.NODE_TEST_FULL
  | .NODE_TEST_LIGHT, _, _ => R.NODE_TEST_LIGHT
  | .NODE_ADDRERR_COUNT, _, _ => R.NODE_ADDRERR_COUNT
  | .NODE_ADDRERR_REQ, _, _ => R.NODE_ADDRERR_REQ
  | .NODE_ADDRERR_KIND, _, _ => R.NODE_ADDRERR_KIND
  | .NODE_ADDRERR_ADDR_ADDR, _, _ => R.NODE_ADDRERR_ADDR_ADDR
  | .NODE_TRIPCFG_FILT, _, _ => R.NODE_TRIPCFG_FILT
  | .NODE_TRIPSTAT_LTOTAL, _, _ => R.NODE_TRIPSTAT_LTOTAL
  | .NODE_TRIPSTAT_BLANKED, _, _ => R.NODE_TRIPSTAT_BLANKED
  | .NODE_TRIPSTAT_CLRREF, _, _ => R.NODE_TRIPSTAT_CLRREF
  | .NODE_TRIPSTAT_CMPOUT, _, _ => R.NODE_TRIPSTAT_CMPOUT
  | .NODE_TRIPSTAT_ANY, _, _ => R.NODE_TRIPSTAT_ANY
  | .NODE_BTRIP_BRIDGE, _, _ => R.NODE_BTRIP_BRIDGE
  | .NODE_BTRIP_CLR_BRIDGE, _, _ => R.NODE_BTRIP_CLR_BRIDGE
  | .NODE_WCMPST_UNDER, _, _ => R.NODE_WCMPST_UNDER
  | .NODE_WCMPST_OVER, _, _ => R.NODE_WCMPST_OVER
  | .NODE_TWIN_CFG_MISMATCH, _, _ => R.NODE_TWIN_CFG_MISMATCH
  | .NODE_TWIN_CFG_SILN, _, _ => R.NODE_TWIN_CFG_SILN
  | .NODE_TWIN_CFG_EDGEW, _, _ => R.NODE_TWIN_CFG_EDGEW
  | .NODE_TWIN_CFG_TSIL, _, _ => R.NODE_TWIN_CFG_TSIL
  | .NODE_TWIN_CHK_TEST, _, _ => R.NODE_TWIN_CHK_TEST
  | .NODE_TWIN_CHK_STOL, _, _ => R.NODE_TWIN_CHK_STOL
  | .NODE_TWIN_CTRL_ALONE, _, _ => R.NODE_TWIN_CTRL_ALONE
  | .NODE_TWIN_CTRL_REJOIN, _, _ => R.NODE_TWIN_CTRL_REJOIN
  | .NODE_TWIN_CTRL_HANDOVER, _, _ => R.NODE_TWIN_CTRL_HANDOVER
  | .NODE_TWIN_STAT_ROLE, _, _ => R.NODE_TWIN_STAT_ROLE
  | .NODE_TWIN_STAT_LINK, _, _ => R.NODE_TWIN_STAT_LINK
  | .NODE_TWIN_STAT_SILENT, _, _ => R.NODE_TWIN_STAT_SILENT
  | .NODE_TWIN_STAT_DIVERGED, _, _ => R.NODE_TWIN_STAT_DIVERGED
  | .NODE_TWIN_STAT_SEQ_END, _, _ => R.NODE_TWIN_STAT_SEQ_END
  | .NODE_TWIN_STAT_REFUSE, _, _ => R.NODE_TWIN_STAT_REFUSE
  | .NODE_TWIN_STAT_LINK_DOWN, _, _ => R.NODE_TWIN_STAT_LINK_DOWN
  | .NODE_TWIN_STAT_HASH_MISMATCH, _, _ => R.NODE_TWIN_STAT_HASH_MISMATCH
  | .NODE_TWIN_STAT_UNEXPLAINED, _, _ => R.NODE_TWIN_STAT_UNEXPLAINED
  | .NODE_TWIN_STAT_SENSE_DISAGREE, _, _ => R.NODE_TWIN_STAT_SENSE_DISAGREE
  | .NODE_TWIN_STAT_RB_DISAGREE, _, _ => R.NODE_TWIN_STAT_RB_DISAGREE
  | .NODE_TWIN_STAT_TEST_FAIL, _, _ => R.NODE_TWIN_STAT_TEST_FAIL
  | .NODE_TWIN_STAT_TAKEOVER, _, _ => R.NODE_TWIN_STAT_TAKEOVER
  | .NODE_TWIN_STAT_HELDLOSS, _, _ => R.NODE_TWIN_STAT_HELDLOSS
  | .NODE_TWIN_CNT_BMISS, _, _ => R.NODE_TWIN_CNT_BMISS
  | .NODE_TWIN_CNT_MISM, _, _ => R.NODE_TWIN_CNT_MISM
  | .NODE_TWIN_CNT_SDCH, _, _ => R.NODE_TWIN_CNT_SDCH
  | .NODE_TWIN_SEQ_LO_NEXT, _, _ => R.NODE_TWIN_SEQ_LO_NEXT
  | .NODE_TWIN_SEQ_HI_NEXT, _, _ => R.NODE_TWIN_SEQ_HI_NEXT
  | .NODE_TWIN_MISK_LO_K, _, _ => R.NODE_TWIN_MISK_LO_K
  | .NODE_TWIN_MISK_HI_K, _, _ => R.NODE_TWIN_MISK_HI_K
  | .NODE_LTRIPm_LEG, i, _ => R.NODE_LTRIPm_LEG i
  | .NODE_LTINm_LEG, i, _ => R.NODE_LTINm_LEG i
  | .NODE_BLANKb_T, i, _ => R.NODE_BLANKb_T i
  | .NODE_BCAUSEb_FIRST, i, _ => R.NODE_BCAUSEb_FIRST i
  | .NODE_BCAUSEb_LAST, i, _ => R.NODE_BCAUSEb_LAST i
  | .NODE_BCAUSEb_NCAUSE, i, _ => R.NODE_BCAUSEb_NCAUSE i
  | .NODE_BCNTb_TOTAL, i, _ => R.NODE_BCNTb_TOTAL i
  | .NODE_BCNTb_WIN, i, _ => R.NODE_BCNTb_WIN i
  | .NODE_WCMPc_CFG_ACT, i, _ => R.NODE_WCMPc_CFG_ACT i
  | .NODE_WCMPc_CFG_EN_HI, i, _ => R.NODE_WCMPc_CFG_EN_HI i
  | .NODE_WCMPc_CFG_EN_LO, i, _ => R.NODE_WCMPc_CFG_EN_LO i
  | .NODE_WCMPc_CFG_SRC, i, _ => R.NODE_WCMPc_CFG_SRC i
  | .NODE_WCMPc_CFG_CFILT, i, _ => R.NODE_WCMPc_CFG_CFILT i
  | .NODE_WCMPc_CFG_MASK, i, _ => R.NODE_WCMPc_CFG_MASK i
  | .NODE_WCMPc_THR_HYST, i, _ => R.NODE_WCMPc_THR_HYST i
  | .NODE_WCMPc_THR_HI, i, _ => R.NODE_WCMPc_THR_HI i
  | .NODE_WCMPc_THR_LO, i, _ => R.NODE_WCMPc_THR_LO i
  | .POST_NOW_LO_FRAC, _, _ => R.POST_NOW_LO_FRAC
  | .POST_NOW_HI_SEC, _, _ => R.POST_NOW_HI_SEC
  | .POST_STATUS_CHANGED, _, _ => R.POST_STATUS_CHANGED
  | .POST_STATUS_STEPPED, _, _ => R.POST_STATUS_STEPPED
  | .POST_STATUS_SRC_ACT, _, _ => R.POST_STATUS_SRC_ACT
  | .POST_STATUS_COARSE, _, _ => R.POST_STATUS_COARSE
  | .POST_STATUS_STATE, _, _ => R.POST_STATUS_STATE
  | .POST_CTRL_SLEW, _, _ => R.POST_CTRL_SLEW
  | .POST_CTRL_PRIO, _, _ => R.POST_CTRL_PRIO
  | .POST_CTRL_PPS_EDGE, _, _ => R.POST_CTRL_PPS_EDGE
  | .POST_CTRL_EN_TWIN, _, _ => R.POST_CTRL_EN_TWIN
  | .POST_CTRL_EN_PPS, _, _ => R.POST_CTRL_EN_PPS
  | .POST_CTRL_EN_PTP1, _, _ => R.POST_CTRL_EN_PTP1
  | .POST_CTRL_EN_PTP0, _, _ => R.POST_CTRL_EN_PTP0
  | .POST_HOLD_FU, _, _ => R.POST_HOLD_FU
  | .POST_HOLD_POOR_US, _, _ => R.POST_HOLD_POOR_US
  | .POST_HOLD_GOOD_NS, _, _ => R.POST_HOLD_GOOD_NS
  | .POST_ERRB_ERR_NS, _, _ => R.POST_ERRB_ERR_NS
  | .POST_OFFSET_OFS_NS, _, _ => R.POST_OFFSET_OFS_NS
  | .POST_TRIM_TRIM, _, _ => R.POST_TRIM_TRIM
  | .POST_EPOCH_LO_SEC, _, _ => R.POST_EPOCH_LO_SEC
  | .POST_EPOCH_HI_VALID, _, _ => R.POST_EPOCH_HI_VALID
  | .POST_EPOCH_HI_SEC, _, _ => R.POST_EPOCH_HI_SEC
  | .POST_SET_LO_FRAC, _, _ => R.POST_SET_LO_FRAC
  | .POST_SET_HI_SEC, _, _ => R.POST_SET_HI_SEC
  | .POST_TIG_LAPSES, _, _ => R.POST_TIG_LAPSES
  | .POST_TIG_HWFAULT, _, _ => R.POST_TIG_HWFAULT
  | .POST_TIG_TIMEBASE, _, _ => R.POST_TIG_TIMEBASE
  | .POST_TIG_OVERRUN, _, _ => R.POST_TIG_OVERRUN
  | .POST_TIG_FOREIGN, _, _ => R.POST_TIG_FOREIGN
  | .POST_TIG_IMAGE, _, _ => R.POST_TIG_IMAGE
  | .POST_TIG_HELD, _, _ => R.POST_TIG_HELD
  | .POST_ACC_SUPER, _, _ => R.POST_ACC_SUPER
  | .POST_ACC_LATE, _, _ => R.POST_ACC_LATE
  | .POST_TIGBASE_LO_FRAC, _, _ => R.POST_TIGBASE_LO_FRAC
  | .POST_TIGBASE_HI_SEC, _, _ => R.POST_TIGBASE_HI_SEC
  | .CK_STATUS_LOCK, _, _ => R.CK_STATUS_LOCK
  | .CK_STATUS_SHADOW, _, _ => R.CK_STATUS_SHADOW
  | .CK_STATUS_ACT, _, _ => R.CK_STATUS_ACT
  | .CK_STATUS_REF1_OK, _, _ => R.CK_STATUS_REF1_OK
  | .CK_STATUS_REF0_OK, _, _ => R.CK_STATUS_REF0_OK
  | .CK_STATUS_LOSS, _, _ => R.CK_STATUS_LOSS
  | .CK_STATUS_RELOCKS, _, _ => R.CK_STATUS_RELOCKS
  | .CK_REF_AUTO, _, _ => R.CK_REF_AUTO
  | .CK_REF_SEL, _, _ => R.CK_REF_SEL
  | .CK_REF_REF1_EN, _, _ => R.CK_REF_REF1_EN
  | .CK_REF_REF0_EN, _, _ => R.CK_REF_REF0_EN
  | .CK_LOCKWIN_COUNT, _, _ => R.CK_LOCKWIN_COUNT
  | .CK_RSTCAUSE_RESET_HELD_LONG, _, _ => R.CK_RSTCAUSE_RESET_HELD_LONG
  | .CK_RSTCAUSE_WAKE, _, _ => R.CK_RSTCAUSE_WAKE
  | .CK_RSTCAUSE_COARSE_LOST, _, _ => R.CK_RSTCAUSE_COARSE_LOST
  | .CK_RSTCAUSE_BOSUP, _, _ => R.CK_RSTCAUSE_BOSUP
  | .CK_RSTCAUSE_KIND, _, _ => R.CK_RSTCAUSE_KIND
  | .CK_RSTREQ_KEY, _, _ => R.CK_RSTREQ_KEY
  | .CK_HOLD_MS, _, _ => R.CK_HOLD_MS
  | .CK_WDOG_CFG_TIMEOUT, _, _ => R.CK_WDOG_CFG_TIMEOUT
  | .CK_WDOG_KICK_CODE, _, _ => R.CK_WDOG_KICK_CODE
  | .CK_WDOG_STAT_REMAIN, _, _ => R.CK_WDOG_STAT_REMAIN
  | .CK_WAKE_CAUSE, _, _ => R.CK_WAKE_CAUSE
  | .CK_WAKE_INPUT, _, _ => R.CK_WAKE_INPUT
  | .CK_WAKE_ALARM_EN, _, _ => R.CK_WAKE_ALARM_EN
  | .CK_WAKE_WAKEN_EN, _, _ => R.CK_WAKE_WAKEN_EN
  | .CK_ALARM_LO_FRAC, _, _ => R.CK_ALARM_LO_FRAC
  | .CK_ALARM_HI_SEC, _, _ => R.CK_ALARM_HI_SEC
  | .LEGn_CFG_BLANK, i, _ => R.LEGn_CFG_BLANK i
  | .LEGn_CFG_PHASE, i, _ => R.LEGn_CFG_PHASE i
  | .LEGn_CFG_BRIDGE, i, _ => R.LEGn_CFG_BRIDGE i
  | .LEGn_CFG_SAFE, i, _ => R.LEGn_CFG_SAFE i
  | .LEGn_CFG_POLICY, i, _ => R.LEGn_CFG_POLICY i
  | .LEGn_CFG_SENSE, i, _ => R.LEGn_CFG_SENSE i
  | .LEGn_CFG_ASSIGNED, i, _ => R.LEGn_CFG_ASSIGNED i
  | .LEGn_DT_RISE, i, _ => R.LEGn_DT_RISE i
  | .LEGn_DT_FALL, i, _ => R.LEGn_DT_FALL i
  | .LEGn_MINP_MIN, i, _ => R.LEGn_MINP_MIN i
  | .LEGn_DUTY_DUTY, i, _ => R.LEGn_DUTY_DUTY i
  | .LEGn_PHASE_PHASE, i, _ => R.LEGn_PHASE_PHASE i
  | .LEGn_PERIOD_PERIOD, i, _ => R.LEGn_PERIOD_PERIOD i
  | .LEGn_DUTY_ACT_DUTY, i, _ => R.LEGn_DUTY_ACT_DUTY i
  | .LEGn_PHASE_ACT_PHASE, i, _ => R.LEGn_PHASE_ACT_PHASE i
  | .LEGn_PERIOD_ACT_PERIOD, i, _ => R.LEGn_PERIOD_ACT_PERIOD i
  | .LEGn_FORCE_CODE, i, _ => R.LEGn_FORCE_CODE i
  | .LEGn_STATUS_DRIVE, i, _ => R.LEGn_STATUS_DRIVE i
  | .LEGn_STATUS_HELD, i, _ => R.LEGn_STATUS_HELD i
  | .LEGn_STATUS_PEND_D, i, _ => R.LEGn_STATUS_PEND_D i
  | .LEGn_STATUS_PEND_PP, i, _ => R.LEGn_STATUS_PEND_PP i
  | .LEGn_STATUS_FCODE, i, _ => R.LEGn_STATUS_FCODE i
  | .LEGn_STATUS_FREFUSED, i, _ => R.LEGn_STATUS_FREFUSED i
  | .LEGn_STATUS_DSAT, i, _ => R.LEGn_STATUS_DSAT i
  | .LEGn_STATUS_RBERR, i, _ => R.LEGn_STATUS_RBERR i
  | .LEGn_STATUS_PCLAMP, i, _ => R.LEGn_STATUS_PCLAMP i
  | .LEGn_STATUS_RB_GL, i, _ => R.LEGn_STATUS_RB_GL i
  | .LEGn_STATUS_RB_GH, i, _ => R.LEGn_STATUS_RB_GH i
  | .LEGn_STATUS_GL, i, _ => R.LEGn_STATUS_GL i
  | .LEGn_STATUS_GH, i, _ => R.LEGn_STATUS_GH i
  | .LEGn_DEBT_D, i, _ => R.LEGn_DEBT_D i
  | .LEGn_DEBTMAX_D, i, _ => R.LEGn_DEBTMAX_D i
  | .LEGn_COUNT_DOWN, i, _ => R.LEGn_COUNT_DOWN i
  | .LEGn_COUNT_C, i, _ => R.LEGn_COUNT_C i
  | .LEGn_RBCFG_SETTLE, i, _ => R.LEGn_RBCFG_SETTLE i
  | .LEGn_RBCFG_TOL, i, _ => R.LEGn_RBCFG_TOL i
  | .LEGn_CNT_SHORT, i, _ => R.LEGn_CNT_SHORT i
  | .LEGn_CNT_SUPER, i, _ => R.LEGn_CNT_SUPER i
  | .BRIDGE_CFG_PRESENT, i, _ => R.BRIDGE_CFG_PRESENT i
  | .BRIDGE_CFG_ROLE, i, _ => R.BRIDGE_CFG_ROLE i
  | .BRIDGE_CFG_NPHASE, i, _ => R.BRIDGE_CFG_NPHASE i
  | .BRIDGE_CFG_CFORM, i, _ => R.BRIDGE_CFG_CFORM i
  | .BRIDGE_CFG_RELOAD, i, _ => R.BRIDGE_CFG_RELOAD i
  | .BRIDGE_CTRL_SRC, i, _ => R.BRIDGE_CTRL_SRC i
  | .BRIDGE_LOAD_ALL, i, _ => R.BRIDGE_LOAD_ALL i
  | .BRIDGE_LOAD_LOAD, i, _ => R.BRIDGE_LOAD_LOAD i
  | .BRIDGE_STATUS_SWITCHING, i, _ => R.BRIDGE_STATUS_SWITCHING i
  | .BRIDGE_STATUS_HELD, i, _ => R.BRIDGE_STATUS_HELD i
  | .BRIDGE_STATUS_FORCED, i, _ => R.BRIDGE_STATUS_FORCED i
  | .BRIDGE_STATUS_HOSTW, i, _ => R.BRIDGE_STATUS_HOSTW i
  | .SN_STATUS_RUN, _, _ => R.SN_STATUS_RUN
  | .SN_STATUS_GRPEN, _, _ => R.SN_STATUS_GRPEN
  | .SN_STATUS_BANKEN, _, _ => R.SN_STATUS_BANKEN
  | .SN_CAL_FAILED, _, _ => R.SN_CAL_FAILED
  | .SN_CAL_PHASE, _, _ => R.SN_CAL_PHASE
  | .SN_CAL_FSLICE, _, _ => R.SN_CAL_FSLICE
  | .SN_CAL_STEP, _, _ => R.SN_CAL_STEP
  | .SN_CAL_ROT, _, _ => R.SN_CAL_ROT
  | .SN_SNAP_REQ_BRIDGE, _, _ => R.SN_SNAP_REQ_BRIDGE
  | .SN_SNAPSTAT_DONE, _, _ => R.SN_SNAPSTAT_DONE
  | .SN_SNAPSTAT_DROP, _, _ => R.SN_SNAPSTAT_DROP
  | .SN_SNAPSTAT_PEND, _, _ => R.SN_SNAPSTAT_PEND
  | .SN_ORm_CH, i, _ => R.SN_ORm_CH i
  | .SN_LOSTm_CH, i, _ => R.SN_LOSTm_CH i
  | .SN_BANKb_PM, i, _ => R.SN_BANKb_PM i
  | .SN_BANKb_FORM, i, _ => R.SN_BANKb_FORM i
  | .SN_BANKb_SDLEV, i, _ => R.SN_BANKb_SDLEV i
  | .SN_BANKb_CLKADJ, i, _ => R.SN_BANKb_CLKADJ i
  | .SN_BANKb_SDLY, i, _ => R.SN_BANKb_SDLY i
  | .SN_GRPg_EN, i, _ => R.SN_GRPg_EN i
  | .SN_GRPg_PS, i, _ => R.SN_GRPg_PS i
  | .SN_CHc_CODE_CODE, i, _ => R.SN_CHc_CODE_CODE i
  | .SN_CHc_STAT_STAT, i, _ => R.SN_CHc_STAT_STAT i
  | .DEC_PATHp_CFG_DEFINED, i, _ => R.DEC_PATHp_CFG_DEFINED i
  | .DEC_PATHp_CFG_K, i, _ => R.DEC_PATHp_CFG_K i
  | .DEC_PATHp_CFG_DLOG, i, _ => R.DEC_PATHp_CFG_DLOG i
  | .DEC_PATHp_CFG_R, i, _ => R.DEC_PATHp_CFG_R i
  | .DEC_PATHp_CFG_SRC, i, _ => R.DEC_PATHp_CFG_SRC i
  | .DEC_PATHp_BANK_FADING, i, _ => R.DEC_PATHp_BANK_FADING i
  | .DEC_PATHp_BANK_HELD, i, _ => R.DEC_PATHp_BANK_HELD i
  | .DEC_PATHp_BANK_HBANK, i, _ => R.DEC_PATHp_BANK_HBANK i
  | .DEC_PATHp_BANK_TBANK, i, _ => R.DEC_PATHp_BANK_TBANK i
  | .DEC_PATHp_BANK_ABANK, i, _ => R.DEC_PATHp_BANK_ABANK i
  | .DEC_PATHp_BANK_ARESP, i, _ => R.DEC_PATHp_BANK_ARESP i
  | .DEC_PATHp_BANK_XFLEFT, i, _ => R.DEC_PATHp_BANK_XFLEFT i
  | .DEC_PATHp_REQ_SRCREQ, i, _ => R.DEC_PATHp_REQ_SRCREQ i
  | .DEC_PATHp_REQ_NEWSRC, i, _ => R.DEC_PATHp_REQ_NEWSRC i
  | .DEC_PATHp_REQ_BANKREQ, i, _ => R.DEC_PATHp_REQ_BANKREQ i
  | .DEC_PATHp_REQ_BANK, i, _ => R.DEC_PATHp_REQ_BANK i
  | .DEC_PATHp_DLY_UNITS, i, _ => R.DEC_PATHp_DLY_UNITS i
  | .DEC_RSr_CFG_DEFINED, i, _ => R.DEC_RSr_CFG_DEFINED i
  | .DEC_RSr_CFG_LOCK, i, _ => R.DEC_RSr_CFG_LOCK i
  | .DEC_RSr_CFG_BRIDGE, i, _ => R.DEC_RSr_CFG_BRIDGE i
  | .DEC_RSr_CFG_LOGN, i, _ => R.DEC_RSr_CFG_LOGN i
  | .DEC_RSr_CFG_CYC, i, _ => R.DEC_RSr_CFG_CYC i
  | .DEC_RSr_CFG_SRC, i, _ => R.DEC_RSr_CFG_SRC i
  | .DEC_RSr_IDX_RUN, i, _ => R.DEC_RSr_IDX_RUN i
  | .DEC_RSr_IDX_J, i, _ => R.DEC_RSr_IDX_J i
  | .DEC_RSr_CNT_OUT, i, _ => R.DEC_RSr_CNT_OUT i
  | .DEC_RSr_CNT_LATE, i, _ => R.DEC_RSr_CNT_LATE i
  | .FAB_STATUS_RUN, _, _ => R.FAB_STATUS_RUN
  | .FAB_STATUS_FAULT, _, _ => R.FAB_STATUS_FAULT
  | .FAB_STATUS_FTILE, _, _ => R.FAB_STATUS_FTILE
  | .FAB_STATUS_SLOT, _, _ => R.FAB_STATUS_SLOT
  | .FAB_STATUS_ACTIVE, _, _ => R.FAB_STATUS_ACTIVE
  | .FAB_STATUS_USED, _, _ => R.FAB_STATUS_USED
  | .FAB_CFG_G3, _, _ => R.FAB_CFG_G3
  | .FAB_CFG_G2, _, _ => R.FAB_CFG_G2
  | .FAB_CFG_G1, _, _ => R.FAB_CFG_G1
  | .FAB_CFG_G0, _, _ => R.FAB_CFG_G0
  | .FAB_CFG_FRATE, _, _ => R.FAB_CFG_FRATE
  | .FAB_SNAP_FROZEN, _, _ => R.FAB_SNAP_FROZEN
  | .FAB_SNAP_FREEZE, _, _ => R.FAB_SNAP_FREEZE
  | .FAB_NAN_INF, _, _ => R.FAB_NAN_INF
  | .FAB_NAN_NAN, _, _ => R.FAB_NAN_NAN
  | .FAB_FRAME_LO_K, _, _ => R.FAB_FRAME_LO_K
  | .FAB_FRAME_HI_K, _, _ => R.FAB_FRAME_HI_K
  | .FAB_HASH_LO_H, _, _ => R.FAB_HASH_LO_H
  | .FAB_HASH_HI_H, _, _ => R.FAB_HASH_HI_H
  | .FAB_SNAPK_LO_K, _, _ => R.FAB_SNAPK_LO_K
  | .FAB_SNAPK_HI_K, _, _ => R.FAB_SNAPK_HI_K
  | .FAB_FAULTK_LO_K, _, _ => R.FAB_FAULTK_LO_K
  | .FAB_FAULTK_HI_K, _, _ => R.FAB_FAULTK_HI_K
  | .FAB_TILEt_STATIC_CYC, i, _ => R.FAB_TILEt_STATIC_CYC i
  | .FAB_TILEt_PEAK_CYC, i, _ => R.FAB_TILEt_PEAK_CYC i
  | .SO_STATUS_RUN, _, _ => R.SO_STATUS_RUN
  | .SO_STATUS_INFLIGHT, _, _ => R.SO_STATUS_INFLIGHT
  | .SO_STATUS_SWUSE, _, _ => R.SO_STATUS_SWUSE
  | .SO_LEDCFG_EN, _, _ => R.SO_LEDCFG_EN
  | .SO_LEDCFG_STOP, _, _ => R.SO_LEDCFG_STOP
  | .SO_LEDCFG_MASK, _, _ => R.SO_LEDCFG_MASK
  | .SO_LEDSTAT_FULL, _, _ => R.SO_LEDSTAT_FULL
  | .SO_LEDSTAT_WRAPPED, _, _ => R.SO_LEDSTAT_WRAPPED
  | .SO_LEDSTAT_LOST, _, _ => R.SO_LEDSTAT_LOST
  | .SO_LEDPTR_NEXT, _, _ => R.SO_LEDPTR_NEXT
  | .SO_DROP_HW, _, _ => R.SO_DROP_HW
  | .SO_DROP_DL, _, _ => R.SO_DROP_DL
  | .SO_POST_OP, i, _ => R.SO_POST_OP i
  | .SO_POST_TRAY, i, _ => R.SO_POST_TRAY i
  | .SO_RESULT_CODE, i, _ => R.SO_RESULT_CODE i
  | .SO_RESULT_ID, i, _ => R.SO_RESULT_ID i
  | .SO_TRAY_LO_FRAC, i, _ => R.SO_TRAY_LO_FRAC i
  | .SO_TRAY_HI_SEC, i, _ => R.SO_TRAY_HI_SEC i
  | .SO_CANCEL_KIND, i, _ => R.SO_CANCEL_KIND i
  | .SO_CANCEL_ID, i, _ => R.SO_CANCEL_ID i
  | .SO_CANRES_RES, i, _ => R.SO_CANRES_RES i
  | .SO_CUR_BUSY, i, _ => R.SO_CUR_BUSY i
  | .SO_CUR_ID, i, _ => R.SO_CUR_ID i
  | .SO_DONE_DONE, i, _ => R.SO_DONE_DONE i
  | .SO_COREc_BUSY, i, _ => R.SO_COREc_BUSY i
  | .SO_COREc_NOFLOW, i, _ => R.SO_COREc_NOFLOW i
  | .SO_COREc_FLOW, i, _ => R.SO_COREc_FLOW i
  | .SO_COREc_ID, i, _ => R.SO_COREc_ID i
  | .SO_PHp_PRIO, i, _ => R.SO_PHp_PRIO i
  | .SO_PHp_CORES, i, _ => R.SO_PHp_CORES i
  | .SO_PHp_LIMIT, i, _ => R.SO_PHp_LIMIT i
  | .SO_PHp_COUNT, i, _ => R.SO_PHp_COUNT i
  | .SO_TRAYt_COUNT, i, _ => R.SO_TRAYt_COUNT i
  | .CAP_STATUS_ARMED, _, _ => R.CAP_STATUS_ARMED
  | .CAP_STATUS_DONE, _, _ => R.CAP_STATUS_DONE
  | .CAP_FRCFG_HOLD, _, _ => R.CAP_FRCFG_HOLD
  | .CAP_FRCFG_AUTOHOLD, _, _ => R.CAP_FRCFG_AUTOHOLD
  | .CAP_FRCFG_EXT, _, _ => R.CAP_FRCFG_EXT
  | .CAP_FRCFG_CKPLOG, _, _ => R.CAP_FRCFG_CKPLOG
  | .CAP_FRCFG_POSTFR, _, _ => R.CAP_FRCFG_POSTFR
  | .CAP_FRSTAT_REC, _, _ => R.CAP_FRSTAT_REC
  | .CAP_FRSTAT_HCAUSE, _, _ => R.CAP_FRSTAT_HCAUSE
  | .CAP_FRSTAT_GAPS, _, _ => R.CAP_FRSTAT_GAPS
  | .CAP_FRPTR_OFS, _, _ => R.CAP_FRPTR_OFS
  | .CAP_FRDATA_LO_D, _, _ => R.CAP_FRDATA_LO_D
  | .CAP_FRDATA_HI_D, _, _ => R.CAP_FRDATA_HI_D
  | .CAP_FROLDK_LO_K, _, _ => R.CAP_FROLDK_LO_K
  | .CAP_FROLDK_HI_K, _, _ => R.CAP_FROLDK_HI_K
  | .CAP_FRNEWK_LO_K, _, _ => R.CAP_FRNEWK_LO_K
  | .CAP_FRNEWK_HI_K, _, _ => R.CAP_FRNEWK_HI_K
  | .CAP_RPCFG_POST, _, _ => R.CAP_RPCFG_POST
  | .CAP_RPCFG_STOPDIV, _, _ => R.CAP_RPCFG_STOPDIV
  | .CAP_RPCFG_PH, _, _ => R.CAP_RPCFG_PH
  | .CAP_RPCFG_NOFLOW, _, _ => R.CAP_RPCFG_NOFLOW
  | .CAP_RPCFG_FLOW, _, _ => R.CAP_RPCFG_FLOW
  | .CAP_RPSTAT_STATE, _, _ => R.CAP_RPSTAT_STATE
  | .CAP_RPSTAT_REASON, _, _ => R.CAP_RPSTAT_REASON
  | .CAP_RPSTAT_SKIPS, _, _ => R.CAP_RPSTAT_SKIPS
  | .CAP_RPDIV_SLOT, _, _ => R.CAP_RPDIV_SLOT
  | .CAP_RPDIV_NDIV, _, _ => R.CAP_RPDIV_NDIV
  | .CAP_RPSTART_LO_W, _, _ => R.CAP_RPSTART_LO_W
  | .CAP_RPSTART_HI_W, _, _ => R.CAP_RPSTART_HI_W
  | .CAP_RPEND_LO_W, _, _ => R.CAP_RPEND_LO_W
  | .CAP_RPEND_HI_W, _, _ => R.CAP_RPEND_HI_W
  | .CAP_RPK_LO_W, _, _ => R.CAP_RPK_LO_W
  | .CAP_RPK_HI_W, _, _ => R.CAP_RPK_HI_W
  | .CAP_RPREC_LO_W, _, _ => R.CAP_RPREC_LO_W
  | .CAP_RPREC_HI_W, _, _ => R.CAP_RPREC_HI_W
  | .CAP_RPCALC_LO_W, _, _ => R.CAP_RPCALC_LO_W
  | .CAP_RPCALC_HI_W, _, _ => R.CAP_RPCALC_HI_W
  | .CAP_WINw_CFG_CLK, i, _ => R.CAP_WINw_CFG_CLK i
  | .CAP_WINw_CFG_CLKK, i, _ => R.CAP_WINw_CFG_CLKK i
  | .CAP_WINw_CFG_AUTO, i, _ => R.CAP_WINw_CFG_AUTO i
  | .CAP_WINw_CFG_WRAP, i, _ => R.CAP_WINw_CFG_WRAP i
  | .CAP_WINw_CFG_NSEGLOG, i, _ => R.CAP_WINw_CFG_NSEGLOG i
  | .CAP_WINw_CFG_NSRC, i, _ => R.CAP_WINw_CFG_NSRC i
  | .CAP_WINw_MEM_SIZE, i, _ => R.CAP_WINw_MEM_SIZE i
  | .CAP_WINw_MEM_BASE, i, _ => R.CAP_WINw_MEM_BASE i
  | .CAP_WINw_PRE_N, i, _ => R.CAP_WINw_PRE_N i
  | .CAP_WINw_POST_N, i, _ => R.CAP_WINw_POST_N i
  | .CAP_WINw_TRIG_TKIND, i, _ => R.CAP_WINw_TRIG_TKIND i
  | .CAP_WINw_TRIG_COND, i, _ => R.CAP_WINw_TRIG_COND i
  | .CAP_WINw_TRIG_MASK, i, _ => R.CAP_WINw_TRIG_MASK i
  | .CAP_WINw_TRIG_TID, i, _ => R.CAP_WINw_TRIG_TID i
  | .CAP_WINw_THR_THR, i, _ => R.CAP_WINw_THR_THR i
  | .CAP_WINw_CTRL_OP, i, _ => R.CAP_WINw_CTRL_OP i
  | .CAP_WINw_STAT_STATE, i, _ => R.CAP_WINw_STAT_STATE i
  | .CAP_WINw_STAT_ARMERR, i, _ => R.CAP_WINw_STAT_ARMERR i
  | .CAP_WINw_STAT_SEG, i, _ => R.CAP_WINw_STAT_SEG i
  | .CAP_WINw_STAT_NDONE, i, _ => R.CAP_WINw_STAT_NDONE i
  | .CAP_WINw_MISS_COUNT, i, _ => R.CAP_WINw_MISS_COUNT i
  | .CAP_WINw_MISS_NEXT, i, _ => R.CAP_WINw_MISS_NEXT i
  | .CAP_WINw_SRCn_SRC, i, j => R.CAP_WINw_SRCn_SRC i j
  | .SAF_STATUS_PERMIT, _, _ => R.SAF_STATUS_PERMIT
  | .SAF_STATUS_ISTO, _, _ => R.SAF_STATUS_ISTO
  | .SAF_STATUS_STOA, _, _ => R.SAF_STATUS_STOA
  | .SAF_STATUS_STOB, _, _ => R.SAF_STATUS_STOB
  | .SAF_STATUS_FSEL, _, _ => R.SAF_STATUS_FSEL
  | .SAF_STATUS_DEMAND, _, _ => R.SAF_STATUS_DEMAND
  | .SAF_STATUS_RFOFF, _, _ => R.SAF_STATUS_RFOFF
  | .SAF_LOCK_FIRST, _, _ => R.SAF_LOCK_FIRST
  | .SAF_LOCK_INDEX, _, _ => R.SAF_LOCK_INDEX
  | .SAF_LOCK_NCAUSE, _, _ => R.SAF_LOCK_NCAUSE
  | .SAF_LOCK_OPEN, _, _ => R.SAF_LOCK_OPEN
  | .SAF_IN_DISCREP, _, _ => R.SAF_IN_DISCREP
  | .SAF_IN_LEVEL, _, _ => R.SAF_IN_LEVEL
  | .SAF_OUT_TPACT, _, _ => R.SAF_OUT_TPACT
  | .SAF_OUT_RB, _, _ => R.SAF_OUT_RB
  | .SAF_OUT_CMD, _, _ => R.SAF_OUT_CMD
  | .SAF_FB_MISMATCH, _, _ => R.SAF_FB_MISMATCH
  | .SAF_FB_LEVEL, _, _ => R.SAF_FB_LEVEL
  | .SAF_LRST_PRESSED, _, _ => R.SAF_LRST_PRESSED
  | .SAF_LRST_STUCK, _, _ => R.SAF_LRST_STUCK
  | .SAF_LRST_SHORT, _, _ => R.SAF_LRST_SHORT
  | .SAF_LRST_LAST, _, _ => R.SAF_LRST_LAST
  | .SAF_PLUG_STATE, _, _ => R.SAF_PLUG_STATE
  | .SAF_PLUG_LOCKCMD, _, _ => R.SAF_PLUG_LOCKCMD
  | .SAF_PLUG_LOCKFB, _, _ => R.SAF_PLUG_LOCKFB
  | .SAF_PLUG_CODE, _, _ => R.SAF_PLUG_CODE
  | .SAF_ISO_VALID, _, _ => R.SAF_ISO_VALID
  | .SAF_ISO_WARN, _, _ => R.SAF_ISO_WARN
  | .SAF_ISO_FAULT, _, _ => R.SAF_ISO_FAULT
  | .SAF_ISO_R_ISO, _, _ => R.SAF_ISO_R_ISO
  | .SAF_TPRES_DISCARD, _, _ => R.SAF_TPRES_DISCARD
  | .SAF_TPRES_PASS, _, _ => R.SAF_TPRES_PASS
  | .SAF_CNT_TPDONE, _, _ => R.SAF_CNT_TPDONE
  | .SAF_CNT_DEMANDS, _, _ => R.SAF_CNT_DEMANDS
  | .SAF_TPREQ_CH, _, _ => R.SAF_TPREQ_CH
  | .SAF_RFj_STAT_DEFINED, i, _ => R.SAF_RFj_STAT_DEFINED i
  | .SAF_RFj_STAT_FRESH, i, _ => R.SAF_RFj_STAT_FRESH i
  | .SAF_RFj_STAT_PERMIT, i, _ => R.SAF_RFj_STAT_PERMIT i
  | .SAF_RFj_STAT_DIR, i, _ => R.SAF_RFj_STAT_DIR i
  | .SAF_RFj_STAT_SEQ, i, _ => R.SAF_RFj_STAT_SEQ i
  | .SAF_RFj_CNT_CRCC, i, _ => R.SAF_RFj_CNT_CRCC i
  | .SAF_RFj_CNT_CRCK, i, _ => R.SAF_RFj_CNT_CRCK i
  | .SAF_RFj_CNT_SEQ, i, _ => R.SAF_RFj_CNT_SEQ i
  | .SAF_RFj_CNT_TIME, i, _ => R.SAF_RFj_CNT_TIME i
  | .SEC_STATUS_ENROLLED, _, _ => R.SEC_STATUS_ENROLLED
  | .SEC_STATUS_DXK, _, _ => R.SEC_STATUS_DXK
  | .SEC_STATUS_RNGFAIL, _, _ => R.SEC_STATUS_RNGFAIL
  | .SEC_STATUS_LOGFULL, _, _ => R.SEC_STATUS_LOGFULL
  | .SEC_STATUS_REVOKED0, _, _ => R.SEC_STATUS_REVOKED0
  | .SEC_STATUS_LOGN, _, _ => R.SEC_STATUS_LOGN
  | .SEC_CTRL_OP, _, _ => R.SEC_CTRL_OP
  | .SEC_CTRL_SESSION, _, _ => R.SEC_CTRL_SESSION
  | .SEC_RESULT_BUSY, _, _ => R.SEC_RESULT_BUSY
  | .SEC_RESULT_CODE, _, _ => R.SEC_RESULT_CODE
  | .SEC_RNG_R, _, _ => R.SEC_RNG_R
  | .SEC_CNT_TAGFAIL, _, _ => R.SEC_CNT_TAGFAIL
  | .SEC_CNT_REPLAY, _, _ => R.SEC_CNT_REPLAY
  | .SEC_SESS_OPEN, _, _ => R.SEC_SESS_OPEN
  | .SEC_SESSCFG_LIFE, _, _ => R.SEC_SESSCFG_LIFE
  | .SEC_ENR_DATA_WORD, _, _ => R.SEC_ENR_DATA_WORD
  | .SEC_ENR_PTR_OFS, _, _ => R.SEC_ENR_PTR_OFS
  | .SEC_FW_CTRL_OP, _, _ => R.SEC_FW_CTRL_OP
  | .SEC_FW_CTRL_SLOT, _, _ => R.SEC_FW_CTRL_SLOT
  | .SEC_FW_DATA_WORD, _, _ => R.SEC_FW_DATA_WORD
  | .SEC_FW_PTR_OFS, _, _ => R.SEC_FW_PTR_OFS
  | .SEC_FW_STATUS_BUSY, _, _ => R.SEC_FW_STATUS_BUSY
  | .SEC_FW_STATUS_CODE, _, _ => R.SEC_FW_STATUS_CODE
  | .SEC_FW_STATUS_BOOTFALL, _, _ => R.SEC_FW_STATUS_BOOTFALL
  | .SEC_FW_STATUS_RUN, _, _ => R.SEC_FW_STATUS_RUN
  | .SEC_FW_STATUS_MARK, _, _ => R.SEC_FW_STATUS_MARK
  | .SEC_FW_STATUS_STATE, _, _ => R.SEC_FW_STATUS_STATE
  | .SEC_IMG_CTRL_OP, _, _ => R.SEC_IMG_CTRL_OP
  | .SEC_IMG_CTRL_SLOT, _, _ => R.SEC_IMG_CTRL_SLOT
  | .SEC_IMG_DATA_WORD, _, _ => R.SEC_IMG_DATA_WORD
  | .SEC_IMG_PTR_OFS, _, _ => R.SEC_IMG_PTR_OFS
  | .SEC_IMG_STATUS_BUSY, _, _ => R.SEC_IMG_STATUS_BUSY
  | .SEC_IMG_STATUS_CODE, _, _ => R.SEC_IMG_STATUS_CODE
  | .SEC_IMG_STATUS_ACT_SLOT, _, _ => R.SEC_IMG_STATUS_ACT_SLOT
  | .SEC_IMG_STATUS_ACT_MARK, _, _ => R.SEC_IMG_STATUS_ACT_MARK
  | .SEC_IMG_STATUS_STATE, _, _ => R.SEC_IMG_STATUS_STATE
  | .SEC_IMG_WHERE_SECT, _, _ => R.SEC_IMG_WHERE_SECT
  | .SEC_IMG_WHERE_REC, _, _ => R.SEC_IMG_WHERE_REC
  | .SEC_FW_VERs_VER, i, _ => R.SEC_FW_VERs_VER i
  | .SEC_FRANK_CTRL_REQ, i, _ => R.SEC_FRANK_CTRL_REQ i
  | .SEC_FRANK_STATUS_BUSY, i, _ => R.SEC_FRANK_STATUS_BUSY i
  | .SEC_FRANK_STATUS_DONE, i, _ => R.SEC_FRANK_STATUS_DONE i
  | .SEC_FRANK_STATUS_CODE, i, _ => R.SEC_FRANK_STATUS_CODE i
  | .SEC_FRANK_STATUS_QUEUE, i, _ => R.SEC_FRANK_STATUS_QUEUE i
  | .SEC_FRANK_NONCEn_N, i, j => R.SEC_FRANK_NONCEn_N i j
  | .SEC_EXT_Dn_D, i, _ => R.SEC_EXT_Dn_D i
  | .SEC_RBi_COUNT, i, _ => R.SEC_RBi_COUNT i
  | .SEC_IMG_VERs_VER, i, _ => R.SEC_IMG_VERs_VER i
  | .SEC_IMG_IDs_ID, i, _ => R.SEC_IMG_IDs_ID i
  | .LK_STATUS_PCIE_UP, _, _ => R.LK_STATUS_PCIE_UP
  | .LK_STATUS_GEN, _, _ => R.LK_STATUS_GEN
  | .LK_STATUS_WIDTH, _, _ => R.LK_STATUS_WIDTH
  | .LK_STATUS_TWIN_UP, _, _ => R.LK_STATUS_TWIN_UP
  | .LK_STATUS_CAN_ON, _, _ => R.LK_STATUS_CAN_ON
  | .LK_HIRQ_CAUSE, _, _ => R.LK_HIRQ_CAUSE
  | .LK_HIRQ_EN_EN, _, _ => R.LK_HIRQ_EN_EN
  | .LK_CFG_REDUN, _, _ => R.LK_CFG_REDUN
  | .LK_CFG_PREF, _, _ => R.LK_CFG_PREF
  | .LK_CFG_SPH, _, _ => R.LK_CFG_SPH
  | .LK_CFG_NOFLOW, _, _ => R.LK_CFG_NOFLOW
  | .LK_CFG_SFLOW, _, _ => R.LK_CFG_SFLOW
  | .LK_PTP_CFG_SLAVEONLY, _, _ => R.LK_PTP_CFG_SLAVEONLY
  | .LK_PTP_CFG_DOMAIN, _, _ => R.LK_PTP_CFG_DOMAIN
  | .LK_PTP_CFG_CLASS, _, _ => R.LK_PTP_CFG_CLASS
  | .LK_PTP_CFG_PRIO1, _, _ => R.LK_PTP_CFG_PRIO1
  | .LK_PTP_CFG_PRIO2, _, _ => R.LK_PTP_CFG_PRIO2
  | .LK_TWIN_STAT_BLOCK, _, _ => R.LK_TWIN_STAT_BLOCK
  | .LK_TWIN_STAT_SESSION, _, _ => R.LK_TWIN_STAT_SESSION
  | .LK_TWIN_STAT_DELAY, _, _ => R.LK_TWIN_STAT_DELAY
  | .LK_TWIN_CNT_TAGFAIL, _, _ => R.LK_TWIN_CNT_TAGFAIL
  | .LK_TWIN_CNT_LATE, _, _ => R.LK_TWIN_CNT_LATE
  | .LK_SPn_CFG_EN, i, _ => R.LK_SPn_CFG_EN i
  | .LK_SPn_CFG_RATE, i, _ => R.LK_SPn_CFG_RATE i
  | .LK_SPn_CFG_JUMBO, i, _ => R.LK_SPn_CFG_JUMBO i
  | .LK_SPn_CFG_CLF, i, _ => R.LK_SPn_CFG_CLF i
  | .LK_SPn_CFG_PTPROLE, i, _ => R.LK_SPn_CFG_PTPROLE i
  | .LK_SPn_CFG_DELAYM, i, _ => R.LK_SPn_CFG_DELAYM i
  | .LK_SPn_CFG_ONESTEP, i, _ => R.LK_SPn_CFG_ONESTEP i
  | .LK_SPn_CFG_LOGSYNC, i, _ => R.LK_SPn_CFG_LOGSYNC i
  | .LK_SPn_STAT_UP, i, _ => R.LK_SPn_STAT_UP i
  | .LK_SPn_STAT_RATE, i, _ => R.LK_SPn_STAT_RATE i
  | .LK_SPn_STAT_PSTATE, i, _ => R.LK_SPn_STAT_PSTATE i
  | .LK_SPn_VLAN_EN, i, _ => R.LK_SPn_VLAN_EN i
  | .LK_SPn_VLAN_PCP, i, _ => R.LK_SPn_VLAN_PCP i
  | .LK_SPn_VLAN_VID, i, _ => R.LK_SPn_VLAN_VID i
  | .LK_SPn_ASYM_ASYM, i, _ => R.LK_SPn_ASYM_ASYM i
  | .LK_SPn_CNT_RXDROP, i, _ => R.LK_SPn_CNT_RXDROP i
  | .LK_SPn_CNT_DUP, i, _ => R.LK_SPn_CNT_DUP i
  | .LK_CANc_CFG_EN, i, _ => R.LK_CANc_CFG_EN i
  | .LK_CANc_CFG_FD, i, _ => R.LK_CANc_CFG_FD i
  | .LK_CANc_CFG_AUTOREC, i, _ => R.LK_CANc_CFG_AUTOREC i
  | .LK_CANc_CFG_LISTEN, i, _ => R.LK_CANc_CFG_LISTEN i
  | .LK_CANc_CFG_TDC, i, _ => R.LK_CANc_CFG_TDC i
  | .LK_CANc_CFG_TDCO, i, _ => R.LK_CANc_CFG_TDCO i
  | .LK_CANc_NBT_BRP, i, _ => R.LK_CANc_NBT_BRP i
  | .LK_CANc_NBT_TSEG1, i, _ => R.LK_CANc_NBT_TSEG1 i
  | .LK_CANc_NBT_TSEG2, i, _ => R.LK_CANc_NBT_TSEG2 i
  | .LK_CANc_NBT_SJW, i, _ => R.LK_CANc_NBT_SJW i
  | .LK_CANc_DBT_BRP, i, _ => R.LK_CANc_DBT_BRP i
  | .LK_CANc_DBT_TSEG1, i, _ => R.LK_CANc_DBT_TSEG1 i
  | .LK_CANc_DBT_TSEG2, i, _ => R.LK_CANc_DBT_TSEG2 i
  | .LK_CANc_DBT_SJW, i, _ => R.LK_CANc_DBT_SJW i
  | .LK_CANc_STAT_BUSOFF, i, _ => R.LK_CANc_STAT_BUSOFF i
  | .LK_CANc_STAT_PASSIVE, i, _ => R.LK_CANc_STAT_PASSIVE i
  | .LK_CANc_STAT_TEC, i, _ => R.LK_CANc_STAT_TEC i
  | .LK_CANc_STAT_REC, i, _ => R.LK_CANc_STAT_REC i
  | .LK_CANc_STAT_LEC, i, _ => R.LK_CANc_STAT_LEC i
  | .LK_CANc_TXREQ_REQ, i, _ => R.LK_CANc_TXREQ_REQ i
  | .LK_CANc_TXDONE_DONE, i, _ => R.LK_CANc_TXDONE_DONE i
  | .LK_CANc_FLTf_ID_EN, i, j => R.LK_CANc_FLTf_ID_EN i j
  | .LK_CANc_FLTf_ID_IDE, i, j => R.LK_CANc_FLTf_ID_IDE i j
  | .LK_CANc_FLTf_ID_ID, i, j => R.LK_CANc_FLTf_ID_ID i j
  | .LK_CANc_FLTf_MASK_MASK, i, j => R.LK_CANc_FLTf_MASK_MASK i j
  | .LK_CANc_FLTf_RT_ACT, i, j => R.LK_CANc_FLTf_RT_ACT i j
  | .LK_CANc_FLTf_RT_PH, i, j => R.LK_CANc_FLTf_RT_PH i j
  | .LK_CANc_FLTf_RT_NOFLOW, i, j => R.LK_CANc_FLTf_RT_NOFLOW i j
  | .LK_CANc_FLTf_RT_FLOW, i, j => R.LK_CANc_FLTf_RT_FLOW i j
  | .LK_CANc_TXBUFb_W, i, j => R.LK_CANc_TXBUFb_W i j
  | .HL_STATUS_RUN, _, _ => R.HL_STATUS_RUN
  | .HL_STATUS_COUNT_LOST, _, _ => R.HL_STATUS_COUNT_LOST
  | .HL_STATUS_OVF, _, _ => R.HL_STATUS_OVF
  | .HL_CTRL_NOW, _, _ => R.HL_CTRL_NOW
  | .HL_CTRL_PERIOD, _, _ => R.HL_CTRL_PERIOD
  | .HL_FLAGS_LO_F, _, _ => R.HL_FLAGS_LO_F
  | .HL_FLAGS_HI_F, _, _ => R.HL_FLAGS_HI_F
  | .HL_NODE_RL, _, _ => R.HL_NODE_RL
  | .HL_TEMPs_T, i, _ => R.HL_TEMPs_T i
  | .HL_ROr_DRIFT, i, _ => R.HL_ROr_DRIFT i
  | .HL_NVp_MAXW, i, _ => R.HL_NVp_MAXW i
  | .HL_LEGn_D_D, i, _ => R.HL_LEGn_D_D i
  | .AXn_CFG_ENCMODE, i, _ => R.AXn_CFG_ENCMODE i
  | .AXn_CFG_EGRAY, i, _ => R.AXn_CFG_EGRAY i
  | .AXn_CFG_ESCLK, i, _ => R.AXn_CFG_ESCLK i
  | .AXn_CFG_EBITS, i, _ => R.AXn_CFG_EBITS i
  | .AXn_CFG_ESSI, i, _ => R.AXn_CFG_ESSI i
  | .AXn_CFG_DIRSU, i, _ => R.AXn_CFG_DIRSU i
  | .AXn_CFG_EFILT, i, _ => R.AXn_CFG_EFILT i
  | .AXn_STAT_STATE, i, _ => R.AXn_STAT_STATE i
  | .AXn_STAT_HOMED, i, _ => R.AXn_STAT_HOMED i
  | .AXn_STAT_REHOME_ADVISED, i, _ => R.AXn_STAT_REHOME_ADVISED i
  | .AXn_STAT_FAULT, i, _ => R.AXn_STAT_FAULT i
  | .AXn_STAT_LIMSTOP, i, _ => R.AXn_STAT_LIMSTOP i
  | .AXn_STAT_HWLIM, i, _ => R.AXn_STAT_HWLIM i
  | .AXn_STAT_TGTERR, i, _ => R.AXn_STAT_TGTERR i
  | .AXn_STAT_ENCERR, i, _ => R.AXn_STAT_ENCERR i
  | .AXn_STAT_ZSEEN, i, _ => R.AXn_STAT_ZSEEN i
  | .AXn_STAT_LVALID, i, _ => R.AXn_STAT_LVALID i
  | .AXn_STAT_CHATTER, i, _ => R.AXn_STAT_CHATTER i
  | .AXn_CTRL_OP, i, _ => R.AXn_CTRL_OP i
  | .AXn_POS_LO_W, i, _ => R.AXn_POS_LO_W i
  | .AXn_POS_HI_W, i, _ => R.AXn_POS_HI_W i
  | .AXn_TGT_LO_W, i, _ => R.AXn_TGT_LO_W i
  | .AXn_TGT_HI_W, i, _ => R.AXn_TGT_HI_W i
  | .AXn_ENC_LO_W, i, _ => R.AXn_ENC_LO_W i
  | .AXn_ENC_HI_W, i, _ => R.AXn_ENC_HI_W i
  | .AXn_SLIMP_LO_W, i, _ => R.AXn_SLIMP_LO_W i
  | .AXn_SLIMP_HI_W, i, _ => R.AXn_SLIMP_HI_W i
  | .AXn_SLIMN_LO_W, i, _ => R.AXn_SLIMN_LO_W i
  | .AXn_SLIMN_HI_W, i, _ => R.AXn_SLIMN_HI_W i
  | .AXn_VMAX_V, i, _ => R.AXn_VMAX_V i
  | .AXn_AMAX_A, i, _ => R.AXn_AMAX_A i
  | .AXn_JMAX_J, i, _ => R.AXn_JMAX_J i
  | .AXn_ASTOP_A, i, _ => R.AXn_ASTOP_A i
  | .AXn_HOME_METHOD, i, _ => R.AXn_HOME_METHOD i
  | .AXn_HOME_HFILT, i, _ => R.AXn_HOME_HFILT i
  | .AXn_HOME_HVEL, i, _ => R.AXn_HOME_HVEL i
  | .AXn_HOFS_LO_W, i, _ => R.AXn_HOFS_LO_W i
  | .AXn_HOFS_HI_W, i, _ => R.AXn_HOFS_HI_W i
  | .AXn_LCFG_LSRC, i, _ => R.AXn_LCFG_LSRC i
  | .AXn_LCFG_LEDGE, i, _ => R.AXn_LCFG_LEDGE i
  | .AXn_LCFG_CONFTOL, i, _ => R.AXn_LCFG_CONFTOL i
  | .AXn_LCFG_EFERR, i, _ => R.AXn_LCFG_EFERR i
  | .AXn_LPOS_LO_W, i, _ => R.AXn_LPOS_LO_W i
  | .AXn_LPOS_HI_W, i, _ => R.AXn_LPOS_HI_W i
  | .AXn_LENC_LO_W, i, _ => R.AXn_LENC_LO_W i
  | .AXn_LENC_HI_W, i, _ => R.AXn_LENC_HI_W i
  | .AXn_LPM_LO_W, i, _ => R.AXn_LPM_LO_W i
  | .AXn_LPM_HI_W, i, _ => R.AXn_LPM_HI_W i

/-- A set of parts and registers as a number: bit n for the n-th part, bit 32 + n for the n-th register name. -/
def mask (ps : List Part) (rs : List Reg) : Nat :=
  rs.foldl (fun m r => m ||| 2 ^ (32 + r.ctorIdx)) (ps.foldl (fun m p => m ||| 2 ^ p.ctorIdx) 0)

/-- The set `m` takes in the set `a`. -/
abbrev Cov (a m : Nat) : Prop := a &&& m = a

/-- The set `m` lets the register table change at a key. -/
def RegIn (m k : Nat) : Prop :=
  Cov (2 ^ Part.regs.ctorIdx) m ∨ ∃ (g : Reg) (i j : Nat), Cov (2 ^ (32 + g.ctorIdx)) m ∧ (g.fld i j).key = k

/-- `t` differs from `s` only in the parts and registers of `m`; the queue is the same. -/
structure Keeps (m : Nat) (s t : State) : Prop where
  regs : ∀ k, RegIn m k ∨ ∀ d, sget d t.regs k = sget d s.regs k
  time : Cov (2 ^ Part.time.ctorIdx) m ∨ t.time = s.time
  root : Cov (2 ^ Part.root.ctorIdx) m ∨ t.root = s.root
  shadows : Cov (2 ^ Part.shadows.ctorIdx) m ∨ t.shadows = s.shadows
  hidden : Cov (2 ^ Part.hidden.ctorIdx) m ∨ t.hidden = s.hidden
  office : Cov (2 ^ Part.office.ctorIdx) m ∨ t.office = s.office
  legs : Cov (2 ^ Part.legs.ctorIdx) m ∨ t.legs = s.legs
  trips : Cov (2 ^ Part.trips.ctorIdx) m ∨ t.trips = s.trips
  sense : Cov (2 ^ Part.sense.ctorIdx) m ∨ t.sense = s.sense
  image : Cov (2 ^ Part.image.ctorIdx) m ∨ t.image = s.image
  slots : Cov (2 ^ Part.slots.ctorIdx) m ∨ t.slots = s.slots
  fabric : Cov (2 ^ Part.fabric.ctorIdx) m ∨ t.fabric = s.fabric
  acceptance : Cov (2 ^ Part.acceptance.ctorIdx) m ∨ t.acceptance = s.acceptance
  safety : Cov (2 ^ Part.safety.ctorIdx) m ∨ t.safety = s.safety
  security : Cov (2 ^ Part.security.ctorIdx) m ∨ t.security = s.security
  links : Cov (2 ^ Part.links.ctorIdx) m ∨ t.links = s.links
  twin : Cov (2 ^ Part.twin.ctorIdx) m ∨ t.twin = s.twin
  health : Cov (2 ^ Part.health.ctorIdx) m ∨ t.health = s.health
  axes : Cov (2 ^ Part.axes.ctorIdx) m ∨ t.axes = s.axes
  axisTick : Cov (2 ^ Part.axisTick.ctorIdx) m ∨ t.axisTick = s.axisTick
  axisNv : Cov (2 ^ Part.axisNv.ctorIdx) m ∨ t.axisNv = s.axisNv
  journal : Cov (2 ^ Part.journal.ctorIdx) m ∨ t.journal = s.journal
  cycle : Cov (2 ^ Part.cycle.ctorIdx) m ∨ t.cycle = s.cycle
  fresh : Cov (2 ^ Part.fresh.ctorIdx) m ∨ t.fresh = s.fresh
  outbox : Cov (2 ^ Part.outbox.ctorIdx) m ∨ t.outbox = s.outbox
  memory : Cov (2 ^ Part.memory.ctorIdx) m ∨ t.capture.mem = s.capture.mem ∧ t.capture.flight = s.capture.flight
  capture : Cov (2 ^ Part.capture.ctorIdx) m ∨ { t.capture with mem := [], flight := [] } = { s.capture with mem := [], flight := [] }
  pending : t.pending = s.pending

/-- No register field but those of `ks` has another value. -/
def Only (ks : List Fld) (s t : State) : Prop := ∀ f : Fld, (∀ g ∈ ks, f.key ≠ g.key) → t.get f = s.get f

/-- The words that the requester's last read returned. -/
def State.lastRead (s : State) (r : Requester) : List Nat := sget [] s.links.readData r.num

/-- A SECURITY envelope of these fields is posted (R423): its host interrupt is raised, and with the sorting office running and a descriptor free it
waits in pigeonhole 1 under its flow. -/
abbrev Secured (s t : State) (event code peer session value : Nat) : Prop :=
  (t.get R.LK_HIRQ_CAUSE).testBit 5 = true ∧ (s.get R.SO_STATUS_RUN ≠ 0 → s.freeDescs ≠ [] →
    ∃ e ∈ t.office.waiting, e.typ = 0x1B ∧ e.ph = 1 ∧ e.flow = 1017 ∧ e.postmark = t.postmark
      ∧ e.body = leBytes 1 event ++ leBytes 1 code ++ leBytes 2 peer ++ leBytes 4 session ++ leBytes 4 value ++ List.replicate 4 0)

/-- Command `c` is carried out in state `s`: the next state differs only in the set `m`, and `p` holds of it. -/
def Does (c : Instr) (s : State) (m : Nat) (p : State → Prop) : Prop := ∃ t, exec c s = .next t ∧ Keeps m s t ∧ p t

/-! ### What the commands that reach far may change -/

/-- What ACCEPT_COMMAND, WIRE_TARGET_COMMAND may change. -/
def reachAcceptCommand : Nat :=
  mask [.office, .acceptance, .security, .links, .twin, .cycle, .fresh, .outbox] [.NODE_MODE_PENDING, .NODE_TWIN_STAT_SEQ_END,
      .NODE_TWIN_STAT_HELDLOSS, .NODE_TWIN_SEQ_LO_NEXT, .NODE_TWIN_SEQ_HI_NEXT, .POST_ACC_LATE, .SO_LEDSTAT_FULL, .SO_LEDSTAT_WRAPPED,
      .SO_LEDSTAT_LOST, .SO_LEDPTR_NEXT, .SO_DROP_HW, .SO_DROP_DL]

/-- What ACTIVATION_START may change. -/
def reachActivationStart : Nat :=
  mask [.time, .root, .hidden, .office, .capture, .legs, .trips, .sense, .image, .slots, .fabric, .acceptance, .safety, .security, .links, .twin,
      .health, .axes, .cycle, .fresh, .outbox, .memory] [.NODE_MODE_REFUSE, .NODE_MODE_ENTRY, .NODE_MODE_PENDING, .NODE_MODE_MODE,
      .NODE_TRIPSTAT_LTOTAL, .NODE_TRIPSTAT_CLRREF, .NODE_TRIPSTAT_ANY, .NODE_BTRIP_BRIDGE, .NODE_TWIN_STAT_ROLE, .NODE_TWIN_STAT_DIVERGED,
      .NODE_TWIN_STAT_SEQ_END, .NODE_TWIN_STAT_HELDLOSS, .NODE_TWIN_CNT_BMISS, .NODE_TWIN_SEQ_LO_NEXT, .NODE_TWIN_SEQ_HI_NEXT, .NODE_LTRIPm_LEG,
      .NODE_BCAUSEb_FIRST, .NODE_BCAUSEb_LAST, .NODE_BCAUSEb_NCAUSE, .NODE_BCNTb_TOTAL, .NODE_BCNTb_WIN, .POST_STATUS_CHANGED, .POST_STATUS_STATE,
      .POST_TIG_LAPSES, .POST_TIG_HWFAULT, .POST_TIG_TIMEBASE, .POST_TIG_OVERRUN, .POST_TIG_IMAGE, .POST_TIG_HELD, .POST_ACC_SUPER,
      .POST_TIGBASE_LO_FRAC, .POST_TIGBASE_HI_SEC, .LEGn_DUTY_DUTY, .LEGn_PHASE_PHASE, .LEGn_PERIOD_PERIOD, .LEGn_DUTY_ACT_DUTY,
      .LEGn_PHASE_ACT_PHASE, .LEGn_PERIOD_ACT_PERIOD, .LEGn_FORCE_CODE, .LEGn_STATUS_DRIVE, .LEGn_STATUS_HELD, .LEGn_STATUS_FCODE,
      .LEGn_STATUS_PCLAMP, .LEGn_DEBT_D, .LEGn_DEBTMAX_D, .LEGn_CNT_SUPER, .BRIDGE_CTRL_SRC, .SN_SNAPSTAT_DROP, .SN_SNAPSTAT_PEND, .DEC_PATHp_CFG_SRC,
      .DEC_PATHp_BANK_FADING, .DEC_PATHp_BANK_HELD, .DEC_PATHp_BANK_HBANK, .DEC_PATHp_BANK_TBANK, .DEC_PATHp_BANK_XFLEFT, .DEC_RSr_IDX_RUN,
      .DEC_RSr_CNT_LATE, .FAB_STATUS_RUN, .FAB_STATUS_FAULT, .FAB_STATUS_SLOT, .FAB_STATUS_ACTIVE, .FAB_STATUS_USED, .FAB_CFG_G3, .FAB_CFG_G2,
      .FAB_CFG_G1, .FAB_CFG_G0, .FAB_CFG_FRATE, .FAB_SNAP_FROZEN, .FAB_NAN_INF, .FAB_NAN_NAN, .FAB_FRAME_LO_K, .FAB_FRAME_HI_K, .FAB_HASH_LO_H,
      .FAB_HASH_HI_H, .FAB_SNAPK_LO_K, .FAB_SNAPK_HI_K, .FAB_TILEt_STATIC_CYC, .FAB_TILEt_PEAK_CYC, .SO_LEDSTAT_FULL, .SO_LEDSTAT_WRAPPED,
      .SO_LEDSTAT_LOST, .SO_LEDPTR_NEXT, .SO_DROP_HW, .SO_DROP_DL, .SO_PHp_PRIO, .SO_PHp_CORES, .SO_PHp_LIMIT, .CAP_STATUS_ARMED, .CAP_STATUS_DONE,
      .CAP_FRCFG_HOLD, .CAP_FRSTAT_REC, .CAP_FRSTAT_HCAUSE, .CAP_FRSTAT_GAPS, .CAP_FROLDK_LO_K, .CAP_FROLDK_HI_K, .CAP_FRNEWK_LO_K, .CAP_FRNEWK_HI_K,
      .CAP_RPSTAT_STATE, .CAP_RPSTAT_REASON, .CAP_RPSTAT_SKIPS, .CAP_RPDIV_SLOT, .CAP_RPDIV_NDIV, .CAP_RPK_LO_W, .CAP_RPK_HI_W, .CAP_RPREC_LO_W,
      .CAP_RPREC_HI_W, .CAP_RPCALC_LO_W, .CAP_RPCALC_HI_W, .CAP_WINw_STAT_STATE, .CAP_WINw_STAT_SEG, .CAP_WINw_STAT_NDONE, .CAP_WINw_MISS_COUNT,
      .CAP_WINw_MISS_NEXT, .SEC_IMG_STATUS_BUSY, .SEC_IMG_STATUS_CODE, .LK_HIRQ_CAUSE, .HL_STATUS_OVF, .AXn_STAT_STATE]

/-- What ACTIVATION_STOP may change. -/
def reachActivationStop : Nat :=
  mask [.time, .root, .hidden, .office, .capture, .legs, .trips, .sense, .image, .slots, .fabric, .acceptance, .safety, .security, .links, .twin,
      .health, .axes, .journal, .cycle, .fresh, .outbox, .memory] [.NODE_MODE_REFUSE, .NODE_MODE_ENTRY, .NODE_MODE_PENDING, .NODE_MODE_MODE,
      .NODE_TRIPSTAT_LTOTAL, .NODE_TRIPSTAT_CLRREF, .NODE_TRIPSTAT_ANY, .NODE_BTRIP_BRIDGE, .NODE_TWIN_STAT_ROLE, .NODE_TWIN_STAT_DIVERGED,
      .NODE_TWIN_STAT_SEQ_END, .NODE_TWIN_STAT_HELDLOSS, .NODE_TWIN_CNT_BMISS, .NODE_TWIN_SEQ_LO_NEXT, .NODE_TWIN_SEQ_HI_NEXT, .NODE_LTRIPm_LEG,
      .NODE_LTINm_LEG, .NODE_BCAUSEb_FIRST, .NODE_BCAUSEb_LAST, .NODE_BCAUSEb_NCAUSE, .NODE_BCNTb_TOTAL, .NODE_BCNTb_WIN, .POST_STATUS_CHANGED,
      .POST_STATUS_STATE, .POST_TIG_LAPSES, .POST_TIG_HWFAULT, .POST_TIG_TIMEBASE, .POST_TIG_OVERRUN, .POST_TIG_IMAGE, .POST_TIG_HELD,
      .POST_ACC_SUPER, .POST_TIGBASE_LO_FRAC, .POST_TIGBASE_HI_SEC, .LEGn_CFG_BLANK, .LEGn_CFG_PHASE, .LEGn_CFG_BRIDGE, .LEGn_CFG_SAFE,
      .LEGn_CFG_POLICY, .LEGn_CFG_SENSE, .LEGn_CFG_ASSIGNED, .LEGn_DT_RISE, .LEGn_DT_FALL, .LEGn_MINP_MIN, .LEGn_DUTY_DUTY, .LEGn_PHASE_PHASE,
      .LEGn_PERIOD_PERIOD, .LEGn_DUTY_ACT_DUTY, .LEGn_PHASE_ACT_PHASE, .LEGn_PERIOD_ACT_PERIOD, .LEGn_FORCE_CODE, .LEGn_STATUS_DRIVE,
      .LEGn_STATUS_HELD, .LEGn_STATUS_PEND_D, .LEGn_STATUS_PEND_PP, .LEGn_STATUS_FCODE, .LEGn_STATUS_PCLAMP, .LEGn_DEBT_D, .LEGn_DEBTMAX_D,
      .LEGn_CNT_SUPER, .BRIDGE_CFG_PRESENT, .BRIDGE_CFG_ROLE, .BRIDGE_CFG_NPHASE, .BRIDGE_CFG_CFORM, .BRIDGE_CFG_RELOAD, .BRIDGE_CTRL_SRC,
      .SN_STATUS_RUN, .SN_STATUS_GRPEN, .SN_STATUS_BANKEN, .SN_CAL_PHASE, .SN_CAL_STEP, .SN_CAL_ROT, .SN_SNAPSTAT_DROP, .SN_SNAPSTAT_PEND,
      .SN_LOSTm_CH, .SN_BANKb_PM, .SN_BANKb_FORM, .SN_BANKb_SDLEV, .SN_BANKb_CLKADJ, .SN_BANKb_SDLY, .SN_GRPg_EN, .SN_GRPg_PS, .DEC_PATHp_CFG_DEFINED,
      .DEC_PATHp_CFG_K, .DEC_PATHp_CFG_DLOG, .DEC_PATHp_CFG_R, .DEC_PATHp_CFG_SRC, .DEC_PATHp_BANK_FADING, .DEC_PATHp_BANK_HELD,
      .DEC_PATHp_BANK_HBANK, .DEC_PATHp_BANK_TBANK, .DEC_PATHp_BANK_ABANK, .DEC_PATHp_BANK_ARESP, .DEC_PATHp_BANK_XFLEFT, .DEC_PATHp_DLY_UNITS,
      .DEC_RSr_CFG_DEFINED, .DEC_RSr_CFG_LOCK, .DEC_RSr_CFG_BRIDGE, .DEC_RSr_CFG_LOGN, .DEC_RSr_CFG_CYC, .DEC_RSr_CFG_SRC, .DEC_RSr_IDX_RUN,
      .DEC_RSr_IDX_J, .DEC_RSr_CNT_LATE, .FAB_STATUS_RUN, .FAB_STATUS_FAULT, .FAB_STATUS_SLOT, .FAB_STATUS_ACTIVE, .FAB_STATUS_USED, .FAB_CFG_G3,
      .FAB_CFG_G2, .FAB_CFG_G1, .FAB_CFG_G0, .FAB_CFG_FRATE, .FAB_SNAP_FROZEN, .FAB_NAN_INF, .FAB_NAN_NAN, .FAB_FRAME_LO_K, .FAB_FRAME_HI_K,
      .FAB_HASH_LO_H, .FAB_HASH_HI_H, .FAB_SNAPK_LO_K, .FAB_SNAPK_HI_K, .FAB_TILEt_PEAK_CYC, .SO_LEDSTAT_FULL, .SO_LEDSTAT_WRAPPED, .SO_LEDSTAT_LOST,
      .SO_LEDPTR_NEXT, .SO_DROP_HW, .SO_DROP_DL, .SO_PHp_PRIO, .SO_PHp_CORES, .SO_PHp_LIMIT, .CAP_STATUS_ARMED, .CAP_STATUS_DONE, .CAP_FRCFG_HOLD,
      .CAP_FRSTAT_REC, .CAP_FRSTAT_HCAUSE, .CAP_FRSTAT_GAPS, .CAP_FROLDK_LO_K, .CAP_FROLDK_HI_K, .CAP_FRNEWK_LO_K, .CAP_FRNEWK_HI_K,
      .CAP_RPSTAT_STATE, .CAP_RPSTAT_REASON, .CAP_RPSTAT_SKIPS, .CAP_RPDIV_SLOT, .CAP_RPDIV_NDIV, .CAP_RPK_LO_W, .CAP_RPK_HI_W, .CAP_RPREC_LO_W,
      .CAP_RPREC_HI_W, .CAP_RPCALC_LO_W, .CAP_RPCALC_HI_W, .CAP_WINw_STAT_STATE, .CAP_WINw_STAT_SEG, .CAP_WINw_STAT_NDONE, .CAP_WINw_MISS_COUNT,
      .CAP_WINw_MISS_NEXT, .SAF_OUT_TPACT, .SAF_OUT_RB, .SAF_OUT_CMD, .SAF_ISO_VALID, .SAF_ISO_FAULT, .SAF_ISO_R_ISO, .SAF_RFj_STAT_DEFINED,
      .SAF_RFj_STAT_FRESH, .SAF_RFj_STAT_PERMIT, .SAF_RFj_STAT_DIR, .SAF_RFj_STAT_SEQ, .SEC_STATUS_LOGFULL, .SEC_STATUS_LOGN, .SEC_IMG_STATUS_BUSY,
      .SEC_IMG_STATUS_CODE, .SEC_IMG_STATUS_ACT_SLOT, .SEC_IMG_STATUS_ACT_MARK, .SEC_RBi_COUNT, .LK_HIRQ_CAUSE, .HL_STATUS_RUN, .HL_STATUS_OVF,
      .HL_NVp_MAXW, .AXn_STAT_STATE]

/-- What ALONE, HANDOVER may change. -/
def reachAlone : Nat :=
  mask [.office, .legs, .security, .links, .twin, .cycle, .fresh, .outbox] [.NODE_TWIN_STAT_ROLE, .NODE_TWIN_STAT_SEQ_END, .NODE_TWIN_STAT_REFUSE,
      .NODE_TWIN_SEQ_LO_NEXT, .NODE_TWIN_SEQ_HI_NEXT, .LEGn_STATUS_DRIVE, .SO_LEDSTAT_FULL, .SO_LEDSTAT_WRAPPED, .SO_LEDSTAT_LOST, .SO_LEDPTR_NEXT,
      .SO_DROP_HW, .SO_DROP_DL, .LK_HIRQ_CAUSE]

/-- What ARBITRATION_OUTCOME may change. -/
def reachArbitrationOutcome : Nat :=
  mask [.hidden, .office, .capture, .legs, .trips, .sense, .slots, .fabric, .security, .links, .twin, .axes, .cycle, .fresh, .outbox,
      .memory] [.NODE_MODE_ENTRY, .NODE_MODE_MODE, .NODE_TRIPSTAT_LTOTAL, .NODE_TRIPSTAT_CLRREF, .NODE_TRIPSTAT_ANY, .NODE_BTRIP_BRIDGE,
      .NODE_TWIN_STAT_ROLE, .NODE_TWIN_STAT_DIVERGED, .NODE_TWIN_STAT_SEQ_END, .NODE_TWIN_STAT_UNEXPLAINED, .NODE_TWIN_SEQ_LO_NEXT,
      .NODE_TWIN_SEQ_HI_NEXT, .NODE_LTRIPm_LEG, .NODE_BCAUSEb_FIRST, .NODE_BCAUSEb_LAST, .NODE_BCAUSEb_NCAUSE, .NODE_BCNTb_TOTAL, .NODE_BCNTb_WIN,
      .POST_TIG_HWFAULT, .POST_TIG_OVERRUN, .POST_TIG_HELD, .LEGn_FORCE_CODE, .LEGn_STATUS_DRIVE, .LEGn_STATUS_HELD, .LEGn_STATUS_FCODE, .LEGn_DEBT_D,
      .LEGn_DEBTMAX_D, .BRIDGE_CTRL_SRC, .SN_SNAPSTAT_DROP, .SN_SNAPSTAT_PEND, .DEC_RSr_IDX_RUN, .FAB_STATUS_RUN, .FAB_STATUS_FAULT,
      .FAB_STATUS_FTILE, .FAB_FAULTK_LO_K, .FAB_FAULTK_HI_K, .SO_LEDSTAT_FULL, .SO_LEDSTAT_WRAPPED, .SO_LEDSTAT_LOST, .SO_LEDPTR_NEXT, .SO_DROP_HW,
      .SO_DROP_DL, .CAP_FRCFG_HOLD, .CAP_FRSTAT_REC, .CAP_FRSTAT_HCAUSE, .CAP_FRSTAT_GAPS, .CAP_FROLDK_LO_K, .CAP_FROLDK_HI_K, .CAP_FRNEWK_LO_K,
      .CAP_FRNEWK_HI_K, .CAP_RPSTAT_STATE, .CAP_RPSTAT_REASON, .CAP_WINw_MISS_COUNT, .CAP_WINw_MISS_NEXT, .SEC_IMG_STATUS_BUSY, .SEC_IMG_STATUS_CODE,
      .LK_HIRQ_CAUSE, .AXn_STAT_STATE]

/-- What AXIS_EVALUATION may change. -/
def reachAxisEvaluation : Nat :=
  mask [.time, .root, .fabric, .axes, .axisTick, .axisNv, .cycle, .fresh, .outbox] [.POST_STATUS_CHANGED, .POST_STATUS_STATE, .POST_TIG_TIMEBASE,
      .POST_TIG_HELD, .LK_HIRQ_CAUSE, .AXn_STAT_STATE, .AXn_STAT_HOMED, .AXn_STAT_REHOME_ADVISED, .AXn_STAT_FAULT, .AXn_STAT_LIMSTOP, .AXn_STAT_HWLIM,
      .AXn_STAT_TGTERR, .AXn_POS_LO_W, .AXn_POS_HI_W]

/-- What BLANK_WINDOW_END may change. -/
def reachBlankWindowEnd : Nat :=
  mask [.time, .root, .office, .capture, .legs, .trips, .sense, .fabric, .cycle, .fresh, .outbox, .memory] [.NODE_TRIPSTAT_LTOTAL,
      .NODE_TRIPSTAT_CLRREF, .NODE_TRIPSTAT_ANY, .NODE_BTRIP_BRIDGE, .NODE_LTRIPm_LEG, .NODE_BCAUSEb_FIRST, .NODE_BCAUSEb_LAST, .NODE_BCAUSEb_NCAUSE,
      .NODE_BCNTb_TOTAL, .NODE_BCNTb_WIN, .POST_STATUS_CHANGED, .POST_STATUS_STATE, .POST_TIG_TIMEBASE, .POST_TIG_HELD, .LEGn_STATUS_HELD,
      .LEGn_DEBT_D, .LEGn_DEBTMAX_D, .SN_SNAPSTAT_DROP, .SN_SNAPSTAT_PEND, .SO_LEDSTAT_FULL, .SO_LEDSTAT_WRAPPED, .SO_LEDSTAT_LOST, .SO_LEDPTR_NEXT,
      .SO_DROP_HW, .SO_DROP_DL, .CAP_WINw_MISS_COUNT, .CAP_WINw_MISS_NEXT, .LK_HIRQ_CAUSE]

/-- What BOOT_COMPLETE may change. -/
def reachBootComplete : Nat :=
  mask [.root, .hidden, .office, .capture, .legs, .trips, .sense, .image, .slots, .fabric, .safety, .security, .links, .twin, .health, .axes,
      .journal, .cycle, .fresh, .outbox, .memory] [.NODE_MODE_ENTRY, .NODE_MODE_LATCH, .NODE_MODE_MODE, .NODE_TEST_RUNNING, .NODE_TEST_RESULT,
      .NODE_TRIPSTAT_LTOTAL, .NODE_TRIPSTAT_CLRREF, .NODE_TRIPSTAT_ANY, .NODE_BTRIP_BRIDGE, .NODE_TWIN_STAT_ROLE, .NODE_TWIN_STAT_SEQ_END,
      .NODE_TWIN_SEQ_LO_NEXT, .NODE_TWIN_SEQ_HI_NEXT, .NODE_LTRIPm_LEG, .NODE_LTINm_LEG, .NODE_BCAUSEb_FIRST, .NODE_BCAUSEb_LAST,
      .NODE_BCAUSEb_NCAUSE, .NODE_BCNTb_TOTAL, .NODE_BCNTb_WIN, .POST_TIG_IMAGE, .POST_TIG_HELD, .LEGn_CFG_BLANK, .LEGn_CFG_PHASE, .LEGn_CFG_BRIDGE,
      .LEGn_CFG_SAFE, .LEGn_CFG_POLICY, .LEGn_CFG_SENSE, .LEGn_CFG_ASSIGNED, .LEGn_DT_RISE, .LEGn_DT_FALL, .LEGn_MINP_MIN, .LEGn_DUTY_DUTY,
      .LEGn_PHASE_PHASE, .LEGn_PERIOD_PERIOD, .LEGn_DUTY_ACT_DUTY, .LEGn_PHASE_ACT_PHASE, .LEGn_PERIOD_ACT_PERIOD, .LEGn_FORCE_CODE,
      .LEGn_STATUS_DRIVE, .LEGn_STATUS_HELD, .LEGn_STATUS_PEND_D, .LEGn_STATUS_PEND_PP, .LEGn_STATUS_FCODE, .LEGn_DEBT_D, .LEGn_DEBTMAX_D,
      .BRIDGE_CFG_PRESENT, .BRIDGE_CFG_ROLE, .BRIDGE_CFG_NPHASE, .BRIDGE_CFG_CFORM, .BRIDGE_CFG_RELOAD, .BRIDGE_CTRL_SRC, .SN_STATUS_RUN,
      .SN_STATUS_GRPEN, .SN_STATUS_BANKEN, .SN_CAL_PHASE, .SN_CAL_STEP, .SN_CAL_ROT, .SN_SNAPSTAT_DROP, .SN_SNAPSTAT_PEND, .SN_LOSTm_CH, .SN_BANKb_PM,
      .SN_BANKb_FORM, .SN_BANKb_SDLEV, .SN_BANKb_CLKADJ, .SN_BANKb_SDLY, .SN_GRPg_EN, .SN_GRPg_PS, .DEC_PATHp_CFG_DEFINED, .DEC_PATHp_CFG_K,
      .DEC_PATHp_CFG_DLOG, .DEC_PATHp_CFG_R, .DEC_PATHp_CFG_SRC, .DEC_PATHp_BANK_FADING, .DEC_PATHp_BANK_HELD, .DEC_PATHp_BANK_HBANK,
      .DEC_PATHp_BANK_TBANK, .DEC_PATHp_BANK_ABANK, .DEC_PATHp_BANK_ARESP, .DEC_PATHp_BANK_XFLEFT, .DEC_PATHp_DLY_UNITS, .DEC_RSr_CFG_DEFINED,
      .DEC_RSr_CFG_LOCK, .DEC_RSr_CFG_BRIDGE, .DEC_RSr_CFG_LOGN, .DEC_RSr_CFG_CYC, .DEC_RSr_CFG_SRC, .DEC_RSr_IDX_RUN, .DEC_RSr_IDX_J,
      .FAB_STATUS_RUN, .SO_STATUS_RUN, .SO_LEDSTAT_FULL, .SO_LEDSTAT_WRAPPED, .SO_LEDSTAT_LOST, .SO_LEDPTR_NEXT, .SO_DROP_HW, .SO_DROP_DL,
      .CAP_STATUS_ARMED, .CAP_STATUS_DONE, .CAP_FROLDK_LO_K, .CAP_FROLDK_HI_K, .CAP_FRNEWK_LO_K, .CAP_FRNEWK_HI_K, .CAP_WINw_STAT_STATE,
      .CAP_WINw_MISS_COUNT, .CAP_WINw_MISS_NEXT, .SAF_LOCK_FIRST, .SAF_LOCK_INDEX, .SAF_LOCK_NCAUSE, .SAF_LOCK_OPEN, .SAF_OUT_TPACT, .SAF_OUT_RB,
      .SAF_OUT_CMD, .SAF_ISO_VALID, .SAF_ISO_FAULT, .SAF_ISO_R_ISO, .SAF_RFj_STAT_DEFINED, .SAF_RFj_STAT_FRESH, .SAF_RFj_STAT_PERMIT,
      .SAF_RFj_STAT_DIR, .SAF_RFj_STAT_SEQ, .SEC_STATUS_LOGFULL, .SEC_STATUS_LOGN, .SEC_FW_STATUS_CODE, .SEC_FW_STATUS_BOOTFALL, .SEC_FW_STATUS_RUN,
      .SEC_IMG_STATUS_BUSY, .SEC_IMG_STATUS_CODE, .SEC_IMG_STATUS_ACT_SLOT, .SEC_IMG_STATUS_ACT_MARK, .SEC_IMG_STATUS_STATE, .SEC_IMG_WHERE_SECT,
      .SEC_IMG_WHERE_REC, .SEC_RBi_COUNT, .SEC_IMG_VERs_VER, .SEC_IMG_IDs_ID, .LK_HIRQ_CAUSE, .HL_STATUS_RUN, .HL_NVp_MAXW, .AXn_STAT_STATE]

/-- What BROADCAST may change. -/
def reachBroadcast : Nat :=
  mask [.office, .acceptance, .security, .links, .twin, .cycle, .fresh, .outbox] [.NODE_TWIN_STAT_SEQ_END, .NODE_TWIN_STAT_HELDLOSS,
      .NODE_TWIN_SEQ_LO_NEXT, .NODE_TWIN_SEQ_HI_NEXT, .POST_ACC_LATE, .SO_LEDSTAT_FULL, .SO_LEDSTAT_WRAPPED, .SO_LEDSTAT_LOST, .SO_LEDPTR_NEXT,
      .SO_DROP_HW, .SO_DROP_DL, .LK_HIRQ_CAUSE, .LK_SPn_CNT_RXDROP]

/-- What BUNDLE_MISSED may change. -/
def reachBundleMissed : Nat :=
  mask [.time, .root, .office, .capture, .legs, .trips, .sense, .fabric, .security, .links, .twin, .health, .cycle, .fresh, .outbox,
      .memory] [.NODE_TRIPSTAT_LTOTAL, .NODE_TRIPSTAT_CLRREF, .NODE_TRIPSTAT_ANY, .NODE_BTRIP_BRIDGE, .NODE_TWIN_STAT_DIVERGED,
      .NODE_TWIN_STAT_SEQ_END, .NODE_TWIN_STAT_HELDLOSS, .NODE_TWIN_CNT_BMISS, .NODE_TWIN_SEQ_LO_NEXT, .NODE_TWIN_SEQ_HI_NEXT, .NODE_LTRIPm_LEG,
      .NODE_BCAUSEb_FIRST, .NODE_BCAUSEb_LAST, .NODE_BCAUSEb_NCAUSE, .NODE_BCNTb_TOTAL, .NODE_BCNTb_WIN, .POST_STATUS_CHANGED, .POST_STATUS_STATE,
      .POST_TIG_TIMEBASE, .POST_TIG_OVERRUN, .POST_TIG_IMAGE, .POST_TIG_HELD, .POST_ACC_SUPER, .POST_TIGBASE_LO_FRAC, .POST_TIGBASE_HI_SEC,
      .LEGn_STATUS_HELD, .LEGn_DEBT_D, .LEGn_DEBTMAX_D, .SN_SNAPSTAT_DROP, .SN_SNAPSTAT_PEND, .DEC_RSr_CNT_LATE, .FAB_NAN_INF, .FAB_NAN_NAN,
      .SO_LEDSTAT_FULL, .SO_LEDSTAT_WRAPPED, .SO_LEDSTAT_LOST, .SO_LEDPTR_NEXT, .SO_DROP_HW, .SO_DROP_DL, .CAP_WINw_MISS_COUNT, .CAP_WINw_MISS_NEXT,
      .LK_HIRQ_CAUSE, .HL_STATUS_OVF]

/-- What BUNDLE_RECEIVED may change. -/
def reachBundleReceived : Nat :=
  mask [.hidden, .office, .capture, .legs, .trips, .sense, .slots, .fabric, .security, .links, .twin, .health, .axes, .cycle, .fresh, .outbox,
      .memory] [.NODE_MODE_REFUSE, .NODE_MODE_ENTRY, .NODE_MODE_MODE, .NODE_TRIPSTAT_LTOTAL, .NODE_TRIPSTAT_CLRREF, .NODE_TRIPSTAT_ANY,
      .NODE_BTRIP_BRIDGE, .NODE_TWIN_STAT_ROLE, .NODE_TWIN_STAT_DIVERGED, .NODE_TWIN_STAT_SEQ_END, .NODE_TWIN_STAT_HASH_MISMATCH,
      .NODE_TWIN_STAT_SENSE_DISAGREE, .NODE_TWIN_STAT_HELDLOSS, .NODE_TWIN_CNT_MISM, .NODE_TWIN_CNT_SDCH, .NODE_TWIN_SEQ_LO_NEXT,
      .NODE_TWIN_SEQ_HI_NEXT, .NODE_TWIN_MISK_LO_K, .NODE_TWIN_MISK_HI_K, .NODE_LTRIPm_LEG, .NODE_BCAUSEb_FIRST, .NODE_BCAUSEb_LAST,
      .NODE_BCAUSEb_NCAUSE, .NODE_BCNTb_TOTAL, .NODE_BCNTb_WIN, .POST_TIG_OVERRUN, .POST_TIG_IMAGE, .POST_TIG_HELD, .POST_ACC_SUPER,
      .POST_TIGBASE_LO_FRAC, .POST_TIGBASE_HI_SEC, .LEGn_FORCE_CODE, .LEGn_STATUS_DRIVE, .LEGn_STATUS_HELD, .LEGn_STATUS_FCODE, .LEGn_DEBT_D,
      .LEGn_DEBTMAX_D, .BRIDGE_CTRL_SRC, .SN_SNAPSTAT_DROP, .SN_SNAPSTAT_PEND, .DEC_PATHp_CFG_SRC, .DEC_PATHp_BANK_FADING, .DEC_PATHp_BANK_HELD,
      .DEC_PATHp_BANK_HBANK, .DEC_PATHp_BANK_TBANK, .DEC_PATHp_BANK_XFLEFT, .DEC_RSr_IDX_RUN, .DEC_RSr_CNT_LATE, .FAB_STATUS_RUN, .FAB_NAN_INF,
      .FAB_NAN_NAN, .SO_LEDSTAT_FULL, .SO_LEDSTAT_WRAPPED, .SO_LEDSTAT_LOST, .SO_LEDPTR_NEXT, .SO_DROP_HW, .SO_DROP_DL, .CAP_FRCFG_HOLD,
      .CAP_FRSTAT_REC, .CAP_FRSTAT_HCAUSE, .CAP_RPSTAT_STATE, .CAP_RPSTAT_REASON, .CAP_RPSTAT_SKIPS, .CAP_RPDIV_SLOT, .CAP_RPDIV_NDIV,
      .CAP_WINw_MISS_COUNT, .CAP_WINw_MISS_NEXT, .SEC_IMG_STATUS_BUSY, .SEC_IMG_STATUS_CODE, .LK_HIRQ_CAUSE, .LK_TWIN_CNT_LATE, .HL_STATUS_OVF,
      .AXn_STAT_STATE]

/-- What CAL_STEP may change. -/
def reachCalStep : Nat :=
  mask [.time, .root, .sense, .fabric, .cycle, .outbox] [.POST_STATUS_CHANGED, .POST_STATUS_STATE, .POST_TIG_TIMEBASE, .POST_TIG_HELD, .SN_CAL_FAILED,
      .SN_CAL_PHASE, .SN_CAL_FSLICE, .SN_CAL_STEP, .SN_CAL_ROT, .LK_HIRQ_CAUSE]

/-- What CAN_FRAME_RECEIVED may change. -/
def reachCanFrameReceived : Nat :=
  mask [.office, .safety, .cycle, .fresh] [.SO_LEDSTAT_FULL, .SO_LEDSTAT_WRAPPED, .SO_LEDSTAT_LOST, .SO_LEDPTR_NEXT, .SO_DROP_HW, .SO_DROP_DL,
      .SAF_RFj_STAT_FRESH, .SAF_RFj_STAT_PERMIT, .SAF_RFj_STAT_SEQ, .SAF_RFj_CNT_CRCC, .SAF_RFj_CNT_CRCK, .SAF_RFj_CNT_SEQ, .SAF_RFj_CNT_TIME]

/-- What CANCEL_ENVELOPE, CANCEL_TRAY_ENTRY may change. -/
def reachCancelEnvelope : Nat :=
  mask [.time, .root, .office, .fabric, .cycle, .outbox] [.POST_STATUS_CHANGED, .POST_STATUS_STATE, .POST_TIG_TIMEBASE, .POST_TIG_HELD,
      .SO_LEDSTAT_FULL, .SO_LEDSTAT_WRAPPED, .SO_LEDSTAT_LOST, .SO_LEDPTR_NEXT, .SO_CANRES_RES, .LK_HIRQ_CAUSE]

/-- What CLOSE may change. -/
def reachClose : Nat :=
  mask [.office, .security, .cycle, .fresh, .outbox] [.SO_LEDSTAT_FULL, .SO_LEDSTAT_WRAPPED, .SO_LEDSTAT_LOST, .SO_LEDPTR_NEXT, .SO_DROP_HW,
      .SO_DROP_DL, .SEC_RESULT_CODE, .SEC_SESS_OPEN, .LK_HIRQ_CAUSE]

/-- What COMPLETE_ENVELOPE may change. -/
def reachCompleteEnvelope : Nat :=
  mask [.time, .root, .office, .fabric, .links, .cycle, .outbox] [.NODE_ADDRERR_COUNT, .NODE_ADDRERR_REQ, .NODE_ADDRERR_KIND, .NODE_ADDRERR_ADDR_ADDR,
      .POST_STATUS_CHANGED, .POST_STATUS_STATE, .POST_TIG_TIMEBASE, .POST_TIG_HELD, .SO_LEDSTAT_FULL, .SO_LEDSTAT_WRAPPED, .SO_LEDSTAT_LOST,
      .SO_LEDPTR_NEXT, .LK_HIRQ_CAUSE]

/-- What CONFIRM may change. -/
def reachConfirm : Nat :=
  mask [.office, .health, .cycle, .fresh, .outbox] [.SO_LEDSTAT_FULL, .SO_LEDSTAT_WRAPPED, .SO_LEDSTAT_LOST, .SO_LEDPTR_NEXT, .SO_DROP_HW,
      .SO_DROP_DL, .SEC_FW_STATUS_CODE, .SEC_RBi_COUNT, .LK_HIRQ_CAUSE, .HL_NVp_MAXW]

/-- What COUNTER_FLUSH may change. -/
def reachCounterFlush : Nat :=
  mask [.time, .root, .fabric, .health, .cycle, .outbox] [.POST_STATUS_CHANGED, .POST_STATUS_STATE, .POST_TIG_TIMEBASE, .POST_TIG_HELD,
      .LK_HIRQ_CAUSE, .HL_NVp_MAXW]

/-- What DIE_TEMP_SAMPLE may change. -/
def reachDieTempSample : Nat :=
  mask [.time, .root, .office, .fabric, .health, .cycle, .fresh, .outbox] [.POST_STATUS_CHANGED, .POST_STATUS_STATE, .POST_TIG_TIMEBASE,
      .POST_TIG_HELD, .SO_LEDSTAT_FULL, .SO_LEDSTAT_WRAPPED, .SO_LEDSTAT_LOST, .SO_LEDPTR_NEXT, .SO_DROP_HW, .SO_DROP_DL, .LK_HIRQ_CAUSE,
      .HL_FLAGS_LO_F, .HL_FLAGS_HI_F, .HL_NODE_RL, .HL_TEMPs_T, .HL_LEGn_D_D]

/-- What DISPATCH may change. -/
def reachDispatch : Nat :=
  mask [.time, .root, .office, .fabric, .cycle, .outbox] [.POST_STATUS_CHANGED, .POST_STATUS_STATE, .POST_TIG_TIMEBASE, .POST_TIG_HELD,
      .SO_LEDSTAT_FULL, .SO_LEDSTAT_WRAPPED, .SO_LEDSTAT_LOST, .SO_LEDPTR_NEXT, .LK_HIRQ_CAUSE]

/-- What DXK_GENERATED may change. -/
def reachDxkGenerated : Nat :=
  mask [.office, .security, .cycle, .fresh, .outbox] [.SO_LEDSTAT_FULL, .SO_LEDSTAT_WRAPPED, .SO_LEDSTAT_LOST, .SO_LEDPTR_NEXT, .SO_DROP_HW,
      .SO_DROP_DL, .SEC_STATUS_DXK, .SEC_RESULT_BUSY, .SEC_RESULT_CODE, .LK_HIRQ_CAUSE]

/-- What FABRIC_FAULT may change. -/
def reachFabricFault : Nat :=
  mask [.hidden, .office, .capture, .legs, .trips, .sense, .slots, .fabric, .security, .links, .twin, .axes, .cycle, .fresh, .outbox,
      .memory] [.NODE_MODE_ENTRY, .NODE_MODE_MODE, .NODE_TRIPSTAT_LTOTAL, .NODE_TRIPSTAT_CLRREF, .NODE_TRIPSTAT_ANY, .NODE_BTRIP_BRIDGE,
      .NODE_TWIN_STAT_ROLE, .NODE_TWIN_STAT_SEQ_END, .NODE_TWIN_SEQ_LO_NEXT, .NODE_TWIN_SEQ_HI_NEXT, .NODE_LTRIPm_LEG, .NODE_BCAUSEb_FIRST,
      .NODE_BCAUSEb_LAST, .NODE_BCAUSEb_NCAUSE, .NODE_BCNTb_TOTAL, .NODE_BCNTb_WIN, .POST_TIG_HWFAULT, .POST_TIG_OVERRUN, .POST_TIG_HELD,
      .LEGn_FORCE_CODE, .LEGn_STATUS_DRIVE, .LEGn_STATUS_HELD, .LEGn_STATUS_FCODE, .LEGn_DEBT_D, .LEGn_DEBTMAX_D, .BRIDGE_CTRL_SRC, .SN_SNAPSTAT_DROP,
      .SN_SNAPSTAT_PEND, .DEC_RSr_IDX_RUN, .FAB_STATUS_RUN, .FAB_STATUS_FAULT, .FAB_STATUS_FTILE, .FAB_FAULTK_LO_K, .FAB_FAULTK_HI_K,
      .SO_LEDSTAT_FULL, .SO_LEDSTAT_WRAPPED, .SO_LEDSTAT_LOST, .SO_LEDPTR_NEXT, .SO_DROP_HW, .SO_DROP_DL, .CAP_FRCFG_HOLD, .CAP_FRSTAT_REC,
      .CAP_FRSTAT_HCAUSE, .CAP_FRSTAT_GAPS, .CAP_FROLDK_LO_K, .CAP_FROLDK_HI_K, .CAP_FRNEWK_LO_K, .CAP_FRNEWK_HI_K, .CAP_RPSTAT_STATE,
      .CAP_RPSTAT_REASON, .CAP_WINw_MISS_COUNT, .CAP_WINw_MISS_NEXT, .SEC_IMG_STATUS_BUSY, .SEC_IMG_STATUS_CODE, .LK_HIRQ_CAUSE, .AXn_STAT_STATE]

/-- What FABRIC_OVERRUN may change. -/
def reachFabricOverrun : Nat :=
  mask [.time, .root, .hidden, .office, .capture, .legs, .trips, .sense, .slots, .fabric, .security, .links, .twin, .axes, .cycle, .fresh, .outbox,
      .memory] [.NODE_MODE_ENTRY, .NODE_MODE_MODE, .NODE_TRIPSTAT_LTOTAL, .NODE_TRIPSTAT_CLRREF, .NODE_TRIPSTAT_ANY, .NODE_BTRIP_BRIDGE,
      .NODE_TWIN_STAT_ROLE, .NODE_TWIN_STAT_SEQ_END, .NODE_TWIN_SEQ_LO_NEXT, .NODE_TWIN_SEQ_HI_NEXT, .NODE_LTRIPm_LEG, .NODE_BCAUSEb_FIRST,
      .NODE_BCAUSEb_LAST, .NODE_BCAUSEb_NCAUSE, .NODE_BCNTb_TOTAL, .NODE_BCNTb_WIN, .POST_STATUS_CHANGED, .POST_STATUS_STATE, .POST_TIG_HWFAULT,
      .POST_TIG_TIMEBASE, .POST_TIG_OVERRUN, .POST_TIG_HELD, .LEGn_FORCE_CODE, .LEGn_STATUS_DRIVE, .LEGn_STATUS_HELD, .LEGn_STATUS_FCODE,
      .LEGn_DEBT_D, .LEGn_DEBTMAX_D, .BRIDGE_CTRL_SRC, .SN_SNAPSTAT_DROP, .SN_SNAPSTAT_PEND, .DEC_RSr_IDX_RUN, .FAB_STATUS_RUN, .FAB_STATUS_FAULT,
      .FAB_STATUS_FTILE, .FAB_FAULTK_LO_K, .FAB_FAULTK_HI_K, .SO_LEDSTAT_FULL, .SO_LEDSTAT_WRAPPED, .SO_LEDSTAT_LOST, .SO_LEDPTR_NEXT, .SO_DROP_HW,
      .SO_DROP_DL, .CAP_FRCFG_HOLD, .CAP_FRSTAT_REC, .CAP_FRSTAT_HCAUSE, .CAP_FRSTAT_GAPS, .CAP_FROLDK_LO_K, .CAP_FROLDK_HI_K, .CAP_FRNEWK_LO_K,
      .CAP_FRNEWK_HI_K, .CAP_RPSTAT_STATE, .CAP_RPSTAT_REASON, .CAP_WINw_MISS_COUNT, .CAP_WINw_MISS_NEXT, .SEC_IMG_STATUS_BUSY, .SEC_IMG_STATUS_CODE,
      .LK_HIRQ_CAUSE, .AXn_STAT_STATE]

/-- What FABRIC_RESUME may change. -/
def reachFabricResume : Nat :=
  mask [.time, .root, .hidden, .office, .capture, .legs, .trips, .sense, .slots, .fabric, .acceptance, .safety, .security, .links, .twin, .health,
      .axes, .cycle, .fresh, .outbox, .memory] [.NODE_MODE_REFUSE, .NODE_MODE_ENTRY, .NODE_MODE_PENDING, .NODE_MODE_MODE, .NODE_TRIPSTAT_LTOTAL,
      .NODE_TRIPSTAT_CLRREF, .NODE_TRIPSTAT_ANY, .NODE_BTRIP_BRIDGE, .NODE_TWIN_STAT_ROLE, .NODE_TWIN_STAT_DIVERGED, .NODE_TWIN_STAT_SEQ_END,
      .NODE_TWIN_STAT_HELDLOSS, .NODE_TWIN_CNT_BMISS, .NODE_TWIN_SEQ_LO_NEXT, .NODE_TWIN_SEQ_HI_NEXT, .NODE_LTRIPm_LEG, .NODE_BCAUSEb_FIRST,
      .NODE_BCAUSEb_LAST, .NODE_BCAUSEb_NCAUSE, .NODE_BCNTb_TOTAL, .NODE_BCNTb_WIN, .POST_STATUS_CHANGED, .POST_STATUS_STATE, .POST_TIG_LAPSES,
      .POST_TIG_HWFAULT, .POST_TIG_TIMEBASE, .POST_TIG_OVERRUN, .POST_TIG_IMAGE, .POST_TIG_HELD, .POST_ACC_SUPER, .POST_TIGBASE_LO_FRAC,
      .POST_TIGBASE_HI_SEC, .LEGn_DUTY_DUTY, .LEGn_PHASE_PHASE, .LEGn_PERIOD_PERIOD, .LEGn_DUTY_ACT_DUTY, .LEGn_PHASE_ACT_PHASE,
      .LEGn_PERIOD_ACT_PERIOD, .LEGn_FORCE_CODE, .LEGn_STATUS_DRIVE, .LEGn_STATUS_HELD, .LEGn_STATUS_FCODE, .LEGn_STATUS_PCLAMP, .LEGn_DEBT_D,
      .LEGn_DEBTMAX_D, .LEGn_CNT_SUPER, .BRIDGE_CTRL_SRC, .SN_SNAPSTAT_DROP, .SN_SNAPSTAT_PEND, .DEC_PATHp_CFG_SRC, .DEC_PATHp_BANK_FADING,
      .DEC_PATHp_BANK_HELD, .DEC_PATHp_BANK_HBANK, .DEC_PATHp_BANK_TBANK, .DEC_PATHp_BANK_XFLEFT, .DEC_RSr_IDX_RUN, .DEC_RSr_CNT_LATE,
      .FAB_STATUS_RUN, .FAB_STATUS_FAULT, .FAB_SNAP_FROZEN, .FAB_NAN_INF, .FAB_NAN_NAN, .FAB_FRAME_LO_K, .FAB_FRAME_HI_K, .FAB_HASH_LO_H,
      .FAB_HASH_HI_H, .FAB_SNAPK_LO_K, .FAB_SNAPK_HI_K, .FAB_TILEt_PEAK_CYC, .SO_LEDSTAT_FULL, .SO_LEDSTAT_WRAPPED, .SO_LEDSTAT_LOST, .SO_LEDPTR_NEXT,
      .SO_DROP_HW, .SO_DROP_DL, .CAP_STATUS_ARMED, .CAP_STATUS_DONE, .CAP_FRCFG_HOLD, .CAP_FRSTAT_REC, .CAP_FRSTAT_HCAUSE, .CAP_FRSTAT_GAPS,
      .CAP_FROLDK_LO_K, .CAP_FROLDK_HI_K, .CAP_FRNEWK_LO_K, .CAP_FRNEWK_HI_K, .CAP_RPSTAT_STATE, .CAP_RPSTAT_REASON, .CAP_RPSTAT_SKIPS,
      .CAP_RPDIV_SLOT, .CAP_RPDIV_NDIV, .CAP_RPK_LO_W, .CAP_RPK_HI_W, .CAP_RPREC_LO_W, .CAP_RPREC_HI_W, .CAP_RPCALC_LO_W, .CAP_RPCALC_HI_W,
      .CAP_WINw_STAT_STATE, .CAP_WINw_STAT_SEG, .CAP_WINw_STAT_NDONE, .CAP_WINw_MISS_COUNT, .CAP_WINw_MISS_NEXT, .SEC_IMG_STATUS_BUSY,
      .SEC_IMG_STATUS_CODE, .LK_HIRQ_CAUSE, .HL_STATUS_OVF, .AXn_STAT_STATE]

/-- What FEEDBACK may change. -/
def reachFeedback : Nat :=
  mask [.time, .root, .hidden, .office, .capture, .legs, .trips, .sense, .slots, .fabric, .acceptance, .safety, .security, .links, .twin, .health,
      .axes, .cycle, .fresh, .outbox, .memory] [.NODE_MODE_ENTRY, .NODE_MODE_PENDING, .NODE_MODE_LATCH, .NODE_MODE_MODE, .NODE_TEST_RUNNING,
      .NODE_TEST_RESULT, .NODE_TRIPSTAT_LTOTAL, .NODE_TRIPSTAT_CLRREF, .NODE_TRIPSTAT_ANY, .NODE_BTRIP_BRIDGE, .NODE_TWIN_STAT_ROLE,
      .NODE_TWIN_STAT_SEQ_END, .NODE_TWIN_STAT_HELDLOSS, .NODE_TWIN_SEQ_LO_NEXT, .NODE_TWIN_SEQ_HI_NEXT, .NODE_LTRIPm_LEG, .NODE_BCAUSEb_FIRST,
      .NODE_BCAUSEb_LAST, .NODE_BCAUSEb_NCAUSE, .NODE_BCNTb_TOTAL, .NODE_BCNTb_WIN, .POST_STATUS_CHANGED, .POST_STATUS_STATE, .POST_TIG_TIMEBASE,
      .POST_TIG_HELD, .POST_ACC_LATE, .LEGn_FORCE_CODE, .LEGn_STATUS_DRIVE, .LEGn_STATUS_HELD, .LEGn_STATUS_FCODE, .LEGn_DEBT_D, .LEGn_DEBTMAX_D,
      .BRIDGE_CTRL_SRC, .SN_SNAPSTAT_DROP, .SN_SNAPSTAT_PEND, .DEC_RSr_IDX_RUN, .FAB_STATUS_RUN, .SO_LEDSTAT_FULL, .SO_LEDSTAT_WRAPPED,
      .SO_LEDSTAT_LOST, .SO_LEDPTR_NEXT, .SO_DROP_HW, .SO_DROP_DL, .CAP_WINw_MISS_COUNT, .CAP_WINw_MISS_NEXT, .SAF_STATUS_PERMIT, .SAF_STATUS_ISTO,
      .SAF_STATUS_DEMAND, .SAF_STATUS_RFOFF, .SAF_LOCK_FIRST, .SAF_LOCK_INDEX, .SAF_LOCK_NCAUSE, .SAF_LOCK_OPEN, .SAF_IN_DISCREP, .SAF_OUT_TPACT,
      .SAF_OUT_RB, .SAF_OUT_CMD, .SAF_FB_MISMATCH, .SAF_FB_LEVEL, .SAF_PLUG_STATE, .SAF_PLUG_LOCKCMD, .SAF_PLUG_LOCKFB, .SAF_PLUG_CODE,
      .SAF_CNT_DEMANDS, .SAF_RFj_STAT_FRESH, .SEC_IMG_STATUS_BUSY, .SEC_IMG_STATUS_CODE, .LK_HIRQ_CAUSE, .AXn_STAT_STATE]

/-- What FOLLOWING_ERROR may change. -/
def reachFollowingError : Nat :=
  mask [.time, .root, .fabric, .axes, .axisNv, .cycle, .outbox] [.POST_STATUS_CHANGED, .POST_STATUS_STATE, .POST_TIG_TIMEBASE, .POST_TIG_HELD,
      .LK_HIRQ_CAUSE, .AXn_STAT_STATE, .AXn_STAT_FAULT]

/-- What BUDGET_EXHAUSTED, BUS_STATE_PERSIST, ENERGIZE_TIMEOUT, FRAME_START, HIBERNATE_ENTRY, INPUT_HOLD_FAULT, POLE_SLIP, QUIET_ENTRY,
RAMP_ORIGIN, RAMP_STALL, SLOT_TIME, SYNC_OK, SYNC_TIMEOUT, TVIMP_BLEND_END, TVIMP_HOLD_END may change. -/
def reachFrameStart : Nat :=
  mask [.regs, .time, .root, .shadows, .hidden, .office, .capture, .legs, .trips, .sense, .image, .slots, .fabric, .acceptance, .safety, .security,
      .links, .twin, .health, .axes, .axisNv, .journal, .cycle, .fresh, .outbox, .memory] [.NODE_PAIR_PAIR_VALID, .NODE_PAIR_PARTNER,
      .NODE_PAIR_PAIR_ID, .NODE_MODE_REFUSE, .NODE_MODE_ENTRY, .NODE_MODE_QUIET, .NODE_MODE_PENDING, .NODE_MODE_MODE, .NODE_TEST_RESULT,
      .NODE_TEST_FAILUNIT, .NODE_ADDRERR_COUNT, .NODE_ADDRERR_REQ, .NODE_ADDRERR_KIND, .NODE_ADDRERR_ADDR_ADDR, .NODE_TRIPSTAT_LTOTAL,
      .NODE_TRIPSTAT_BLANKED, .NODE_TRIPSTAT_CLRREF, .NODE_TRIPSTAT_ANY, .NODE_BTRIP_BRIDGE, .NODE_TWIN_STAT_ROLE, .NODE_TWIN_STAT_DIVERGED,
      .NODE_TWIN_STAT_SEQ_END, .NODE_TWIN_STAT_REFUSE, .NODE_TWIN_STAT_HELDLOSS, .NODE_TWIN_CNT_BMISS, .NODE_TWIN_CNT_MISM, .NODE_TWIN_SEQ_LO_NEXT,
      .NODE_TWIN_SEQ_HI_NEXT, .NODE_LTRIPm_LEG, .NODE_LTINm_LEG, .NODE_BCAUSEb_FIRST, .NODE_BCAUSEb_LAST, .NODE_BCAUSEb_NCAUSE, .NODE_BCNTb_TOTAL,
      .NODE_BCNTb_WIN, .POST_STATUS_CHANGED, .POST_STATUS_STATE, .POST_OFFSET_OFS_NS, .POST_TIG_LAPSES, .POST_TIG_HWFAULT, .POST_TIG_TIMEBASE,
      .POST_TIG_OVERRUN, .POST_TIG_FOREIGN, .POST_TIG_IMAGE, .POST_TIG_HELD, .POST_ACC_SUPER, .POST_ACC_LATE, .POST_TIGBASE_LO_FRAC,
      .POST_TIGBASE_HI_SEC, .CK_LOCKWIN_COUNT, .CK_RSTCAUSE_WAKE, .CK_RSTCAUSE_COARSE_LOST, .CK_RSTCAUSE_BOSUP, .CK_RSTCAUSE_KIND,
      .CK_WDOG_CFG_TIMEOUT, .CK_WAKE_CAUSE, .CK_WAKE_INPUT, .LEGn_CFG_BLANK, .LEGn_CFG_PHASE, .LEGn_CFG_BRIDGE, .LEGn_CFG_SAFE, .LEGn_CFG_POLICY,
      .LEGn_CFG_SENSE, .LEGn_CFG_ASSIGNED, .LEGn_DT_RISE, .LEGn_DT_FALL, .LEGn_MINP_MIN, .LEGn_DUTY_DUTY, .LEGn_PHASE_PHASE, .LEGn_PERIOD_PERIOD,
      .LEGn_DUTY_ACT_DUTY, .LEGn_PHASE_ACT_PHASE, .LEGn_PERIOD_ACT_PERIOD, .LEGn_FORCE_CODE, .LEGn_STATUS_DRIVE, .LEGn_STATUS_HELD,
      .LEGn_STATUS_PEND_D, .LEGn_STATUS_PEND_PP, .LEGn_STATUS_FCODE, .LEGn_STATUS_PCLAMP, .LEGn_DEBT_D, .LEGn_DEBTMAX_D, .LEGn_CNT_SUPER,
      .BRIDGE_CFG_PRESENT, .BRIDGE_CFG_ROLE, .BRIDGE_CFG_NPHASE, .BRIDGE_CFG_CFORM, .BRIDGE_CFG_RELOAD, .BRIDGE_CTRL_SRC, .SN_STATUS_RUN,
      .SN_STATUS_GRPEN, .SN_STATUS_BANKEN, .SN_CAL_PHASE, .SN_CAL_STEP, .SN_CAL_ROT, .SN_SNAPSTAT_DONE, .SN_SNAPSTAT_DROP, .SN_SNAPSTAT_PEND,
      .SN_ORm_CH, .SN_LOSTm_CH, .SN_BANKb_PM, .SN_BANKb_FORM, .SN_BANKb_SDLEV, .SN_BANKb_CLKADJ, .SN_BANKb_SDLY, .SN_GRPg_EN, .SN_GRPg_PS,
      .DEC_PATHp_CFG_DEFINED, .DEC_PATHp_CFG_K, .DEC_PATHp_CFG_DLOG, .DEC_PATHp_CFG_R, .DEC_PATHp_CFG_SRC, .DEC_PATHp_BANK_FADING,
      .DEC_PATHp_BANK_HELD, .DEC_PATHp_BANK_HBANK, .DEC_PATHp_BANK_TBANK, .DEC_PATHp_BANK_ABANK, .DEC_PATHp_BANK_ARESP, .DEC_PATHp_BANK_XFLEFT,
      .DEC_PATHp_DLY_UNITS, .DEC_RSr_CFG_DEFINED, .DEC_RSr_CFG_LOCK, .DEC_RSr_CFG_BRIDGE, .DEC_RSr_CFG_LOGN, .DEC_RSr_CFG_CYC, .DEC_RSr_CFG_SRC,
      .DEC_RSr_IDX_RUN, .DEC_RSr_IDX_J, .DEC_RSr_CNT_OUT, .DEC_RSr_CNT_LATE, .FAB_STATUS_RUN, .FAB_STATUS_FAULT, .FAB_STATUS_SLOT, .FAB_STATUS_ACTIVE,
      .FAB_STATUS_USED, .FAB_CFG_G3, .FAB_CFG_G2, .FAB_CFG_G1, .FAB_CFG_G0, .FAB_CFG_FRATE, .FAB_SNAP_FROZEN, .FAB_SNAP_FREEZE, .FAB_NAN_INF,
      .FAB_NAN_NAN, .FAB_FRAME_LO_K, .FAB_FRAME_HI_K, .FAB_HASH_LO_H, .FAB_HASH_HI_H, .FAB_SNAPK_LO_K, .FAB_SNAPK_HI_K, .FAB_TILEt_STATIC_CYC,
      .FAB_TILEt_PEAK_CYC, .SO_LEDSTAT_FULL, .SO_LEDSTAT_WRAPPED, .SO_LEDSTAT_LOST, .SO_LEDPTR_NEXT, .SO_DROP_HW, .SO_DROP_DL, .SO_PHp_PRIO,
      .SO_PHp_CORES, .SO_PHp_LIMIT, .CAP_STATUS_ARMED, .CAP_STATUS_DONE, .CAP_FRCFG_HOLD, .CAP_FRSTAT_REC, .CAP_FRSTAT_HCAUSE, .CAP_FRSTAT_GAPS,
      .CAP_FRPTR_OFS, .CAP_FROLDK_LO_K, .CAP_FROLDK_HI_K, .CAP_FRNEWK_LO_K, .CAP_FRNEWK_HI_K, .CAP_RPSTAT_STATE, .CAP_RPSTAT_REASON,
      .CAP_RPSTAT_SKIPS, .CAP_RPDIV_SLOT, .CAP_RPDIV_NDIV, .CAP_RPK_LO_W, .CAP_RPK_HI_W, .CAP_RPREC_LO_W, .CAP_RPREC_HI_W, .CAP_RPCALC_LO_W,
      .CAP_RPCALC_HI_W, .CAP_WINw_STAT_STATE, .CAP_WINw_STAT_ARMERR, .CAP_WINw_STAT_SEG, .CAP_WINw_STAT_NDONE, .CAP_WINw_MISS_COUNT,
      .CAP_WINw_MISS_NEXT, .SAF_OUT_TPACT, .SAF_OUT_RB, .SAF_OUT_CMD, .SAF_ISO_VALID, .SAF_ISO_FAULT, .SAF_ISO_R_ISO, .SAF_CNT_TPDONE,
      .SAF_CNT_DEMANDS, .SAF_RFj_STAT_DEFINED, .SAF_RFj_STAT_FRESH, .SAF_RFj_STAT_PERMIT, .SAF_RFj_STAT_DIR, .SAF_RFj_STAT_SEQ, .SAF_RFj_CNT_CRCC,
      .SAF_RFj_CNT_CRCK, .SAF_RFj_CNT_SEQ, .SAF_RFj_CNT_TIME, .SEC_STATUS_LOGFULL, .SEC_STATUS_LOGN, .SEC_CNT_TAGFAIL, .SEC_CNT_REPLAY,
      .SEC_SESS_OPEN, .SEC_ENR_PTR_OFS, .SEC_FW_PTR_OFS, .SEC_FW_STATUS_CODE, .SEC_FW_STATUS_STATE, .SEC_IMG_PTR_OFS, .SEC_IMG_STATUS_BUSY,
      .SEC_IMG_STATUS_CODE, .SEC_IMG_STATUS_ACT_SLOT, .SEC_IMG_STATUS_ACT_MARK, .SEC_IMG_STATUS_STATE, .SEC_IMG_WHERE_SECT, .SEC_IMG_WHERE_REC,
      .SEC_FW_VERs_VER, .SEC_FRANK_NONCEn_N, .SEC_RBi_COUNT, .SEC_IMG_VERs_VER, .SEC_IMG_IDs_ID, .LK_STATUS_PCIE_UP, .LK_STATUS_GEN, .LK_STATUS_WIDTH,
      .LK_HIRQ_CAUSE, .LK_TWIN_STAT_DELAY, .LK_TWIN_CNT_TAGFAIL, .LK_TWIN_CNT_LATE, .LK_SPn_CNT_RXDROP, .LK_SPn_CNT_DUP, .LK_CANc_TXDONE_DONE,
      .HL_STATUS_RUN, .HL_STATUS_COUNT_LOST, .HL_STATUS_OVF, .HL_NVp_MAXW, .AXn_STAT_STATE, .AXn_STAT_FAULT, .AXn_STAT_CHATTER]

/-- What FRANK_REP may change. -/
def reachFrankRep : Nat :=
  mask [.office, .security, .links, .cycle, .fresh, .outbox] [.SO_LEDSTAT_FULL, .SO_LEDSTAT_WRAPPED, .SO_LEDSTAT_LOST, .SO_LEDPTR_NEXT, .SO_DROP_HW,
      .SO_DROP_DL, .LK_HIRQ_CAUSE, .LK_SPn_CNT_RXDROP]

/-- What FRANK_REQ may change. -/
def reachFrankReq : Nat :=
  mask [.office, .security, .links, .cycle, .fresh, .outbox] [.SO_LEDSTAT_FULL, .SO_LEDSTAT_WRAPPED, .SO_LEDSTAT_LOST, .SO_LEDPTR_NEXT, .SO_DROP_HW,
      .SO_DROP_DL, .SEC_FRANK_STATUS_QUEUE, .LK_HIRQ_CAUSE, .LK_SPn_CNT_RXDROP]

/-- What FRANK_REQUEST may change. -/
def reachFrankRequest : Nat :=
  mask [.office, .security, .cycle, .fresh, .outbox] [.SO_LEDSTAT_FULL, .SO_LEDSTAT_WRAPPED, .SO_LEDSTAT_LOST, .SO_LEDPTR_NEXT, .SO_DROP_HW,
      .SO_DROP_DL, .SEC_FRANK_STATUS_BUSY, .SEC_FRANK_STATUS_DONE, .SEC_FRANK_STATUS_CODE, .SEC_FRANK_STATUS_QUEUE, .LK_HIRQ_CAUSE]

/-- What FW_ABORT, FW_COMMIT, FW_ERASE may change. -/
def reachFwAbort : Nat :=
  mask [.office, .security, .cycle, .fresh, .outbox] [.SO_LEDSTAT_FULL, .SO_LEDSTAT_WRAPPED, .SO_LEDSTAT_LOST, .SO_LEDPTR_NEXT, .SO_DROP_HW,
      .SO_DROP_DL, .SEC_FW_STATUS_CODE, .SEC_FW_STATUS_STATE, .SEC_FW_VERs_VER, .LK_HIRQ_CAUSE]

/-- What FW_OPEN may change. -/
def reachFwOpen : Nat :=
  mask [.office, .security, .cycle, .fresh, .outbox] [.SO_LEDSTAT_FULL, .SO_LEDSTAT_WRAPPED, .SO_LEDSTAT_LOST, .SO_LEDPTR_NEXT, .SO_DROP_HW,
      .SO_DROP_DL, .SEC_FW_PTR_OFS, .SEC_FW_STATUS_CODE, .SEC_FW_STATUS_STATE, .SEC_FW_VERs_VER, .LK_HIRQ_CAUSE]

/-- What HANDOVER_REQUEST_RECEIVED may change. -/
def reachHandoverRequestReceived : Nat :=
  mask [.time, .office, .legs, .fabric, .security, .links, .twin, .cycle, .fresh, .outbox] [.NODE_TWIN_STAT_ROLE, .NODE_TWIN_STAT_SEQ_END,
      .NODE_TWIN_SEQ_LO_NEXT, .NODE_TWIN_SEQ_HI_NEXT, .POST_STATUS_CHANGED, .POST_STATUS_SRC_ACT, .POST_STATUS_COARSE, .POST_STATUS_STATE,
      .POST_TRIM_TRIM, .POST_TIG_TIMEBASE, .POST_TIG_HELD, .LEGn_STATUS_DRIVE, .SO_LEDSTAT_FULL, .SO_LEDSTAT_WRAPPED, .SO_LEDSTAT_LOST,
      .SO_LEDPTR_NEXT, .SO_DROP_HW, .SO_DROP_DL, .LK_HIRQ_CAUSE]

/-- What HELLO may change. -/
def reachHello : Nat :=
  mask [.office, .legs, .fabric, .security, .links, .twin, .health, .cycle, .fresh, .outbox] [.NODE_PAIR_PAIR_VALID, .NODE_PAIR_PARTNER,
      .NODE_PAIR_PAIR_ID, .NODE_TWIN_STAT_ROLE, .NODE_TWIN_STAT_LINK, .NODE_TWIN_STAT_SILENT, .NODE_TWIN_STAT_DIVERGED, .NODE_TWIN_STAT_SEQ_END,
      .NODE_TWIN_STAT_REFUSE, .NODE_TWIN_SEQ_LO_NEXT, .NODE_TWIN_SEQ_HI_NEXT, .LEGn_STATUS_DRIVE, .SO_LEDSTAT_FULL, .SO_LEDSTAT_WRAPPED,
      .SO_LEDSTAT_LOST, .SO_LEDPTR_NEXT, .SO_DROP_HW, .SO_DROP_DL, .LK_STATUS_TWIN_UP, .LK_HIRQ_CAUSE, .LK_TWIN_STAT_BLOCK, .LK_TWIN_STAT_SESSION]

/-- What HOLDOVER_BOUND_EXCEEDED may change. -/
def reachHoldoverBoundExceeded : Nat :=
  mask [.time, .root, .fabric, .cycle, .outbox] [.POST_STATUS_CHANGED, .POST_STATUS_COARSE, .POST_STATUS_STATE, .POST_TRIM_TRIM, .POST_TIG_TIMEBASE,
      .POST_TIG_HELD, .LK_HIRQ_CAUSE]

/-- What HOMING_EDGE may change. -/
def reachHomingEdge : Nat :=
  mask [.axes, .cycle] [.AXn_STAT_STATE, .AXn_STAT_HOMED, .AXn_STAT_REHOME_ADVISED, .AXn_STAT_CHATTER, .AXn_POS_LO_W, .AXn_POS_HI_W, .AXn_ENC_LO_W,
      .AXn_ENC_HI_W]

/-- What the operation hostSet may change. -/
def reachHostSet : Nat :=
  mask [.time, .office, .legs, .sense, .fabric, .acceptance, .safety, .security, .links, .twin, .axisTick, .cycle, .fresh,
      .outbox] [.NODE_TWIN_STAT_SEQ_END, .NODE_TWIN_STAT_HELDLOSS, .NODE_TWIN_SEQ_LO_NEXT, .NODE_TWIN_SEQ_HI_NEXT, .POST_STATUS_STEPPED,
      .POST_STATUS_SRC_ACT, .DEC_PATHp_BANK_FADING, .DEC_PATHp_BANK_HELD, .DEC_PATHp_BANK_TBANK, .DEC_PATHp_BANK_ABANK, .DEC_PATHp_BANK_ARESP,
      .DEC_PATHp_BANK_XFLEFT, .DEC_PATHp_DLY_UNITS, .SO_LEDSTAT_FULL, .SO_LEDSTAT_WRAPPED, .SO_LEDSTAT_LOST, .SO_LEDPTR_NEXT, .SO_DROP_HW,
      .SO_DROP_DL]

/-- What IMG_ACTIVATE may change. -/
def reachImgActivate : Nat :=
  mask [.slots, .cycle, .outbox] [.SEC_IMG_STATUS_BUSY, .SEC_IMG_STATUS_CODE, .SEC_IMG_STATUS_STATE, .SEC_IMG_WHERE_SECT, .SEC_IMG_WHERE_REC,
      .SEC_IMG_VERs_VER, .SEC_IMG_IDs_ID, .LK_HIRQ_CAUSE]

/-- What IMG_COMMIT may change. -/
def reachImgCommit : Nat :=
  mask [.slots, .cycle, .outbox] [.SEC_IMG_STATUS_CODE, .SEC_IMG_STATUS_STATE, .SEC_IMG_WHERE_SECT, .SEC_IMG_WHERE_REC, .SEC_IMG_VERs_VER,
      .SEC_IMG_IDs_ID, .LK_HIRQ_CAUSE]

/-- What INSTALL may change. -/
def reachInstall : Nat :=
  mask [.time, .office, .slots, .fabric, .acceptance, .security, .links, .twin, .health, .cycle, .fresh, .outbox] [.NODE_IDENT_PROV, .NODE_IDENT_TWIN,
      .NODE_IDENT_CLUSTER, .NODE_IDENT_NODE, .NODE_MODE_PENDING, .NODE_TWIN_STAT_SEQ_END, .NODE_TWIN_STAT_HELDLOSS, .NODE_TWIN_SEQ_LO_NEXT,
      .NODE_TWIN_SEQ_HI_NEXT, .POST_STATUS_CHANGED, .POST_STATUS_STEPPED, .POST_STATUS_COARSE, .POST_STATUS_STATE, .POST_TRIM_TRIM,
      .POST_EPOCH_LO_SEC, .POST_EPOCH_HI_VALID, .POST_EPOCH_HI_SEC, .POST_TIG_TIMEBASE, .POST_TIG_HELD, .SO_LEDSTAT_FULL, .SO_LEDSTAT_WRAPPED,
      .SO_LEDSTAT_LOST, .SO_LEDPTR_NEXT, .SO_DROP_HW, .SO_DROP_DL, .SEC_STATUS_ENROLLED, .SEC_STATUS_DXK, .SEC_STATUS_LOGFULL, .SEC_STATUS_LOGN,
      .SEC_RESULT_CODE, .SEC_SESS_OPEN, .SEC_IMG_STATUS_ACT_SLOT, .SEC_IMG_STATUS_ACT_MARK, .SEC_IMG_STATUS_STATE, .SEC_RBi_COUNT, .SEC_IMG_VERs_VER,
      .SEC_IMG_IDs_ID, .LK_HIRQ_CAUSE, .HL_NVp_MAXW]

/-- What INSULATION_MEASURE may change. -/
def reachInsulationMeasure : Nat :=
  mask [.office, .safety, .cycle, .fresh, .outbox] [.SO_LEDSTAT_FULL, .SO_LEDSTAT_WRAPPED, .SO_LEDSTAT_LOST, .SO_LEDPTR_NEXT, .SO_DROP_HW,
      .SO_DROP_DL, .SAF_ISO_VALID, .SAF_ISO_WARN, .SAF_ISO_FAULT, .SAF_ISO_R_ISO, .LK_HIRQ_CAUSE]

/-- What KEY_CONFIRM may change. -/
def reachKeyConfirm : Nat :=
  mask [.office, .security, .cycle, .fresh, .outbox] [.SO_LEDSTAT_FULL, .SO_LEDSTAT_WRAPPED, .SO_LEDSTAT_LOST, .SO_LEDPTR_NEXT, .SO_DROP_HW,
      .SO_DROP_DL, .SEC_CNT_TAGFAIL, .SEC_SESS_OPEN, .LK_HIRQ_CAUSE, .LK_SPn_CNT_RXDROP]

/-- What KEY_TRANSPORT may change. -/
def reachKeyTransport : Nat :=
  mask [.office, .security, .links, .cycle, .fresh, .outbox] [.SO_LEDSTAT_FULL, .SO_LEDSTAT_WRAPPED, .SO_LEDSTAT_LOST, .SO_LEDPTR_NEXT, .SO_DROP_HW,
      .SO_DROP_DL, .SEC_SESS_OPEN, .LK_HIRQ_CAUSE, .LK_SPn_CNT_RXDROP]

/-- What KEY_TRANSPORT_TIMEOUT may change. -/
def reachKeyTransportTimeout : Nat :=
  mask [.time, .root, .office, .fabric, .security, .cycle, .fresh, .outbox] [.POST_STATUS_CHANGED, .POST_STATUS_STATE, .POST_TIG_TIMEBASE,
      .POST_TIG_HELD, .SO_LEDSTAT_FULL, .SO_LEDSTAT_WRAPPED, .SO_LEDSTAT_LOST, .SO_LEDPTR_NEXT, .SO_DROP_HW, .SO_DROP_DL, .LK_HIRQ_CAUSE]

/-- What LEG_TRIP_INPUT may change. -/
def reachLegTripInput : Nat :=
  mask [.office, .capture, .legs, .trips, .sense, .cycle, .fresh, .memory] [.NODE_TRIPSTAT_LTOTAL, .NODE_TRIPSTAT_BLANKED, .NODE_TRIPSTAT_CLRREF,
      .NODE_TRIPSTAT_ANY, .NODE_BTRIP_BRIDGE, .NODE_LTRIPm_LEG, .NODE_LTINm_LEG, .NODE_BCAUSEb_FIRST, .NODE_BCAUSEb_LAST, .NODE_BCAUSEb_NCAUSE,
      .NODE_BCNTb_TOTAL, .NODE_BCNTb_WIN, .LEGn_STATUS_HELD, .LEGn_DEBT_D, .LEGn_DEBTMAX_D, .SN_SNAPSTAT_DROP, .SN_SNAPSTAT_PEND, .SO_LEDSTAT_FULL,
      .SO_LEDSTAT_WRAPPED, .SO_LEDSTAT_LOST, .SO_LEDPTR_NEXT, .SO_DROP_HW, .SO_DROP_DL, .CAP_WINw_MISS_COUNT, .CAP_WINw_MISS_NEXT]

/-- What LIMIT_SWITCH may change. -/
def reachLimitSwitch : Nat :=
  mask [.axes, .axisNv] [.AXn_STAT_STATE, .AXn_STAT_HOMED, .AXn_STAT_REHOME_ADVISED, .AXn_STAT_FAULT, .AXn_STAT_HWLIM, .AXn_POS_LO_W, .AXn_POS_HI_W,
      .AXn_ENC_LO_W, .AXn_ENC_HI_W]

/-- What LINK_LOSS may change. -/
def reachLinkLoss : Nat :=
  mask [.office, .legs, .fabric, .security, .links, .twin, .cycle, .fresh, .outbox] [.NODE_TWIN_STAT_ROLE, .NODE_TWIN_STAT_LINK,
      .NODE_TWIN_STAT_SEQ_END, .NODE_TWIN_STAT_LINK_DOWN, .NODE_TWIN_SEQ_LO_NEXT, .NODE_TWIN_SEQ_HI_NEXT, .LEGn_STATUS_DRIVE, .SO_LEDSTAT_FULL,
      .SO_LEDSTAT_WRAPPED, .SO_LEDSTAT_LOST, .SO_LEDPTR_NEXT, .SO_DROP_HW, .SO_DROP_DL, .LK_STATUS_TWIN_UP, .LK_HIRQ_CAUSE, .LK_TWIN_STAT_BLOCK]

/-- What LOCK_WINDOW_END may change. -/
def reachLockWindowEnd : Nat :=
  mask [.time, .root, .hidden, .office, .capture, .legs, .trips, .sense, .slots, .fabric, .security, .links, .twin, .axes, .cycle, .fresh, .outbox,
      .memory] [.NODE_MODE_ENTRY, .NODE_MODE_MODE, .NODE_TEST_RUNNING, .NODE_TEST_RESULT, .NODE_TRIPSTAT_LTOTAL, .NODE_TRIPSTAT_CLRREF,
      .NODE_TRIPSTAT_ANY, .NODE_BTRIP_BRIDGE, .NODE_TWIN_STAT_ROLE, .NODE_TWIN_STAT_SEQ_END, .NODE_TWIN_SEQ_LO_NEXT, .NODE_TWIN_SEQ_HI_NEXT,
      .NODE_LTRIPm_LEG, .NODE_BCAUSEb_FIRST, .NODE_BCAUSEb_LAST, .NODE_BCAUSEb_NCAUSE, .NODE_BCNTb_TOTAL, .NODE_BCNTb_WIN, .POST_STATUS_CHANGED,
      .POST_STATUS_COARSE, .POST_STATUS_STATE, .POST_TRIM_TRIM, .POST_TIG_TIMEBASE, .POST_TIG_HELD, .CK_STATUS_LOCK, .CK_STATUS_SHADOW,
      .CK_STATUS_ACT, .CK_STATUS_REF1_OK, .CK_STATUS_REF0_OK, .CK_STATUS_LOSS, .CK_STATUS_RELOCKS, .CK_LOCKWIN_COUNT, .LEGn_FORCE_CODE,
      .LEGn_STATUS_DRIVE, .LEGn_STATUS_HELD, .LEGn_STATUS_FCODE, .LEGn_DEBT_D, .LEGn_DEBTMAX_D, .BRIDGE_CTRL_SRC, .SN_SNAPSTAT_DROP,
      .SN_SNAPSTAT_PEND, .DEC_RSr_IDX_RUN, .FAB_STATUS_RUN, .SO_LEDSTAT_FULL, .SO_LEDSTAT_WRAPPED, .SO_LEDSTAT_LOST, .SO_LEDPTR_NEXT, .SO_DROP_HW,
      .SO_DROP_DL, .CAP_WINw_MISS_COUNT, .CAP_WINw_MISS_NEXT, .SEC_IMG_STATUS_BUSY, .SEC_IMG_STATUS_CODE, .LK_STATUS_PCIE_UP, .LK_STATUS_GEN,
      .LK_STATUS_WIDTH, .LK_STATUS_TWIN_UP, .LK_HIRQ_CAUSE, .LK_TWIN_STAT_BLOCK, .LK_SPn_STAT_UP, .AXn_STAT_STATE]

/-- What LRST_RELEASE may change. -/
def reachLrstRelease : Nat :=
  mask [.time, .root, .hidden, .office, .capture, .legs, .trips, .sense, .image, .slots, .fabric, .acceptance, .safety, .security, .links, .twin,
      .health, .axes, .journal, .cycle, .fresh, .outbox, .memory] [.NODE_MODE_ENTRY, .NODE_MODE_PENDING, .NODE_MODE_LATCH, .NODE_MODE_MODE,
      .NODE_TEST_RUNNING, .NODE_TEST_RESULT, .NODE_TRIPSTAT_LTOTAL, .NODE_TRIPSTAT_CLRREF, .NODE_TRIPSTAT_ANY, .NODE_BTRIP_BRIDGE,
      .NODE_TWIN_STAT_ROLE, .NODE_TWIN_STAT_SEQ_END, .NODE_TWIN_STAT_HELDLOSS, .NODE_TWIN_SEQ_LO_NEXT, .NODE_TWIN_SEQ_HI_NEXT, .NODE_LTRIPm_LEG,
      .NODE_LTINm_LEG, .NODE_BCAUSEb_FIRST, .NODE_BCAUSEb_LAST, .NODE_BCAUSEb_NCAUSE, .NODE_BCNTb_TOTAL, .NODE_BCNTb_WIN, .POST_STATUS_CHANGED,
      .POST_STATUS_STATE, .POST_TIG_TIMEBASE, .POST_TIG_IMAGE, .POST_TIG_HELD, .POST_ACC_LATE, .LEGn_CFG_BLANK, .LEGn_CFG_PHASE, .LEGn_CFG_BRIDGE,
      .LEGn_CFG_SAFE, .LEGn_CFG_POLICY, .LEGn_CFG_SENSE, .LEGn_CFG_ASSIGNED, .LEGn_DT_RISE, .LEGn_DT_FALL, .LEGn_MINP_MIN, .LEGn_DUTY_DUTY,
      .LEGn_PHASE_PHASE, .LEGn_PERIOD_PERIOD, .LEGn_DUTY_ACT_DUTY, .LEGn_PHASE_ACT_PHASE, .LEGn_PERIOD_ACT_PERIOD, .LEGn_FORCE_CODE,
      .LEGn_STATUS_DRIVE, .LEGn_STATUS_HELD, .LEGn_STATUS_PEND_D, .LEGn_STATUS_PEND_PP, .LEGn_STATUS_FCODE, .LEGn_DEBT_D, .LEGn_DEBTMAX_D,
      .BRIDGE_CFG_PRESENT, .BRIDGE_CFG_ROLE, .BRIDGE_CFG_NPHASE, .BRIDGE_CFG_CFORM, .BRIDGE_CFG_RELOAD, .BRIDGE_CTRL_SRC, .SN_STATUS_RUN,
      .SN_STATUS_GRPEN, .SN_STATUS_BANKEN, .SN_CAL_PHASE, .SN_CAL_STEP, .SN_CAL_ROT, .SN_SNAPSTAT_DROP, .SN_SNAPSTAT_PEND, .SN_LOSTm_CH, .SN_BANKb_PM,
      .SN_BANKb_FORM, .SN_BANKb_SDLEV, .SN_BANKb_CLKADJ, .SN_BANKb_SDLY, .SN_GRPg_EN, .SN_GRPg_PS, .DEC_PATHp_CFG_DEFINED, .DEC_PATHp_CFG_K,
      .DEC_PATHp_CFG_DLOG, .DEC_PATHp_CFG_R, .DEC_PATHp_CFG_SRC, .DEC_PATHp_BANK_FADING, .DEC_PATHp_BANK_HELD, .DEC_PATHp_BANK_HBANK,
      .DEC_PATHp_BANK_TBANK, .DEC_PATHp_BANK_ABANK, .DEC_PATHp_BANK_ARESP, .DEC_PATHp_BANK_XFLEFT, .DEC_PATHp_DLY_UNITS, .DEC_RSr_CFG_DEFINED,
      .DEC_RSr_CFG_LOCK, .DEC_RSr_CFG_BRIDGE, .DEC_RSr_CFG_LOGN, .DEC_RSr_CFG_CYC, .DEC_RSr_CFG_SRC, .DEC_RSr_IDX_RUN, .DEC_RSr_IDX_J,
      .FAB_STATUS_RUN, .SO_LEDSTAT_FULL, .SO_LEDSTAT_WRAPPED, .SO_LEDSTAT_LOST, .SO_LEDPTR_NEXT, .SO_DROP_HW, .SO_DROP_DL, .CAP_STATUS_ARMED,
      .CAP_STATUS_DONE, .CAP_FROLDK_LO_K, .CAP_FROLDK_HI_K, .CAP_FRNEWK_LO_K, .CAP_FRNEWK_HI_K, .CAP_WINw_STAT_STATE, .CAP_WINw_MISS_COUNT,
      .CAP_WINw_MISS_NEXT, .SAF_STATUS_PERMIT, .SAF_STATUS_ISTO, .SAF_STATUS_DEMAND, .SAF_STATUS_RFOFF, .SAF_LOCK_FIRST, .SAF_LOCK_INDEX,
      .SAF_LOCK_NCAUSE, .SAF_LOCK_OPEN, .SAF_IN_DISCREP, .SAF_OUT_TPACT, .SAF_OUT_RB, .SAF_OUT_CMD, .SAF_FB_MISMATCH, .SAF_LRST_PRESSED,
      .SAF_LRST_STUCK, .SAF_LRST_SHORT, .SAF_LRST_LAST, .SAF_PLUG_STATE, .SAF_PLUG_LOCKCMD, .SAF_PLUG_LOCKFB, .SAF_PLUG_CODE, .SAF_ISO_VALID,
      .SAF_ISO_FAULT, .SAF_ISO_R_ISO, .SAF_CNT_DEMANDS, .SAF_RFj_STAT_DEFINED, .SAF_RFj_STAT_FRESH, .SAF_RFj_STAT_PERMIT, .SAF_RFj_STAT_DIR,
      .SAF_RFj_STAT_SEQ, .SEC_STATUS_LOGFULL, .SEC_STATUS_LOGN, .SEC_IMG_STATUS_BUSY, .SEC_IMG_STATUS_CODE, .SEC_IMG_STATUS_ACT_SLOT,
      .SEC_IMG_STATUS_ACT_MARK, .SEC_IMG_STATUS_STATE, .SEC_IMG_WHERE_SECT, .SEC_IMG_WHERE_REC, .SEC_RBi_COUNT, .SEC_IMG_VERs_VER, .SEC_IMG_IDs_ID,
      .LK_HIRQ_CAUSE, .HL_STATUS_RUN, .HL_NVp_MAXW, .AXn_STAT_STATE]

/-- What LRST_STUCK may change. -/
def reachLrstStuck : Nat :=
  mask [.time, .root, .office, .fabric, .safety, .cycle, .fresh, .outbox] [.POST_STATUS_CHANGED, .POST_STATUS_STATE, .POST_TIG_TIMEBASE,
      .POST_TIG_HELD, .SO_LEDSTAT_FULL, .SO_LEDSTAT_WRAPPED, .SO_LEDSTAT_LOST, .SO_LEDPTR_NEXT, .SO_DROP_HW, .SO_DROP_DL, .SAF_LRST_STUCK,
      .LK_HIRQ_CAUSE]

/-- What MIRROR_ACK_TIMEOUT may change. -/
def reachMirrorAckTimeout : Nat :=
  mask [.time, .root, .fabric, .security, .links, .twin, .cycle, .outbox] [.POST_STATUS_CHANGED, .POST_STATUS_STATE, .POST_TIG_TIMEBASE,
      .POST_TIG_HELD, .LK_HIRQ_CAUSE]

/-- What OLD_SESSION_EXPIRY may change. -/
def reachOldSessionExpiry : Nat :=
  mask [.time, .root, .office, .fabric, .security, .cycle, .fresh, .outbox] [.POST_STATUS_CHANGED, .POST_STATUS_STATE, .POST_TIG_TIMEBASE,
      .POST_TIG_HELD, .SO_LEDSTAT_FULL, .SO_LEDSTAT_WRAPPED, .SO_LEDSTAT_LOST, .SO_LEDPTR_NEXT, .SO_DROP_HW, .SO_DROP_DL, .SEC_SESS_OPEN,
      .LK_HIRQ_CAUSE]

/-- What OUTPUT_READBACK may change. -/
def reachOutputReadback : Nat :=
  mask [.time, .root, .hidden, .office, .capture, .legs, .trips, .sense, .slots, .fabric, .acceptance, .safety, .security, .links, .twin, .health,
      .axes, .cycle, .fresh, .outbox, .memory] [.NODE_MODE_ENTRY, .NODE_MODE_PENDING, .NODE_MODE_LATCH, .NODE_MODE_MODE, .NODE_TEST_RUNNING,
      .NODE_TEST_RESULT, .NODE_TRIPSTAT_LTOTAL, .NODE_TRIPSTAT_CLRREF, .NODE_TRIPSTAT_ANY, .NODE_BTRIP_BRIDGE, .NODE_TWIN_STAT_ROLE,
      .NODE_TWIN_STAT_SEQ_END, .NODE_TWIN_STAT_RB_DISAGREE, .NODE_TWIN_STAT_HELDLOSS, .NODE_TWIN_SEQ_LO_NEXT, .NODE_TWIN_SEQ_HI_NEXT,
      .NODE_LTRIPm_LEG, .NODE_BCAUSEb_FIRST, .NODE_BCAUSEb_LAST, .NODE_BCAUSEb_NCAUSE, .NODE_BCNTb_TOTAL, .NODE_BCNTb_WIN, .POST_STATUS_CHANGED,
      .POST_STATUS_STATE, .POST_TIG_TIMEBASE, .POST_TIG_HELD, .POST_ACC_LATE, .LEGn_FORCE_CODE, .LEGn_STATUS_DRIVE, .LEGn_STATUS_HELD,
      .LEGn_STATUS_FCODE, .LEGn_DEBT_D, .LEGn_DEBTMAX_D, .BRIDGE_CTRL_SRC, .SN_SNAPSTAT_DROP, .SN_SNAPSTAT_PEND, .DEC_RSr_IDX_RUN, .FAB_STATUS_RUN,
      .SO_LEDSTAT_FULL, .SO_LEDSTAT_WRAPPED, .SO_LEDSTAT_LOST, .SO_LEDPTR_NEXT, .SO_DROP_HW, .SO_DROP_DL, .CAP_WINw_MISS_COUNT, .CAP_WINw_MISS_NEXT,
      .SAF_STATUS_PERMIT, .SAF_STATUS_ISTO, .SAF_STATUS_DEMAND, .SAF_STATUS_RFOFF, .SAF_LOCK_FIRST, .SAF_LOCK_INDEX, .SAF_LOCK_NCAUSE, .SAF_LOCK_OPEN,
      .SAF_IN_DISCREP, .SAF_OUT_TPACT, .SAF_OUT_RB, .SAF_OUT_CMD, .SAF_FB_MISMATCH, .SAF_PLUG_STATE, .SAF_PLUG_LOCKCMD, .SAF_PLUG_LOCKFB,
      .SAF_PLUG_CODE, .SAF_CNT_DEMANDS, .SAF_RFj_STAT_FRESH, .SEC_IMG_STATUS_BUSY, .SEC_IMG_STATUS_CODE, .LK_HIRQ_CAUSE, .AXn_STAT_STATE]

/-- What PARTNER_LIGHT_TEST may change. -/
def reachPartnerLightTest : Nat :=
  mask [.time, .root, .hidden, .office, .legs, .sense, .fabric, .twin, .cycle, .outbox] [.NODE_TEST_RUNNING, .NODE_TEST_RESULT, .POST_STATUS_CHANGED,
      .POST_STATUS_STATE, .POST_TIG_TIMEBASE, .POST_TIG_HELD, .LEGn_STATUS_HELD, .LEGn_DEBT_D, .LEGn_DEBTMAX_D, .SN_CAL_PHASE, .DEC_RSr_IDX_RUN,
      .FAB_STATUS_RUN, .LK_HIRQ_CAUSE]

/-- What BROWNOUT, COLD, HOST_RESET, PIN may change. -/
def reachPin : Nat :=
  mask [.regs, .time, .root, .shadows, .hidden, .office, .capture, .legs, .trips, .sense, .image, .slots, .fabric, .acceptance, .safety, .security,
      .links, .twin, .health, .axes, .journal, .cycle, .outbox, .memory] [.POST_TIG_TIMEBASE, .POST_TIG_HELD, .CK_RSTCAUSE_WAKE,
      .CK_RSTCAUSE_COARSE_LOST, .CK_RSTCAUSE_BOSUP, .CK_RSTCAUSE_KIND, .CAP_STATUS_ARMED, .CAP_STATUS_DONE, .CAP_FRCFG_HOLD, .CAP_FRSTAT_REC,
      .CAP_FRSTAT_HCAUSE, .CAP_WINw_STAT_STATE, .CAP_WINw_MISS_COUNT, .CAP_WINw_MISS_NEXT, .SEC_FW_STATUS_CODE, .SEC_FW_STATUS_STATE,
      .SEC_IMG_STATUS_CODE, .SEC_IMG_STATUS_STATE, .SEC_IMG_WHERE_SECT, .SEC_IMG_WHERE_REC, .SEC_FW_VERs_VER, .SEC_IMG_VERs_VER, .SEC_IMG_IDs_ID,
      .LK_STATUS_PCIE_UP, .LK_STATUS_GEN, .LK_STATUS_WIDTH, .LK_HIRQ_CAUSE, .HL_STATUS_COUNT_LOST, .HL_NVp_MAXW]

/-- What PPS_EDGE, SERVO_UPDATE may change. -/
def reachPpsEdge : Nat :=
  mask [.time, .office, .legs, .sense, .fabric, .acceptance, .safety, .security, .links, .twin, .axisTick, .cycle, .fresh,
      .outbox] [.NODE_TWIN_STAT_SEQ_END, .NODE_TWIN_STAT_HELDLOSS, .NODE_TWIN_SEQ_LO_NEXT, .NODE_TWIN_SEQ_HI_NEXT, .POST_STATUS_CHANGED,
      .POST_STATUS_STEPPED, .POST_STATUS_SRC_ACT, .POST_STATUS_COARSE, .POST_STATUS_STATE, .POST_OFFSET_OFS_NS, .POST_TRIM_TRIM, .POST_TIG_TIMEBASE,
      .POST_TIG_HELD, .DEC_PATHp_BANK_FADING, .DEC_PATHp_BANK_HELD, .DEC_PATHp_BANK_TBANK, .DEC_PATHp_BANK_ABANK, .DEC_PATHp_BANK_ARESP,
      .DEC_PATHp_BANK_XFLEFT, .DEC_PATHp_DLY_UNITS, .SO_LEDSTAT_FULL, .SO_LEDSTAT_WRAPPED, .SO_LEDSTAT_LOST, .SO_LEDPTR_NEXT, .SO_DROP_HW,
      .SO_DROP_DL, .LK_HIRQ_CAUSE]

/-- What PTP_MESSAGE may change. -/
def reachPtpMessage : Nat :=
  mask [.time, .office, .legs, .sense, .fabric, .acceptance, .safety, .security, .links, .twin, .axisTick, .cycle, .fresh,
      .outbox] [.NODE_TWIN_STAT_SEQ_END, .NODE_TWIN_STAT_HELDLOSS, .NODE_TWIN_SEQ_LO_NEXT, .NODE_TWIN_SEQ_HI_NEXT, .POST_STATUS_CHANGED,
      .POST_STATUS_STEPPED, .POST_STATUS_SRC_ACT, .POST_STATUS_COARSE, .POST_STATUS_STATE, .POST_OFFSET_OFS_NS, .POST_TRIM_TRIM, .POST_TIG_TIMEBASE,
      .POST_TIG_HELD, .DEC_PATHp_BANK_FADING, .DEC_PATHp_BANK_HELD, .DEC_PATHp_BANK_TBANK, .DEC_PATHp_BANK_ABANK, .DEC_PATHp_BANK_ARESP,
      .DEC_PATHp_BANK_XFLEFT, .DEC_PATHp_DLY_UNITS, .SO_LEDSTAT_FULL, .SO_LEDSTAT_WRAPPED, .SO_LEDSTAT_LOST, .SO_LEDPTR_NEXT, .SO_DROP_HW,
      .SO_DROP_DL, .LK_HIRQ_CAUSE, .LK_SPn_STAT_PSTATE]

/-- What QSPI_READ, SHADOW_LO_READ may change. -/
def reachQspiRead : Nat :=
  mask [.regs, .shadows, .office, .links, .cycle, .fresh] [.NODE_ADDRERR_COUNT, .NODE_ADDRERR_REQ, .NODE_ADDRERR_KIND, .NODE_ADDRERR_ADDR_ADDR,
      .POST_NOW_LO_FRAC, .POST_NOW_HI_SEC, .POST_ERRB_ERR_NS, .CK_WDOG_STAT_REMAIN, .LEGn_STATUS_PEND_D, .LEGn_STATUS_PEND_PP, .LEGn_STATUS_RB_GL,
      .LEGn_STATUS_RB_GH, .LEGn_STATUS_GL, .LEGn_STATUS_GH, .LEGn_COUNT_DOWN, .LEGn_COUNT_C, .BRIDGE_STATUS_SWITCHING, .BRIDGE_STATUS_HELD,
      .BRIDGE_STATUS_FORCED, .SO_STATUS_INFLIGHT, .SO_STATUS_SWUSE, .SO_LEDSTAT_FULL, .SO_LEDSTAT_WRAPPED, .SO_LEDSTAT_LOST, .SO_LEDPTR_NEXT,
      .SO_CUR_BUSY, .SO_CUR_ID, .SO_COREc_BUSY, .SO_COREc_NOFLOW, .SO_COREc_FLOW, .SO_COREc_ID, .SO_PHp_COUNT, .SO_TRAYt_COUNT, .CAP_FRPTR_OFS,
      .SEC_RNG_R, .LK_STATUS_CAN_ON, .HL_FLAGS_LO_F, .HL_FLAGS_HI_F, .AXn_POS_LO_W, .AXn_POS_HI_W]

/-- What READBACK_ERROR may change. -/
def reachReadbackError : Nat :=
  mask [.office, .capture, .legs, .trips, .sense, .cycle, .fresh, .memory] [.NODE_TRIPSTAT_LTOTAL, .NODE_TRIPSTAT_CLRREF, .NODE_TRIPSTAT_ANY,
      .NODE_BTRIP_BRIDGE, .NODE_TWIN_STAT_RB_DISAGREE, .NODE_LTRIPm_LEG, .NODE_BCAUSEb_FIRST, .NODE_BCAUSEb_LAST, .NODE_BCAUSEb_NCAUSE,
      .NODE_BCNTb_TOTAL, .NODE_BCNTb_WIN, .LEGn_STATUS_HELD, .LEGn_STATUS_RBERR, .LEGn_DEBT_D, .LEGn_DEBTMAX_D, .SN_SNAPSTAT_DROP, .SN_SNAPSTAT_PEND,
      .SO_LEDSTAT_FULL, .SO_LEDSTAT_WRAPPED, .SO_LEDSTAT_LOST, .SO_LEDPTR_NEXT, .SO_DROP_HW, .SO_DROP_DL, .CAP_WINw_MISS_COUNT, .CAP_WINw_MISS_NEXT]

/-- What REFERENCE_EDGE_GAP may change. -/
def reachReferenceEdgeGap : Nat :=
  mask [.time, .root, .hidden, .office, .capture, .legs, .trips, .sense, .slots, .fabric, .security, .links, .twin, .axes, .cycle, .fresh, .outbox,
      .memory] [.NODE_MODE_ENTRY, .NODE_MODE_MODE, .NODE_TEST_RUNNING, .NODE_TEST_RESULT, .NODE_TRIPSTAT_LTOTAL, .NODE_TRIPSTAT_CLRREF,
      .NODE_TRIPSTAT_ANY, .NODE_BTRIP_BRIDGE, .NODE_TWIN_STAT_ROLE, .NODE_TWIN_STAT_SEQ_END, .NODE_TWIN_SEQ_LO_NEXT, .NODE_TWIN_SEQ_HI_NEXT,
      .NODE_LTRIPm_LEG, .NODE_BCAUSEb_FIRST, .NODE_BCAUSEb_LAST, .NODE_BCAUSEb_NCAUSE, .NODE_BCNTb_TOTAL, .NODE_BCNTb_WIN, .POST_STATUS_CHANGED,
      .POST_STATUS_COARSE, .POST_STATUS_STATE, .POST_TRIM_TRIM, .POST_TIG_TIMEBASE, .POST_TIG_HELD, .CK_STATUS_LOCK, .CK_STATUS_SHADOW,
      .CK_STATUS_ACT, .CK_STATUS_REF1_OK, .CK_STATUS_REF0_OK, .CK_STATUS_LOSS, .LEGn_FORCE_CODE, .LEGn_STATUS_DRIVE, .LEGn_STATUS_HELD,
      .LEGn_STATUS_FCODE, .LEGn_DEBT_D, .LEGn_DEBTMAX_D, .BRIDGE_CTRL_SRC, .SN_SNAPSTAT_DROP, .SN_SNAPSTAT_PEND, .DEC_RSr_IDX_RUN, .FAB_STATUS_RUN,
      .SO_LEDSTAT_FULL, .SO_LEDSTAT_WRAPPED, .SO_LEDSTAT_LOST, .SO_LEDPTR_NEXT, .SO_DROP_HW, .SO_DROP_DL, .CAP_WINw_MISS_COUNT, .CAP_WINw_MISS_NEXT,
      .SEC_IMG_STATUS_BUSY, .SEC_IMG_STATUS_CODE, .LK_STATUS_PCIE_UP, .LK_STATUS_GEN, .LK_STATUS_WIDTH, .LK_STATUS_TWIN_UP, .LK_HIRQ_CAUSE,
      .LK_TWIN_STAT_BLOCK, .LK_SPn_STAT_UP, .AXn_STAT_STATE]

/-- What REFERENCE_SELECT may change. -/
def reachReferenceSelect : Nat :=
  mask [.time, .root, .hidden, .office, .capture, .legs, .trips, .sense, .slots, .fabric, .security, .links, .twin, .axes, .cycle, .fresh, .outbox,
      .memory] [.NODE_MODE_ENTRY, .NODE_MODE_MODE, .NODE_TEST_RUNNING, .NODE_TEST_RESULT, .NODE_TRIPSTAT_LTOTAL, .NODE_TRIPSTAT_CLRREF,
      .NODE_TRIPSTAT_ANY, .NODE_BTRIP_BRIDGE, .NODE_TWIN_STAT_ROLE, .NODE_TWIN_STAT_SEQ_END, .NODE_TWIN_SEQ_LO_NEXT, .NODE_TWIN_SEQ_HI_NEXT,
      .NODE_LTRIPm_LEG, .NODE_BCAUSEb_FIRST, .NODE_BCAUSEb_LAST, .NODE_BCAUSEb_NCAUSE, .NODE_BCNTb_TOTAL, .NODE_BCNTb_WIN, .POST_STATUS_CHANGED,
      .POST_STATUS_COARSE, .POST_STATUS_STATE, .POST_TRIM_TRIM, .POST_TIG_TIMEBASE, .POST_TIG_HELD, .CK_STATUS_LOCK, .CK_STATUS_SHADOW,
      .CK_STATUS_ACT, .CK_STATUS_LOSS, .CK_REF_AUTO, .CK_REF_SEL, .CK_REF_REF1_EN, .CK_REF_REF0_EN, .LEGn_FORCE_CODE, .LEGn_STATUS_DRIVE,
      .LEGn_STATUS_HELD, .LEGn_STATUS_FCODE, .LEGn_DEBT_D, .LEGn_DEBTMAX_D, .BRIDGE_CTRL_SRC, .SN_SNAPSTAT_DROP, .SN_SNAPSTAT_PEND, .DEC_RSr_IDX_RUN,
      .FAB_STATUS_RUN, .SO_LEDSTAT_FULL, .SO_LEDSTAT_WRAPPED, .SO_LEDSTAT_LOST, .SO_LEDPTR_NEXT, .SO_DROP_HW, .SO_DROP_DL, .CAP_WINw_MISS_COUNT,
      .CAP_WINw_MISS_NEXT, .SEC_IMG_STATUS_BUSY, .SEC_IMG_STATUS_CODE, .LK_STATUS_PCIE_UP, .LK_STATUS_GEN, .LK_STATUS_WIDTH, .LK_STATUS_TWIN_UP,
      .LK_HIRQ_CAUSE, .LK_TWIN_STAT_BLOCK, .LK_SPn_STAT_UP, .AXn_STAT_STATE]

/-- What REGISTERED_FRAME may change. -/
def reachRegisteredFrame : Nat :=
  mask [.office, .safety, .cycle, .fresh] [.SO_LEDSTAT_FULL, .SO_LEDSTAT_WRAPPED, .SO_LEDSTAT_LOST, .SO_LEDPTR_NEXT, .SO_DROP_HW, .SO_DROP_DL,
      .SAF_RFj_STAT_FRESH, .SAF_RFj_STAT_PERMIT, .SAF_RFj_STAT_SEQ, .SAF_RFj_CNT_CRCC, .SAF_RFj_CNT_CRCK, .SAF_RFj_CNT_SEQ, .SAF_RFj_CNT_TIME,
      .LK_SPn_CNT_RXDROP]

/-- What REGISTERED_FRAME_SEND may change. -/
def reachRegisteredFrameSend : Nat :=
  mask [.time, .root, .fabric, .safety, .links, .cycle, .outbox] [.POST_STATUS_CHANGED, .POST_STATUS_STATE, .POST_TIG_TIMEBASE, .POST_TIG_HELD,
      .SAF_RFj_STAT_SEQ, .LK_HIRQ_CAUSE]

/-- What REJOIN may change. -/
def reachRejoin : Nat :=
  mask [.office, .legs, .fabric, .security, .links, .twin, .cycle, .fresh, .outbox] [.NODE_TWIN_STAT_ROLE, .NODE_TWIN_STAT_DIVERGED,
      .NODE_TWIN_STAT_SEQ_END, .NODE_TWIN_SEQ_LO_NEXT, .NODE_TWIN_SEQ_HI_NEXT, .LEGn_STATUS_DRIVE, .SO_LEDSTAT_FULL, .SO_LEDSTAT_WRAPPED,
      .SO_LEDSTAT_LOST, .SO_LEDPTR_NEXT, .SO_DROP_HW, .SO_DROP_DL, .LK_HIRQ_CAUSE]

/-- What RELOAD may change. -/
def reachReload : Nat :=
  mask [.time, .root, .office, .capture, .legs, .trips, .sense, .fabric, .cycle, .fresh, .outbox, .memory] [.NODE_TRIPSTAT_LTOTAL, .NODE_TRIPSTAT_ANY,
      .NODE_BTRIP_BRIDGE, .NODE_BCAUSEb_FIRST, .NODE_BCAUSEb_LAST, .NODE_BCAUSEb_NCAUSE, .NODE_BCNTb_TOTAL, .NODE_BCNTb_WIN, .POST_STATUS_CHANGED,
      .POST_STATUS_STATE, .POST_TIG_TIMEBASE, .POST_TIG_HELD, .LEGn_DUTY_ACT_DUTY, .LEGn_PHASE_ACT_PHASE, .LEGn_PERIOD_ACT_PERIOD, .LEGn_STATUS_DRIVE,
      .LEGn_STATUS_HELD, .LEGn_STATUS_FCODE, .LEGn_STATUS_DSAT, .LEGn_DEBT_D, .LEGn_DEBTMAX_D, .LEGn_CNT_SHORT, .SN_SNAPSTAT_DROP, .SN_SNAPSTAT_PEND,
      .SO_LEDSTAT_FULL, .SO_LEDSTAT_WRAPPED, .SO_LEDSTAT_LOST, .SO_LEDPTR_NEXT, .SO_DROP_HW, .SO_DROP_DL, .CAP_WINw_MISS_COUNT, .CAP_WINw_MISS_NEXT,
      .LK_HIRQ_CAUSE]

/-- What REPORT_NOW may change. -/
def reachReportNow : Nat :=
  mask [.office, .health, .cycle, .fresh, .outbox] [.SO_LEDSTAT_FULL, .SO_LEDSTAT_WRAPPED, .SO_LEDSTAT_LOST, .SO_LEDPTR_NEXT, .SO_DROP_HW,
      .SO_DROP_DL, .LK_HIRQ_CAUSE, .HL_FLAGS_LO_F, .HL_FLAGS_HI_F, .HL_NODE_RL, .HL_LEGn_D_D]

/-- What REPORT_PERIOD may change. -/
def reachReportPeriod : Nat :=
  mask [.time, .root, .office, .fabric, .health, .cycle, .fresh, .outbox] [.POST_STATUS_CHANGED, .POST_STATUS_STATE, .POST_TIG_TIMEBASE,
      .POST_TIG_HELD, .SO_LEDSTAT_FULL, .SO_LEDSTAT_WRAPPED, .SO_LEDSTAT_LOST, .SO_LEDPTR_NEXT, .SO_DROP_HW, .SO_DROP_DL, .LK_HIRQ_CAUSE,
      .HL_FLAGS_LO_F, .HL_FLAGS_HI_F, .HL_NODE_RL, .HL_LEGn_D_D]

/-- What REQUEST_COMMISSION, REQUEST_ENERGIZE, REQUEST_HIBERNATE, REQUEST_QUIET, REQUEST_REPLAY, REQUEST_STANDBY may change. -/
def reachRequestQuiet : Nat :=
  mask [.hidden, .office, .acceptance, .security, .links, .twin, .cycle, .fresh, .outbox] [.NODE_MODE_REFUSE, .NODE_MODE_PENDING,
      .NODE_TWIN_STAT_SEQ_END, .NODE_TWIN_STAT_HELDLOSS, .NODE_TWIN_SEQ_LO_NEXT, .NODE_TWIN_SEQ_HI_NEXT, .POST_ACC_LATE, .SO_LEDSTAT_FULL,
      .SO_LEDSTAT_WRAPPED, .SO_LEDSTAT_LOST, .SO_LEDPTR_NEXT, .SO_DROP_HW, .SO_DROP_DL]

/-- What RESET_RELEASE may change. -/
def reachResetRelease : Nat :=
  mask [.time, .root, .hidden, .fabric, .security, .health, .axes, .cycle, .outbox] [.POST_STATUS_CHANGED, .POST_STATUS_COARSE, .POST_STATUS_STATE,
      .POST_TRIM_TRIM, .POST_TIG_TIMEBASE, .POST_TIG_HELD, .CK_STATUS_ACT, .CK_RSTCAUSE_RESET_HELD_LONG, .CK_HOLD_MS, .SAF_STATUS_FSEL,
      .SAF_LRST_PRESSED, .SEC_STATUS_LOGFULL, .SEC_STATUS_LOGN, .SEC_FW_STATUS_CODE, .SEC_FW_STATUS_BOOTFALL, .SEC_FW_STATUS_RUN, .LK_HIRQ_CAUSE,
      .AXn_STAT_REHOME_ADVISED, .AXn_POS_LO_W, .AXn_POS_HI_W, .AXn_ENC_LO_W, .AXn_ENC_HI_W]

/-- What RESYNC_COMPLETE may change. -/
def reachResyncComplete : Nat :=
  mask [.office, .legs, .security, .links, .twin, .cycle, .fresh, .outbox] [.NODE_TWIN_STAT_ROLE, .NODE_TWIN_STAT_SEQ_END, .NODE_TWIN_SEQ_LO_NEXT,
      .NODE_TWIN_SEQ_HI_NEXT, .LEGn_STATUS_DRIVE, .SO_LEDSTAT_FULL, .SO_LEDSTAT_WRAPPED, .SO_LEDSTAT_LOST, .SO_LEDPTR_NEXT, .SO_DROP_HW, .SO_DROP_DL,
      .LK_HIRQ_CAUSE]

/-- What RING_MEASURE may change. -/
def reachRingMeasure : Nat :=
  mask [.time, .root, .fabric, .health, .cycle, .outbox] [.POST_STATUS_CHANGED, .POST_STATUS_STATE, .POST_TIG_TIMEBASE, .POST_TIG_HELD,
      .LK_HIRQ_CAUSE, .HL_NODE_RL, .HL_ROr_DRIFT]

/-- What SENSE_TRIGGER may change. -/
def reachSenseTrigger : Nat :=
  mask [.time, .root, .office, .capture, .sense, .fabric, .acceptance, .security, .links, .twin, .cycle, .fresh, .outbox,
      .memory] [.NODE_TWIN_STAT_SEQ_END, .NODE_TWIN_STAT_HELDLOSS, .NODE_TWIN_SEQ_LO_NEXT, .NODE_TWIN_SEQ_HI_NEXT, .POST_STATUS_CHANGED,
      .POST_STATUS_STATE, .POST_TIG_TIMEBASE, .POST_TIG_HELD, .POST_ACC_SUPER, .SN_CAL_FAILED, .SN_CAL_PHASE, .SN_CAL_FSLICE, .SN_ORm_CH,
      .SN_LOSTm_CH, .SN_CHc_CODE_CODE, .SN_CHc_STAT_STAT, .DEC_PATHp_CFG_SRC, .DEC_PATHp_BANK_FADING, .DEC_PATHp_BANK_HELD, .DEC_PATHp_BANK_HBANK,
      .DEC_PATHp_BANK_TBANK, .DEC_PATHp_BANK_ABANK, .DEC_PATHp_BANK_ARESP, .DEC_PATHp_BANK_XFLEFT, .DEC_PATHp_DLY_UNITS, .SO_LEDSTAT_FULL,
      .SO_LEDSTAT_WRAPPED, .SO_LEDSTAT_LOST, .SO_LEDPTR_NEXT, .SO_DROP_HW, .SO_DROP_DL, .CAP_STATUS_ARMED, .CAP_STATUS_DONE, .CAP_WINw_STAT_STATE,
      .CAP_WINw_STAT_SEG, .CAP_WINw_STAT_NDONE, .CAP_WINw_MISS_COUNT, .CAP_WINw_MISS_NEXT, .LK_HIRQ_CAUSE]

/-- What REASSEMBLY_TIMEOUT, SESSION_REKEY may change. -/
def reachSessionRekey : Nat :=
  mask [.time, .root, .office, .fabric, .security, .links, .cycle, .fresh, .outbox] [.POST_STATUS_CHANGED, .POST_STATUS_STATE, .POST_TIG_TIMEBASE,
      .POST_TIG_HELD, .SO_LEDSTAT_FULL, .SO_LEDSTAT_WRAPPED, .SO_LEDSTAT_LOST, .SO_LEDPTR_NEXT, .SO_DROP_HW, .SO_DROP_DL, .LK_HIRQ_CAUSE]

/-- What SHADOW_HI_WRITE may change. -/
def reachShadowHiWrite : Nat :=
  mask [.regs, .time, .root, .shadows, .hidden, .office, .capture, .legs, .trips, .sense, .image, .slots, .fabric, .acceptance, .safety, .security,
      .links, .twin, .health, .axes, .axisTick, .journal, .cycle, .fresh, .outbox, .memory] [.NODE_IDENT_PROV, .NODE_IDENT_TWIN, .NODE_IDENT_CLUSTER,
      .NODE_IDENT_NODE, .NODE_MODE_REFUSE, .NODE_MODE_ENTRY, .NODE_MODE_PENDING, .NODE_MODE_MODE, .NODE_TEST_RUNNING, .NODE_TEST_RESULT,
      .NODE_ADDRERR_COUNT, .NODE_ADDRERR_REQ, .NODE_ADDRERR_KIND, .NODE_ADDRERR_ADDR_ADDR, .NODE_TRIPSTAT_LTOTAL, .NODE_TRIPSTAT_CLRREF,
      .NODE_TRIPSTAT_CMPOUT, .NODE_TRIPSTAT_ANY, .NODE_BTRIP_BRIDGE, .NODE_WCMPST_UNDER, .NODE_WCMPST_OVER, .NODE_TWIN_CFG_SILN, .NODE_TWIN_CFG_EDGEW,
      .NODE_TWIN_CFG_TSIL, .NODE_TWIN_STAT_ROLE, .NODE_TWIN_STAT_DIVERGED, .NODE_TWIN_STAT_SEQ_END, .NODE_TWIN_STAT_REFUSE, .NODE_TWIN_STAT_HELDLOSS,
      .NODE_TWIN_SEQ_LO_NEXT, .NODE_TWIN_SEQ_HI_NEXT, .NODE_LTRIPm_LEG, .NODE_BCAUSEb_FIRST, .NODE_BCAUSEb_LAST, .NODE_BCAUSEb_NCAUSE,
      .NODE_BCNTb_TOTAL, .NODE_BCNTb_WIN, .NODE_WCMPc_CFG_ACT, .NODE_WCMPc_CFG_SRC, .POST_STATUS_CHANGED, .POST_STATUS_STEPPED, .POST_STATUS_SRC_ACT,
      .POST_STATUS_COARSE, .POST_STATUS_STATE, .POST_CTRL_SLEW, .POST_CTRL_PRIO, .POST_HOLD_FU, .POST_HOLD_POOR_US, .POST_HOLD_GOOD_NS,
      .POST_TRIM_TRIM, .POST_EPOCH_LO_SEC, .POST_EPOCH_HI_VALID, .POST_EPOCH_HI_SEC, .POST_TIG_TIMEBASE, .POST_TIG_HELD, .POST_ACC_LATE,
      .CK_STATUS_LOCK, .CK_STATUS_SHADOW, .CK_STATUS_ACT, .CK_STATUS_LOSS, .CK_REF_AUTO, .CK_REF_SEL, .CK_REF_REF1_EN, .CK_REF_REF0_EN,
      .CK_RSTCAUSE_WAKE, .CK_RSTCAUSE_COARSE_LOST, .CK_RSTCAUSE_BOSUP, .CK_RSTCAUSE_KIND, .CK_WDOG_CFG_TIMEOUT, .CK_ALARM_LO_FRAC, .CK_ALARM_HI_SEC,
      .LEGn_DUTY_DUTY, .LEGn_PHASE_PHASE, .LEGn_PERIOD_PERIOD, .LEGn_FORCE_CODE, .LEGn_STATUS_DRIVE, .LEGn_STATUS_HELD, .LEGn_STATUS_FCODE,
      .LEGn_STATUS_FREFUSED, .LEGn_STATUS_PCLAMP, .LEGn_DEBT_D, .LEGn_DEBTMAX_D, .LEGn_RBCFG_SETTLE, .LEGn_RBCFG_TOL, .LEGn_CNT_SUPER,
      .BRIDGE_CTRL_SRC, .BRIDGE_STATUS_HOSTW, .SN_CAL_PHASE, .SN_SNAPSTAT_DROP, .SN_SNAPSTAT_PEND, .DEC_PATHp_BANK_FADING, .DEC_PATHp_BANK_HELD,
      .DEC_PATHp_BANK_TBANK, .DEC_PATHp_BANK_ABANK, .DEC_PATHp_BANK_ARESP, .DEC_PATHp_BANK_XFLEFT, .DEC_PATHp_DLY_UNITS, .DEC_RSr_IDX_RUN,
      .FAB_STATUS_RUN, .FAB_SNAP_FROZEN, .FAB_SNAP_FREEZE, .SO_LEDSTAT_FULL, .SO_LEDSTAT_WRAPPED, .SO_LEDSTAT_LOST, .SO_LEDPTR_NEXT, .SO_DROP_HW,
      .SO_DROP_DL, .SO_RESULT_CODE, .SO_RESULT_ID, .SO_TRAY_LO_FRAC, .SO_TRAY_HI_SEC, .SO_CANRES_RES, .CAP_STATUS_ARMED, .CAP_STATUS_DONE,
      .CAP_FRCFG_HOLD, .CAP_FRCFG_AUTOHOLD, .CAP_FRCFG_EXT, .CAP_FRCFG_CKPLOG, .CAP_FRCFG_POSTFR, .CAP_FRSTAT_REC, .CAP_FRSTAT_HCAUSE, .CAP_FRPTR_OFS,
      .CAP_FROLDK_LO_K, .CAP_FROLDK_HI_K, .CAP_FRNEWK_LO_K, .CAP_FRNEWK_HI_K, .CAP_RPSTART_LO_W, .CAP_RPSTART_HI_W, .CAP_RPEND_LO_W, .CAP_RPEND_HI_W,
      .CAP_WINw_CFG_NSEGLOG, .CAP_WINw_TRIG_TKIND, .CAP_WINw_TRIG_COND, .CAP_WINw_STAT_STATE, .CAP_WINw_STAT_ARMERR, .CAP_WINw_STAT_SEG,
      .CAP_WINw_STAT_NDONE, .CAP_WINw_MISS_COUNT, .CAP_WINw_MISS_NEXT, .SEC_STATUS_ENROLLED, .SEC_STATUS_DXK, .SEC_STATUS_LOGFULL,
      .SEC_STATUS_REVOKED0, .SEC_STATUS_LOGN, .SEC_RESULT_BUSY, .SEC_RESULT_CODE, .SEC_SESS_OPEN, .SEC_SESSCFG_LIFE, .SEC_ENR_PTR_OFS,
      .SEC_FW_PTR_OFS, .SEC_FW_STATUS_CODE, .SEC_FW_STATUS_MARK, .SEC_FW_STATUS_STATE, .SEC_IMG_PTR_OFS, .SEC_IMG_STATUS_BUSY, .SEC_IMG_STATUS_CODE,
      .SEC_IMG_STATUS_ACT_SLOT, .SEC_IMG_STATUS_ACT_MARK, .SEC_IMG_STATUS_STATE, .SEC_IMG_WHERE_SECT, .SEC_IMG_WHERE_REC, .SEC_FW_VERs_VER,
      .SEC_FRANK_STATUS_BUSY, .SEC_FRANK_STATUS_DONE, .SEC_FRANK_STATUS_CODE, .SEC_FRANK_STATUS_QUEUE, .SEC_EXT_Dn_D, .SEC_RBi_COUNT,
      .SEC_IMG_VERs_VER, .SEC_IMG_IDs_ID, .LK_STATUS_PCIE_UP, .LK_STATUS_GEN, .LK_STATUS_WIDTH, .LK_STATUS_TWIN_UP, .LK_HIRQ_CAUSE,
      .LK_TWIN_STAT_BLOCK, .LK_SPn_CFG_PTPROLE, .LK_SPn_CFG_LOGSYNC, .LK_SPn_STAT_UP, .LK_SPn_STAT_PSTATE, .LK_CANc_NBT_BRP, .LK_CANc_DBT_BRP,
      .LK_CANc_STAT_BUSOFF, .LK_CANc_STAT_PASSIVE, .LK_CANc_STAT_TEC, .LK_CANc_STAT_REC, .LK_CANc_FLTf_RT_ACT, .HL_STATUS_COUNT_LOST, .HL_CTRL_PERIOD,
      .HL_FLAGS_LO_F, .HL_FLAGS_HI_F, .HL_NODE_RL, .HL_NVp_MAXW, .HL_LEGn_D_D, .AXn_CFG_ENCMODE, .AXn_STAT_STATE, .AXn_STAT_REHOME_ADVISED,
      .AXn_STAT_TGTERR, .AXn_TGT_LO_W, .AXn_TGT_HI_W, .AXn_SLIMP_LO_W, .AXn_SLIMP_HI_W, .AXn_SLIMN_LO_W, .AXn_SLIMN_HI_W, .AXn_HOFS_LO_W,
      .AXn_HOFS_HI_W, .AXn_LCFG_LEDGE]

/-- What SNAPSHOT_POST may change. -/
def reachSnapshotPost : Nat :=
  mask [.office, .sense, .cycle, .fresh] [.SN_SNAPSTAT_DONE, .SN_SNAPSTAT_PEND, .SO_LEDSTAT_FULL, .SO_LEDSTAT_WRAPPED, .SO_LEDSTAT_LOST,
      .SO_LEDPTR_NEXT, .SO_DROP_HW, .SO_DROP_DL]

/-- What SOURCE_UNUSABLE may change. -/
def reachSourceUnusable : Nat :=
  mask [.time, .fabric, .cycle, .outbox] [.POST_STATUS_CHANGED, .POST_STATUS_SRC_ACT, .POST_STATUS_COARSE, .POST_STATUS_STATE, .POST_TRIM_TRIM,
      .POST_TIG_TIMEBASE, .POST_TIG_HELD, .LK_HIRQ_CAUSE]

/-- What CONLOCK_RELEASE, CONNECTION_EXPIRY, CONTACTOR_OPEN_DELAY, DISCREPANCY, SAFETY_CYCLE, SS1_TIMEOUT, STO_DISCREPANCY, STOP_RAMP_END may
change. -/
def reachSs1Timeout : Nat :=
  mask [.time, .root, .hidden, .office, .capture, .legs, .trips, .sense, .slots, .fabric, .acceptance, .safety, .security, .links, .twin, .health,
      .axes, .cycle, .fresh, .outbox, .memory] [.NODE_MODE_ENTRY, .NODE_MODE_PENDING, .NODE_MODE_LATCH, .NODE_MODE_MODE, .NODE_TEST_RUNNING,
      .NODE_TEST_RESULT, .NODE_TRIPSTAT_LTOTAL, .NODE_TRIPSTAT_CLRREF, .NODE_TRIPSTAT_ANY, .NODE_BTRIP_BRIDGE, .NODE_TWIN_STAT_ROLE,
      .NODE_TWIN_STAT_SEQ_END, .NODE_TWIN_STAT_HELDLOSS, .NODE_TWIN_SEQ_LO_NEXT, .NODE_TWIN_SEQ_HI_NEXT, .NODE_LTRIPm_LEG, .NODE_BCAUSEb_FIRST,
      .NODE_BCAUSEb_LAST, .NODE_BCAUSEb_NCAUSE, .NODE_BCNTb_TOTAL, .NODE_BCNTb_WIN, .POST_STATUS_CHANGED, .POST_STATUS_STATE, .POST_TIG_TIMEBASE,
      .POST_TIG_HELD, .POST_ACC_LATE, .LEGn_FORCE_CODE, .LEGn_STATUS_DRIVE, .LEGn_STATUS_HELD, .LEGn_STATUS_FCODE, .LEGn_DEBT_D, .LEGn_DEBTMAX_D,
      .BRIDGE_CTRL_SRC, .SN_SNAPSTAT_DROP, .SN_SNAPSTAT_PEND, .DEC_RSr_IDX_RUN, .FAB_STATUS_RUN, .SO_LEDSTAT_FULL, .SO_LEDSTAT_WRAPPED,
      .SO_LEDSTAT_LOST, .SO_LEDPTR_NEXT, .SO_DROP_HW, .SO_DROP_DL, .CAP_WINw_MISS_COUNT, .CAP_WINw_MISS_NEXT, .SAF_STATUS_PERMIT, .SAF_STATUS_ISTO,
      .SAF_STATUS_DEMAND, .SAF_STATUS_RFOFF, .SAF_LOCK_FIRST, .SAF_LOCK_INDEX, .SAF_LOCK_NCAUSE, .SAF_LOCK_OPEN, .SAF_IN_DISCREP, .SAF_OUT_TPACT,
      .SAF_OUT_RB, .SAF_OUT_CMD, .SAF_FB_MISMATCH, .SAF_PLUG_STATE, .SAF_PLUG_LOCKCMD, .SAF_PLUG_LOCKFB, .SAF_PLUG_CODE, .SAF_CNT_DEMANDS,
      .SAF_RFj_STAT_FRESH, .SEC_IMG_STATUS_BUSY, .SEC_IMG_STATUS_CODE, .LK_HIRQ_CAUSE, .AXn_STAT_STATE]

/-- What BANK_REQUEST, BRIDGE_TRIP_CLEAR, FORWARDED_COMMAND, SITE_COMMAND, SOURCE_CHANGE, START may change. -/
def reachStart : Nat :=
  mask [.office, .acceptance, .security, .links, .twin, .cycle, .fresh, .outbox] [.NODE_TWIN_STAT_SEQ_END, .NODE_TWIN_STAT_HELDLOSS,
      .NODE_TWIN_SEQ_LO_NEXT, .NODE_TWIN_SEQ_HI_NEXT, .POST_ACC_LATE, .SO_LEDSTAT_FULL, .SO_LEDSTAT_WRAPPED, .SO_LEDSTAT_LOST, .SO_LEDPTR_NEXT,
      .SO_DROP_HW, .SO_DROP_DL]

/-- What STATE_TRANSFER may change. -/
def reachStateTransfer : Nat :=
  mask [.hidden, .office, .capture, .legs, .trips, .sense, .slots, .fabric, .safety, .security, .links, .twin, .health, .axes, .cycle, .fresh,
      .outbox, .memory] [.NODE_MODE_REFUSE, .NODE_MODE_ENTRY, .NODE_MODE_MODE, .NODE_TRIPSTAT_LTOTAL, .NODE_TRIPSTAT_CLRREF, .NODE_TRIPSTAT_ANY,
      .NODE_BTRIP_BRIDGE, .NODE_TWIN_STAT_ROLE, .NODE_TWIN_STAT_SEQ_END, .NODE_TWIN_STAT_HASH_MISMATCH, .NODE_TWIN_STAT_HELDLOSS, .NODE_TWIN_CNT_MISM,
      .NODE_TWIN_SEQ_LO_NEXT, .NODE_TWIN_SEQ_HI_NEXT, .NODE_TWIN_MISK_LO_K, .NODE_TWIN_MISK_HI_K, .NODE_LTRIPm_LEG, .NODE_BCAUSEb_FIRST,
      .NODE_BCAUSEb_LAST, .NODE_BCAUSEb_NCAUSE, .NODE_BCNTb_TOTAL, .NODE_BCNTb_WIN, .POST_TIG_LAPSES, .POST_TIG_OVERRUN, .POST_TIG_IMAGE,
      .POST_TIG_HELD, .POST_ACC_SUPER, .POST_TIGBASE_LO_FRAC, .POST_TIGBASE_HI_SEC, .LEGn_DUTY_DUTY, .LEGn_PHASE_PHASE, .LEGn_PERIOD_PERIOD,
      .LEGn_DUTY_ACT_DUTY, .LEGn_PHASE_ACT_PHASE, .LEGn_PERIOD_ACT_PERIOD, .LEGn_FORCE_CODE, .LEGn_STATUS_DRIVE, .LEGn_STATUS_HELD,
      .LEGn_STATUS_FCODE, .LEGn_STATUS_PCLAMP, .LEGn_DEBT_D, .LEGn_DEBTMAX_D, .LEGn_CNT_SUPER, .BRIDGE_CTRL_SRC, .SN_SNAPSTAT_DROP, .SN_SNAPSTAT_PEND,
      .DEC_PATHp_CFG_SRC, .DEC_PATHp_BANK_FADING, .DEC_PATHp_BANK_HELD, .DEC_PATHp_BANK_HBANK, .DEC_PATHp_BANK_TBANK, .DEC_PATHp_BANK_XFLEFT,
      .DEC_RSr_IDX_RUN, .DEC_RSr_CNT_LATE, .FAB_STATUS_RUN, .FAB_SNAP_FROZEN, .FAB_NAN_INF, .FAB_NAN_NAN, .FAB_FRAME_LO_K, .FAB_FRAME_HI_K,
      .FAB_HASH_LO_H, .FAB_HASH_HI_H, .FAB_SNAPK_LO_K, .FAB_SNAPK_HI_K, .FAB_TILEt_PEAK_CYC, .SO_LEDSTAT_FULL, .SO_LEDSTAT_WRAPPED, .SO_LEDSTAT_LOST,
      .SO_LEDPTR_NEXT, .SO_DROP_HW, .SO_DROP_DL, .CAP_STATUS_ARMED, .CAP_STATUS_DONE, .CAP_FRCFG_HOLD, .CAP_FRSTAT_REC, .CAP_FRSTAT_HCAUSE,
      .CAP_FRSTAT_GAPS, .CAP_FROLDK_LO_K, .CAP_FROLDK_HI_K, .CAP_FRNEWK_LO_K, .CAP_FRNEWK_HI_K, .CAP_RPSTAT_STATE, .CAP_RPSTAT_REASON,
      .CAP_RPSTAT_SKIPS, .CAP_RPDIV_SLOT, .CAP_RPDIV_NDIV, .CAP_RPK_LO_W, .CAP_RPK_HI_W, .CAP_RPREC_LO_W, .CAP_RPREC_HI_W, .CAP_RPCALC_LO_W,
      .CAP_RPCALC_HI_W, .CAP_WINw_STAT_STATE, .CAP_WINw_STAT_SEG, .CAP_WINw_STAT_NDONE, .CAP_WINw_MISS_COUNT, .CAP_WINw_MISS_NEXT,
      .SEC_IMG_STATUS_BUSY, .SEC_IMG_STATUS_CODE, .LK_HIRQ_CAUSE, .HL_STATUS_OVF, .AXn_STAT_STATE]

/-- What TAKEOVER may change. -/
def reachTakeover : Nat :=
  mask [.time, .office, .legs, .fabric, .security, .links, .twin, .cycle, .fresh, .outbox] [.NODE_TWIN_STAT_ROLE, .NODE_TWIN_STAT_SILENT,
      .NODE_TWIN_STAT_SEQ_END, .NODE_TWIN_STAT_TAKEOVER, .NODE_TWIN_SEQ_LO_NEXT, .NODE_TWIN_SEQ_HI_NEXT, .POST_STATUS_CHANGED, .POST_STATUS_SRC_ACT,
      .POST_STATUS_COARSE, .POST_STATUS_STATE, .POST_TRIM_TRIM, .POST_TIG_TIMEBASE, .POST_TIG_HELD, .LEGn_STATUS_DRIVE, .SO_LEDSTAT_FULL,
      .SO_LEDSTAT_WRAPPED, .SO_LEDSTAT_LOST, .SO_LEDPTR_NEXT, .SO_DROP_HW, .SO_DROP_DL, .LK_HIRQ_CAUSE]

/-- What TEST_CAL, TEST_FULL may change. -/
def reachTestCal : Nat :=
  mask [.hidden, .office, .legs, .sense, .fabric, .cycle] [.NODE_TEST_RUNNING, .NODE_TEST_RESULT, .LEGn_STATUS_HELD, .LEGn_DEBT_D, .LEGn_DEBTMAX_D,
      .SN_CAL_PHASE, .DEC_RSr_IDX_RUN, .FAB_STATUS_RUN]

/-- What TEST_DONE may change. -/
def reachTestDone : Nat :=
  mask [.time, .root, .hidden, .office, .legs, .sense, .fabric, .security, .links, .twin, .cycle, .fresh, .outbox] [.NODE_TEST_RUNNING,
      .NODE_TEST_RESULT, .NODE_TEST_FAILUNIT, .NODE_TWIN_STAT_ROLE, .NODE_TWIN_STAT_SEQ_END, .NODE_TWIN_STAT_TEST_FAIL, .NODE_TWIN_SEQ_LO_NEXT,
      .NODE_TWIN_SEQ_HI_NEXT, .POST_STATUS_CHANGED, .POST_STATUS_STATE, .POST_TIG_TIMEBASE, .POST_TIG_HELD, .LEGn_STATUS_DRIVE, .SO_LEDSTAT_FULL,
      .SO_LEDSTAT_WRAPPED, .SO_LEDSTAT_LOST, .SO_LEDPTR_NEXT, .SO_DROP_HW, .SO_DROP_DL, .LK_HIRQ_CAUSE]

/-- What TEST_PULSE_END may change. -/
def reachTestPulseEnd : Nat :=
  mask [.time, .root, .hidden, .office, .capture, .legs, .trips, .sense, .slots, .fabric, .acceptance, .safety, .security, .links, .twin, .health,
      .axes, .cycle, .fresh, .outbox, .memory] [.NODE_MODE_ENTRY, .NODE_MODE_PENDING, .NODE_MODE_LATCH, .NODE_MODE_MODE, .NODE_TEST_RUNNING,
      .NODE_TEST_RESULT, .NODE_TRIPSTAT_LTOTAL, .NODE_TRIPSTAT_CLRREF, .NODE_TRIPSTAT_ANY, .NODE_BTRIP_BRIDGE, .NODE_TWIN_STAT_ROLE,
      .NODE_TWIN_STAT_SEQ_END, .NODE_TWIN_STAT_HELDLOSS, .NODE_TWIN_SEQ_LO_NEXT, .NODE_TWIN_SEQ_HI_NEXT, .NODE_LTRIPm_LEG, .NODE_BCAUSEb_FIRST,
      .NODE_BCAUSEb_LAST, .NODE_BCAUSEb_NCAUSE, .NODE_BCNTb_TOTAL, .NODE_BCNTb_WIN, .POST_STATUS_CHANGED, .POST_STATUS_STATE, .POST_TIG_TIMEBASE,
      .POST_TIG_HELD, .POST_ACC_LATE, .LEGn_FORCE_CODE, .LEGn_STATUS_DRIVE, .LEGn_STATUS_HELD, .LEGn_STATUS_FCODE, .LEGn_DEBT_D, .LEGn_DEBTMAX_D,
      .BRIDGE_CTRL_SRC, .SN_SNAPSTAT_DROP, .SN_SNAPSTAT_PEND, .DEC_RSr_IDX_RUN, .FAB_STATUS_RUN, .SO_LEDSTAT_FULL, .SO_LEDSTAT_WRAPPED,
      .SO_LEDSTAT_LOST, .SO_LEDPTR_NEXT, .SO_DROP_HW, .SO_DROP_DL, .CAP_WINw_MISS_COUNT, .CAP_WINw_MISS_NEXT, .SAF_STATUS_PERMIT, .SAF_STATUS_ISTO,
      .SAF_STATUS_DEMAND, .SAF_STATUS_RFOFF, .SAF_LOCK_FIRST, .SAF_LOCK_INDEX, .SAF_LOCK_NCAUSE, .SAF_LOCK_OPEN, .SAF_IN_DISCREP, .SAF_OUT_TPACT,
      .SAF_OUT_RB, .SAF_OUT_CMD, .SAF_FB_MISMATCH, .SAF_PLUG_STATE, .SAF_PLUG_LOCKCMD, .SAF_PLUG_LOCKFB, .SAF_PLUG_CODE, .SAF_TPRES_DISCARD,
      .SAF_TPRES_PASS, .SAF_CNT_TPDONE, .SAF_CNT_DEMANDS, .SAF_RFj_STAT_FRESH, .SEC_IMG_STATUS_BUSY, .SEC_IMG_STATUS_CODE, .LK_HIRQ_CAUSE,
      .AXn_STAT_STATE]

/-- What POST_ENVELOPE, TRAY_INSERT may change. -/
def reachTrayInsert : Nat :=
  mask [.time, .root, .office, .fabric, .cycle, .fresh, .outbox] [.POST_STATUS_CHANGED, .POST_STATUS_STATE, .POST_TIG_TIMEBASE, .POST_TIG_HELD,
      .SO_LEDSTAT_FULL, .SO_LEDSTAT_WRAPPED, .SO_LEDSTAT_LOST, .SO_LEDPTR_NEXT, .SO_RESULT_CODE, .SO_RESULT_ID, .LK_HIRQ_CAUSE]

/-- What QUIET_EXIT, TRAY_TICK may change. -/
def reachTrayTick : Nat :=
  mask [.regs, .time, .root, .shadows, .hidden, .office, .capture, .legs, .trips, .sense, .image, .slots, .fabric, .acceptance, .safety, .security,
      .links, .twin, .health, .axes, .axisNv, .journal, .cycle, .fresh, .outbox, .memory] [.NODE_PAIR_PAIR_VALID, .NODE_PAIR_PARTNER,
      .NODE_PAIR_PAIR_ID, .NODE_MODE_REFUSE, .NODE_MODE_ENTRY, .NODE_MODE_QUIET, .NODE_MODE_PENDING, .NODE_MODE_MODE, .NODE_TEST_RESULT,
      .NODE_TEST_FAILUNIT, .NODE_ADDRERR_COUNT, .NODE_ADDRERR_REQ, .NODE_ADDRERR_KIND, .NODE_ADDRERR_ADDR_ADDR, .NODE_TRIPSTAT_LTOTAL,
      .NODE_TRIPSTAT_BLANKED, .NODE_TRIPSTAT_CLRREF, .NODE_TRIPSTAT_ANY, .NODE_BTRIP_BRIDGE, .NODE_TWIN_STAT_ROLE, .NODE_TWIN_STAT_DIVERGED,
      .NODE_TWIN_STAT_SEQ_END, .NODE_TWIN_STAT_REFUSE, .NODE_TWIN_STAT_HELDLOSS, .NODE_TWIN_CNT_BMISS, .NODE_TWIN_CNT_MISM, .NODE_TWIN_SEQ_LO_NEXT,
      .NODE_TWIN_SEQ_HI_NEXT, .NODE_LTRIPm_LEG, .NODE_LTINm_LEG, .NODE_BCAUSEb_FIRST, .NODE_BCAUSEb_LAST, .NODE_BCAUSEb_NCAUSE, .NODE_BCNTb_TOTAL,
      .NODE_BCNTb_WIN, .POST_STATUS_CHANGED, .POST_STATUS_STATE, .POST_OFFSET_OFS_NS, .POST_TIG_LAPSES, .POST_TIG_HWFAULT, .POST_TIG_TIMEBASE,
      .POST_TIG_OVERRUN, .POST_TIG_FOREIGN, .POST_TIG_IMAGE, .POST_TIG_HELD, .POST_ACC_SUPER, .POST_ACC_LATE, .POST_TIGBASE_LO_FRAC,
      .POST_TIGBASE_HI_SEC, .CK_LOCKWIN_COUNT, .CK_RSTCAUSE_WAKE, .CK_RSTCAUSE_COARSE_LOST, .CK_RSTCAUSE_BOSUP, .CK_RSTCAUSE_KIND,
      .CK_WDOG_CFG_TIMEOUT, .CK_WAKE_CAUSE, .CK_WAKE_INPUT, .LEGn_CFG_BLANK, .LEGn_CFG_PHASE, .LEGn_CFG_BRIDGE, .LEGn_CFG_SAFE, .LEGn_CFG_POLICY,
      .LEGn_CFG_SENSE, .LEGn_CFG_ASSIGNED, .LEGn_DT_RISE, .LEGn_DT_FALL, .LEGn_MINP_MIN, .LEGn_DUTY_DUTY, .LEGn_PHASE_PHASE, .LEGn_PERIOD_PERIOD,
      .LEGn_DUTY_ACT_DUTY, .LEGn_PHASE_ACT_PHASE, .LEGn_PERIOD_ACT_PERIOD, .LEGn_FORCE_CODE, .LEGn_STATUS_DRIVE, .LEGn_STATUS_HELD,
      .LEGn_STATUS_PEND_D, .LEGn_STATUS_PEND_PP, .LEGn_STATUS_FCODE, .LEGn_STATUS_PCLAMP, .LEGn_DEBT_D, .LEGn_DEBTMAX_D, .LEGn_CNT_SUPER,
      .BRIDGE_CFG_PRESENT, .BRIDGE_CFG_ROLE, .BRIDGE_CFG_NPHASE, .BRIDGE_CFG_CFORM, .BRIDGE_CFG_RELOAD, .BRIDGE_CTRL_SRC, .SN_STATUS_RUN,
      .SN_STATUS_GRPEN, .SN_STATUS_BANKEN, .SN_CAL_PHASE, .SN_CAL_STEP, .SN_CAL_ROT, .SN_SNAPSTAT_DONE, .SN_SNAPSTAT_DROP, .SN_SNAPSTAT_PEND,
      .SN_ORm_CH, .SN_LOSTm_CH, .SN_BANKb_PM, .SN_BANKb_FORM, .SN_BANKb_SDLEV, .SN_BANKb_CLKADJ, .SN_BANKb_SDLY, .SN_GRPg_EN, .SN_GRPg_PS,
      .DEC_PATHp_CFG_DEFINED, .DEC_PATHp_CFG_K, .DEC_PATHp_CFG_DLOG, .DEC_PATHp_CFG_R, .DEC_PATHp_CFG_SRC, .DEC_PATHp_BANK_FADING,
      .DEC_PATHp_BANK_HELD, .DEC_PATHp_BANK_HBANK, .DEC_PATHp_BANK_TBANK, .DEC_PATHp_BANK_ABANK, .DEC_PATHp_BANK_ARESP, .DEC_PATHp_BANK_XFLEFT,
      .DEC_PATHp_DLY_UNITS, .DEC_RSr_CFG_DEFINED, .DEC_RSr_CFG_LOCK, .DEC_RSr_CFG_BRIDGE, .DEC_RSr_CFG_LOGN, .DEC_RSr_CFG_CYC, .DEC_RSr_CFG_SRC,
      .DEC_RSr_IDX_RUN, .DEC_RSr_IDX_J, .DEC_RSr_CNT_OUT, .DEC_RSr_CNT_LATE, .FAB_STATUS_RUN, .FAB_STATUS_FAULT, .FAB_STATUS_SLOT, .FAB_STATUS_ACTIVE,
      .FAB_STATUS_USED, .FAB_CFG_G3, .FAB_CFG_G2, .FAB_CFG_G1, .FAB_CFG_G0, .FAB_CFG_FRATE, .FAB_SNAP_FROZEN, .FAB_SNAP_FREEZE, .FAB_NAN_INF,
      .FAB_NAN_NAN, .FAB_FRAME_LO_K, .FAB_FRAME_HI_K, .FAB_HASH_LO_H, .FAB_HASH_HI_H, .FAB_SNAPK_LO_K, .FAB_SNAPK_HI_K, .FAB_TILEt_PEAK_CYC,
      .SO_LEDSTAT_FULL, .SO_LEDSTAT_WRAPPED, .SO_LEDSTAT_LOST, .SO_LEDPTR_NEXT, .SO_DROP_HW, .SO_DROP_DL, .SO_PHp_PRIO, .SO_PHp_CORES, .SO_PHp_LIMIT,
      .CAP_STATUS_ARMED, .CAP_STATUS_DONE, .CAP_FRCFG_HOLD, .CAP_FRSTAT_REC, .CAP_FRSTAT_HCAUSE, .CAP_FRSTAT_GAPS, .CAP_FRPTR_OFS, .CAP_FROLDK_LO_K,
      .CAP_FROLDK_HI_K, .CAP_FRNEWK_LO_K, .CAP_FRNEWK_HI_K, .CAP_RPSTAT_STATE, .CAP_RPSTAT_REASON, .CAP_RPSTAT_SKIPS, .CAP_RPDIV_SLOT,
      .CAP_RPDIV_NDIV, .CAP_RPK_LO_W, .CAP_RPK_HI_W, .CAP_RPREC_LO_W, .CAP_RPREC_HI_W, .CAP_RPCALC_LO_W, .CAP_RPCALC_HI_W, .CAP_WINw_STAT_STATE,
      .CAP_WINw_STAT_ARMERR, .CAP_WINw_STAT_SEG, .CAP_WINw_STAT_NDONE, .CAP_WINw_MISS_COUNT, .CAP_WINw_MISS_NEXT, .SAF_OUT_TPACT, .SAF_OUT_RB,
      .SAF_OUT_CMD, .SAF_ISO_VALID, .SAF_ISO_FAULT, .SAF_ISO_R_ISO, .SAF_CNT_TPDONE, .SAF_CNT_DEMANDS, .SAF_RFj_STAT_DEFINED, .SAF_RFj_STAT_FRESH,
      .SAF_RFj_STAT_PERMIT, .SAF_RFj_STAT_DIR, .SAF_RFj_STAT_SEQ, .SAF_RFj_CNT_CRCC, .SAF_RFj_CNT_CRCK, .SAF_RFj_CNT_SEQ, .SAF_RFj_CNT_TIME,
      .SEC_STATUS_LOGFULL, .SEC_STATUS_LOGN, .SEC_CNT_TAGFAIL, .SEC_CNT_REPLAY, .SEC_SESS_OPEN, .SEC_ENR_PTR_OFS, .SEC_FW_PTR_OFS,
      .SEC_FW_STATUS_CODE, .SEC_FW_STATUS_STATE, .SEC_IMG_PTR_OFS, .SEC_IMG_STATUS_BUSY, .SEC_IMG_STATUS_CODE, .SEC_IMG_STATUS_ACT_SLOT,
      .SEC_IMG_STATUS_ACT_MARK, .SEC_IMG_STATUS_STATE, .SEC_IMG_WHERE_SECT, .SEC_IMG_WHERE_REC, .SEC_FW_VERs_VER, .SEC_FRANK_NONCEn_N, .SEC_RBi_COUNT,
      .SEC_IMG_VERs_VER, .SEC_IMG_IDs_ID, .LK_STATUS_PCIE_UP, .LK_STATUS_GEN, .LK_STATUS_WIDTH, .LK_HIRQ_CAUSE, .LK_TWIN_STAT_DELAY,
      .LK_TWIN_CNT_TAGFAIL, .LK_TWIN_CNT_LATE, .LK_SPn_CNT_RXDROP, .LK_SPn_CNT_DUP, .LK_CANc_TXDONE_DONE, .HL_STATUS_RUN, .HL_STATUS_COUNT_LOST,
      .HL_STATUS_OVF, .HL_NVp_MAXW, .AXn_STAT_STATE, .AXn_STAT_FAULT, .AXn_STAT_CHATTER]

/-- What TUNING_RANGE_END may change. -/
def reachTuningRangeEnd : Nat :=
  mask [.time, .root, .hidden, .office, .capture, .legs, .trips, .sense, .slots, .fabric, .security, .links, .twin, .axes, .cycle, .fresh, .outbox,
      .memory] [.NODE_MODE_ENTRY, .NODE_MODE_MODE, .NODE_TEST_RUNNING, .NODE_TEST_RESULT, .NODE_TRIPSTAT_LTOTAL, .NODE_TRIPSTAT_CLRREF,
      .NODE_TRIPSTAT_ANY, .NODE_BTRIP_BRIDGE, .NODE_TWIN_STAT_ROLE, .NODE_TWIN_STAT_SEQ_END, .NODE_TWIN_SEQ_LO_NEXT, .NODE_TWIN_SEQ_HI_NEXT,
      .NODE_LTRIPm_LEG, .NODE_BCAUSEb_FIRST, .NODE_BCAUSEb_LAST, .NODE_BCAUSEb_NCAUSE, .NODE_BCNTb_TOTAL, .NODE_BCNTb_WIN, .POST_STATUS_CHANGED,
      .POST_STATUS_COARSE, .POST_STATUS_STATE, .POST_TRIM_TRIM, .POST_TIG_TIMEBASE, .POST_TIG_HELD, .CK_STATUS_LOCK, .CK_STATUS_SHADOW,
      .CK_STATUS_ACT, .CK_STATUS_LOSS, .LEGn_FORCE_CODE, .LEGn_STATUS_DRIVE, .LEGn_STATUS_HELD, .LEGn_STATUS_FCODE, .LEGn_DEBT_D, .LEGn_DEBTMAX_D,
      .BRIDGE_CTRL_SRC, .SN_SNAPSTAT_DROP, .SN_SNAPSTAT_PEND, .DEC_RSr_IDX_RUN, .FAB_STATUS_RUN, .SO_LEDSTAT_FULL, .SO_LEDSTAT_WRAPPED,
      .SO_LEDSTAT_LOST, .SO_LEDPTR_NEXT, .SO_DROP_HW, .SO_DROP_DL, .CAP_WINw_MISS_COUNT, .CAP_WINw_MISS_NEXT, .SEC_IMG_STATUS_BUSY,
      .SEC_IMG_STATUS_CODE, .LK_STATUS_PCIE_UP, .LK_STATUS_GEN, .LK_STATUS_WIDTH, .LK_STATUS_TWIN_UP, .LK_HIRQ_CAUSE, .LK_TWIN_STAT_BLOCK,
      .LK_SPn_STAT_UP, .AXn_STAT_STATE]

/-- What TWIN_LINK_UP may change. -/
def reachTwinLinkUp : Nat :=
  mask [.office, .legs, .fabric, .security, .links, .twin, .health, .cycle, .fresh, .outbox] [.NODE_PAIR_PAIR_VALID, .NODE_PAIR_PARTNER,
      .NODE_PAIR_PAIR_ID, .NODE_TWIN_STAT_ROLE, .NODE_TWIN_STAT_LINK, .NODE_TWIN_STAT_SILENT, .NODE_TWIN_STAT_DIVERGED, .NODE_TWIN_STAT_SEQ_END,
      .NODE_TWIN_STAT_REFUSE, .NODE_TWIN_SEQ_LO_NEXT, .NODE_TWIN_SEQ_HI_NEXT, .LEGn_STATUS_DRIVE, .SO_LEDSTAT_FULL, .SO_LEDSTAT_WRAPPED,
      .SO_LEDSTAT_LOST, .SO_LEDPTR_NEXT, .SO_DROP_HW, .SO_DROP_DL, .LK_STATUS_TWIN_UP, .LK_HIRQ_CAUSE, .LK_TWIN_STAT_BLOCK]

/-- What TWIN_TIME may change. -/
def reachTwinTime : Nat :=
  mask [.time, .office, .legs, .sense, .fabric, .acceptance, .safety, .security, .links, .twin, .axisTick, .cycle, .fresh,
      .outbox] [.NODE_TWIN_STAT_SEQ_END, .NODE_TWIN_STAT_HELDLOSS, .NODE_TWIN_SEQ_LO_NEXT, .NODE_TWIN_SEQ_HI_NEXT, .POST_STATUS_CHANGED,
      .POST_STATUS_STEPPED, .POST_STATUS_SRC_ACT, .POST_STATUS_COARSE, .POST_STATUS_STATE, .POST_OFFSET_OFS_NS, .POST_TRIM_TRIM, .POST_TIG_TIMEBASE,
      .POST_TIG_HELD, .DEC_PATHp_BANK_FADING, .DEC_PATHp_BANK_HELD, .DEC_PATHp_BANK_TBANK, .DEC_PATHp_BANK_ABANK, .DEC_PATHp_BANK_ARESP,
      .DEC_PATHp_BANK_XFLEFT, .DEC_PATHp_DLY_UNITS, .SO_LEDSTAT_FULL, .SO_LEDSTAT_WRAPPED, .SO_LEDSTAT_LOST, .SO_LEDPTR_NEXT, .SO_DROP_HW,
      .SO_DROP_DL, .LK_HIRQ_CAUSE, .LK_TWIN_STAT_DELAY]

/-- What UNCORRECTABLE_MEMORY_ERROR may change. -/
def reachUncorrectableMemoryError : Nat :=
  mask [.hidden, .office, .capture, .legs, .trips, .sense, .slots, .fabric, .security, .links, .twin, .axes, .cycle, .fresh, .outbox,
      .memory] [.NODE_MODE_ENTRY, .NODE_MODE_MODE, .NODE_TRIPSTAT_LTOTAL, .NODE_TRIPSTAT_CLRREF, .NODE_TRIPSTAT_ANY, .NODE_BTRIP_BRIDGE,
      .NODE_TWIN_STAT_ROLE, .NODE_TWIN_STAT_SEQ_END, .NODE_TWIN_SEQ_LO_NEXT, .NODE_TWIN_SEQ_HI_NEXT, .NODE_LTRIPm_LEG, .NODE_BCAUSEb_FIRST,
      .NODE_BCAUSEb_LAST, .NODE_BCAUSEb_NCAUSE, .NODE_BCNTb_TOTAL, .NODE_BCNTb_WIN, .POST_TIG_HWFAULT, .POST_TIG_HELD, .LEGn_FORCE_CODE,
      .LEGn_STATUS_DRIVE, .LEGn_STATUS_HELD, .LEGn_STATUS_FCODE, .LEGn_DEBT_D, .LEGn_DEBTMAX_D, .BRIDGE_CTRL_SRC, .SN_SNAPSTAT_DROP,
      .SN_SNAPSTAT_PEND, .DEC_RSr_IDX_RUN, .FAB_STATUS_RUN, .SO_LEDSTAT_FULL, .SO_LEDSTAT_WRAPPED, .SO_LEDSTAT_LOST, .SO_LEDPTR_NEXT, .SO_DROP_HW,
      .SO_DROP_DL, .CAP_WINw_MISS_COUNT, .CAP_WINw_MISS_NEXT, .SEC_IMG_STATUS_BUSY, .SEC_IMG_STATUS_CODE, .LK_HIRQ_CAUSE, .AXn_STAT_STATE]

/-- What WAKE may change. -/
def reachWake : Nat :=
  mask [.regs, .time, .root, .shadows, .hidden, .office, .capture, .legs, .trips, .sense, .image, .slots, .fabric, .acceptance, .safety, .security,
      .links, .twin, .health, .axes, .journal, .cycle, .outbox, .memory] [.NODE_MODE_LATCH, .POST_TIG_TIMEBASE, .POST_TIG_HELD, .CK_RSTCAUSE_WAKE,
      .CK_RSTCAUSE_COARSE_LOST, .CK_RSTCAUSE_BOSUP, .CK_RSTCAUSE_KIND, .CK_WAKE_CAUSE, .CK_WAKE_INPUT, .CAP_STATUS_ARMED, .CAP_STATUS_DONE,
      .CAP_FRCFG_HOLD, .CAP_FRSTAT_REC, .CAP_FRSTAT_HCAUSE, .CAP_WINw_STAT_STATE, .CAP_WINw_MISS_COUNT, .CAP_WINw_MISS_NEXT, .SAF_LOCK_FIRST,
      .SAF_LOCK_INDEX, .SAF_LOCK_NCAUSE, .SAF_LOCK_OPEN, .SEC_FW_STATUS_CODE, .SEC_FW_STATUS_STATE, .SEC_IMG_STATUS_CODE, .SEC_IMG_STATUS_STATE,
      .SEC_IMG_WHERE_SECT, .SEC_IMG_WHERE_REC, .SEC_FW_VERs_VER, .SEC_IMG_VERs_VER, .SEC_IMG_IDs_ID, .LK_STATUS_PCIE_UP, .LK_STATUS_GEN,
      .LK_STATUS_WIDTH, .LK_HIRQ_CAUSE, .HL_STATUS_COUNT_LOST, .HL_NVp_MAXW]

/-- What WATCHDOG_EXPIRY may change. -/
def reachWatchdogExpiry : Nat :=
  mask [.regs, .time, .root, .shadows, .hidden, .office, .capture, .legs, .trips, .sense, .image, .slots, .fabric, .acceptance, .safety, .security,
      .links, .twin, .health, .axes, .journal, .cycle, .outbox, .memory] [.POST_STATUS_CHANGED, .POST_STATUS_STATE, .POST_TIG_TIMEBASE,
      .POST_TIG_HELD, .CK_RSTCAUSE_WAKE, .CK_RSTCAUSE_COARSE_LOST, .CK_RSTCAUSE_BOSUP, .CK_RSTCAUSE_KIND, .CAP_STATUS_ARMED, .CAP_STATUS_DONE,
      .CAP_FRCFG_HOLD, .CAP_FRSTAT_REC, .CAP_FRSTAT_HCAUSE, .CAP_WINw_STAT_STATE, .CAP_WINw_MISS_COUNT, .CAP_WINw_MISS_NEXT, .SEC_FW_STATUS_CODE,
      .SEC_FW_STATUS_STATE, .SEC_IMG_STATUS_CODE, .SEC_IMG_STATUS_STATE, .SEC_IMG_WHERE_SECT, .SEC_IMG_WHERE_REC, .SEC_FW_VERs_VER, .SEC_IMG_VERs_VER,
      .SEC_IMG_IDs_ID, .LK_STATUS_PCIE_UP, .LK_STATUS_GEN, .LK_STATUS_WIDTH, .LK_HIRQ_CAUSE, .HL_STATUS_COUNT_LOST, .HL_NVp_MAXW]

/-- What WIDE_ACCESS may change. -/
def reachWideAccess : Nat :=
  mask [.regs, .time, .root, .shadows, .hidden, .office, .capture, .legs, .trips, .sense, .image, .slots, .fabric, .acceptance, .safety, .security,
      .links, .twin, .health, .axes, .axisTick, .journal, .cycle, .fresh, .outbox, .memory] [.NODE_IDENT_PROV, .NODE_IDENT_TWIN, .NODE_IDENT_CLUSTER,
      .NODE_IDENT_NODE, .NODE_MODE_REFUSE, .NODE_MODE_ENTRY, .NODE_MODE_PENDING, .NODE_MODE_MODE, .NODE_TEST_RUNNING, .NODE_TEST_RESULT,
      .NODE_ADDRERR_COUNT, .NODE_ADDRERR_REQ, .NODE_ADDRERR_KIND, .NODE_ADDRERR_ADDR_ADDR, .NODE_TRIPSTAT_LTOTAL, .NODE_TRIPSTAT_CLRREF,
      .NODE_TRIPSTAT_CMPOUT, .NODE_TRIPSTAT_ANY, .NODE_BTRIP_BRIDGE, .NODE_WCMPST_UNDER, .NODE_WCMPST_OVER, .NODE_TWIN_CFG_SILN, .NODE_TWIN_CFG_EDGEW,
      .NODE_TWIN_CFG_TSIL, .NODE_TWIN_STAT_ROLE, .NODE_TWIN_STAT_DIVERGED, .NODE_TWIN_STAT_SEQ_END, .NODE_TWIN_STAT_REFUSE, .NODE_TWIN_STAT_HELDLOSS,
      .NODE_TWIN_SEQ_LO_NEXT, .NODE_TWIN_SEQ_HI_NEXT, .NODE_LTRIPm_LEG, .NODE_BCAUSEb_FIRST, .NODE_BCAUSEb_LAST, .NODE_BCAUSEb_NCAUSE,
      .NODE_BCNTb_TOTAL, .NODE_BCNTb_WIN, .NODE_WCMPc_CFG_ACT, .NODE_WCMPc_CFG_SRC, .POST_NOW_LO_FRAC, .POST_NOW_HI_SEC, .POST_STATUS_CHANGED,
      .POST_STATUS_STEPPED, .POST_STATUS_SRC_ACT, .POST_STATUS_COARSE, .POST_STATUS_STATE, .POST_CTRL_SLEW, .POST_CTRL_PRIO, .POST_HOLD_FU,
      .POST_HOLD_POOR_US, .POST_HOLD_GOOD_NS, .POST_ERRB_ERR_NS, .POST_TRIM_TRIM, .POST_EPOCH_LO_SEC, .POST_EPOCH_HI_VALID, .POST_EPOCH_HI_SEC,
      .POST_TIG_TIMEBASE, .POST_TIG_HELD, .POST_ACC_LATE, .CK_STATUS_LOCK, .CK_STATUS_SHADOW, .CK_STATUS_ACT, .CK_STATUS_LOSS, .CK_REF_AUTO,
      .CK_REF_SEL, .CK_REF_REF1_EN, .CK_REF_REF0_EN, .CK_RSTCAUSE_WAKE, .CK_RSTCAUSE_COARSE_LOST, .CK_RSTCAUSE_BOSUP, .CK_RSTCAUSE_KIND,
      .CK_WDOG_CFG_TIMEOUT, .CK_WDOG_STAT_REMAIN, .CK_ALARM_LO_FRAC, .CK_ALARM_HI_SEC, .LEGn_DUTY_DUTY, .LEGn_PHASE_PHASE, .LEGn_PERIOD_PERIOD,
      .LEGn_FORCE_CODE, .LEGn_STATUS_DRIVE, .LEGn_STATUS_HELD, .LEGn_STATUS_PEND_D, .LEGn_STATUS_PEND_PP, .LEGn_STATUS_FCODE, .LEGn_STATUS_FREFUSED,
      .LEGn_STATUS_PCLAMP, .LEGn_STATUS_RB_GL, .LEGn_STATUS_RB_GH, .LEGn_STATUS_GL, .LEGn_STATUS_GH, .LEGn_DEBT_D, .LEGn_DEBTMAX_D, .LEGn_COUNT_DOWN,
      .LEGn_COUNT_C, .LEGn_RBCFG_SETTLE, .LEGn_RBCFG_TOL, .LEGn_CNT_SUPER, .BRIDGE_CTRL_SRC, .BRIDGE_STATUS_SWITCHING, .BRIDGE_STATUS_HELD,
      .BRIDGE_STATUS_FORCED, .BRIDGE_STATUS_HOSTW, .SN_CAL_PHASE, .SN_SNAPSTAT_DROP, .SN_SNAPSTAT_PEND, .DEC_PATHp_BANK_FADING, .DEC_PATHp_BANK_HELD,
      .DEC_PATHp_BANK_TBANK, .DEC_PATHp_BANK_ABANK, .DEC_PATHp_BANK_ARESP, .DEC_PATHp_BANK_XFLEFT, .DEC_PATHp_DLY_UNITS, .DEC_RSr_IDX_RUN,
      .FAB_STATUS_RUN, .FAB_SNAP_FROZEN, .FAB_SNAP_FREEZE, .SO_STATUS_INFLIGHT, .SO_STATUS_SWUSE, .SO_LEDSTAT_FULL, .SO_LEDSTAT_WRAPPED,
      .SO_LEDSTAT_LOST, .SO_LEDPTR_NEXT, .SO_DROP_HW, .SO_DROP_DL, .SO_RESULT_CODE, .SO_RESULT_ID, .SO_TRAY_LO_FRAC, .SO_TRAY_HI_SEC, .SO_CANRES_RES,
      .SO_CUR_BUSY, .SO_CUR_ID, .SO_COREc_BUSY, .SO_COREc_NOFLOW, .SO_COREc_FLOW, .SO_COREc_ID, .SO_PHp_COUNT, .SO_TRAYt_COUNT, .CAP_STATUS_ARMED,
      .CAP_STATUS_DONE, .CAP_FRCFG_HOLD, .CAP_FRCFG_AUTOHOLD, .CAP_FRCFG_EXT, .CAP_FRCFG_CKPLOG, .CAP_FRCFG_POSTFR, .CAP_FRSTAT_REC,
      .CAP_FRSTAT_HCAUSE, .CAP_FRPTR_OFS, .CAP_FROLDK_LO_K, .CAP_FROLDK_HI_K, .CAP_FRNEWK_LO_K, .CAP_FRNEWK_HI_K, .CAP_RPSTART_LO_W,
      .CAP_RPSTART_HI_W, .CAP_RPEND_LO_W, .CAP_RPEND_HI_W, .CAP_WINw_CFG_NSEGLOG, .CAP_WINw_TRIG_TKIND, .CAP_WINw_TRIG_COND, .CAP_WINw_STAT_STATE,
      .CAP_WINw_STAT_ARMERR, .CAP_WINw_STAT_SEG, .CAP_WINw_STAT_NDONE, .CAP_WINw_MISS_COUNT, .CAP_WINw_MISS_NEXT, .SEC_STATUS_ENROLLED,
      .SEC_STATUS_DXK, .SEC_STATUS_LOGFULL, .SEC_STATUS_REVOKED0, .SEC_STATUS_LOGN, .SEC_RESULT_BUSY, .SEC_RESULT_CODE, .SEC_RNG_R, .SEC_SESS_OPEN,
      .SEC_SESSCFG_LIFE, .SEC_ENR_PTR_OFS, .SEC_FW_PTR_OFS, .SEC_FW_STATUS_CODE, .SEC_FW_STATUS_MARK, .SEC_FW_STATUS_STATE, .SEC_IMG_PTR_OFS,
      .SEC_IMG_STATUS_BUSY, .SEC_IMG_STATUS_CODE, .SEC_IMG_STATUS_ACT_SLOT, .SEC_IMG_STATUS_ACT_MARK, .SEC_IMG_STATUS_STATE, .SEC_IMG_WHERE_SECT,
      .SEC_IMG_WHERE_REC, .SEC_FW_VERs_VER, .SEC_FRANK_STATUS_BUSY, .SEC_FRANK_STATUS_DONE, .SEC_FRANK_STATUS_CODE, .SEC_FRANK_STATUS_QUEUE,
      .SEC_EXT_Dn_D, .SEC_RBi_COUNT, .SEC_IMG_VERs_VER, .SEC_IMG_IDs_ID, .LK_STATUS_PCIE_UP, .LK_STATUS_GEN, .LK_STATUS_WIDTH, .LK_STATUS_TWIN_UP,
      .LK_STATUS_CAN_ON, .LK_HIRQ_CAUSE, .LK_TWIN_STAT_BLOCK, .LK_SPn_CFG_PTPROLE, .LK_SPn_CFG_LOGSYNC, .LK_SPn_STAT_UP, .LK_SPn_STAT_PSTATE,
      .LK_CANc_NBT_BRP, .LK_CANc_DBT_BRP, .LK_CANc_STAT_BUSOFF, .LK_CANc_STAT_PASSIVE, .LK_CANc_STAT_TEC, .LK_CANc_STAT_REC, .LK_CANc_FLTf_RT_ACT,
      .HL_STATUS_COUNT_LOST, .HL_CTRL_PERIOD, .HL_FLAGS_LO_F, .HL_FLAGS_HI_F, .HL_NODE_RL, .HL_NVp_MAXW, .HL_LEGn_D_D, .AXn_CFG_ENCMODE,
      .AXn_STAT_STATE, .AXn_STAT_REHOME_ADVISED, .AXn_STAT_TGTERR, .AXn_POS_LO_W, .AXn_POS_HI_W, .AXn_TGT_LO_W, .AXn_TGT_HI_W, .AXn_SLIMP_LO_W,
      .AXn_SLIMP_HI_W, .AXn_SLIMN_LO_W, .AXn_SLIMN_HI_W, .AXn_HOFS_LO_W, .AXn_HOFS_HI_W, .AXn_LCFG_LEDGE]

/-- What WINDOW_COMPARATOR may change. -/
def reachWindowComparator : Nat :=
  mask [.office, .capture, .legs, .trips, .sense, .cycle, .fresh, .memory] [.NODE_TRIPSTAT_CMPOUT, .NODE_TRIPSTAT_ANY, .NODE_BTRIP_BRIDGE,
      .NODE_WCMPST_UNDER, .NODE_WCMPST_OVER, .NODE_BCAUSEb_FIRST, .NODE_BCAUSEb_LAST, .NODE_BCAUSEb_NCAUSE, .LEGn_STATUS_HELD, .LEGn_DEBT_D,
      .LEGn_DEBTMAX_D, .SN_SNAPSTAT_DROP, .SN_SNAPSTAT_PEND, .SO_LEDSTAT_FULL, .SO_LEDSTAT_WRAPPED, .SO_LEDSTAT_LOST, .SO_LEDPTR_NEXT, .SO_DROP_HW,
      .SO_DROP_DL, .CAP_WINw_MISS_COUNT, .CAP_WINw_MISS_NEXT]

end Sys2Proof.Machine
end

