-- ==== Sys2Proof/Certificates/Slice0/Obligations.lean ====
section
/-!
DEFINITION. The statements about the node, for the provers: each a closed proposition over `exec`, `step` and `State`.
-/
open Sys2Proof Sys2Proof.Machine

/-- A step runs the command at the front of the queue. For every command c, queue cs and state s, one step of s with c :: cs waiting is exec c
on s with cs waiting. The queue is the model's own (log entry 1). (INDEX.md; 00_scope.md R4) -/
def Obligations.StepRunsFront : Prop :=
  ∀ (c : Instr) (cs : List Instr) (s : State), step { s with pending := c :: cs } = exec c { s with pending := cs }

/-- With nothing waiting a step is one tick of D1. On an empty queue a step answers the state one D1 tick later: elapsed time grows by the
increment, and so does the counter below its end unless it has stopped. The model's choice (log entry 1). (02_postmark.md R32) -/
def Obligations.StepIdleTick : Prop :=
  ∀ s : State, s.pending = [] →
    ∃ t, step s = .next t ∧ t.pending = [] ∧ t.time.elapsed = s.time.elapsed + s.increment
      ∧ (s.time.stopped = true → t.time.acc = s.time.acc)
      ∧ (s.time.stopped = false → s.time.acc + s.increment < 2 ^ 104 → t.time.acc = s.time.acc + s.increment)

/-- The reset state is sound. The state right after power-on has its registers, its capture memory and its flight record in canonical form, and
its counter inside 104 bits; every register field reads its Reset value and no command waits. (00_scope.md R4; 02_postmark.md R32;
12_capture.md R316) -/
def Obligations.ResetSound : Prop :=
  Sound State.reset ∧ State.reset.pending = [] ∧ ∀ f : Fld, State.reset.get f = f.reset

/-- Every step keeps the state sound. From every sound state, a step answers a sound state: the register table stays sorted with every value
inside 32 bits, the counter stays inside its 104 bits, the capture memory stays canonical inside its 32 MiB and the flight record canonical.
(00_scope.md R4; 02_postmark.md R32; 12_capture.md R316; 12_capture.md R333) -/
def Obligations.StepKeepsSound : Prop :=
  ∀ s t : State, Sound s → step s = .next t → Sound t

/-- No step goes back in time or takes back a message. Whatever a step does, elapsed time does not fall, what the node has sent stays sent in
its order, and a free value once drawn is not drawn again. (02_postmark.md R29; 02_postmark.md R32) -/
def Obligations.StepGoesOnward : Prop :=
  ∀ s t : State, step s = .next t → Onward s t

/-- Every command answers a next state. For every command and every state, exec answers a next state and leaves the queue as it finds it: what
the spec forbids is answered by an address error, a refusal code or no effect, never by a stop. (00_scope.md R5; 01_node.md R524) -/
def Obligations.EveryCommandAnswers : Prop :=
  ∀ (c : Instr) (s : State), ∃ t, exec c s = .next t ∧ t.pending = s.pending

/-- In a reset and in HIBERNATE commands change nothing. While a reset is asserted or the node is in HIBERNATE, every command other than the
always-on ones (the local reset input, crystal edges, the resets and their release, a wake) and other than a PCI Express read leaves the
state as it is. (17_clocks_resets.md R456; 17_clocks_resets.md R463; 17_clocks_resets.md Table CK-4) -/
def Obligations.NothingRunsUnpowered : Prop :=
  ∀ (c : Instr) (s : State), s.powered = false →
    (match c with
      | .lrstPress | .lrstRelease | .crystalEdge | .cold _ | .brownout _ | .pin | .resetRelease _ | .wake _ => True
      | .shadowLoRead r _ | .shadowHiRead r _ | .readToClear r _ _ | .frDataRead r => r = .pcie ∨ exec c s = .next s
      | .wideAccess _ none => True
      | _ => exec c s = .next s)

/-- PCI Express reads return all ones in a WATCHDOG or HOST reset. While a WATCHDOG reset or a HOST reset is asserted, a 32-bit read by the PCI
Express port at any address returns 0xFFFFFFFF, an 8-byte read two such words, and nothing else changes. (17_clocks_resets.md Table CK-4;
17_clocks_resets.md R456) -/
def Obligations.ReadsInReset : Prop :=
  ∀ (s : State) (addr : Word), s.root.resetKind = some 3 ∨ s.root.resetKind = some 4 →
    Does (.shadowLoRead .pcie addr) s (mask [.links] []) (fun t => t.lastRead .pcie = [0xFFFFFFFF] ∧ ∀ q, q ≠ .pcie → t.lastRead q = s.lastRead q)
    ∧ Does (.wideAccess addr none) s (mask [.links] []) (fun t => t.lastRead .pcie = [0xFFFFFFFF, 0xFFFFFFFF])

/-- A pair read by its two words is never torn. For every requester and every _LO address of a 64-bit pair, SHADOW_LO_READ returns the low word
of the pair's value and keeps that value for the requester. As long as it is kept, whatever else has happened since, SHADOW_HI_READ returns
the high word of the same value. A read by another requester, of a _LO or of a _HI word, leaves the kept value as it is. For POST_NOW the
value is the postmark of the first read. (R61) -/
def Obligations.PairReadsAreOneValue : Prop :=
  (∀ (s : State) (r : Requester) (a : Word), s.serves r.num = true → isLo a.toNat = true →
    ∃ t v, exec (.shadowLoRead r a) s = .next t ∧ Keeps reachQspiRead s t
      ∧ v = (readPair s r.num a.toNat).1 ∧ (a = 0x10000 → v = s.postmark)
      ∧ t.lastRead r = [v % 2 ^ 32] ∧ (t.shadow r.num).rd = some (a.toNat, v) ∧ (t.shadow r.num).wr = (s.shadow r.num).wr
      ∧ ∀ q, q ≠ r → t.lastRead q = s.lastRead q ∧ t.shadow q.num = s.shadow q.num)
  ∧ (∀ (s : State) (r : Requester) (a : Word) (v : Nat), s.serves r.num = true → isLo a.toNat = true → (s.shadow r.num).rd = some (a.toNat, v) →
    Does (.shadowHiRead r (a + 4)) s (mask [.links] []) fun t =>
      t.lastRead r = [v / 2 ^ 32] ∧ ∀ q, q ≠ r → t.lastRead q = s.lastRead q)
  ∧ (∀ (s t : State) (r q : Requester) (a : Word), q ≠ r → exec (.shadowLoRead q a) s = .next t ∨ exec (.shadowHiRead q a) s = .next t →
    t.shadow r.num = s.shadow r.num)

/-- The two words of a pair are read and take effect together. SHADOW_HI_READ of POST_NOW_HI by a requester whose read shadow holds another
address or nothing returns the present high word and records an address error of kind 3; the count saturates at 65,535. For every writable
pair, SHADOW_LO_WRITE only keeps the word in the requester's write shadow. SHADOW_HI_WRITE at its _HI address takes both words in one cycle,
as the pair's own write of the 64-bit value with the shadow emptied; for CK_ALARM both words are then in the register and nothing else
changes. Without its _LO word in the shadow a _HI write changes nothing and is an address error of kind 4. WIDE_ACCESS as a write at the _LO
address is the pair's write of the 64-bit value; as a read at POST_NOW_LO it returns both words of the present postmark and changes no
shadow. (02_postmark.md R60; 02_postmark.md R62; 02_postmark.md R63; 17_clocks_resets.md R464; 01_node.md R524) -/
def Obligations.PairAccess : Prop :=
  (∀ (s : State) (r : Requester), s.serves r.num = true → (∀ v, (s.shadow r.num).rd ≠ some (0x10000, v)) → 
    Does (.shadowHiRead r 0x10004) s (mask [.links, .cycle] [.NODE_ADDRERR_COUNT, .NODE_ADDRERR_REQ, .NODE_ADDRERR_KIND,
        .NODE_ADDRERR_ADDR_ADDR]) fun t =>
      t.lastRead r = [s.postmark / 2 ^ 32]
      ∧ t.get R.NODE_ADDRERR_KIND = 3
      ∧ t.get R.NODE_ADDRERR_REQ = r.num
      ∧ t.get R.NODE_ADDRERR_ADDR_ADDR = 0x10004
      ∧ t.get R.NODE_ADDRERR_COUNT = min 65535 (s.get R.NODE_ADDRERR_COUNT + 1)
      ∧ (∀ q, q ≠ r → t.lastRead q = s.lastRead q))
  ∧ (∀ (s : State) (r : Requester) (a v : Word), s.serves r.num = true → isWrLo a.toNat = true → 
    Does (.shadowLoWrite r a v) s (mask [.shadows] []) fun t =>
      t.shadow r.num = { s.shadow r.num with wr := some (a.toNat, v.toNat) }
      ∧ (∀ q, q ≠ r.num → t.shadow q = s.shadow q))
  ∧ (∀ (s : State) (r : Requester) (a lo hi : Word), s.serves r.num = true → isWrLo a.toNat = true → (s.shadow r.num).wr = some (a.toNat, lo.toNat) → 
    Does (.shadowHiWrite r (a + 4) hi) s reachShadowHiWrite fun t =>
      (t.shadow r.num).wr = none
      ∧ t = pairCommit (s.setShadow r.num { s.shadow r.num with wr := none }) r.num a.toNat (lo.toNat + hi.toNat * 2 ^ 32))
  ∧ (∀ (s : State) (r : Requester) (lo hi : Word), s.serves r.num = true → (s.shadow r.num).wr = some (0x20028, lo.toNat) → 
    Does (.shadowHiWrite r 0x2002C hi) s (mask [.shadows] [.CK_ALARM_LO_FRAC, .CK_ALARM_HI_SEC]) fun t =>
      t.get R.CK_ALARM_LO_FRAC = lo.toNat
      ∧ t.get R.CK_ALARM_HI_SEC = hi.toNat
      ∧ t.shadow r.num = { s.shadow r.num with wr := none }
      ∧ (∀ q, q ≠ r.num → t.shadow q = s.shadow q))
  ∧ (∀ (s : State) (r : Requester) (a hi : Word), s.serves r.num = true → isWrLo a.toNat = true → (∀ lo, (s.shadow r.num).wr ≠ some (a.toNat, lo)) → 
    Does (.shadowHiWrite r (a + 4) hi) s (mask [.links, .cycle] [.NODE_ADDRERR_COUNT, .NODE_ADDRERR_REQ, .NODE_ADDRERR_KIND,
        .NODE_ADDRERR_ADDR_ADDR]) fun t =>
      t.get R.NODE_ADDRERR_KIND = 4
      ∧ t.get R.NODE_ADDRERR_REQ = r.num
      ∧ t.get R.NODE_ADDRERR_ADDR_ADDR = a.toNat + 4
      ∧ t.get R.NODE_ADDRERR_COUNT = min 65535 (s.get R.NODE_ADDRERR_COUNT + 1))
  ∧ (∀ (s : State) (a : Word) (v : BitVec 64), s.powered = true → isWrLo a.toNat = true → 
    Does (.wideAccess a (some v)) s reachWideAccess fun t =>
      t = pairCommit s 0 a.toNat v.toNat)
  ∧ (∀ (s : State) (v : BitVec 64), s.powered = true → 
    Does (.wideAccess 0x20028 (some v)) s (mask [] [.CK_ALARM_LO_FRAC, .CK_ALARM_HI_SEC]) fun t =>
      t.getPair R.CK_ALARM_LO_FRAC R.CK_ALARM_HI_SEC = v.toNat)
  ∧ (∀ (s : State), s.powered = true → 
    Does (.wideAccess 0x10000 none) s (mask [.links] []) fun t =>
      t.lastRead .pcie = [s.postmark % 2 ^ 32, s.postmark / 2 ^ 32]
      ∧ (∀ q, q ≠ .pcie → t.lastRead q = s.lastRead q))

/-- What reads and writes do by access code. READ_TO_CLEAR of POST_ACC returns its two counts as one word and leaves both 0; a count that has
risen in the same D3 cycle returns its value from before and keeps the rise. WRITE_ONE_TO_CLEAR of POST_STATUS clears CHANGED and STEPPED
where the written bit is 1 and nothing else; a bit set in the same D3 cycle stays 1. REGISTER_WRITE of LK_HIRQ_EN puts its 14 bits. A word
written at an unmapped aligned address changes nothing and is an address error of kind 1. (00_scope.md R5; 00_scope.md R6; 00_scope.md R9;
01_node.md R524) -/
def Obligations.AccessCodes : Prop :=
  (∀ (s : State) (r : Requester),
      s.serves r.num = true → sget none s.cycleSets R.POST_ACC_SUPER.key = none → sget none s.cycleSets R.POST_ACC_LATE.key = none → 
    Does (.readToClear r 0x10034 4) s (mask [.links] [.POST_ACC_SUPER, .POST_ACC_LATE]) fun t =>
      t.lastRead r = [s.get R.POST_ACC_SUPER * 2 ^ 16 + s.get R.POST_ACC_LATE]
      ∧ t.get R.POST_ACC_SUPER = 0
      ∧ t.get R.POST_ACC_LATE = 0
      ∧ (∀ q, q ≠ r → t.lastRead q = s.lastRead q))
  ∧ (∀ (s : State) (r : Requester) (b k : Nat),
      s.serves r.num = true → sget none s.cycleSets R.POST_ACC_SUPER.key = none → sget none s.cycleSets R.POST_ACC_LATE.key = some (b, k) → 
    Does (.readToClear r 0x10034 4) s (mask [.links, .cycle] [.POST_ACC_SUPER, .POST_ACC_LATE]) fun t =>
      t.lastRead r = [s.get R.POST_ACC_SUPER * 2 ^ 16 + b]
      ∧ t.get R.POST_ACC_SUPER = 0
      ∧ t.get R.POST_ACC_LATE = k % 2 ^ 16)
  ∧ (∀ (s : State) (r : Requester) (v : Word),
      s.serves r.num = true → sget none s.cycleSets R.POST_STATUS_CHANGED.key = none → sget none s.cycleSets R.POST_STATUS_STEPPED.key = none → 
    Does (.writeOneToClear r 0x10008 v) s (mask [] [.POST_STATUS_CHANGED, .POST_STATUS_STEPPED]) fun t =>
      t.get R.POST_STATUS_CHANGED = (if v.toNat.testBit 8 then 0 else s.get R.POST_STATUS_CHANGED % 2)
      ∧ t.get R.POST_STATUS_STEPPED = (if v.toNat.testBit 7 then 0 else s.get R.POST_STATUS_STEPPED % 2))
  ∧ (∀ (s : State) (r : Requester) (b : Nat), s.serves r.num = true → sget none s.cycleSets R.POST_STATUS_CHANGED.key = some (b,
      1) → sget none s.cycleSets R.POST_STATUS_STEPPED.key = none → 
    Does (.writeOneToClear r 0x10008 0x100) s (mask [.cycle] [.POST_STATUS_CHANGED, .POST_STATUS_STEPPED]) fun t =>
      t.get R.POST_STATUS_CHANGED = 1
      ∧ t.get R.POST_STATUS_STEPPED = s.get R.POST_STATUS_STEPPED % 2)
  ∧ (∀ (s : State) (r : Requester) (v : Word), s.serves r.num = true → 
    Does (.registerWrite r 0x600008 4 v) s (mask [] [.LK_HIRQ_EN_EN]) fun t =>
      t.get R.LK_HIRQ_EN_EN = v.toNat % 2 ^ 14)
  ∧ (∀ (s : State) (r : Requester) (a v : Word), s.serves r.num = true → a.toNat % 4 = 0 → 0x3000000 ≤ a.toNat → 
    Does (.registerWrite r a 4 v) s (mask [.links, .cycle] [.NODE_ADDRERR_COUNT, .NODE_ADDRERR_REQ, .NODE_ADDRERR_KIND,
        .NODE_ADDRERR_ADDR_ADDR]) fun t =>
      t.get R.NODE_ADDRERR_KIND = 1
      ∧ t.get R.NODE_ADDRERR_REQ = r.num
      ∧ t.get R.NODE_ADDRERR_ADDR_ADDR = a.toNat
      ∧ t.get R.NODE_ADDRERR_COUNT = min 65535 (s.get R.NODE_ADDRERR_COUNT + 1))

/-- The node identity changes only in STANDBY. IDENT_WRITE in STANDBY puts TWIN, CLUSTER and NODE as written; PROV becomes 1 only while an
enrolment record is installed, and 0 whenever it is written 0. One write of the identity's line in non-volatile memory is counted and MR6 is
extended: one more log entry, or LOGFULL with 64. In every other mode the command changes nothing. (01_node.md R24; 15_security.md R409;
15_security.md R406) -/
def Obligations.IdentWrite : Prop :=
  (∀ (s : State) (r : Requester) (v : Word), s.serves r.num = true → s.mode = 1 → 
    Does (.identWrite r v) s (mask [.security, .health] [.NODE_IDENT_PROV, .NODE_IDENT_TWIN, .NODE_IDENT_CLUSTER, .NODE_IDENT_NODE,
        .SEC_STATUS_LOGFULL, .SEC_STATUS_LOGN, .HL_NVp_MAXW]) fun t =>
      t.get R.NODE_IDENT_TWIN = v.toNat / 2 ^ 20 % 2
      ∧ t.get R.NODE_IDENT_CLUSTER = v.toNat / 2 ^ 12 % 256
      ∧ t.get R.NODE_IDENT_NODE = v.toNat % 4096
      ∧ (s.get R.SEC_STATUS_ENROLLED ≠ 0 → t.get R.NODE_IDENT_PROV = v.toNat / 2 ^ 31)
      ∧ (s.get R.SEC_STATUS_ENROLLED = 0 → v.toNat.testBit 31 = true → t.get R.NODE_IDENT_PROV = s.get R.NODE_IDENT_PROV % 2)
      ∧ (v.toNat.testBit 31 = false → t.get R.NODE_IDENT_PROV = 0)
      ∧ (s.security.log.length < 64 → ∃ e ∈ t.security.log,
          t.security.log = s.security.log ++ [e] ∧ e.1 = 6 ∧ e.2.1 = s.postmark ∧ sget 0 t.security.mr 6 = leNat (sha512 (mrBytes s 6 ++ leBytes 64 e.2.2)))
      ∧ sget 0 t.health.lines (4 * 2 ^ 20 + 131) = sget 0 s.health.lines (4 * 2 ^ 20 + 131) + 1
      ∧ (64 ≤ s.security.log.length → t.security.log = s.security.log ∧ t.get R.SEC_STATUS_LOGFULL = 1))
  ∧ (∀ (s : State) (r : Requester) (v : Word), s.serves r.num = true → s.mode ≠ 1 → 
    Does (.identWrite r v) s (mask [] []) fun _ =>
      True)

/-- A host set of the postmark is taken only while FREE. POST_SET with its low word in the shadow, in BOOT or STANDBY while the timebase is
FREE: with PPS_IN enabled and usable the value waits for the next PPS edge and no register changes; otherwise the counter takes the value by
a step at once: STEPPED is set, SRC_ACT is 5, the state stays FREE and no command waits any more; in any other mode or timebase state
nothing changes but the emptied shadow; and without the low word it is an address error of kind 4. (02_postmark.md R47; 02_postmark.md R41) -/
def Obligations.PostSet : Prop :=
  (∀ (s : State) (r : Requester) (lo hi : Word), s.serves r.num = true → (s.shadow r.num).wr = some (0x10028,
      lo.toNat) → (s.mode = 0 ∨ s.mode = 1) → s.get R.POST_STATUS_STATE = 0 → s.get R.POST_CTRL_EN_PPS = 1 → s.time.usable.contains 3 = true → 
    Does (.postSet r hi) s (mask [.time, .shadows] []) fun t =>
      t.time = { s.time with ppsSet := some (lo.toNat + hi.toNat * 2 ^ 32) }
      ∧ (t.shadow r.num).wr = none)
  ∧ (∀ (s : State) (r : Requester) (lo hi : Word), s.serves r.num = true → (s.shadow r.num).wr = some (0x10028,
      lo.toNat) → (s.mode = 0 ∨ s.mode = 1) → s.get R.POST_STATUS_STATE = 0 → (¬(s.get R.POST_CTRL_EN_PPS = 1 ∧ s.time.usable.contains 3 = true)) → s.time.stopped = false → 
    Does (.postSet r hi) s (reachHostSet ||| mask [.shadows] []) fun t =>
      t.get R.POST_STATUS_SRC_ACT = 5
      ∧ t.get R.POST_STATUS_STEPPED = 1
      ∧ t.get R.POST_STATUS_STATE = 0
      ∧ t.acceptance = []
      ∧ t.time.acc = (lo.toNat + hi.toNat * 2 ^ 32) * 2 ^ 40)
  ∧ (∀ (s : State) (r : Requester) (lo hi : Word), s.serves r.num = true → (s.shadow r.num).wr = some (0x10028,
      lo.toNat) → ((s.mode ≠ 0 ∧ s.mode ≠ 1) ∨ s.get R.POST_STATUS_STATE ≠ 0) → 
    Does (.postSet r hi) s (mask [.shadows] []) fun t =>
      (t.shadow r.num).wr = none)
  ∧ (∀ (s : State) (r : Requester) (hi : Word), s.serves r.num = true → (∀ lo, (s.shadow r.num).wr ≠ some (0x10028, lo)) → 
    Does (.postSet r hi) s (mask [.links, .cycle] [.NODE_ADDRERR_COUNT, .NODE_ADDRERR_REQ, .NODE_ADDRERR_KIND, .NODE_ADDRERR_ADDR_ADDR]) fun t =>
      t.get R.NODE_ADDRERR_KIND = 4)

/-- The flight record is read and written at its pointer. FR_DATA_READ returns the low word at CAP_FRPTR and advances the pointer by 8.
FR_DATA_WRITE in STANDBY with HOLD = 1 inside the record stores the 8 bytes at the pointer and advances it; otherwise it stores nothing and
is an address error of kind 6. (12_capture.md R338; 02_postmark.md R60) -/
def Obligations.FlightRecordWords : Prop :=
  (∀ (s : State) (r : Requester), s.serves r.num = true → s.get R.CAP_FRPTR_OFS + 8 ≤ frRingEnd s → 
    Does (.frDataRead r) s (mask [.shadows, .links] [.CAP_FRPTR_OFS]) fun t =>
      t.lastRead r = [frWord s (s.get R.CAP_FRPTR_OFS) % 2 ^ 32]
      ∧ t.get R.CAP_FRPTR_OFS = (s.get R.CAP_FRPTR_OFS + 8) % 2 ^ 25
      ∧ (t.shadow r.num).rd = some (0x300010, frWord s (s.get R.CAP_FRPTR_OFS)))
  ∧ (∀ (s : State) (r : Requester) (v : BitVec 64),
      s.serves r.num = true → s.mode = 1 → s.get R.CAP_FRCFG_HOLD = 1 → s.get R.CAP_FRPTR_OFS + 8 ≤ frRingEnd s → s.get R.CAP_FRCFG_EXT ≤ 16 → 
    Does (.frDataWrite r v) s (mask [.shadows, .memory] [.CAP_FRPTR_OFS]) fun t =>
      frWord t (s.get R.CAP_FRPTR_OFS) = v.toNat
      ∧ t.get R.CAP_FRPTR_OFS = (s.get R.CAP_FRPTR_OFS + 8) % 2 ^ 25
      ∧ (∀ p, p + 8 ≤ s.get R.CAP_FRPTR_OFS ∨ s.get R.CAP_FRPTR_OFS + 8 ≤ p → frWord t p = frWord s p))
  ∧ (∀ (s : State) (r : Requester) (v : BitVec 64),
      s.serves r.num = true → (¬(s.mode = 1 ∧ s.get R.CAP_FRCFG_HOLD = 1 ∧ s.get R.CAP_FRPTR_OFS + 8 ≤ frRingEnd s)) → 
    Does (.frDataWrite r v) s (mask [.shadows, .links, .cycle] [.NODE_ADDRERR_COUNT, .NODE_ADDRERR_REQ, .NODE_ADDRERR_KIND,
        .NODE_ADDRERR_ADDR_ADDR]) fun t =>
      t.get R.NODE_ADDRERR_KIND = 6)

/-- The quad-SPI port. QSPI_READ of the capture memory window returns zeros and sets NOTREADY; elsewhere one word is read as by a 32-bit read of
that requester. QSPI_READ_CAP returns the word of capture memory there. QSPI_WRITE writes its words at ascending addresses: two words at
LK_HIRQ_CAUSE clear the causes written 1, none of them set in the same D3 cycle, and put the enables. QSPI_STATUS returns the status byte
and clears its two error bits. (16_links.md R443; 16_links.md Table LK-7) -/
def Obligations.QuadSpi : Prop :=
  (∀ (s : State) (a : Word) (n : Nat), s.powered = true → 0x1000000 ≤ a.toNat → a.toNat + 4 * n ≤ 0x3000000 → n ≠ 0 → 
    Does (.qspiRead a n) s (mask [.links] []) fun t =>
      t.lastRead .qspi = List.replicate n 0
      ∧ t.links.qspiNotReady = true
      ∧ t.links.qspiErr = s.links.qspiErr)
  ∧ (∀ (s : State) (a : Word), s.powered = true → inCapture a.toNat = false → 
    Does (.qspiRead a 1) s reachQspiRead fun t =>
      exec (.readToClear .qspi a 4) s = .next t)
  ∧ (∀ (s : State) (a : Word), s.powered = true → 0x1000000 ≤ a.toNat → a.toNat < 0x3000000 → a.toNat % 4 = 0 → 
    Does (.qspiReadCap a 1) s (mask [.links] []) fun t =>
      t.lastRead .qspi = [memWord s.capture.mem (a.toNat - 0x1000000)])
  ∧ (∀ (s : State) (c e : Word), s.powered = true → sget none s.cycleSets R.LK_HIRQ_CAUSE.key = none → 
    Does (.qspiWrite 0x600004 [c, e]) s (mask [] [.LK_HIRQ_CAUSE, .LK_HIRQ_EN_EN]) fun t =>
      (∀ i : Fin 14, (t.get R.LK_HIRQ_CAUSE).testBit i = ((s.get R.LK_HIRQ_CAUSE).testBit i && !c.toNat.testBit i))
      ∧ t.get R.LK_HIRQ_EN_EN = e.toNat % 2 ^ 14)
  ∧ (∀ (s : State), s.powered = true → 
    Does .qspiStatus s (mask [.links] []) fun t =>
      t.lastRead .qspi = [s.links.qspiErr.toNat + 2 * s.links.qspiNotReady.toNat + (if s.mode = 0 then 4 else 0)]
      ∧ t.links.qspiErr = false
      ∧ t.links.qspiNotReady = false)

/-- Staged DUTY, PERIOD and PHASE are clamped as they are written. STAGED_WRITE on a leg of a bridge with SRC = 0 sets only that bridge's HOSTW.
On any other leg it stores DUTY, at most 1.0; PERIOD at the nearer bound of 2,400 to 1,200,000 ticks; PHASE modulo the staged PERIOD; PCLAMP
becomes 1 where the value was changed, and no other register changes. (08_legs.md R208; 08_legs.md R216; 08_legs.md R219) -/
def Obligations.LegStagedWrites : Prop :=
  (∀ (s : State) (r : Requester) (leg : Fin 96) (w : Staged) (v : Word),
      s.serves r.num = true → s.get (R.LEGn_CFG_ASSIGNED leg) = 1 → s.get (R.BRIDGE_CTRL_SRC (legBridge s leg)) = 0 → 
    Does (.stagedWrite r leg w v) s (mask [.cycle] [.BRIDGE_STATUS_HOSTW]) fun t =>
      t.get (R.BRIDGE_STATUS_HOSTW (legBridge s leg)) = 1
      ∧ Only [R.BRIDGE_STATUS_HOSTW (legBridge s leg)] s t)
  ∧ (∀ (s : State) (r : Requester) (leg : Fin 96) (v : Word),
      s.serves r.num = true → (¬(s.get (R.LEGn_CFG_ASSIGNED leg) = 1 ∧ s.get (R.BRIDGE_CTRL_SRC (legBridge s leg)) = 0)) → 
    Does (.stagedWrite r leg .duty v) s (mask [.cycle] [.LEGn_STATUS_PCLAMP, .LEGn_DUTY_DUTY]) fun t =>
      t.get (R.LEGn_DUTY_DUTY leg) = min 0x80000000 v.toNat
      ∧ (0x80000000 < v.toNat → t.get (R.LEGn_STATUS_PCLAMP leg) = 1)
      ∧ (v.toNat ≤ 0x80000000 → t.get (R.LEGn_STATUS_PCLAMP leg) = s.get (R.LEGn_STATUS_PCLAMP leg))
      ∧ Only [R.LEGn_DUTY_DUTY leg, R.LEGn_STATUS_PCLAMP leg] s t)
  ∧ (∀ (s : State) (r : Requester) (leg : Fin 96) (v : Word),
      s.serves r.num = true → (¬(s.get (R.LEGn_CFG_ASSIGNED leg) = 1 ∧ s.get (R.BRIDGE_CTRL_SRC (legBridge s leg)) = 0)) → 
    Does (.stagedWrite r leg .period v) s (mask [.cycle] [.LEGn_STATUS_PCLAMP, .LEGn_PERIOD_PERIOD]) fun t =>
      t.get (R.LEGn_PERIOD_PERIOD leg) = min 1200000 (max 2400 v.toNat)
      ∧ (v.toNat < 2400 ∨ 1200000 < v.toNat → t.get (R.LEGn_STATUS_PCLAMP leg) = 1)
      ∧ (2400 ≤ v.toNat ∧ v.toNat ≤ 1200000 → t.get (R.LEGn_STATUS_PCLAMP leg) = s.get (R.LEGn_STATUS_PCLAMP leg))
      ∧ Only [R.LEGn_PERIOD_PERIOD leg, R.LEGn_STATUS_PCLAMP leg] s t)
  ∧ (∀ (s : State) (r : Requester) (leg : Fin 96) (v : Word),
      s.serves r.num = true → (¬(s.get (R.LEGn_CFG_ASSIGNED leg) = 1 ∧ s.get (R.BRIDGE_CTRL_SRC (legBridge s leg)) = 0)) → 0 < s.get (R.LEGn_PERIOD_PERIOD leg) → s.get (R.LEGn_PERIOD_PERIOD leg) ≤ 1200000 → 
    Does (.stagedWrite r leg .phase v) s (mask [.cycle] [.LEGn_STATUS_PCLAMP, .LEGn_PHASE_PHASE]) fun t =>
      t.get (R.LEGn_PHASE_PHASE leg) = v.toNat % s.get (R.LEGn_PERIOD_PERIOD leg)
      ∧ (s.get (R.LEGn_PERIOD_PERIOD leg) ≤ v.toNat → t.get (R.LEGn_STATUS_PCLAMP leg) = 1)
      ∧ (v.toNat < s.get (R.LEGn_PERIOD_PERIOD leg) → t.get (R.LEGn_STATUS_PCLAMP leg) = s.get (R.LEGn_STATUS_PCLAMP leg))
      ∧ Only [R.LEGn_PHASE_PHASE leg, R.LEGn_STATUS_PCLAMP leg] s t)

/-- A load-all copies the staged values of its legs, and only of host-sourced bridges. While legs may switch, BRIDGE_LOAD on a bridge with SRC =
1 makes the staged DUTY, PHASE and PERIOD of each of its assigned legs the leg's pending set, committed at the write's instant, and leaves
every other leg as it was; where a pending set acts at a reload point that the write is too late for, that set stays and the new one waits
behind it; GLOBAL_LOAD does it for every bridge with SRC = 1. BRIDGE_LOAD on a bridge with SRC = 0 sets only HOSTW. SET_SOURCE sets SRC to 1
in COMMISSION and nowhere else, and to 0 in every mode. (08_legs.md R215; 08_legs.md R216; 08_legs.md R232) -/
def Obligations.LegLoadAll : Prop :=
  (∀ (s : State) (r : Requester) (bridge : Fin 16), s.serves r.num = true → s.switching = true → s.get (R.BRIDGE_CTRL_SRC bridge) = 1 → 
    Does (.bridgeLoad r bridge) s (mask [.legs, .cycle] [.LEGn_CNT_SUPER]) fun t =>
      (∀ leg : Fin 96, s.get (R.LEGn_CFG_ASSIGNED leg) = 1 → legBridge s leg = bridge →
        (if (s.leg leg).pend.any (fun q => waitsBehind s leg (reloads s leg (nextIsPeak s leg)) q.commit s.finePostmark) then (t.leg leg).pend = (s.leg leg).pend ∧ (t.leg leg).pendNext = some ⟨s.get (R.LEGn_DUTY_DUTY leg), s.get (R.LEGn_PHASE_PHASE leg), s.get (R.LEGn_PERIOD_PERIOD leg), false, s.finePostmark⟩ else (t.leg leg).pend = some ⟨s.get (R.LEGn_DUTY_DUTY leg), s.get (R.LEGn_PHASE_PHASE leg), s.get (R.LEGn_PERIOD_PERIOD leg), false, s.finePostmark⟩ ∧ (t.leg leg).pendNext = none)
        ∧ (if (s.leg leg).pendPP.any (fun q => waitsBehind s leg (!nextIsPeak s leg) q.commit s.finePostmark) then (t.leg leg).pendPP = (s.leg leg).pendPP ∧ (t.leg leg).pendPPNext = some ⟨s.get (R.LEGn_DUTY_DUTY leg), s.get (R.LEGn_PHASE_PHASE leg), s.get (R.LEGn_PERIOD_PERIOD leg), false, s.finePostmark⟩ else (t.leg leg).pendPP = some ⟨s.get (R.LEGn_DUTY_DUTY leg), s.get (R.LEGn_PHASE_PHASE leg), s.get (R.LEGn_PERIOD_PERIOD leg), false, s.finePostmark⟩ ∧ (t.leg leg).pendPPNext = none))
      ∧ (∀ leg : Fin 96,
          ¬(s.get (R.LEGn_CFG_ASSIGNED leg) = 1 ∧ legBridge s leg = bridge) → t.leg leg = s.leg leg ∧ t.get (R.LEGn_CNT_SUPER leg) = s.get (R.LEGn_CNT_SUPER leg)))
  ∧ (∀ (s : State) (r : Requester) (bridge : Fin 16), s.serves r.num = true → s.get (R.BRIDGE_CTRL_SRC bridge) = 0 → 
    Does (.bridgeLoad r bridge) s (mask [.cycle] [.BRIDGE_STATUS_HOSTW]) fun t =>
      t.get (R.BRIDGE_STATUS_HOSTW bridge) = 1
      ∧ Only [R.BRIDGE_STATUS_HOSTW bridge] s t)
  ∧ (∀ (s : State) (r : Requester), s.serves r.num = true → s.switching = true → 
    Does (.globalLoad r) s (mask [.legs, .cycle] [.LEGn_CNT_SUPER]) fun t =>
      (∀ leg : Fin 96, s.get (R.LEGn_CFG_ASSIGNED leg) = 1 → legBridge s leg < 16 → s.get (R.BRIDGE_CTRL_SRC (legBridge s leg)) = 1 →
        (if (s.leg leg).pend.any (fun q => waitsBehind s leg (reloads s leg (nextIsPeak s leg)) q.commit s.finePostmark) then (t.leg leg).pend = (s.leg leg).pend ∧ (t.leg leg).pendNext = some ⟨s.get (R.LEGn_DUTY_DUTY leg), s.get (R.LEGn_PHASE_PHASE leg), s.get (R.LEGn_PERIOD_PERIOD leg), false, s.finePostmark⟩ else (t.leg leg).pend = some ⟨s.get (R.LEGn_DUTY_DUTY leg), s.get (R.LEGn_PHASE_PHASE leg), s.get (R.LEGn_PERIOD_PERIOD leg), false, s.finePostmark⟩ ∧ (t.leg leg).pendNext = none)
        ∧ (if (s.leg leg).pendPP.any (fun q => waitsBehind s leg (!nextIsPeak s leg) q.commit s.finePostmark) then (t.leg leg).pendPP = (s.leg leg).pendPP ∧ (t.leg leg).pendPPNext = some ⟨s.get (R.LEGn_DUTY_DUTY leg), s.get (R.LEGn_PHASE_PHASE leg), s.get (R.LEGn_PERIOD_PERIOD leg), false, s.finePostmark⟩ else (t.leg leg).pendPP = some ⟨s.get (R.LEGn_DUTY_DUTY leg), s.get (R.LEGn_PHASE_PHASE leg), s.get (R.LEGn_PERIOD_PERIOD leg), false, s.finePostmark⟩ ∧ (t.leg leg).pendPPNext = none))
      ∧ (∀ leg : Fin 96, s.get (R.BRIDGE_CTRL_SRC (legBridge s leg)) ≠ 1 → t.leg leg = s.leg leg))
  ∧ (∀ (s : State) (r : Requester) (bridge : Fin 16) (host : Bool), s.serves r.num = true → 
    Does (.setSource r bridge host) s (mask [] [.BRIDGE_CTRL_SRC]) fun t =>
      (host = false → t.get (R.BRIDGE_CTRL_SRC bridge) = 0)
      ∧ (host = true → s.mode = 2 → t.get (R.BRIDGE_CTRL_SRC bridge) = 1)
      ∧ (host = true → s.mode ≠ 2 → t.get (R.BRIDGE_CTRL_SRC bridge) = s.get (R.BRIDGE_CTRL_SRC bridge))
      ∧ Only [R.BRIDGE_CTRL_SRC bridge] s t)

/-- Force codes wait for the reload, where the pending values transfer; a readback error trips. FORCE with a code of 5 or more has no effect;
with GH on or GL on outside COMMISSION it sets only FREFUSED; otherwise it puts CODE and the code waits with its instant. RELOAD at a reload
point makes a pending DUTY that was committed early enough the active one, and a set that waits behind it moves up; at a count zero the
pending PERIOD and PHASE likewise; a channel that does not run is left alone. READBACK_ERROR sets RBERR; with DRIVE = 2 and the twin link up
it sets RB_DISAGREE and no more; otherwise the mismatch stands, and in COMMISSION or ENERGIZE the leg trips: latched, held, its debt 0.
(08_legs.md R218; 08_legs.md R221; 08_legs.md R223; 09_trips.md R240; 09_trips.md R242) -/
def Obligations.LegForceAndReload : Prop :=
  (∀ (s : State) (r : Requester) (leg : Fin 96) (code : BitVec 3), s.serves r.num = true → 5 ≤ code.toNat → 
    Does (.force r leg code) s (mask [] []) fun _ =>
      True)
  ∧ (∀ (s : State) (r : Requester) (leg : Fin 96) (code : BitVec 3), s.serves r.num = true → (code.toNat = 2 ∨ code.toNat = 3) → s.mode ≠ 2 → 
    Does (.force r leg code) s (mask [.cycle] [.LEGn_STATUS_FREFUSED]) fun t =>
      t.get (R.LEGn_STATUS_FREFUSED leg) = 1
      ∧ Only [R.LEGn_STATUS_FREFUSED leg] s t)
  ∧ (∀ (s : State) (r : Requester) (leg : Fin 96) (code : BitVec 3),
      s.serves r.num = true → code.toNat < 5 → (code.toNat = 2 ∨ code.toNat = 3 → s.mode = 2) → 
    Does (.force r leg code) s (mask [.legs] [.LEGn_FORCE_CODE]) fun t =>
      t.get (R.LEGn_FORCE_CODE leg) = code.toNat
      ∧ (∀ q, (s.leg leg).force = some q → waitsBehind s leg (reloads s leg (nextIsPeak s leg)) q.2 s.finePostmark = true → t.leg leg = { s.leg leg with forceNext := some (code.toNat, s.finePostmark) })
      ∧ ((∀ q, (s.leg leg).force = some q → waitsBehind s leg (reloads s leg (nextIsPeak s leg)) q.2 s.finePostmark = false) → t.leg leg = { s.leg leg with force := some (code.toNat, s.finePostmark), forceNext := none })
      ∧ (∀ n : Fin 96, n ≠ leg → t.leg n = s.leg n)
      ∧ Only [R.LEGn_FORCE_CODE leg] s t)
  ∧ (∀ (s : State) (leg : Fin 96), s.powered = true → ((s.leg leg).runs = false ∨ s.get (R.LEGn_PERIOD_ACT_PERIOD leg) = 0) → 
    Does (.reload leg) s (mask [] []) fun _ =>
      True)
  ∧ (∀ (s : State) (leg : Fin 96) (p : PendSet),
      s.powered = true → (s.leg leg).runs = true → legBridge s leg < 16 → s.get (R.LEGn_PERIOD_ACT_PERIOD leg) ≠ 0 → reloads s leg (nextIsPeak s leg) = true → (s.leg leg).pend = some p → commitActs (s.leg leg) p.commit (64 * nextPoint s leg) = true → 
    Does (.reload leg) s reachReload fun t =>
      t.get (R.LEGn_DUTY_ACT_DUTY leg) = p.duty % 2 ^ 32
      ∧ (t.leg leg).pend = (s.leg leg).pendNext
      ∧ (t.leg leg).pendNext = none
      ∧ (t.leg leg).safeMark = p.safe)
  ∧ (∀ (s : State) (leg : Fin 96) (p : PendSet),
      s.powered = true → (s.leg leg).runs = true → legBridge s leg < 16 → s.get (R.LEGn_PERIOD_ACT_PERIOD leg) ≠ 0 → nextIsPeak s leg = false → reloads s leg false = true → (s.leg leg).pendPP = some p → commitActs (s.leg leg) p.commit (64 * nextPoint s leg) = true → 
    Does (.reload leg) s reachReload fun t =>
      t.get (R.LEGn_PERIOD_ACT_PERIOD leg) = p.period % 2 ^ 24
      ∧ t.get (R.LEGn_PHASE_ACT_PHASE leg) = p.phase % 2 ^ 24
      ∧ (t.leg leg).pendPP = (s.leg leg).pendPPNext
      ∧ (t.leg leg).pendPPNext = none)
  ∧ (∀ (s : State) (leg : Fin 96) (high : Bool), s.powered = true → s.get (R.LEGn_STATUS_DRIVE leg) = 2 → s.role = 3 → s.linkUp = true → 
    Does (.readbackError leg high) s (mask [.cycle] [.LEGn_STATUS_RBERR, .NODE_TWIN_STAT_RB_DISAGREE]) fun t =>
      t.get (R.LEGn_STATUS_RBERR leg) = 1
      ∧ t.get R.NODE_TWIN_STAT_RB_DISAGREE = 1
      ∧ Only [R.LEGn_STATUS_RBERR leg, R.NODE_TWIN_STAT_RB_DISAGREE] s t)
  ∧ (∀ (s : State) (leg : Fin 96) (high : Bool), s.powered = true → s.get (R.LEGn_STATUS_DRIVE leg) = 2 → (s.role ≠ 3 ∨ s.linkUp = false) → 
    Does (.readbackError leg high) s (mask [.cycle] [.LEGn_STATUS_RBERR]) fun t =>
      t.get (R.LEGn_STATUS_RBERR leg) = 1
      ∧ Only [R.LEGn_STATUS_RBERR leg] s t)
  ∧ (∀ (s : State) (leg : Fin 96) (high : Bool),
      s.powered = true → s.get (R.LEGn_STATUS_DRIVE leg) ≠ 2 → (s.mode = 2 ∨ s.mode = 3) → s.get (R.LEGn_CFG_ASSIGNED leg) = 1 → legBridge s leg < 16 → legSpare s leg = false → (modeAt s s.finePostmark = 2 ∨ modeAt s s.finePostmark = 3) → (s.get (R.NODE_LTRIPm_LEG (leg.val / 32))).testBit (leg.val % 32) = false → 
    Does (.readbackError leg high) s reachReadbackError fun t =>
      t.get (R.LEGn_STATUS_RBERR leg) = 1
      ∧ (t.get (R.NODE_LTRIPm_LEG (leg.val / 32))).testBit (leg.val % 32) = true
      ∧ t.get (R.LEGn_STATUS_HELD leg) = 1
      ∧ legDebt t leg = 0
      ∧ t.get R.NODE_TRIPSTAT_ANY = 1)
  ∧ (∀ (s : State) (leg : Fin 96) (high : Bool), s.powered = true → s.get (R.LEGn_STATUS_DRIVE leg) ≠ 2 → (s.mode ≠ 2 ∧ s.mode ≠ 3 ∧ s.mode ≠ 4) → 
    Does (.readbackError leg high) s (mask [.legs, .cycle] [.LEGn_STATUS_RBERR]) fun t =>
      t.get (R.LEGn_STATUS_RBERR leg) = 1
      ∧ (t.leg leg).rb = some (high, if high then !(t.leg leg).gh else !(t.leg leg).gl)
      ∧ (∀ n : Fin 96, n ≠ leg → t.leg n = s.leg n))

/-- What trip inputs and window comparators do. LEG_TRIP_INPUT of an unassigned leg only keeps the ball's level; of an assigned one it takes the
level into NODE_LTINm. A rise outside a blanking window trips an assigned leg at once, in COMMISSION and ENERGIZE by its latch with the leg
held; inside one it only waits, and an input that falls before the window ends is counted in BLANKED and trips nothing. BLANK_WINDOW_END
with the input still high trips the leg. WINDOW_COMPARATOR puts its OVER and UNDER bits; with ACT = 2 a comparator that goes outside latches
every bridge of MASK that the image defines while legs switch. (09_trips.md R236; 09_trips.md R237; 09_trips.md R239; 09_trips.md R242;
09_trips.md R240) -/
def Obligations.TripInputs : Prop :=
  (∀ (s : State) (leg : Fin 96),
      s.powered = true → tripInput s leg = false → blankEnd s leg s.finePostmark = none → s.get (R.LEGn_CFG_ASSIGNED leg) = 1 → legBridge s leg < 16 → legSpare s leg = false → (modeAt s (edgeOrder s) = 2 ∨ modeAt s (edgeOrder s) = 3) → (s.get (R.NODE_LTRIPm_LEG (leg.val / 32))).testBit (leg.val % 32) = false → 
    Does (.legTripInput leg true) s reachLegTripInput fun t =>
      tripInput t leg = true
      ∧ (t.get (R.NODE_LTRIPm_LEG (leg.val / 32))).testBit (leg.val % 32) = true
      ∧ t.get (R.LEGn_STATUS_HELD leg) = 1
      ∧ legDebt t leg = 0
      ∧ t.get R.NODE_TRIPSTAT_ANY = 1)
  ∧ (∀ (s : State) (leg : Fin 96) (high : Bool), s.powered = true → s.get (R.LEGn_CFG_ASSIGNED leg) = 0 → 
    Does (.legTripInput leg high) s (mask [.legs] []) fun t =>
      t.leg leg = { s.leg leg with input := high }
      ∧ (∀ n : Fin 96, n ≠ leg → t.leg n = s.leg n))
  ∧ (∀ (s : State) (leg : Fin 96),
      s.powered = true → tripInput s leg = false → s.get (R.LEGn_CFG_ASSIGNED leg) ≠ 0 → (blankEnd s leg s.finePostmark).isSome = true → 
    Does (.legTripInput leg true) s reachLegTripInput fun t =>
      tripInput t leg = true
      ∧ (t.leg leg).blanked = true
      ∧ (∀ m : Fin 3, t.get (R.NODE_LTRIPm_LEG m) = s.get (R.NODE_LTRIPm_LEG m)))
  ∧ (∀ (s : State) (leg : Fin 96) (e : Nat),
      s.powered = true → tripInput s leg = true → (s.leg leg).blanked = true → blankStop s leg s.finePostmark = some e → s.finePostmark < e → 
    Does (.legTripInput leg false) s reachLegTripInput fun t =>
      tripInput t leg = false
      ∧ (t.leg leg).blanked = false
      ∧ t.get R.NODE_TRIPSTAT_BLANKED = min 255 (s.get R.NODE_TRIPSTAT_BLANKED + 1)
      ∧ (∀ m : Fin 3, t.get (R.NODE_LTRIPm_LEG m) = s.get (R.NODE_LTRIPm_LEG m)))
  ∧ (∀ (s : State) (leg : Fin 96) (e : Nat),
      s.powered = true → tripInput s leg = true → (s.leg leg).blanked = true → blankStop s leg s.finePostmark = some e → e ≤ s.finePostmark → s.get (R.LEGn_CFG_ASSIGNED leg) = 1 → legBridge s leg < 16 → legSpare s leg = false → (modeAt s e = 2 ∨ modeAt s e = 3) → (s.get (R.NODE_LTRIPm_LEG (leg.val / 32))).testBit (leg.val % 32) = false → 
    Does (.blankWindowEnd leg) s reachBlankWindowEnd fun t =>
      tripInput t leg = true
      ∧ (t.leg leg).blanked = false
      ∧ (t.get (R.NODE_LTRIPm_LEG (leg.val / 32))).testBit (leg.val % 32) = true
      ∧ t.get (R.LEGn_STATUS_HELD leg) = 1
      ∧ legDebt t leg = 0
      ∧ t.get R.NODE_TRIPSTAT_ANY = 1)
  ∧ (∀ (s : State) (leg : Fin 96), s.powered = true → (tripInput s leg = false ∨ (s.leg leg).blanked = false) → 
    Does (.blankWindowEnd leg) s (mask [] []) fun _ =>
      True)
  ∧ (∀ (s : State) (cmp : Fin 16), s.powered = true → comparatorRuns s cmp = true → s.get (R.NODE_WCMPc_CFG_EN_HI cmp) = 1 → 
    Does (.windowComparator cmp .above) s reachWindowComparator fun t =>
      (t.get R.NODE_WCMPST_OVER).testBit cmp = true
      ∧ (t.get R.NODE_WCMPST_UNDER).testBit cmp = false
      ∧ t.get R.NODE_TRIPSTAT_CMPOUT = 1
      ∧ (s.get (R.NODE_WCMPc_CFG_ACT cmp) = 2 → (s.get R.NODE_WCMPST_OVER).testBit cmp = false → s.switching = true → s.mode = 2 ∨ s.mode = 3 ∨ s.mode = 4 →
        ∀ b : Fin 16, (s.get (R.NODE_WCMPc_CFG_MASK cmp)).testBit b = true → s.get (R.BRIDGE_CFG_PRESENT b) = 1 → bridgeLatched t b = true))
  ∧ (∀ (s : State) (cmp : Fin 16), s.powered = true → comparatorRuns s cmp = true → s.get (R.NODE_WCMPc_CFG_EN_LO cmp) = 1 → 
    Does (.windowComparator cmp .below) s reachWindowComparator fun t =>
      (t.get R.NODE_WCMPST_UNDER).testBit cmp = true
      ∧ (t.get R.NODE_WCMPST_OVER).testBit cmp = false
      ∧ t.get R.NODE_TRIPSTAT_CMPOUT = 1)
  ∧ (∀ (s : State) (cmp : Fin 16), s.powered = true → 
    Does (.windowComparator cmp .inside) s reachWindowComparator fun t =>
      (t.get R.NODE_WCMPST_UNDER).testBit cmp = false
      ∧ (t.get R.NODE_WCMPST_OVER).testBit cmp = false
      ∧ t.get R.NODE_BTRIP_BRIDGE = s.get R.NODE_BTRIP_BRIDGE
      ∧ t.trips = s.trips)

/-- A latch clears only where its source has ended. LEG_LATCH_CLEAR clears each leg latch whose bit is written 1, whose trip has no asserted
source and that the leg has not set in the same D3 cycle; another latch that is written 1 stays and CLRREF is set; no other latch changes.
BRIDGE_TRIP_CLEAR enters the acceptance queue as a command of class HOST for the frame that the HOST delay gives, at whose start it is
judged; no latch changes before. In REPLAY, and with the class disabled, nothing enters the queue. (09_trips.md R247; 09_trips.md R248) -/
def Obligations.TripClears : Prop :=
  (∀ (s : State) (r : Requester) (m : Fin 3) (v : Word), s.serves r.num = true → 
    Does (.legLatchClear r m v) s (mask [.trips, .cycle] [.NODE_TRIPSTAT_CLRREF, .NODE_TRIPSTAT_ANY, .NODE_LTRIPm_LEG]) fun t =>
      (∀ i : Fin 32, (t.get (R.NODE_LTRIPm_LEG m)).testBit i =
        ((s.get (R.NODE_LTRIPm_LEG m)).testBit i && !(v.toNat.testBit i && !legSource s (32 * m.val + i.val) && !(latchCycle s).1.contains (32 * m.val + i.val))))
      ∧ (∀ i : Fin 32,
          v.toNat.testBit i = true → (s.get (R.NODE_LTRIPm_LEG m)).testBit i = true → (t.get (R.NODE_LTRIPm_LEG m)).testBit i = true → t.get R.NODE_TRIPSTAT_CLRREF = 1)
      ∧ Only [R.NODE_LTRIPm_LEG m, R.NODE_TRIPSTAT_CLRREF, R.NODE_TRIPSTAT_ANY] s t)
  ∧ (∀ (s : State) (bridge : Fin 16),
      s.powered = true → follows s = false → s.mode ≠ 6 → dAccept s 2 ≠ 0 → s.postmark < frameStart s.fFrame (commandFrame s 2 s.postmark) → dAccept s 2 ≤ 60 * 2 ^ 32 → s.acceptance.length < 2048 → 
    Does (.bridgeTripClear bridge) s (mask [.acceptance] []) fun t =>
      t.acceptance = s.acceptance ++ [⟨2, 0x2000, 0, clearTarget bridge, 0, s.postmark, commandFrame s 2 s.postmark, []⟩])
  ∧ (∀ (s : State) (bridge : Fin 16), s.powered = true → (s.mode = 6 ∨ dAccept s 2 = 0) → 
    Does (.bridgeTripClear bridge) s reachStart fun t =>
      t.acceptance = s.acceptance
      ∧ t.trips = s.trips
      ∧ t.get R.NODE_BTRIP_BRIDGE = s.get R.NODE_BTRIP_BRIDGE)

/-- Outputs, lost bitstreams and overloads of the sense inputs. SENSE_TRIGGER on a running path, while no frame waits for samples, takes its
next trigger: the path's latest output carries that trigger, the CODE and STAT registers show it, and a lost channel repeats its last code.
BITSTREAM_LOST on a channel of the image sets its LOST bit; LOST_END clears it, restarts the path and leaves U outputs to be marked.
SLICE_OVERLOAD on a running slice notes the interval from 4 modulator periods back to 16 periods on with its sign. On a path or slice that
does not run each does nothing. (10_sensing.md R258; 10_sensing.md R264; 10_sensing.md R269; 10_sensing.md R273; 10_sensing.md R274) -/
def Obligations.SenseInputs : Prop :=
  (∀ (s : State) (path : Fin 120) (mods : List Int) (paired : Nat) (tr : Nat),
      s.powered = true → s.get R.SN_STATUS_RUN ≠ 0 → s.get (R.DEC_PATHp_CFG_DEFINED path) ≠ 0 → nextTrigger s path = some tr → s.fabric.sampling = none → 
    Does (.senseTrigger path mods paired) s reachSenseTrigger fun t =>
      (t.path path).lastTrig = some tr
      ∧ (sget SenseOut.none t.sense.latest path).trig = tr
      ∧ t.get (R.SN_CHc_CODE_CODE path) = unsigned 32 (signed 24 (sget SenseOut.none t.sense.latest path).code)
      ∧ t.get (R.SN_CHc_STAT_STAT path) = (sget SenseOut.none t.sense.latest path).stat % 256
      ∧ ((t.path path).lost = true → (sget SenseOut.none t.sense.latest path).code = (sget SenseOut.none s.sense.latest path).code))
  ∧ (∀ (s : State) (path : Fin 120) (mods : List Int) (paired : Nat),
      s.powered = true → (s.get R.SN_STATUS_RUN = 0 ∨ s.get (R.DEC_PATHp_CFG_DEFINED path) = 0) → s.fabric.sampling = none → 
    Does (.senseTrigger path mods paired) s (mask [] []) fun _ =>
      True)
  ∧ (∀ (s : State) (chan : Fin 96), s.powered = true → s.get (R.DEC_PATHp_CFG_DEFINED chan) = 1 → s.get R.SN_STATUS_RUN = 1 → 
    Does (.bitstreamLost chan) s (mask [.sense] [.SN_LOSTm_CH]) fun t =>
      (t.get (R.SN_LOSTm_CH (chan.val / 32))).testBit (chan.val % 32) = true
      ∧ (t.path chan).lost = true
      ∧ (∀ p : Fin 120, p.val ≠ chan.val → t.path p = s.path p)
      ∧ Only [R.SN_LOSTm_CH (chan.val / 32)] s t)
  ∧ (∀ (s : State) (chan : Fin 96), s.powered = true → (s.get (R.DEC_PATHp_CFG_DEFINED chan) ≠ 1 ∨ s.get R.SN_STATUS_RUN ≠ 1) → 
    Does (.bitstreamLost chan) s (mask [] []) fun _ =>
      True)
  ∧ (∀ (s : State) (chan : Fin 96), s.powered = true → (s.path chan).lost = true → 
    Does (.lostEnd chan) s (mask [.sense] [.SN_LOSTm_CH]) fun t =>
      (t.get (R.SN_LOSTm_CH (chan.val / 32))).testBit (chan.val % 32) = false
      ∧ (t.path chan).lost = false
      ∧ (t.path chan).line = []
      ∧ (t.path chan).unsettled = pathU s chan
      ∧ (∀ p : Fin 120, p.val ≠ chan.val → t.path p = s.path p)
      ∧ Only [R.SN_LOSTm_CH (chan.val / 32)] s t)
  ∧ (∀ (s : State) (chan : Fin 96), s.powered = true → (s.path chan).lost = false → 
    Does (.lostEnd chan) s (mask [] []) fun _ =>
      True)
  ∧ (∀ (s : State) (slice : Fin 25) (positive : Bool) (im : Image),
      s.powered = true → s.image = some im → s.get R.SN_STATUS_RUN ≠ 0 → s.get (R.SN_GRPg_EN (sliceGroup s slice)) ≠ 0 → 
    Does (.sliceOverload slice positive) s (mask [.sense] []) fun t =>
      t.sense.overloads.getLast? = some ⟨slice.val, s.time.elapsed - tickTime (4 * (im.groups.getD (sliceGroup s slice) ⟨0, 0⟩).ps),
          s.time.elapsed + tickTime (16 * (im.groups.getD (sliceGroup s slice) ⟨0, 0⟩).ps), positive⟩
      ∧ t.sense.paths = s.sense.paths)
  ∧ (∀ (s : State) (slice : Fin 25) (positive : Bool),
      s.powered = true → (s.image = none ∨ s.get R.SN_STATUS_RUN = 0 ∨ s.get (R.SN_GRPg_EN (sliceGroup s slice)) = 0) → 
    Does (.sliceOverload slice positive) s (mask [] []) fun _ =>
      True)

/-- The calibration rotation steps through the slices and halts on a failure with the spare. While the rotation runs, CAL_STEP begins a
suspended step from its beginning, and otherwise lets 250 ms pass since the step began and begins the next one, after step 24 step 0 with
ROT one higher; a step that still waits for its substitution, on a slice with a path, has then failed, and one that has not handed back its
slice fails with the spare 260 ms after its beginning. CAL_STEP_FAIL notes the slice in FSLICE with FAILED; after the substitution the spare
stays and the rotation halts, before it the slice stays the source. While it does not run neither does anything. (10_sensing.md R276;
10_sensing.md R277; 10_sensing.md R278) -/
def Obligations.CalibrationRotation : Prop :=
  (∀ (s : State), s.powered = true → calRuns s = true → s.sense.calStart = none → 
    Does .calStep s reachCalStep fun t =>
      t.get R.SN_CAL_STEP = s.get R.SN_CAL_STEP % 32
      ∧ t.get R.SN_CAL_PHASE = 1
      ∧ t.get R.SN_CAL_ROT = s.get R.SN_CAL_ROT
      ∧ t.sense.calStart = some s.time.elapsed
      ∧ t.sense.subst = none)
  ∧ (∀ (s : State) (e : Nat),
      s.powered = true → calRuns s = true → s.sense.calStart = some e → s.get R.SN_CAL_STEP < 24 → s.sense.subst ≠ some (s.get R.SN_CAL_STEP) → 
    Does .calStep s reachCalStep fun t =>
      t.get R.SN_CAL_STEP = s.get R.SN_CAL_STEP + 1
      ∧ t.get R.SN_CAL_PHASE = 1
      ∧ (s.get R.SN_CAL_PHASE = 1 ∧ slicePath s (s.get R.SN_CAL_STEP) = true → t.get R.SN_CAL_FAILED = 1 ∧ t.get R.SN_CAL_FSLICE = s.get R.SN_CAL_STEP)
      ∧ (s.get R.SN_CAL_PHASE ≠ 1 ∨ slicePath s (s.get R.SN_CAL_STEP) = false → t.get R.SN_CAL_FAILED = s.get R.SN_CAL_FAILED ∧ t.get R.SN_CAL_FSLICE = s.get R.SN_CAL_FSLICE)
      ∧ t.get R.SN_CAL_ROT = s.get R.SN_CAL_ROT
      ∧ t.sense.calStart = some t.time.elapsed
      ∧ t.sense.subst = none
      ∧ (s.increment ≠ 0 → e + usec 250000 ≤ t.time.elapsed))
  ∧ (∀ (s : State) (e : Nat),
      s.powered = true → calRuns s = true → s.sense.calStart = some e → s.get R.SN_CAL_STEP < 24 → s.sense.subst = some (s.get R.SN_CAL_STEP) → 
    Does .calStep s reachCalStep fun t =>
      t.get R.SN_CAL_FAILED = 1
      ∧ t.get R.SN_CAL_FSLICE = s.get R.SN_CAL_STEP
      ∧ t.get R.SN_CAL_PHASE = 2
      ∧ t.get R.SN_CAL_STEP = s.get R.SN_CAL_STEP
      ∧ t.sense.subst = some (s.get R.SN_CAL_STEP)
      ∧ calRuns t = false
      ∧ (s.increment ≠ 0 → e + usec 260000 ≤ t.time.elapsed))
  ∧ (∀ (s : State) (e : Nat),
      s.powered = true → calRuns s = true → s.sense.calStart = some e → 24 ≤ s.get R.SN_CAL_STEP → s.sense.subst ≠ some (s.get R.SN_CAL_STEP) → 
    Does .calStep s reachCalStep fun t =>
      t.get R.SN_CAL_STEP = 0
      ∧ t.get R.SN_CAL_PHASE = 1
      ∧ t.get R.SN_CAL_ROT = min 65535 (s.get R.SN_CAL_ROT + 1)
      ∧ t.sense.calStart = some t.time.elapsed
      ∧ t.sense.subst = none)
  ∧ (∀ (s : State), s.powered = true → calRuns s = false → 
    Does .calStep s (mask [] []) fun _ =>
      True)
  ∧ (∀ (s : State) (e : Nat), s.powered = true → calRuns s = true → s.sense.calStart = some e → s.get R.SN_CAL_STEP < 24 → 
    Does (.calStepFail true) s (mask [.sense] [.SN_CAL_FAILED, .SN_CAL_PHASE, .SN_CAL_FSLICE]) fun t =>
      t.get R.SN_CAL_FAILED = 1
      ∧ t.get R.SN_CAL_FSLICE = s.get R.SN_CAL_STEP
      ∧ t.get R.SN_CAL_PHASE = 2
      ∧ t.sense.subst = some (s.get R.SN_CAL_STEP)
      ∧ t.sense.calHalted = true
      ∧ calRuns t = false)
  ∧ (∀ (s : State) (e : Nat), s.powered = true → calRuns s = true → s.sense.calStart = some e → s.get R.SN_CAL_STEP < 32 → 
    Does (.calStepFail false) s (mask [.sense] [.SN_CAL_FAILED, .SN_CAL_PHASE, .SN_CAL_FSLICE]) fun t =>
      t.get R.SN_CAL_FAILED = 1
      ∧ t.get R.SN_CAL_FSLICE = s.get R.SN_CAL_STEP
      ∧ t.get R.SN_CAL_PHASE = 0
      ∧ t.sense.subst = none
      ∧ t.sense.calHalted = s.sense.calHalted)
  ∧ (∀ (s : State) (after : Bool), s.powered = true → (calRuns s = false ∨ s.sense.calStart = none) → 
    Does (.calStepFail after) s (mask [] []) fun _ =>
      True)

/-- Snapshots wait, four at most, and resamplers deliver what is due. SNAPSHOT_REQUEST for a bridge with paths starts a waiting snapshot of them
with the host's postmark, or is taken into a waiting one whose outputs serve it; with four waiting and none able to take it in, the request
is dropped and counted. Values 16 to 30 do nothing. SNAPSHOT_POST posts the first completed snapshot as a SNAPSHOT envelope to the image's
pigeonhole, frees its place and counts it in DONE. RESAMPLER_OUTPUT with eight later source outputs present delivers the next scheduled
output: index, code and count. (10_sensing.md R279; 10_sensing.md R280; 10_sensing.md R281; 10_sensing.md R282) -/
def Obligations.SnapshotsAndResamplers : Prop :=
  (∀ (s : State) (r : Requester) (bridge : BitVec 5),
      s.serves r.num = true → (bridge.toNat < 16 ∨ bridge.toNat = 31) → snapPaths s bridge.toNat ≠ [] → s.sense.snaps = [] → (∀ p ∈ snapPaths s bridge.toNat, servedAlready s p s.postmark = none) → 
    Does (.snapshotRequest r bridge) s (mask [.sense, .cycle] [.SN_SNAPSTAT_DROP, .SN_SNAPSTAT_PEND]) fun t =>
      t.sense.snaps = [⟨[(2, bridge.toNat, s.postmark)], snapPaths s bridge.toNat, []⟩]
      ∧ t.get R.SN_SNAPSTAT_PEND = 1
      ∧ t.get R.SN_SNAPSTAT_DROP = s.get R.SN_SNAPSTAT_DROP)
  ∧ (∀ (s : State) (r : Requester) (bridge : BitVec 5),
      s.serves r.num = true → (bridge.toNat < 16 ∨ bridge.toNat = 31) → snapPaths s bridge.toNat ≠ [] → 4 ≤ s.sense.snaps.length → (∀ x ∈ s.sense.snaps, snapMerges s (snapPaths s bridge.toNat) s.postmark x = false) → 
    Does (.snapshotRequest r bridge) s (mask [.cycle] [.SN_SNAPSTAT_DROP]) fun t =>
      t.get R.SN_SNAPSTAT_DROP = min 255 (s.get R.SN_SNAPSTAT_DROP + 1))
  ∧ (∀ (s : State) (r : Requester) (bridge : BitVec 5) (x : Snapshot),
      s.serves r.num = true → (bridge.toNat < 16 ∨ bridge.toNat = 31) → snapPaths s bridge.toNat ≠ [] → s.sense.snaps = [x] → snapMerges s (snapPaths s bridge.toNat) s.postmark x = true → 
    Does (.snapshotRequest r bridge) s (mask [.sense] []) fun t =>
      t.sense.snaps = [{ x with reqs := x.reqs ++ [(2, bridge.toNat, s.postmark)] }])
  ∧ (∀ (s : State) (r : Requester) (bridge : BitVec 5),
      s.serves r.num = true → (16 ≤ bridge.toNat ∧ bridge.toNat < 31 ∨ snapPaths s bridge.toNat = []) → 
    Does (.snapshotRequest r bridge) s (mask [] []) fun _ =>
      True)
  ∧ (∀ (s : State) (x : Snapshot), s.powered = true → s.sense.snaps.find? (fun x => x.todo.isEmpty) = some x → 
    Does .snapshotPost s reachSnapshotPost fun t =>
      t.sense.snaps = s.sense.snaps.filter (fun y => y != x)
      ∧ t.get R.SN_SNAPSTAT_PEND = min 4 t.sense.snaps.length
      ∧ t.get R.SN_SNAPSTAT_DONE = min 65535 (s.get R.SN_SNAPSTAT_DONE + 1)
      ∧ (s.get R.SO_STATUS_RUN ≠ 0 → s.freeDescs ≠ [] → ∃ e ∈ t.office.waiting, e.typ = 0x15 ∧ e.port = 3 ∧ e.body = snapBody x ∧ ∀ im,
          s.image = some im → e.ph = im.snapPh ∧ e.flow = im.snapFlow))
  ∧ (∀ (s : State), s.powered = true → s.sense.snaps.find? (fun x => x.todo.isEmpty) = none → 
    Does .snapshotPost s (mask [] []) fun _ =>
      True)
  ∧ (∀ (s : State) (ch : Fin 32) (u j a : Nat) (rest : List (Nat × Nat)), s.powered = true → (s.resampler ch).sched = (u,
      j) :: rest → sourceAt u (s.resampler ch).hist 0 = some a → 8 ≤ a → 
    Does (.resamplerOutput ch) s (mask [.sense, .cycle] [.SN_CHc_CODE_CODE, .SN_CHc_STAT_STAT, .DEC_RSr_IDX_RUN, .DEC_RSr_IDX_J,
        .DEC_RSr_CNT_OUT]) fun t =>
      (t.resampler ch).sched = rest
      ∧ (sget SenseOut.none t.sense.latest (128 + ch.val)).rep = u
      ∧ t.get (R.SN_CHc_CODE_CODE (128 + ch.val)) = (sget SenseOut.none t.sense.latest (128 + ch.val)).code
      ∧ t.get (R.DEC_RSr_IDX_RUN ch) = 1
      ∧ t.get (R.DEC_RSr_IDX_J ch) = j % 2 ^ 10
      ∧ t.get (R.DEC_RSr_CNT_OUT ch) = min 65535 (s.get (R.DEC_RSr_CNT_OUT ch) + 1))
  ∧ (∀ (s : State) (ch : Fin 32), s.powered = true → (s.resampler ch).sched = [] → 
    Does (.resamplerOutput ch) s (mask [] []) fun _ =>
      True)

/-- A bank request and a source change are HOST commands to the path. BANK_REQUEST and SOURCE_CHANGE enter the acceptance queue as commands of
class HOST with the present postmark, for the frame that the HOST delay gives, where that class is enabled and the frame is still to come;
nothing of the path changes yet. In REPLAY, and with the class disabled, nothing enters the queue. (10_sensing.md R270; 10_sensing.md R271;
10_sensing.md R289; 02_postmark.md R48; 02_postmark.md R49) -/
def Obligations.PathRequests : Prop :=
  (∀ (s : State) (r : Requester) (path : Fin 120) (bank : BitVec 2),
      s.serves r.num = true → follows s = false → s.mode ≠ 6 → dAccept s 2 ≠ 0 → s.postmark < frameStart s.fFrame (commandFrame s 2 s.postmark) → dAccept s 2 ≤ 60 * 2 ^ 32 → s.acceptance.length < 2048 → 
    Does (.bankRequest r path bank) s reachStart fun t =>
      t.acceptance = s.acceptance ++ [⟨2, hostSource r.num, 0, bankTarget path, bank.toNat, s.postmark, commandFrame s 2 s.postmark, []⟩]
      ∧ t.office = s.office
      ∧ t.sense = s.sense)
  ∧ (∀ (s : State) (r : Requester) (path : Fin 120) (bank : BitVec 2), s.serves r.num = true → (s.mode = 6 ∨ dAccept s 2 = 0) → 
    Does (.bankRequest r path bank) s reachStart fun t =>
      t.acceptance = s.acceptance)
  ∧ (∀ (s : State) (r : Requester) (path : Fin 120) (src : BitVec 8),
      s.serves r.num = true → follows s = false → s.mode ≠ 6 → dAccept s 2 ≠ 0 → s.postmark < frameStart s.fFrame (commandFrame s 2 s.postmark) → dAccept s 2 ≤ 60 * 2 ^ 32 → s.acceptance.length < 2048 → 
    Does (.sourceChange r path src) s reachStart fun t =>
      t.acceptance = s.acceptance ++ [⟨2, hostSource r.num, 0, sourceTarget path, src.toNat % 128, s.postmark, commandFrame s 2 s.postmark, []⟩]
      ∧ t.office = s.office
      ∧ t.sense = s.sense)
  ∧ (∀ (s : State) (r : Requester) (path : Fin 120) (src : BitVec 8), s.serves r.num = true → (s.mode = 6 ∨ dAccept s 2 = 0) → 
    Does (.sourceChange r path src) s reachStart fun t =>
      t.acceptance = s.acceptance)

/-- Arming, forcing, closing and stopping a capture window. WINDOW_ARM in IDLE or DONE with nothing of Table CP-1 against it arms the window
from segment 0 with no segment done and writes the segment header; a refusal leaves the window and puts only ARMERR; in any other state it
does nothing. WINDOW_FORCE puts the trigger of kind 15 at the write's instant among those an armed window places with its next row; in POST,
REARM and DONE it is missed, counted and logged; an idle window is left. SEGMENT_CLOSE, once the POST rows are there, writes the closing
header, counts the segment and goes to REARM or DONE. WINDOW_STOP makes the window IDLE and closes an open segment with STATE 4; triggers
that waited in the re-arm time are counted as missed. Capture memory changes only in the 128 bytes of the segment's header and, for a missed
trigger, in the log. (12_capture.md R320; 12_capture.md R322; 12_capture.md R323; 12_capture.md R327; 12_capture.md R330) -/
def Obligations.CaptureWindows : Prop :=
  (∀ (s : State) (r : Requester) (w : Fin 8), s.serves r.num = true → (s.winState w = 0 ∨ s.winState w = 4) → armRefusal s w = none → 
    Does (.windowArm r w) s (mask [.capture, .memory] [.CAP_STATUS_ARMED, .CAP_STATUS_DONE, .CAP_WINw_STAT_STATE, .CAP_WINw_STAT_ARMERR,
        .CAP_WINw_STAT_SEG, .CAP_WINw_STAT_NDONE]) fun t =>
      t.winState w = 1
      ∧ t.get (R.CAP_WINw_STAT_ARMERR w) = 0
      ∧ t.get (R.CAP_WINw_STAT_SEG w) = 0
      ∧ t.get (R.CAP_WINw_STAT_NDONE w) = 0
      ∧ (t.win w).row0 = true
      ∧ (t.win w).rows = 0
      ∧ memWord t.capture.mem (winBase s w) = 0x50414342
      ∧ (∀ a : Nat, a < winBase s w ∨ winBase s w + 128 ≤ a → memByte t.capture.mem a = memByte s.capture.mem a)
      ∧ (t.get R.CAP_STATUS_ARMED).testBit w = true
      ∧ t.capture.flight = s.capture.flight)
  ∧ (∀ (s : State) (r : Requester) (w : Fin 8) (c : Nat), s.serves r.num = true → (s.winState w = 0 ∨ s.winState w = 4) → armRefusal s w = some c → 
    Does (.windowArm r w) s (mask [] [.CAP_WINw_STAT_ARMERR]) fun t =>
      t.get (R.CAP_WINw_STAT_ARMERR w) = c
      ∧ Only [R.CAP_WINw_STAT_ARMERR w] s t)
  ∧ (∀ (s : State) (r : Requester) (w : Fin 8), s.serves r.num = true → s.winState w ≠ 0 → s.winState w ≠ 4 → 
    Does (.windowArm r w) s (mask [] []) fun _ =>
      True)
  ∧ (∀ (s : State) (r : Requester) (w : Fin 8), s.serves r.num = true → (s.winState w = 1 ∨ s.winState w = 2) → 
    Does (.windowForce r w) s (mask [.capture] []) fun t =>
      t.win w = { s.win w with waits := trigInsert ⟨15, 0, s.finePostmark⟩ (s.win w).waits }
      ∧ (∀ v : Fin 8, v ≠ w → t.win v = s.win v))
  ∧ (∀ (s : State) (r : Requester) (w : Fin 8), s.serves r.num = true → (s.winState w = 3 ∨ s.winState w = 4 ∨ s.winState w = 5) → 
    Does (.windowForce r w) s (mask [.capture, .cycle, .memory] [.CAP_WINw_MISS_COUNT, .CAP_WINw_MISS_NEXT]) fun t =>
      t.winState w = s.winState w
      ∧ t.get (R.CAP_WINw_MISS_COUNT w) = min 65535 (s.get (R.CAP_WINw_MISS_COUNT w) + 1)
      ∧ t.get (R.CAP_WINw_MISS_NEXT w) = (s.get (R.CAP_WINw_MISS_NEXT w) + 1) % 16
      ∧ t.win w = { s.win w with missed := (s.win w).missed + 1 }
      ∧ (∀ a : Nat, 256 ≤ winBytes s w → (a < winBase s w + winBytes s w - 256 ∨ winBase s w + winBytes s w ≤ a) → memByte t.capture.mem a = memByte s.capture.mem a)
      ∧ t.capture.flight = s.capture.flight
      ∧ (∀ v : Fin 8, v ≠ w → t.win v = s.win v))
  ∧ (∀ (s : State) (r : Requester) (w : Fin 8), s.serves r.num = true → s.winState w = 0 → 
    Does (.windowForce r w) s (mask [] []) fun _ =>
      True)
  ∧ (∀ (s : State) (w : Fin 8),
      s.powered = true → s.winState w = 3 → s.get (R.CAP_WINw_POST_N w) ≤ (s.win w).postDone → winSeg s w + 128 ≤ 33554432 → 
    Does (.segmentClose w) s (mask [.capture, .cycle, .memory] [.CAP_STATUS_ARMED, .CAP_STATUS_DONE, .CAP_WINw_STAT_STATE,
        .CAP_WINw_STAT_NDONE]) fun t =>
      memByte t.capture.mem (winSeg s w + 5) = 2
      ∧ (∀ a : Nat, a < winSeg s w ∨ winSeg s w + 128 ≤ a → memByte t.capture.mem a = memByte s.capture.mem a)
      ∧ t.get (R.CAP_WINw_STAT_NDONE w) = min 65535 (s.get (R.CAP_WINw_STAT_NDONE w) + 1)
      ∧ (s.get (R.CAP_WINw_CFG_AUTO w) = 1 ∧ (s.get (R.CAP_WINw_STAT_SEG w) + 1 < 2 ^ s.get (R.CAP_WINw_CFG_NSEGLOG w) ∨ s.get (R.CAP_WINw_CFG_WRAP w) = 1) → t.winState w = 5)
      ∧ (¬(s.get (R.CAP_WINw_CFG_AUTO w) = 1 ∧ (s.get (R.CAP_WINw_STAT_SEG w) + 1 < 2 ^ s.get (R.CAP_WINw_CFG_NSEGLOG w) ∨ s.get (R.CAP_WINw_CFG_WRAP w) = 1)) → t.winState w = 4))
  ∧ (∀ (s : State) (w : Fin 8), s.powered = true → (s.winState w ≠ 3 ∨ (s.win w).postDone < s.get (R.CAP_WINw_POST_N w)) → 
    Does (.segmentClose w) s (mask [] []) fun _ =>
      True)
  ∧ (∀ (s : State) (r : Requester) (w : Fin 8),
      s.serves r.num = true → (s.winState w = 1 ∨ s.winState w = 2 ∨ s.winState w = 3) → winSeg s w + 128 ≤ 33554432 → 
    Does (.windowStop r w) s (mask [.capture, .cycle, .memory] [.CAP_STATUS_ARMED, .CAP_STATUS_DONE, .CAP_WINw_STAT_STATE, .CAP_WINw_MISS_COUNT,
        .CAP_WINw_MISS_NEXT]) fun t =>
      t.winState w = 0
      ∧ t.win w = Win.idle
      ∧ memByte t.capture.mem (winSeg s w + 5) = 4
      ∧ (∀ a : Nat, a < winSeg s w ∨ winSeg s w + 128 ≤ a → (s.winState w = 1 → (s.win w).row0 = true → (s.win w).rearm = true → (s.win w).waits ≠ [] → a < winBase s w + winBytes s w - 256 ∨ winBase s w + winBytes s w ≤ a) → memByte t.capture.mem a = memByte s.capture.mem a)
      ∧ (∀ v : Fin 8, v ≠ w → t.win v = s.win v ∧ t.winState v = s.winState v))
  ∧ (∀ (s : State) (r : Requester) (w : Fin 8), s.serves r.num = true → s.winState w = 5 → 
    Does (.windowStop r w) s (mask [.capture, .cycle, .memory] [.CAP_WINw_STAT_STATE, .CAP_STATUS_ARMED, .CAP_STATUS_DONE, .CAP_WINw_MISS_COUNT,
        .CAP_WINw_MISS_NEXT]) fun t =>
      t.winState w = 0
      ∧ t.win w = Win.idle
      ∧ t.get (R.CAP_WINw_MISS_COUNT w) = min 65535 (s.get (R.CAP_WINw_MISS_COUNT w) + (s.win w).waits.length)
      ∧ (∀ a : Nat, 256 ≤ winBytes s w → (a < winBase s w + winBytes s w - 256 ∨ winBase s w + winBytes s w ≤ a) → memByte t.capture.mem a = memByte s.capture.mem a)
      ∧ t.capture.flight = s.capture.flight
      ∧ (∀ v : Fin 8, v ≠ w → t.win v = s.win v ∧ t.winState v = s.winState v))
  ∧ (∀ (s : State) (r : Requester) (w : Fin 8), s.serves r.num = true → (s.winState w = 0 ∨ s.winState w = 4 ∨ 5 < s.winState w) → 
    Does (.windowStop r w) s (mask [.capture] [.CAP_WINw_STAT_STATE, .CAP_STATUS_ARMED, .CAP_STATUS_DONE]) fun t =>
      t.winState w = 0
      ∧ t.win w = Win.idle
      ∧ (∀ v : Fin 8, v ≠ w → t.win v = s.win v ∧ t.winState v = s.winState v))

/-- HOLD freezes the flight record, and clearing it empties the record. FLIGHT_RECORD_HOLD on a record that runs sets HOLD with cause 0 and
stops recording; on a held one it does nothing. FLIGHT_RECORD_RELEASE on a held record clears HOLD and its cause and leaves an empty ring
with a fresh header and a CHECKPOINT due, recording where an image is active; on a record that is not held it does nothing. AUTOHOLD_STOP
once POSTFR frames have passed sets HOLD with that cause's bit; before it does nothing. (12_capture.md R337; 12_capture.md R331) -/
def Obligations.FlightRecordHolding : Prop :=
  (∀ (s : State) (r : Requester), s.serves r.num = true → s.get R.CAP_FRCFG_HOLD ≠ 1 → 
    Does (.flightRecordHold r) s (mask [.capture] [.CAP_FRCFG_HOLD, .CAP_FRSTAT_HCAUSE, .CAP_FRSTAT_REC]) fun t =>
      t.get R.CAP_FRCFG_HOLD = 1
      ∧ t.get R.CAP_FRSTAT_HCAUSE = 0
      ∧ t.get R.CAP_FRSTAT_REC = 0
      ∧ t.capture.items = s.capture.items
      ∧ t.capture.holdCount = none)
  ∧ (∀ (s : State) (r : Requester), s.serves r.num = true → s.get R.CAP_FRCFG_HOLD = 1 → 
    Does (.flightRecordHold r) s (mask [] []) fun _ =>
      True)
  ∧ (∀ (s : State) (r : Requester), s.serves r.num = true → s.get R.CAP_FRCFG_HOLD ≠ 0 → 
    Does (.flightRecordRelease r) s (mask [.capture, .memory] [.CAP_FRCFG_HOLD, .CAP_FRSTAT_REC, .CAP_FRSTAT_HCAUSE, .CAP_FROLDK_LO_K,
        .CAP_FROLDK_HI_K, .CAP_FRNEWK_LO_K, .CAP_FRNEWK_HI_K]) fun t =>
      t.get R.CAP_FRCFG_HOLD = 0
      ∧ t.get R.CAP_FRSTAT_HCAUSE = 0
      ∧ t.capture.items = []
      ∧ t.capture.next = 256
      ∧ t.capture.ckpDue = true
      ∧ frWord t 0 % 2 ^ 32 = 0x544C4642
      ∧ t.get R.CAP_FRSTAT_REC = (if s.image.isSome then 1 else 0)
      ∧ t.capture.mem = s.capture.mem)
  ∧ (∀ (s : State) (r : Requester), s.serves r.num = true → s.get R.CAP_FRCFG_HOLD = 0 → 
    Does (.flightRecordRelease r) s (mask [] []) fun _ =>
      True)
  ∧ (∀ (s : State) (bit : Nat), s.powered = true → s.capture.holdCount = some (0, bit) → bit < 5 → 
    Does .autoholdStop s (mask [.capture] [.CAP_FRCFG_HOLD, .CAP_FRSTAT_HCAUSE, .CAP_FRSTAT_REC]) fun t =>
      t.get R.CAP_FRCFG_HOLD = 1
      ∧ t.get R.CAP_FRSTAT_HCAUSE = 2 ^ bit
      ∧ t.get R.CAP_FRSTAT_REC = 0
      ∧ t.capture.items = s.capture.items
      ∧ t.capture.holdCount = none)
  ∧ (∀ (s : State), s.powered = true → (∀ bit, s.capture.holdCount ≠ some (0, bit)) → 
    Does .autoholdStop s (mask [] []) fun _ =>
      True)

/-- A cancel removes what still waits and nothing else. CANCEL_ENVELOPE with the ID of a waiting envelope removes it from the waiting list, and
its descriptor is free unless another envelope holds it; SO_CANRES reads 1. With any other ID, so of an envelope in service, of a completed
one or of a generation that has passed, nothing waiting, in service or in a tray changes and SO_CANRES reads 2. CANCEL_TRAY_ENTRY does the
same to a tray entry by its ID; an entry that is released in the same cycle, or is to be made ready in a later one, is still found under it.
A cancel is served in the present D1 cycle, or in the next where this one has passed its place in Table SO-5; beside that tick only that
requester's SO_CANRES and the ledger's registers change. (R302) -/
def Obligations.OfficeCancel : Prop :=
  (∀ (s : State) (r : Requester) (id : BitVec 16) (e : Env),
      s.serves r.num = true → s.office.waiting.find? (fun x => x.id == id.toNat && x.readyAt ≤ (officeTurn s (50 + r.num)).time.count) = some e → 
    Does (.cancelEnvelope r id) s reachCancelEnvelope fun t =>
      t.get (R.SO_CANRES_RES r.num) = 1
      ∧ t.office.waiting = s.office.waiting.filter (fun x => x.id != id.toNat)
      ∧ t.office.service = s.office.service
      ∧ t.office.trays = s.office.trays
      ∧ (e.idx < 512 → (∀ x ∈ s.office.waiting, x.idx = e.idx → x.id = id.toNat) → (∀ x ∈ s.inService, x.idx ≠ e.idx) → e.idx ∈ t.freeDescs)
      ∧ Only [R.SO_CANRES_RES r.num, R.SO_LEDPTR_NEXT, R.SO_LEDSTAT_FULL, R.SO_LEDSTAT_LOST, R.SO_LEDSTAT_WRAPPED] (officeTurn s (50 + r.num)) t)
  ∧ (∀ (s : State) (r : Requester) (id : BitVec 16), s.serves r.num = true → (∀ x ∈ s.office.waiting,
      x.id = id.toNat → (officeTurn s (50 + r.num)).time.count < x.readyAt) → 
    Does (.cancelEnvelope r id) s reachCancelEnvelope fun t =>
      t.get (R.SO_CANRES_RES r.num) = 2
      ∧ t.office.waiting = s.office.waiting
      ∧ t.office.service = s.office.service
      ∧ t.office.trays = s.office.trays
      ∧ Only [R.SO_CANRES_RES r.num, R.SO_LEDPTR_NEXT, R.SO_LEDSTAT_FULL, R.SO_LEDSTAT_LOST, R.SO_LEDSTAT_WRAPPED] (officeTurn s (50 + r.num)) t)
  ∧ (∀ (s : State) (r : Requester) (id : BitVec 16) (e : TrayEntry),
      s.serves r.num = true → s.office.trays.find? (fun x => x.id == id.toNat) = some e → 
    Does (.cancelTrayEntry r id) s reachCancelEnvelope fun t =>
      t.get (R.SO_CANRES_RES r.num) = 1
      ∧ t.office.trays = s.office.trays.filter (fun x => x.id != id.toNat)
      ∧ t.office.waiting = s.office.waiting
      ∧ t.office.service = s.office.service
      ∧ Only [R.SO_CANRES_RES r.num, R.SO_LEDPTR_NEXT, R.SO_LEDSTAT_FULL, R.SO_LEDSTAT_LOST, R.SO_LEDSTAT_WRAPPED] (officeTurn s (50 + r.num)) t)
  ∧ (∀ (s : State) (r : Requester) (id : BitVec 16) (e : Env), s.serves r.num = true → (∀ x ∈ s.office.trays,
      x.id ≠ id.toNat) → s.office.waiting.find? (fun x => x.trayId == some id.toNat && (officeTurn s (50 + r.num)).time.count ≤ x.readyAt) = some e → 
    Does (.cancelTrayEntry r id) s reachCancelEnvelope fun t =>
      t.get (R.SO_CANRES_RES r.num) = 1
      ∧ t.office.waiting = s.office.waiting.filter (fun x => x.id != e.id)
      ∧ t.office.trays = s.office.trays
      ∧ t.office.service = s.office.service)
  ∧ (∀ (s : State) (r : Requester) (id : BitVec 16), s.serves r.num = true → (∀ x ∈ s.office.trays, x.id ≠ id.toNat) → (∀ x ∈ s.office.waiting,
      x.trayId = some id.toNat → x.readyAt < (officeTurn s (50 + r.num)).time.count) → 
    Does (.cancelTrayEntry r id) s reachCancelEnvelope fun t =>
      t.get (R.SO_CANRES_RES r.num) = 2
      ∧ t.office.waiting = s.office.waiting
      ∧ t.office.trays = s.office.trays
      ∧ t.office.service = s.office.service
      ∧ Only [R.SO_CANRES_RES r.num, R.SO_LEDPTR_NEXT, R.SO_LEDSTAT_FULL, R.SO_LEDSTAT_LOST, R.SO_LEDSTAT_WRAPPED] (officeTurn s (50 + r.num)) t)

/-- A post takes a free descriptor, a tray insertion a free slot, and a refusal nothing. POST_ENVELOPE with the office running and the envelope
in SO_PBUF inside every limit of Table SO-3 makes it ready in the cycle that serves it, behind all that is ready before it, on a descriptor
that was free, and SO_RESULT reads code 0 and its ENV_ID; a refused one reads the refusal's code and 0xFFFF and nothing is made ready.
TRAY_INSERT likewise puts the envelope with the release postmark of SO_TRAY into a free slot of the tray and reads its entry ID, or the
refusal. A port is served once in a D1 cycle: in the next one where this one has passed its place in Table SO-5. (11_sorting_office.md R290;
11_sorting_office.md R297; 11_sorting_office.md R298; 11_sorting_office.md R304) -/
def Obligations.OfficePosts : Prop :=
  (∀ (s : State) (r : Requester),
      s.serves r.num = true → s.mode ≠ 0 → s.get R.SO_STATUS_RUN ≠ 0 → s.swUse < 448 → s.freeDescs ≠ [] → (pbufEnv s r.num).ph ≤ 31 → s.phSoft (pbufEnv s r.num).ph < s.get (R.SO_PHp_LIMIT (pbufEnv s r.num).ph) → ((pbufEnv s r.num).flow ≤ 1023 ∨ (pbufEnv s r.num).flow = 0xFFFF) → pbufLen s r.num ≤ 4064 → 1 ≤ (pbufEnv s r.num).typ → (pbufEnv s r.num).typ ≤ 15 → 
    Does (.postEnvelope r) s reachTrayInsert fun t =>
      (∃ e ∈ t.office.waiting, t.office.waiting.map (·.idx) = (insertEnv e s.office.waiting).map (·.idx) ∧ ((∀ x ∈ s.office.waiting,
          e.before x = false) → t.office.waiting = s.office.waiting ++ [e]) ∧ e.readyAt = (officeTurn s (30 + (pbufEnv s r.num).port)).time.count ∧ e.idx ∈ s.freeDescs ∧ e.software = true ∧ e.typ = (pbufEnv s r.num).typ ∧ e.ph = (pbufEnv s r.num).ph ∧ e.flow = (pbufEnv s r.num).flow ∧ e.postmark = (pbufEnv s r.num).postmark ∧ e.tag = (pbufEnv s r.num).tag ∧ e.body = (pbufEnv s r.num).body ∧ e.ready = (officeTurn s (30 + (pbufEnv s r.num).port)).postmark ∧ t.get (R.SO_RESULT_CODE r.num) = 0 ∧ t.get (R.SO_RESULT_ID r.num) = e.id ∧ e.gen = (sget 0 s.office.gens e.idx + 1) % 128)
      ∧ t.office.service = s.office.service
      ∧ t.office.trays = s.office.trays
      ∧ Only [R.SO_RESULT_CODE r.num, R.SO_RESULT_ID r.num, R.SO_LEDPTR_NEXT, R.SO_LEDSTAT_FULL, R.SO_LEDSTAT_LOST,
          R.SO_LEDSTAT_WRAPPED] (officeTurn s (30 + (pbufEnv s r.num).port)) t)
  ∧ (∀ (s : State) (r : Requester) (c : Nat), s.serves r.num = true → postRefusal s (pbufEnv s r.num) (pbufLen s r.num) = some c → 
    Does (.postEnvelope r) s reachTrayInsert fun t =>
      t.get (R.SO_RESULT_CODE r.num) = c
      ∧ t.get (R.SO_RESULT_ID r.num) = 0xFFFF
      ∧ t.office.waiting = s.office.waiting
      ∧ t.office.service = s.office.service
      ∧ t.office.trays = s.office.trays
      ∧ Only [R.SO_RESULT_CODE r.num, R.SO_RESULT_ID r.num, R.SO_LEDPTR_NEXT, R.SO_LEDSTAT_FULL, R.SO_LEDSTAT_LOST,
          R.SO_LEDSTAT_WRAPPED] (officeTurn s (30 + (pbufEnv s r.num).port)) t)
  ∧ (∀ (s : State) (r : Requester) (tray : Fin 4),
      s.serves r.num = true → s.mode ≠ 0 → s.get R.SO_STATUS_RUN ≠ 0 → (pbufEnv s r.num).ph ≤ 31 → ((pbufEnv s r.num).flow ≤ 1023 ∨ (pbufEnv s r.num).flow = 0xFFFF) → pbufLen s r.num ≤ 256 → 1 ≤ (pbufEnv s r.num).typ → (pbufEnv s r.num).typ ≤ 15 → s.swUse < 448 → s.phSoft (pbufEnv s r.num).ph < s.get (R.SO_PHp_LIMIT (pbufEnv s r.num).ph) → (s.office.trays.filter (fun x => x.tray == tray.val)).length < 1024 → (officeTurn s (30 + (pbufEnv s r.num).port)).postmark < (s.get (R.SO_TRAY_LO_FRAC r.num) + s.get (R.SO_TRAY_HI_SEC r.num) * 2 ^ 32) → (s.get (R.SO_TRAY_LO_FRAC r.num) + s.get (R.SO_TRAY_HI_SEC r.num) * 2 ^ 32) ≤ (officeTurn s (30 + (pbufEnv s r.num).port)).postmark + 86400 * 2 ^ 32 → 
    Does (.trayInsert r tray) s reachTrayInsert fun t =>
      (∃ e ∈ t.office.trays, t.office.trays = s.office.trays ++ [e] ∧ e.tray = tray ∧ e.slot < 1024 ∧ (∀ x ∈ s.office.trays,
          x.tray = tray → x.slot ≠ e.slot) ∧ e.t = (s.get (R.SO_TRAY_LO_FRAC r.num) + s.get (R.SO_TRAY_HI_SEC r.num) * 2 ^ 32) ∧ e.env = { (pbufEnv s r.num) with postmark := e.t } ∧ e.deferred = false ∧ t.get (R.SO_RESULT_CODE r.num) = 0 ∧ t.get (R.SO_RESULT_ID r.num) = e.id)
      ∧ t.office.waiting = s.office.waiting
      ∧ t.office.service = s.office.service
      ∧ Only [R.SO_RESULT_CODE r.num, R.SO_RESULT_ID r.num, R.SO_LEDPTR_NEXT, R.SO_LEDSTAT_FULL, R.SO_LEDSTAT_LOST,
          R.SO_LEDSTAT_WRAPPED] (officeTurn s (30 + (pbufEnv s r.num).port)) t)
  ∧ (∀ (s : State) (r : Requester) (tray : Fin 4) (c : Nat),
      s.serves r.num = true → trayRefusal (officeTurn s (30 + (pbufEnv s r.num).port)) (pbufEnv s r.num) (pbufLen s r.num) tray (s.get (R.SO_TRAY_LO_FRAC r.num) + s.get (R.SO_TRAY_HI_SEC r.num) * 2 ^ 32) = some c → 
    Does (.trayInsert r tray) s reachTrayInsert fun t =>
      t.get (R.SO_RESULT_CODE r.num) = c
      ∧ t.get (R.SO_RESULT_ID r.num) = 0xFFFF
      ∧ t.office.waiting = s.office.waiting
      ∧ t.office.service = s.office.service
      ∧ t.office.trays = s.office.trays
      ∧ Only [R.SO_RESULT_CODE r.num, R.SO_RESULT_ID r.num, R.SO_LEDPTR_NEXT, R.SO_LEDSTAT_FULL, R.SO_LEDSTAT_LOST,
          R.SO_LEDSTAT_WRAPPED] (officeTurn s (30 + (pbufEnv s r.num).port)) t)

/-- Dispatch gives a free core the first eligible envelope. DISPATCH with the office running and an eligible envelope whose pigeonhole has a
free core takes such an envelope, before which no other such envelope goes by priority, pigeonhole number and postmark, out of the waiting
list into service on a free core of its pigeonhole; the other cores keep theirs. With none it only takes the cycle's turn, so that at most
one dispatch falls in a D1 cycle; with the office stopped it does nothing. (11_sorting_office.md R295; 11_sorting_office.md R296;
11_sorting_office.md R300) -/
def Obligations.OfficeDispatch : Prop :=
  (∀ (s : State), s.powered = true → s.get R.SO_STATUS_RUN ≠ 0 → (s.office.waiting.any fun e => (e.readyAt ≤ (officeTurn s 70).time.count && eligible s e && !(freeCores s e.ph).isEmpty)) = true → 
    Does .dispatch s reachDispatch fun t =>
      (∃ e ∈ s.office.waiting, ∃ c ∈ freeCores s e.ph, e.readyAt ≤ (officeTurn s 70).time.count ∧ eligible s e = true ∧ (∀ x ∈ s.office.waiting,
          x.readyAt ≤ (officeTurn s 70).time.count → eligible s x = true → freeCores s x.ph ≠ [] → envBefore s x e = false) ∧ t.office.waiting = s.office.waiting.filter (fun x => x.idx != e.idx) ∧ sget none t.office.service c = some e ∧ ∀ d : Fin 8, d.val ≠ c → sget none t.office.service d = sget none s.office.service d)
      ∧ t.office.trays = s.office.trays
      ∧ Only [R.SO_LEDPTR_NEXT, R.SO_LEDSTAT_FULL, R.SO_LEDSTAT_LOST, R.SO_LEDSTAT_WRAPPED] (officeTurn s 70) t)
  ∧ (∀ (s : State), s.powered = true → s.get R.SO_STATUS_RUN = 0 → 
    Does .dispatch s (mask [] []) fun _ =>
      True)
  ∧ (∀ (s : State), s.powered = true → s.get R.SO_STATUS_RUN ≠ 0 → (s.office.waiting.any fun e => (e.readyAt ≤ (officeTurn s 70).time.count && eligible s e && !(freeCores s e.ph).isEmpty)) = false → 
    Does .dispatch s (mask [.time, .root, .office, .fabric, .cycle, .outbox] [.POST_STATUS_CHANGED, .POST_STATUS_STATE, .POST_TIG_TIMEBASE,
        .POST_TIG_HELD, .LK_HIRQ_CAUSE]) fun t =>
      t = officeTurn s 70)

/-- A completion frees the core and its flow; lost ledger records are counted. COMPLETE_ENVELOPE by a core with an envelope in service frees the
core, and the flow keeps that core as its last one; by an idle core it is an address error of kind 6 and by a host port one of kind 5, and
nothing of the office changes. LEDGER_LOSS after an overflow adds the lost records to LOST and, with the ledger enabled, writes one LOSS
record with their number; with none lost it does nothing. (11_sorting_office.md R301; 11_sorting_office.md R311; 11_sorting_office.md R314;
01_node.md R524) -/
def Obligations.OfficeCompletion : Prop :=
  (∀ (s : State) (n : Fin 8) (e : Env), s.serves (Requester.core n).num = true → sget none s.office.service n = some e → 
    Does (.completeEnvelope (.core n)) s reachCompleteEnvelope fun t =>
      sget none t.office.service n = none
      ∧ (∀ d : Fin 8, d ≠ n → sget none t.office.service d = sget none s.office.service d)
      ∧ (e.flow ≠ 0xFFFF → sget none t.office.lastCore e.flow = some n.val)
      ∧ t.office.waiting = s.office.waiting
      ∧ t.office.trays = s.office.trays
      ∧ Only [R.SO_LEDPTR_NEXT, R.SO_LEDSTAT_FULL, R.SO_LEDSTAT_LOST, R.SO_LEDSTAT_WRAPPED] (officeTurn s (10 + n.val)) t)
  ∧ (∀ (s : State) (n : Fin 8), s.serves (Requester.core n).num = true → sget none s.office.service n = none → 
    Does (.completeEnvelope (.core n)) s (mask [.links, .cycle] [.NODE_ADDRERR_COUNT, .NODE_ADDRERR_REQ, .NODE_ADDRERR_KIND,
        .NODE_ADDRERR_ADDR_ADDR]) fun t =>
      t.get R.NODE_ADDRERR_KIND = 6
      ∧ t.get R.NODE_ADDRERR_REQ = n.val + 2
      ∧ t.get R.NODE_ADDRERR_ADDR_ADDR = 0x200064)
  ∧ (∀ (s : State) (r : Requester), s.serves r.num = true → (r = .pcie ∨ r = .qspi) → 
    Does (.completeEnvelope r) s (mask [.links, .cycle] [.NODE_ADDRERR_COUNT, .NODE_ADDRERR_REQ, .NODE_ADDRERR_KIND,
        .NODE_ADDRERR_ADDR_ADDR]) fun t =>
      t.get R.NODE_ADDRERR_KIND = 5
      ∧ t.get R.NODE_ADDRERR_REQ = r.num
      ∧ t.get R.NODE_ADDRERR_ADDR_ADDR = 0x200064)
  ∧ (∀ (s : State), s.powered = true → s.office.bufLost ≠ 0 → (∀ x ∈ s.office.ahead, s.time.count < x.tick) → 
    Does .ledgerLoss s (mask [.office, .cycle] [.SO_LEDSTAT_FULL, .SO_LEDSTAT_WRAPPED, .SO_LEDSTAT_LOST, .SO_LEDPTR_NEXT]) fun t =>
      t.office.bufLost = 0
      ∧ t.get R.SO_LEDSTAT_LOST = min 65535 (s.get R.SO_LEDSTAT_LOST + s.office.bufLost)
      ∧ (s.get R.SO_LEDCFG_EN ≠ 0 → s.get R.SO_LEDSTAT_FULL ≠ 1 → s.office.ledCount < 65536 → sget 0 t.office.ledger (s.get R.SO_LEDPTR_NEXT) = ledRecord 11 (s.postmark / 256) (min 65535 s.office.bufLost) 0 0 0 ∧ t.get R.SO_LEDPTR_NEXT = (s.get R.SO_LEDPTR_NEXT + 1) % 65536)
      ∧ (s.get R.SO_LEDCFG_EN = 0 → t.office.ledger = s.office.ledger))
  ∧ (∀ (s : State), s.powered = true → s.office.bufLost = 0 → 
    Does .ledgerLoss s (mask [] []) fun _ =>
      True)

/-- Site ports come up and go down with their interrupt. SITE_PORT_UP on an enabled port that is down, with the root locked, sets UP, takes the
configured RATE and starts the PTP clock as listening, or as off with PTPROLE = 0. SITE_PORT_DOWN on a port that is up clears UP. Each sets
cause 11 of LK_HIRQ and sends its vector once where it is enabled. On any other port they do nothing. (16_links.md R433; 16_links.md R442;
16_links.md R448; 16_links.md R449) -/
def Obligations.SitePorts : Prop :=
  (∀ (s : State) (port : Fin 2), s.linked = true → s.get (R.LK_SPn_CFG_EN port) ≠ 0 → locked s = true → s.get (R.LK_SPn_STAT_UP port) ≠ 1 → 
    Does (.sitePortUp port) s (mask [.cycle, .outbox] [.LK_HIRQ_CAUSE, .LK_SPn_STAT_UP, .LK_SPn_STAT_RATE, .LK_SPn_STAT_PSTATE]) fun t =>
      t.get (R.LK_SPn_STAT_UP port) = 1
      ∧ t.get (R.LK_SPn_STAT_RATE port) = s.get (R.LK_SPn_CFG_RATE port) % 4
      ∧ t.get (R.LK_SPn_STAT_PSTATE port) = (if s.get (R.LK_SPn_CFG_PTPROLE port) = 0 then 0 else 4)
      ∧ (t.get R.LK_HIRQ_CAUSE).testBit 11 = true
      ∧ t.outbox = s.outbox ++ (if (s.get R.LK_HIRQ_EN_EN).testBit 11 && !(s.get R.LK_HIRQ_CAUSE).testBit 11 then [.msix 11] else [])
      ∧ Only [R.LK_SPn_STAT_UP port, R.LK_SPn_STAT_RATE port, R.LK_SPn_STAT_PSTATE port, R.LK_HIRQ_CAUSE] s t)
  ∧ (∀ (s : State) (port : Fin 2), s.linked = true → (s.get (R.LK_SPn_CFG_EN port) = 0 ∨ locked s = false ∨ s.get (R.LK_SPn_STAT_UP port) = 1) → 
    Does (.sitePortUp port) s (mask [] []) fun _ =>
      True)
  ∧ (∀ (s : State) (port : Fin 2), s.linked = true → s.get (R.LK_SPn_STAT_UP port) ≠ 0 → 
    Does (.sitePortDown port) s (mask [.cycle, .fresh, .outbox] [.LK_HIRQ_CAUSE, .LK_SPn_STAT_UP, .LK_SPn_STAT_PSTATE]) fun t =>
      t.get (R.LK_SPn_STAT_UP port) = 0
      ∧ (t.get R.LK_HIRQ_CAUSE).testBit 11 = true
      ∧ t.outbox = s.outbox ++ (if (s.get R.LK_HIRQ_EN_EN).testBit 11 && !(s.get R.LK_HIRQ_CAUSE).testBit 11 then [.msix 11] else [])
      ∧ (s.get (R.LK_SPn_CFG_PTPROLE port) = 0 → t.get (R.LK_SPn_STAT_PSTATE port) = 0)
      ∧ Only [R.LK_SPn_STAT_UP port, R.LK_SPn_STAT_PSTATE port, R.LK_HIRQ_CAUSE] s t)
  ∧ (∀ (s : State) (port : Fin 2), s.linked = true → s.get (R.LK_SPn_STAT_UP port) = 0 → 
    Does (.sitePortDown port) s (mask [] []) fun _ =>
      True)

/-- PTP messages, the PCI Express link and its function-level reset. PTP_MESSAGE on a port that is up with PTP on and in its domain: an Announce
keeps the sender's data set and moves the port to the state that the best master clock algorithm gives; a Sync of a port in SLAVE makes its
source usable; a Delay_Req to a MASTER of E2E and a Pdelay_Req of P2P are each answered with one message. Any other message is ignored.
FUNCTION_LEVEL_RESET empties the PCI Express shadows alone. PCIE_LINK_CHANGE shows the trained rate and width, or zeros when the link goes
down. (16_links.md R435; 16_links.md R436; 16_links.md R441) -/
def Obligations.PtpAndPcie : Prop :=
  (∀ (s : State) (m : PtpMessage),
      s.linked = true → s.get (R.LK_SPn_STAT_UP m.port) ≠ 0 → s.get (R.LK_SPn_CFG_PTPROLE m.port) ≠ 0 → m.supported = true → m.domain = s.get R.LK_PTP_CFG_DOMAIN → m.mtype = 0xB → 
    Does (.ptpMessage m) s reachPtpMessage fun t =>
      t.get (R.LK_SPn_STAT_PSTATE m.port) = Config.bestMaster m.port (s.get (R.LK_SPn_CFG_PTPROLE m.port)) (s.get R.LK_PTP_CFG_SLAVEONLY == 1) (ptpOwn s) m.dataset % 16
      ∧ sget 0 t.links.ptp m.port = m.dataset
      ∧ Only [R.LK_SPn_STAT_PSTATE m.port] s t)
  ∧ (∀ (s : State) (m : PtpMessage),
      s.linked = true → s.get (R.LK_SPn_STAT_UP m.port) ≠ 0 → s.get (R.LK_SPn_CFG_PTPROLE m.port) ≠ 0 → m.supported = true → m.domain = s.get R.LK_PTP_CFG_DOMAIN → m.mtype = 0 → s.get (R.LK_SPn_STAT_PSTATE m.port) = 9 → 
    Does (.ptpMessage m) s reachPtpMessage fun t =>
      t.time.usable.contains (m.port.val + 1) = true
      ∧ (steering t = m.port.val + 1 → t.time.stopped = false → t.get R.POST_STATUS_SRC_ACT = m.port.val + 1))
  ∧ (∀ (s : State) (m : PtpMessage),
      s.linked = true → s.get (R.LK_SPn_STAT_UP m.port) ≠ 0 → s.get (R.LK_SPn_CFG_PTPROLE m.port) ≠ 0 → m.supported = true → m.domain = s.get R.LK_PTP_CFG_DOMAIN → m.mtype = 1 → s.get (R.LK_SPn_STAT_PSTATE m.port) = 6 → s.get (R.LK_SPn_CFG_DELAYM m.port) = 0 → 
    Does (.ptpMessage m) s (mask [.outbox] []) fun t =>
      t.outbox = s.outbox ++ [.ptp m.port 9])
  ∧ (∀ (s : State) (m : PtpMessage),
      s.linked = true → s.get (R.LK_SPn_STAT_UP m.port) ≠ 0 → s.get (R.LK_SPn_CFG_PTPROLE m.port) ≠ 0 → m.supported = true → m.domain = s.get R.LK_PTP_CFG_DOMAIN → m.mtype = 2 → s.get (R.LK_SPn_CFG_DELAYM m.port) = 1 → 
    Does (.ptpMessage m) s (mask [.outbox] []) fun t =>
      t.outbox = s.outbox ++ [.ptp m.port 3])
  ∧ (∀ (s : State) (m : PtpMessage),
      s.linked = true → (s.get (R.LK_SPn_STAT_UP m.port) = 0 ∨ s.get (R.LK_SPn_CFG_PTPROLE m.port) = 0 ∨ m.supported = false ∨ m.domain ≠ s.get R.LK_PTP_CFG_DOMAIN) → 
    Does (.ptpMessage m) s (mask [] []) fun _ =>
      True)
  ∧ (∀ (s : State), s.powered = true → 
    Does .functionLevelReset s (mask [.shadows] []) fun t =>
      t.shadow 0 = Shadow.none
      ∧ (∀ q : Requester, q ≠ .pcie → t.shadow q.num = s.shadow q.num))
  ∧ (∀ (s : State) (rate width : BitVec 2), s.powered = true → 
    Does (.pcieLinkChange false rate width) s (mask [] [.LK_STATUS_PCIE_UP, .LK_STATUS_GEN, .LK_STATUS_WIDTH]) fun t =>
      t.get R.LK_STATUS_PCIE_UP = 0
      ∧ t.get R.LK_STATUS_GEN = 0
      ∧ t.get R.LK_STATUS_WIDTH = 0)
  ∧ (∀ (s : State) (rate width : BitVec 2), s.powered = true → locked s = true → rate ≠ 0 → width ≠ 0 → width ≠ 3 → 
    Does (.pcieLinkChange true rate width) s (mask [] [.LK_STATUS_PCIE_UP, .LK_STATUS_GEN, .LK_STATUS_WIDTH]) fun t =>
      t.get R.LK_STATUS_PCIE_UP = 1
      ∧ t.get R.LK_STATUS_GEN = rate.toNat
      ∧ t.get R.LK_STATUS_WIDTH = width.toNat)

/-- The CAN controllers receive by filter, send by request, and leave bus-off. CAN_FRAME_RECEIVED on a controller that is on acts by its lowest
matching filter: with ACT = 1, the office running and a descriptor free, it posts a CAN_RX envelope with the frame to the filter's
pigeonhole; with no match it is ignored. CAN_TX_REQUEST adds the requested buffers. CAN_TX_DONE of a requested buffer sends its words,
clears the request and sets DONE. CAN_BUS_OFF sets BUSOFF with cause 12; CAN_BUS_OFF_RECOVERY with AUTOREC clears it and the error counts.
(16_links.md R444; 16_links.md R445; 16_links.md R446) -/
def Obligations.CanControllers : Prop :=
  (∀ (s : State) (m : CanFrame) (f : Nat),
      s.linked = true → canOn s m.ctl = true → locked s = true → (¬(m.fdf = true ∧ s.get (R.LK_CANc_CFG_FD m.ctl) = 0)) → (List.range 64).find? (canTakes s m.ctl m) = some f → s.get (R.LK_CANc_FLTf_RT_ACT m.ctl f) = 1 → s.get R.SO_STATUS_RUN ≠ 0 → s.freeDescs ≠ [] → 
    Does (.canFrameReceived m) s reachCanFrameReceived fun t =>
      (∃ e ∈ t.office.waiting,
          e.typ = 0x1C ∧ e.port = 4 ∧ e.postmark = s.postmark ∧ e.body = canBody m s.postmark ∧ e.ph = s.get (R.LK_CANc_FLTf_RT_PH m.ctl f) ∧ e.flow = (if s.get (R.LK_CANc_FLTf_RT_NOFLOW m.ctl f) = 1 then 0xFFFF else s.get (R.LK_CANc_FLTf_RT_FLOW m.ctl f)) ∧ t.office.waiting.map (·.idx) = (insertEnv e s.office.waiting).map (·.idx) ∧ ((∀ x ∈ s.office.waiting, e.before x = false) → t.office.waiting = s.office.waiting ++ [e]))
      ∧ t.safety = s.safety)
  ∧ (∀ (s : State) (m : CanFrame), s.linked = true → (canOn s m.ctl = false ∨ locked s = false ∨ (List.range 64).find? (canTakes s m.ctl m) = none) → 
    Does (.canFrameReceived m) s (mask [] []) fun _ =>
      True)
  ∧ (∀ (s : State) (r : Requester) (ctl : Fin 4) (bits : BitVec 16), s.serves r.num = true → 
    Does (.canTxRequest r ctl bits) s (mask [.links] []) fun t =>
      canPending t ctl = canPending s ctl ||| bits.toNat
      ∧ (∀ d : Fin 4, d ≠ ctl → canPending t d = canPending s d))
  ∧ (∀ (s : State) (ctl : Fin 4) (buf : Fin 16),
      s.linked = true → (canPending s ctl).testBit buf = true → canOn s ctl = true → s.get (R.LK_CANc_CFG_LISTEN ctl) = 0 → locked s = true → 
    Does (.canTxDone ctl buf) s (mask [.links, .cycle, .outbox] [.LK_CANc_TXDONE_DONE]) fun t =>
      (canPending t ctl).testBit buf = false
      ∧ (t.get (R.LK_CANc_TXDONE_DONE ctl)).testBit buf = true
      ∧ t.outbox = s.outbox ++ [.can ctl (canWord s ctl buf 0) (canData s ctl buf)]
      ∧ Only [R.LK_CANc_TXDONE_DONE ctl] s t
      ∧ (∀ d : Fin 4, d ≠ ctl → canPending t d = canPending s d))
  ∧ (∀ (s : State) (ctl : Fin 4) (buf : Fin 16),
      s.linked = true → ((canPending s ctl).testBit buf = false ∨ canOn s ctl = false ∨ s.get (R.LK_CANc_CFG_LISTEN ctl) ≠ 0 ∨ locked s = false) → 
    Does (.canTxDone ctl buf) s (mask [] []) fun _ =>
      True)
  ∧ (∀ (s : State) (ctl : Fin 4), s.linked = true → canOn s ctl = true → 
    Does (.canBusOff ctl) s (mask [.cycle, .fresh, .outbox] [.LK_HIRQ_CAUSE, .LK_CANc_STAT_BUSOFF, .LK_CANc_STAT_TEC]) fun t =>
      t.get (R.LK_CANc_STAT_BUSOFF ctl) = 1
      ∧ canOn t ctl = false
      ∧ (t.get R.LK_HIRQ_CAUSE).testBit 12 = true
      ∧ t.outbox = s.outbox ++ (if (s.get R.LK_HIRQ_EN_EN).testBit 12 && !(s.get R.LK_HIRQ_CAUSE).testBit 12 then [.msix 12] else [])
      ∧ Only [R.LK_CANc_STAT_BUSOFF ctl, R.LK_CANc_STAT_TEC ctl, R.LK_HIRQ_CAUSE] s t)
  ∧ (∀ (s : State) (ctl : Fin 4),
      s.linked = true → s.get (R.LK_CANc_CFG_EN ctl) = 1 → s.get (R.LK_CANc_STAT_BUSOFF ctl) = 1 → s.get (R.LK_CANc_CFG_AUTOREC ctl) = 1 → 
    Does (.canBusOffRecovery ctl) s (mask [] [.LK_CANc_STAT_BUSOFF, .LK_CANc_STAT_PASSIVE, .LK_CANc_STAT_TEC, .LK_CANc_STAT_REC]) fun t =>
      canOn t ctl = true
      ∧ t.get (R.LK_CANc_STAT_TEC ctl) = 0
      ∧ t.get (R.LK_CANc_STAT_REC ctl) = 0
      ∧ t.get (R.LK_CANc_STAT_PASSIVE ctl) = 0)
  ∧ (∀ (s : State) (ctl : Fin 4), s.linked = true → s.get (R.LK_CANc_CFG_AUTOREC ctl) ≠ 1 → 
    Does (.canBusOffRecovery ctl) s (mask [] []) fun _ =>
      True)

/-- The clock root loses lock and locks again. While locked, REFERENCE_EDGE_GAP, TUNING_RANGE_END and a lock window out of tolerance lose lock
with their LOSS code: the domains go to the shadow oscillator, a timebase that is neither FREE nor LOST to HOLDOVER-POOR, and a mode in
which legs switch to RECOVERY. Unlocked, a window of 393,216 root cycles within 19 declares lock: LOCK, SHADOW = 0, RELOCKS one higher where
it is a relock. REFERENCE_SELECT puts AUTO always, and SEL and the enables only in BOOT and STANDBY, where another active reference is a
loss with code 4. (17_clocks_resets.md R450; 17_clocks_resets.md R451; 17_clocks_resets.md R452; 17_clocks_resets.md R454;
17_clocks_resets.md R455; 17_clocks_resets.md Table CK-2; 02_postmark.md R38; 03_modes.md R69) -/
def Obligations.ClockRoot : Prop :=
  (∀ (s : State), s.powered = true → locked s = true → 
    Does .referenceEdgeGap s reachReferenceEdgeGap fun t =>
      t.get R.CK_STATUS_LOCK = 0
      ∧ t.get R.CK_STATUS_SHADOW = 1
      ∧ t.get R.CK_STATUS_LOSS = 1
      ∧ t.root.relock = true
      ∧ t.time.shadowSince.isSome = true
      ∧ (switchingMode s.mode = true → t.mode = 5)
      ∧ (s.get R.POST_STATUS_STATE ≠ 0 → s.get R.POST_STATUS_STATE ≠ 5 → t.get R.POST_STATUS_STATE = 4)
      ∧ refOk t (refActive s) = false)
  ∧ (∀ (s : State), s.powered = true → locked s = false → 
    Does .referenceEdgeGap s (mask [.root] [.CK_STATUS_REF0_OK, .CK_STATUS_REF1_OK]) fun t =>
      refOk t (refActive s) = false)
  ∧ (∀ (s : State), s.powered = true → locked s = true → 
    Does .tuningRangeEnd s reachTuningRangeEnd fun t =>
      t.get R.CK_STATUS_LOCK = 0
      ∧ t.get R.CK_STATUS_SHADOW = 1
      ∧ t.get R.CK_STATUS_LOSS = 3
      ∧ t.root.relock = true
      ∧ t.time.shadowSince.isSome = true
      ∧ (switchingMode s.mode = true → t.mode = 5)
      ∧ (s.get R.POST_STATUS_STATE ≠ 0 → s.get R.POST_STATUS_STATE ≠ 5 → t.get R.POST_STATUS_STATE = 4))
  ∧ (∀ (s : State), s.powered = true → locked s = false → 
    Does .tuningRangeEnd s (mask [] []) fun _ =>
      True)
  ∧ (∀ (s : State) (count : BitVec 19),
      s.powered = true → refEnabled s (refActive s) = true → locked s = false → 393197 ≤ count.toNat → count.toNat ≤ 393235 → 
    Does (.lockWindowEnd count) s reachLockWindowEnd fun t =>
      t.get R.CK_STATUS_LOCK = 1
      ∧ t.get R.CK_STATUS_SHADOW = 0
      ∧ t.get R.CK_LOCKWIN_COUNT = count.toNat
      ∧ t.get R.CK_STATUS_RELOCKS = (if s.root.relock then min 65535 (s.get R.CK_STATUS_RELOCKS + 1) else s.get R.CK_STATUS_RELOCKS)
      ∧ t.hidden.clockCause = false
      ∧ t.time.shadowSince = none
      ∧ t.root.relock = false)
  ∧ (∀ (s : State) (count : BitVec 19),
      s.powered = true → refEnabled s (refActive s) = true → locked s = false → (count.toNat < 393197 ∨ 393235 < count.toNat) → 
    Does (.lockWindowEnd count) s reachLockWindowEnd fun t =>
      t.get R.CK_STATUS_LOCK = s.get R.CK_STATUS_LOCK
      ∧ t.get R.CK_LOCKWIN_COUNT = count.toNat
      ∧ t.sense = s.sense)
  ∧ (∀ (s : State) (count : BitVec 19),
      s.powered = true → refEnabled s (refActive s) = true → locked s = true → 393197 ≤ count.toNat → count.toNat ≤ 393235 → 
    Does (.lockWindowEnd count) s reachLockWindowEnd fun t =>
      t.get R.CK_STATUS_LOCK = 1
      ∧ t.get R.CK_LOCKWIN_COUNT = count.toNat
      ∧ t.mode = s.mode
      ∧ t.get R.CK_STATUS_RELOCKS = s.get R.CK_STATUS_RELOCKS)
  ∧ (∀ (s : State) (count : BitVec 19),
      s.powered = true → refEnabled s (refActive s) = true → locked s = true → (count.toNat < 393197 ∨ 393235 < count.toNat) → 
    Does (.lockWindowEnd count) s reachLockWindowEnd fun t =>
      t.get R.CK_STATUS_LOCK = 0
      ∧ t.get R.CK_STATUS_SHADOW = 1
      ∧ t.get R.CK_STATUS_LOSS = 2
      ∧ t.get R.CK_LOCKWIN_COUNT = count.toNat
      ∧ (switchingMode s.mode = true → t.mode = 5))
  ∧ (∀ (s : State) (count : BitVec 19), s.powered = true → refEnabled s (refActive s) = false → 
    Does (.lockWindowEnd count) s (mask [] []) fun _ =>
      True)
  ∧ (∀ (s : State) (r : Requester) (v : Word), s.serves r.num = true → s.mode ≠ 0 → s.mode ≠ 1 → 
    Does (.referenceSelect r v) s (mask [] [.CK_REF_AUTO]) fun t =>
      t.get R.CK_REF_AUTO = v.toNat / 2 ^ 31)
  ∧ (∀ (s : State) (r : Requester) (v : Word), s.serves r.num = true → (s.mode = 0 ∨ s.mode = 1) → 
    Does (.referenceSelect r v) s reachReferenceSelect fun t =>
      t.get R.CK_REF_AUTO = v.toNat / 2 ^ 31
      ∧ t.get R.CK_REF_SEL = v.toNat / 2 ^ 30 % 2
      ∧ t.get R.CK_REF_REF1_EN = v.toNat / 2 ^ 29 % 2
      ∧ t.get R.CK_REF_REF0_EN = v.toNat / 2 ^ 28 % 2
      ∧ (v.toNat.testBit (28 + v.toNat / 2 ^ 30 % 2) = true → t.get R.CK_STATUS_ACT = v.toNat / 2 ^ 30 % 2 ∧ (s.get R.CK_STATUS_ACT ≠ v.toNat / 2 ^ 30 % 2 → t.get R.CK_STATUS_LOCK = 0 ∧ t.get R.CK_STATUS_LOSS = 4)))

/-- Each kind of reset asserts itself and empties what it does not keep. From a running node, COLD, BROWNOUT, PIN, WATCHDOG_EXPIRY with the
watchdog running, and HOST_RESET with key 0xC1 each assert the reset of their kind: CK_RSTCAUSE names it, the node is in BOOT with no image,
no leg, no waiting command, envelope or tray entry, and nothing runs until the release. PIN, WATCHDOG and HOST keep the ledger and the
flight record's items; COLD and BROWNOUT leave capture memory empty; BROWNOUT notes the failed supplies, PIN when RESET_N went low. A wrong
key and a stopped watchdog reset nothing. (17_clocks_resets.md R456; 17_clocks_resets.md R458; 17_clocks_resets.md R460; 17_clocks_resets.md
Table CK-3; 03_modes.md Table MD-10; 00_scope.md R10) -/
def Obligations.ResetKinds : Prop :=
  (∀ (s : State) (aonLost : Bool), s.root.resetKind = none → s.root.hibernate = false → 
    Does (.cold aonLost) s reachPin fun t =>
      t.root.resetKind = some 0
      ∧ t.get R.CK_RSTCAUSE_KIND = 0
      ∧ t.powered = false
      ∧ t.mode = 0
      ∧ t.image = none
      ∧ t.legs = []
      ∧ t.acceptance = []
      ∧ t.office.waiting = []
      ∧ t.office.trays = []
      ∧ t.shadows = []
      ∧ t.axes = []
      ∧ t.capture.mem = []
      ∧ t.get R.CK_RSTCAUSE_COARSE_LOST = aonLost.toNat)
  ∧ (∀ (s : State) (supplies : BitVec 5), s.root.resetKind = none → s.root.hibernate = false → 
    Does (.brownout supplies) s reachPin fun t =>
      t.root.resetKind = some 1
      ∧ t.get R.CK_RSTCAUSE_KIND = 1
      ∧ t.powered = false
      ∧ t.mode = 0
      ∧ t.image = none
      ∧ t.legs = []
      ∧ t.acceptance = []
      ∧ t.office.waiting = []
      ∧ t.office.trays = []
      ∧ t.shadows = []
      ∧ t.axes = []
      ∧ t.capture.mem = []
      ∧ t.get R.CK_RSTCAUSE_BOSUP = supplies.toNat)
  ∧ (∀ (s : State), s.root.resetKind = none → s.root.hibernate = false → s.root.resetN = true → 
    Does .pin s reachPin fun t =>
      t.root.resetKind = some 2
      ∧ t.get R.CK_RSTCAUSE_KIND = 2
      ∧ t.powered = false
      ∧ t.mode = 0
      ∧ t.image = none
      ∧ t.legs = []
      ∧ t.acceptance = []
      ∧ t.office.waiting = []
      ∧ t.office.trays = []
      ∧ t.shadows = []
      ∧ t.axes = []
      ∧ t.office.ledger = s.office.ledger
      ∧ t.capture.items = s.capture.items
      ∧ t.root.resetN = false
      ∧ t.root.pinLow = s.time.elapsed)
  ∧ (∀ (s : State), s.root.resetKind = none → s.root.hibernate = false → s.root.wdogRuns = true → 
    Does .watchdogExpiry s reachWatchdogExpiry fun t =>
      t.root.resetKind = some 3
      ∧ t.get R.CK_RSTCAUSE_KIND = 3
      ∧ t.powered = false
      ∧ t.mode = 0
      ∧ t.image = none
      ∧ t.legs = []
      ∧ t.acceptance = []
      ∧ t.office.waiting = []
      ∧ t.office.trays = []
      ∧ t.shadows = []
      ∧ t.axes = []
      ∧ t.office.ledger = s.office.ledger
      ∧ t.capture.items = s.capture.items
      ∧ t.root.wdogRuns = false)
  ∧ (∀ (s : State), s.powered = true → s.root.wdogRuns = false → 
    Does .watchdogExpiry s (mask [] []) fun _ =>
      True)
  ∧ (∀ (s : State) (r : Requester), s.root.resetKind = none → s.root.hibernate = false → 
    Does (.hostReset r 0xC1) s reachPin fun t =>
      t.root.resetKind = some 4
      ∧ t.get R.CK_RSTCAUSE_KIND = 4
      ∧ t.powered = false
      ∧ t.mode = 0
      ∧ t.image = none
      ∧ t.legs = []
      ∧ t.acceptance = []
      ∧ t.office.waiting = []
      ∧ t.office.trays = []
      ∧ t.shadows = []
      ∧ t.axes = []
      ∧ t.office.ledger = s.office.ledger
      ∧ t.capture.items = s.capture.items)
  ∧ (∀ (s : State) (r : Requester) (key : BitVec 8), s.serves r.num = true → key ≠ 0xC1 → 
    Does (.hostReset r key) s (mask [] []) fun _ =>
      True)

/-- Release, BOOT, the watchdog, the crystal and the wake. RESET_RELEASE of an asserted reset ends it no earlier than its minimum after
assertion and the delay line starts; without a reset it does nothing. BOOT_COMPLETE in BOOT with running firmware leads to STANDBY with the
sorting office running, to LOCKOUT with LRST closed, a failed self-check or the latch set; in other modes it does nothing. WATCHDOG_KICK
0x5A of a core restarts the count; any other is an address error. CRYSTAL_EDGE copies the running counter into the coarse postmark, or lets
it run on by itself. In HIBERNATE, WAKE by LRST, by an enabled WAKE_N or a watched input starts the node with that cause.
(17_clocks_resets.md R457; 17_clocks_resets.md R460; 17_clocks_resets.md R463; 17_clocks_resets.md R464; 03_modes.md R75; 02_postmark.md
R39) -/
def Obligations.BootAndWake : Prop :=
  (∀ (s : State) (fselHigh : Bool) (kind : Nat), s.root.resetKind = some kind → s.root.hibernate = false → 
    Does (.resetRelease fselHigh) s reachResetRelease fun t =>
      t.root.resetKind = none
      ∧ t.powered = true
      ∧ t.get R.SAF_STATUS_FSEL = fselHigh.toNat
      ∧ t.root.lineStart = t.time.elapsed
      ∧ t.root.resetN = true
      ∧ (s.increment ≠ 0 → s.root.lineStart + usec (if kind = 2 ∨ kind = 3 ∨ kind = 4 then 10 else 2000) ≤ t.time.elapsed))
  ∧ (∀ (s : State) (fselHigh : Bool), s.root.resetKind = none → 
    Does (.resetRelease fselHigh) s (mask [] []) fun _ =>
      True)
  ∧ (∀ (s : State), s.powered = true → s.mode = 0 → s.security.fwRuns = true → s.safety.press = none → s.get R.NODE_MODE_LATCH ≠ 1 → 
    Does (.bootComplete true) s reachBootComplete fun t =>
      t.mode = 1
      ∧ t.get R.SO_STATUS_RUN = 1)
  ∧ (∀ (s : State), s.powered = true → s.mode = 0 → s.security.fwRuns = true → 
    Does (.bootComplete false) s reachBootComplete fun t =>
      t.mode = 7
      ∧ t.get R.NODE_MODE_LATCH ≠ 0
      ∧ t.get R.SO_STATUS_RUN = 1)
  ∧ (∀ (s : State) (ok : Bool), s.powered = true → s.mode ≠ 0 → 
    Does (.bootComplete ok) s (mask [] []) fun _ =>
      True)
  ∧ (∀ (s : State) (n : Fin 8), s.serves (Requester.core n).num = true → 
    Does (.watchdogKick (.core n) 0x5A) s (mask [.root] []) fun t =>
      t.root = { s.root with wdogAt := s.time.elapsed })
  ∧ (∀ (s : State) (r : Requester) (code : BitVec 8), s.serves r.num = true → (code ≠ 0x5A ∨ r.num < 2) → 
    Does (.watchdogKick r code) s (mask [.links, .cycle] [.NODE_ADDRERR_COUNT, .NODE_ADDRERR_REQ, .NODE_ADDRERR_KIND,
        .NODE_ADDRERR_ADDR_ADDR]) fun t =>
      t.get R.NODE_ADDRERR_KIND = (if r.num < 2 then 5 else 6)
      ∧ t.get R.NODE_ADDRERR_ADDR_ADDR = 0x2001C
      ∧ t.get R.NODE_ADDRERR_REQ = r.num)
  ∧ (∀ (s : State), counterRuns s = true → 
    Does .crystalEdge s (mask [.root, .time] []) fun t =>
      t.root.coarse = some s.postmark
      ∧ t.root.coarseBound = some (errbNow s)
      ∧ t.root.coarseAt = s.time.elapsed
      ∧ t.root.xtalTicks = 0
      ∧ t.time.acc = s.time.acc)
  ∧ (∀ (s : State) (c : Nat), counterRuns s = false → s.root.coarse = some c → (s.root.hibernate = false ∨ s.get R.CK_WAKE_ALARM_EN ≠ 1) → 
    Does .crystalEdge s (mask [.root, .time] []) fun t =>
      t.root.coarse = some (min (2 ^ 64 - 1) (c + 2 ^ 17))
      ∧ t.root.coarseAt = s.root.coarseAt
      ∧ t.root.xtalTicks = 0)
  ∧ (∀ (s : State), s.root.hibernate = true → 
    Does (.wake .lrst) s reachWake fun t =>
      t.root.resetKind = some 5
      ∧ t.root.hibernate = false
      ∧ t.get R.CK_WAKE_CAUSE = 2
      ∧ t.get R.CK_RSTCAUSE_KIND = 5
      ∧ t.get R.CK_RSTCAUSE_WAKE = 1
      ∧ t.mode = 0)
  ∧ (∀ (s : State), s.root.hibernate = true → s.get R.CK_WAKE_WAKEN_EN = 1 → 
    Does (.wake .wakeN) s reachWake fun t =>
      t.root.resetKind = some 5
      ∧ t.get R.CK_WAKE_CAUSE = 3)
  ∧ (∀ (s : State) (i : Fin 8), s.root.hibernate = true → inWake (safetySect s) i = true → 
    Does (.wake (.input i false)) s reachWake fun t =>
      t.root.resetKind = some 5
      ∧ t.get R.CK_WAKE_CAUSE = 1
      ∧ t.get R.CK_WAKE_INPUT = i.val)
  ∧ (∀ (s : State) (cause : WakeCause), s.root.hibernate = false → 
    Does (.wake cause) s (mask [] []) fun _ =>
      True)

/-- A measurement steers only from the chosen source, and steps only before lock. SERVO_UPDATE makes its source usable; from another source than
the chosen one nothing else changes, but that a chosen one which has not steered yet takes over SRC_ACT. From the chosen one SRC_ACT and
OFFSET show it. In LOCKED an offset within 100 ns keeps LOCKED, sets the bound to 20 ns and a trim within the slew limit, without a step;
the fourth consecutive one beyond goes to HOLDOVER-POOR, an earlier one only counts. Before lock, in BOOT or STANDBY, an offset beyond 10 µs
is taken out by a step to the source's time. (02_postmark.md R33; 02_postmark.md R35; 02_postmark.md R36; 02_postmark.md R37; 02_postmark.md
R527; 02_postmark.md Table PM-2) -/
def Obligations.ServoUpdates : Prop :=
  (∀ (s : State) (src : Fin 4) (offset : Int),
      s.powered = true → steering (markUsable s (src.val + 1)) ≠ src.val + 1 → (steering (markUsable s (src.val + 1)) ≠ 0 ∧ (s.get R.POST_STATUS_SRC_ACT = steering (markUsable s (src.val + 1)) ∨ s.get R.POST_STATUS_SRC_ACT = 0 ∨ 5 ≤ s.get R.POST_STATUS_SRC_ACT) ∨ steering (markUsable s (src.val + 1)) = 0 ∧ (s.get R.POST_STATUS_SRC_ACT = 0 ∨ s.get R.POST_STATUS_SRC_ACT = 5) ∧ (s.get R.POST_STATUS_STATE = 0 ∨ 4 ≤ s.get R.POST_STATUS_STATE)) → 
    Does (.servoUpdate src offset) s (mask [.time] []) fun t =>
      t.time.usable.contains (src.val + 1) = true
      ∧ t.time = { s.time with usable := t.time.usable })
  ∧ (∀ (s : State) (src : Fin 4) (offset : Int) (n : Nat),
      s.powered = true → steering (markUsable s (src.val + 1)) = n + 1 → n ≠ src.val → (1 ≤ s.get R.POST_STATUS_SRC_ACT ∧ s.get R.POST_STATUS_SRC_ACT ≤ 4) → 
    Does (.servoUpdate src offset) s (mask [.time] [.POST_STATUS_SRC_ACT]) fun t =>
      t.get R.POST_STATUS_SRC_ACT = n + 1
      ∧ t.time = { s.time with usable := t.time.usable }
      ∧ t.time.usable.contains (src.val + 1) = true)
  ∧ (∀ (s : State) (src : Fin 4) (offset : Int),
      s.powered = true → steering (markUsable s (src.val + 1)) = src.val + 1 → s.time.stopped = false → s.get R.POST_STATUS_STATE = 2 → withinNs offset 100 = true → s.get R.POST_CTRL_SLEW ≤ 500 → 
    Does (.servoUpdate src offset) s reachPpsEdge fun t =>
      t.get R.POST_STATUS_STATE = 2
      ∧ t.get R.POST_STATUS_SRC_ACT = src.val + 1
      ∧ t.get R.POST_OFFSET_OFS_NS = unsigned 32 (offsetNs offset)
      ∧ t.time.bound = some (nsUnits 20)
      ∧ t.time.outliers = 0
      ∧ t.time.acc = s.time.acc
      ∧ t.get R.POST_STATUS_STEPPED = s.get R.POST_STATUS_STEPPED
      ∧ (signed 32 (t.get R.POST_TRIM_TRIM)).natAbs ≤ s.get R.POST_CTRL_SLEW * 3935305)
  ∧ (∀ (s : State) (src : Fin 4) (offset : Int),
      s.powered = true → steering (markUsable s (src.val + 1)) = src.val + 1 → s.time.stopped = false → s.get R.POST_STATUS_STATE = 2 → withinNs offset 100 = false → s.time.outliers < 3 → 
    Does (.servoUpdate src offset) s (mask [.time] [.POST_STATUS_SRC_ACT, .POST_OFFSET_OFS_NS]) fun t =>
      t.time.outliers = s.time.outliers + 1
      ∧ t.time.acc = s.time.acc
      ∧ t.time.bound = s.time.bound)
  ∧ (∀ (s : State) (src : Fin 4) (offset : Int),
      s.powered = true → steering (markUsable s (src.val + 1)) = src.val + 1 → s.time.stopped = false → s.get R.POST_STATUS_STATE = 2 → withinNs offset 100 = false → 3 ≤ s.time.outliers → 
    Does (.servoUpdate src offset) s reachPpsEdge fun t =>
      t.get R.POST_STATUS_STATE = 4
      ∧ t.get R.POST_STATUS_CHANGED = 1
      ∧ t.time.acc = s.time.acc)
  ∧ (∀ (s : State) (src : Fin 4) (offset : Int),
      s.powered = true → steering (markUsable s (src.val + 1)) = src.val + 1 → s.time.stopped = false → (s.get R.POST_STATUS_STATE = 0 ∨ s.get R.POST_STATUS_STATE = 1) → (s.mode = 0 ∨ s.mode = 1) → withinNs offset 10000 = false → 
    Does (.servoUpdate src offset) s reachPpsEdge fun t =>
      t.get R.POST_STATUS_STATE = 1
      ∧ t.get R.POST_STATUS_STEPPED = 1
      ∧ t.get R.POST_STATUS_SRC_ACT = src.val + 1
      ∧ t.time.acc = ((s.time.acc : Int) - offset * 2 ^ 40).toNat % 2 ^ 104
      ∧ t.acceptance = []
      ∧ t.office.trays = []
      ∧ t.time.elapsed = s.time.elapsed)

/-- PPS edges, lost sources, the bound, and the end of the seconds. PPS_EDGE of the other polarity does nothing; with a host set waiting the
counter takes its value by a step and the state is ACQUIRING; where the mode or the state no longer permits the set, the waiting value is
dropped; in FREE it only makes 1PPS usable, but after a host set has given the whole second an edge within 1 µs is a measurement; the second
consecutive edge away from a whole second makes 1PPS unusable. SOURCE_UNUSABLE of the chosen source lets the next one take over without a
step, or with none left takes LOCKED to HOLDOVER-GOOD and ACQUIRING as entered from FREE back to FREE. HOLDOVER_BOUND_EXCEEDED takes
HOLDOVER-GOOD to HOLDOVER-POOR and that, unless forced, to LOST. At POSTMARK_SECONDS_END the counter stops at its maximum and the state is
LOST. (02_postmark.md R33; 02_postmark.md R36; 02_postmark.md R38; 02_postmark.md R40; 02_postmark.md R47; 02_postmark.md Table PM-2) -/
def Obligations.PpsAndHoldover : Prop :=
  (∀ (s : State) (rising : Bool), s.powered = true → rising = (s.get R.POST_CTRL_PPS_EDGE == 1) → 
    Does (.ppsEdge rising) s (mask [] []) fun _ =>
      True)
  ∧ (∀ (s : State) (rising : Bool) (v : Nat),
      s.powered = true → rising ≠ (s.get R.POST_CTRL_PPS_EDGE == 1) → s.time.ppsSet = some v → s.get R.POST_STATUS_STATE = 0 → (s.mode = 0 ∨ s.mode = 1) → s.time.stopped = false → 
    Does (.ppsEdge rising) s reachPpsEdge fun t =>
      t.time.acc = v * 2 ^ 40 % 2 ^ 104
      ∧ t.time.ppsSet = none
      ∧ t.get R.POST_STATUS_STATE = 1
      ∧ t.get R.POST_STATUS_SRC_ACT = 5
      ∧ t.get R.POST_STATUS_STEPPED = 1
      ∧ t.acceptance = []
      ∧ t.time.usable.contains 3 = true)
  ∧ (∀ (s : State) (rising : Bool) (v : Nat),
      s.powered = true → rising ≠ (s.get R.POST_CTRL_PPS_EDGE == 1) → s.time.ppsSet = some v → (s.get R.POST_STATUS_STATE ≠ 0 ∨ s.mode ≠ 0 ∧ s.mode ≠ 1) → 
    Does (.ppsEdge rising) s reachPpsEdge fun t =>
      t.time.ppsSet = none
      ∧ t.time.acc = s.time.acc
      ∧ t.get R.POST_STATUS_STEPPED = s.get R.POST_STATUS_STEPPED)
  ∧ (∀ (s : State) (rising : Bool),
      s.powered = true → rising ≠ (s.get R.POST_CTRL_PPS_EDGE == 1) → s.time.ppsSet = none → s.get R.POST_STATUS_STATE = 0 → s.get R.POST_STATUS_SRC_ACT ≠ 5 → 
    Does (.ppsEdge rising) s (mask [.time] []) fun t =>
      t.time.usable.contains 3 = true
      ∧ t.time.acc = s.time.acc)
  ∧ (∀ (s : State) (rising : Bool),
      s.powered = true → rising ≠ (s.get R.POST_CTRL_PPS_EDGE == 1) → s.time.ppsSet = none → s.get R.POST_STATUS_STATE = 0 → s.get R.POST_STATUS_SRC_ACT = 5 → withinNs (ppsOffset s) 1000 = true → steering (markUsable s 3) = 3 → s.time.stopped = false → 
    Does (.ppsEdge rising) s reachPpsEdge fun t =>
      t.get R.POST_STATUS_STATE = 1
      ∧ t.get R.POST_STATUS_SRC_ACT = 3
      ∧ t.time.usable.contains 3 = true
      ∧ t.time.acc = s.time.acc
      ∧ t.get R.POST_OFFSET_OFS_NS = unsigned 32 (offsetNs (ppsOffset s)))
  ∧ (∀ (s : State) (rising : Bool),
      s.powered = true → rising ≠ (s.get R.POST_CTRL_PPS_EDGE == 1) → s.time.ppsSet = none → s.get R.POST_STATUS_STATE ≠ 0 → withinNs (ppsOffset s) 1000 = false → 1 ≤ s.time.ppsMiss → 
    Does (.ppsEdge rising) s reachPpsEdge fun t =>
      t.time.usable.contains 3 = false
      ∧ t.time.ppsMiss = 0
      ∧ t.time.acc = s.time.acc)
  ∧ (∀ (s : State) (src : Fin 4),
      s.powered = true → (steering { s with time := { s.time with usable := s.time.usable.filter (fun x => x != src.val + 1) } } ≠ 0 ∧ (s.get R.POST_STATUS_SRC_ACT = steering { s with time := { s.time with usable := s.time.usable.filter (fun x => x != src.val + 1) } } ∨ s.get R.POST_STATUS_SRC_ACT = 0 ∨ 5 ≤ s.get R.POST_STATUS_SRC_ACT) ∨ steering { s with time := { s.time with usable := s.time.usable.filter (fun x => x != src.val + 1) } } = 0 ∧ (s.get R.POST_STATUS_SRC_ACT = 0 ∨ s.get R.POST_STATUS_SRC_ACT = 5) ∧ (s.get R.POST_STATUS_STATE = 0 ∨ 4 ≤ s.get R.POST_STATUS_STATE)) → 
    Does (.sourceUnusable src) s (mask [.time] []) fun t =>
      t.time = { s.time with usable := s.time.usable.filter (fun x => x != src.val + 1) })
  ∧ (∀ (s : State) (src : Fin 4) (n : Nat),
      s.powered = true → steering s = src.val + 1 → steering { s with time := { s.time with usable := s.time.usable.filter (fun x => x != src.val + 1) } } = n + 1 → (1 ≤ s.get R.POST_STATUS_SRC_ACT ∧ s.get R.POST_STATUS_SRC_ACT ≤ 4) → 
    Does (.sourceUnusable src) s (mask [.time] [.POST_STATUS_SRC_ACT]) fun t =>
      t.get R.POST_STATUS_SRC_ACT = n + 1
      ∧ t.time.acc = s.time.acc
      ∧ t.time.usable.contains (src.val + 1) = false)
  ∧ (∀ (s : State) (src : Fin 4),
      s.powered = true → steering s = src.val + 1 → steering { s with time := { s.time with usable := s.time.usable.filter (fun x => x != src.val + 1) } } = 0 → s.get R.POST_STATUS_STATE = 2 → 
    Does (.sourceUnusable src) s reachSourceUnusable fun t =>
      t.get R.POST_STATUS_STATE = 3
      ∧ t.get R.POST_STATUS_SRC_ACT = (if s.get R.POST_STATUS_SRC_ACT = 5 then 5 else 0)
      ∧ t.get R.POST_STATUS_CHANGED = 1
      ∧ t.time.acc = s.time.acc
      ∧ t.time.recent = [])
  ∧ (∀ (s : State) (src : Fin 4),
      s.powered = true → steering { s with time := { s.time with usable := s.time.usable.filter (fun x => x != src.val + 1) } } = 0 → s.get R.POST_STATUS_STATE = 1 → s.time.bound = none → s.get R.POST_STATUS_COARSE = 0 → 
    Does (.sourceUnusable src) s reachSourceUnusable fun t =>
      t.get R.POST_STATUS_STATE = 0
      ∧ t.get R.POST_STATUS_CHANGED = 1
      ∧ t.time.acc = s.time.acc)
  ∧ (∀ (s : State), s.powered = true → s.get R.POST_STATUS_STATE = 3 → 
    Does .holdoverBoundExceeded s reachHoldoverBoundExceeded fun t =>
      t.get R.POST_STATUS_STATE = 4
      ∧ t.get R.POST_STATUS_CHANGED = 1
      ∧ s.time.elapsed ≤ t.time.elapsed)
  ∧ (∀ (s : State), s.powered = true → s.get R.POST_STATUS_STATE = 4 → s.time.forced = false → 
    Does .holdoverBoundExceeded s reachHoldoverBoundExceeded fun t =>
      t.get R.POST_STATUS_STATE = 5
      ∧ t.get R.POST_STATUS_CHANGED = 1
      ∧ t.get R.POST_TIG_TIMEBASE = 1
      ∧ t.get R.POST_TIG_HELD = 0)
  ∧ (∀ (s : State), s.powered = true → s.get R.POST_STATUS_STATE ≠ 3 → (s.get R.POST_STATUS_STATE = 4 → s.time.forced = true) → 
    Does .holdoverBoundExceeded s (mask [] []) fun _ =>
      True)
  ∧ (∀ (s : State), s.powered = true → s.time.stopped = false → s.increment ≠ 0 → 
    Does .postmarkSecondsEnd s (mask [.time, .root, .fabric, .cycle, .outbox] [.POST_STATUS_CHANGED, .POST_STATUS_STATE, .POST_TIG_TIMEBASE,
        .POST_TIG_HELD, .LK_HIRQ_CAUSE]) fun t =>
      t.time.stopped = true
      ∧ t.postmark = 2 ^ 64 - 1
      ∧ t.get R.POST_STATUS_STATE = 5
      ∧ t.get R.POST_TIG_HELD = 0)
  ∧ (∀ (s : State), s.powered = true → s.time.stopped = true → 
    Does .postmarkSecondsEnd s (mask [] []) fun _ =>
      True)

/-- A test begins or is refused by the mode, and ends with its result. While a test runs a further request does nothing; in QUIET, and in the D3
cycle in which QUIET is left, it reads RESULT 0x12. TEST_LIGHT begins in STANDBY, COMMISSION, SERVICE and LOCKOUT and leaves the legs alone.
TEST_FULL and TEST_CAL begin in STANDBY and COMMISSION and hold every assigned leg; FULL empties the sorting office and halts the fabric. In
SERVICE FULL runs its non-intrusive part and both read 0x10; in every other mode 0x11. TEST_DONE ends the running test with RESULT and
FAILUNIT; with none running it does nothing. (03_modes.md R76; 03_modes.md R77; 03_modes.md R78; 03_modes.md R79; 03_modes.md Table MD-9) -/
def Obligations.SelfTests : Prop :=
  (∀ (s : State) (r : Requester), s.serves r.num = true → s.get R.NODE_TEST_RUNNING = 1 → 
    Does (.testLight r) s (mask [] []) fun _ =>
      True)
  ∧ (∀ (s : State) (r : Requester), s.serves r.num = true → s.get R.NODE_TEST_RUNNING = 1 → 
    Does (.testFull r) s (mask [] []) fun _ =>
      True)
  ∧ (∀ (s : State) (r : Requester), s.serves r.num = true → s.get R.NODE_TEST_RUNNING = 1 → 
    Does (.testCal r) s (mask [] []) fun _ =>
      True)
  ∧ (∀ (s : State) (r : Requester),
      s.serves r.num = true → s.get R.NODE_TEST_RUNNING ≠ 1 → (s.get R.NODE_MODE_QUIET = 1 ∨ s.hidden.quietEnd = some s.cycleNo) → 
    Does (.testLight r) s (mask [] [.NODE_TEST_RESULT]) fun t =>
      t.get R.NODE_TEST_RESULT = 0x12)
  ∧ (∀ (s : State) (r : Requester),
      s.serves r.num = true → s.get R.NODE_TEST_RUNNING ≠ 1 → (s.get R.NODE_MODE_QUIET = 1 ∨ s.hidden.quietEnd = some s.cycleNo) → 
    Does (.testFull r) s (mask [] [.NODE_TEST_RESULT]) fun t =>
      t.get R.NODE_TEST_RESULT = 0x12)
  ∧ (∀ (s : State) (r : Requester),
      s.serves r.num = true → s.get R.NODE_TEST_RUNNING ≠ 1 → (s.get R.NODE_MODE_QUIET = 1 ∨ s.hidden.quietEnd = some s.cycleNo) → 
    Does (.testCal r) s (mask [] [.NODE_TEST_RESULT]) fun t =>
      t.get R.NODE_TEST_RESULT = 0x12)
  ∧ (∀ (s : State) (r : Requester),
      s.serves r.num = true → s.get R.NODE_TEST_RUNNING ≠ 1 → s.get R.NODE_MODE_QUIET ≠ 1 → s.hidden.quietEnd ≠ some s.cycleNo → (s.mode = 1 ∨ s.mode = 2 ∨ s.mode = 4 ∨ s.mode = 7) → 
    Does (.testLight r) s (mask [.hidden] [.NODE_TEST_RUNNING]) fun t =>
      t.get R.NODE_TEST_RUNNING = 1
      ∧ t.hidden.test = some (0, s.time.elapsed)
      ∧ t.hidden.testHolds = false)
  ∧ (∀ (s : State) (r : Requester),
      s.serves r.num = true → s.get R.NODE_TEST_RUNNING ≠ 1 → s.get R.NODE_MODE_QUIET ≠ 1 → s.hidden.quietEnd ≠ some s.cycleNo → s.mode ≠ 1 → s.mode ≠ 2 → s.mode ≠ 4 → s.mode ≠ 7 → 
    Does (.testLight r) s (mask [] [.NODE_TEST_RESULT]) fun t =>
      t.get R.NODE_TEST_RESULT = 0x11)
  ∧ (∀ (s : State) (r : Requester),
      s.serves r.num = true → s.get R.NODE_TEST_RUNNING ≠ 1 → s.get R.NODE_MODE_QUIET ≠ 1 → s.hidden.quietEnd ≠ some s.cycleNo → (s.mode = 1 ∨ s.mode = 2) → 
    Does (.testFull r) s reachTestCal fun t =>
      t.get R.NODE_TEST_RUNNING = 1
      ∧ t.hidden.test = some (1, s.time.elapsed)
      ∧ t.hidden.testHolds = true
      ∧ t.office = Office.reset
      ∧ t.get R.FAB_STATUS_RUN = 0
      ∧ t.fabric.wires = []
      ∧ (∀ leg : Fin 96, s.get (R.LEGn_CFG_ASSIGNED leg) = 1 → t.get (R.LEGn_STATUS_HELD leg) = 1 ∧ legDebt t leg = 0))
  ∧ (∀ (s : State) (r : Requester),
      s.serves r.num = true → s.get R.NODE_TEST_RUNNING ≠ 1 → s.get R.NODE_MODE_QUIET ≠ 1 → s.hidden.quietEnd ≠ some s.cycleNo → (s.mode = 1 ∨ s.mode = 2) → 
    Does (.testCal r) s reachTestCal fun t =>
      t.get R.NODE_TEST_RUNNING = 1
      ∧ t.hidden.test = some (2, s.time.elapsed)
      ∧ t.hidden.testHolds = true
      ∧ t.office = s.office
      ∧ (∀ leg : Fin 96, s.get (R.LEGn_CFG_ASSIGNED leg) = 1 → t.get (R.LEGn_STATUS_HELD leg) = 1 ∧ legDebt t leg = 0))
  ∧ (∀ (s : State) (r : Requester),
      s.serves r.num = true → s.get R.NODE_TEST_RUNNING ≠ 1 → s.get R.NODE_MODE_QUIET ≠ 1 → s.hidden.quietEnd ≠ some s.cycleNo → s.mode = 4 → 
    Does (.testFull r) s (mask [.hidden] [.NODE_TEST_RUNNING, .NODE_TEST_RESULT]) fun t =>
      t.get R.NODE_TEST_RUNNING = 1
      ∧ t.get R.NODE_TEST_RESULT = 0x10
      ∧ t.hidden.test = some (3, s.time.elapsed)
      ∧ t.hidden.testHolds = false)
  ∧ (∀ (s : State) (r : Requester),
      s.serves r.num = true → s.get R.NODE_TEST_RUNNING ≠ 1 → s.get R.NODE_MODE_QUIET ≠ 1 → s.hidden.quietEnd ≠ some s.cycleNo → s.mode = 4 → 
    Does (.testCal r) s (mask [] [.NODE_TEST_RESULT]) fun t =>
      t.get R.NODE_TEST_RESULT = 0x10)
  ∧ (∀ (s : State) (r : Requester),
      s.serves r.num = true → s.get R.NODE_TEST_RUNNING ≠ 1 → s.get R.NODE_MODE_QUIET ≠ 1 → s.hidden.quietEnd ≠ some s.cycleNo → s.mode ≠ 1 → s.mode ≠ 2 → s.mode ≠ 4 → 
    Does (.testFull r) s (mask [] [.NODE_TEST_RESULT]) fun t =>
      t.get R.NODE_TEST_RESULT = 0x11)
  ∧ (∀ (s : State) (r : Requester),
      s.serves r.num = true → s.get R.NODE_TEST_RUNNING ≠ 1 → s.get R.NODE_MODE_QUIET ≠ 1 → s.hidden.quietEnd ≠ some s.cycleNo → s.mode ≠ 1 → s.mode ≠ 2 → s.mode ≠ 4 → 
    Does (.testCal r) s (mask [] [.NODE_TEST_RESULT]) fun t =>
      t.get R.NODE_TEST_RESULT = 0x11)
  ∧ (∀ (s : State) (pass : Bool) (unit : BitVec 8) (kind since : Nat), s.powered = true → s.hidden.test = some (kind, since) → 
    Does (.testDone pass unit) s reachTestDone fun t =>
      t.hidden.test = none
      ∧ t.hidden.testHolds = false
      ∧ t.get R.NODE_TEST_RUNNING = 0
      ∧ (kind ≠ 3 → t.get R.NODE_TEST_RESULT = (if pass then 1 else 2))
      ∧ (kind = 3 → t.get R.NODE_TEST_RESULT = s.get R.NODE_TEST_RESULT)
      ∧ t.get R.NODE_TEST_FAILUNIT = (if pass then 0 else unit.toNat)
      ∧ (s.increment ≠ 0 → since + usec (testTime kind) ≤ t.time.elapsed))
  ∧ (∀ (s : State) (pass : Bool) (unit : BitVec 8), s.powered = true → s.hidden.test = none → 
    Does (.testDone pass unit) s (mask [] []) fun _ =>
      True)

/-- A mode request is a HOST command to the node mode, or waits for a tray tick. With an image active REQUEST_STANDBY, REQUEST_COMMISSION,
REQUEST_ENERGIZE and REQUEST_REPLAY each enter the acceptance queue as a HOST command to the mode with its mode code, for the frame that the
HOST delay gives, and PENDING reads 1; the mode does not change yet. With no image a STANDBY request waits for the next tray tick, and the
others are refused with code 2. (03_modes.md R67; 03_modes.md R68; 03_modes.md R69; 03_modes.md R70; 02_postmark.md R48; 02_postmark.md R49) -/
def Obligations.ModeRequests : Prop :=
  (∀ (s : State) (r : Requester),
      s.serves r.num = true → s.image ≠ none → dAccept s 2 ≠ 0 → s.postmark < frameStart s.fFrame (commandFrame s 2 s.postmark) → dAccept s 2 ≤ 60 * 2 ^ 32 → s.acceptance.length < 2048 → 
    Does (.requestStandby r) s reachRequestQuiet fun t =>
      t.acceptance = s.acceptance ++ [⟨2, hostSource r.num, 0, modeTarget, 1, s.postmark, commandFrame s 2 s.postmark, []⟩]
      ∧ t.get R.NODE_MODE_PENDING = 1
      ∧ t.mode = s.mode
      ∧ t.hidden = s.hidden)
  ∧ (∀ (s : State) (r : Requester),
      s.serves r.num = true → s.image ≠ none → dAccept s 2 ≠ 0 → s.postmark < frameStart s.fFrame (commandFrame s 2 s.postmark) → dAccept s 2 ≤ 60 * 2 ^ 32 → s.acceptance.length < 2048 → 
    Does (.requestCommission r) s reachRequestQuiet fun t =>
      t.acceptance = s.acceptance ++ [⟨2, hostSource r.num, 0, modeTarget, 2, s.postmark, commandFrame s 2 s.postmark, []⟩]
      ∧ t.get R.NODE_MODE_PENDING = 1
      ∧ t.mode = s.mode
      ∧ t.hidden = s.hidden)
  ∧ (∀ (s : State) (r : Requester),
      s.serves r.num = true → s.image ≠ none → dAccept s 2 ≠ 0 → s.postmark < frameStart s.fFrame (commandFrame s 2 s.postmark) → dAccept s 2 ≤ 60 * 2 ^ 32 → s.acceptance.length < 2048 → 
    Does (.requestEnergize r) s reachRequestQuiet fun t =>
      t.acceptance = s.acceptance ++ [⟨2, hostSource r.num, 0, modeTarget, 3, s.postmark, commandFrame s 2 s.postmark, []⟩]
      ∧ t.get R.NODE_MODE_PENDING = 1
      ∧ t.mode = s.mode
      ∧ t.hidden = s.hidden)
  ∧ (∀ (s : State) (r : Requester),
      s.serves r.num = true → s.image ≠ none → dAccept s 2 ≠ 0 → s.postmark < frameStart s.fFrame (commandFrame s 2 s.postmark) → dAccept s 2 ≤ 60 * 2 ^ 32 → s.acceptance.length < 2048 → 
    Does (.requestReplay r) s reachRequestQuiet fun t =>
      t.acceptance = s.acceptance ++ [⟨2, hostSource r.num, 0, modeTarget, 6, s.postmark, commandFrame s 2 s.postmark, []⟩]
      ∧ t.get R.NODE_MODE_PENDING = 1
      ∧ t.mode = s.mode
      ∧ t.hidden = s.hidden)
  ∧ (∀ (s : State) (r : Requester), s.serves r.num = true → s.image = none → s.get R.NODE_MODE_QUIET ≠ 1 → s.slots.activating = none → 
    Does (.requestStandby r) s (mask [.hidden] [.NODE_MODE_PENDING]) fun t =>
      t.hidden.atTick = some ⟨1, 0, hostSource r.num, s.postmark, []⟩
      ∧ t.get R.NODE_MODE_PENDING = 1)
  ∧ (∀ (s : State) (r : Requester), s.serves r.num = true → s.image = none → 
    Does (.requestCommission r) s reachRequestQuiet fun t =>
      t.get R.NODE_MODE_REFUSE = 2
      ∧ t.acceptance = s.acceptance
      ∧ t.mode = s.mode
      ∧ t.hidden = s.hidden)
  ∧ (∀ (s : State) (r : Requester), s.serves r.num = true → s.image = none → 
    Does (.requestEnergize r) s reachRequestQuiet fun t =>
      t.get R.NODE_MODE_REFUSE = 2
      ∧ t.acceptance = s.acceptance
      ∧ t.mode = s.mode
      ∧ t.hidden = s.hidden)
  ∧ (∀ (s : State) (r : Requester), s.serves r.num = true → s.image = none → 
    Does (.requestReplay r) s reachRequestQuiet fun t =>
      t.get R.NODE_MODE_REFUSE = 2
      ∧ t.acceptance = s.acceptance
      ∧ t.mode = s.mode
      ∧ t.hidden = s.hidden)

/-- QUIET and HIBERNATE are asked for, entered and left at their instants. REQUEST_QUIET in STANDBY, REQUEST_HIBERNATE in STANDBY or LOCKOUT and
REQUEST_RUN in QUIET wait for their instant; from another mode the first two are refused by REFUSE, 5 from LOCKOUT and 1 otherwise, and
REQUEST_RUN outside QUIET does nothing. With no image, at the tray tick QUIET_ENTRY gates the fabric and the slices, QUIET_EXIT leaves QUIET
with 2 ms to settle, and HIBERNATE_ENTRY stops the node with the coarse postmark taken. FABRIC_RESUME ends the settling; each of the four
does nothing where nothing of its kind waits. (17_clocks_resets.md R461; 17_clocks_resets.md R462; 17_clocks_resets.md R463; 03_modes.md
R65; 03_modes.md R78) -/
def Obligations.PowerStates : Prop :=
  (∀ (s : State) (r : Requester), s.serves r.num = true → s.mode = 1 → s.get R.NODE_MODE_QUIET ≠ 1 → 
    Does (.requestQuiet r) s (mask [.hidden] []) fun t =>
      t.hidden = { s.hidden with power := some 2, powerBy := (hostSource r.num, s.postmark) })
  ∧ (∀ (s : State) (r : Requester), s.serves r.num = true → s.mode ≠ 1 → s.get R.NODE_MODE_QUIET ≠ 1 → 
    Does (.requestQuiet r) s reachRequestQuiet fun t =>
      t.get R.NODE_MODE_REFUSE = (if s.mode = 7 then 5 else 1)
      ∧ t.hidden = s.hidden)
  ∧ (∀ (s : State) (r : Requester), s.serves r.num = true → (s.mode = 1 ∨ s.mode = 7) → 
    Does (.requestHibernate r) s (mask [.hidden] []) fun t =>
      t.hidden = { s.hidden with power := some 3, powerBy := (hostSource r.num, s.postmark) })
  ∧ (∀ (s : State) (r : Requester), s.serves r.num = true → s.mode ≠ 1 → s.mode ≠ 7 → 
    Does (.requestHibernate r) s reachRequestQuiet fun t =>
      t.get R.NODE_MODE_REFUSE = 1
      ∧ t.hidden = s.hidden)
  ∧ (∀ (s : State) (r : Requester), s.serves r.num = true → s.get R.NODE_MODE_QUIET = 1 → 
    Does (.requestRun r) s (mask [.hidden] []) fun t =>
      t.hidden = { s.hidden with power := some 1, powerBy := (hostSource r.num, s.postmark) })
  ∧ (∀ (s : State) (r : Requester), s.serves r.num = true → s.get R.NODE_MODE_QUIET ≠ 1 → 
    Does (.requestRun r) s (mask [] []) fun _ =>
      True)
  ∧ (∀ (s : State), s.powered = true → s.hidden.power = some 2 → s.image = none → s.slots.activating = none → s.hidden.atTick = none → s.mode = 1 → s.hidden.test = none → 
    Does .quietEntry s reachFrameStart fun t =>
      t.get R.NODE_MODE_QUIET = 1
      ∧ t.get R.FAB_STATUS_RUN = 0
      ∧ t.get R.SN_STATUS_RUN = 0
      ∧ t.hidden.power = none
      ∧ t.mode = 1)
  ∧ (∀ (s : State), s.powered = true → s.hidden.power ≠ some 2 → 
    Does .quietEntry s (mask [] []) fun _ =>
      True)
  ∧ (∀ (s : State), s.powered = true → s.hidden.power = some 1 → s.image = none → s.slots.activating = none → s.hidden.atTick = none → 
    Does .quietExit s reachTrayTick fun t =>
      t.get R.NODE_MODE_QUIET = 0
      ∧ t.hidden.power = none
      ∧ t.root.settle = some (t.time.elapsed + usec 2000)
      ∧ t.mode = s.mode)
  ∧ (∀ (s : State), s.powered = true → s.hidden.power ≠ some 1 → 
    Does .quietExit s (mask [] []) fun _ =>
      True)
  ∧ (∀ (s : State), s.powered = true → s.hidden.power = some 3 → s.get R.CK_WAKE_ALARM_EN ≠ 1 → s.image = none → s.slots.activating = none → s.hidden.atTick = none → s.mode = 1 → s.hidden.test = none → 
    Does .hibernateEntry s reachFrameStart fun t =>
      t.root.hibernate = true
      ∧ t.powered = false
      ∧ t.root.coarse = some t.postmark
      ∧ t.root.wdogRuns = false
      ∧ t.legs = []
      ∧ t.hidden.power = none
      ∧ t.mode = 1)
  ∧ (∀ (s : State), s.powered = true → s.hidden.power ≠ some 3 → 
    Does .hibernateEntry s (mask [] []) fun _ =>
      True)
  ∧ (∀ (s : State) (e : Nat), s.powered = true → s.root.settle = some e → (s.image = none ∨ s.mode = 5 ∨ s.mode = 7) → 
    Does .fabricResume s reachFabricResume fun t =>
      t.root.settle = none
      ∧ (s.increment ≠ 0 → e ≤ t.time.elapsed)
      ∧ t.mode = s.mode)
  ∧ (∀ (s : State) (e : Nat) (im : Image), s.powered = true → s.root.settle = some e → s.image = some im → s.mode = 1 → im.frate ≠ 0 → 
    Does .fabricResume s reachFabricResume fun t =>
      t.root.settle = none
      ∧ t.fabric.next ≠ none)
  ∧ (∀ (s : State), s.powered = true → s.root.settle = none → 
    Does .fabricResume s (mask [] []) fun _ =>
      True)

/-- A frame start completes the frame before; a tray tick releases what is due. FRAME_START with no image and no activation does nothing. With
an image and frame j in evaluation FAB_FRAME reads j, the fabric's next frame is one after the one that starts, and that one starts at its
postmark or later. TRAY_TICK passes the next tray tick: a single due entry with room at its pigeonhole becomes a waiting envelope, behind
all that is ready before it, under its entry's ID, with its release postmark, and leaves its tray; at the limit it stays and is marked
deferred; an entry whose postmark is later stays as it is. (02_postmark.md R31; 06_fabric.md R156; 06_fabric.md R180; 11_sorting_office.md
R305; 11_sorting_office.md R306) -/
def Obligations.FramesAndTicks : Prop :=
  (∀ (s : State), s.powered = true → s.image = none → s.slots.activating = none → 
    Does .frameStart s (mask [] []) fun _ =>
      True)
  ∧ (∀ (s : State) (im : Image) (j : Nat),
      s.powered = true → s.image = some im → s.slots.activating = none → s.hidden.power = none → s.root.settle = none → s.fabric.await = false → s.fabric.frame = some j → j < 2 ^ 64 → s.capture.replay = none → s.mode ≠ 6 → s.acceptance = [] → s.hidden.held = [] → 
    Does .frameStart s reachFrameStart fun t =>
      t.getPair R.FAB_FRAME_LO_K R.FAB_FRAME_HI_K = j
      ∧ t.fabric.next = some (nextFrame s im + 1)
      ∧ (s.get R.FAB_SNAP_FREEZE ≠ 1 → t.getPair R.FAB_SNAPK_LO_K R.FAB_SNAPK_HI_K = j ∧ t.get R.FAB_SNAP_FROZEN = 0)
      ∧ t.image = s.image
      ∧ s.time.elapsed ≤ t.time.elapsed)
  ∧ (∀ (s : State), s.powered = true → s.slots.activating = none → s.hidden.power = none → s.hidden.atTick = none → s.office.trays = [] → 
    Does .trayTick s reachTrayTick fun t =>
      t.office.lastTick = some (nextTray s)
      ∧ t.office.waiting = s.office.waiting
      ∧ t.office.service = s.office.service
      ∧ t.mode = s.mode)
  ∧ (∀ (s : State) (te : TrayEntry),
      s.powered = true → s.slots.activating = none → s.hidden.power = none → s.hidden.atTick = none → s.get R.SO_STATUS_RUN ≠ 0 → s.office.trays = [te] → te.t ≤ trayTickPm (nextTray s) → s.swUse < 448 → s.freeDescs ≠ [] → s.phSoft te.env.ph < s.get (R.SO_PHp_LIMIT te.env.ph) → 
    Does .trayTick s reachTrayTick fun t =>
      t.office.lastTick = some (nextTray s)
      ∧ t.office.trays = []
      ∧ (∃ e ∈ t.office.waiting, t.office.waiting.map (·.idx) = (insertEnv e s.office.waiting).map (·.idx) ∧ ((∀ x ∈ s.office.waiting,
          e.before x = false) → t.office.waiting = s.office.waiting ++ [e]) ∧ e.fromTray = true ∧ e.postmark = te.t ∧ e.trayId = some te.id ∧ e.deferred = te.deferred ∧ e.ph = te.env.ph ∧ e.flow = te.env.flow ∧ e.body = te.env.body ∧ e.idx ∈ s.freeDescs))
  ∧ (∀ (s : State) (te : TrayEntry),
      s.powered = true → s.slots.activating = none → s.hidden.power = none → s.hidden.atTick = none → s.get R.SO_STATUS_RUN ≠ 0 → s.office.trays = [te] → te.t ≤ trayTickPm (nextTray s) → s.get (R.SO_PHp_LIMIT te.env.ph) ≤ s.phSoft te.env.ph → 
    Does .trayTick s reachTrayTick fun t =>
      t.office.lastTick = some (nextTray s)
      ∧ t.office.trays = [{ te with deferred := true }]
      ∧ t.office.waiting = s.office.waiting)
  ∧ (∀ (s : State) (te : TrayEntry),
      s.powered = true → s.slots.activating = none → s.hidden.power = none → s.hidden.atTick = none → s.office.trays = [te] → trayTickPm (nextTray s) < te.t → 
    Does .trayTick s reachTrayTick fun t =>
      t.office.lastTick = some (nextTray s)
      ∧ t.office.trays = [te]
      ∧ t.office.waiting = s.office.waiting)
  ∧ (∀ (s : State) (r : Requester) (freeze : Bool), s.serves r.num = true → 
    Does (.freezeWindow r freeze) s (mask [] [.FAB_SNAP_FREEZE, .FAB_SNAP_FROZEN]) fun t =>
      t.get R.FAB_SNAP_FREEZE = (if freeze then 1 else 0)
      ∧ (freeze = true → t.get R.FAB_SNAP_FROZEN = 1)
      ∧ (freeze = false → t.get R.FAB_SNAP_FROZEN = s.get R.FAB_SNAP_FROZEN))

/-- An event of a forming block is the frame in which it happens, or nothing. RAMP_ORIGIN, SLOT_TIME, BUS_STATE_PERSIST, SYNC_OK, SYNC_TIMEOUT,
RAMP_STALL, POLE_SLIP, TVIMP_HOLD_END and TVIMP_BLEND_END of a bridge: where the next frame of the active image takes the bridge's block
through that event, the command is that frame start carried through the frame's evaluation, after which the block stands in the state the
event leads to or has raised its trip; otherwise, and with no image, nothing changes. (05_forming_events.md R119; 05_forming_events.md R123;
05_forming_events.md R127; 05_forming_events.md R128; 05_forming_events.md R129; 05_forming_events.md R131; 05_forming_events.md R134) -/
def Obligations.FormingEvents : Prop :=
  (∀ (s : State) (bridge : Fin 16) (im : Image),
      s.powered = true → s.image = some im → (peerPasses s 0x1C bridge 0 1 2 im (sampledFrame (nodeFrameStart s)) || peerPasses s 0x1C bridge 4 0 1 im (sampledFrame (nodeFrameStart s))) = true → 
    Does (.rampOrigin bridge) s reachFrameStart fun t =>
      exec .frameStart s = .next { nodeFrameStart s with pending := s.pending }
      ∧ t = { sampledFrame (nodeFrameStart s) with pending := s.pending }
      ∧ (peerVar t im 0x1C bridge 0 = 2 ∨ peerVar t im 0x1C bridge 4 = 1))
  ∧ (∀ (s : State) (bridge : Fin 16), s.powered = true → s.image = none → 
    Does (.rampOrigin bridge) s (mask [] []) fun _ =>
      True)
  ∧ (∀ (s : State) (bridge : Fin 16) (im : Image),
      s.powered = true → s.image = some im → (peerPasses s 0x1C bridge 0 1 2 im (sampledFrame (nodeFrameStart s)) || peerPasses s 0x1C bridge 4 0 1 im (sampledFrame (nodeFrameStart s))) = false → 
    Does (.rampOrigin bridge) s (mask [] []) fun _ =>
      True)
  ∧ (∀ (s : State) (bridge : Fin 16) (im : Image),
      s.powered = true → s.image = some im → ((peerPasses s 0x1C bridge 0 0 1 im (sampledFrame (nodeFrameStart s)) && peerVar (sampledFrame (nodeFrameStart s)) im 0x1C bridge 3 == 0) || peerPasses s 0x1C bridge 0 0 3 im (sampledFrame (nodeFrameStart s))) = true → 
    Does (.slotTime bridge) s reachFrameStart fun t =>
      exec .frameStart s = .next { nodeFrameStart s with pending := s.pending }
      ∧ t = { sampledFrame (nodeFrameStart s) with pending := s.pending }
      ∧ (peerVar t im 0x1C bridge 0 = 1 ∧ peerVar t im 0x1C bridge 3 = 0 ∨ peerVar t im 0x1C bridge 0 = 3))
  ∧ (∀ (s : State) (bridge : Fin 16), s.powered = true → s.image = none → 
    Does (.slotTime bridge) s (mask [] []) fun _ =>
      True)
  ∧ (∀ (s : State) (bridge : Fin 16) (im : Image),
      s.powered = true → s.image = some im → ((peerPasses s 0x1C bridge 0 0 1 im (sampledFrame (nodeFrameStart s)) && peerVar (sampledFrame (nodeFrameStart s)) im 0x1C bridge 3 == 0) || peerPasses s 0x1C bridge 0 0 3 im (sampledFrame (nodeFrameStart s))) = false → 
    Does (.slotTime bridge) s (mask [] []) fun _ =>
      True)
  ∧ (∀ (s : State) (bridge : Fin 16) (im : Image),
      s.powered = true → s.image = some im → ((peerHigh (sampledFrame (nodeFrameStart s)) im 0x18 bridge 2 && !peerHigh s im 0x18 bridge 2) || (peerHigh (sampledFrame (nodeFrameStart s)) im 0x18 bridge 3 && !peerHigh s im 0x18 bridge 3)) = true → 
    Does (.busStatePersist bridge) s reachFrameStart fun t =>
      exec .frameStart s = .next { nodeFrameStart s with pending := s.pending }
      ∧ t = { sampledFrame (nodeFrameStart s) with pending := s.pending }
      ∧ (peerHigh t im 0x18 bridge 2 = true ∨ peerHigh t im 0x18 bridge 3 = true))
  ∧ (∀ (s : State) (bridge : Fin 16), s.powered = true → s.image = none → 
    Does (.busStatePersist bridge) s (mask [] []) fun _ =>
      True)
  ∧ (∀ (s : State) (bridge : Fin 16) (im : Image),
      s.powered = true → s.image = some im → ((peerHigh (sampledFrame (nodeFrameStart s)) im 0x18 bridge 2 && !peerHigh s im 0x18 bridge 2) || (peerHigh (sampledFrame (nodeFrameStart s)) im 0x18 bridge 3 && !peerHigh s im 0x18 bridge 3)) = false → 
    Does (.busStatePersist bridge) s (mask [] []) fun _ =>
      True)
  ∧ (∀ (s : State) (bridge : Fin 16) (im : Image),
      s.powered = true → s.image = some im → ((peerHigh (sampledFrame (nodeFrameStart s)) im 0x18 bridge 4 && !peerHigh s im 0x18 bridge 4)) = true → 
    Does (.syncOk bridge) s reachFrameStart fun t =>
      exec .frameStart s = .next { nodeFrameStart s with pending := s.pending }
      ∧ t = { sampledFrame (nodeFrameStart s) with pending := s.pending }
      ∧ peerHigh t im 0x18 bridge 4 = true)
  ∧ (∀ (s : State) (bridge : Fin 16), s.powered = true → s.image = none → 
    Does (.syncOk bridge) s (mask [] []) fun _ =>
      True)
  ∧ (∀ (s : State) (bridge : Fin 16) (im : Image),
      s.powered = true → s.image = some im → ((peerHigh (sampledFrame (nodeFrameStart s)) im 0x18 bridge 4 && !peerHigh s im 0x18 bridge 4)) = false → 
    Does (.syncOk bridge) s (mask [] []) fun _ =>
      True)
  ∧ (∀ (s : State) (bridge : Fin 16) (im : Image),
      s.powered = true → s.image = some im → peerTrips s 0x18 bridge 0x21 im (sampledFrame (nodeFrameStart s)) = true → 
    Does (.syncTimeout bridge) s reachFrameStart fun t =>
      exec .frameStart s = .next { nodeFrameStart s with pending := s.pending }
      ∧ t = { sampledFrame (nodeFrameStart s) with pending := s.pending }
      ∧ t.fabric.raised.any (fun x => x.typ == 0x11 && x.tag == 0x21 && (im.peer 0x18 bridge).any (fun q => leNat (x.body.take 2) == q.slot)) = true)
  ∧ (∀ (s : State) (bridge : Fin 16), s.powered = true → s.image = none → 
    Does (.syncTimeout bridge) s (mask [] []) fun _ =>
      True)
  ∧ (∀ (s : State) (bridge : Fin 16) (im : Image),
      s.powered = true → s.image = some im → peerTrips s 0x18 bridge 0x21 im (sampledFrame (nodeFrameStart s)) = false → 
    Does (.syncTimeout bridge) s (mask [] []) fun _ =>
      True)
  ∧ (∀ (s : State) (bridge : Fin 16) (im : Image),
      s.powered = true → s.image = some im → peerTrips s 0x1C bridge 0x20 im (sampledFrame (nodeFrameStart s)) = true → 
    Does (.rampStall bridge) s reachFrameStart fun t =>
      exec .frameStart s = .next { nodeFrameStart s with pending := s.pending }
      ∧ t = { sampledFrame (nodeFrameStart s) with pending := s.pending }
      ∧ t.fabric.raised.any (fun x => x.typ == 0x11 && x.tag == 0x20 && (im.peer 0x1C bridge).any (fun q => leNat (x.body.take 2) == q.slot)) = true)
  ∧ (∀ (s : State) (bridge : Fin 16), s.powered = true → s.image = none → 
    Does (.rampStall bridge) s (mask [] []) fun _ =>
      True)
  ∧ (∀ (s : State) (bridge : Fin 16) (im : Image),
      s.powered = true → s.image = some im → peerTrips s 0x1C bridge 0x20 im (sampledFrame (nodeFrameStart s)) = false → 
    Does (.rampStall bridge) s (mask [] []) fun _ =>
      True)
  ∧ (∀ (s : State) (bridge : Fin 16) (im : Image),
      s.powered = true → s.image = some im → peerPasses s 0x14 bridge 7 3 4 im (sampledFrame (nodeFrameStart s)) = true → 
    Does (.poleSlip bridge) s reachFrameStart fun t =>
      exec .frameStart s = .next { nodeFrameStart s with pending := s.pending }
      ∧ t = { sampledFrame (nodeFrameStart s) with pending := s.pending }
      ∧ peerVar t im 0x14 bridge 7 = 4)
  ∧ (∀ (s : State) (bridge : Fin 16), s.powered = true → s.image = none → 
    Does (.poleSlip bridge) s (mask [] []) fun _ =>
      True)
  ∧ (∀ (s : State) (bridge : Fin 16) (im : Image),
      s.powered = true → s.image = some im → peerPasses s 0x14 bridge 7 3 4 im (sampledFrame (nodeFrameStart s)) = false → 
    Does (.poleSlip bridge) s (mask [] []) fun _ =>
      True)
  ∧ (∀ (s : State) (bridge : Fin 16) (im : Image),
      s.powered = true → s.image = some im → peerPasses s 0x14 bridge 2 1 2 im (sampledFrame (nodeFrameStart s)) = true → 
    Does (.tvimpHoldEnd bridge) s reachFrameStart fun t =>
      exec .frameStart s = .next { nodeFrameStart s with pending := s.pending }
      ∧ t = { sampledFrame (nodeFrameStart s) with pending := s.pending }
      ∧ peerVar t im 0x14 bridge 2 = 2)
  ∧ (∀ (s : State) (bridge : Fin 16), s.powered = true → s.image = none → 
    Does (.tvimpHoldEnd bridge) s (mask [] []) fun _ =>
      True)
  ∧ (∀ (s : State) (bridge : Fin 16) (im : Image),
      s.powered = true → s.image = some im → peerPasses s 0x14 bridge 2 1 2 im (sampledFrame (nodeFrameStart s)) = false → 
    Does (.tvimpHoldEnd bridge) s (mask [] []) fun _ =>
      True)
  ∧ (∀ (s : State) (bridge : Fin 16) (im : Image),
      s.powered = true → s.image = some im → peerPasses s 0x14 bridge 1 1 0 im (sampledFrame (nodeFrameStart s)) = true → 
    Does (.tvimpBlendEnd bridge) s reachFrameStart fun t =>
      exec .frameStart s = .next { nodeFrameStart s with pending := s.pending }
      ∧ t = { sampledFrame (nodeFrameStart s) with pending := s.pending }
      ∧ peerVar t im 0x14 bridge 1 = 0)
  ∧ (∀ (s : State) (bridge : Fin 16), s.powered = true → s.image = none → 
    Does (.tvimpBlendEnd bridge) s (mask [] []) fun _ =>
      True)
  ∧ (∀ (s : State) (bridge : Fin 16) (im : Image),
      s.powered = true → s.image = some im → peerPasses s 0x14 bridge 1 1 0 im (sampledFrame (nodeFrameStart s)) = false → 
    Does (.tvimpBlendEnd bridge) s (mask [] []) fun _ =>
      True)

/-- The held input, the spent budget and the energize timeout happen at a frame start. INPUT_HOLD_FAULT of a block and BUDGET_EXHAUSTED of a
CURLIM block: where the next frame sets the block's FAULT, or takes its overload budget from above 0 to 0, the command is that frame start
carried through the frame's evaluation; otherwise, and with no image, nothing changes. ENERGIZE_TIMEOUT in ENERGIZE, once the image's
timeout has passed without eight ready frames, takes the node to RECOVERY with ENTRY 6, the legs held and the fabric halted; outside
ENERGIZE it does nothing. STOP_RAMP_END ends the stop ramp with every assigned leg at its level; with no ramp it does nothing.
(04_forming_voltage.md R86; 04_forming_voltage.md R107; 03_modes.md R69; 03_modes.md R74; 02_postmark.md R31) -/
def Obligations.BlockEventsAndTimeouts : Prop :=
  (∀ (s : State) (slot : Fin 1024) (im : Image),
      s.powered = true → s.image = some im → ((blockIn im slot).isSome && !(blkState s slot).fault && (blkState (sampledFrame (nodeFrameStart s)) slot).fault) = true → 
    Does (.inputHoldFault slot) s reachFrameStart fun t =>
      exec .frameStart s = .next { nodeFrameStart s with pending := s.pending }
      ∧ t = { sampledFrame (nodeFrameStart s) with pending := s.pending }
      ∧ (blkState t slot).fault = true)
  ∧ (∀ (s : State) (slot : Fin 1024), s.powered = true → s.image = none → 
    Does (.inputHoldFault slot) s (mask [] []) fun _ =>
      True)
  ∧ (∀ (s : State) (slot : Fin 1024) (im : Image),
      s.powered = true → s.image = some im → ((blockIn im slot).isSome && !(blkState s slot).fault && (blkState (sampledFrame (nodeFrameStart s)) slot).fault) = false → 
    Does (.inputHoldFault slot) s (mask [] []) fun _ =>
      True)
  ∧ (∀ (s : State) (slot : Fin 1024) (im : Image),
      s.powered = true → s.image = some im → ((blockIn im slot).any (fun b => b.kind == 0x17) && f32lt 0 (nthF (blkState s slot).vars 0) && f32zero? (nthF (blkState (sampledFrame (nodeFrameStart s)) slot).vars 0)) = true → 
    Does (.budgetExhausted slot) s reachFrameStart fun t =>
      exec .frameStart s = .next { nodeFrameStart s with pending := s.pending }
      ∧ t = { sampledFrame (nodeFrameStart s) with pending := s.pending }
      ∧ f32zero? (nthF (blkState t slot).vars 0) = true)
  ∧ (∀ (s : State) (slot : Fin 1024), s.powered = true → s.image = none → 
    Does (.budgetExhausted slot) s (mask [] []) fun _ =>
      True)
  ∧ (∀ (s : State) (slot : Fin 1024) (im : Image),
      s.powered = true → s.image = some im → ((blockIn im slot).any (fun b => b.kind == 0x17) && f32lt 0 (nthF (blkState s slot).vars 0) && f32zero? (nthF (blkState (sampledFrame (nodeFrameStart s)) slot).vars 0)) = false → 
    Does (.budgetExhausted slot) s (mask [] []) fun _ =>
      True)
  ∧ (∀ (s : State) (im : Image),
      s.powered = true → s.image = some im → s.slots.activating = none → s.hidden.power = none → s.root.settle = none → s.fabric.frame = none → s.fabric.await = false → s.acceptance = [] → s.hidden.held = [] → s.mode = 3 → s.fabric.readyRun < 8 → s.fabric.reinit = false → s.hidden.energizeAt + usec (1000 * im.tEnergize) ≤ s.time.elapsed → 
    Does .energizeTimeout s reachFrameStart fun t =>
      t.mode = 5
      ∧ t.get R.NODE_MODE_ENTRY = 6
      ∧ t.get R.FAB_STATUS_RUN = 0
      ∧ t.fabric.frame = none
      ∧ t.hidden.energizeAt = s.hidden.energizeAt
      ∧ (∀ leg : Fin 96, s.get (R.LEGn_CFG_ASSIGNED leg) = 1 → t.get (R.LEGn_STATUS_HELD leg) = 1 ∧ legDebt t leg = 0))
  ∧ (∀ (s : State), s.powered = true → s.mode ≠ 3 → 
    Does .energizeTimeout s (mask [] []) fun _ =>
      True)
  ∧ (∀ (s : State) (e : Nat) , s.powered = true → s.hidden.stopRamp = some e → 
    Does .stopRampEnd s reachSs1Timeout fun t =>
      t.hidden.stopRamp = none
      ∧ (∀ leg : Fin 96, s.get (R.LEGn_CFG_ASSIGNED leg) = 1 → t.get (R.LEGn_STATUS_HELD leg) = 1 ∧ legDebt t leg = 0)
      ∧ (t.mode = s.mode ∨ t.mode = 7)
      ∧ (t.mode = 1 → ∀ n : Fin 4, (t.contactor n).on = false)
      ∧ (s.increment ≠ 0 → e ≤ t.time.elapsed))
  ∧ (∀ (s : State), s.powered = true → s.hidden.stopRamp = none → 
    Does .stopRampEnd s (mask [] []) fun _ =>
      True)

/-- A fabric fault halts the fabric, breaks the guarantee and answers by mode. FABRIC_FAULT with the fabric running halts it without a load-all:
FAULT and FTILE name the cause and the tile, the guarantee is not held, and from a switching mode the node is in RECOVERY with ENTRY 4 and
every assigned leg at its level; in STANDBY the mode stays and the fabric is to start again from the image. FABRIC_OVERRUN does the same
with FAULT 1 for the frame in evaluation. Either does nothing with the fabric halted or no image. UNCORRECTABLE_MEMORY_ERROR is a hardware
fault: HWFAULT reads 1, HELD 0, and a switching mode goes to RECOVERY with ENTRY 5. (06_fabric.md R164; 06_fabric.md R165; 01_node.md R26;
03_modes.md R66; 03_modes.md R74) -/
def Obligations.FabricFaults : Prop :=
  (∀ (s : State) (im : Image) (cause : FabricCause) (tile : Fin 16),
      s.powered = true → s.image = some im → s.get R.FAB_STATUS_RUN ≠ 0 → (s.mode = 2 ∨ s.mode = 3 ∨ s.mode = 4) → 
    Does (.fabricFault cause tile) s reachFabricFault fun t =>
      t.get R.FAB_STATUS_RUN = 0
      ∧ t.get R.FAB_STATUS_FAULT = (match cause with | .stateEcc => 2 | .exchangeParity => 3 | .config => 4)
      ∧ t.get R.FAB_STATUS_FTILE = tile
      ∧ t.fabric.frame = none
      ∧ t.fabric.staged = []
      ∧ t.get R.POST_TIG_HELD = 0
      ∧ (t.get R.LK_HIRQ_CAUSE).testBit 3 = true
      ∧ t.mode = 5
      ∧ t.get R.NODE_MODE_ENTRY = 4
      ∧ (∀ leg : Fin 96, s.get (R.LEGn_CFG_ASSIGNED leg) = 1 → t.get (R.LEGn_STATUS_HELD leg) = 1 ∧ legDebt t leg = 0)
      ∧ t.get R.POST_TIG_HWFAULT = 1)
  ∧ (∀ (s : State) (im : Image) (cause : FabricCause) (tile : Fin 16),
      s.powered = true → s.image = some im → s.get R.FAB_STATUS_RUN ≠ 0 → s.mode = 1 → 
    Does (.fabricFault cause tile) s reachFabricFault fun t =>
      t.get R.FAB_STATUS_RUN = 0
      ∧ t.get R.FAB_STATUS_FAULT = (match cause with | .stateEcc => 2 | .exchangeParity => 3 | .config => 4)
      ∧ t.get R.FAB_STATUS_FTILE = tile
      ∧ t.fabric.frame = none
      ∧ t.fabric.staged = []
      ∧ t.get R.POST_TIG_HELD = 0
      ∧ (t.get R.LK_HIRQ_CAUSE).testBit 3 = true
      ∧ t.mode = 1
      ∧ t.fabric.reinit = true
      ∧ t.get R.POST_TIG_HWFAULT = 1)
  ∧ (∀ (s : State) (cause : FabricCause) (tile : Fin 16), s.powered = true → (s.image = none ∨ s.get R.FAB_STATUS_RUN = 0) → 
    Does (.fabricFault cause tile) s (mask [] []) fun _ =>
      True)
  ∧ (∀ (s : State) (im : Image) (tile : Fin 16) (k : Nat),
      s.powered = true → s.image = some im → s.fabric.frame = some k → s.get R.FAB_STATUS_RUN ≠ 0 → (s.mode = 2 ∨ s.mode = 3 ∨ s.mode = 4) → 
    Does (.fabricOverrun tile) s reachFabricOverrun fun t =>
      t.get R.FAB_STATUS_RUN = 0
      ∧ t.get R.FAB_STATUS_FAULT = 1
      ∧ t.get R.FAB_STATUS_FTILE = tile
      ∧ t.fabric.frame = none
      ∧ t.fabric.staged = []
      ∧ t.get R.POST_TIG_HELD = 0
      ∧ (t.get R.LK_HIRQ_CAUSE).testBit 3 = true
      ∧ t.mode = 5
      ∧ t.get R.NODE_MODE_ENTRY = 4
      ∧ t.get R.POST_TIG_OVERRUN = 1
      ∧ t.getPair R.FAB_FAULTK_LO_K R.FAB_FAULTK_HI_K = k % 2 ^ 64)
  ∧ (∀ (s : State) (tile : Fin 16), s.powered = true → (s.image = none ∨ s.get R.FAB_STATUS_RUN = 0 ∨ s.fabric.frame = none) → 
    Does (.fabricOverrun tile) s (mask [] []) fun _ =>
      True)
  ∧ (∀ (s : State), s.powered = true → (s.mode = 2 ∨ s.mode = 3 ∨ s.mode = 4) → 
    Does .uncorrectableMemoryError s reachUncorrectableMemoryError fun t =>
      t.get R.POST_TIG_HWFAULT = 1
      ∧ t.get R.POST_TIG_HELD = 0
      ∧ t.mode = 5
      ∧ t.get R.NODE_MODE_ENTRY = 5
      ∧ (∀ leg : Fin 96, s.get (R.LEGn_CFG_ASSIGNED leg) = 1 → t.get (R.LEGn_STATUS_HELD leg) = 1 ∧ legDebt t leg = 0)
      ∧ t.get R.FAB_STATUS_RUN = 0)
  ∧ (∀ (s : State), s.powered = true → s.mode ≠ 2 → s.mode ≠ 3 → s.mode ≠ 4 → 
    Does .uncorrectableMemoryError s reachUncorrectableMemoryError fun t =>
      t.get R.POST_TIG_HWFAULT = 1
      ∧ t.get R.POST_TIG_HELD = 0
      ∧ t.mode = s.mode
      ∧ (s.role < 2 ∨ s.role = 5 → t.legs = s.legs))

/-- A command is accepted for its frame or refused with nothing queued; a START is a command to the bridge's START target. ACCEPT_COMMAND of an
enabled class whose source has that class, to a known target, neither late nor more than 60 s early, with room, enters the acceptance queue
last with its frame; a late one of the same kind adds one to POST_ACC.LATE and the queue stays. WIRE_TARGET_COMMAND does the same to a wire
target, and to any other target nothing. START is such a command to the bridge's START target, with no value: it enters the queue under the
same conditions and leaves the fabric alone until its frame; a class that is disabled or not enabled for the target queues nothing, and with
no such target or no image nothing changes. (02_postmark.md R48; 02_postmark.md R49; 02_postmark.md R50; 02_postmark.md R51;
04_forming_voltage.md R85; 05_forming_events.md R121) -/
def Obligations.CommandsToTargets : Prop :=
  (∀ (s : State) (c : Command),
      s.powered = true → (c.path ≠ 2 ∨ c.t ≠ 0) → c.source.toNat / 4096 = c.path → dAccept s c.path ≠ 0 → s.mode ≠ 6 → targetKnown s c.path c.target.toNat = true → s.postmark < frameStart s.fFrame (commandFrame s c.path c.t.toNat) → c.t.toNat + dAccept s c.path ≤ s.postmark + 60 * 2 ^ 32 → s.acceptance.length < 2048 → 
    Does (.acceptCommand c) s reachAcceptCommand fun t =>
      t.acceptance = s.acceptance ++ [⟨c.path, c.source.toNat, c.seq, c.target.toNat, c.value.toNat, c.t.toNat, commandFrame s c.path c.t.toNat,
          c.item⟩]
      ∧ t.get R.POST_ACC_LATE = s.get R.POST_ACC_LATE
      ∧ t.mode = s.mode)
  ∧ (∀ (s : State) (c : Command),
      s.powered = true → (c.path ≠ 2 ∨ c.t ≠ 0) → c.source.toNat / 4096 = c.path → dAccept s c.path ≠ 0 → s.mode ≠ 6 → targetKnown s c.path c.target.toNat = true → frameStart s.fFrame (commandFrame s c.path c.t.toNat) ≤ s.postmark → 
    Does (.acceptCommand c) s reachAcceptCommand fun t =>
      t.acceptance = s.acceptance
      ∧ t.get R.POST_ACC_LATE = min 65535 (s.get R.POST_ACC_LATE + 1)
      ∧ t.mode = s.mode)
  ∧ (∀ (s : State) (c : Command) (e : Target),
      s.powered = true → (c.path ≠ 2 ∨ c.t ≠ 0) → c.source.toNat / 4096 = c.path → dAccept s c.path ≠ 0 → s.mode ≠ 6 → targetKnown s c.path c.target.toNat = true → s.postmark < frameStart s.fFrame (commandFrame s c.path c.t.toNat) → c.t.toNat + dAccept s c.path ≤ s.postmark + 60 * 2 ^ 32 → s.acceptance.length < 2048 → targetRec s c.target.toNat = some e → e.kind = 0 → 
    Does (.wireTargetCommand c) s reachAcceptCommand fun t =>
      t.acceptance = s.acceptance ++ [⟨c.path, c.source.toNat, c.seq, c.target.toNat, c.value.toNat, c.t.toNat, commandFrame s c.path c.t.toNat,
          c.item⟩]
      ∧ t.fabric.wires = s.fabric.wires)
  ∧ (∀ (s : State) (c : Command),
      s.powered = true → (targetRec s c.target.toNat = none ∨ (targetRec s c.target.toNat).all (fun e => e.kind != 0) = true) → 
    Does (.wireTargetCommand c) s (mask [] []) fun _ =>
      True)
  ∧ (∀ (s : State) (im : Image) (bridge : Fin 16) (p : BitVec 64) (cls : Fin 4) (r : Target),
      s.powered = true → s.image = some im → im.targets.find? (fun x => x.kind == 1 && x.ref == bridge.val) = some r → (cls ≠ 2 ∨ p ≠ 0) → dAccept s cls ≠ 0 → s.mode ≠ 6 → targetKnown s cls r.id = true → s.postmark < frameStart s.fFrame (commandFrame s cls p.toNat) → p.toNat + dAccept s cls ≤ s.postmark + 60 * 2 ^ 32 → s.acceptance.length < 2048 → 
    Does (.start bridge p cls) s reachStart fun t =>
      t.acceptance = s.acceptance ++ [⟨cls, cls * 4096, 0, r.id, 0, p.toNat, commandFrame s cls p.toNat, commandEntry r.id (cls * 4096) 0 p.toNat⟩]
      ∧ t.fabric = s.fabric
      ∧ t.mode = s.mode)
  ∧ (∀ (s : State) (im : Image) (bridge : Fin 16) (p : BitVec 64) (cls : Fin 4) (r : Target),
      s.powered = true → s.image = some im → im.targets.find? (fun x => x.kind == 1 && x.ref == bridge.val) = some r → (dAccept s cls = 0 ∨ targetKnown s cls r.id = false) → 
    Does (.start bridge p cls) s reachStart fun t =>
      t.acceptance = s.acceptance
      ∧ t.fabric = s.fabric
      ∧ t.mode = s.mode)
  ∧ (∀ (s : State) (bridge : Fin 16) (p : BitVec 64) (cls : Fin 4),
      s.powered = true → (s.image = none ∨ s.image.all (fun im => (im.targets.any (fun x => x.kind == 1 && x.ref == bridge.val)) == false) = true) → 
    Does (.start bridge p cls) s (mask [] []) fun _ =>
      True)

/-- Safety inputs, STO and the insulation measurement, and what a cycle makes of them. SAFETY_CYCLE runs the next cycle: it counts consecutive
disagreements, permits exactly where no STO, demand, cause or LOCKOUT stands, and in LOCKOUT leaves internal STO on and every contactor off.
SAFETY_INPUT_CHANGE sets the two filtered levels of the input and no other. STO_INPUT shows both balls, and one low holds every leg at once.
A discrepancy of an input that has lasted DISC, or of the STO pair that has lasted 100 ms, is a fault that enters LOCKOUT in the next cycle;
with none nothing happens. INSULATION_MEASURE gives a result from two valid means in a row: two results below PARAM set FAULT, two at or
above it clear it. (14_safety.md R369; 14_safety.md R373; 14_safety.md R377; 14_safety.md R378; 14_safety.md R386; 14_safety.md R392) -/
def Obligations.SafetyInputs : Prop :=
  (∀ (s : State) (pilot : Nat) (agree : Bool), s.powered = true → 
    Does (.safetyCycle pilot agree) s reachSs1Timeout fun t =>
      t.safety.cycle = some (max (cycleNext s) (cycleAt s.postmark))
      ∧ t.safety.differ = (if agree then 0 else s.safety.differ + 1)
      ∧ ((plugInput (safetySect s)).isSome = true → t.get R.SAF_PLUG_CODE = pilot % 2 ^ 24)
      ∧ (t.get R.SAF_STATUS_PERMIT = 1 ↔ t.stoOn = false ∧ t.mode ≠ 7 ∧ t.safety.causes = [] ∧ t.get R.SAF_STATUS_DEMAND = 0 ∧ t.get R.SAF_STATUS_RFOFF = 0)
      ∧ (t.mode = s.mode ∨ t.mode = 7)
      ∧ (t.mode = 7 → t.get R.SAF_STATUS_ISTO = 1 ∧ ∀ n : Fin 4, (t.contactor n).on = false)
      ∧ t.safety.faults = []
      ∧ s.time.elapsed ≤ t.time.elapsed)
  ∧ (∀ (s : State) (input : Fin 8) (a b : Bool), s.powered = true → 
    Does (.safetyInputChange input a b) s (mask [] [.SAF_IN_LEVEL]) fun t =>
      (t.get R.SAF_IN_LEVEL).testBit (2 * input) = a
      ∧ (t.get R.SAF_IN_LEVEL).testBit (2 * input + 1) = b
      ∧ (∀ k : Fin 16, k.val ≠ 2 * input → k.val ≠ 2 * input + 1 → (t.get R.SAF_IN_LEVEL).testBit k = (s.get R.SAF_IN_LEVEL).testBit k))
  ∧ (∀ (s : State) (input : Fin 8) (e : Nat),
      s.powered = true → sget none s.safety.discSince input = some e → inputPlain (safetySect s) input = true → inputPair s input = 2 → (2,
      input.val) ∉ s.safety.causes → s.mode ≠ 7 → s.increment ≠ 0 → 
    Does (.discrepancy input) s reachSs1Timeout fun t =>
      t.mode = 7
      ∧ t.get R.NODE_MODE_LATCH ≠ 0
      ∧ t.get R.SAF_STATUS_ISTO = 1
      ∧ t.get R.SAF_STATUS_PERMIT = 0
      ∧ (∀ n : Fin 4, (t.contactor n).on = false)
      ∧ (∀ leg : Fin 96, s.get (R.LEGn_CFG_ASSIGNED leg) = 1 → t.get (R.LEGn_STATUS_HELD leg) = 1 ∧ legDebt t leg = 0)
      ∧ t.get R.NODE_MODE_ENTRY = 7
      ∧ (2, input.val) ∈ t.safety.causes
      ∧ usec (10000 * inDisc (safetySect s) input - 1) + e ≤ t.time.elapsed)
  ∧ (∀ (s : State) (input : Fin 8), s.powered = true → sget none s.safety.discSince input = none → 
    Does (.discrepancy input) s (mask [] []) fun _ =>
      True)
  ∧ (∀ (s : State) (a b : Bool), s.powered = true → (a = false ∨ b = false) → 
    Does (.stoInput a b) s (mask [.legs, .safety, .cycle] [.LEGn_STATUS_HELD, .LEGn_DEBT_D, .LEGn_DEBTMAX_D, .SAF_STATUS_STOA,
        .SAF_STATUS_STOB]) fun t =>
      t.get R.SAF_STATUS_STOA = (if a then 0 else 1)
      ∧ t.get R.SAF_STATUS_STOB = (if b then 0 else 1)
      ∧ t.safety = { s.safety with stoSince := if a = b then none else some (s.safety.stoSince.getD s.time.elapsed) }
      ∧ (∀ leg : Fin 96, s.get (R.LEGn_CFG_ASSIGNED leg) = 1 → t.get (R.LEGn_STATUS_HELD leg) = 1 ∧ legDebt t leg = 0)
      ∧ t.mode = s.mode)
  ∧ (∀ (s : State) (a b : Bool), s.powered = true → a = true → b = true → 
    Does (.stoInput a b) s (mask [.safety] [.SAF_STATUS_STOA, .SAF_STATUS_STOB]) fun t =>
      t.get R.SAF_STATUS_STOA = 0
      ∧ t.get R.SAF_STATUS_STOB = 0
      ∧ t.safety = { s.safety with stoSince := none })
  ∧ (∀ (s : State) (e : Nat), s.powered = true → s.safety.stoSince = some e → (3, 0) ∉ s.safety.causes → s.mode ≠ 7 → s.increment ≠ 0 → 
    Does .stoDiscrepancy s reachSs1Timeout fun t =>
      t.mode = 7
      ∧ t.get R.NODE_MODE_LATCH ≠ 0
      ∧ t.get R.SAF_STATUS_ISTO = 1
      ∧ t.get R.SAF_STATUS_PERMIT = 0
      ∧ (∀ n : Fin 4, (t.contactor n).on = false)
      ∧ (∀ leg : Fin 96, s.get (R.LEGn_CFG_ASSIGNED leg) = 1 → t.get (R.LEGn_STATUS_HELD leg) = 1 ∧ legDebt t leg = 0)
      ∧ t.get R.NODE_MODE_ENTRY = 7
      ∧ (3, 0) ∈ t.safety.causes
      ∧ usec 99999 + e ≤ t.time.elapsed)
  ∧ (∀ (s : State), s.powered = true → s.safety.stoSince = none → 
    Does .stoDiscrepancy s (mask [] []) fun _ =>
      True)
  ∧ (∀ (s : State) (mean : Int) (valid : Bool), s.powered = true → isoInput (safetySect s) = none → 
    Does (.insulationMeasure mean valid) s (mask [] []) fun _ =>
      True)
  ∧ (∀ (s : State) (mean : Int) (valid : Bool),
      s.powered = true → (isoInput (safetySect s)).isSome = true → (s.get R.NODE_MODE_QUIET = 1 ∨ valid = false) → 
    Does (.insulationMeasure mean valid) s (mask [.safety] []) fun t =>
      t.safety = { s.safety with isoMean := none, isoInj := s.get R.NODE_MODE_QUIET != 1 && drivesOuts s && !s.safety.isoInj })
  ∧ (∀ (s : State) (mean : Int), s.powered = true → (isoInput (safetySect s)).isSome = true → s.get R.NODE_MODE_QUIET ≠ 1 → s.safety.isoMean = none → 
    Does (.insulationMeasure mean true) s (mask [.safety] []) fun t =>
      t.safety = { s.safety with isoMean := some mean, isoInj := drivesOuts s && !s.safety.isoInj })
  ∧ (∀ (s : State) (mean m : Int) (i : Nat),
      s.powered = true → isoInput (safetySect s) = some i → s.get R.NODE_MODE_QUIET ≠ 1 → s.safety.isoMean = some m → 
    Does (.insulationMeasure mean true) s reachInsulationMeasure fun t =>
      t.safety.isoMean = some mean
      ∧ t.get R.SAF_ISO_VALID = 1
      ∧ t.get R.SAF_ISO_R_ISO = isoResult (mean - m).natAbs
      ∧ (isoResult (mean - m).natAbs < inParam (safetySect s) i → 1 ≤ s.safety.isoBelow → t.get R.SAF_ISO_FAULT = 1)
      ∧ (inParam (safetySect s) i ≤ isoResult (mean - m).natAbs → 1 ≤ s.safety.isoAbove → t.get R.SAF_ISO_FAULT = 0)
      ∧ (isoResult (mean - m).natAbs < inParam (safetySect s) i → s.safety.isoBelow = 0 → t.get R.SAF_ISO_FAULT = s.get R.SAF_ISO_FAULT)
      ∧ (isoResult (mean - m).natAbs < 10 * inDisc (safetySect s) i → t.get R.SAF_ISO_WARN = 1))

/-- Contactor outputs: test pulses, readback, feedback and the delays of a reaction. TEST_PULSE_REQUEST marks exactly the asked outputs that are
tested. TEST_PULSE_END returns the ball to its command at TP_LEN: a good result sets PASS and counts, a discarded one only DISCARD, a failed
one, like OUTPUT_READBACK and a FEEDBACK level that contradicts its output after T_FB, is a fault that enters LOCKOUT in the next cycle with
every contactor off; a FEEDBACK level without a new fault only shows. SS1_TIMEOUT and CONTACTOR_OPEN_DELAY carry out the reaction's step in
the cycle at which its delay ends, and CONLOCK_RELEASE unlocks once the contactors have been confirmed open for the time; each does nothing
where nothing of its kind waits. (14_safety.md R376; 14_safety.md R379; 14_safety.md R380; 14_safety.md R381; 14_safety.md R382;
14_safety.md R383; 14_safety.md R391) -/
def Obligations.SafetyOutputs : Prop :=
  (∀ (s : State) (r : Requester) (v : Word), s.serves r.num = true → 
    Does (.testPulseRequest r v) s (mask [.safety] []) fun t =>
      t.safety = { s.safety with tpReq := t.safety.tpReq }
      ∧ (∀ o : Fin 8,
          t.safety.tpReq.testBit o = (s.safety.tpReq.testBit o || (v.toNat.testBit o && outUse (safetySect s) (o / 2) && outTpEn (safetySect s) (o / 2)))))
  ∧ (∀ (s : State) (n : Fin 4) (output : Fin 8) (e : Nat),
      s.powered = true → output.val = 2 * n + 0 → (s.contactor n).pulseA = some e → (s.contactor n).discA = false → s.safety.faults = [] → 
    Does (.testPulseEnd output true) s reachTestPulseEnd fun t =>
      t.get R.SAF_CNT_TPDONE = min 65535 (s.get R.SAF_CNT_TPDONE + 1)
      ∧ (t.get R.SAF_TPRES_PASS).testBit output = true
      ∧ (t.contactor n).pulseA = none
      ∧ (t.contactor n).pulseB = (s.contactor n).pulseB
      ∧ t.mode = s.mode
      ∧ t.safety.causes = s.safety.causes)
  ∧ (∀ (s : State) (n : Fin 4) (output : Fin 8) (e : Nat),
      s.powered = true → output.val = 2 * n + 1 → (s.contactor n).pulseB = some e → (s.contactor n).discB = false → s.safety.faults = [] → 
    Does (.testPulseEnd output true) s reachTestPulseEnd fun t =>
      t.get R.SAF_CNT_TPDONE = min 65535 (s.get R.SAF_CNT_TPDONE + 1)
      ∧ (t.get R.SAF_TPRES_PASS).testBit output = true
      ∧ (t.contactor n).pulseB = none
      ∧ (t.contactor n).pulseA = (s.contactor n).pulseA
      ∧ t.mode = s.mode
      ∧ t.safety.causes = s.safety.causes)
  ∧ (∀ (s : State) (n : Fin 4) (output : Fin 8) (e : Nat),
      s.powered = true → output.val = 2 * n + 0 → (s.contactor n).pulseA = some e → (s.contactor n).discA = true → s.safety.faults = [] → 
    Does (.testPulseEnd output false) s reachTestPulseEnd fun t =>
      (t.get R.SAF_TPRES_DISCARD).testBit output = true
      ∧ t.get R.SAF_CNT_TPDONE = s.get R.SAF_CNT_TPDONE
      ∧ (t.contactor n).pulseA = none
      ∧ t.mode = s.mode)
  ∧ (∀ (s : State) (n : Fin 4) (output : Fin 8) (e : Nat),
      s.powered = true → output.val = 2 * n + 1 → (s.contactor n).pulseB = some e → (s.contactor n).discB = true → s.safety.faults = [] → 
    Does (.testPulseEnd output false) s reachTestPulseEnd fun t =>
      (t.get R.SAF_TPRES_DISCARD).testBit output = true
      ∧ t.get R.SAF_CNT_TPDONE = s.get R.SAF_CNT_TPDONE
      ∧ (t.contactor n).pulseB = none
      ∧ t.mode = s.mode)
  ∧ (∀ (s : State) (n : Fin 4) (output : Fin 8) (e : Nat),
      s.powered = true → output.val = 2 * n + 0 → (s.contactor n).pulseA = some e → (s.contactor n).discA = false → s.safety.faults = [] → (4,
      output.val) ∉ s.safety.causes → s.mode ≠ 7 → 
    Does (.testPulseEnd output false) s reachTestPulseEnd fun t =>
      t.mode = 7
      ∧ t.get R.NODE_MODE_LATCH ≠ 0
      ∧ t.get R.SAF_STATUS_ISTO = 1
      ∧ t.get R.SAF_STATUS_PERMIT = 0
      ∧ (∀ n : Fin 4, (t.contactor n).on = false)
      ∧ (∀ leg : Fin 96, s.get (R.LEGn_CFG_ASSIGNED leg) = 1 → t.get (R.LEGn_STATUS_HELD leg) = 1 ∧ legDebt t leg = 0)
      ∧ t.get R.NODE_MODE_ENTRY = 7
      ∧ (4, output.val) ∈ t.safety.causes
      ∧ (t.get R.SAF_TPRES_PASS).testBit output = false
      ∧ t.get R.SAF_CNT_TPDONE = min 65535 (s.get R.SAF_CNT_TPDONE + 1))
  ∧ (∀ (s : State) (n : Fin 4) (output : Fin 8) (e : Nat),
      s.powered = true → output.val = 2 * n + 1 → (s.contactor n).pulseB = some e → (s.contactor n).discB = false → s.safety.faults = [] → (4,
      output.val) ∉ s.safety.causes → s.mode ≠ 7 → 
    Does (.testPulseEnd output false) s reachTestPulseEnd fun t =>
      t.mode = 7
      ∧ t.get R.NODE_MODE_LATCH ≠ 0
      ∧ t.get R.SAF_STATUS_ISTO = 1
      ∧ t.get R.SAF_STATUS_PERMIT = 0
      ∧ (∀ n : Fin 4, (t.contactor n).on = false)
      ∧ (∀ leg : Fin 96, s.get (R.LEGn_CFG_ASSIGNED leg) = 1 → t.get (R.LEGn_STATUS_HELD leg) = 1 ∧ legDebt t leg = 0)
      ∧ t.get R.NODE_MODE_ENTRY = 7
      ∧ (4, output.val) ∈ t.safety.causes
      ∧ (t.get R.SAF_TPRES_PASS).testBit output = false
      ∧ t.get R.SAF_CNT_TPDONE = min 65535 (s.get R.SAF_CNT_TPDONE + 1))
  ∧ (∀ (s : State) (n : Fin 4) (output : Fin 8) (ok : Bool),
      s.powered = true → n.val = output / 2 → (s.contactor n).pulseA = none → (s.contactor n).pulseB = none → s.safety.faults = [] → 
    Does (.testPulseEnd output ok) s (mask [] []) fun _ =>
      True)
  ∧ (∀ (s : State) (output : Fin 8), s.powered = true → drivesOuts s = false → 
    Does (.outputReadback output) s (mask [.cycle] [.NODE_TWIN_STAT_RB_DISAGREE]) fun t =>
      (s.role = 3 → s.linkUp = true → t.get R.NODE_TWIN_STAT_RB_DISAGREE = 1))
  ∧ (∀ (s : State) (output : Fin 8), s.powered = true → drivesOuts s = true → (5, output.val) ∉ s.safety.causes → s.mode ≠ 7 → 
    Does (.outputReadback output) s reachOutputReadback fun t =>
      t.mode = 7
      ∧ t.get R.NODE_MODE_LATCH ≠ 0
      ∧ t.get R.SAF_STATUS_ISTO = 1
      ∧ t.get R.SAF_STATUS_PERMIT = 0
      ∧ (∀ n : Fin 4, (t.contactor n).on = false)
      ∧ (∀ leg : Fin 96, s.get (R.LEGn_CFG_ASSIGNED leg) = 1 → t.get (R.LEGn_STATUS_HELD leg) = 1 ∧ legDebt t leg = 0)
      ∧ t.get R.NODE_MODE_ENTRY = 7
      ∧ (5, output.val) ∈ t.safety.causes)
  ∧ (∀ (s : State) (contact : Fin 8) (level : Bool), s.powered = true → (6,
      contact.val) ∉ faultsNew (s.put R.SAF_FB_LEVEL (setBit (s.get R.SAF_FB_LEVEL) contact level)) → 
    Does (.feedback contact level) s (mask [] [.SAF_FB_LEVEL]) fun t =>
      (t.get R.SAF_FB_LEVEL).testBit contact = level
      ∧ (∀ k : Fin 8, k ≠ contact → (t.get R.SAF_FB_LEVEL).testBit k = (s.get R.SAF_FB_LEVEL).testBit k))
  ∧ (∀ (s : State) (contact : Fin 8) (level : Bool), s.powered = true → (6,
      contact.val) ∈ faultsNew (s.put R.SAF_FB_LEVEL (setBit (s.get R.SAF_FB_LEVEL) contact level)) → s.mode ≠ 7 → 
    Does (.feedback contact level) s reachFeedback fun t =>
      t.mode = 7
      ∧ t.get R.NODE_MODE_LATCH ≠ 0
      ∧ t.get R.SAF_STATUS_ISTO = 1
      ∧ t.get R.SAF_STATUS_PERMIT = 0
      ∧ (∀ n : Fin 4, (t.contactor n).on = false)
      ∧ (∀ leg : Fin 96, s.get (R.LEGn_CFG_ASSIGNED leg) = 1 → t.get (R.LEGn_STATUS_HELD leg) = 1 ∧ legDebt t leg = 0)
      ∧ t.get R.NODE_MODE_ENTRY = 7
      ∧ (6, contact.val) ∈ t.safety.causes
      ∧ (t.get R.SAF_FB_LEVEL).testBit contact = level
      ∧ (t.get R.SAF_FB_MISMATCH).testBit contact = true)
  ∧ (∀ (s : State) (d : Demand),
      s.powered = true → s.safety.demands.find? (fun x => x.react == 1 && !x.stoDone) = some d → d.live = true → s.increment ≠ 0 → 
    Does .ss1Timeout s reachSs1Timeout fun t =>
      (∀ x ∈ t.safety.demands, x.src = d.src → x.react = 1 → x.at_ = d.at_ → x.tss1 = d.tss1 → x.stoDone = true ∧ x.toOpen = 0)
      ∧ (d.latch = true → t.mode = 7)
      ∧ (t.get R.SAF_STATUS_PERMIT = 1 ↔ t.stoOn = false ∧ t.mode ≠ 7 ∧ t.safety.causes = [] ∧ t.get R.SAF_STATUS_DEMAND = 0 ∧ t.get R.SAF_STATUS_RFOFF = 0)
      ∧ (t.mode = s.mode ∨ t.mode = 7)
      ∧ (t.mode = 7 → t.get R.SAF_STATUS_ISTO = 1 ∧ ∀ n : Fin 4, (t.contactor n).on = false)
      ∧ t.safety.faults = []
      ∧ s.time.elapsed ≤ t.time.elapsed)
  ∧ (∀ (s : State), s.powered = true → s.safety.demands.all (fun x => x.react != 1 || x.stoDone) = true → 
    Does .ss1Timeout s (mask [] []) fun _ =>
      True)
  ∧ (∀ (s : State) (output : Fin 4) (d : Demand),
      s.powered = true → s.safety.demands.find? (fun x => (x.react == 2 || x.react == 3) && x.toOpen.testBit output) = some d → d.live = true → s.increment ≠ 0 → 
    Does (.contactorOpenDelay output) s reachSs1Timeout fun t =>
      (∀ x ∈ t.safety.demands, x.src = d.src → x.react = d.react → x.at_ = d.at_ → x.toOpen.testBit output = false)
      ∧ (t.contactor output).on = false
      ∧ (t.get R.SAF_STATUS_PERMIT = 1 ↔ t.stoOn = false ∧ t.mode ≠ 7 ∧ t.safety.causes = [] ∧ t.get R.SAF_STATUS_DEMAND = 0 ∧ t.get R.SAF_STATUS_RFOFF = 0)
      ∧ (t.mode = s.mode ∨ t.mode = 7)
      ∧ (t.mode = 7 → t.get R.SAF_STATUS_ISTO = 1 ∧ ∀ n : Fin 4, (t.contactor n).on = false)
      ∧ t.safety.faults = []
      ∧ s.time.elapsed ≤ t.time.elapsed)
  ∧ (∀ (s : State) (output : Fin 4),
      s.powered = true → s.safety.demands.all (fun x => (x.react != 2 && x.react != 3) || x.toOpen.testBit output == false) = true → 
    Does (.contactorOpenDelay output) s (mask [] []) fun _ =>
      True)
  ∧ (∀ (s : State) (e i : Nat), s.powered = true → s.safety.confirmed = some e → plugInput (safetySect s) = some i → s.increment ≠ 0 → 
    Does .conlockRelease s reachSs1Timeout fun t =>
      (t.safety.confirmed = some e → plugState t ≠ 1 → t.get R.SAF_PLUG_LOCKCMD = 0)
      ∧ (t.get R.SAF_STATUS_PERMIT = 1 ↔ t.stoOn = false ∧ t.mode ≠ 7 ∧ t.safety.causes = [] ∧ t.get R.SAF_STATUS_DEMAND = 0 ∧ t.get R.SAF_STATUS_RFOFF = 0)
      ∧ (t.mode = s.mode ∨ t.mode = 7)
      ∧ (t.mode = 7 → t.get R.SAF_STATUS_ISTO = 1 ∧ ∀ n : Fin 4, (t.contactor n).on = false)
      ∧ t.safety.faults = []
      ∧ s.time.elapsed ≤ t.time.elapsed)
  ∧ (∀ (s : State), s.powered = true → (s.safety.confirmed = none ∨ plugInput (safetySect s) = none) → 
    Does .conlockRelease s (mask [] []) fun _ =>
      True)

/-- A registered frame renews its connection only if every check passes. A frame that a site port does not take by its header is counted in
RXDROP and nothing else. REGISTERED_FRAME on a bus and address with one receive connection: a bad length, identifier or CRC-32C counts only
CRCC, then a bad CRC-32K only CRCK, then a sequence number outside the window only SEQ, then a bad time only TIME; a frame that passes
renews the connection: its expiry, sequence number and PERMIT, with FRESH where the expiry lies ahead. Where no connection listens nothing
changes. CONNECTION_EXPIRY makes the connection demand off in the next cycle. REGISTERED_FRAME_SEND sends one frame of the next sequence
number with the node's state from a send connection, from any other nothing. (14_safety.md R394; 14_safety.md R395; 14_safety.md R396;
14_safety.md R397; 14_safety.md R398) -/
def Obligations.RegisteredFrames : Prop :=
  (∀ (s : State) (bus : Fin 6) (addr : Word) (frame : Bytes) (head : SiteHead),
      s.linked = true → 4 ≤ bus.val → (¬ (beBytes 6 head.dst.toNat ∈ [portAddress (s.get R.NODE_IDENT_CLUSTER) (bus.val - 4) (s.get R.NODE_IDENT_NODE), siteMulticast, clusterMulticast (s.get R.NODE_IDENT_CLUSTER), [0x01, 0x1B, 0x19, 0, 0, 0], [0x01, 0x80, 0xC2, 0, 0, 0x0E]] ∧ head.ver = 1 ∧ (s.get (R.LK_SPn_CFG_CLF (bus.val - 4)) = 0 ∨ head.cluster.toNat = s.get R.NODE_IDENT_CLUSTER))) → 
    Does (.registeredFrame bus ⟨head, addr⟩ frame) s (mask [.cycle] [.LK_SPn_CNT_RXDROP]) fun t =>
      t.get (R.LK_SPn_CNT_RXDROP (bus.val - 4)) = min 65535 (s.get (R.LK_SPn_CNT_RXDROP (bus.val - 4)) + 1)
      ∧ Only [R.LK_SPn_CNT_RXDROP (bus.val - 4)] s t)
  ∧ (∀ (s : State) (bus : Fin 6) (addr : Word) (frame : Bytes) (head : SiteHead),
      s.linked = true → (bus.val < 4 ∨ headTakes s (bus.val - 4) 6 head = true) → (∀ k : Fin 16,
      connReceives (safetySect s) k = true → connBus (safetySect s) k = bus → connAddr (safetySect s) k ≠ addr.toNat) → 
    Does (.registeredFrame bus ⟨head, addr⟩ frame) s (mask [] []) fun _ =>
      True)
  ∧ (∀ (s : State) (bus : Fin 6) (addr : Word) (frame : Bytes) (j : Fin 16) (head : SiteHead),
      s.linked = true → (bus.val < 4 ∨ headTakes s (bus.val - 4) 6 head = true) → (connReceives (safetySect s) j = true ∧ connBus (safetySect s) j = bus ∧ connAddr (safetySect s) j = addr.toNat ∧ (∀ k : Fin 16, k ≠ j → connReceives (safetySect s) k = true → connBus (safetySect s) k = bus → connAddr (safetySect s) k ≠ addr.toNat)) → (frame.length < 24 + frameField frame 14 1 ∨ frameField frame 14 1 = 0 ∨ 32 < frameField frame 14 1) → 
    Does (.registeredFrame bus ⟨head, addr⟩ frame) s (mask [.cycle] [.SAF_RFj_CNT_CRCC]) fun t =>
      t.get (R.SAF_RFj_CNT_CRCC j) = min 255 (s.get (R.SAF_RFj_CNT_CRCC j) + 1)
      ∧ Only [R.SAF_RFj_CNT_CRCC j] s t)
  ∧ (∀ (s : State) (bus : Fin 6) (addr : Word) (frame : Bytes) (j : Fin 16) (head : SiteHead),
      s.linked = true → (bus.val < 4 ∨ headTakes s (bus.val - 4) 6 head = true) → (connReceives (safetySect s) j = true ∧ connBus (safetySect s) j = bus ∧ connAddr (safetySect s) j = addr.toNat ∧ (∀ k : Fin 16, k ≠ j → connReceives (safetySect s) k = true → connBus (safetySect s) k = bus → connAddr (safetySect s) k ≠ addr.toNat)) → (24 + frameField frame 14 1 ≤ frame.length ∧ 1 ≤ frameField frame 14 1 ∧ frameField frame 14 1 ≤ 32) → connId (safetySect s) j ≠ frameField frame 0 2 → 
    Does (.registeredFrame bus ⟨head, addr⟩ frame) s (mask [.cycle] [.SAF_RFj_CNT_CRCC]) fun t =>
      t.get (R.SAF_RFj_CNT_CRCC j) = min 255 (s.get (R.SAF_RFj_CNT_CRCC j) + 1)
      ∧ Only [R.SAF_RFj_CNT_CRCC j] s t)
  ∧ (∀ (s : State) (bus : Fin 6) (addr : Word) (frame : Bytes) (j : Fin 16) (head : SiteHead),
      s.linked = true → (bus.val < 4 ∨ headTakes s (bus.val - 4) 6 head = true) → (connReceives (safetySect s) j = true ∧ connBus (safetySect s) j = bus ∧ connAddr (safetySect s) j = addr.toNat ∧ (∀ k : Fin 16, k ≠ j → connReceives (safetySect s) k = true → connBus (safetySect s) k = bus → connAddr (safetySect s) k ≠ addr.toNat)) → (24 + frameField frame 14 1 ≤ frame.length ∧ 1 ≤ frameField frame 14 1 ∧ frameField frame 14 1 ≤ 32) → connId (safetySect s) j = frameField frame 0 2 → frameField frame (16 + frameField frame 14 1) 4 ≠ crc32c (frame.take (16 + frameField frame 14 1)) → 
    Does (.registeredFrame bus ⟨head, addr⟩ frame) s (mask [.cycle] [.SAF_RFj_CNT_CRCC]) fun t =>
      t.get (R.SAF_RFj_CNT_CRCC j) = min 255 (s.get (R.SAF_RFj_CNT_CRCC j) + 1)
      ∧ Only [R.SAF_RFj_CNT_CRCC j] s t)
  ∧ (∀ (s : State) (bus : Fin 6) (addr : Word) (frame : Bytes) (j : Fin 16) (head : SiteHead),
      s.linked = true → (bus.val < 4 ∨ headTakes s (bus.val - 4) 6 head = true) → (connReceives (safetySect s) j = true ∧ connBus (safetySect s) j = bus ∧ connAddr (safetySect s) j = addr.toNat ∧ (∀ k : Fin 16, k ≠ j → connReceives (safetySect s) k = true → connBus (safetySect s) k = bus → connAddr (safetySect s) k ≠ addr.toNat)) → (24 + frameField frame 14 1 ≤ frame.length ∧ 1 ≤ frameField frame 14 1 ∧ frameField frame 14 1 ≤ 32) → connId (safetySect s) j = frameField frame 0 2 → frameField frame (16 + frameField frame 14 1) 4 = crc32c (frame.take (16 + frameField frame 14 1)) → frameField frame (20 + frameField frame 14 1) 4 ≠ crc32k (connSecret (safetySect s) j) (frame.take (16 + frameField frame 14 1)) → 
    Does (.registeredFrame bus ⟨head, addr⟩ frame) s (mask [.cycle] [.SAF_RFj_CNT_CRCK]) fun t =>
      t.get (R.SAF_RFj_CNT_CRCK j) = min 255 (s.get (R.SAF_RFj_CNT_CRCK j) + 1)
      ∧ Only [R.SAF_RFj_CNT_CRCK j] s t)
  ∧ (∀ (s : State) (bus : Fin 6) (addr : Word) (frame : Bytes) (j : Fin 16) (head : SiteHead),
      s.linked = true → (bus.val < 4 ∨ headTakes s (bus.val - 4) 6 head = true) → (connReceives (safetySect s) j = true ∧ connBus (safetySect s) j = bus ∧ connAddr (safetySect s) j = addr.toNat ∧ (∀ k : Fin 16, k ≠ j → connReceives (safetySect s) k = true → connBus (safetySect s) k = bus → connAddr (safetySect s) k ≠ addr.toNat)) → (24 + frameField frame 14 1 ≤ frame.length ∧ 1 ≤ frameField frame 14 1 ∧ frameField frame 14 1 ≤ 32) → connId (safetySect s) j = frameField frame 0 2 → frameField frame (16 + frameField frame 14 1) 4 = crc32c (frame.take (16 + frameField frame 14 1)) → frameField frame (20 + frameField frame 14 1) 4 = crc32k (connSecret (safetySect s) j) (frame.take (16 + frameField frame 14 1)) → ((frameField frame 15 1).testBit 0 = false ∧ (((frameField frame 2 2 + 65536 - (s.conn j).seq) % 65536) = 0 ∨ connSeqwin (safetySect s) j < ((frameField frame 2 2 + 65536 - (s.conn j).seq) % 65536))) → 
    Does (.registeredFrame bus ⟨head, addr⟩ frame) s (mask [.cycle] [.SAF_RFj_CNT_SEQ]) fun t =>
      t.get (R.SAF_RFj_CNT_SEQ j) = min 255 (s.get (R.SAF_RFj_CNT_SEQ j) + 1)
      ∧ Only [R.SAF_RFj_CNT_SEQ j] s t)
  ∧ (∀ (s : State) (bus : Fin 6) (addr : Word) (frame : Bytes) (j : Fin 16) (head : SiteHead),
      s.linked = true → (bus.val < 4 ∨ headTakes s (bus.val - 4) 6 head = true) → (connReceives (safetySect s) j = true ∧ connBus (safetySect s) j = bus ∧ connAddr (safetySect s) j = addr.toNat ∧ (∀ k : Fin 16, k ≠ j → connReceives (safetySect s) k = true → connBus (safetySect s) k = bus → connAddr (safetySect s) k ≠ addr.toNat)) → (24 + frameField frame 14 1 ≤ frame.length ∧ 1 ≤ frameField frame 14 1 ∧ frameField frame 14 1 ≤ 32) → connId (safetySect s) j = frameField frame 0 2 → frameField frame (16 + frameField frame 14 1) 4 = crc32c (frame.take (16 + frameField frame 14 1)) → frameField frame (20 + frameField frame 14 1) 4 = crc32k (connSecret (safetySect s) j) (frame.take (16 + frameField frame 14 1)) → ((frameField frame 15 1).testBit 0 = true ∨ ((frameField frame 2 2 + 65536 - (s.conn j).seq) % 65536) ≠ 0 ∧ ((frameField frame 2 2 + 65536 - (s.conn j).seq) % 65536) ≤ connSeqwin (safetySect s) j) → frameTimeBad s j (frameField frame 4 8) (frameField frame 12 2) s.postmark = true → 
    Does (.registeredFrame bus ⟨head, addr⟩ frame) s (mask [.cycle] [.SAF_RFj_CNT_TIME]) fun t =>
      t.get (R.SAF_RFj_CNT_TIME j) = min 255 (s.get (R.SAF_RFj_CNT_TIME j) + 1)
      ∧ Only [R.SAF_RFj_CNT_TIME j] s t)
  ∧ (∀ (s : State) (bus : Fin 6) (addr : Word) (frame : Bytes) (j : Fin 16) (head : SiteHead),
      s.linked = true → (bus.val < 4 ∨ headTakes s (bus.val - 4) 6 head = true) → (connReceives (safetySect s) j = true ∧ connBus (safetySect s) j = bus ∧ connAddr (safetySect s) j = addr.toNat ∧ (∀ k : Fin 16, k ≠ j → connReceives (safetySect s) k = true → connBus (safetySect s) k = bus → connAddr (safetySect s) k ≠ addr.toNat)) → (24 + frameField frame 14 1 ≤ frame.length ∧ 1 ≤ frameField frame 14 1 ∧ frameField frame 14 1 ≤ 32) → connId (safetySect s) j = frameField frame 0 2 → frameField frame (16 + frameField frame 14 1) 4 = crc32c (frame.take (16 + frameField frame 14 1)) → frameField frame (20 + frameField frame 14 1) 4 = crc32k (connSecret (safetySect s) j) (frame.take (16 + frameField frame 14 1)) → ((frameField frame 15 1).testBit 0 = true ∨ ((frameField frame 2 2 + 65536 - (s.conn j).seq) % 65536) ≠ 0 ∧ ((frameField frame 2 2 + 65536 - (s.conn j).seq) % 65536) ≤ connSeqwin (safetySect s) j) → frameTimeBad s j (frameField frame 4 8) (frameField frame 12 2) s.postmark = false → 
    Does (.registeredFrame bus ⟨head, addr⟩ frame) s reachRegisteredFrame fun t =>
      (t.conn j).expiry = some (if connTmode (safetySect s) j = true then s.postmark + texpUnits (frameField frame 12 2) else frameField frame 4 8 + texpUnits (frameField frame 12 2))
      ∧ (t.conn j).lastPm = (frameField frame 4 8)
      ∧ (t.conn j).seq = frameField frame 2 2
      ∧ (t.conn j).permit = (frameField frame 16 1).testBit 0
      ∧ (t.conn j).begun = true
      ∧ t.get (R.SAF_RFj_STAT_SEQ j) = frameField frame 2 2
      ∧ t.get (R.SAF_RFj_STAT_PERMIT j) = (if (frameField frame 16 1).testBit 0 then 1 else 0)
      ∧ t.get (R.SAF_RFj_STAT_FRESH j) = (if s.postmark < (if connTmode (safetySect s) j = true then s.postmark + texpUnits (frameField frame 12 2) else frameField frame 4 8 + texpUnits (frameField frame 12 2)) then 1 else 0)
      ∧ (∀ k : Fin 16, k ≠ j → t.conn k = s.conn k)
      ∧ t.get (R.SAF_RFj_CNT_CRCC j) = s.get (R.SAF_RFj_CNT_CRCC j))
  ∧ (∀ (s : State) (conn : Fin 16) (e : Nat),
      s.powered = true → (s.conn conn).expiry = some e → connReceives (safetySect s) conn = true → e < 2 ^ 63 → s.time.stopped = false → s.increment ≠ 0 → cyclePm (cycleNext s) < 2 ^ 63 → s.postmark < 2 ^ 63 → 
    Does (.connectionExpiry conn) s reachSs1Timeout fun t =>
      (t.get R.SAF_STATUS_RFOFF).testBit conn = true
      ∧ t.get (R.SAF_RFj_STAT_FRESH conn) = 0
      ∧ t.get R.SAF_STATUS_PERMIT = 0
      ∧ e ≤ t.postmark
      ∧ (∃ c ∈ t.safety.cycle, cycleNext s ≤ c)
      ∧ (t.get R.SAF_STATUS_PERMIT = 1 ↔ t.stoOn = false ∧ t.mode ≠ 7 ∧ t.safety.causes = [] ∧ t.get R.SAF_STATUS_DEMAND = 0 ∧ t.get R.SAF_STATUS_RFOFF = 0)
      ∧ (t.mode = s.mode ∨ t.mode = 7)
      ∧ (t.mode = 7 → t.get R.SAF_STATUS_ISTO = 1 ∧ ∀ n : Fin 4, (t.contactor n).on = false)
      ∧ t.safety.faults = []
      ∧ s.time.elapsed ≤ t.time.elapsed)
  ∧ (∀ (s : State) (conn : Fin 16), s.powered = true → (s.conn conn).expiry = none → 
    Does (.connectionExpiry conn) s (mask [] []) fun _ =>
      True)
  ∧ (∀ (s : State) (conn : Fin 16), s.linked = true → connSends (safetySect s) conn = true → 
    Does (.registeredFrameSend conn) s reachRegisteredFrameSend fun t =>
      (t.conn conn).seq = ((s.conn conn).seq + 1) % 65536
      ∧ t.get (R.SAF_RFj_STAT_SEQ conn) = ((s.conn conn).seq + 1) % 65536
      ∧ (t.conn conn).begun = true
      ∧ t.outbox.getLast? = (registeredSend s (connBus (safetySect s) conn) (connAddr (safetySect s) conn) (frameBytes (connId (safetySect s) conn) (((s.conn conn).seq + 1) % 65536) (t.conn conn).lastPm (connTexp (safetySect s) conn) (if (s.conn conn).begun then 0 else 1) (connSecret (safetySect s) conn) (statusData t))).outbox.getLast?
      ∧ t.safety.demands = s.safety.demands)
  ∧ (∀ (s : State) (conn : Fin 16), s.linked = true → connSends (safetySect s) conn = false → 
    Does (.registeredFrameSend conn) s (mask [] []) fun _ =>
      True)

/-- LRST: a press checks, and a valid release with nothing standing leaves LOCKOUT. LRST_PRESS shows PRESSED and in LOCKOUT starts the
self-check; while the node is off it is only remembered. LOCKOUT_SELF_CHECK_DONE of a running check clears, if passed, the causes that only
it clears. LRST_STUCK after 3 s sets STUCK. LRST_RELEASE shows how long it was pressed: under 100 ms only SHORT, over 3 s only STUCK,
outside LOCKOUT nothing more; in LOCKOUT a valid release after a finished check, with no cause and no demand left, enters STANDBY with ENTRY
9 and clears the latch; with a cause left or no check the node stays in LOCKOUT with the latch. (14_safety.md R385; 14_safety.md R386;
14_safety.md R387; 14_safety.md R388; 03_modes.md R72; 03_modes.md R73) -/
def Obligations.LockoutRelease : Prop :=
  (∀ (s : State), s.powered = true → 
    Does .lrstPress s (mask [.safety] [.SAF_LRST_PRESSED]) fun t =>
      t.get R.SAF_LRST_PRESSED = 1
      ∧ t.safety = { s.safety with press := some s.time.elapsed, stuck := false, selfCheck := false, selfRunning := s.mode == 7 })
  ∧ (∀ (s : State), s.powered = false → 
    Does .lrstPress s (mask [.safety] []) fun t =>
      t.safety = { s.safety with press := some s.time.elapsed })
  ∧ (∀ (s : State) (pass : Bool), s.powered = true → s.safety.selfRunning = true → 
    Does (.lockoutSelfCheckDone pass) s (mask [.safety] [.SAF_LOCK_OPEN]) fun t =>
      t.safety = { s.safety with selfRunning := false, selfCheck := true, causes := t.safety.causes }
      ∧ t.safety.causes = (if pass then s.safety.causes.filter (fun c => !(c.1 == 4 || c.1 == 5 || c.1 == 7 || c.1 == 9 || c.1 == 15)) else s.safety.causes)
      ∧ t.get R.SAF_LOCK_OPEN = min 255 t.safety.causes.length)
  ∧ (∀ (s : State) (pass : Bool), s.powered = true → s.safety.selfRunning = false → 
    Does (.lockoutSelfCheckDone pass) s (mask [] []) fun _ =>
      True)
  ∧ (∀ (s : State) (e : Nat), s.powered = true → s.safety.press = some e → 
    Does .lrstStuck s reachLrstStuck fun t =>
      t.get R.SAF_LRST_STUCK = 1
      ∧ (s.increment ≠ 0 → e + usec 3000001 ≤ t.time.elapsed)
      ∧ t.mode = s.mode
      ∧ t.safety = { s.safety with stuck := true }
      ∧ (s.safety.stuck = false → s.powered = true → (t.get R.LK_HIRQ_CAUSE).testBit 5 = true))
  ∧ (∀ (s : State), s.powered = true → s.safety.press = none → 
    Does .lrstStuck s (mask [] []) fun _ =>
      True)
  ∧ (∀ (s : State), s.powered = true → s.safety.press = none → 
    Does .lrstRelease s (mask [] []) fun _ =>
      True)
  ∧ (∀ (s : State), s.powered = false → 
    Does .lrstRelease s (mask [.safety] []) fun t =>
      t.safety = { s.safety with press := none })
  ∧ (∀ (s : State) (e : Nat), s.powered = true → s.safety.press = some e → (s.since e) + usec 1 < usec 100000 → 
    Does .lrstRelease s (mask [.safety, .cycle] [.SAF_LRST_PRESSED, .SAF_LRST_LAST, .SAF_LRST_SHORT]) fun t =>
      t.get R.SAF_LRST_SHORT = 1
      ∧ t.get R.SAF_LRST_PRESSED = 0
      ∧ t.get R.SAF_LRST_LAST = min 65535 ((s.since e) / usec 10000)
      ∧ t.safety = { s.safety with press := none })
  ∧ (∀ (s : State) (e : Nat), s.powered = true → s.safety.press = some e → usec 3000001 < (s.since e) → 
    Does .lrstRelease s reachLrstRelease fun t =>
      (s.safety.stuck = false → t.get R.SAF_LRST_STUCK = 1)
      ∧ t.get R.SAF_LRST_PRESSED = 0
      ∧ t.mode = s.mode
      ∧ t.get R.SAF_LRST_LAST = min 65535 ((s.since e) / usec 10000)
      ∧ t.safety = { s.safety with press := none, stuck := true })
  ∧ (∀ (s : State) (e : Nat),
      s.powered = true → s.safety.press = some e → usec 100000 ≤ (s.since e) + usec 1 → (s.since e) ≤ usec 3000001 → s.mode ≠ 7 → 
    Does .lrstRelease s (mask [.safety, .cycle] [.SAF_LRST_PRESSED, .SAF_LRST_LAST]) fun t =>
      t.get R.SAF_LRST_PRESSED = 0
      ∧ t.get R.SAF_LRST_LAST = min 65535 ((s.since e) / usec 10000)
      ∧ t.safety = { s.safety with press := none })
  ∧ (∀ (s : State) (e : Nat),
      s.powered = true → s.safety.press = some e → usec 100000 ≤ (s.since e) + usec 1 → (s.since e) ≤ usec 3000001 → s.mode = 7 → s.safety.selfCheck = true → s.safety.selfRunning = false → s.safety.causes = [] → s.safety.faults = [] → s.safety.stoSince = none → s.safety.demands = [] → s.image = none → s.get R.SEC_IMG_STATUS_ACT_MARK = 0 → 
    Does .lrstRelease s reachLrstRelease fun t =>
      t.mode = 1
      ∧ t.get R.NODE_MODE_ENTRY = 9
      ∧ t.get R.NODE_MODE_LATCH = 0
      ∧ t.get R.SAF_STATUS_ISTO = 0
      ∧ t.get R.SAF_LRST_PRESSED = 0
      ∧ t.safety.press = none)
  ∧ (∀ (s : State) (e : Nat),
      s.powered = true → s.safety.press = some e → usec 100000 ≤ (s.since e) + usec 1 → (s.since e) ≤ usec 3000001 → s.mode = 7 → (s.safety.selfCheck = false ∨ s.safety.selfRunning = true ∨ s.safety.causes.any (fun c => c.1 == 4 || c.1 == 5 || c.1 == 7 || c.1 == 9) = true) → s.get R.NODE_MODE_LATCH = 1 → 
    Does .lrstRelease s reachLrstRelease fun t =>
      t.mode = 7
      ∧ t.get R.NODE_MODE_LATCH = 1
      ∧ t.get R.SAF_STATUS_ISTO = 1
      ∧ t.get R.SAF_LRST_PRESSED = 0
      ∧ t.safety.press = none
      ∧ (∀ c ∈ s.safety.causes, (c.1 = 4 ∨ c.1 = 5 ∨ c.1 = 7 ∨ c.1 = 9) → c ∈ t.safety.causes))

/-- Opening, filling, committing, erasing and aborting an image slot. An operation on a busy slot, or on one another requester fills, only reads
CODE 0x60; OPEN or ERASE of the marked slot 0x62; COMMIT or ABORT of a slot that is not open 0x65. OPEN makes the slot WRITING, empty, and
the requester its owner; each data word goes to the next place and PTR follows it; past the slot's end it is only noted, and without a slot
of that requester it is an address error. COMMIT checks the image: VALID with its VERSION and IMAGE_ID, or REFUSED with the check's code,
0x63 where a word ran past the end. ERASE and ABORT leave the slot EMPTY. The other slots keep their states and words.
(07_structure_image.md R198; 07_structure_image.md R199; 07_structure_image.md R200) -/
def Obligations.ImageSlots : Prop :=
  (∀ (s : State) (r : Requester) (slot : Fin 4), s.serves r.num = true → slotBusy s r.num slot = true → 
    Does (.imgOpen r slot) s (mask [.outbox, .cycle] [.SEC_IMG_STATUS_CODE, .LK_HIRQ_CAUSE]) fun t =>
      t.get R.SEC_IMG_STATUS_CODE = 0x60
      ∧ (t.get R.LK_HIRQ_CAUSE).testBit 8 = true)
  ∧ (∀ (s : State) (r : Requester) (slot : Fin 4), s.serves r.num = true → slotBusy s r.num slot = true → 
    Does (.imgCommit r slot) s (mask [.outbox, .cycle] [.SEC_IMG_STATUS_CODE, .LK_HIRQ_CAUSE]) fun t =>
      t.get R.SEC_IMG_STATUS_CODE = 0x60
      ∧ (t.get R.LK_HIRQ_CAUSE).testBit 8 = true)
  ∧ (∀ (s : State) (r : Requester) (slot : Fin 4), s.serves r.num = true → slotBusy s r.num slot = true → 
    Does (.imgErase r slot) s (mask [.outbox, .cycle] [.SEC_IMG_STATUS_CODE, .LK_HIRQ_CAUSE]) fun t =>
      t.get R.SEC_IMG_STATUS_CODE = 0x60
      ∧ (t.get R.LK_HIRQ_CAUSE).testBit 8 = true)
  ∧ (∀ (s : State) (r : Requester) (slot : Fin 4), s.serves r.num = true → slotBusy s r.num slot = true → 
    Does (.imgAbort r slot) s (mask [.outbox, .cycle] [.SEC_IMG_STATUS_CODE, .LK_HIRQ_CAUSE]) fun t =>
      t.get R.SEC_IMG_STATUS_CODE = 0x60
      ∧ (t.get R.LK_HIRQ_CAUSE).testBit 8 = true)
  ∧ (∀ (s : State) (r : Requester) (slot : Fin 4), s.serves r.num = true → slotBusy s r.num slot = true → 
    Does (.imgActivate r slot) s (mask [.outbox, .cycle] [.SEC_IMG_STATUS_CODE, .LK_HIRQ_CAUSE]) fun t =>
      t.get R.SEC_IMG_STATUS_CODE = 0x60
      ∧ (t.get R.LK_HIRQ_CAUSE).testBit 8 = true)
  ∧ (∀ (s : State) (r : Requester) (slot : Fin 4), s.serves r.num = true → slotBusy s r.num slot = false → slotMarked s slot = true → 
    Does (.imgOpen r slot) s (mask [.outbox, .cycle] [.SEC_IMG_STATUS_CODE, .LK_HIRQ_CAUSE]) fun t =>
      t.get R.SEC_IMG_STATUS_CODE = 0x62
      ∧ (t.get R.LK_HIRQ_CAUSE).testBit 8 = true)
  ∧ (∀ (s : State) (r : Requester) (slot : Fin 4), s.serves r.num = true → slotBusy s r.num slot = false → slotMarked s slot = true → 
    Does (.imgErase r slot) s (mask [.outbox, .cycle] [.SEC_IMG_STATUS_CODE, .LK_HIRQ_CAUSE]) fun t =>
      t.get R.SEC_IMG_STATUS_CODE = 0x62
      ∧ (t.get R.LK_HIRQ_CAUSE).testBit 8 = true)
  ∧ (∀ (s : State) (r : Requester) (slot : Fin 4), s.serves r.num = true → slotBusy s r.num slot = false → sget none s.slots.opens slot = none → 
    Does (.imgCommit r slot) s (mask [.outbox, .cycle] [.SEC_IMG_STATUS_CODE, .LK_HIRQ_CAUSE]) fun t =>
      t.get R.SEC_IMG_STATUS_CODE = 0x65
      ∧ (t.get R.LK_HIRQ_CAUSE).testBit 8 = true)
  ∧ (∀ (s : State) (r : Requester) (slot : Fin 4), s.serves r.num = true → slotBusy s r.num slot = false → sget none s.slots.opens slot = none → 
    Does (.imgAbort r slot) s (mask [.outbox, .cycle] [.SEC_IMG_STATUS_CODE, .LK_HIRQ_CAUSE]) fun t =>
      t.get R.SEC_IMG_STATUS_CODE = 0x65
      ∧ (t.get R.LK_HIRQ_CAUSE).testBit 8 = true)
  ∧ (∀ (s : State) (r : Requester) (slot : Fin 4), s.serves r.num = true → slotBusy s r.num slot = false → slotMarked s slot = false → 
    Does (.imgOpen r slot) s (mask [.slots, .cycle, .outbox] [.SEC_IMG_PTR_OFS, .SEC_IMG_STATUS_CODE, .SEC_IMG_STATUS_STATE, .SEC_IMG_VERs_VER,
        .SEC_IMG_IDs_ID, .LK_HIRQ_CAUSE]) fun t =>
      slotState t slot = 1
      ∧ slotWords t slot = []
      ∧ sget none t.slots.opens slot = some (r.num, 0, false)
      ∧ t.slots.cur = some slot.val
      ∧ t.get R.SEC_IMG_PTR_OFS = 0
      ∧ t.get (R.SEC_IMG_VERs_VER slot) = 0
      ∧ t.get (R.SEC_IMG_IDs_ID slot) = 0
      ∧ t.get R.SEC_IMG_STATUS_CODE = 0
      ∧ (∀ k : Fin 4, k ≠ slot → slotState t k = slotState s k ∧ slotWords t k = slotWords s k))
  ∧ (∀ (s : State) (r : Requester) (v : Word) (n w : Nat), s.serves r.num = true → s.slots.cur = some n → sget none s.slots.opens n = some (r.num, w,
      false) → w < 1048576 → 
    Does (.imgDataWrite r v) s (mask [.slots, .links, .health, .cycle] [.NODE_ADDRERR_COUNT, .NODE_ADDRERR_REQ, .NODE_ADDRERR_KIND,
        .NODE_ADDRERR_ADDR_ADDR, .SEC_IMG_PTR_OFS, .HL_NVp_MAXW]) fun t =>
      sget 0 (slotWords t n) (w / 4) = v.toNat
      ∧ (∀ j : Nat, j ≠ w / 4 → sget 0 (slotWords t n) j = sget 0 (slotWords s n) j)
      ∧ sget none t.slots.opens n = some (r.num, w + 4, false)
      ∧ t.get R.SEC_IMG_PTR_OFS = (w + 4) % 2 ^ R.SEC_IMG_PTR_OFS.width
      ∧ (∀ k, k ≠ n → slotWords t k = slotWords s k))
  ∧ (∀ (s : State) (r : Requester) (v : Word) (n w : Nat) (o : Bool),
      s.serves r.num = true → s.slots.cur = some n → sget none s.slots.opens n = some (r.num, w, o) → 1048576 ≤ w → 
    Does (.imgDataWrite r v) s (mask [.slots] []) fun t =>
      sget none t.slots.opens n = some (r.num, w, true)
      ∧ t.slots.words = s.slots.words
      ∧ t.slots.cur = s.slots.cur)
  ∧ (∀ (s : State) (r : Requester) (v : Word),
      s.serves r.num = true → s.slots.cur.all (fun n => (sget none s.slots.opens n).all (fun o => o.1 != r.num)) = true → 
    Does (.imgDataWrite r v) s (mask [.links, .cycle] [.NODE_ADDRERR_COUNT, .NODE_ADDRERR_REQ, .NODE_ADDRERR_KIND, .NODE_ADDRERR_ADDR_ADDR]) fun t =>
      t.get R.NODE_ADDRERR_KIND = 5
      ∧ t.get R.NODE_ADDRERR_REQ = r.num
      ∧ t.get R.NODE_ADDRERR_ADDR_ADDR = 0x500804)
  ∧ (∀ (s : State) (r : Requester) (slot : Fin 4) (w : Nat),
      s.serves r.num = true → slotBusy s r.num slot = false → sget none s.slots.opens slot = some (r.num, w, true) → 
    Does (.imgCommit r slot) s reachImgCommit fun t =>
      slotState t slot = 3
      ∧ t.get R.SEC_IMG_STATUS_CODE = 0x63
      ∧ t.get R.SEC_IMG_WHERE_SECT = 0
      ∧ t.get R.SEC_IMG_WHERE_REC = 0
      ∧ slotOwner t slot = none
      ∧ (∀ k : Fin 4, k ≠ slot → slotState t k = slotState s k ∧ slotWords t k = slotWords s k))
  ∧ (∀ (s : State) (r : Requester) (slot : Fin 4) (w : Nat),
      s.serves r.num = true → slotBusy s r.num slot = false → sget none s.slots.opens slot = some (r.num, w, false) → 
    Does (.imgCommit r slot) s reachImgCommit fun t =>
      slotOwner t slot = none
      ∧ slotWords t slot = slotWords s slot
      ∧ (∀ f, checkImage (slotClose s slot) (slotWords s slot) slot w = some f → slotState t slot = 3 ∧ t.get R.SEC_IMG_STATUS_CODE = f.code % 256 ∧ t.get (R.SEC_IMG_VERs_VER slot) = 0 ∧ t.get (R.SEC_IMG_IDs_ID slot) = 0)
      ∧ (checkImage (slotClose s slot) (slotWords s slot) slot w = none → slotState t slot = 2 ∧ t.get R.SEC_IMG_STATUS_CODE = 0 ∧ t.get (R.SEC_IMG_VERs_VER slot) = rd32 (slotWords s slot) 0x1C % 2 ^ 32 ∧ t.get (R.SEC_IMG_IDs_ID slot) = rd32 (slotWords s slot) 0x18 % 2 ^ 32)
      ∧ (∀ k : Fin 4, k ≠ slot → slotState t k = slotState s k ∧ slotWords t k = slotWords s k))
  ∧ (∀ (s : State) (r : Requester) (slot : Fin 4), s.serves r.num = true → slotBusy s r.num slot = false → slotMarked s slot = false → 
    Does (.imgErase r slot) s (mask [.slots, .cycle, .outbox] [.SEC_IMG_STATUS_CODE, .SEC_IMG_STATUS_STATE, .SEC_IMG_VERs_VER, .SEC_IMG_IDs_ID,
        .LK_HIRQ_CAUSE]) fun t =>
      slotState t slot = 0
      ∧ slotWords t slot = []
      ∧ slotOwner t slot = none
      ∧ t.get (R.SEC_IMG_VERs_VER slot) = 0
      ∧ t.get (R.SEC_IMG_IDs_ID slot) = 0
      ∧ t.get R.SEC_IMG_STATUS_CODE = 0
      ∧ (∀ k : Fin 4, k ≠ slot → slotState t k = slotState s k ∧ slotWords t k = slotWords s k))
  ∧ (∀ (s : State) (r : Requester) (slot : Fin 4),
      s.serves r.num = true → slotBusy s r.num slot = false → (sget none s.slots.opens slot).isSome = true → 
    Does (.imgAbort r slot) s (mask [.slots, .cycle, .outbox] [.SEC_IMG_STATUS_CODE, .SEC_IMG_STATUS_STATE, .SEC_IMG_VERs_VER, .SEC_IMG_IDs_ID,
        .LK_HIRQ_CAUSE]) fun t =>
      slotState t slot = 0
      ∧ slotWords t slot = []
      ∧ slotOwner t slot = none
      ∧ t.get (R.SEC_IMG_VERs_VER slot) = 0
      ∧ t.get (R.SEC_IMG_IDs_ID slot) = 0
      ∧ t.get R.SEC_IMG_STATUS_CODE = 0
      ∧ (∀ k : Fin 4, k ≠ slot → slotState t k = slotState s k ∧ slotWords t k = slotWords s k))

/-- An image is activated at a frame start, and runs from the next. IMG_ACTIVATE outside STANDBY or in QUIET reads CODE 0x61, of a slot that is
not VALID 0x65; of a VALID one the image is checked again: it becomes REFUSED with the code, or BUSY is set and the activation waits.
ACTIVATION_STOP with no image active loads the slot's image with the fabric halted, every assigned leg held and at duty 0, the acceptance
queue and the trays empty, and marks the slot; outside STANDBY it ends the activation with 0x61. ACTIVATION_START makes the loaded image the
active one, CODE reads 0 and BUSY 0, and the fabric runs from the image. Either does nothing where no activation is at that step.
(07_structure_image.md R201; 07_structure_image.md R202; 02_postmark.md R55) -/
def Obligations.ImageActivation : Prop :=
  (∀ (s : State) (r : Requester) (slot : Fin 4), s.serves r.num = true → slotBusy s r.num slot = false → (s.mode ≠ 1 ∨ s.get R.NODE_MODE_QUIET = 1) → 
    Does (.imgActivate r slot) s (mask [.outbox, .cycle] [.SEC_IMG_STATUS_CODE, .LK_HIRQ_CAUSE]) fun t =>
      t.get R.SEC_IMG_STATUS_CODE = 0x61
      ∧ (t.get R.LK_HIRQ_CAUSE).testBit 8 = true)
  ∧ (∀ (s : State) (r : Requester) (slot : Fin 4),
      s.serves r.num = true → slotBusy s r.num slot = false → s.mode = 1 → s.get R.NODE_MODE_QUIET ≠ 1 → slotState s slot ≠ 2 → 
    Does (.imgActivate r slot) s (mask [.outbox, .cycle] [.SEC_IMG_STATUS_CODE, .LK_HIRQ_CAUSE]) fun t =>
      t.get R.SEC_IMG_STATUS_CODE = 0x65
      ∧ (t.get R.LK_HIRQ_CAUSE).testBit 8 = true)
  ∧ (∀ (s : State) (r : Requester) (slot : Fin 4),
      s.serves r.num = true → slotBusy s r.num slot = false → s.mode = 1 → s.get R.NODE_MODE_QUIET ≠ 1 → slotState s slot = 2 → 
    Does (.imgActivate r slot) s reachImgActivate fun t =>
      (∀ f ∈ recheck s slot,
          slotState t slot = 3 ∧ t.get R.SEC_IMG_STATUS_CODE = f.code % 256 ∧ t.get (R.SEC_IMG_VERs_VER slot) = 0 ∧ t.get (R.SEC_IMG_IDs_ID slot) = 0 ∧ t.slots.activating = s.slots.activating)
      ∧ (recheck s slot = none → t.get R.SEC_IMG_STATUS_BUSY = 1 ∧ t.slots.activating = some (slot.val,
          1) ∧ slotState t slot = 2 ∧ t.get R.SEC_IMG_STATUS_CODE = s.get R.SEC_IMG_STATUS_CODE)
      ∧ (∀ k : Fin 4, k ≠ slot → slotState t k = slotState s k ∧ slotWords t k = slotWords s k)
      ∧ t.image = s.image)
  ∧ (∀ (s : State) (n : Nat), s.powered = true → s.slots.activating = some (n,
      1) → n < 4 → s.image = none → s.mode = 1 → s.get R.NODE_MODE_QUIET ≠ 1 → 
    Does .activationStop s reachActivationStop fun t =>
      t.slots.activating = some (n, 3)
      ∧ t.slots.loading = some (slotImage s n)
      ∧ t.image = none
      ∧ t.get R.SEC_IMG_STATUS_ACT_MARK = 1
      ∧ t.get R.SEC_IMG_STATUS_ACT_SLOT = n
      ∧ t.get R.FAB_STATUS_ACTIVE = 0
      ∧ t.get R.FAB_STATUS_RUN = 0
      ∧ t.acceptance = []
      ∧ t.office.trays = []
      ∧ t.mode = 1
      ∧ (∀ leg : Fin 96,
          leg.val < (slotImage s n).legs.length → t.get (R.LEGn_CFG_ASSIGNED leg) = 1 → t.get (R.LEGn_STATUS_HELD leg) = 1 ∧ t.get (R.LEGn_DUTY_ACT_DUTY leg) = 0 ∧ legDebt t leg = 0)
      ∧ t.get R.FAB_CFG_FRATE = 0)
  ∧ (∀ (s : State) (n : Nat), s.powered = true → s.slots.activating = some (n, 1) → s.image = none → (s.mode ≠ 1 ∨ s.get R.NODE_MODE_QUIET = 1) → 
    Does .activationStop s reachActivationStop fun t =>
      t.slots.activating = none
      ∧ t.get R.SEC_IMG_STATUS_CODE = 0x61
      ∧ t.get R.SEC_IMG_STATUS_BUSY = 0
      ∧ t.image = none
      ∧ t.mode = s.mode)
  ∧ (∀ (s : State), s.powered = true → s.slots.activating.all (fun x => x.2 != 1) = true → 
    Does .activationStop s (mask [] []) fun _ =>
      True)
  ∧ (∀ (s : State) (n : Nat) (im : Image), s.powered = true → s.slots.activating = some (n,
      3) → s.slots.loading = some im → s.mode = 1 → s.get R.NODE_MODE_QUIET ≠ 1 → s.acceptance = [] → s.hidden.held = [] → s.fabric.await = false → s.fabric.frame = none → 
    Does .activationStart s reachActivationStart fun t =>
      t.image = some im
      ∧ t.slots.activating = none
      ∧ t.slots.loading = none
      ∧ t.get R.FAB_STATUS_ACTIVE = 1
      ∧ t.get R.FAB_CFG_FRATE = im.frate % 2 ^ R.FAB_CFG_FRATE.width
      ∧ t.get R.SEC_IMG_STATUS_BUSY = 0
      ∧ t.get R.SEC_IMG_STATUS_CODE = 0
      ∧ t.get R.FAB_STATUS_RUN = 1
      ∧ t.fabric.reinit = false
      ∧ t.mode = 1
      ∧ (t.get R.LK_HIRQ_CAUSE).testBit 8 = true)
  ∧ (∀ (s : State), s.powered = true → (s.slots.activating.all (fun x => x.2 != 3) = true ∨ s.slots.loading = none) → 
    Does .activationStart s (mask [] []) fun _ =>
      True)

/-- What a host writes to an axis waits for the next evaluation, and only that axis changes. HOME, STOP and QSTOP each wait for the next
evaluation beside what waits already. ENABLE and DISABLE set AXn_EN at once; an ENABLE with the quadrature encoder after a power-down judges
its count, and REHOME_ADVISED is set unless the count held. TARGET_COMMIT with its low word in the requester's write shadow puts the 48-bit
target and lets it wait, in BOOT, LOCKOUT and REPLAY it sets TGTERR instead; SOFT_LIMIT_COMMIT puts the 48-bit limit and leaves the other;
without the low word either is an address error of kind 4. (19_aux_axes.md R487; 19_aux_axes.md R490; 19_aux_axes.md R493; 19_aux_axes.md
R494; 19_aux_axes.md R499; 02_postmark.md R63) -/
def Obligations.AxisCommands : Prop :=
  (∀ (s : State) (r : Requester) (axis : Fin 4), s.serves r.num = true → 
    Does (.home r axis) s (mask [.axes] []) fun t =>
      t.axis axis = { s.axis axis with req := { (s.axis axis).req with home := true } }
      ∧ (∀ k : Fin 4, k ≠ axis → t.axis k = s.axis k))
  ∧ (∀ (s : State) (r : Requester) (axis : Fin 4), s.serves r.num = true → 
    Does (.stop r axis) s (mask [.axes] []) fun t =>
      t.axis axis = { s.axis axis with req := { (s.axis axis).req with stop := true } }
      ∧ (∀ k : Fin 4, k ≠ axis → t.axis k = s.axis k))
  ∧ (∀ (s : State) (r : Requester) (axis : Fin 4), s.serves r.num = true → 
    Does (.qstop r axis) s (mask [.axes] []) fun t =>
      t.axis axis = { s.axis axis with req := { (s.axis axis).req with qstop := true } }
      ∧ (∀ k : Fin 4, k ≠ axis → t.axis k = s.axis k))
  ∧ (∀ (s : State) (r : Requester) (axis : Fin 4), s.serves r.num = true → ((s.axis axis).wasDown = false ∨ s.get (R.AXn_CFG_ENCMODE axis) ≠ 1) → 
    Does (.enable r axis) s (mask [.axes] []) fun t =>
      t.axis axis = { s.axis axis with enabled := true, dropEn := false }
      ∧ (∀ k : Fin 4, k ≠ axis → t.axis k = s.axis k))
  ∧ (∀ (s : State) (r : Requester) (axis : Fin 4), s.serves r.num = true → (s.axis axis).wasDown = true → s.get (R.AXn_CFG_ENCMODE axis) = 1 → 
    Does (.enable r axis) s (mask [.axes] [.AXn_STAT_REHOME_ADVISED]) fun t =>
      t.axis axis = { s.axis axis with enabled := true, dropEn := false, wasDown := false, downErr := false }
      ∧ (∀ k : Fin 4, k ≠ axis → t.axis k = s.axis k)
      ∧ (t.get (R.AXn_STAT_REHOME_ADVISED axis) = (if (s.axis axis).downErr = false ∧ (axCommand s axis (s.time.count + 1) - axEnc s axis).natAbs ≤ s.get (R.AXn_LCFG_CONFTOL axis) then s.get (R.AXn_STAT_REHOME_ADVISED axis) else 1))
      ∧ Only [R.AXn_STAT_REHOME_ADVISED axis] s t)
  ∧ (∀ (s : State) (r : Requester) (axis : Fin 4), s.serves r.num = true → 
    Does (.disable r axis) s (mask [.axes] []) fun t =>
      t.axis axis = { s.axis axis with enabled := false, dropEn := false }
      ∧ (∀ k : Fin 4, k ≠ axis → t.axis k = s.axis k))
  ∧ (∀ (s : State) (r : Requester) (axis : Fin 4) (lo hi : Word), s.serves r.num = true → (s.shadow r.num).wr = some (0x780018 + 0x1000 * axis.val,
      lo.toNat) → axMode s = true → 
    Does (.targetCommit r axis hi) s (mask [.axes, .shadows] [.AXn_TGT_LO_W, .AXn_TGT_HI_W]) fun t =>
      t.axis axis = { s.axis axis with req := { (s.axis axis).req with target := some (signed 48 (lo.toNat + hi.toNat * 2 ^ 32)) } }
      ∧ (∀ k : Fin 4, k ≠ axis → t.axis k = s.axis k)
      ∧ axGet t (R.AXn_TGT_LO_W axis) (R.AXn_TGT_HI_W axis) = (signed 48 (lo.toNat + hi.toNat * 2 ^ 32))
      ∧ (t.shadow r.num).wr = none)
  ∧ (∀ (s : State) (r : Requester) (axis : Fin 4) (lo hi : Word), s.serves r.num = true → (s.shadow r.num).wr = some (0x780018 + 0x1000 * axis.val,
      lo.toNat) → axMode s = false → 
    Does (.targetCommit r axis hi) s (mask [.shadows, .cycle] [.AXn_TGT_LO_W, .AXn_TGT_HI_W, .AXn_STAT_TGTERR]) fun t =>
      t.get (R.AXn_STAT_TGTERR axis) = 1
      ∧ axGet t (R.AXn_TGT_LO_W axis) (R.AXn_TGT_HI_W axis) = (signed 48 (lo.toNat + hi.toNat * 2 ^ 32))
      ∧ (t.shadow r.num).wr = none)
  ∧ (∀ (s : State) (r : Requester) (axis : Fin 4) (hi : Word), s.serves r.num = true → (∀ lo,
      (s.shadow r.num).wr ≠ some (0x780018 + 0x1000 * axis.val, lo)) → 
    Does (.targetCommit r axis hi) s (mask [.links, .cycle] [.NODE_ADDRERR_COUNT, .NODE_ADDRERR_REQ, .NODE_ADDRERR_KIND,
        .NODE_ADDRERR_ADDR_ADDR]) fun t =>
      t.get R.NODE_ADDRERR_KIND = 4
      ∧ t.get R.NODE_ADDRERR_REQ = r.num
      ∧ t.get R.NODE_ADDRERR_ADDR_ADDR = 0x78001C + 0x1000 * axis.val)
  ∧ (∀ (s : State) (r : Requester) (axis : Fin 4) (positive : Bool) (lo hi : Word),
      s.serves r.num = true → (s.shadow r.num).wr = some ((if positive = true then 0x780028 else 0x780030) + 0x1000 * axis.val, lo.toNat) → 
    Does (.softLimitCommit r axis positive hi) s (mask [.shadows] [.AXn_SLIMP_LO_W, .AXn_SLIMP_HI_W, .AXn_SLIMN_LO_W, .AXn_SLIMN_HI_W]) fun t =>
      axLimP t axis = (if positive = true then (signed 48 (lo.toNat + hi.toNat * 2 ^ 32)) else axLimP s axis)
      ∧ axLimN t axis = (if positive = true then axLimN s axis else (signed 48 (lo.toNat + hi.toNat * 2 ^ 32)))
      ∧ (t.shadow r.num).wr = none
      ∧ (∀ k : Fin 4, k ≠ axis → axLimP t k = axLimP s k ∧ axLimN t k = axLimN s k))
  ∧ (∀ (s : State) (r : Requester) (axis : Fin 4) (positive : Bool) (hi : Word), s.serves r.num = true → (∀ lo,
      (s.shadow r.num).wr ≠ some ((if positive = true then 0x780028 else 0x780030) + 0x1000 * axis.val, lo)) → 
    Does (.softLimitCommit r axis positive hi) s (mask [.links, .cycle] [.NODE_ADDRERR_COUNT, .NODE_ADDRERR_REQ, .NODE_ADDRERR_KIND,
        .NODE_ADDRERR_ADDR_ADDR]) fun t =>
      t.get R.NODE_ADDRERR_KIND = 4
      ∧ t.get R.NODE_ADDRERR_REQ = r.num
      ∧ t.get R.NODE_ADDRERR_ADDR_ADDR = (if positive = true then 0x78002C else 0x780034) + 0x1000 * axis.val)

/-- An evaluation takes what waits; edges, limits, faults and encoders act at once. AXIS_EVALUATION passes a tray tick whose number is a
multiple of 10, leaves nothing waiting, keeps a standing axis with nothing asked of it where it is, refuses a target outside the soft limits
with TGTERR, and brakes an axis in a quick stop by ASTOP. AXn_POS counts the steps made, and the steps placed lie after the evaluation; at a
stop the positions are in non-volatile memory. HOMING_EDGE in a search that looks for it makes the position read HOFS, HOMED, and stops; a
limit that trips on its tick undoes it with FAULT 1; LIMIT_SWITCH, DRIVER_FAULT and FOLLOWING_ERROR stop the axis quickly with HWLIM or
FAULT 1, 2 or 4 where they meet a motion or a homing they end. LATCH_EDGE keeps the first edge's positions. SSI_READ takes the reading as
the encoder position, and ENCODER_TRANSITION counts one step, or sets ENCERR where both lines changed. (19_aux_axes.md R488; 19_aux_axes.md
R489; 19_aux_axes.md R492; 19_aux_axes.md R493; 19_aux_axes.md R494; 19_aux_axes.md R495; 19_aux_axes.md R496; 19_aux_axes.md R497) -/
def Obligations.AxisMotion : Prop :=
  (∀ (s : State), s.powered = true → 
    Does .axisEvaluation s reachAxisEvaluation fun t =>
      (∃ n ∈ t.axisTick, n % 10 = 0 ∧ s.axisTick ≠ some n)
      ∧ (∀ k : Fin 4, (t.axis k).req = AxReq.none ∧ (t.axis k).edge = false)
      ∧ (∀ k : Fin 4, (s.axis k).req = AxReq.none → (s.axis k).target = none → axState s k = 0 → axState t k = 0 ∧ axPos t k = axPos s k)
      ∧ (∀ k : Fin 4,
          axState s k = 4 → (s.axis k).req = AxReq.none → (s.axis k).target = none → 0 ≤ (s.axis k).vel → (t.axis k).vel = max 0 ((s.axis k).vel - s.get (R.AXn_ASTOP_A k) * 2 ^ 32 / 100000) ∧ ((t.axis k).vel = 0 → axState t k = 0))
      ∧ (∀ k : Fin 4, ∀ x ∈ (s.axis k).req.target,
          (s.axis k).req = AxReq.mk false false false (some x) → axState s k = 0 → (s.axis k).target = none → (x < axLimN s k ∨ axLimP s k < x) → t.get (R.AXn_STAT_TGTERR k) = 1 ∧ axState t k = 0 ∧ axPos t k = axPos s k)
      ∧ (∀ k : Fin 4,
          (t.axis k).errSince.isSome = true ↔ t.get (R.AXn_LCFG_EFERR k) ≠ 0 ∧ t.get (R.AXn_LCFG_EFERR k) < (axCommand t k (t.time.count + 1) - axEnc t k).natAbs)
      ∧ (∀ k : Fin 4, (s.axis k).req = AxReq.none → axGet t (R.AXn_POS_LO_W k) (R.AXn_POS_HI_W k) = axCommand s k (t.time.count + 1))
      ∧ (∀ k : Fin 4, ∀ e ∈ (t.axis k).steps, e ∈ (s.axis k).steps ∨ t.time.count < e.1)
      ∧ (∀ k : Fin 4, axState s k ≠ 0 → axState t k = 0 → (s.axis k).req = AxReq.none → (t.axis k).target = none → sget (0,
          0) t.axisNv k = (axPos t k, axEnc t k)))
  ∧ (∀ (s : State) (axis : Fin 4) (tap : Fin 64), s.powered = true → (s.axis axis).homing = none → (s.axis axis).edge = true → 
    Does (.homingEdge axis tap) s (mask [.cycle] [.AXn_STAT_CHATTER]) fun t =>
      t.get (R.AXn_STAT_CHATTER axis) = min 65535 (s.get (R.AXn_STAT_CHATTER axis) + 1)
      ∧ Only [R.AXn_STAT_CHATTER axis] s t)
  ∧ (∀ (s : State) (axis : Fin 4) (tap : Fin 64), s.powered = true → (s.axis axis).homing = none → (s.axis axis).edge = false → 
    Does (.homingEdge axis tap) s (mask [] []) fun _ =>
      True)
  ∧ (∀ (s : State) (axis : Fin 4) (tap : Fin 64) (h : Homing),
      s.powered = true → (s.axis axis).homing = some h → axState s axis = 3 → h.armed = true → 
    Does (.homingEdge axis tap) s reachHomingEdge fun t =>
      axCommand t axis t.time.count = axGet s (R.AXn_HOFS_LO_W axis) (R.AXn_HOFS_HI_W axis)
      ∧ axEnc t axis = signed 48 (unsigned 48 (axEnc s axis + (axGet s (R.AXn_HOFS_LO_W axis) (R.AXn_HOFS_HI_W axis) - axCommand s axis s.time.count)))
      ∧ t.get (R.AXn_STAT_HOMED axis) = 1
      ∧ t.get (R.AXn_STAT_REHOME_ADVISED axis) = 0
      ∧ axState t axis = 2
      ∧ (t.axis axis).homing = none
      ∧ (t.axis axis).vel = (s.axis axis).vel
      ∧ (∀ k : Fin 4, k ≠ axis → t.axis k = s.axis k))
  ∧ (∀ (s : State) (axis : Fin 4) (tap : Fin 64) (h : Homing),
      s.powered = true → (s.axis axis).homing = some h → (axState s axis ≠ 3 ∨ h.armed = false) → 
    Does (.homingEdge axis tap) s (mask [] []) fun _ =>
      True)
  ∧ (∀ (s : State) (axis : Fin 4) (positive : Bool),
      s.powered = true → (s.axis axis).homing = none → (s.axis axis).homed.all (fun w => w.count != s.time.count || homeAbort w.search != positive) = true → axState s axis ≠ 0 → if positive = true then 0 < (s.axis axis).vel else (s.axis axis).vel < 0 → 
    Does (.limitSwitch axis positive) s (mask [.axes] [.AXn_STAT_HWLIM, .AXn_STAT_STATE]) fun t =>
      t.get (R.AXn_STAT_HWLIM axis) = 1
      ∧ axState t axis = 4
      ∧ (t.axis axis).target = none
      ∧ (∀ k : Fin 4, k ≠ axis → t.axis k = s.axis k))
  ∧ (∀ (s : State) (axis : Fin 4) (positive : Bool),
      s.powered = true → (s.axis axis).homing = none → (s.axis axis).homed.all (fun w => w.count != s.time.count || homeAbort w.search != positive) = true → (axState s axis = 0 ∨ ¬ (if positive = true then 0 < (s.axis axis).vel else (s.axis axis).vel < 0)) → 
    Does (.limitSwitch axis positive) s (mask [.axes] []) fun t =>
      t.axis axis = (if positive = true then { s.axis axis with limp := true } else { s.axis axis with limn := true })
      ∧ (∀ k : Fin 4, k ≠ axis → t.axis k = s.axis k))
  ∧ (∀ (s : State) (axis : Fin 4) (positive : Bool) (w : Homed),
      s.powered = true → (s.axis axis).homing = none → (s.axis axis).homed = some w → w.count = s.time.count → homeAbort w.search = positive → 
    Does (.limitSwitch axis positive) s reachLimitSwitch fun t =>
      t.get (R.AXn_STAT_HOMED axis) = 0
      ∧ t.get (R.AXn_STAT_FAULT axis) = 1
      ∧ t.get (R.AXn_STAT_REHOME_ADVISED axis) = w.advised % 2
      ∧ axPos t axis = signed 48 (unsigned 48 (axPos s axis - w.shift))
      ∧ axEnc t axis = signed 48 (unsigned 48 (axEnc s axis - w.shift))
      ∧ (t.get (R.AXn_STAT_STATE axis) = (if s.get (R.AXn_STAT_STATE axis) = 0 ∨ (s.axis axis).vel = 0 then 0 else 4))
      ∧ (∀ k : Fin 4, k ≠ axis → t.axis k = s.axis k))
  ∧ (∀ (s : State) (axis : Fin 4) (positive : Bool) (h : Homing), s.powered = true → (s.axis axis).homing = some h → homeAbort h = positive → 
    Does (.limitSwitch axis positive) s (mask [.axes, .axisNv] [.AXn_STAT_HOMED, .AXn_STAT_FAULT, .AXn_STAT_STATE]) fun t =>
      t.get (R.AXn_STAT_HOMED axis) = 0
      ∧ t.get (R.AXn_STAT_FAULT axis) = 1
      ∧ (t.axis axis).target = none
      ∧ (t.axis axis).homing = none
      ∧ (t.get (R.AXn_STAT_STATE axis) = (if s.get (R.AXn_STAT_STATE axis) = 0 ∨ (s.axis axis).vel = 0 then 0 else 4))
      ∧ (axState t axis = 0 → sget (0, 0) t.axisNv axis = (axPos t axis, axEnc t axis))
      ∧ (∀ k : Fin 4, k ≠ axis → t.axis k = s.axis k))
  ∧ (∀ (s : State) (axis : Fin 4) (positive : Bool) (h : Homing), s.powered = true → (s.axis axis).homing = some h → homeAbort h ≠ positive → 
    Does (.limitSwitch axis positive) s (mask [.axes] []) fun t =>
      (t.axis axis).homing = some { h with armed := true }
      ∧ (t.axis axis).vel = (s.axis axis).vel
      ∧ (∀ k : Fin 4, k ≠ axis → t.axis k = s.axis k))
  ∧ (∀ (s : State) (axis : Fin 4), s.powered = true → (s.axis axis).homing = none → axState s axis = 0 → s.get (R.AXn_CFG_ENCMODE axis) ≠ 0 → 
    Does (.driverFault axis) s (mask [.axes] []) fun t =>
      t.axis axis = { s.axis axis with wasDown := true, downErr := false }
      ∧ (∀ k : Fin 4, k ≠ axis → t.axis k = s.axis k))
  ∧ (∀ (s : State) (axis : Fin 4), s.powered = true → (s.axis axis).homing = none → axState s axis ≠ 0 → s.get (R.AXn_CFG_ENCMODE axis) ≠ 0 → 
    Does (.driverFault axis) s (mask [.axes, .axisNv] [.AXn_STAT_FAULT, .AXn_STAT_STATE]) fun t =>
      t.get (R.AXn_STAT_FAULT axis) = 2
      ∧ (t.axis axis).wasDown = true
      ∧ (t.axis axis).target = none
      ∧ (t.axis axis).homing = none
      ∧ (t.get (R.AXn_STAT_STATE axis) = (if s.get (R.AXn_STAT_STATE axis) = 0 ∨ (s.axis axis).vel = 0 then 0 else 4))
      ∧ (axState t axis = 0 → sget (0, 0) t.axisNv axis = (axPos t axis, axEnc t axis))
      ∧ (∀ k : Fin 4, k ≠ axis → t.axis k = s.axis k))
  ∧ (∀ (s : State) (axis : Fin 4), s.powered = true → (s.axis axis).homing.isSome = true → 
    Does (.driverFault axis) s (mask [.axes, .axisNv] [.AXn_STAT_HOMED, .AXn_STAT_REHOME_ADVISED, .AXn_STAT_FAULT, .AXn_STAT_STATE]) fun t =>
      t.get (R.AXn_STAT_HOMED axis) = 0
      ∧ t.get (R.AXn_STAT_FAULT axis) = 2
      ∧ t.get (R.AXn_STAT_REHOME_ADVISED axis) = 1
      ∧ (t.axis axis).target = none
      ∧ (t.axis axis).homing = none
      ∧ (t.get (R.AXn_STAT_STATE axis) = (if s.get (R.AXn_STAT_STATE axis) = 0 ∨ (s.axis axis).vel = 0 then 0 else 4))
      ∧ (axState t axis = 0 → sget (0, 0) t.axisNv axis = (axPos t axis, axEnc t axis))
      ∧ (∀ k : Fin 4, k ≠ axis → t.axis k = s.axis k))
  ∧ (∀ (s : State) (axis : Fin 4),
      s.powered = true → ((s.get (R.AXn_LCFG_EFERR axis) ≠ 0 ∧ s.get (R.AXn_LCFG_EFERR axis) < (axCommand s axis (s.time.count + 1) - axEnc s axis).natAbs)) → 
    Does (.followingError axis) s reachFollowingError fun t =>
      t.get (R.AXn_STAT_FAULT axis) = 4
      ∧ (t.axis axis).target = none
      ∧ (t.axis axis).homing = none
      ∧ (s.increment ≠ 0 → (s.axis axis).errSince.getD s.time.elapsed + usec 1000 ≤ t.time.elapsed)
      ∧ (t.get (R.AXn_STAT_STATE axis) = (if s.get (R.AXn_STAT_STATE axis) = 0 ∨ (s.axis axis).vel = 0 then 0 else 4))
      ∧ (∀ k : Fin 4, k ≠ axis → t.axis k = s.axis k))
  ∧ (∀ (s : State) (axis : Fin 4),
      s.powered = true → (¬ (s.get (R.AXn_LCFG_EFERR axis) ≠ 0 ∧ s.get (R.AXn_LCFG_EFERR axis) < (axCommand s axis (s.time.count + 1) - axEnc s axis).natAbs)) → 
    Does (.followingError axis) s (mask [.axes] []) fun t =>
      t.axis axis = { s.axis axis with errSince := none }
      ∧ (∀ k : Fin 4, k ≠ axis → t.axis k = s.axis k))
  ∧ (∀ (s : State) (axis : Fin 4) (tap : Fin 64), s.powered = true → s.get (R.AXn_STAT_LVALID axis) ≠ 1 → 
    Does (.latchEdge axis tap) s (mask [.cycle] [.AXn_STAT_LVALID, .AXn_LPOS_LO_W, .AXn_LPOS_HI_W, .AXn_LENC_LO_W, .AXn_LENC_HI_W, .AXn_LPM_LO_W,
        .AXn_LPM_HI_W]) fun t =>
      axGet t (R.AXn_LPOS_LO_W axis) (R.AXn_LPOS_HI_W axis) = axCommand s axis s.time.count
      ∧ axGet t (R.AXn_LENC_LO_W axis) (R.AXn_LENC_HI_W axis) = axEnc s axis
      ∧ t.get (R.AXn_STAT_LVALID axis) = 1
      ∧ t.get (R.AXn_LPM_LO_W axis) = s.finePostmarkTap tap / 256 % 2 ^ 32
      ∧ axPos t axis = axPos s axis)
  ∧ (∀ (s : State) (axis : Fin 4) (tap : Fin 64), s.powered = true → s.get (R.AXn_STAT_LVALID axis) = 1 → 
    Does (.latchEdge axis tap) s (mask [] []) fun _ =>
      True)
  ∧ (∀ (s : State) (axis : Fin 4) (bits : Word), s.powered = true → s.get (R.AXn_CFG_ENCMODE axis) ≠ 2 → 
    Does (.ssiRead axis bits) s (mask [] []) fun _ =>
      True)
  ∧ (∀ (s : State) (axis : Fin 4) (bits : Word), s.powered = true → s.get (R.AXn_CFG_ENCMODE axis) = 2 → 
    Does (.ssiRead axis bits) s (mask [.axes] [.AXn_ENC_LO_W, .AXn_ENC_HI_W, .AXn_STAT_REHOME_ADVISED]) fun t =>
      axEnc t axis = (if s.get (R.AXn_CFG_EGRAY axis) = 1 then (fromGray (s.get (R.AXn_CFG_EBITS axis) + 1) (bits.toNat % 2 ^ (s.get (R.AXn_CFG_EBITS axis) + 1)) : Int) else ((bits.toNat % 2 ^ (s.get (R.AXn_CFG_EBITS axis) + 1) : Nat) : Int))
      ∧ (t.axis axis).wasDown = false
      ∧ (t.get (R.AXn_STAT_REHOME_ADVISED axis) = (if (s.axis axis).wasDown = true ∧ s.get (R.AXn_LCFG_CONFTOL axis) < ((if s.get (R.AXn_CFG_EGRAY axis) = 1 then (fromGray (s.get (R.AXn_CFG_EBITS axis) + 1) (bits.toNat % 2 ^ (s.get (R.AXn_CFG_EBITS axis) + 1)) : Int) else ((bits.toNat % 2 ^ (s.get (R.AXn_CFG_EBITS axis) + 1) : Nat) : Int)) - axEnc s axis).natAbs then 1 else s.get (R.AXn_STAT_REHOME_ADVISED axis)))
      ∧ (∀ k : Fin 4, k ≠ axis → t.axis k = s.axis k))
  ∧ (∀ (s : State) (axis : Fin 4) (a b z : Bool), s.powered = true → s.get (R.AXn_CFG_ENCMODE axis) ≠ 1 → 
    Does (.encoderTransition axis a b z) s (mask [.axes] []) fun t =>
      t.axis axis = { s.axis axis with encA := a, encB := b, encZ := z }
      ∧ (∀ k : Fin 4, k ≠ axis → t.axis k = s.axis k))
  ∧ (∀ (s : State) (axis : Fin 4) (a b z : Bool),
      s.powered = true → s.get (R.AXn_CFG_ENCMODE axis) = 1 → (a != (s.axis axis).encA && b != (s.axis axis).encB) = true → 
    Does (.encoderTransition axis a b z) s (mask [.axes, .cycle] [.AXn_STAT_ENCERR, .AXn_STAT_ZSEEN, .AXn_ENC_LO_W, .AXn_ENC_HI_W]) fun t =>
      t.get (R.AXn_STAT_ENCERR axis) = 1
      ∧ axEnc t axis = axEnc s axis
      ∧ ((t.axis axis).encA = a ∧ (t.axis axis).encB = b ∧ (t.axis axis).encZ = z)
      ∧ t.get (R.AXn_STAT_ZSEEN axis) = (if z && !(s.axis axis).encZ then 1 else s.get (R.AXn_STAT_ZSEEN axis))
      ∧ ((s.axis axis).wasDown = true → (t.axis axis).downErr = true)
      ∧ (∀ k : Fin 4, k ≠ axis → t.axis k = s.axis k))
  ∧ (∀ (s : State) (axis : Fin 4) (a b z : Bool),
      s.powered = true → s.get (R.AXn_CFG_ENCMODE axis) = 1 → (a != (s.axis axis).encA && b != (s.axis axis).encB) = false → 
    Does (.encoderTransition axis a b z) s (mask [.axes, .cycle] [.AXn_STAT_ENCERR, .AXn_STAT_ZSEEN, .AXn_ENC_LO_W, .AXn_ENC_HI_W]) fun t =>
      t.get (R.AXn_STAT_ENCERR axis) = s.get (R.AXn_STAT_ENCERR axis)
      ∧ axEnc t axis = signed 48 (unsigned 48 (axEnc s axis + (if ((quadrature a b - quadrature (s.axis axis).encA (s.axis axis).encB) % 4) = 0 then 0 else if ((quadrature a b - quadrature (s.axis axis).encA (s.axis axis).encB) % 4) = 1 then 1 else -1)))
      ∧ ((t.axis axis).encA = a ∧ (t.axis axis).encB = b ∧ (t.axis axis).encZ = z)
      ∧ t.get (R.AXn_STAT_ZSEEN axis) = (if z && !(s.axis axis).encZ then 1 else s.get (R.AXn_STAT_ZSEEN axis))
      ∧ (∀ k : Fin 4, k ≠ axis → t.axis k = s.axis k))

/-- Health: samples, rings, hours, flushes, rewrites, links and the report. DIE_TEMP_SAMPLE shows the eight readings, adds the millisecond at
the die temperature's rate to the life used and to every partition's retention, and forms a report where a flag changed. RING_MEASURE shows
the drift of every ring and, outside QUIET, keeps the reading. HOURLY_UPDATE in RUN counts the hour and updates the rates; COUNTER_FLUSH
saves the counts as they are; RETENTION_REWRITE of a partition due restores it and counts one write; DC_LINK_WINDOW adds a fit that is
accepted to its link alone. REPORT_NOW and REPORT_PERIOD form a report of 832 bytes with the next sequence number and the flags. In QUIET
the hour and the period do nothing. (18_health.md R468; 18_health.md R469; 18_health.md R470; 18_health.md R473; 18_health.md R477;
18_health.md R478; 18_health.md R480; 18_health.md R483) -/
def Obligations.HealthCommands : Prop :=
  (∀ (s : State) (temps : List Int), s.powered = true → 
    Does (.dieTempSample temps) s reachDieTempSample fun t =>
      (∀ i : Fin 8, t.get (R.HL_TEMPs_T i) = unsigned 16 (temps.getD i 0) % 2 ^ 16)
      ∧ t.health.hc = s.health.hc + lifeRate ((dieTemp ((List.range 8).map (fun i => temps.getD i 0))).getD 19200) / 2 ^ 56 / 1000
      ∧ t.health.reportFlags = healthFlags t
      ∧ (∀ p : Fin 6,
          sget 0 t.health.retention p = sget 0 s.health.retention p + retentionUse ((dieTemp ((List.range 8).map (fun i => temps.getD i 0))).getD 19200) 1)
      ∧ t.health.runHours = s.health.runHours
      ∧ (dieTemp ((List.range 8).map (fun i => temps.getD i 0)) = none → t.health.flags.testBit 14 = true)
      ∧ s.time.elapsed ≤ t.time.elapsed)
  ∧ (∀ (s : State) (counts : List Nat), s.powered = true → 
    Does (.ringMeasure counts) s reachRingMeasure fun t =>
      (∀ r : Fin 16, t.get (R.HL_ROr_DRIFT r) = unsigned 24 (Config.ringDrift r (counts.getD r 0) (lastDie s)) % 2 ^ 24)
      ∧ t.get R.HL_NODE_RL = nodeLife t 0
      ∧ (s.get R.NODE_MODE_QUIET = 1 → t.health.rings = s.health.rings)
      ∧ (s.get R.NODE_MODE_QUIET ≠ 1 → t.health.rings.head? = some (runSeconds t,
          (List.range 16).map (fun r => Config.ringDrift r (counts.getD r 0) (lastDie s))) ∧ t.health.rings.all (fun e => runSeconds t ≤ e.1 + 3600000) = true))
  ∧ (∀ (s : State), s.powered = true → s.get R.NODE_MODE_QUIET ≠ 1 → 
    Does .hourlyUpdate s (mask [.time, .root, .fabric, .health, .cycle, .outbox] [.POST_STATUS_CHANGED, .POST_STATUS_STATE, .POST_TIG_TIMEBASE,
        .POST_TIG_HELD, .LK_HIRQ_CAUSE]) fun t =>
      t.health.runHours = s.health.runHours + 1
      ∧ t.health.hourAt = t.time.elapsed
      ∧ t.health.hcHour = s.health.hc
      ∧ t.health.hc = s.health.hc
      ∧ t.health.rT = rateUpdate (tauH (healthSect s)) s.health.rT (s.health.hc - s.health.hcHour)
      ∧ (s.increment ≠ 0 → s.health.hourAt + usec 3600000000 ≤ t.time.elapsed)
      ∧ (∀ leg : Fin 96, s.get (R.LEGn_CFG_ASSIGNED leg) = 1 → (legModel (healthSect s) (s.get (R.LEGn_CFG_BRIDGE leg))).isSome = true → sget (0,
          none) t.health.legHour leg = (legDamage s leg, rateUpdate (tauH (healthSect s)) (sget (0,
          none) s.health.legHour leg).2 (legDamage s leg - (sget (0, none) s.health.legHour leg).1))))
  ∧ (∀ (s : State), s.powered = true → s.get R.NODE_MODE_QUIET = 1 → 
    Does .hourlyUpdate s (mask [] []) fun _ =>
      True)
  ∧ (∀ (s : State), s.powered = true → 
    Does .counterFlush s reachCounterFlush fun t =>
      t.health.savedHc = s.health.hc
      ∧ t.health.savedRetention = s.health.retention
      ∧ t.health.savedLegs = s.health.legs
      ∧ t.health.savedOps = s.health.ops
      ∧ t.health.flushAt = t.time.elapsed
      ∧ (s.increment ≠ 0 → s.health.flushAt + usec 60000000 ≤ t.time.elapsed)
      ∧ sget 0 t.health.lines (3 * 2 ^ 20) = sget 0 s.health.lines (3 * 2 ^ 20) + 1
      ∧ t.health.hc = s.health.hc)
  ∧ (∀ (s : State) (part : Fin 6), s.powered = true → sget 0 s.health.due part ≠ 0 → 
    Does (.retentionRewrite part) s (mask [.health] [.HL_NVp_MAXW]) fun t =>
      sget 0 t.health.retention part = 0
      ∧ sget 0 t.health.due part = 0
      ∧ t.get (R.HL_NVp_MAXW part) = (s.get (R.HL_NVp_MAXW part) + 1) % 2 ^ 32
      ∧ sget 0 t.health.rewrites part = sget 0 s.health.rewrites part + 1
      ∧ (∀ q : Fin 6, q ≠ part → sget 0 t.health.retention q = sget 0 s.health.retention q)
      ∧ t.health.hc = s.health.hc
      ∧ Only [R.HL_NVp_MAXW part] s t)
  ∧ (∀ (s : State) (part : Fin 6), s.powered = true → sget 0 s.health.due part = 0 → 
    Does (.retentionRewrite part) s (mask [] []) fun _ =>
      True)
  ∧ (∀ (s : State) (link : Fin 4) (samples : List (Int × Int)) (o : Nat) (w : Nat × Nat),
      s.powered = true → dcModel (healthSect s) link = some o → s.mode ≠ 6 → fitWindow (healthSect s) o s.fFrame samples = some w → 
    Does (.dcLinkWindow link samples) s (mask [.health] []) fun t =>
      t.health = { s.health with dc := t.health.dc }
      ∧ (sget DcLink.none t.health.dc link).windows.head? = some (runSeconds s, w.1, w.2)
      ∧ (∀ l : Fin 4, l ≠ link → sget DcLink.none t.health.dc l = sget DcLink.none s.health.dc l)
      ∧ ((sget DcLink.none s.health.dc link).worn = true → (sget DcLink.none t.health.dc link).worn = true)
      ∧ ((sget DcLink.none t.health.dc link).windows.drop 64).all (fun e => runSeconds s ≤ e.1 + 3600000) = true)
  ∧ (∀ (s : State) (link : Fin 4) (samples : List (Int × Int)),
      s.powered = true → (s.mode = 6 ∨ (dcModel (healthSect s) link).all (fun o => (fitWindow (healthSect s) o s.fFrame samples).isNone) = true) → 
    Does (.dcLinkWindow link samples) s (mask [] []) fun _ =>
      True)
  ∧ (∀ (s : State) (r : Requester), s.serves r.num = true → 
    Does (.reportNow r) s reachReportNow fun t =>
      t.health.seq = s.health.seq + 1
      ∧ t.health.reportFlags = healthFlags s
      ∧ t.getPair R.HL_FLAGS_LO_F R.HL_FLAGS_HI_F = healthFlags s
      ∧ t.health.report.length = 832
      ∧ leNat (t.health.report.take 4) = 0x544C4842
      ∧ leNat ((t.health.report.drop 24).take 4) = s.health.seq % 2 ^ 32
      ∧ (t.get R.LK_HIRQ_CAUSE).testBit 13 = true
      ∧ t.health.hc = s.health.hc
      ∧ (∀ leg : Fin 96, s.get (R.LEGn_CFG_ASSIGNED leg) = 1 → t.get (R.HL_LEGn_D_D leg) = f32ofScaled (legDamage s leg) (-80) % 2 ^ 32)
      ∧ t.time = s.time)
  ∧ (∀ (s : State), s.powered = true → s.get R.NODE_MODE_QUIET ≠ 1 → 
    Does .reportPeriod s reachReportPeriod fun t =>
      t.health.seq = s.health.seq + 1
      ∧ t.health.report.length = 832
      ∧ leNat (t.health.report.take 4) = 0x544C4842
      ∧ leNat ((t.health.report.drop 24).take 4) = s.health.seq % 2 ^ 32
      ∧ (t.get R.LK_HIRQ_CAUSE).testBit 13 = true
      ∧ t.health.hc = s.health.hc
      ∧ (∀ leg : Fin 96, s.get (R.LEGn_CFG_ASSIGNED leg) = 1 → t.get (R.HL_LEGn_D_D leg) = f32ofScaled (legDamage s leg) (-80) % 2 ^ 32)
      ∧ t.getPair R.HL_FLAGS_LO_F R.HL_FLAGS_HI_F = t.health.reportFlags
      ∧ t.health.reportAt = t.time.elapsed
      ∧ (s.increment ≠ 0 → s.health.reportAt + usec (60000000 * max 1 (s.get R.HL_CTRL_PERIOD)) ≤ t.time.elapsed))
  ∧ (∀ (s : State), s.powered = true → s.get R.NODE_MODE_QUIET = 1 → 
    Does .reportPeriod s (mask [] []) fun _ =>
      True)

/-- Twin roles change only as their events and conditions say. HELLO and TWIN_LINK_UP take the partner's identity into NODE_PAIR and refuse a
pair by code 3, 1 or 2, or assign the roles. HANDOVER of an ACTIVE member in step hands the drive of every leg over and becomes STANDBY,
else reads REFUSE 5. HANDOVER_REQUEST_RECEIVED is followed only by a STANDBY member in step, TAKEOVER only by one with the link down, ALONE
only by a SEEKING one with the link down, REJOIN only by a SUSPECT one without a fault, RESYNC_COMPLETE only after 64 matching hashes.
LINK_LOSS takes a SYNCING member to SEEKING and leaves others their role, but a STANDBY one with an arbitration open becomes SUSPECT.
ARBITRATION_OUTCOME closes the arbitration: the member with the fault goes. (13_twin.md R344; 13_twin.md R347; 13_twin.md R353; 13_twin.md
R354; 13_twin.md R355; 13_twin.md R356; 13_twin.md R358; 13_twin.md R359; 13_twin.md R360; 13_twin.md R366; 15_security.md R421) -/
def Obligations.TwinRoles : Prop :=
  (∀ (s : State) (r : Requester), s.serves r.num = true → s.role = 4 → s.linkUp = true → partnerRole s = 3 → s.twin.quiet ≤ 1 → 
    Does (.handover r) s reachAlone fun t =>
      t.role = 3
      ∧ partnerRole t = 4
      ∧ t.outbox.contains (.twin 4 0 [0]) = true
      ∧ (∀ leg : Fin 96, (t.leg leg).drive = some (2, s.finePostmark))
      ∧ t.mode = s.mode)
  ∧ (∀ (s : State) (r : Requester), s.serves r.num = true → (s.role ≠ 4 ∨ s.linkUp = false ∨ partnerRole s ≠ 3 ∨ 2 ≤ s.twin.quiet) → 
    Does (.handover r) s (mask [] [.NODE_TWIN_STAT_REFUSE]) fun t =>
      t.get R.NODE_TWIN_STAT_REFUSE = 5)
  ∧ (∀ (s : State), s.linked = true → s.role = 3 → s.linkUp = true → s.get R.NODE_TWIN_STAT_DIVERGED = 0 → safetyPermits s = true → 
    Does .handoverRequestReceived s reachHandoverRequestReceived fun t =>
      t.role = 4
      ∧ t.outbox.contains (.twin 4 0 [2]) = true
      ∧ (∀ leg : Fin 96, (t.leg leg).drive = some (1, s.finePostmark))
      ∧ t.twin.held = []
      ∧ t.mode = s.mode
      ∧ (partnerRole t = 3 ∨ partnerRole t = 5 ∨ s.twin.partner = none))
  ∧ (∀ (s : State), s.linked = true → (s.role ≠ 3 ∨ s.linkUp = false ∨ s.get R.NODE_TWIN_STAT_DIVERGED ≠ 0) → 
    Does .handoverRequestReceived s (mask [.fresh] []) fun _ =>
      True)
  ∧ (∀ (s : State), s.powered = true → s.linkUp = true → 3 ≤ s.twin.quiet → 
    Does .linkLoss s reachLinkLoss fun t =>
      t.get R.NODE_TWIN_STAT_LINK = 0
      ∧ t.get R.NODE_TWIN_STAT_LINK_DOWN = 1
      ∧ t.twin.mirrors = []
      ∧ t.twin.arb = none
      ∧ (t.role = (if s.role = 2 then 1 else if s.role = 3 ∧ s.twin.arb.isSome = true then 5 else s.role))
      ∧ t.mode = s.mode)
  ∧ (∀ (s : State), s.powered = true → (s.linkUp = false ∨ s.twin.quiet < 3) → 
    Does .linkLoss s (mask [] []) fun _ =>
      True)
  ∧ (∀ (s : State) (p : Partner), s.linked = true → s.linkUp = false → s.get R.NODE_IDENT_TWIN ≠ 0 → s.twin.partner = some p → 
    Does .twinLinkUp s reachTwinLinkUp fun t =>
      t.get R.NODE_TWIN_STAT_LINK = 1
      ∧ t.get R.NODE_TWIN_STAT_SILENT = 0
      ∧ t.twin.quiet = 0
      ∧ t.get R.NODE_PAIR_PAIR_VALID = (if identAgrees s p then 1 else 0)
      ∧ t.get R.NODE_PAIR_PARTNER = (if identAgrees s p then identNode p.ident.toNat else 0)
      ∧ (identAgrees s p = true → t.get R.NODE_PAIR_PAIR_ID = min (s.get R.NODE_IDENT_NODE) (identNode p.ident.toNat))
      ∧ (identAgrees s p = false → t.get R.NODE_TWIN_STAT_REFUSE = 3 ∧ t.role = s.role)
      ∧ (identAgrees s p = true → imagesAgree s p = false → t.get R.NODE_TWIN_STAT_REFUSE = 1 ∧ t.role = s.role)
      ∧ (identAgrees s p = true → imagesAgree s p = true → (twinBudget s = false ∨ p.budget = false) → t.get R.NODE_TWIN_STAT_REFUSE = 2 ∧ t.role = s.role)
      ∧ (identAgrees s p = true → imagesAgree s p = true → twinBudget s = true → p.budget = true → s.role = 1 → p.role = 1 → t.role = (if s.get R.NODE_IDENT_NODE < identNode p.ident.toNat then 4 else 2))
      ∧ (identAgrees s p = true → imagesAgree s p = true → twinBudget s = true → p.budget = true → s.role = 1 → p.role = 4 → t.role = 2)
      ∧ (identAgrees s p = true → imagesAgree s p = true → twinBudget s = true → p.budget = true → s.role = 4 → p.role = 4 → t.role = (if identNode p.ident.toNat < s.get R.NODE_IDENT_NODE then 2 else 4)))
  ∧ (∀ (s : State), s.linked = true → (s.linkUp = true ∨ s.get R.NODE_IDENT_TWIN = 0 ∨ s.twin.partner = none) → 
    Does .twinLinkUp s (mask [] []) fun _ =>
      True)
  ∧ (∀ (s : State) (p : Partner),
      s.linked = true → s.get R.NODE_IDENT_TWIN ≠ 0 → s.get R.NODE_IDENT_PROV ≠ 0 → s.get R.SEC_STATUS_DXK ≠ 0 → s.get R.SEC_STATUS_RNGFAIL ≠ 1 → 
    Does (.hello p) s reachHello fun t =>
      t.get R.NODE_TWIN_STAT_LINK = 1
      ∧ t.get R.LK_TWIN_STAT_SESSION = 1
      ∧ t.twin.partner = some p
      ∧ (t.security.sessions.filter (fun x => x.twin)).length = 1
      ∧ t.get R.NODE_PAIR_PAIR_VALID = (if identAgrees s p then 1 else 0)
      ∧ t.get R.NODE_PAIR_PARTNER = (if identAgrees s p then identNode p.ident.toNat else 0)
      ∧ (identAgrees s p = true → t.get R.NODE_PAIR_PAIR_ID = min (s.get R.NODE_IDENT_NODE) (identNode p.ident.toNat))
      ∧ (identAgrees s p = false → t.get R.NODE_TWIN_STAT_REFUSE = 3 ∧ t.role = s.role)
      ∧ (identAgrees s p = true → imagesAgree s p = false → t.get R.NODE_TWIN_STAT_REFUSE = 1 ∧ t.role = s.role)
      ∧ (identAgrees s p = true → imagesAgree s p = true → (twinBudget s = false ∨ p.budget = false) → t.get R.NODE_TWIN_STAT_REFUSE = 2 ∧ t.role = s.role)
      ∧ (identAgrees s p = true → imagesAgree s p = true → twinBudget s = true → p.budget = true → s.role = 1 → p.role = 1 → t.role = (if s.get R.NODE_IDENT_NODE < identNode p.ident.toNat then 4 else 2))
      ∧ (identAgrees s p = true → imagesAgree s p = true → twinBudget s = true → p.budget = true → s.role = 1 → p.role = 4 → t.role = 2)
      ∧ (identAgrees s p = true → imagesAgree s p = true → twinBudget s = true → p.budget = true → s.role = 4 → p.role = 4 → t.role = (if identNode p.ident.toNat < s.get R.NODE_IDENT_NODE then 2 else 4)))
  ∧ (∀ (s : State) (p : Partner),
      s.linked = true → (s.get R.NODE_IDENT_TWIN = 0 ∨ s.get R.NODE_IDENT_PROV = 0 ∨ s.get R.SEC_STATUS_DXK = 0 ∨ s.get R.SEC_STATUS_RNGFAIL = 1) → 
    Does (.hello p) s (mask [] []) fun _ =>
      True)
  ∧ (∀ (s : State), s.powered = true → s.role = 3 → s.linkUp = false → 
    Does .takeover s reachTakeover fun t =>
      t.role = 4
      ∧ t.get R.NODE_TWIN_STAT_SILENT = 1
      ∧ t.get R.NODE_TWIN_STAT_TAKEOVER = 1
      ∧ t.twin.held = []
      ∧ (∀ leg : Fin 96, (t.leg leg).drive = some (1, s.finePostmark))
      ∧ t.mode = s.mode)
  ∧ (∀ (s : State), s.powered = true → (s.role ≠ 3 ∨ s.linkUp = true) → 
    Does .takeover s (mask [] []) fun _ =>
      True)
  ∧ (∀ (s : State) (r : Requester), s.serves r.num = true → s.role = 1 → s.linkUp = false → 
    Does (.alone r) s reachAlone fun t =>
      (t.role = 4 ∨ t.role = 1 ∧ t.get R.NODE_TWIN_STAT_REFUSE = 4)
      ∧ t.mode = s.mode)
  ∧ (∀ (s : State) (r : Requester), s.serves r.num = true → (s.role ≠ 1 ∨ s.linkUp = true) → 
    Does (.alone r) s (mask [.fresh] [.NODE_TWIN_STAT_REFUSE]) fun t =>
      t.get R.NODE_TWIN_STAT_REFUSE = 4)
  ∧ (∀ (s : State) (r : Requester), s.serves r.num = true → s.role = 5 → s.linkUp = true → s.mode ≠ 5 → s.mode ≠ 7 → s.get R.FAB_STATUS_FAULT = 0 → 
    Does (.rejoin r) s reachRejoin fun t =>
      t.role = 2
      ∧ t.get R.NODE_TWIN_STAT_DIVERGED = 0
      ∧ t.twin.attempts = 0
      ∧ t.twin.loaded = false
      ∧ t.outbox.contains (.twin 8 0 []) = true
      ∧ t.mode = s.mode)
  ∧ (∀ (s : State) (r : Requester),
      s.serves r.num = true → (s.role ≠ 5 ∨ s.linkUp = false ∨ s.mode = 5 ∨ s.mode = 7 ∨ s.get R.FAB_STATUS_FAULT ≠ 0) → 
    Does (.rejoin r) s (mask [] []) fun _ =>
      True)
  ∧ (∀ (s : State), s.powered = true → s.role = 2 → s.twin.loaded = true → 64 ≤ s.twin.matches_ → 
    Does .resyncComplete s reachResyncComplete fun t =>
      t.role = 3
      ∧ t.twin.attempts = 0
      ∧ t.mode = s.mode)
  ∧ (∀ (s : State), s.powered = true → (s.role ≠ 2 ∨ s.twin.loaded = false ∨ s.twin.matches_ < 64) → 
    Does .resyncComplete s (mask [] []) fun _ =>
      True)
  ∧ (∀ (s : State) (own partner : Bool), s.linked = true → s.twin.arb = none → 
    Does (.arbitrationOutcome own partner) s (mask [] []) fun _ =>
      True)
  ∧ (∀ (s : State) (j : Nat), s.linked = true → s.twin.arb = some j → s.role = 4 → 
    Does (.arbitrationOutcome false true) s reachArbitrationOutcome fun t =>
      t.twin.arb = none
      ∧ t.role = 4
      ∧ (partnerRole t = 5 ∨ s.twin.partner = none)
      ∧ t.mode = s.mode)
  ∧ (∀ (s : State) (j : Nat), s.linked = true → s.twin.arb = some j → s.role = 4 → s.get R.NODE_TWIN_CFG_MISMATCH ≠ 1 → 
    Does (.arbitrationOutcome false false) s reachArbitrationOutcome fun t =>
      t.twin.arb = none
      ∧ t.role = 4
      ∧ t.get R.NODE_TWIN_STAT_UNEXPLAINED = 1
      ∧ t.twin.unexplainedAt = some s.time.elapsed
      ∧ (partnerRole t = 2 ∨ partnerRole t = 5 ∨ s.twin.partner = none)
      ∧ t.mode = s.mode)
  ∧ (∀ (s : State) (j : Nat) (im : Image),
      s.linked = true → s.twin.arb = some j → s.role = 4 → s.twin.keep = false → s.image = some im → s.get R.FAB_STATUS_RUN ≠ 0 → s.mode = 4 → 
    Does (.arbitrationOutcome true false) s reachArbitrationOutcome fun t =>
      t.twin.arb = none
      ∧ t.role = 5
      ∧ t.mode = 5
      ∧ t.get R.FAB_STATUS_RUN = 0
      ∧ (t.get R.FAB_STATUS_FAULT = 2 ∨ t.get R.FAB_STATUS_FAULT = 4))
  ∧ (∀ (s : State) (j : Nat), s.linked = true → s.twin.arb = some j → s.role = 3 → 
    Does (.arbitrationOutcome false true) s reachArbitrationOutcome fun t =>
      t.twin.arb = none
      ∧ t.role = 3
      ∧ t.mode = s.mode)
  ∧ (∀ (s : State) (j : Nat) (partner : Bool), s.linked = true → s.twin.arb = some j → s.role = 3 → 
    Does (.arbitrationOutcome true partner) s reachArbitrationOutcome fun t =>
      t.twin.arb = none
      ∧ t.role = 5)

/-- What each message of the twin link does, and where it is not listened to. A bundle whose commands are not all there waits; a complete one in
time is the frame that a STANDBY or SUSPECT member evaluates, with its own last hash sent back; a late one is counted; a SYNCING member
without the state buffers it. BUNDLE_MISSED counts, sets DIVERGED in STANDBY and evaluates the own inputs. HASH_RECEIVED compares at the
ACTIVE member: a match is counted, and 64 of them make a SYNCING partner STANDBY in its eyes; a mismatch is recorded and an arbitration
opened. A FORWARDED_COMMAND enters the ACTIVE member's queue; a MIRROR is sent on and acknowledged by the other; its acknowledgement or 10
µs send the own one. RESYNC_REQUEST chooses the frame, STATE_TRANSFER loads it. Each does nothing at a member that does not listen to it.
(13_twin.md R349; 13_twin.md R350; 13_twin.md R351; 13_twin.md R352; 13_twin.md R361; 13_twin.md R362; 13_twin.md R365; 13_twin.md R366;
16_links.md R439; 16_links.md R440) -/
def Obligations.TwinMessages : Prop :=
  (∀ (s : State) (b : Bundle), s.linked = true → (s.image = none ∨ listens s = false) → 
    Does (.bundleReceived b) s (mask [] []) fun _ =>
      True)
  ∧ (∀ (s : State) (b : Bundle) (im : Image), s.linked = true → s.image = some im → listens s = true → (cmdsOf s b.k).length < b.ncmd → 
    Does (.bundleReceived b) s (mask [.twin] []) fun t =>
      t.twin = { s.twin with bundle := some b })
  ∧ (∀ (s : State) (b : Bundle) (im : Image),
      s.linked = true → s.image = some im → s.role = 2 → s.linkUp = true → b.ncmd ≤ (cmdsOf s b.k).length → s.twin.loaded = false → s.twin.buffered.length < 4096 → 
    Does (.bundleReceived b) s (mask [.twin] []) fun t =>
      t.twin = { s.twin with quiet := 0, buffered := s.twin.buffered ++ [b] })
  ∧ (∀ (s : State) (b : Bundle) (im : Image),
      s.linked = true → s.image = some im → (s.role = 5 ∨ s.role = 3 ∧ s.get R.NODE_TWIN_STAT_DIVERGED ≠ 1) → s.linkUp = true → b.ncmd ≤ (cmdsOf s b.k).length → frameStart im.frate b.k + 8590 < s.postmark → 
    Does (.bundleReceived b) s (mask [.twin, .cycle] [.LK_TWIN_CNT_LATE]) fun t =>
      t.twin = { s.twin with quiet := 0 }
      ∧ t.get R.LK_TWIN_CNT_LATE = min 65535 (s.get R.LK_TWIN_CNT_LATE + 1))
  ∧ (∀ (s : State) (b : Bundle) (im : Image),
      s.linked = true → s.image = some im → (s.role = 5 ∨ s.role = 3 ∧ s.get R.NODE_TWIN_STAT_DIVERGED ≠ 1) → s.linkUp = true → b.ncmd = 0 → cmdsOf s b.k = [] → s.hidden.held = [] → s.fabric.await = true → s.fabric.frame = some b.k → ¬ frameStart im.frate b.k + 8590 < s.postmark → 
    Does (.bundleReceived b) s reachBundleReceived fun t =>
      t.fabric.frame = some b.k
      ∧ t.fabric.await = false
      ∧ t.twin.quiet = 0
      ∧ (∀ h ∈ s.twin.ownHash, t.outbox.contains (.twin 3 h.1 (leBytes 8 h.2)) = true)
      ∧ t.role = s.role)
  ∧ (∀ (s : State) (b : Bundle) (im : Image),
      s.linked = true → s.image = some im → s.role = 3 → s.get R.NODE_TWIN_STAT_DIVERGED = 1 → s.linkUp = true → b.ncmd ≤ (cmdsOf s b.k).length → 
    Does (.bundleReceived b) s reachBundleReceived fun t =>
      t.role = 2
      ∧ t.get R.NODE_TWIN_STAT_DIVERGED = 0
      ∧ t.outbox.contains (.twin 8 0 []) = true)
  ∧ (∀ (s : State) (k : Nat) (c : Command), s.linked = true → (s.image = none ∨ listens s = false) → 
    Does (.twinCmdReceived k c) s (mask [] []) fun _ =>
      True)
  ∧ (∀ (s : State) (k : Nat) (c : Command),
      s.linked = true → s.image ≠ none → listens s = true → s.twin.bundle.all (fun b => (cmdsOf s b.k).length + 1 < b.ncmd) = true → 
    Does (.twinCmdReceived k c) s (mask [.twin] []) fun t =>
      t.twin = { s.twin with cmds := s.twin.cmds ++ [(k, c)] })
  ∧ (∀ (s : State) (k : Nat) (c : Command) (b : Bundle),
      s.linked = true → s.image ≠ none → s.role = 2 → s.linkUp = true → s.twin.bundle = some b → b.k = k → b.ncmd ≤ (cmdsOf s k).length + 1 → s.twin.loaded = false → s.twin.buffered.length < 4096 → 
    Does (.twinCmdReceived k c) s (mask [.twin] []) fun t =>
      t.twin = { s.twin with cmds := s.twin.cmds ++ [(k, c)], bundle := none, quiet := 0, buffered := s.twin.buffered ++ [b] })
  ∧ (∀ (s : State), s.powered = true → (s.image = none ∨ s.fabric.frame = none ∨ s.fabric.await = false) → 
    Does .bundleMissed s (mask [] []) fun _ =>
      True)
  ∧ (∀ (s : State) (im : Image) (k : Nat),
      s.powered = true → s.image = some im → s.fabric.frame = some k → s.fabric.await = true → s.fabric.written = [] → 
    Does .bundleMissed s reachBundleMissed fun t =>
      t.get R.NODE_TWIN_CNT_BMISS = min (2 ^ R.NODE_TWIN_CNT_BMISS.width - 1) (s.get R.NODE_TWIN_CNT_BMISS + 1)
      ∧ (s.role = 3 → t.get R.NODE_TWIN_STAT_DIVERGED = 1)
      ∧ t.fabric.await = false
      ∧ t.fabric.frame = some k
      ∧ t.role = s.role
      ∧ t.mode = s.mode)
  ∧ (∀ (s : State) (k : Nat) (h : BitVec 64), s.linked = true → (s.role ≠ 4 ∨ s.linkUp = false) → 
    Does (.hashReceived k h) s (mask [] []) fun _ =>
      True)
  ∧ (∀ (s : State) (k : Nat) (h : BitVec 64), s.linked = true → s.role = 4 → s.linkUp = true → h ≠ 0 → s.twin.ownHash = some (k,
      h.toNat) → s.twin.comparable = true → partnerRole s ≠ 5 → (partnerRole s ≠ 2 ∨ s.twin.matches_ < 63) → s.get R.NODE_TWIN_STAT_DIVERGED ≠ 1 → 
    Does (.hashReceived k h) s (mask [.twin] []) fun t =>
      t.twin = { s.twin with quiet := 0, matches_ := s.twin.matches_ + 1 })
  ∧ (∀ (s : State) (k : Nat) (h : BitVec 64), s.linked = true → s.role = 4 → s.linkUp = true → h ≠ 0 → s.twin.ownHash = some (k,
      h.toNat) → s.twin.comparable = true → partnerRole s = 2 → 63 ≤ s.twin.matches_ → s.get R.NODE_TWIN_STAT_DIVERGED ≠ 1 → 
    Does (.hashReceived k h) s (mask [.twin] []) fun t =>
      t.twin = { s.twin with quiet := 0, matches_ := s.twin.matches_ + 1, partner := s.twin.partner.map (fun p => { p with role := 3 }) })
  ∧ (∀ (s : State) (k : Nat) (h : BitVec 64) (own : Nat), s.linked = true → s.role = 4 → s.linkUp = true → h ≠ 0 → s.twin.ownHash = some (k,
      own) → own ≠ h.toNat → s.twin.comparable = true → partnerRole s = 3 → s.get R.NODE_TWIN_STAT_DIVERGED ≠ 1 → k < 2 ^ 64 → 
    Does (.hashReceived k h) s (mask [.twin, .cycle] [.NODE_TWIN_STAT_HASH_MISMATCH, .NODE_TWIN_CNT_MISM, .NODE_TWIN_MISK_LO_K,
        .NODE_TWIN_MISK_HI_K]) fun t =>
      t.twin = { s.twin with quiet := 0, arb := some (s.twin.arb.getD k) }
      ∧ t.get R.NODE_TWIN_STAT_HASH_MISMATCH = 1
      ∧ t.getPair R.NODE_TWIN_MISK_LO_K R.NODE_TWIN_MISK_HI_K = k
      ∧ t.get R.NODE_TWIN_CNT_MISM = min (2 ^ R.NODE_TWIN_CNT_MISM.width - 1) (s.get R.NODE_TWIN_CNT_MISM + 1))
  ∧ (∀ (s : State) (offset : Int), s.linked = true → s.linkUp = false → 
    Does (.twinTime offset) s (mask [] []) fun _ =>
      True)
  ∧ (∀ (s : State) (offset : Int), s.linked = true → s.linkUp = true → steering (markUsable s 4) ≠ 4 → 
    Does (.twinTime offset) s (mask [.time, .fresh] [.LK_TWIN_STAT_DELAY]) fun t =>
      t.time.usable.contains 4 = true
      ∧ t.time = { s.time with usable := t.time.usable })
  ∧ (∀ (s : State) (offset : Int),
      s.linked = true → s.linkUp = true → steering (markUsable s 4) = 4 → s.time.stopped = false → s.get R.POST_STATUS_STATE = 2 → withinNs offset 100 = true → 
    Does (.twinTime offset) s reachTwinTime fun t =>
      t.get R.POST_STATUS_STATE = 2
      ∧ t.get R.POST_STATUS_SRC_ACT = 4
      ∧ t.get R.POST_OFFSET_OFS_NS = unsigned 32 (offsetNs offset)
      ∧ t.time.bound = some (nsUnits 20)
      ∧ t.time.acc = s.time.acc)
  ∧ (∀ (s : State) (c : Command), s.linked = true → (s.role ≠ 4 ∨ s.linkUp = false) → 
    Does (.forwardedCommand c) s (mask [] []) fun _ =>
      True)
  ∧ (∀ (s : State) (c : Command),
      s.linked = true → s.role = 4 → s.linkUp = true → (c.path ≠ 2 ∨ c.t ≠ 0) → c.source.toNat / 4096 = c.path → dAccept s c.path ≠ 0 → s.mode ≠ 6 → targetKnown s c.path c.target.toNat = true → s.postmark < frameStart s.fFrame (commandFrame s c.path c.t.toNat) → c.t.toNat + dAccept s c.path ≤ s.postmark + 60 * 2 ^ 32 → s.acceptance.length < 2048 → 
    Does (.forwardedCommand c) s reachStart fun t =>
      t.acceptance = s.acceptance ++ [⟨c.path, c.source.toNat, c.seq, c.target.toNat, c.value.toNat, c.t.toNat, commandFrame s c.path c.t.toNat,
          c.item⟩]
      ∧ t.mode = s.mode
      ∧ t.outbox.contains (.twin 2 (commandFrame s c.path c.t.toNat) (commandEntry c.target.toNat c.source.toNat c.value.toNat c.t.toNat)) = true)
  ∧ (∀ (s : State) (seq : BitVec 48) (origin : Word) (msg : Bytes), s.linked = true → (s.linkUp = false ∨ s.role = 4) → 
    Does (.mirror seq origin msg) s (mask [] []) fun _ =>
      True)
  ∧ (∀ (s : State) (seq : BitVec 48) (origin : Word) (msg : Bytes), s.linked = true → s.linkUp = true → s.role ≠ 4 → 
    Does (.mirror seq origin msg) s (mask [.security, .links, .twin, .outbox] []) fun t =>
      t.twin = { s.twin with lastMirrored := max s.twin.lastMirrored seq.toNat, held := s.twin.held.filter (fun h => h.1 != origin.toNat) }
      ∧ (s.get R.NODE_IDENT_PROV = 0 → t.outbox = s.outbox ++ [.twin 7 0 (leBytes 6 seq.toNat)])
      ∧ (s.get R.NODE_IDENT_PROV ≠ 0 → leNat (msg.take 1) ≠ 2 → t.outbox = s.outbox ++ [.site (pairId s) seq.toNat (leNat (msg.take 1)) (msg.drop 1),
          .twin 7 0 (leBytes 6 seq.toNat)]))
  ∧ (∀ (s : State) (seq : BitVec 48), s.powered = true → (∀ e ∈ s.twin.mirrors, e.1 ≠ seq.toNat) → 
    Does (.mirrorAckTimeout seq) s (mask [] []) fun _ =>
      True)
  ∧ (∀ (s : State) (seq : BitVec 48) (e : Nat × Nat × Bytes), s.powered = true → s.twin.mirrors.find? (fun x => x.1 == seq.toNat) = some e → 
    Does (.mirrorAckTimeout seq) s reachMirrorAckTimeout fun t =>
      t.twin = { s.twin with mirrors := s.twin.mirrors.filter (fun x => x.1 != seq.toNat) }
      ∧ (s.get R.NODE_IDENT_PROV = 0 → t.outbox = s.outbox)
      ∧ (s.get R.NODE_IDENT_PROV ≠ 0 → leNat (e.2.2.take 1) ≠ 2 → t.outbox = s.outbox ++ [.site (pairId s) e.1 (leNat (e.2.2.take 1)) (e.2.2.drop 1)])
      ∧ (s.increment ≠ 0 → e.2.1 + usec 10 ≤ t.time.elapsed))
  ∧ (∀ (s : State) (seq : BitVec 48), s.linked = true → (∀ e ∈ s.twin.mirrors, e.1 ≠ seq.toNat) → 
    Does (.mirrorAck seq) s (mask [] []) fun _ =>
      True)
  ∧ (∀ (s : State) (seq : BitVec 48) (e : Nat × Nat × Bytes), s.linked = true → s.twin.mirrors.find? (fun x => x.1 == seq.toNat) = some e → 
    Does (.mirrorAck seq) s (mask [.security, .links, .twin, .outbox] []) fun t =>
      t.twin = { s.twin with mirrors := s.twin.mirrors.filter (fun x => x.1 != seq.toNat) }
      ∧ (s.get R.NODE_IDENT_PROV = 0 → t.outbox = s.outbox)
      ∧ (s.get R.NODE_IDENT_PROV ≠ 0 → leNat (e.2.2.take 1) ≠ 2 → t.outbox = s.outbox ++ [.site (pairId s) e.1 (leNat (e.2.2.take 1)) (e.2.2.drop 1)]))
  ∧ (∀ (s : State), s.powered = true → (s.image = none ∨ s.role ≠ 4 ∨ s.linkUp = false) → 
    Does .resyncRequest s (mask [] []) fun _ =>
      True)
  ∧ (∀ (s : State) (im : Image), s.powered = true → s.image = some im → s.role = 4 → s.linkUp = true → 
    Does .resyncRequest s (mask [.twin] []) fun t =>
      t.twin = { s.twin with resyncAt := some (frameFrom im.frate (s.postmark + 429497)), matches_ := 0, partner := s.twin.partner.map (fun p => { p with role := 2 }) })
  ∧ (∀ (s : State) (x : Transfer), s.linked = true → (s.image = none ∨ s.role ≠ 2 ∨ s.linkUp = false ∨ s.twin.loaded = true) → 
    Does (.stateTransfer x) s (mask [] []) fun _ =>
      True)
  ∧ (∀ (s : State) (x : Transfer) (im : Image),
      s.linked = true → s.image = some im → s.role = 2 → s.linkUp = true → s.twin.loaded = false → s.twin.buffered = [] → 
    Does (.stateTransfer x) s reachStateTransfer fun t =>
      t.twin.loaded = true
      ∧ t.twin.matches_ = 0
      ∧ t.twin.lastMirrored = max s.twin.lastMirrored (x.nextSeq - 1)
      ∧ t.get R.FAB_STATUS_RUN = 1
      ∧ t.fabric.base = true
      ∧ t.fabric.next = some (max x.k (s.fabric.next.getD x.k))
      ∧ t.role = 2
      ∧ t.mode = s.mode)
  ∧ (∀ (s : State), s.powered = true → (s.role ≠ 3 ∨ s.get R.NODE_TWIN_CHK_TEST = 0) → 
    Does .partnerLightTest s (mask [] []) fun _ =>
      True)
  ∧ (∀ (s : State), s.powered = true → s.role = 3 → s.get R.NODE_TWIN_CHK_TEST ≠ 0 → s.get R.NODE_TEST_RUNNING ≠ 1 → s.get R.NODE_MODE_QUIET ≠ 1 → s.hidden.quietEnd ≠ some s.cycleNo → (s.mode = 1 ∨ s.mode = 2 ∨ s.mode = 4 ∨ s.mode = 7) → 
    Does .partnerLightTest s reachPartnerLightTest fun t =>
      t.get R.NODE_TEST_RUNNING = 1
      ∧ t.hidden.test = some (0, t.time.elapsed)
      ∧ t.twin.lightAt = t.time.elapsed
      ∧ (s.increment ≠ 0 → s.twin.lightAt + usec (1000000 * s.get R.NODE_TWIN_CHK_TEST) ≤ t.time.elapsed)
      ∧ t.mode = s.mode)

/-- Enrolment, the exchange key, firmware slots, measurements and the random generator. While BUSY every operation of SEC_CTRL only reads CODE
0x60; ENR_OPEN, INSTALL and REKEYX outside STANDBY read 0x87 with a SECURITY envelope. ENR_OPEN empties the enrolment buffer, each data word
goes to the next place, and INSTALL refuses a buffer that is not open, not full or not a record with 0x84, one not signed by its authority
with 0x85, an older one with 0x86; else the record is the node's, or with RELEASE = 1 the node is unenrolled. REKEYX sets BUSY until
DXK_GENERATED leaves a new exchange key; EXTEND extends measurement register 7 and its log; CLOSE closes the site session of its index. A
firmware slot is opened, filled, committed, marked, erased and aborted as an image slot is; CONFIRM raises rollback counter 0 to the running
version and REVOKE0 acts only from firmware of key 1. RNG_HEALTH_FAIL flags the random generator, and RNG_READ returns a word, 0 after a
failure. (15_security.md R403; 15_security.md R405; 15_security.md R406; 15_security.md R407; 15_security.md R409; 15_security.md R410;
15_security.md R412; 15_security.md R413; 15_security.md R419; 15_security.md R422; 15_security.md R423) -/
def Obligations.SecurityStore : Prop :=
  (∀ (s : State) (r : Requester), s.serves r.num = true → s.get R.SEC_RESULT_BUSY = 1 → 
    Does (.enrOpen r) s (mask [] [.SEC_RESULT_CODE]) fun t =>
      t.get R.SEC_RESULT_CODE = 0x60)
  ∧ (∀ (s : State) (r : Requester), s.serves r.num = true → s.get R.SEC_RESULT_BUSY = 1 → 
    Does (.install r) s (mask [] [.SEC_RESULT_CODE]) fun t =>
      t.get R.SEC_RESULT_CODE = 0x60)
  ∧ (∀ (s : State) (r : Requester), s.serves r.num = true → s.get R.SEC_RESULT_BUSY = 1 → 
    Does (.extend r) s (mask [] [.SEC_RESULT_CODE]) fun t =>
      t.get R.SEC_RESULT_CODE = 0x60)
  ∧ (∀ (s : State) (r : Requester) (index : BitVec 9), s.serves r.num = true → s.get R.SEC_RESULT_BUSY = 1 → 
    Does (.close r index) s (mask [] [.SEC_RESULT_CODE]) fun t =>
      t.get R.SEC_RESULT_CODE = 0x60)
  ∧ (∀ (s : State) (r : Requester), s.serves r.num = true → (s.get R.SEC_RESULT_BUSY = 1 ∨ s.security.dxkGen = true) → 
    Does (.rekeyx r) s (mask [] [.SEC_RESULT_CODE]) fun t =>
      t.get R.SEC_RESULT_CODE = 0x60)
  ∧ (∀ (s : State) (r : Requester), s.serves r.num = true → s.get R.SEC_RESULT_BUSY ≠ 1 → s.mode ≠ 1 → 
    Does (.enrOpen r) s (mask [.office, .cycle, .fresh, .outbox] [.SO_LEDSTAT_FULL, .SO_LEDSTAT_WRAPPED, .SO_LEDSTAT_LOST, .SO_LEDPTR_NEXT,
        .SO_DROP_HW, .SO_DROP_DL, .SEC_RESULT_CODE, .LK_HIRQ_CAUSE]) fun t =>
      t.get R.SEC_RESULT_CODE = 0x87
      ∧ Secured s t 1 0x87 0xFFFF 0 0)
  ∧ (∀ (s : State) (r : Requester), s.serves r.num = true → s.get R.SEC_RESULT_BUSY ≠ 1 → s.mode ≠ 1 → 
    Does (.install r) s (mask [.office, .cycle, .fresh, .outbox] [.SO_LEDSTAT_FULL, .SO_LEDSTAT_WRAPPED, .SO_LEDSTAT_LOST, .SO_LEDPTR_NEXT,
        .SO_DROP_HW, .SO_DROP_DL, .SEC_RESULT_CODE, .LK_HIRQ_CAUSE]) fun t =>
      t.get R.SEC_RESULT_CODE = 0x87
      ∧ Secured s t 1 0x87 0xFFFF 0 0)
  ∧ (∀ (s : State) (r : Requester), s.serves r.num = true → s.get R.SEC_RESULT_BUSY ≠ 1 → s.security.dxkGen = false → s.mode ≠ 1 → 
    Does (.rekeyx r) s (mask [.office, .cycle, .fresh, .outbox] [.SO_LEDSTAT_FULL, .SO_LEDSTAT_WRAPPED, .SO_LEDSTAT_LOST, .SO_LEDPTR_NEXT,
        .SO_DROP_HW, .SO_DROP_DL, .SEC_RESULT_CODE, .LK_HIRQ_CAUSE]) fun t =>
      t.get R.SEC_RESULT_CODE = 0x87
      ∧ Secured s t 1 0x87 0xFFFF 0 0)
  ∧ (∀ (s : State) (r : Requester), s.serves r.num = true → s.get R.SEC_RESULT_BUSY ≠ 1 → s.mode = 1 → 
    Does (.enrOpen r) s (mask [.security] [.SEC_ENR_PTR_OFS, .SEC_RESULT_CODE]) fun t =>
      t.security = { s.security with enrBuf := [], enrOpen := true }
      ∧ t.get R.SEC_ENR_PTR_OFS = 0
      ∧ t.get R.SEC_RESULT_CODE = 0)
  ∧ (∀ (s : State) (r : Requester) (v : Word), s.serves r.num = true → s.security.enrOpen = true → s.get R.SEC_ENR_PTR_OFS < 4224 → 
    Does (.enrDataWrite r v) s (mask [.security] [.SEC_ENR_PTR_OFS]) fun t =>
      t.security = { s.security with enrBuf := sset 0 s.security.enrBuf (s.get R.SEC_ENR_PTR_OFS / 4) v.toNat }
      ∧ t.get R.SEC_ENR_PTR_OFS = s.get R.SEC_ENR_PTR_OFS + 4)
  ∧ (∀ (s : State) (r : Requester) (v : Word), s.serves r.num = true → (s.security.enrOpen = false ∨ 4224 ≤ s.get R.SEC_ENR_PTR_OFS) → 
    Does (.enrDataWrite r v) s (mask [] []) fun _ =>
      True)
  ∧ (∀ (s : State) (r : Requester),
      s.serves r.num = true → s.get R.SEC_RESULT_BUSY ≠ 1 → s.mode = 1 → (s.security.enrOpen = false ∨ s.get R.SEC_ENR_PTR_OFS ≠ 4224 ∨ recordOk (enrRecord s) = false) → 
    Does (.install r) s (mask [.office, .cycle, .fresh, .outbox] [.SO_LEDSTAT_FULL, .SO_LEDSTAT_WRAPPED, .SO_LEDSTAT_LOST, .SO_LEDPTR_NEXT,
        .SO_DROP_HW, .SO_DROP_DL, .SEC_RESULT_CODE, .LK_HIRQ_CAUSE]) fun t =>
      t.get R.SEC_RESULT_CODE = 0x84
      ∧ Secured s t 1 0x84 0xFFFF 0 0)
  ∧ (∀ (s : State) (r : Requester),
      s.serves r.num = true → s.get R.SEC_RESULT_BUSY ≠ 1 → s.mode = 1 → s.security.enrOpen = true → s.get R.SEC_ENR_PTR_OFS = 4224 → recordOk (enrRecord s) = true → 
    Does (.install r) s reachInstall fun t =>
      ((sigOk (sliceOf (enrRecord s) 3648 576) 3 0 (if enrolled s then siteKey s else beNat (sliceOf (enrRecord s) 64 512)) ((enrRecord s).take 3648) = false ∨ enrolled s = false ∧ fieldOf (enrRecord s) 6 2 = 1) → t.get R.SEC_RESULT_CODE = 0x85 ∧ t.security = s.security)
      ∧ (¬(sigOk (sliceOf (enrRecord s) 3648 576) 3 0 (if enrolled s then siteKey s else beNat (sliceOf (enrRecord s) 64 512)) ((enrRecord s).take 3648) = false ∨ enrolled s = false ∧ fieldOf (enrRecord s) 6 2 = 1) → fieldOf (enrRecord s) 12 4 < s.get (R.SEC_RBi_COUNT 1) → t.get R.SEC_RESULT_CODE = 0x86 ∧ t.security = s.security)
      ∧ (¬(sigOk (sliceOf (enrRecord s) 3648 576) 3 0 (if enrolled s then siteKey s else beNat (sliceOf (enrRecord s) 64 512)) ((enrRecord s).take 3648) = false ∨ enrolled s = false ∧ fieldOf (enrRecord s) 6 2 = 1) → s.get (R.SEC_RBi_COUNT 1) ≤ fieldOf (enrRecord s) 12 4 → fieldOf (enrRecord s) 6 2 ≠ 1 → t.get R.SEC_RESULT_CODE = 0 ∧ t.security.enr = (enrRecord s) ∧ t.security.enrOpen = false ∧ t.get R.SEC_STATUS_ENROLLED = 1 ∧ t.get (R.SEC_RBi_COUNT 1) = fieldOf (enrRecord s) 12 4 ∧ t.get R.POST_EPOCH_HI_VALID = 1 ∧ t.get R.POST_EPOCH_LO_SEC + t.get R.POST_EPOCH_HI_SEC * 2 ^ 32 = fieldOf (enrRecord s) 16 6 ∧ t.security.sessions = s.security.sessions.filter (fun x => x.twin) ∧ (t.security.dxk = none → t.security.dxkGen = true))
      ∧ (¬(sigOk (sliceOf (enrRecord s) 3648 576) 3 0 (if enrolled s then siteKey s else beNat (sliceOf (enrRecord s) 64 512)) ((enrRecord s).take 3648) = false ∨ enrolled s = false ∧ fieldOf (enrRecord s) 6 2 = 1) → s.get (R.SEC_RBi_COUNT 1) ≤ fieldOf (enrRecord s) 12 4 → fieldOf (enrRecord s) 6 2 = 1 → t.get R.SEC_RESULT_CODE = 0 ∧ t.security.enr = [] ∧ t.security.dxk = none ∧ t.security.sessions = [] ∧ t.get R.SEC_STATUS_ENROLLED = 0 ∧ t.get R.SEC_STATUS_DXK = 0 ∧ t.get R.NODE_IDENT_PROV = 0 ∧ t.get R.NODE_IDENT_NODE = 0 ∧ t.get R.POST_EPOCH_HI_VALID = 0 ∧ t.slots.words = [] ∧ t.get R.SEC_IMG_STATUS_ACT_MARK = 0)
      ∧ t.mode = 1)
  ∧ (∀ (s : State) (r : Requester),
      s.serves r.num = true → s.get R.SEC_RESULT_BUSY ≠ 1 → s.security.dxkGen = false → s.mode = 1 → s.get R.SEC_STATUS_RNGFAIL = 1 → 
    Does (.rekeyx r) s (mask [.office, .cycle, .fresh, .outbox] [.SO_LEDSTAT_FULL, .SO_LEDSTAT_WRAPPED, .SO_LEDSTAT_LOST, .SO_LEDPTR_NEXT,
        .SO_DROP_HW, .SO_DROP_DL, .SEC_RESULT_CODE, .LK_HIRQ_CAUSE]) fun t =>
      t.get R.SEC_RESULT_CODE = 0x92
      ∧ Secured s t 1 0x92 0xFFFF 0 0)
  ∧ (∀ (s : State) (r : Requester),
      s.serves r.num = true → s.get R.SEC_RESULT_BUSY ≠ 1 → s.security.dxkGen = false → s.mode = 1 → s.get R.SEC_STATUS_RNGFAIL ≠ 1 → 
    Does (.rekeyx r) s (mask [.security] [.SEC_RESULT_BUSY]) fun t =>
      t.get R.SEC_RESULT_BUSY = 1
      ∧ t.security = { s.security with dxkGen := true })
  ∧ (∀ (s : State), s.powered = true → s.security.dxkGen = false → 
    Does .dxkGenerated s (mask [] []) fun _ =>
      True)
  ∧ (∀ (s : State), s.powered = true → s.security.dxkGen = true → 
    Does .dxkGenerated s reachDxkGenerated fun t =>
      t.security = { s.security with dxk := t.security.dxk, dxkGen := false }
      ∧ t.security.dxk.isSome = true
      ∧ t.get R.SEC_STATUS_DXK = 1
      ∧ (t.get R.SEC_RESULT_BUSY = 0 ∨ s.get R.SEC_RESULT_BUSY ≠ 1)
      ∧ (s.get R.SEC_RESULT_BUSY = 1 → t.get R.SEC_RESULT_CODE = 0)
      ∧ Secured s t 7 0 0xFFFF 0 0)
  ∧ (∀ (s : State) (r : Requester), s.serves r.num = true → s.get R.SEC_RESULT_BUSY ≠ 1 → 
    Does (.extend r) s (mask [.security] [.SEC_RESULT_CODE, .SEC_STATUS_LOGN, .SEC_STATUS_LOGFULL]) fun t =>
      t.get R.SEC_RESULT_CODE = 0
      ∧ sget 0 t.security.mr 7 = leNat (sha512 (mrBytes s 7 ++ ((List.range 16).flatMap (fun n => leBytes 4 (s.get (R.SEC_EXT_Dn_D n))))))
      ∧ (∀ i : Fin 8, i ≠ 7 → sget 0 t.security.mr i = sget 0 s.security.mr i)
      ∧ (s.security.log.length < 64 → t.security.log = s.security.log ++ [(7, s.postmark,
          leNat ((List.range 16).flatMap (fun n => leBytes 4 (s.get (R.SEC_EXT_Dn_D n)))))] ∧ t.get R.SEC_STATUS_LOGN = s.security.log.length + 1)
      ∧ (64 ≤ s.security.log.length → t.security.log = s.security.log ∧ t.get R.SEC_STATUS_LOGFULL = 1))
  ∧ (∀ (s : State) (r : Requester) (index : BitVec 9), s.serves r.num = true → s.get R.SEC_RESULT_BUSY ≠ 1 → 
    Does (.close r index) s reachClose fun t =>
      t.get R.SEC_RESULT_CODE = 0
      ∧ t.security = { s.security with sessions := s.security.sessions.filter (fun x => x.twin || x.index != index.toNat) }
      ∧ t.get R.SEC_SESS_OPEN = (siteSessions t).length % 512
      ∧ ((s.security.sessions.any (fun x => !x.twin && x.index == index.toNat)) = true → (t.get R.LK_HIRQ_CAUSE).testBit 5 = true))
  ∧ (∀ (s : State) (r : Requester) (slot : Fin 2), s.serves r.num = true → fwBusy s r.num slot = true → 
    Does (.fwOpen r slot) s (mask [.outbox, .cycle] [.SEC_FW_STATUS_CODE, .LK_HIRQ_CAUSE]) fun t =>
      t.get R.SEC_FW_STATUS_CODE = 0x60
      ∧ (t.get R.LK_HIRQ_CAUSE).testBit 8 = true)
  ∧ (∀ (s : State) (r : Requester) (slot : Fin 2), s.serves r.num = true → fwBusy s r.num slot = true → 
    Does (.fwCommit r slot) s (mask [.outbox, .cycle] [.SEC_FW_STATUS_CODE, .LK_HIRQ_CAUSE]) fun t =>
      t.get R.SEC_FW_STATUS_CODE = 0x60
      ∧ (t.get R.LK_HIRQ_CAUSE).testBit 8 = true)
  ∧ (∀ (s : State) (r : Requester) (slot : Fin 2), s.serves r.num = true → fwBusy s r.num slot = true → 
    Does (.fwMark r slot) s (mask [.outbox, .cycle] [.SEC_FW_STATUS_CODE, .LK_HIRQ_CAUSE]) fun t =>
      t.get R.SEC_FW_STATUS_CODE = 0x60
      ∧ (t.get R.LK_HIRQ_CAUSE).testBit 8 = true)
  ∧ (∀ (s : State) (r : Requester) (slot : Fin 2), s.serves r.num = true → fwBusy s r.num slot = true → 
    Does (.fwErase r slot) s (mask [.outbox, .cycle] [.SEC_FW_STATUS_CODE, .LK_HIRQ_CAUSE]) fun t =>
      t.get R.SEC_FW_STATUS_CODE = 0x60
      ∧ (t.get R.LK_HIRQ_CAUSE).testBit 8 = true)
  ∧ (∀ (s : State) (r : Requester) (slot : Fin 2), s.serves r.num = true → fwBusy s r.num slot = true → 
    Does (.fwAbort r slot) s (mask [.outbox, .cycle] [.SEC_FW_STATUS_CODE, .LK_HIRQ_CAUSE]) fun t =>
      t.get R.SEC_FW_STATUS_CODE = 0x60
      ∧ (t.get R.LK_HIRQ_CAUSE).testBit 8 = true)
  ∧ (∀ (s : State) (r : Requester) (slot : Fin 2), s.serves r.num = true → fwBusy s r.num slot = false → fwRunning s slot = true → 
    Does (.fwOpen r slot) s (mask [.outbox, .cycle] [.SEC_FW_STATUS_CODE, .LK_HIRQ_CAUSE]) fun t =>
      t.get R.SEC_FW_STATUS_CODE = 0x62
      ∧ (t.get R.LK_HIRQ_CAUSE).testBit 8 = true)
  ∧ (∀ (s : State) (r : Requester) (slot : Fin 2), s.serves r.num = true → fwBusy s r.num slot = false → fwRunning s slot = true → 
    Does (.fwErase r slot) s (mask [.outbox, .cycle] [.SEC_FW_STATUS_CODE, .LK_HIRQ_CAUSE]) fun t =>
      t.get R.SEC_FW_STATUS_CODE = 0x62
      ∧ (t.get R.LK_HIRQ_CAUSE).testBit 8 = true)
  ∧ (∀ (s : State) (r : Requester) (slot : Fin 2), s.serves r.num = true → fwBusy s r.num slot = false → sget none s.security.fwOpens slot = none → 
    Does (.fwCommit r slot) s (mask [.outbox, .cycle] [.SEC_FW_STATUS_CODE, .LK_HIRQ_CAUSE]) fun t =>
      t.get R.SEC_FW_STATUS_CODE = 0x65
      ∧ (t.get R.LK_HIRQ_CAUSE).testBit 8 = true)
  ∧ (∀ (s : State) (r : Requester) (slot : Fin 2), s.serves r.num = true → fwBusy s r.num slot = false → sget none s.security.fwOpens slot = none → 
    Does (.fwAbort r slot) s (mask [.outbox, .cycle] [.SEC_FW_STATUS_CODE, .LK_HIRQ_CAUSE]) fun t =>
      t.get R.SEC_FW_STATUS_CODE = 0x65
      ∧ (t.get R.LK_HIRQ_CAUSE).testBit 8 = true)
  ∧ (∀ (s : State) (r : Requester) (slot : Fin 2), s.serves r.num = true → fwBusy s r.num slot = false → fwState s slot ≠ 2 → 
    Does (.fwMark r slot) s (mask [.outbox, .cycle] [.SEC_FW_STATUS_CODE, .LK_HIRQ_CAUSE]) fun t =>
      t.get R.SEC_FW_STATUS_CODE = 0x65
      ∧ (t.get R.LK_HIRQ_CAUSE).testBit 8 = true)
  ∧ (∀ (s : State) (r : Requester) (slot : Fin 2), s.serves r.num = true → fwBusy s r.num slot = false → fwRunning s slot = false → 
    Does (.fwOpen r slot) s reachFwOpen fun t =>
      fwState t slot = 1
      ∧ fwWords t slot = []
      ∧ sget none t.security.fwOpens slot = some (r.num, 0, false)
      ∧ t.security.fwCur = some slot.val
      ∧ t.get R.SEC_FW_PTR_OFS = 0
      ∧ t.get (R.SEC_FW_VERs_VER slot) = 0
      ∧ t.get R.SEC_FW_STATUS_CODE = 0
      ∧ (t.get R.LK_HIRQ_CAUSE).testBit 8 = true
      ∧ (∀ k : Fin 2, k ≠ slot → fwState t k = fwState s k ∧ fwWords t k = fwWords s k))
  ∧ (∀ (s : State) (r : Requester) (v : Word) (n w : Nat) (o : Bool),
      s.serves r.num = true → s.security.fwCur = some n → sget none s.security.fwOpens n = some (r.num, w, o) → w < 2097152 → 
    Does (.fwDataWrite r v) s (mask [.security, .links, .health, .cycle] [.NODE_ADDRERR_COUNT, .NODE_ADDRERR_REQ, .NODE_ADDRERR_KIND,
        .NODE_ADDRERR_ADDR_ADDR, .SEC_FW_PTR_OFS, .HL_NVp_MAXW]) fun t =>
      sget 0 (fwWords t n) (w / 4) = v.toNat
      ∧ (∀ j : Nat, j ≠ w / 4 → sget 0 (fwWords t n) j = sget 0 (fwWords s n) j)
      ∧ sget none t.security.fwOpens n = some (r.num, w + 4, false)
      ∧ t.get R.SEC_FW_PTR_OFS = w + 4
      ∧ (∀ k : Nat, k ≠ n → fwWords t k = fwWords s k))
  ∧ (∀ (s : State) (r : Requester) (v : Word) (n w : Nat) (o : Bool),
      s.serves r.num = true → s.security.fwCur = some n → sget none s.security.fwOpens n = some (r.num, w, o) → 2097152 ≤ w → 
    Does (.fwDataWrite r v) s (mask [.security] []) fun t =>
      sget none t.security.fwOpens n = some (r.num, w, true)
      ∧ t.security.fw = s.security.fw)
  ∧ (∀ (s : State) (r : Requester) (v : Word),
      s.serves r.num = true → s.security.fwCur.all (fun n => (sget none s.security.fwOpens n).all (fun o => o.1 != r.num)) = true → 
    Does (.fwDataWrite r v) s (mask [.links, .cycle] [.NODE_ADDRERR_COUNT, .NODE_ADDRERR_REQ, .NODE_ADDRERR_KIND, .NODE_ADDRERR_ADDR_ADDR]) fun t =>
      t.get R.NODE_ADDRERR_KIND = 5
      ∧ t.get R.NODE_ADDRERR_REQ = r.num
      ∧ t.get R.NODE_ADDRERR_ADDR_ADDR = 0x500044)
  ∧ (∀ (s : State) (r : Requester) (slot : Fin 2) (w : Nat) (o : Bool),
      s.serves r.num = true → fwBusy s r.num slot = false → sget none s.security.fwOpens slot = some (r.num, w, o) → 
    Does (.fwCommit r slot) s reachFwAbort fun t =>
      sget none t.security.fwOpens slot = none
      ∧ fwWords t slot = fwWords s slot
      ∧ (o = true → fwState t slot = 3 ∧ t.get R.SEC_FW_STATUS_CODE = 0x63)
      ∧ (o = false → w < rd32 (fwWords s slot) 12 → fwState t slot = 3 ∧ t.get R.SEC_FW_STATUS_CODE = 0x80)
      ∧ (o = false → rd32 (fwWords s slot) 12 ≤ w → ∀ c ∈ fwCheck s (fwWords s slot),
          fwState t slot = 3 ∧ t.get (R.SEC_FW_VERs_VER slot) = 0 ∧ t.get R.SEC_FW_STATUS_CODE = c % 256)
      ∧ (o = false → rd32 (fwWords s slot) 12 ≤ w → fwCheck s (fwWords s slot) = none → fwState t slot = 2 ∧ t.get (R.SEC_FW_VERs_VER slot) = rd32 (fwWords s slot) 20 % 2 ^ 32 ∧ t.get R.SEC_FW_STATUS_CODE = 0)
      ∧ (t.get R.LK_HIRQ_CAUSE).testBit 8 = true
      ∧ (∀ k : Fin 2, k ≠ slot → fwState t k = fwState s k ∧ fwWords t k = fwWords s k))
  ∧ (∀ (s : State) (r : Requester) (slot : Fin 2), s.serves r.num = true → fwBusy s r.num slot = false → fwState s slot = 2 → 
    Does (.fwMark r slot) s (mask [.health, .outbox, .cycle] [.SEC_FW_STATUS_MARK, .SEC_FW_STATUS_CODE, .LK_HIRQ_CAUSE, .HL_NVp_MAXW]) fun t =>
      t.get R.SEC_FW_STATUS_MARK = slot.val
      ∧ t.get R.SEC_FW_STATUS_CODE = 0
      ∧ (t.get R.LK_HIRQ_CAUSE).testBit 8 = true
      ∧ sget 0 t.health.lines (4 * 2 ^ 20 + 130) = sget 0 s.health.lines (4 * 2 ^ 20 + 130) + 1)
  ∧ (∀ (s : State) (r : Requester) (slot : Fin 2), s.serves r.num = true → fwBusy s r.num slot = false → fwRunning s slot = false → 
    Does (.fwErase r slot) s reachFwAbort fun t =>
      fwState t slot = 0
      ∧ t.get (R.SEC_FW_VERs_VER slot) = 0
      ∧ fwWords t slot = []
      ∧ sget none t.security.fwOpens slot = none
      ∧ t.get R.SEC_FW_STATUS_CODE = 0
      ∧ (t.get R.LK_HIRQ_CAUSE).testBit 8 = true
      ∧ (∀ k : Fin 2, k ≠ slot → fwState t k = fwState s k ∧ fwWords t k = fwWords s k))
  ∧ (∀ (s : State) (r : Requester) (slot : Fin 2),
      s.serves r.num = true → fwBusy s r.num slot = false → (sget none s.security.fwOpens slot).isSome = true → 
    Does (.fwAbort r slot) s reachFwAbort fun t =>
      fwState t slot = 0
      ∧ t.get (R.SEC_FW_VERs_VER slot) = 0
      ∧ fwWords t slot = []
      ∧ sget none t.security.fwOpens slot = none
      ∧ t.get R.SEC_FW_STATUS_CODE = 0
      ∧ (t.get R.LK_HIRQ_CAUSE).testBit 8 = true
      ∧ (∀ k : Fin 2, k ≠ slot → fwState t k = fwState s k ∧ fwWords t k = fwWords s k))
  ∧ (∀ (s : State) (r : Requester), s.serves r.num = true → s.security.fwRuns = false → 
    Does (.confirm r) s (mask [] []) fun _ =>
      True)
  ∧ (∀ (s : State) (r : Requester), s.serves r.num = true → s.security.fwRuns = true → s.security.runVer < 2 ^ 32 → 
    Does (.confirm r) s reachConfirm fun t =>
      t.get (R.SEC_RBi_COUNT 0) = max (s.get (R.SEC_RBi_COUNT 0)) s.security.runVer
      ∧ t.get R.SEC_FW_STATUS_CODE = 0
      ∧ (t.get R.LK_HIRQ_CAUSE).testBit 8 = true
      ∧ Secured s t 5 0 0xFFFF 0 s.security.runVer
      ∧ t.security = s.security)
  ∧ (∀ (s : State) (r : Requester), s.serves r.num = true → 2 ≤ r.num → s.security.fwRuns = true → s.security.runAuth = 1 → 
    Does (.revoke0 r) s (mask [.outbox, .cycle] [.SEC_STATUS_REVOKED0, .SEC_FW_STATUS_CODE, .LK_HIRQ_CAUSE]) fun t =>
      t.get R.SEC_STATUS_REVOKED0 = 1
      ∧ t.get R.SEC_FW_STATUS_CODE = 0
      ∧ (t.get R.LK_HIRQ_CAUSE).testBit 8 = true)
  ∧ (∀ (s : State) (r : Requester), s.serves r.num = true → (r.num < 2 ∨ s.security.fwRuns = false ∨ s.security.runAuth ≠ 1) → 
    Does (.revoke0 r) s (mask [] []) fun _ =>
      True)
  ∧ (∀ (s : State), s.powered = true → s.get R.SEC_STATUS_RNGFAIL = 1 → 
    Does .rngHealthFail s (mask [] []) fun _ =>
      True)
  ∧ (∀ (s : State), s.powered = true → s.get R.SEC_STATUS_RNGFAIL ≠ 1 → 
    Does .rngHealthFail s (mask [.office, .cycle, .fresh, .outbox] [.SO_LEDSTAT_FULL, .SO_LEDSTAT_WRAPPED, .SO_LEDSTAT_LOST, .SO_LEDPTR_NEXT,
        .SO_DROP_HW, .SO_DROP_DL, .SEC_STATUS_RNGFAIL, .LK_HIRQ_CAUSE]) fun t =>
      t.get R.SEC_STATUS_RNGFAIL = 1
      ∧ Secured s t 6 0 0xFFFF 0 0)
  ∧ (∀ (s : State) (r : Requester), s.serves r.num = true → s.get R.SEC_STATUS_RNGFAIL = 1 → 
    Does (.rngRead r) s (mask [.links] []) fun t =>
      t.lastRead r = [0])
  ∧ (∀ (s : State) (r : Requester), s.serves r.num = true → s.get R.SEC_STATUS_RNGFAIL ≠ 1 → 
    Does (.rngRead r) s (mask [.links, .fresh] []) fun t =>
      t.lastRead r = [s.freshNat.1 % 2 ^ 32]
      ∧ t.fresh = s.fresh + 1)

/-- Franking statements, session attempts, sessions and broadcasts. A statement request joins the queue, or is refused with 0x92 or 0x8A, a
peer's also with 0x88; STATEMENT_CAPTURE takes the first one with the statement as it stands, and STATEMENT_READY ends it: a bank is DONE
with its statement, a peer's is sent, not with PROV = 0. FRANK_REP is checked in order, by certificate, statement, age and policy, with
0x8B, 0x8C, 0x8E and 0x8D; KEY_TRANSPORT opens a session where its signature, age and plaintext hold and is refused with 0x90 otherwise;
KEY_CONFIRM opens it where its tag verifies and is counted otherwise; a timeout ends the attempt. A session frame with a wrong tag, a
repeated SEQ or a copy on the other port is counted and changes nothing else; an accepted one advances the session and its message waits.
SESSION_REKEY starts a new attempt, OLD_SESSION_EXPIRY closes the old session, and a broadcast that is not this site's, signed and new is
refused with 0x91. Each does nothing where there is no such attempt or session. A frame of a site port with a destination, VER or CLUSTER
that the port does not take is counted in RXDROP and nothing else; a message in fragments acts as the whole message with its last fragment,
waits in a buffer until then, and is counted in RXDROP where all sixteen are taken. (15_security.md R414; 15_security.md R415;
15_security.md R416; 15_security.md R417; 15_security.md R418; 15_security.md R419; 15_security.md R420; 15_security.md R423; 16_links.md
R429; 16_links.md R430; 16_links.md R431; 16_links.md R433) -/
def Obligations.SecuritySessions : Prop :=
  (∀ (s : State) (r : Requester), s.serves r.num = true → s.get R.SEC_STATUS_RNGFAIL = 1 → 
    Does (.frankRequest r) s (mask [.office, .cycle, .fresh, .outbox] [.SO_LEDSTAT_FULL, .SO_LEDSTAT_WRAPPED, .SO_LEDSTAT_LOST, .SO_LEDPTR_NEXT,
        .SO_DROP_HW, .SO_DROP_DL, .SEC_FRANK_STATUS_CODE, .LK_HIRQ_CAUSE]) fun t =>
      t.get (R.SEC_FRANK_STATUS_CODE r.num) = 0x92
      ∧ Secured s t 1 0x92 0xFFFF 0 0)
  ∧ (∀ (s : State) (r : Requester),
      s.serves r.num = true → s.get R.SEC_STATUS_RNGFAIL ≠ 1 → (8 ≤ s.security.queue.length ∨ s.get (R.SEC_FRANK_STATUS_BUSY r.num) = 1) → 
    Does (.frankRequest r) s (mask [.office, .cycle, .fresh, .outbox] [.SO_LEDSTAT_FULL, .SO_LEDSTAT_WRAPPED, .SO_LEDSTAT_LOST, .SO_LEDPTR_NEXT,
        .SO_DROP_HW, .SO_DROP_DL, .SEC_FRANK_STATUS_CODE, .LK_HIRQ_CAUSE]) fun t =>
      t.get (R.SEC_FRANK_STATUS_CODE r.num) = 0x8A
      ∧ Secured s t 1 0x8A 0xFFFF 0 0)
  ∧ (∀ (s : State) (r : Requester),
      s.serves r.num = true → s.get R.SEC_STATUS_RNGFAIL ≠ 1 → s.security.queue.length < 8 → s.get (R.SEC_FRANK_STATUS_BUSY r.num) ≠ 1 → 
    Does (.frankRequest r) s reachFrankRequest fun t =>
      t.security = { s.security with queue := s.security.queue ++ [(.host r.num, ((List.range 8).flatMap (fun n => leBytes 4 (s.get (R.SEC_FRANK_NONCEn_N n r.num)))))] }
      ∧ t.get (R.SEC_FRANK_STATUS_BUSY r.num) = 1
      ∧ t.get (R.SEC_FRANK_STATUS_DONE r.num) = 0
      ∧ t.get (R.SEC_FRANK_STATUS_CODE r.num) = 0
      ∧ (∀ k : Fin 10, t.get (R.SEC_FRANK_STATUS_QUEUE k) = t.security.queue.length % 16))
  ∧ (∀ (s : State) (w : FrankWho) (nonce : Bytes) (rest : List (FrankWho × Bytes)),
      s.powered = true → s.security.signing = none → s.security.queue = (w, nonce) :: rest → 
    Does .statementCapture s (mask [.security] [.SEC_FRANK_STATUS_QUEUE]) fun t =>
      t.security = { s.security with queue := rest, signing := some (w, statementBody s nonce) }
      ∧ (∀ k : Fin 10, t.get (R.SEC_FRANK_STATUS_QUEUE k) = t.security.queue.length % 16))
  ∧ (∀ (s : State), s.powered = true → (s.security.signing.isSome = true ∨ s.security.queue = []) → 
    Does .statementCapture s (mask [] []) fun _ =>
      True)
  ∧ (∀ (s : State), s.powered = true → s.security.signing = none → 
    Does .statementReady s (mask [] []) fun _ =>
      True)
  ∧ (∀ (s : State) (r : Fin 10) (body : Bytes), s.powered = true → s.security.signing = some (.host r.val, body) → 
    Does .statementReady s (mask [.security, .fresh, .outbox, .cycle] [.SEC_FRANK_STATUS_BUSY, .SEC_FRANK_STATUS_DONE, .LK_HIRQ_CAUSE]) fun t =>
      t.security.signing = none
      ∧ t.get (R.SEC_FRANK_STATUS_BUSY r) = 0
      ∧ t.get (R.SEC_FRANK_STATUS_DONE r) = 1
      ∧ (sget [] t.security.banks r).take body.length = body
      ∧ (t.get R.LK_HIRQ_CAUSE).testBit 9 = true
      ∧ t.security.queue = s.security.queue)
  ∧ (∀ (s : State) (p : Nat) (body : Bytes), s.powered = true → s.security.signing = some (.peer p, body) → s.get R.NODE_IDENT_PROV = 0 → 
    Does .statementReady s (mask [.office, .security, .cycle, .fresh, .outbox] [.SO_LEDSTAT_FULL, .SO_LEDSTAT_WRAPPED, .SO_LEDSTAT_LOST,
        .SO_LEDPTR_NEXT, .SO_DROP_HW, .SO_DROP_DL, .LK_HIRQ_CAUSE]) fun t =>
      t.security = { s.security with signing := none }
      ∧ Secured s t 1 0x88 p 0 0)
  ∧ (∀ (s : State) (p : Nat) (body : Bytes), s.powered = true → s.security.signing = some (.peer p, body) → s.get R.NODE_IDENT_PROV ≠ 0 → 
    Does .statementReady s (mask [.security, .fresh, .outbox, .links] []) fun t =>
      t.security = { s.security with signing := none }
      ∧ t.links.msgId = (s.links.msgId + 1) % 65536
      ∧ (s.get (R.LK_SPn_STAT_UP 0) = 1 ∨ s.get (R.LK_SPn_STAT_UP 1) = 1 → s.outbox.length < t.outbox.length))
  ∧ (∀ (s : State) (f : FrankReq),
      s.linked = true → headTakes s f.port 2 f.head = true → f.head.frag = 0 → f.head.nfrag = 1 → s.get R.NODE_IDENT_PROV = 0 → 
    Does (.frankReq f) s (mask [.office, .cycle, .fresh, .outbox] [.SO_LEDSTAT_FULL, .SO_LEDSTAT_WRAPPED, .SO_LEDSTAT_LOST, .SO_LEDPTR_NEXT,
        .SO_DROP_HW, .SO_DROP_DL, .LK_HIRQ_CAUSE]) fun t =>
      Secured s t 1 0x88 f.peer.toNat 0 0)
  ∧ (∀ (s : State) (f : FrankReq),
      s.linked = true → headTakes s f.port 2 f.head = true → f.head.frag = 0 → f.head.nfrag = 1 → s.get R.NODE_IDENT_PROV ≠ 0 → s.get R.SEC_STATUS_RNGFAIL = 1 → 
    Does (.frankReq f) s (mask [.office, .cycle, .fresh, .outbox] [.SO_LEDSTAT_FULL, .SO_LEDSTAT_WRAPPED, .SO_LEDSTAT_LOST, .SO_LEDPTR_NEXT,
        .SO_DROP_HW, .SO_DROP_DL, .LK_HIRQ_CAUSE]) fun t =>
      Secured s t 1 0x92 f.peer.toNat 0 0)
  ∧ (∀ (s : State) (f : FrankReq),
      s.linked = true → headTakes s f.port 2 f.head = true → f.head.frag = 0 → f.head.nfrag = 1 → s.get R.NODE_IDENT_PROV ≠ 0 → s.get R.SEC_STATUS_RNGFAIL ≠ 1 → (8 ≤ s.security.queue.length ∨ s.security.queue.any (fun q => q.1 == .peer f.peer.toNat) = true) → 
    Does (.frankReq f) s (mask [.office, .cycle, .fresh, .outbox] [.SO_LEDSTAT_FULL, .SO_LEDSTAT_WRAPPED, .SO_LEDSTAT_LOST, .SO_LEDPTR_NEXT,
        .SO_DROP_HW, .SO_DROP_DL, .LK_HIRQ_CAUSE]) fun t =>
      Secured s t 1 0x8A f.peer.toNat 0 0)
  ∧ (∀ (s : State) (f : FrankReq),
      s.linked = true → headTakes s f.port 2 f.head = true → f.head.frag = 0 → f.head.nfrag = 1 → s.get R.NODE_IDENT_PROV ≠ 0 → s.get R.SEC_STATUS_RNGFAIL ≠ 1 → s.security.queue.length < 8 → s.security.queue.any (fun q => q.1 == .peer f.peer.toNat) = false → 
    Does (.frankReq f) s reachFrankReq fun t =>
      t.security.queue = s.security.queue ++ [(.peer f.peer.toNat, f.nonce)]
      ∧ (∀ k : Fin 10, t.get (R.SEC_FRANK_STATUS_QUEUE k) = t.security.queue.length % 16)
      ∧ (attemptOf s f.peer.toNat = none → attemptRefusal s f.peer.toNat = none → (attemptOf t f.peer.toNat).any (fun a => a.peerNonce == f.nonce && a.dik == 0 && a.sentAt == s.time.elapsed) = true)
      ∧ (∀ c ∈ attemptRefusal s f.peer.toNat, attemptOf s f.peer.toNat = none → Secured s t 1 c f.peer.toNat 0 0))
  ∧ (∀ (s : State) (f : FrankRep),
      s.linked = true → headTakes s f.port 3 f.head = true → f.head.frag = 0 → f.head.nfrag = 1 → (attemptOf s f.peer.toNat = none ∨ (attemptOf s f.peer.toNat).any (fun a => a.dik != 0) = true) → 
    Does (.frankRep f) s (mask [] []) fun _ =>
      True)
  ∧ (∀ (s : State) (f : FrankRep) (a : Attempt),
      s.linked = true → headTakes s f.port 3 f.head = true → f.head.frag = 0 → f.head.nfrag = 1 → attemptOf s f.peer.toNat = some a → a.dik = 0 → 
    Does (.frankRep f) s reachFrankRep fun t =>
      (Config.certKey f.cert = none → (attemptOf t f.peer.toNat = none ∧ Secured s t 1 0x8B f.peer.toNat 0 0))
      ∧ (∀ n ∈ Config.certKey f.cert,
          peerStatement f.statement a.nonce n = false → (attemptOf t f.peer.toNat = none ∧ Secured s t 1 0x8C f.peer.toNat 0 0))
      ∧ (∀ n ∈ Config.certKey f.cert,
          peerStatement f.statement a.nonce n = true → frankWin s < s.since a.sentAt → (attemptOf t f.peer.toNat = none ∧ Secured s t 1 0x8E f.peer.toNat 0 0))
      ∧ (∀ n ∈ Config.certKey f.cert,
          peerStatement f.statement a.nonce n = true → ¬ frankWin s < s.since a.sentAt → peerPolicy s f.statement n = false → (attemptOf t f.peer.toNat = none ∧ Secured s t 1 0x8D f.peer.toNat 0 0))
      ∧ (∀ n ∈ Config.certKey f.cert,
          peerStatement f.statement a.nonce n = true → ¬ frankWin s < s.since a.sentAt → peerPolicy s f.statement n = true → a.peerNonce = [] ∨ f.peer.toNat ≤ ownNode s → attemptOf t f.peer.toNat = some { a with dik := n, dxk := beNat (sliceOf f.statement 896 512), checkedAt := some s.time.elapsed }))
  ∧ (∀ (s : State) (m : KeyMsg),
      s.linked = true → headTakes s m.port 4 m.head = true → m.head.frag = 0 → m.head.nfrag = 1 → (attemptOf s m.peer.toNat = none ∨ ownNode s ≤ m.peer.toNat ∨ (attemptOf s m.peer.toNat).any (fun a => a.dik == 0) = true) → 
    Does (.keyTransport m) s (mask [] []) fun _ =>
      True)
  ∧ (∀ (s : State) (m : KeyMsg) (a : Attempt),
      s.linked = true → headTakes s m.port 4 m.head = true → m.head.frag = 0 → m.head.nfrag = 1 → attemptOf s m.peer.toNat = some a → m.peer.toNat < ownNode s → a.dik ≠ 0 → 
    Does (.keyTransport m) s reachKeyTransport fun t =>
      ((a.checkedAt.any (fun e => decide (frankWin s < s.since e)) = true) ∨ m.session.toNat = 0 ∨ ¬ (sigOk m.check 4 0 a.dik (leBytes 4 m.session.toNat ++ m.cipher ++ (keyLabel s a)) = true) → (attemptOf t m.peer.toNat = none ∧ Secured s t 1 0x90 m.peer.toNat 0 0))
      ∧ (s.security.dxk.bind (fun k => oaepDecrypt k.1 k.2 m.cipher (keyLabel s a)) = none → (attemptOf t m.peer.toNat = none ∧ Secured s t 1 0x90 m.peer.toNat 0 0))
      ∧ (¬ (a.checkedAt.any (fun e => decide (frankWin s < s.since e)) = true) → m.session.toNat ≠ 0 → (sigOk m.check 4 0 a.dik (leBytes 4 m.session.toNat ++ m.cipher ++ (keyLabel s a)) = true) → ∀ k ∈ s.security.dxk.bind (fun k => oaepDecrypt k.1 k.2 m.cipher (keyLabel s a)), k.length = 72 → ∀ c ∈ attemptRefusal s m.peer.toNat, (attemptOf t m.peer.toNat = none ∧ Secured s t 1 c m.peer.toNat 0 0))
      ∧ (¬ (a.checkedAt.any (fun e => decide (frankWin s < s.since e)) = true) → m.session.toNat ≠ 0 → (sigOk m.check 4 0 a.dik (leBytes 4 m.session.toNat ++ m.cipher ++ (keyLabel s a)) = true) → ∀ k ∈ s.security.dxk.bind (fun k => oaepDecrypt k.1 k.2 m.cipher (keyLabel s a)), k.length = 72 → attemptRefusal s m.peer.toNat = none → attemptOf t m.peer.toNat = none ∧ t.security.sessions.any (fun x => x.id == m.session.toNat && x.peer == m.peer.toNat && !x.twin && x.oldUntil.isNone && x.rxKey == sliceOf k 0 32 && x.txKey == sliceOf k 32 32) = true ∧ t.get R.SEC_SESS_OPEN = (siteSessions t).length % 512))
  ∧ (∀ (s : State) (m : KeyMsg),
      s.linked = true → headTakes s m.port 1 m.head = true → (attemptOf s m.peer.toNat).all (fun a => a.secret == [] || m.session.toNat != a.id) = true → 
    Does (.keyConfirm m) s (mask [] []) fun _ =>
      True)
  ∧ (∀ (s : State) (m : KeyMsg) (a : Attempt),
      s.linked = true → headTakes s m.port 1 m.head = true → attemptOf s m.peer.toNat = some a → a.secret ≠ [] → m.session.toNat = a.id → s.get R.NODE_IDENT_PROV = 0 → 
    Does (.keyConfirm m) s (mask [.office, .security, .cycle, .fresh, .outbox] [.SO_LEDSTAT_FULL, .SO_LEDSTAT_WRAPPED, .SO_LEDSTAT_LOST,
        .SO_LEDPTR_NEXT, .SO_DROP_HW, .SO_DROP_DL, .LK_HIRQ_CAUSE]) fun t =>
      attemptOf t m.peer.toNat = none
      ∧ Secured s t 1 0x88 m.peer.toNat 0 0
      ∧ t.security.sessions = s.security.sessions)
  ∧ (∀ (s : State) (m : KeyMsg) (a : Attempt),
      s.linked = true → headTakes s m.port 1 m.head = true → attemptOf s m.peer.toNat = some a → a.secret ≠ [] → m.session.toNat = a.id → s.get R.NODE_IDENT_PROV ≠ 0 → 
    Does (.keyConfirm m) s reachKeyConfirm fun t =>
      (m.check ≠ rxTag (sessionOf s a a.id a.secret true) 1 1 [] → t.security = s.security ∧ t.get R.SEC_CNT_TAGFAIL = min (2 ^ (R.SEC_CNT_TAGFAIL).width - 1) (s.get R.SEC_CNT_TAGFAIL + 1))
      ∧ (m.check = rxTag (sessionOf s a a.id a.secret true) 1 1 [] → attemptOf t m.peer.toNat = none ∧ t.security.sessions.getLast? = some { (sessionOf s a a.id a.secret true) with rxHigh := 2, rxMap := 0 } ∧ t.get R.SEC_SESS_OPEN = (siteSessions t).length % 512 ∧ Secured s t 2 0 a.peer a.id 0))
  ∧ (∀ (s : State) (peer : BitVec 12), s.powered = true → attemptOf s peer.toNat = none → 
    Does (.keyTransportTimeout peer) s (mask [] []) fun _ =>
      True)
  ∧ (∀ (s : State) (peer : BitVec 12) (a : Attempt), s.powered = true → attemptOf s peer.toNat = some a → 
    Does (.keyTransportTimeout peer) s reachKeyTransportTimeout fun t =>
      attemptOf t peer.toNat = none
      ∧ Secured s t 1 (if a.checkedAt.isSome then 0x90 else 0x8E) peer.toNat 0 0
      ∧ (s.increment ≠ 0 → a.checkedAt.getD a.sentAt + frankWin s ≤ t.time.elapsed)
      ∧ t.security.sessions = s.security.sessions)
  ∧ (∀ (s : State) (f : SessionFrame),
      s.linked = true → (f.port = 2 ∨ headTakes s f.port 1 f.head = true) → s.security.sessions.find? (fun x => x.id == f.session.toNat && x.twin == decide (f.port = 2)) = none → 
    Does (.sessionFrame f) s (mask [] []) fun _ =>
      True)
  ∧ (∀ (s : State) (f : SessionFrame) (x : Session),
      s.linked = true → (f.port = 2 ∨ headTakes s f.port 1 f.head = true) → s.security.sessions.find? (fun x => x.id == f.session.toNat && x.twin == decide (f.port = 2)) = some x → x.oldUntil.any (fun e => decide (e < s.time.elapsed)) = true → 
    Does (.sessionFrame f) s (mask [] []) fun _ =>
      True)
  ∧ (∀ (s : State) (f : SessionFrame) (x : Session),
      s.linked = true → (f.port = 2 ∨ headTakes s f.port 1 f.head = true) → s.security.sessions.find? (fun x => x.id == f.session.toNat && x.twin == decide (f.port = 2)) = some x → ¬ (x.oldUntil.any (fun e => decide (e < s.time.elapsed)) = true) → f.port ≠ 2 → seenOther s f.port f.session.toNat f.seq.toNat = true → 
    Does (.sessionFrame f) s (mask [.cycle] [.LK_SPn_CNT_DUP]) fun t =>
      t.get (R.LK_SPn_CNT_DUP f.port) = min (2 ^ (R.LK_SPn_CNT_DUP f.port).width - 1) (s.get (R.LK_SPn_CNT_DUP f.port) + 1)
      ∧ Only [R.LK_SPn_CNT_DUP f.port] s t)
  ∧ (∀ (s : State) (f : SessionFrame) (x : Session),
      s.linked = true → (f.port = 2 ∨ headTakes s f.port 1 f.head = true) → s.security.sessions.find? (fun x => x.id == f.session.toNat && x.twin == decide (f.port = 2)) = some x → ¬ (x.oldUntil.any (fun e => decide (e < s.time.elapsed)) = true) → f.port ≠ 2 → seenOther s f.port f.session.toNat f.seq.toNat = false → 
    Does (.sessionFrame f) s (mask [.security, .links, .cycle] [.SEC_CNT_TAGFAIL, .SEC_CNT_REPLAY, .LK_TWIN_CNT_TAGFAIL, .LK_SPn_CNT_RXDROP,
        .LK_SPn_CNT_DUP]) fun t =>
      (¬ f.tag = rxTag x f.seq.toNat f.flags.toNat f.payload → t.security = s.security ∧ t.links = s.links ∧ t.get R.SEC_CNT_TAGFAIL = min (2 ^ (R.SEC_CNT_TAGFAIL).width - 1) (s.get R.SEC_CNT_TAGFAIL + 1))
      ∧ (f.tag = rxTag x f.seq.toNat f.flags.toNat f.payload → seqMap x.rxHigh x.rxMap f.seq.toNat = none → t.security = s.security ∧ t.links = s.links ∧ t.get R.SEC_CNT_REPLAY = min (2 ^ (R.SEC_CNT_REPLAY).width - 1) (s.get R.SEC_CNT_REPLAY + 1))
      ∧ (f.tag = rxTag x f.seq.toNat f.flags.toNat f.payload → ∀ h ∈ seqMap x.rxHigh x.rxMap f.seq.toNat,
          t.security.sessions = s.security.sessions.map (fun y => if y = x then { y with rxHigh := h.1, rxMap := h.2 } else y))
      ∧ (f.tag = rxTag x f.seq.toNat f.flags.toNat f.payload → seqMap x.rxHigh x.rxMap f.seq.toNat ≠ none → 16 ≤ (gcmCrypt x.rxKey (x.rxSalt ++ beBytes 8 f.seq.toNat) f.payload).length → ∀ h ∈ seqMap (sget (0, 0) s.links.pairs (fieldOf (gcmCrypt x.rxKey (x.rxSalt ++ beBytes 8 f.seq.toNat) f.payload) 2 2)).1 (sget (0, 0) s.links.pairs (fieldOf (gcmCrypt x.rxKey (x.rxSalt ++ beBytes 8 f.seq.toNat) f.payload) 2 2)).2 (fieldOf (gcmCrypt x.rxKey (x.rxSalt ++ beBytes 8 f.seq.toNat) f.payload) 4 6), t.links.inbox = s.links.inbox ++ [⟨fieldOf (gcmCrypt x.rxKey (x.rxSalt ++ beBytes 8 f.seq.toNat) f.payload) 0 1, BitVec.ofNat 16 (fieldOf (gcmCrypt x.rxKey (x.rxSalt ++ beBytes 8 f.seq.toNat) f.payload) 2 2), BitVec.ofNat 48 (fieldOf (gcmCrypt x.rxKey (x.rxSalt ++ beBytes 8 f.seq.toNat) f.payload) 4 6), sliceOf (gcmCrypt x.rxKey (x.rxSalt ++ beBytes 8 f.seq.toNat) f.payload) 16 (fieldOf (gcmCrypt x.rxKey (x.rxSalt ++ beBytes 8 f.seq.toNat) f.payload) 10 2), s.postmark⟩]))
  ∧ (∀ (s : State) (f : SessionFrame) (x : Session),
      s.linked = true → s.security.sessions.find? (fun x => x.id == f.session.toNat && x.twin == decide (f.port = 2)) = some x → ¬ (x.oldUntil.any (fun e => decide (e < s.time.elapsed)) = true) → f.port = 2 → 
    Does (.sessionFrame f) s (mask [.security, .links, .cycle] [.SEC_CNT_TAGFAIL, .SEC_CNT_REPLAY, .LK_TWIN_CNT_TAGFAIL, .LK_SPn_CNT_RXDROP,
        .LK_SPn_CNT_DUP]) fun t =>
      (¬ f.tag = rxTag x f.seq.toNat f.flags.toNat f.payload → t.security = s.security ∧ t.get R.LK_TWIN_CNT_TAGFAIL = min (2 ^ (R.LK_TWIN_CNT_TAGFAIL).width - 1) (s.get R.LK_TWIN_CNT_TAGFAIL + 1))
      ∧ (f.tag = rxTag x f.seq.toNat f.flags.toNat f.payload → seqMap x.rxHigh x.rxMap f.seq.toNat = none → t.security = s.security ∧ t.get R.SEC_CNT_REPLAY = min (2 ^ (R.SEC_CNT_REPLAY).width - 1) (s.get R.SEC_CNT_REPLAY + 1))
      ∧ (f.tag = rxTag x f.seq.toNat f.flags.toNat f.payload → ∀ h ∈ seqMap x.rxHigh x.rxMap f.seq.toNat,
          t.security.sessions = s.security.sessions.map (fun y => if y = x then { y with rxHigh := h.1, rxMap := h.2 } else y))
      ∧ t.links = s.links)
  ∧ (∀ (s : State) (peer : BitVec 12), s.powered = true → (sessionWith s peer.toNat = none ∨ (attemptOf s peer.toNat).isSome = true) → 
    Does (.sessionRekey peer) s (mask [] []) fun _ =>
      True)
  ∧ (∀ (s : State) (peer : BitVec 12) (x : Session), s.powered = true → sessionWith s peer.toNat = some x → attemptOf s peer.toNat = none → 
    Does (.sessionRekey peer) s reachSessionRekey fun t =>
      (∀ c ∈ attemptRefusal s peer.toNat, Secured s t 1 c peer.toNat 0 0)
      ∧ (attemptRefusal s peer.toNat = none → (attemptOf t peer.toNat).any (fun a => a.dik == 0 && a.peerNonce == [] && a.sentAt == t.time.elapsed) = true)
      ∧ (x.txSeq < 2 ^ 32 → x.rxHigh ≤ 2 ^ 32 → s.increment ≠ 0 → x.opened + usec (s.get R.SEC_SESSCFG_LIFE * 3600000000) ≤ t.time.elapsed)
      ∧ t.security.sessions = s.security.sessions)
  ∧ (∀ (s : State) (peer : BitVec 12), s.powered = true → s.security.sessions.find? (fun x => x.peer == peer.toNat && x.oldUntil.isSome) = none → 
    Does (.oldSessionExpiry peer) s (mask [] []) fun _ =>
      True)
  ∧ (∀ (s : State) (peer : BitVec 12) (x : Session),
      s.powered = true → s.security.sessions.find? (fun x => x.peer == peer.toNat && x.oldUntil.isSome) = some x → 
    Does (.oldSessionExpiry peer) s reachOldSessionExpiry fun t =>
      t.security = { s.security with sessions := s.security.sessions.filter (fun y => y != x) }
      ∧ Secured s t 3 0 x.peer x.id 0
      ∧ t.get R.SEC_SESS_OPEN = (siteSessions t).length % 512
      ∧ (s.increment ≠ 0 → x.oldUntil.getD 0 ≤ t.time.elapsed))
  ∧ (∀ (s : State) (b : BroadcastRec), s.linked = true → headTakes s b.port 5 b.head = true → 
    Does (.broadcast b) s reachBroadcast fun t =>
      (¬ (b.record.length = 32 ∧ fieldOf b.record 0 4 = 0x44524242 ∧ enrolled s = true ∧ fieldOf b.record 4 4 = siteId s ∧ fieldOf b.record 24 2 / 4096 = 3 ∧ sigOk b.sig 3 0 (siteKey s) b.record = true ∧ s.security.bseq.all (fun h => decide (h < fieldOf b.record 8 8)) = true) → t.security = s.security ∧ Secured s t 1 0x91 0xFFFF 0 0 ∧ t.acceptance = s.acceptance)
      ∧ ((b.record.length = 32 ∧ fieldOf b.record 0 4 = 0x44524242 ∧ enrolled s = true ∧ fieldOf b.record 4 4 = siteId s ∧ fieldOf b.record 24 2 / 4096 = 3 ∧ sigOk b.sig 3 0 (siteKey s) b.record = true ∧ s.security.bseq.all (fun h => decide (h < fieldOf b.record 8 8)) = true) → t.security = { s.security with bseq := some (fieldOf b.record 8 8) }))
  ∧ (∀ (s : State) (f : FrankReq),
      s.linked = true → (¬ (beBytes 6 f.head.dst.toNat ∈ [portAddress (s.get R.NODE_IDENT_CLUSTER) f.port (s.get R.NODE_IDENT_NODE), siteMulticast,
      clusterMulticast (s.get R.NODE_IDENT_CLUSTER), [0x01, 0x1B, 0x19, 0, 0, 0], [0x01, 0x80, 0xC2, 0, 0,
      0x0E]] ∧ f.head.ver = 1 ∧ (s.get (R.LK_SPn_CFG_CLF f.port) = 0 ∨ f.head.cluster.toNat = s.get R.NODE_IDENT_CLUSTER))) → 
    Does (.frankReq f) s (mask [.cycle] [.LK_SPn_CNT_RXDROP]) fun t =>
      t.get (R.LK_SPn_CNT_RXDROP f.port) = min 65535 (s.get (R.LK_SPn_CNT_RXDROP f.port) + 1)
      ∧ Only [R.LK_SPn_CNT_RXDROP f.port] s t)
  ∧ (∀ (s : State) (f : FrankRep),
      s.linked = true → (¬ (beBytes 6 f.head.dst.toNat ∈ [portAddress (s.get R.NODE_IDENT_CLUSTER) f.port (s.get R.NODE_IDENT_NODE), siteMulticast,
      clusterMulticast (s.get R.NODE_IDENT_CLUSTER), [0x01, 0x1B, 0x19, 0, 0, 0], [0x01, 0x80, 0xC2, 0, 0,
      0x0E]] ∧ f.head.ver = 1 ∧ (s.get (R.LK_SPn_CFG_CLF f.port) = 0 ∨ f.head.cluster.toNat = s.get R.NODE_IDENT_CLUSTER))) → 
    Does (.frankRep f) s (mask [.cycle] [.LK_SPn_CNT_RXDROP]) fun t =>
      t.get (R.LK_SPn_CNT_RXDROP f.port) = min 65535 (s.get (R.LK_SPn_CNT_RXDROP f.port) + 1)
      ∧ Only [R.LK_SPn_CNT_RXDROP f.port] s t)
  ∧ (∀ (s : State) (m : KeyMsg),
      s.linked = true → (¬ (beBytes 6 m.head.dst.toNat ∈ [portAddress (s.get R.NODE_IDENT_CLUSTER) m.port (s.get R.NODE_IDENT_NODE), siteMulticast,
      clusterMulticast (s.get R.NODE_IDENT_CLUSTER), [0x01, 0x1B, 0x19, 0, 0, 0], [0x01, 0x80, 0xC2, 0, 0,
      0x0E]] ∧ m.head.ver = 1 ∧ (s.get (R.LK_SPn_CFG_CLF m.port) = 0 ∨ m.head.cluster.toNat = s.get R.NODE_IDENT_CLUSTER))) → 
    Does (.keyTransport m) s (mask [.cycle] [.LK_SPn_CNT_RXDROP]) fun t =>
      t.get (R.LK_SPn_CNT_RXDROP m.port) = min 65535 (s.get (R.LK_SPn_CNT_RXDROP m.port) + 1)
      ∧ Only [R.LK_SPn_CNT_RXDROP m.port] s t)
  ∧ (∀ (s : State) (m : KeyMsg),
      s.linked = true → (¬ (beBytes 6 m.head.dst.toNat ∈ [portAddress (s.get R.NODE_IDENT_CLUSTER) m.port (s.get R.NODE_IDENT_NODE), siteMulticast,
      clusterMulticast (s.get R.NODE_IDENT_CLUSTER), [0x01, 0x1B, 0x19, 0, 0, 0], [0x01, 0x80, 0xC2, 0, 0,
      0x0E]] ∧ m.head.ver = 1 ∧ (s.get (R.LK_SPn_CFG_CLF m.port) = 0 ∨ m.head.cluster.toNat = s.get R.NODE_IDENT_CLUSTER))) → 
    Does (.keyConfirm m) s (mask [.cycle] [.LK_SPn_CNT_RXDROP]) fun t =>
      t.get (R.LK_SPn_CNT_RXDROP m.port) = min 65535 (s.get (R.LK_SPn_CNT_RXDROP m.port) + 1)
      ∧ Only [R.LK_SPn_CNT_RXDROP m.port] s t)
  ∧ (∀ (s : State) (f : SessionFrame),
      s.linked = true → f.port ≠ 2 → (¬ (beBytes 6 f.head.dst.toNat ∈ [portAddress (s.get R.NODE_IDENT_CLUSTER) f.port (s.get R.NODE_IDENT_NODE),
      siteMulticast, clusterMulticast (s.get R.NODE_IDENT_CLUSTER), [0x01, 0x1B, 0x19, 0, 0, 0], [0x01, 0x80, 0xC2, 0, 0,
      0x0E]] ∧ f.head.ver = 1 ∧ (s.get (R.LK_SPn_CFG_CLF f.port) = 0 ∨ f.head.cluster.toNat = s.get R.NODE_IDENT_CLUSTER))) → 
    Does (.sessionFrame f) s (mask [.cycle] [.LK_SPn_CNT_RXDROP]) fun t =>
      t.get (R.LK_SPn_CNT_RXDROP f.port) = min 65535 (s.get (R.LK_SPn_CNT_RXDROP f.port) + 1)
      ∧ Only [R.LK_SPn_CNT_RXDROP f.port] s t)
  ∧ (∀ (s : State) (b : BroadcastRec),
      s.linked = true → (¬ (beBytes 6 b.head.dst.toNat ∈ [portAddress (s.get R.NODE_IDENT_CLUSTER) b.port (s.get R.NODE_IDENT_NODE), siteMulticast,
      clusterMulticast (s.get R.NODE_IDENT_CLUSTER), [0x01, 0x1B, 0x19, 0, 0, 0], [0x01, 0x80, 0xC2, 0, 0, 0x0E]] ∧ b.head.ver = 1)) → 
    Does (.broadcast b) s (mask [.cycle] [.LK_SPn_CNT_RXDROP]) fun t =>
      t.get (R.LK_SPn_CNT_RXDROP b.port) = min 65535 (s.get (R.LK_SPn_CNT_RXDROP b.port) + 1)
      ∧ Only [R.LK_SPn_CNT_RXDROP b.port] s t)
  ∧ (∀ (s : State) (f : FrankReq),
      s.linked = true → headTakes s f.port 2 f.head = true → 2 ≤ f.head.nfrag.toNat → f.head.nfrag.toNat ≤ 16 → f.head.frag.toNat < f.head.nfrag.toNat → (setBit ((((s.links.parts.filter (fun p => decide (s.since p.at_ ≤ frankWin s))).find? (fun p : Reassembly => p.src == f.peer.toNat && p.msgId == f.head.msgId.toNat)).map (·.got)).getD 0) f.head.frag.toNat true) = 2 ^ f.head.nfrag.toNat - 1 → 
    Does (.frankReq f) s reachFrankReq fun t =>
      (match exec (.frankReq { f with head := { f.head with frag := 0, nfrag := 1 } }) { s with links := { s.links with parts := ((s.links.parts.filter (fun p => decide (s.since p.at_ ≤ frankWin s))).filter (fun p => !(p.src == f.peer.toNat && p.msgId == f.head.msgId.toNat))) } } with | .next u => decide (u = t) | _ => false) = true)
  ∧ (∀ (s : State) (f : FrankReq),
      s.linked = true → headTakes s f.port 2 f.head = true → 2 ≤ f.head.nfrag.toNat → f.head.nfrag.toNat ≤ 16 → f.head.frag.toNat < f.head.nfrag.toNat → (setBit ((((s.links.parts.filter (fun p => decide (s.since p.at_ ≤ frankWin s))).find? (fun p : Reassembly => p.src == f.peer.toNat && p.msgId == f.head.msgId.toNat)).map (·.got)).getD 0) f.head.frag.toNat true) ≠ 2 ^ f.head.nfrag.toNat - 1 → (((s.links.parts.filter (fun p => decide (s.since p.at_ ≤ frankWin s))).find? (fun p : Reassembly => p.src == f.peer.toNat && p.msgId == f.head.msgId.toNat)).isSome = true ∨ (s.links.parts.filter (fun p => decide (s.since p.at_ ≤ frankWin s))).length < 16) → 
    Does (.frankReq f) s (mask [.links] []) fun t =>
      t.links = { s.links with parts := ((s.links.parts.filter (fun p => decide (s.since p.at_ ≤ frankWin s))).filter (fun p => !(p.src == f.peer.toNat && p.msgId == f.head.msgId.toNat))) ++ [⟨f.peer.toNat, f.head.msgId.toNat, (((s.links.parts.filter (fun p => decide (s.since p.at_ ≤ frankWin s))).find? (fun p : Reassembly => p.src == f.peer.toNat && p.msgId == f.head.msgId.toNat)).map (·.at_)).getD s.time.elapsed, (setBit ((((s.links.parts.filter (fun p => decide (s.since p.at_ ≤ frankWin s))).find? (fun p : Reassembly => p.src == f.peer.toNat && p.msgId == f.head.msgId.toNat)).map (·.got)).getD 0) f.head.frag.toNat true)⟩] })
  ∧ (∀ (s : State) (f : FrankReq),
      s.linked = true → headTakes s f.port 2 f.head = true → 2 ≤ f.head.nfrag.toNat → f.head.nfrag.toNat ≤ 16 → f.head.frag.toNat < f.head.nfrag.toNat → (s.links.parts.filter (fun p => decide (s.since p.at_ ≤ frankWin s))).find? (fun p : Reassembly => p.src == f.peer.toNat && p.msgId == f.head.msgId.toNat) = none → 16 ≤ (s.links.parts.filter (fun p => decide (s.since p.at_ ≤ frankWin s))).length → (setBit ((((s.links.parts.filter (fun p => decide (s.since p.at_ ≤ frankWin s))).find? (fun p : Reassembly => p.src == f.peer.toNat && p.msgId == f.head.msgId.toNat)).map (·.got)).getD 0) f.head.frag.toNat true) ≠ 2 ^ f.head.nfrag.toNat - 1 → 
    Does (.frankReq f) s (mask [.links, .cycle] [.LK_SPn_CNT_RXDROP]) fun t =>
      t.links = { s.links with parts := (s.links.parts.filter (fun p => decide (s.since p.at_ ≤ frankWin s))) }
      ∧ t.get (R.LK_SPn_CNT_RXDROP f.port) = min 65535 (s.get (R.LK_SPn_CNT_RXDROP f.port) + 1)
      ∧ Only [R.LK_SPn_CNT_RXDROP f.port] s t)
  ∧ (∀ (s : State) (f : FrankRep),
      s.linked = true → headTakes s f.port 3 f.head = true → 2 ≤ f.head.nfrag.toNat → f.head.nfrag.toNat ≤ 16 → f.head.frag.toNat < f.head.nfrag.toNat → (setBit ((((s.links.parts.filter (fun p => decide (s.since p.at_ ≤ frankWin s))).find? (fun p : Reassembly => p.src == f.peer.toNat && p.msgId == f.head.msgId.toNat)).map (·.got)).getD 0) f.head.frag.toNat true) = 2 ^ f.head.nfrag.toNat - 1 → 
    Does (.frankRep f) s reachFrankRep fun t =>
      (match exec (.frankRep { f with head := { f.head with frag := 0, nfrag := 1 } }) { s with links := { s.links with parts := ((s.links.parts.filter (fun p => decide (s.since p.at_ ≤ frankWin s))).filter (fun p => !(p.src == f.peer.toNat && p.msgId == f.head.msgId.toNat))) } } with | .next u => decide (u = t) | _ => false) = true)
  ∧ (∀ (s : State) (f : FrankRep),
      s.linked = true → headTakes s f.port 3 f.head = true → 2 ≤ f.head.nfrag.toNat → f.head.nfrag.toNat ≤ 16 → f.head.frag.toNat < f.head.nfrag.toNat → (setBit ((((s.links.parts.filter (fun p => decide (s.since p.at_ ≤ frankWin s))).find? (fun p : Reassembly => p.src == f.peer.toNat && p.msgId == f.head.msgId.toNat)).map (·.got)).getD 0) f.head.frag.toNat true) ≠ 2 ^ f.head.nfrag.toNat - 1 → (((s.links.parts.filter (fun p => decide (s.since p.at_ ≤ frankWin s))).find? (fun p : Reassembly => p.src == f.peer.toNat && p.msgId == f.head.msgId.toNat)).isSome = true ∨ (s.links.parts.filter (fun p => decide (s.since p.at_ ≤ frankWin s))).length < 16) → 
    Does (.frankRep f) s (mask [.links] []) fun t =>
      t.links = { s.links with parts := ((s.links.parts.filter (fun p => decide (s.since p.at_ ≤ frankWin s))).filter (fun p => !(p.src == f.peer.toNat && p.msgId == f.head.msgId.toNat))) ++ [⟨f.peer.toNat, f.head.msgId.toNat, (((s.links.parts.filter (fun p => decide (s.since p.at_ ≤ frankWin s))).find? (fun p : Reassembly => p.src == f.peer.toNat && p.msgId == f.head.msgId.toNat)).map (·.at_)).getD s.time.elapsed, (setBit ((((s.links.parts.filter (fun p => decide (s.since p.at_ ≤ frankWin s))).find? (fun p : Reassembly => p.src == f.peer.toNat && p.msgId == f.head.msgId.toNat)).map (·.got)).getD 0) f.head.frag.toNat true)⟩] })
  ∧ (∀ (s : State) (f : FrankRep),
      s.linked = true → headTakes s f.port 3 f.head = true → 2 ≤ f.head.nfrag.toNat → f.head.nfrag.toNat ≤ 16 → f.head.frag.toNat < f.head.nfrag.toNat → (s.links.parts.filter (fun p => decide (s.since p.at_ ≤ frankWin s))).find? (fun p : Reassembly => p.src == f.peer.toNat && p.msgId == f.head.msgId.toNat) = none → 16 ≤ (s.links.parts.filter (fun p => decide (s.since p.at_ ≤ frankWin s))).length → (setBit ((((s.links.parts.filter (fun p => decide (s.since p.at_ ≤ frankWin s))).find? (fun p : Reassembly => p.src == f.peer.toNat && p.msgId == f.head.msgId.toNat)).map (·.got)).getD 0) f.head.frag.toNat true) ≠ 2 ^ f.head.nfrag.toNat - 1 → 
    Does (.frankRep f) s (mask [.links, .cycle] [.LK_SPn_CNT_RXDROP]) fun t =>
      t.links = { s.links with parts := (s.links.parts.filter (fun p => decide (s.since p.at_ ≤ frankWin s))) }
      ∧ t.get (R.LK_SPn_CNT_RXDROP f.port) = min 65535 (s.get (R.LK_SPn_CNT_RXDROP f.port) + 1)
      ∧ Only [R.LK_SPn_CNT_RXDROP f.port] s t)
  ∧ (∀ (s : State) (m : KeyMsg),
      s.linked = true → headTakes s m.port 4 m.head = true → 2 ≤ m.head.nfrag.toNat → m.head.nfrag.toNat ≤ 16 → m.head.frag.toNat < m.head.nfrag.toNat → (setBit ((((s.links.parts.filter (fun p => decide (s.since p.at_ ≤ frankWin s))).find? (fun p : Reassembly => p.src == m.peer.toNat && p.msgId == m.head.msgId.toNat)).map (·.got)).getD 0) m.head.frag.toNat true) = 2 ^ m.head.nfrag.toNat - 1 → 
    Does (.keyTransport m) s reachKeyTransport fun t =>
      (match exec (.keyTransport { m with head := { m.head with frag := 0, nfrag := 1 } }) { s with links := { s.links with parts := ((s.links.parts.filter (fun p => decide (s.since p.at_ ≤ frankWin s))).filter (fun p => !(p.src == m.peer.toNat && p.msgId == m.head.msgId.toNat))) } } with | .next u => decide (u = t) | _ => false) = true)
  ∧ (∀ (s : State) (m : KeyMsg),
      s.linked = true → headTakes s m.port 4 m.head = true → 2 ≤ m.head.nfrag.toNat → m.head.nfrag.toNat ≤ 16 → m.head.frag.toNat < m.head.nfrag.toNat → (setBit ((((s.links.parts.filter (fun p => decide (s.since p.at_ ≤ frankWin s))).find? (fun p : Reassembly => p.src == m.peer.toNat && p.msgId == m.head.msgId.toNat)).map (·.got)).getD 0) m.head.frag.toNat true) ≠ 2 ^ m.head.nfrag.toNat - 1 → (((s.links.parts.filter (fun p => decide (s.since p.at_ ≤ frankWin s))).find? (fun p : Reassembly => p.src == m.peer.toNat && p.msgId == m.head.msgId.toNat)).isSome = true ∨ (s.links.parts.filter (fun p => decide (s.since p.at_ ≤ frankWin s))).length < 16) → 
    Does (.keyTransport m) s (mask [.links] []) fun t =>
      t.links = { s.links with parts := ((s.links.parts.filter (fun p => decide (s.since p.at_ ≤ frankWin s))).filter (fun p => !(p.src == m.peer.toNat && p.msgId == m.head.msgId.toNat))) ++ [⟨m.peer.toNat, m.head.msgId.toNat, (((s.links.parts.filter (fun p => decide (s.since p.at_ ≤ frankWin s))).find? (fun p : Reassembly => p.src == m.peer.toNat && p.msgId == m.head.msgId.toNat)).map (·.at_)).getD s.time.elapsed, (setBit ((((s.links.parts.filter (fun p => decide (s.since p.at_ ≤ frankWin s))).find? (fun p : Reassembly => p.src == m.peer.toNat && p.msgId == m.head.msgId.toNat)).map (·.got)).getD 0) m.head.frag.toNat true)⟩] })
  ∧ (∀ (s : State) (m : KeyMsg),
      s.linked = true → headTakes s m.port 4 m.head = true → 2 ≤ m.head.nfrag.toNat → m.head.nfrag.toNat ≤ 16 → m.head.frag.toNat < m.head.nfrag.toNat → (s.links.parts.filter (fun p => decide (s.since p.at_ ≤ frankWin s))).find? (fun p : Reassembly => p.src == m.peer.toNat && p.msgId == m.head.msgId.toNat) = none → 16 ≤ (s.links.parts.filter (fun p => decide (s.since p.at_ ≤ frankWin s))).length → (setBit ((((s.links.parts.filter (fun p => decide (s.since p.at_ ≤ frankWin s))).find? (fun p : Reassembly => p.src == m.peer.toNat && p.msgId == m.head.msgId.toNat)).map (·.got)).getD 0) m.head.frag.toNat true) ≠ 2 ^ m.head.nfrag.toNat - 1 → 
    Does (.keyTransport m) s (mask [.links, .cycle] [.LK_SPn_CNT_RXDROP]) fun t =>
      t.links = { s.links with parts := (s.links.parts.filter (fun p => decide (s.since p.at_ ≤ frankWin s))) }
      ∧ t.get (R.LK_SPn_CNT_RXDROP m.port) = min 65535 (s.get (R.LK_SPn_CNT_RXDROP m.port) + 1)
      ∧ Only [R.LK_SPn_CNT_RXDROP m.port] s t)

/-- What a site message that waits does. SITE_COMMAND takes its message from those that wait: a command of class SITE from the message's own
pair enters the acceptance queue under the conditions of every command, with the message's sequence number; one whose source says otherwise
is not queued, and with the sorting office running and a descriptor free the dead letter with code 5 waits in pigeonhole 1. SITE_DEAD_LETTER
only takes its message. SITE_DATA posts it as a SITE_RX envelope with its arrival as postmark. A message that does not wait, or is of
another type, changes nothing. REASSEMBLY_TIMEOUT, FRANK_WIN after the first fragment of a message of the peer that is not complete,
discards it and ends an attempt whose statement has not been checked with 0x8E; without such a message it does nothing. (16_links.md R430;
16_links.md R432; 16_links.md Table LK-9; 02_postmark.md R48; 02_postmark.md R49; 11_sorting_office.md R309) -/
def Obligations.SiteMessages : Prop :=
  (∀ (s : State) (m : SiteMessage), s.linked = true → (¬ (m ∈ s.links.inbox ∧ m.mtype = 1)) → 
    Does (.siteCommand m) s (mask [] []) fun _ =>
      True)
  ∧ (∀ (s : State) (m : SiteMessage), s.linked = true → (¬ (m ∈ s.links.inbox ∧ m.mtype = 2)) → 
    Does (.siteDeadLetter m) s (mask [] []) fun _ =>
      True)
  ∧ (∀ (s : State) (m : SiteMessage), s.linked = true → (¬ (m ∈ s.links.inbox ∧ m.mtype = 3)) → 
    Does (.siteData m) s (mask [] []) fun _ =>
      True)
  ∧ (∀ (s : State) (m : SiteMessage),
      s.linked = true → m ∈ s.links.inbox → m.mtype = 1 → (fieldOf m.body 2 2 / 4096 ≠ 3 ∨ fieldOf m.body 2 2 % 4096 ≠ m.pair.toNat) → 
    Does (.siteCommand m) s reachStart fun t =>
      t.acceptance = s.acceptance
      ∧ t.links.inbox = s.links.inbox.erase m
      ∧ (s.get R.SO_STATUS_RUN ≠ 0 → s.freeDescs ≠ [] → ∃ e ∈ t.office.waiting,
          e.typ = 0x17 ∧ e.ph = 1 ∧ e.flow = 1021 ∧ e.body = (leBytes 1 1 ++ leBytes 1 5 ++ leBytes 2 (fieldOf m.body 2 2) ++ leBytes 2 (fieldOf m.body 0 2) ++ leBytes 2 (m.body.take 32).length ++ leBytes 8 (fieldOf m.body 8 8) ++ leBytes 8 0 ++ m.body.take 32)))
  ∧ (∀ (s : State) (m : SiteMessage),
      s.linked = true → m ∈ s.links.inbox → m.mtype = 1 → fieldOf m.body 2 2 / 4096 = 3 → fieldOf m.body 2 2 % 4096 = m.pair.toNat → dAccept s 3 ≠ 0 → s.mode ≠ 6 → targetKnown s 3 (fieldOf m.body 0 2) = true → s.postmark < frameStart s.fFrame (commandFrame s 3 (fieldOf m.body 8 8)) → fieldOf m.body 8 8 + dAccept s 3 ≤ s.postmark + 60 * 2 ^ 32 → s.acceptance.length < 2048 → 
    Does (.siteCommand m) s reachStart fun t =>
      t.links = { s.links with inbox := s.links.inbox.erase m }
      ∧ t.acceptance = s.acceptance ++ [⟨3, fieldOf m.body 2 2, m.seq.toNat, fieldOf m.body 0 2, fieldOf m.body 4 4, fieldOf m.body 8 8,
          commandFrame s 3 (fieldOf m.body 8 8), m.body⟩]
      ∧ t.mode = s.mode)
  ∧ (∀ (s : State) (m : SiteMessage), s.linked = true → m ∈ s.links.inbox → m.mtype = 2 → 
    Does (.siteDeadLetter m) s (mask [.links] []) fun t =>
      t.links = { s.links with inbox := s.links.inbox.erase m })
  ∧ (∀ (s : State) (m : SiteMessage), s.linked = true → m ∈ s.links.inbox → m.mtype = 3 → 
    Does (.siteData m) s (mask [.office, .links, .cycle, .fresh] [.SO_LEDSTAT_FULL, .SO_LEDSTAT_WRAPPED, .SO_LEDSTAT_LOST, .SO_LEDPTR_NEXT,
        .SO_DROP_HW, .SO_DROP_DL]) fun t =>
      t.links = { s.links with inbox := s.links.inbox.erase m }
      ∧ (s.get R.SO_STATUS_RUN ≠ 0 → s.freeDescs ≠ [] → ∃ e ∈ t.office.waiting,
          e.typ = 0x1D ∧ e.ph = s.get R.LK_CFG_SPH ∧ e.flow = (if s.get R.LK_CFG_NOFLOW = 1 then 0xFFFF else s.get R.LK_CFG_SFLOW) ∧ e.postmark = m.ta ∧ e.body = leBytes 1 3 ++ [0] ++ leBytes 2 m.pair.toNat ++ leBytes 6 m.seq.toNat ++ leBytes 2 m.body.length ++ List.replicate 4 0 ++ m.body))
  ∧ (∀ (s : State) (peer : BitVec 12), s.powered = true → s.links.parts.find? (fun p => p.src == peer.toNat) = none → 
    Does (.reassemblyTimeout peer) s (mask [] []) fun _ =>
      True)
  ∧ (∀ (s : State) (peer : BitVec 12) (p : Reassembly),
      s.powered = true → s.links.parts.find? (fun p => p.src == peer.toNat) = some p → (attemptOf s peer.toNat).all (fun a => a.dik != 0) = true → 
    Does (.reassemblyTimeout peer) s reachSessionRekey fun t =>
      t.links.parts = s.links.parts.erase p
      ∧ t.security = s.security
      ∧ (s.increment ≠ 0 → p.at_ + frankWin s ≤ t.time.elapsed))
  ∧ (∀ (s : State) (peer : BitVec 12) (p : Reassembly) (a : Attempt),
      s.powered = true → s.links.parts.find? (fun p => p.src == peer.toNat) = some p → attemptOf s peer.toNat = some a → a.dik = 0 → 
    Does (.reassemblyTimeout peer) s reachSessionRekey fun t =>
      t.links.parts = s.links.parts.erase p
      ∧ attemptOf t peer.toNat = none
      ∧ Secured s t 1 0x8E peer.toNat 0 0
      ∧ t.security.sessions = s.security.sessions
      ∧ (s.increment ≠ 0 → p.at_ + frankWin s ≤ t.time.elapsed))
end

