-- ==== Sys2Proof/Laws/Sparse.lean ====
section
/-!
SUPPORT. Laws of the sorted tables: what is read after a write, and that every operation keeps the canonical form.
-/
namespace Sys2Proof.Machine

variable {α : Type}

/-! ### Membership -/

theorem mem_sdel {k : Nat} {m : Sparse α} {e : Nat × α} : e ∈ sdel k m ↔ e ∈ m ∧ e.1 ≠ k := by
  induction m with
  | nil => simp [sdel]
  | cons a m ih =>
    obtain ⟨j, w⟩ := a
    simp only [sdel]
    split
    · subst j; simp only [ih, List.mem_cons]
      constructor
      · rintro ⟨h, g⟩; exact ⟨.inr h, g⟩
      · rintro ⟨h | h, g⟩
        · subst h; exact absurd rfl g
        · exact ⟨h, g⟩
    · simp only [List.mem_cons, ih]
      constructor
      · rintro (h | ⟨h, g⟩)
        · subst h; exact ⟨.inl rfl, ‹_›⟩
        · exact ⟨.inr h, g⟩
      · rintro ⟨h | h, g⟩
        · exact .inl h
        · exact .inr ⟨h, g⟩

theorem mem_sins {k : Nat} {v : α} {m : Sparse α} {e : Nat × α} : e ∈ sins k v m ↔ e = (k, v) ∨ e ∈ m := by
  induction m with
  | nil => simp [sins]
  | cons a m ih =>
    obtain ⟨j, w⟩ := a
    simp only [sins]
    split
    · simp
    · simp only [List.mem_cons, ih, or_left_comm]

/-! ### Reading after writing -/

theorem sget_sdel_same {d : α} {k : Nat} {m : Sparse α} : sget d (sdel k m) k = d := by
  induction m with
  | nil => rfl
  | cons a m ih =>
    obtain ⟨j, w⟩ := a
    simp only [sdel]
    split
    · exact ih
    · simp [sget, *]

theorem sget_sdel_ne {d : α} {k l : Nat} {m : Sparse α} (h : l ≠ k) : sget d (sdel k m) l = sget d m l := by
  induction m with
  | nil => rfl
  | cons a m ih =>
    obtain ⟨j, w⟩ := a
    simp only [sdel]
    split
    · rename_i g; subst g; simp [sget, ih, Ne.symm h]
    · simp [sget, ih]

theorem sget_sins_ne {d v : α} {k l : Nat} {m : Sparse α} (h : l ≠ k) : sget d (sins k v m) l = sget d m l := by
  induction m with
  | nil => simp [sins, sget, Ne.symm h]
  | cons a m ih =>
    obtain ⟨j, w⟩ := a
    simp only [sins]
    split
    · simp [sget, Ne.symm h]
    · simp [sget, ih]

theorem sget_sins_same {d v : α} {k : Nat} {m : Sparse α} (h : ∀ e ∈ m, e.1 ≠ k) : sget d (sins k v m) k = v := by
  induction m with
  | nil => simp [sins, sget]
  | cons a m ih =>
    obtain ⟨j, w⟩ := a
    simp only [sins]
    split
    · simp [sget]
    · have hj : j ≠ k := h (j, w) (by simp)
      simp only [sget, if_neg hj]
      exact ih fun e he => h e (by simp [he])

variable [DecidableEq α]

/-- A key reads what was written to it. -/
@[simp] theorem sget_sset_same {d v : α} {k : Nat} {m : Sparse α} : sget d (sset d m k v) k = v := by
  unfold sset
  split
  · rename_i h; rw [sget_sdel_same, h]
  · exact sget_sins_same fun e he => (mem_sdel.1 he).2

/-- A write leaves every other key alone. -/
theorem sget_sset_ne {d c v : α} {k l : Nat} {m : Sparse α} (h : l ≠ k) : sget d (sset c m k v) l = sget d m l := by
  unfold sset
  split
  · exact sget_sdel_ne h
  · rw [sget_sins_ne h, sget_sdel_ne h]

/-! ### The canonical form -/

omit [DecidableEq α] in
theorem srising_weaken {lo lo' : Nat} (h : lo' ≤ lo) {m : Sparse α} (g : srising (some lo) m = true) : srising (some lo') m = true := by
  cases m with
  | nil => rfl
  | cons a m => simp only [srising, Bool.and_eq_true, decide_eq_true_eq] at *; exact ⟨by omega, g.2⟩

omit [DecidableEq α] in
theorem srising_none {lo : Nat} {m : Sparse α} (g : srising (some lo) m = true) : srising none m = true := by
  cases m with
  | nil => rfl
  | cons a m => simp only [srising, Bool.and_eq_true, decide_eq_true_eq] at *; exact g.2

omit [DecidableEq α] in
theorem srising_filter {p : Nat × α → Bool} {lo : Option Nat} {m : Sparse α} (g : srising lo m = true) :
    srising lo (m.filter p) = true := by
  induction m generalizing lo with
  | nil => simpa using g
  | cons a m ih =>
    obtain ⟨j, w⟩ := a
    have hm : srising (some j) m = true := by
      cases lo <;> simp only [srising, Bool.and_eq_true] at g
      · exact g
      · exact g.2
    rw [List.filter_cons]
    split
    · cases lo
      · exact ih hm
      · simp only [srising, Bool.and_eq_true] at g ⊢; exact ⟨g.1, ih hm⟩
    · cases lo
      · exact srising_none (ih hm)
      · simp only [srising, Bool.and_eq_true, decide_eq_true_eq] at g
        exact srising_weaken (Nat.le_of_lt g.1) (ih hm)

omit [DecidableEq α] in
theorem sdel_eq_filter {k : Nat} {m : Sparse α} : sdel k m = m.filter fun e => decide (e.1 ≠ k) := by
  induction m with
  | nil => rfl
  | cons a m ih =>
    obtain ⟨j, w⟩ := a
    simp only [sdel, List.filter_cons, ih]
    by_cases h : j = k <;> simp [h]

omit [DecidableEq α] in
theorem srising_sins {k : Nat} {v : α} {lo : Option Nat} {m : Sparse α} (g : srising lo m = true)
    (hl : ∀ l, lo = some l → l < k) (hk : ∀ e ∈ m, e.1 ≠ k) : srising lo (sins k v m) = true := by
  induction m generalizing lo with
  | nil => cases lo <;> simp [sins, srising] at *; exact hl
  | cons a m ih =>
    obtain ⟨j, w⟩ := a
    have hj : j ≠ k := hk (j, w) (by simp)
    have hm : srising (some j) m = true := by
      cases lo <;> simp only [srising, Bool.and_eq_true] at g
      · exact g
      · exact g.2
    simp only [sins]
    split
    · rename_i h
      cases lo
      · simp [srising, h, hm]
      · simp [srising, h, hm, hl _ rfl]
    · rename_i h
      have := ih hm (by intro l e; cases e; omega) fun e he => hk e (by simp [he])
      cases lo
      · exact this
      · simp only [srising, Bool.and_eq_true] at g ⊢; exact ⟨g.1, this⟩

/-- Setting a key keeps the keys rising. -/
theorem srising_sset {d v : α} {k : Nat} {m : Sparse α} (g : srising none m = true) : srising none (sset d m k v) = true := by
  unfold sset
  split
  · rw [sdel_eq_filter]; exact srising_filter g
  · refine srising_sins ?_ (by simp) fun e he => (mem_sdel.1 he).2
    rw [sdel_eq_filter]; exact srising_filter g

/-- What a table lists after a write was listed before or is what was written. -/
theorem mem_sset {d v : α} {k : Nat} {m : Sparse α} {e : Nat × α} (h : e ∈ sset d m k v) : e = (k, v) ∨ e ∈ m := by
  unfold sset at h
  split at h
  · exact .inr (mem_sdel.1 h).1
  · exact (mem_sins.1 h).imp_right fun g => (mem_sdel.1 g).1

/-- Setting a key keeps the canonical form. -/
theorem swf_sset {d v : α} {k : Nat} {m : Sparse α} (g : swf d m = true) : swf d (sset d m k v) = true := by
  simp only [swf, Bool.and_eq_true, List.all_eq_true, decide_eq_true_eq] at *
  refine ⟨srising_sset g.1, fun e he => ?_⟩
  unfold sset at he
  split at he
  · exact g.2 e (mem_sdel.1 he).1
  · obtain rfl | he := mem_sins.1 he
    · assumption
    · exact g.2 e (mem_sdel.1 he).1

end Sys2Proof.Machine
end

