-- ==== Sys2Proof/Laws/Evolve.lean ====
section
/-!
SUPPORT. The relation behind every lemma of Laws/Ev*.lean: `Ev m r s` says that `s` is as sound as `r`, never before it, and differs
from it only in the parts and registers of the set `m`. The lemmas here are its closure properties.
-/
namespace Sys2Proof.Machine

theorem Cov.mono {a b m : Nat} (h : Cov b m) (g : Cov a b) : Cov a m := by
  unfold Cov at *
  rw [← g, Nat.and_assoc, h]

/-- The same with the larger set among the hypotheses and the inclusion computed. -/
theorem Cov.use {a b m : Nat} (h : Cov b m := by assumption) (g : Cov a b := by decide +kernel) : Cov a m := h.mono g

theorem RegIn.name {m : Nat} (g : Reg) (i j : Nat) (h : Cov (2 ^ (32 + g.ctorIdx)) m) : RegIn m (g.fld i j).key :=
  Or.inr ⟨g, i, j, h, rfl⟩

theorem RegIn.mono {a m k : Nat} (h : RegIn a k) (g : Cov a m) : RegIn m k := by
  obtain h | ⟨r, i, j, h, e⟩ := h
  · exact Or.inl (g.mono h)
  · exact Or.inr ⟨r, i, j, g.mono h, e⟩

theorem RegIn.any {m k : Nat} (h : Cov (2 ^ Part.regs.ctorIdx) m) : RegIn m k := Or.inl h

theorem Keeps.refl (m : Nat) (s : State) : Keeps m s s where
  regs _ := Or.inr fun _ => rfl
  memory := Or.inr ⟨rfl, rfl⟩
  capture := Or.inr rfl
  pending := rfl
  time := Or.inr rfl
  root := Or.inr rfl
  shadows := Or.inr rfl
  hidden := Or.inr rfl
  office := Or.inr rfl
  legs := Or.inr rfl
  trips := Or.inr rfl
  sense := Or.inr rfl
  image := Or.inr rfl
  slots := Or.inr rfl
  fabric := Or.inr rfl
  acceptance := Or.inr rfl
  safety := Or.inr rfl
  security := Or.inr rfl
  links := Or.inr rfl
  twin := Or.inr rfl
  health := Or.inr rfl
  axes := Or.inr rfl
  axisTick := Or.inr rfl
  axisNv := Or.inr rfl
  journal := Or.inr rfl
  cycle := Or.inr rfl
  fresh := Or.inr rfl
  outbox := Or.inr rfl

/-- A set that takes in more says less. -/
theorem Keeps.mono {a m : Nat} {r s : State} (h : Keeps a r s) (g : Cov a m) : Keeps m r s where
  regs k := (h.regs k).imp_left fun x => x.mono g
  memory := h.memory.imp_left g.mono
  capture := h.capture.imp_left g.mono
  pending := h.pending
  time := h.time.imp_left g.mono
  root := h.root.imp_left g.mono
  shadows := h.shadows.imp_left g.mono
  hidden := h.hidden.imp_left g.mono
  office := h.office.imp_left g.mono
  legs := h.legs.imp_left g.mono
  trips := h.trips.imp_left g.mono
  sense := h.sense.imp_left g.mono
  image := h.image.imp_left g.mono
  slots := h.slots.imp_left g.mono
  fabric := h.fabric.imp_left g.mono
  acceptance := h.acceptance.imp_left g.mono
  safety := h.safety.imp_left g.mono
  security := h.security.imp_left g.mono
  links := h.links.imp_left g.mono
  twin := h.twin.imp_left g.mono
  health := h.health.imp_left g.mono
  axes := h.axes.imp_left g.mono
  axisTick := h.axisTick.imp_left g.mono
  axisNv := h.axisNv.imp_left g.mono
  journal := h.journal.imp_left g.mono
  cycle := h.cycle.imp_left g.mono
  fresh := h.fresh.imp_left g.mono
  outbox := h.outbox.imp_left g.mono

theorem or_eq_trans {a : Prop} {α : Type} {x y z : α} (h : a ∨ y = x) (g : a ∨ z = y) : a ∨ z = x :=
  h.elim Or.inl fun e => g.imp_right fun e' => e'.trans e

theorem Keeps.trans {m : Nat} {r s t : State} (h : Keeps m r s) (g : Keeps m s t) : Keeps m r t where
  regs k := (h.regs k).elim Or.inl fun e => (g.regs k).imp_right fun e' d => (e' d).trans (e d)
  memory := h.memory.elim Or.inl fun e => g.memory.imp_right fun e' => ⟨e'.1.trans e.1, e'.2.trans e.2⟩
  capture := or_eq_trans h.capture g.capture
  pending := g.pending.trans h.pending
  time := or_eq_trans h.time g.time
  root := or_eq_trans h.root g.root
  shadows := or_eq_trans h.shadows g.shadows
  hidden := or_eq_trans h.hidden g.hidden
  office := or_eq_trans h.office g.office
  legs := or_eq_trans h.legs g.legs
  trips := or_eq_trans h.trips g.trips
  sense := or_eq_trans h.sense g.sense
  image := or_eq_trans h.image g.image
  slots := or_eq_trans h.slots g.slots
  fabric := or_eq_trans h.fabric g.fabric
  acceptance := or_eq_trans h.acceptance g.acceptance
  safety := or_eq_trans h.safety g.safety
  security := or_eq_trans h.security g.security
  links := or_eq_trans h.links g.links
  twin := or_eq_trans h.twin g.twin
  health := or_eq_trans h.health g.health
  axes := or_eq_trans h.axes g.axes
  axisTick := or_eq_trans h.axisTick g.axisTick
  axisNv := or_eq_trans h.axisNv g.axisNv
  journal := or_eq_trans h.journal g.journal
  cycle := or_eq_trans h.cycle g.cycle
  fresh := or_eq_trans h.fresh g.fresh
  outbox := or_eq_trans h.outbox g.outbox

/-- `s` follows from `r` by changes in the set `m` alone. -/
structure Ev (m : Nat) (r s : State) : Prop where
  regs : regsOk r.regs → regsOk s.regs
  acc : r.time.acc < 2 ^ 104 → s.time.acc < 2 ^ 104
  mem : memOk r.capture → memOk s.capture
  elapsed : r.time.elapsed ≤ s.time.elapsed
  outbox : r.outbox <+: s.outbox
  fresh : r.fresh ≤ s.fresh
  keeps : Keeps m r s

theorem Ev.refl (m : Nat) (s : State) : Ev m s s := ⟨id, id, id, Nat.le_refl _, List.prefix_refl _, Nat.le_refl _, Keeps.refl m s⟩

theorem Ev.trans {m : Nat} {r s t : State} (h : Ev m r s) (g : Ev m s t) : Ev m r t :=
  ⟨g.1 ∘ h.1, g.2 ∘ h.2, g.3 ∘ h.3, Nat.le_trans h.4 g.4, h.5.trans g.5, Nat.le_trans h.6 g.6, h.7.trans g.7⟩

theorem Ev.mono {a m : Nat} {r s : State} (h : Ev a r s) (g : Cov a m) : Ev m r s := ⟨h.1, h.2, h.3, h.4, h.5, h.6, h.7.mono g⟩

theorem Ev.sound {m : Nat} {r s : State} (h : Ev m r s) (g : Sound r) : Sound s := ⟨h.1 g.1, h.2 g.2, h.3 g.3⟩

theorem Ev.onward {m : Nat} {r s : State} (h : Ev m r s) : Onward r s := ⟨h.4, h.5, h.6⟩

/-- An update of parts that hold no register, time, memory, free value or message. -/
theorem Ev.upd {m : Nat} {r s : State} {ro2 sh3 hi4 of5 le7 tr8 se9 im10 sl11 fa12 ac13 sa14 se15 li16 tw17 he18 ax19 ax20 ax21 jo22 cy23} {cap : Capture}
    (h : Ev m r s) (hm : cap.mem = s.capture.mem) (hf : cap.flight = s.capture.flight)
    (hc : Cov (2 ^ Part.capture.ctorIdx) m ∨ { cap with mem := [], flight := [] } = { s.capture with mem := [], flight := [] } :=
      by first | exact .inl .use | exact .inr rfl)
    (hro2 : Cov (2 ^ Part.root.ctorIdx) m ∨ ro2 = s.root := by first | exact .inl .use | exact .inr rfl)
    (hsh3 : Cov (2 ^ Part.shadows.ctorIdx) m ∨ sh3 = s.shadows := by first | exact .inl .use | exact .inr rfl)
    (hhi4 : Cov (2 ^ Part.hidden.ctorIdx) m ∨ hi4 = s.hidden := by first | exact .inl .use | exact .inr rfl)
    (hof5 : Cov (2 ^ Part.office.ctorIdx) m ∨ of5 = s.office := by first | exact .inl .use | exact .inr rfl)
    (hle7 : Cov (2 ^ Part.legs.ctorIdx) m ∨ le7 = s.legs := by first | exact .inl .use | exact .inr rfl)
    (htr8 : Cov (2 ^ Part.trips.ctorIdx) m ∨ tr8 = s.trips := by first | exact .inl .use | exact .inr rfl)
    (hse9 : Cov (2 ^ Part.sense.ctorIdx) m ∨ se9 = s.sense := by first | exact .inl .use | exact .inr rfl)
    (him10 : Cov (2 ^ Part.image.ctorIdx) m ∨ im10 = s.image := by first | exact .inl .use | exact .inr rfl)
    (hsl11 : Cov (2 ^ Part.slots.ctorIdx) m ∨ sl11 = s.slots := by first | exact .inl .use | exact .inr rfl)
    (hfa12 : Cov (2 ^ Part.fabric.ctorIdx) m ∨ fa12 = s.fabric := by first | exact .inl .use | exact .inr rfl)
    (hac13 : Cov (2 ^ Part.acceptance.ctorIdx) m ∨ ac13 = s.acceptance := by first | exact .inl .use | exact .inr rfl)
    (hsa14 : Cov (2 ^ Part.safety.ctorIdx) m ∨ sa14 = s.safety := by first | exact .inl .use | exact .inr rfl)
    (hse15 : Cov (2 ^ Part.security.ctorIdx) m ∨ se15 = s.security := by first | exact .inl .use | exact .inr rfl)
    (hli16 : Cov (2 ^ Part.links.ctorIdx) m ∨ li16 = s.links := by first | exact .inl .use | exact .inr rfl)
    (htw17 : Cov (2 ^ Part.twin.ctorIdx) m ∨ tw17 = s.twin := by first | exact .inl .use | exact .inr rfl)
    (hhe18 : Cov (2 ^ Part.health.ctorIdx) m ∨ he18 = s.health := by first | exact .inl .use | exact .inr rfl)
    (hax19 : Cov (2 ^ Part.axes.ctorIdx) m ∨ ax19 = s.axes := by first | exact .inl .use | exact .inr rfl)
    (hax20 : Cov (2 ^ Part.axisTick.ctorIdx) m ∨ ax20 = s.axisTick := by first | exact .inl .use | exact .inr rfl)
    (hax21 : Cov (2 ^ Part.axisNv.ctorIdx) m ∨ ax21 = s.axisNv := by first | exact .inl .use | exact .inr rfl)
    (hjo22 : Cov (2 ^ Part.journal.ctorIdx) m ∨ jo22 = s.journal := by first | exact .inl .use | exact .inr rfl)
    (hcy23 : Cov (2 ^ Part.cycle.ctorIdx) m ∨ cy23 = s.cycle := by first | exact .inl .use | exact .inr rfl) :
    Ev m r ⟨s.regs, s.time, ro2, sh3, hi4, of5, cap, le7, tr8, se9, im10, sl11, fa12, ac13, sa14, se15, li16, tw17, he18, ax19, ax20, ax21, jo22, cy23, s.fresh, s.outbox, s.pending⟩ :=
  ⟨h.1, h.2, fun x => ⟨hm ▸ (h.3 x).1, hm ▸ (h.3 x).2.1, hf ▸ (h.3 x).2.2⟩, h.4, h.5, h.6,
    h.7.trans { Keeps.refl m s with
      root := hro2
      shadows := hsh3
      hidden := hhi4
      office := hof5
      legs := hle7
      trips := htr8
      sense := hse9
      image := him10
      slots := hsl11
      fabric := hfa12
      acceptance := hac13
      safety := hsa14
      security := hse15
      links := hli16
      twin := htw17
      health := hhe18
      axes := hax19
      axisTick := hax20
      axisNv := hax21
      journal := hjo22
      cycle := hcy23
      capture := hc
      memory := Or.inr ⟨hm, hf⟩ }⟩

/-- The same with the time base, the counter and the elapsed time standing. -/
theorem Ev.updT {m : Nat} {r s : State} {ro2 sh3 hi4 of5 le7 tr8 se9 im10 sl11 fa12 ac13 sa14 se15 li16 tw17 he18 ax19 ax20 ax21 jo22 cy23} {tb : TimeBase}
    (h : Ev m r s) (ha : tb.acc = s.time.acc) (he : tb.elapsed = s.time.elapsed)
    (ht : Cov (2 ^ Part.time.ctorIdx) m ∨ tb = s.time := by first | exact .inl .use | exact .inr rfl)
    (hro2 : Cov (2 ^ Part.root.ctorIdx) m ∨ ro2 = s.root := by first | exact .inl .use | exact .inr rfl)
    (hsh3 : Cov (2 ^ Part.shadows.ctorIdx) m ∨ sh3 = s.shadows := by first | exact .inl .use | exact .inr rfl)
    (hhi4 : Cov (2 ^ Part.hidden.ctorIdx) m ∨ hi4 = s.hidden := by first | exact .inl .use | exact .inr rfl)
    (hof5 : Cov (2 ^ Part.office.ctorIdx) m ∨ of5 = s.office := by first | exact .inl .use | exact .inr rfl)
    (hle7 : Cov (2 ^ Part.legs.ctorIdx) m ∨ le7 = s.legs := by first | exact .inl .use | exact .inr rfl)
    (htr8 : Cov (2 ^ Part.trips.ctorIdx) m ∨ tr8 = s.trips := by first | exact .inl .use | exact .inr rfl)
    (hse9 : Cov (2 ^ Part.sense.ctorIdx) m ∨ se9 = s.sense := by first | exact .inl .use | exact .inr rfl)
    (him10 : Cov (2 ^ Part.image.ctorIdx) m ∨ im10 = s.image := by first | exact .inl .use | exact .inr rfl)
    (hsl11 : Cov (2 ^ Part.slots.ctorIdx) m ∨ sl11 = s.slots := by first | exact .inl .use | exact .inr rfl)
    (hfa12 : Cov (2 ^ Part.fabric.ctorIdx) m ∨ fa12 = s.fabric := by first | exact .inl .use | exact .inr rfl)
    (hac13 : Cov (2 ^ Part.acceptance.ctorIdx) m ∨ ac13 = s.acceptance := by first | exact .inl .use | exact .inr rfl)
    (hsa14 : Cov (2 ^ Part.safety.ctorIdx) m ∨ sa14 = s.safety := by first | exact .inl .use | exact .inr rfl)
    (hse15 : Cov (2 ^ Part.security.ctorIdx) m ∨ se15 = s.security := by first | exact .inl .use | exact .inr rfl)
    (hli16 : Cov (2 ^ Part.links.ctorIdx) m ∨ li16 = s.links := by first | exact .inl .use | exact .inr rfl)
    (htw17 : Cov (2 ^ Part.twin.ctorIdx) m ∨ tw17 = s.twin := by first | exact .inl .use | exact .inr rfl)
    (hhe18 : Cov (2 ^ Part.health.ctorIdx) m ∨ he18 = s.health := by first | exact .inl .use | exact .inr rfl)
    (hax19 : Cov (2 ^ Part.axes.ctorIdx) m ∨ ax19 = s.axes := by first | exact .inl .use | exact .inr rfl)
    (hax20 : Cov (2 ^ Part.axisTick.ctorIdx) m ∨ ax20 = s.axisTick := by first | exact .inl .use | exact .inr rfl)
    (hax21 : Cov (2 ^ Part.axisNv.ctorIdx) m ∨ ax21 = s.axisNv := by first | exact .inl .use | exact .inr rfl)
    (hjo22 : Cov (2 ^ Part.journal.ctorIdx) m ∨ jo22 = s.journal := by first | exact .inl .use | exact .inr rfl)
    (hcy23 : Cov (2 ^ Part.cycle.ctorIdx) m ∨ cy23 = s.cycle := by first | exact .inl .use | exact .inr rfl) :
    Ev m r ⟨s.regs, tb, ro2, sh3, hi4, of5, s.capture, le7, tr8, se9, im10, sl11, fa12, ac13, sa14, se15, li16, tw17, he18, ax19, ax20, ax21, jo22, cy23, s.fresh, s.outbox, s.pending⟩ :=
  ⟨h.1, fun x => by rw [show tb.acc = _ from ha]; exact h.2 x, h.3, by rw [show tb.elapsed = _ from he]; exact h.4, h.5, h.6,
    h.7.trans { Keeps.refl m s with
      root := hro2
      shadows := hsh3
      hidden := hhi4
      office := hof5
      legs := hle7
      trips := htr8
      sense := hse9
      image := him10
      slots := hsl11
      fabric := hfa12
      acceptance := hac13
      safety := hsa14
      security := hse15
      links := hli16
      twin := htw17
      health := hhe18
      axes := hax19
      axisTick := hax20
      axisNv := hax21
      journal := hjo22
      cycle := hcy23
      time := ht }⟩

/-- A change of the time base that keeps the counter in range and lets time pass. -/
theorem Ev.run {m : Nat} {r s : State} {tb : TimeBase} (h : Ev m r s) (ha : s.time.acc < 2 ^ 104 → tb.acc < 2 ^ 104)
    (he : s.time.elapsed ≤ tb.elapsed) (hm : Cov (2 ^ Part.time.ctorIdx) m := by exact .use) :
    Ev m r { s with time := tb } :=
  ⟨h.1, fun x => ha (h.2 x), h.3, Nat.le_trans h.4 he, h.5, h.6, h.7.trans { Keeps.refl m s with time := Or.inl hm }⟩

/-- A change of the capture unit that keeps its memories sound. -/
theorem Ev.memory {m : Nat} {r s : State} {c : Capture} (h : Ev m r s) (g : memOk s.capture → memOk c)
    (hm : Cov (2 ^ Part.memory.ctorIdx) m := by exact .use)
    (hc : Cov (2 ^ Part.capture.ctorIdx) m ∨ { c with mem := [], flight := [] } = { s.capture with mem := [], flight := [] } :=
      by first | exact .inl .use | exact .inr rfl) :
    Ev m r { s with capture := c } :=
  ⟨h.1, h.2, fun x => g (h.3 x), h.4, h.5, h.6, h.7.trans { Keeps.refl m s with memory := Or.inl hm, capture := hc }⟩

/-- A change of the register table at keys of the set. -/
theorem Ev.table {m : Nat} {r s : State} {x : Sparse Nat} (h : Ev m r s) (g : regsOk s.regs → regsOk x)
    (hk : ∀ k, RegIn m k ∨ ∀ d, sget d x k = sget d s.regs k) : Ev m r { s with regs := x } :=
  ⟨fun y => g (h.1 y), h.2, h.3, h.4, h.5, h.6, h.7.trans { Keeps.refl m s with regs := hk }⟩

theorem cov_bit {n m : Nat} : Cov (2 ^ n) m ↔ m.testBit n = true := by
  constructor
  · intro h
    have := congrArg (fun x => x.testBit n) h
    simpa [Nat.testBit_and] using this
  · intro h
    refine Nat.eq_of_testBit_eq fun i => ?_
    rw [Nat.testBit_and, Nat.testBit_two_pow]
    by_cases e : n = i
    · subst e; simp [h]
    · simp [e]

theorem foldl_or_bit {α : Type} {g : α → Nat} {l : List α} {x n : Nat} :
    (l.foldl (fun m a => m ||| 2 ^ g a) x).testBit n = true ↔ x.testBit n = true ∨ ∃ a ∈ l, g a = n := by
  induction l generalizing x with
  | nil => simp
  | cons a l ih =>
    rw [List.foldl_cons, ih, Nat.testBit_or, Nat.testBit_two_pow]
    simp only [Bool.or_eq_true, decide_eq_true_eq, List.mem_cons, exists_eq_or_imp, or_assoc]

theorem Part.ctorIdx_lt (p : Part) : p.ctorIdx < 32 := by cases p <;> decide

/-- The set that lists of names give holds exactly the parts listed. -/
theorem cov_mask_part {ps : List Part} {rs : List Reg} {p : Part} (h : Cov (2 ^ p.ctorIdx) (mask ps rs)) : p ∈ ps := by
  rw [cov_bit, mask, foldl_or_bit (g := fun r : Reg => 32 + r.ctorIdx), foldl_or_bit (g := Part.ctorIdx)] at h
  obtain (h | ⟨q, hq, e⟩) | ⟨r, _, e⟩ := h
  · simp at h
  · have : q = p := by rw [← Part.ofNat_ctorIdx q, e, Part.ofNat_ctorIdx]
    exact this ▸ hq
  · have := p.ctorIdx_lt
    omega

/-- The same for the registers. -/
theorem cov_mask_reg {ps : List Part} {rs : List Reg} {r : Reg} (h : Cov (2 ^ (32 + r.ctorIdx)) (mask ps rs)) : r ∈ rs := by
  rw [cov_bit, mask, foldl_or_bit (g := fun r : Reg => 32 + r.ctorIdx), foldl_or_bit (g := Part.ctorIdx)] at h
  obtain (h | ⟨q, _, e⟩) | ⟨q, hq, e⟩ := h
  · simp at h
  · have := q.ctorIdx_lt
    omega
  · have e : q.ctorIdx = r.ctorIdx := by omega
    have : q = r := by rw [← Reg.ofNat_ctorIdx q, e, Reg.ofNat_ctorIdx]
    exact this ▸ hq

/-- A register whose key no name of the set has keeps its value. -/
theorem Keeps.get_eq {ps : List Part} {rs : List Reg} {s t : State} {f : Fld} (h : Keeps (mask ps rs) s t) (hp : Part.regs ∉ ps)
    (hk : ∀ g ∈ rs, ∀ i j, (g.fld i j).key ≠ f.key) : t.get f = s.get f := by
  obtain h | h := h.regs f.key
  · obtain h | ⟨g, i, j, hg, e⟩ := h
    · exact absurd (cov_mask_part h) hp
    · exact absurd e (hk g (cov_mask_reg hg) i j)
  · exact h _

/-- A command carried out by `answers` under a condition that holds, from the lemma of its operation. -/
theorem Does.of_answers {c : Instr} {s x : State} {m : Nat} {p : State → Prop} {b : Bool} (hc : exec c s = answers s (if b = true then x else s))
    (hb : b = true) (e : Ev m s x) (hx : p x) : Does c s m p := by
  refine ⟨x, ?_, e.7, hx⟩
  have h := e.7.pending
  rw [hc, answers, if_pos hb, ← h]

theorem Ev.cut {m : Nat} {r x : State} {P : Prop} (h1 : Ev m r x) (h2 : Ev m r x → P) : P := h2 h1
theorem Ev.fst {m : Nat} {r x : State} {β} {p : State × β} {y : β} (e : p = (x, y)) (h : Ev m r p.1) : Ev m r x := by subst e; exact h
theorem Ev.snd {m : Nat} {r x : State} {β} {p : β × State} {y : β} (e : p = (y, x)) (h : Ev m r p.2) : Ev m r x := by subst e; exact h
theorem Ev.ite {m : Nat} {r a b : State} {c : Prop} [Decidable c] (h1 : Ev m r a) (h2 : Ev m r b) : Ev m r (if c then a else b) := by
  split <;> assumption
theorem Ev.iteR {m : Nat} {r a b : State} {c : Prop} [Decidable c] (h2 : Ev m r b) (h1 : Ev m r b → Ev m r a) :
    Ev m r (if c then a else b) := by
  split
  · exact h1 h2
  · exact h2
theorem Ev.pair1 {m : Nat} {r a : State} {β} {b : β} (h : Ev m r a) : Ev m r (a, b).1 := h
theorem Ev.pair2 {m : Nat} {r a : State} {β} {b : β} (h : Ev m r a) : Ev m r (b, a).2 := h
theorem Ev.foldl {m : Nat} {r s : State} {α} {f : State → α → State} {l : List α} (hb : ∀ x a, Ev m r x → Ev m r (f x a)) (h : Ev m r s) :
    Ev m r (l.foldl f s) := by
  induction l generalizing s with
  | nil => exact h
  | cons a l ih => exact ih (hb _ _ h)
theorem Ev.foldl1 {m : Nat} {r : State} {α β} {f : State × β → α → State × β} {l : List α} {p : State × β}
    (hb : ∀ x a, Ev m r x.1 → Ev m r (f x a).1) (h : Ev m r p.1) : Ev m r (l.foldl f p).1 := by
  induction l generalizing p with
  | nil => exact h
  | cons a l ih => exact ih (hb _ _ h)

end Sys2Proof.Machine
end

