-- ==== Sys2Proof/Laws/EvNames.lean ====
section
/-!
SUPPORT. A register that a set of names holds may change (RegIn of Safety.lean): one lemma for each name that some meaning writes.
-/
namespace Sys2Proof.Machine

theorem R.NODE_IDENT_PROV_in {m : Nat} (h : Cov (2 ^ (32 + Reg.NODE_IDENT_PROV.ctorIdx)) m) : RegIn m R.NODE_IDENT_PROV.key :=
  RegIn.name .NODE_IDENT_PROV 0 0 h

theorem R.NODE_IDENT_TWIN_in {m : Nat} (h : Cov (2 ^ (32 + Reg.NODE_IDENT_TWIN.ctorIdx)) m) : RegIn m R.NODE_IDENT_TWIN.key :=
  RegIn.name .NODE_IDENT_TWIN 0 0 h

theorem R.NODE_IDENT_CLUSTER_in {m : Nat} (h : Cov (2 ^ (32 + Reg.NODE_IDENT_CLUSTER.ctorIdx)) m) : RegIn m R.NODE_IDENT_CLUSTER.key :=
  RegIn.name .NODE_IDENT_CLUSTER 0 0 h

theorem R.NODE_IDENT_NODE_in {m : Nat} (h : Cov (2 ^ (32 + Reg.NODE_IDENT_NODE.ctorIdx)) m) : RegIn m R.NODE_IDENT_NODE.key :=
  RegIn.name .NODE_IDENT_NODE 0 0 h

theorem R.NODE_PAIR_PAIR_VALID_in {m : Nat} (h : Cov (2 ^ (32 + Reg.NODE_PAIR_PAIR_VALID.ctorIdx)) m) : RegIn m R.NODE_PAIR_PAIR_VALID.key :=
  RegIn.name .NODE_PAIR_PAIR_VALID 0 0 h

theorem R.NODE_PAIR_PARTNER_in {m : Nat} (h : Cov (2 ^ (32 + Reg.NODE_PAIR_PARTNER.ctorIdx)) m) : RegIn m R.NODE_PAIR_PARTNER.key :=
  RegIn.name .NODE_PAIR_PARTNER 0 0 h

theorem R.NODE_PAIR_PAIR_ID_in {m : Nat} (h : Cov (2 ^ (32 + Reg.NODE_PAIR_PAIR_ID.ctorIdx)) m) : RegIn m R.NODE_PAIR_PAIR_ID.key :=
  RegIn.name .NODE_PAIR_PAIR_ID 0 0 h

theorem R.NODE_MODE_REFUSE_in {m : Nat} (h : Cov (2 ^ (32 + Reg.NODE_MODE_REFUSE.ctorIdx)) m) : RegIn m R.NODE_MODE_REFUSE.key :=
  RegIn.name .NODE_MODE_REFUSE 0 0 h

theorem R.NODE_MODE_ENTRY_in {m : Nat} (h : Cov (2 ^ (32 + Reg.NODE_MODE_ENTRY.ctorIdx)) m) : RegIn m R.NODE_MODE_ENTRY.key :=
  RegIn.name .NODE_MODE_ENTRY 0 0 h

theorem R.NODE_MODE_QUIET_in {m : Nat} (h : Cov (2 ^ (32 + Reg.NODE_MODE_QUIET.ctorIdx)) m) : RegIn m R.NODE_MODE_QUIET.key :=
  RegIn.name .NODE_MODE_QUIET 0 0 h

theorem R.NODE_MODE_PENDING_in {m : Nat} (h : Cov (2 ^ (32 + Reg.NODE_MODE_PENDING.ctorIdx)) m) : RegIn m R.NODE_MODE_PENDING.key :=
  RegIn.name .NODE_MODE_PENDING 0 0 h

theorem R.NODE_MODE_LATCH_in {m : Nat} (h : Cov (2 ^ (32 + Reg.NODE_MODE_LATCH.ctorIdx)) m) : RegIn m R.NODE_MODE_LATCH.key :=
  RegIn.name .NODE_MODE_LATCH 0 0 h

theorem R.NODE_MODE_MODE_in {m : Nat} (h : Cov (2 ^ (32 + Reg.NODE_MODE_MODE.ctorIdx)) m) : RegIn m R.NODE_MODE_MODE.key :=
  RegIn.name .NODE_MODE_MODE 0 0 h

theorem R.NODE_TEST_RUNNING_in {m : Nat} (h : Cov (2 ^ (32 + Reg.NODE_TEST_RUNNING.ctorIdx)) m) : RegIn m R.NODE_TEST_RUNNING.key :=
  RegIn.name .NODE_TEST_RUNNING 0 0 h

theorem R.NODE_TEST_RESULT_in {m : Nat} (h : Cov (2 ^ (32 + Reg.NODE_TEST_RESULT.ctorIdx)) m) : RegIn m R.NODE_TEST_RESULT.key :=
  RegIn.name .NODE_TEST_RESULT 0 0 h

theorem R.NODE_TEST_FAILUNIT_in {m : Nat} (h : Cov (2 ^ (32 + Reg.NODE_TEST_FAILUNIT.ctorIdx)) m) : RegIn m R.NODE_TEST_FAILUNIT.key :=
  RegIn.name .NODE_TEST_FAILUNIT 0 0 h

theorem R.NODE_ADDRERR_COUNT_in {m : Nat} (h : Cov (2 ^ (32 + Reg.NODE_ADDRERR_COUNT.ctorIdx)) m) : RegIn m R.NODE_ADDRERR_COUNT.key :=
  RegIn.name .NODE_ADDRERR_COUNT 0 0 h

theorem R.NODE_ADDRERR_REQ_in {m : Nat} (h : Cov (2 ^ (32 + Reg.NODE_ADDRERR_REQ.ctorIdx)) m) : RegIn m R.NODE_ADDRERR_REQ.key :=
  RegIn.name .NODE_ADDRERR_REQ 0 0 h

theorem R.NODE_ADDRERR_KIND_in {m : Nat} (h : Cov (2 ^ (32 + Reg.NODE_ADDRERR_KIND.ctorIdx)) m) : RegIn m R.NODE_ADDRERR_KIND.key :=
  RegIn.name .NODE_ADDRERR_KIND 0 0 h

theorem R.NODE_ADDRERR_ADDR_ADDR_in {m : Nat} (h : Cov (2 ^ (32 + Reg.NODE_ADDRERR_ADDR_ADDR.ctorIdx)) m) : RegIn m R.NODE_ADDRERR_ADDR_ADDR.key :=
  RegIn.name .NODE_ADDRERR_ADDR_ADDR 0 0 h

theorem R.NODE_TRIPSTAT_LTOTAL_in {m : Nat} (h : Cov (2 ^ (32 + Reg.NODE_TRIPSTAT_LTOTAL.ctorIdx)) m) : RegIn m R.NODE_TRIPSTAT_LTOTAL.key :=
  RegIn.name .NODE_TRIPSTAT_LTOTAL 0 0 h

theorem R.NODE_TRIPSTAT_BLANKED_in {m : Nat} (h : Cov (2 ^ (32 + Reg.NODE_TRIPSTAT_BLANKED.ctorIdx)) m) : RegIn m R.NODE_TRIPSTAT_BLANKED.key :=
  RegIn.name .NODE_TRIPSTAT_BLANKED 0 0 h

theorem R.NODE_TRIPSTAT_CLRREF_in {m : Nat} (h : Cov (2 ^ (32 + Reg.NODE_TRIPSTAT_CLRREF.ctorIdx)) m) : RegIn m R.NODE_TRIPSTAT_CLRREF.key :=
  RegIn.name .NODE_TRIPSTAT_CLRREF 0 0 h

theorem R.NODE_TRIPSTAT_CMPOUT_in {m : Nat} (h : Cov (2 ^ (32 + Reg.NODE_TRIPSTAT_CMPOUT.ctorIdx)) m) : RegIn m R.NODE_TRIPSTAT_CMPOUT.key :=
  RegIn.name .NODE_TRIPSTAT_CMPOUT 0 0 h

theorem R.NODE_TRIPSTAT_ANY_in {m : Nat} (h : Cov (2 ^ (32 + Reg.NODE_TRIPSTAT_ANY.ctorIdx)) m) : RegIn m R.NODE_TRIPSTAT_ANY.key :=
  RegIn.name .NODE_TRIPSTAT_ANY 0 0 h

theorem R.NODE_BTRIP_BRIDGE_in {m : Nat} (h : Cov (2 ^ (32 + Reg.NODE_BTRIP_BRIDGE.ctorIdx)) m) : RegIn m R.NODE_BTRIP_BRIDGE.key :=
  RegIn.name .NODE_BTRIP_BRIDGE 0 0 h

theorem R.NODE_WCMPST_UNDER_in {m : Nat} (h : Cov (2 ^ (32 + Reg.NODE_WCMPST_UNDER.ctorIdx)) m) : RegIn m R.NODE_WCMPST_UNDER.key :=
  RegIn.name .NODE_WCMPST_UNDER 0 0 h

theorem R.NODE_WCMPST_OVER_in {m : Nat} (h : Cov (2 ^ (32 + Reg.NODE_WCMPST_OVER.ctorIdx)) m) : RegIn m R.NODE_WCMPST_OVER.key :=
  RegIn.name .NODE_WCMPST_OVER 0 0 h

theorem R.NODE_TWIN_CFG_SILN_in {m : Nat} (h : Cov (2 ^ (32 + Reg.NODE_TWIN_CFG_SILN.ctorIdx)) m) : RegIn m R.NODE_TWIN_CFG_SILN.key :=
  RegIn.name .NODE_TWIN_CFG_SILN 0 0 h

theorem R.NODE_TWIN_CFG_EDGEW_in {m : Nat} (h : Cov (2 ^ (32 + Reg.NODE_TWIN_CFG_EDGEW.ctorIdx)) m) : RegIn m R.NODE_TWIN_CFG_EDGEW.key :=
  RegIn.name .NODE_TWIN_CFG_EDGEW 0 0 h

theorem R.NODE_TWIN_CFG_TSIL_in {m : Nat} (h : Cov (2 ^ (32 + Reg.NODE_TWIN_CFG_TSIL.ctorIdx)) m) : RegIn m R.NODE_TWIN_CFG_TSIL.key :=
  RegIn.name .NODE_TWIN_CFG_TSIL 0 0 h

theorem R.NODE_TWIN_STAT_ROLE_in {m : Nat} (h : Cov (2 ^ (32 + Reg.NODE_TWIN_STAT_ROLE.ctorIdx)) m) : RegIn m R.NODE_TWIN_STAT_ROLE.key :=
  RegIn.name .NODE_TWIN_STAT_ROLE 0 0 h

theorem R.NODE_TWIN_STAT_LINK_in {m : Nat} (h : Cov (2 ^ (32 + Reg.NODE_TWIN_STAT_LINK.ctorIdx)) m) : RegIn m R.NODE_TWIN_STAT_LINK.key :=
  RegIn.name .NODE_TWIN_STAT_LINK 0 0 h

theorem R.NODE_TWIN_STAT_SILENT_in {m : Nat} (h : Cov (2 ^ (32 + Reg.NODE_TWIN_STAT_SILENT.ctorIdx)) m) : RegIn m R.NODE_TWIN_STAT_SILENT.key :=
  RegIn.name .NODE_TWIN_STAT_SILENT 0 0 h

theorem R.NODE_TWIN_STAT_DIVERGED_in {m : Nat} (h : Cov (2 ^ (32 + Reg.NODE_TWIN_STAT_DIVERGED.ctorIdx)) m) : RegIn m R.NODE_TWIN_STAT_DIVERGED.key :=
  RegIn.name .NODE_TWIN_STAT_DIVERGED 0 0 h

theorem R.NODE_TWIN_STAT_SEQ_END_in {m : Nat} (h : Cov (2 ^ (32 + Reg.NODE_TWIN_STAT_SEQ_END.ctorIdx)) m) : RegIn m R.NODE_TWIN_STAT_SEQ_END.key :=
  RegIn.name .NODE_TWIN_STAT_SEQ_END 0 0 h

theorem R.NODE_TWIN_STAT_REFUSE_in {m : Nat} (h : Cov (2 ^ (32 + Reg.NODE_TWIN_STAT_REFUSE.ctorIdx)) m) : RegIn m R.NODE_TWIN_STAT_REFUSE.key :=
  RegIn.name .NODE_TWIN_STAT_REFUSE 0 0 h

theorem R.NODE_TWIN_STAT_LINK_DOWN_in {m : Nat} (h : Cov (2 ^ (32 + Reg.NODE_TWIN_STAT_LINK_DOWN.ctorIdx)) m) : RegIn m R.NODE_TWIN_STAT_LINK_DOWN.key :=
  RegIn.name .NODE_TWIN_STAT_LINK_DOWN 0 0 h

theorem R.NODE_TWIN_STAT_HASH_MISMATCH_in {m : Nat} (h : Cov (2 ^ (32 + Reg.NODE_TWIN_STAT_HASH_MISMATCH.ctorIdx)) m) : RegIn m R.NODE_TWIN_STAT_HASH_MISMATCH.key :=
  RegIn.name .NODE_TWIN_STAT_HASH_MISMATCH 0 0 h

theorem R.NODE_TWIN_STAT_UNEXPLAINED_in {m : Nat} (h : Cov (2 ^ (32 + Reg.NODE_TWIN_STAT_UNEXPLAINED.ctorIdx)) m) : RegIn m R.NODE_TWIN_STAT_UNEXPLAINED.key :=
  RegIn.name .NODE_TWIN_STAT_UNEXPLAINED 0 0 h

theorem R.NODE_TWIN_STAT_SENSE_DISAGREE_in {m : Nat} (h : Cov (2 ^ (32 + Reg.NODE_TWIN_STAT_SENSE_DISAGREE.ctorIdx)) m) : RegIn m R.NODE_TWIN_STAT_SENSE_DISAGREE.key :=
  RegIn.name .NODE_TWIN_STAT_SENSE_DISAGREE 0 0 h

theorem R.NODE_TWIN_STAT_RB_DISAGREE_in {m : Nat} (h : Cov (2 ^ (32 + Reg.NODE_TWIN_STAT_RB_DISAGREE.ctorIdx)) m) : RegIn m R.NODE_TWIN_STAT_RB_DISAGREE.key :=
  RegIn.name .NODE_TWIN_STAT_RB_DISAGREE 0 0 h

theorem R.NODE_TWIN_STAT_TEST_FAIL_in {m : Nat} (h : Cov (2 ^ (32 + Reg.NODE_TWIN_STAT_TEST_FAIL.ctorIdx)) m) : RegIn m R.NODE_TWIN_STAT_TEST_FAIL.key :=
  RegIn.name .NODE_TWIN_STAT_TEST_FAIL 0 0 h

theorem R.NODE_TWIN_STAT_TAKEOVER_in {m : Nat} (h : Cov (2 ^ (32 + Reg.NODE_TWIN_STAT_TAKEOVER.ctorIdx)) m) : RegIn m R.NODE_TWIN_STAT_TAKEOVER.key :=
  RegIn.name .NODE_TWIN_STAT_TAKEOVER 0 0 h

theorem R.NODE_TWIN_STAT_HELDLOSS_in {m : Nat} (h : Cov (2 ^ (32 + Reg.NODE_TWIN_STAT_HELDLOSS.ctorIdx)) m) : RegIn m R.NODE_TWIN_STAT_HELDLOSS.key :=
  RegIn.name .NODE_TWIN_STAT_HELDLOSS 0 0 h

theorem R.NODE_TWIN_CNT_BMISS_in {m : Nat} (h : Cov (2 ^ (32 + Reg.NODE_TWIN_CNT_BMISS.ctorIdx)) m) : RegIn m R.NODE_TWIN_CNT_BMISS.key :=
  RegIn.name .NODE_TWIN_CNT_BMISS 0 0 h

theorem R.NODE_TWIN_CNT_MISM_in {m : Nat} (h : Cov (2 ^ (32 + Reg.NODE_TWIN_CNT_MISM.ctorIdx)) m) : RegIn m R.NODE_TWIN_CNT_MISM.key :=
  RegIn.name .NODE_TWIN_CNT_MISM 0 0 h

theorem R.NODE_TWIN_CNT_SDCH_in {m : Nat} (h : Cov (2 ^ (32 + Reg.NODE_TWIN_CNT_SDCH.ctorIdx)) m) : RegIn m R.NODE_TWIN_CNT_SDCH.key :=
  RegIn.name .NODE_TWIN_CNT_SDCH 0 0 h

theorem R.NODE_TWIN_SEQ_LO_NEXT_in {m : Nat} (h : Cov (2 ^ (32 + Reg.NODE_TWIN_SEQ_LO_NEXT.ctorIdx)) m) : RegIn m R.NODE_TWIN_SEQ_LO_NEXT.key :=
  RegIn.name .NODE_TWIN_SEQ_LO_NEXT 0 0 h

theorem R.NODE_TWIN_SEQ_HI_NEXT_in {m : Nat} (h : Cov (2 ^ (32 + Reg.NODE_TWIN_SEQ_HI_NEXT.ctorIdx)) m) : RegIn m R.NODE_TWIN_SEQ_HI_NEXT.key :=
  RegIn.name .NODE_TWIN_SEQ_HI_NEXT 0 0 h

theorem R.NODE_TWIN_MISK_LO_K_in {m : Nat} (h : Cov (2 ^ (32 + Reg.NODE_TWIN_MISK_LO_K.ctorIdx)) m) : RegIn m R.NODE_TWIN_MISK_LO_K.key :=
  RegIn.name .NODE_TWIN_MISK_LO_K 0 0 h

theorem R.NODE_TWIN_MISK_HI_K_in {m : Nat} (h : Cov (2 ^ (32 + Reg.NODE_TWIN_MISK_HI_K.ctorIdx)) m) : RegIn m R.NODE_TWIN_MISK_HI_K.key :=
  RegIn.name .NODE_TWIN_MISK_HI_K 0 0 h

theorem R.NODE_LTRIPm_LEG_in {m : Nat} {i : Nat} (h : Cov (2 ^ (32 + Reg.NODE_LTRIPm_LEG.ctorIdx)) m) : RegIn m (R.NODE_LTRIPm_LEG i).key :=
  RegIn.name .NODE_LTRIPm_LEG i 0 h

theorem R.NODE_LTINm_LEG_in {m : Nat} {i : Nat} (h : Cov (2 ^ (32 + Reg.NODE_LTINm_LEG.ctorIdx)) m) : RegIn m (R.NODE_LTINm_LEG i).key :=
  RegIn.name .NODE_LTINm_LEG i 0 h

theorem R.NODE_BCAUSEb_FIRST_in {m : Nat} {i : Nat} (h : Cov (2 ^ (32 + Reg.NODE_BCAUSEb_FIRST.ctorIdx)) m) : RegIn m (R.NODE_BCAUSEb_FIRST i).key :=
  RegIn.name .NODE_BCAUSEb_FIRST i 0 h

theorem R.NODE_BCAUSEb_LAST_in {m : Nat} {i : Nat} (h : Cov (2 ^ (32 + Reg.NODE_BCAUSEb_LAST.ctorIdx)) m) : RegIn m (R.NODE_BCAUSEb_LAST i).key :=
  RegIn.name .NODE_BCAUSEb_LAST i 0 h

theorem R.NODE_BCAUSEb_NCAUSE_in {m : Nat} {i : Nat} (h : Cov (2 ^ (32 + Reg.NODE_BCAUSEb_NCAUSE.ctorIdx)) m) : RegIn m (R.NODE_BCAUSEb_NCAUSE i).key :=
  RegIn.name .NODE_BCAUSEb_NCAUSE i 0 h

theorem R.NODE_BCNTb_TOTAL_in {m : Nat} {i : Nat} (h : Cov (2 ^ (32 + Reg.NODE_BCNTb_TOTAL.ctorIdx)) m) : RegIn m (R.NODE_BCNTb_TOTAL i).key :=
  RegIn.name .NODE_BCNTb_TOTAL i 0 h

theorem R.NODE_BCNTb_WIN_in {m : Nat} {i : Nat} (h : Cov (2 ^ (32 + Reg.NODE_BCNTb_WIN.ctorIdx)) m) : RegIn m (R.NODE_BCNTb_WIN i).key :=
  RegIn.name .NODE_BCNTb_WIN i 0 h

theorem R.NODE_WCMPc_CFG_ACT_in {m : Nat} {i : Nat} (h : Cov (2 ^ (32 + Reg.NODE_WCMPc_CFG_ACT.ctorIdx)) m) : RegIn m (R.NODE_WCMPc_CFG_ACT i).key :=
  RegIn.name .NODE_WCMPc_CFG_ACT i 0 h

theorem R.NODE_WCMPc_CFG_SRC_in {m : Nat} {i : Nat} (h : Cov (2 ^ (32 + Reg.NODE_WCMPc_CFG_SRC.ctorIdx)) m) : RegIn m (R.NODE_WCMPc_CFG_SRC i).key :=
  RegIn.name .NODE_WCMPc_CFG_SRC i 0 h

theorem R.POST_NOW_LO_FRAC_in {m : Nat} (h : Cov (2 ^ (32 + Reg.POST_NOW_LO_FRAC.ctorIdx)) m) : RegIn m R.POST_NOW_LO_FRAC.key :=
  RegIn.name .POST_NOW_LO_FRAC 0 0 h

theorem R.POST_NOW_HI_SEC_in {m : Nat} (h : Cov (2 ^ (32 + Reg.POST_NOW_HI_SEC.ctorIdx)) m) : RegIn m R.POST_NOW_HI_SEC.key :=
  RegIn.name .POST_NOW_HI_SEC 0 0 h

theorem R.POST_STATUS_CHANGED_in {m : Nat} (h : Cov (2 ^ (32 + Reg.POST_STATUS_CHANGED.ctorIdx)) m) : RegIn m R.POST_STATUS_CHANGED.key :=
  RegIn.name .POST_STATUS_CHANGED 0 0 h

theorem R.POST_STATUS_STEPPED_in {m : Nat} (h : Cov (2 ^ (32 + Reg.POST_STATUS_STEPPED.ctorIdx)) m) : RegIn m R.POST_STATUS_STEPPED.key :=
  RegIn.name .POST_STATUS_STEPPED 0 0 h

theorem R.POST_STATUS_SRC_ACT_in {m : Nat} (h : Cov (2 ^ (32 + Reg.POST_STATUS_SRC_ACT.ctorIdx)) m) : RegIn m R.POST_STATUS_SRC_ACT.key :=
  RegIn.name .POST_STATUS_SRC_ACT 0 0 h

theorem R.POST_STATUS_COARSE_in {m : Nat} (h : Cov (2 ^ (32 + Reg.POST_STATUS_COARSE.ctorIdx)) m) : RegIn m R.POST_STATUS_COARSE.key :=
  RegIn.name .POST_STATUS_COARSE 0 0 h

theorem R.POST_STATUS_STATE_in {m : Nat} (h : Cov (2 ^ (32 + Reg.POST_STATUS_STATE.ctorIdx)) m) : RegIn m R.POST_STATUS_STATE.key :=
  RegIn.name .POST_STATUS_STATE 0 0 h

theorem R.POST_CTRL_SLEW_in {m : Nat} (h : Cov (2 ^ (32 + Reg.POST_CTRL_SLEW.ctorIdx)) m) : RegIn m R.POST_CTRL_SLEW.key :=
  RegIn.name .POST_CTRL_SLEW 0 0 h

theorem R.POST_CTRL_PRIO_in {m : Nat} (h : Cov (2 ^ (32 + Reg.POST_CTRL_PRIO.ctorIdx)) m) : RegIn m R.POST_CTRL_PRIO.key :=
  RegIn.name .POST_CTRL_PRIO 0 0 h

theorem R.POST_HOLD_FU_in {m : Nat} (h : Cov (2 ^ (32 + Reg.POST_HOLD_FU.ctorIdx)) m) : RegIn m R.POST_HOLD_FU.key :=
  RegIn.name .POST_HOLD_FU 0 0 h

theorem R.POST_HOLD_POOR_US_in {m : Nat} (h : Cov (2 ^ (32 + Reg.POST_HOLD_POOR_US.ctorIdx)) m) : RegIn m R.POST_HOLD_POOR_US.key :=
  RegIn.name .POST_HOLD_POOR_US 0 0 h

theorem R.POST_HOLD_GOOD_NS_in {m : Nat} (h : Cov (2 ^ (32 + Reg.POST_HOLD_GOOD_NS.ctorIdx)) m) : RegIn m R.POST_HOLD_GOOD_NS.key :=
  RegIn.name .POST_HOLD_GOOD_NS 0 0 h

theorem R.POST_ERRB_ERR_NS_in {m : Nat} (h : Cov (2 ^ (32 + Reg.POST_ERRB_ERR_NS.ctorIdx)) m) : RegIn m R.POST_ERRB_ERR_NS.key :=
  RegIn.name .POST_ERRB_ERR_NS 0 0 h

theorem R.POST_OFFSET_OFS_NS_in {m : Nat} (h : Cov (2 ^ (32 + Reg.POST_OFFSET_OFS_NS.ctorIdx)) m) : RegIn m R.POST_OFFSET_OFS_NS.key :=
  RegIn.name .POST_OFFSET_OFS_NS 0 0 h

theorem R.POST_TRIM_TRIM_in {m : Nat} (h : Cov (2 ^ (32 + Reg.POST_TRIM_TRIM.ctorIdx)) m) : RegIn m R.POST_TRIM_TRIM.key :=
  RegIn.name .POST_TRIM_TRIM 0 0 h

theorem R.POST_EPOCH_LO_SEC_in {m : Nat} (h : Cov (2 ^ (32 + Reg.POST_EPOCH_LO_SEC.ctorIdx)) m) : RegIn m R.POST_EPOCH_LO_SEC.key :=
  RegIn.name .POST_EPOCH_LO_SEC 0 0 h

theorem R.POST_EPOCH_HI_VALID_in {m : Nat} (h : Cov (2 ^ (32 + Reg.POST_EPOCH_HI_VALID.ctorIdx)) m) : RegIn m R.POST_EPOCH_HI_VALID.key :=
  RegIn.name .POST_EPOCH_HI_VALID 0 0 h

theorem R.POST_EPOCH_HI_SEC_in {m : Nat} (h : Cov (2 ^ (32 + Reg.POST_EPOCH_HI_SEC.ctorIdx)) m) : RegIn m R.POST_EPOCH_HI_SEC.key :=
  RegIn.name .POST_EPOCH_HI_SEC 0 0 h

theorem R.POST_TIG_LAPSES_in {m : Nat} (h : Cov (2 ^ (32 + Reg.POST_TIG_LAPSES.ctorIdx)) m) : RegIn m R.POST_TIG_LAPSES.key :=
  RegIn.name .POST_TIG_LAPSES 0 0 h

theorem R.POST_TIG_HWFAULT_in {m : Nat} (h : Cov (2 ^ (32 + Reg.POST_TIG_HWFAULT.ctorIdx)) m) : RegIn m R.POST_TIG_HWFAULT.key :=
  RegIn.name .POST_TIG_HWFAULT 0 0 h

theorem R.POST_TIG_TIMEBASE_in {m : Nat} (h : Cov (2 ^ (32 + Reg.POST_TIG_TIMEBASE.ctorIdx)) m) : RegIn m R.POST_TIG_TIMEBASE.key :=
  RegIn.name .POST_TIG_TIMEBASE 0 0 h

theorem R.POST_TIG_OVERRUN_in {m : Nat} (h : Cov (2 ^ (32 + Reg.POST_TIG_OVERRUN.ctorIdx)) m) : RegIn m R.POST_TIG_OVERRUN.key :=
  RegIn.name .POST_TIG_OVERRUN 0 0 h

theorem R.POST_TIG_FOREIGN_in {m : Nat} (h : Cov (2 ^ (32 + Reg.POST_TIG_FOREIGN.ctorIdx)) m) : RegIn m R.POST_TIG_FOREIGN.key :=
  RegIn.name .POST_TIG_FOREIGN 0 0 h

theorem R.POST_TIG_IMAGE_in {m : Nat} (h : Cov (2 ^ (32 + Reg.POST_TIG_IMAGE.ctorIdx)) m) : RegIn m R.POST_TIG_IMAGE.key :=
  RegIn.name .POST_TIG_IMAGE 0 0 h

theorem R.POST_TIG_HELD_in {m : Nat} (h : Cov (2 ^ (32 + Reg.POST_TIG_HELD.ctorIdx)) m) : RegIn m R.POST_TIG_HELD.key :=
  RegIn.name .POST_TIG_HELD 0 0 h

theorem R.POST_ACC_SUPER_in {m : Nat} (h : Cov (2 ^ (32 + Reg.POST_ACC_SUPER.ctorIdx)) m) : RegIn m R.POST_ACC_SUPER.key :=
  RegIn.name .POST_ACC_SUPER 0 0 h

theorem R.POST_ACC_LATE_in {m : Nat} (h : Cov (2 ^ (32 + Reg.POST_ACC_LATE.ctorIdx)) m) : RegIn m R.POST_ACC_LATE.key :=
  RegIn.name .POST_ACC_LATE 0 0 h

theorem R.POST_TIGBASE_LO_FRAC_in {m : Nat} (h : Cov (2 ^ (32 + Reg.POST_TIGBASE_LO_FRAC.ctorIdx)) m) : RegIn m R.POST_TIGBASE_LO_FRAC.key :=
  RegIn.name .POST_TIGBASE_LO_FRAC 0 0 h

theorem R.POST_TIGBASE_HI_SEC_in {m : Nat} (h : Cov (2 ^ (32 + Reg.POST_TIGBASE_HI_SEC.ctorIdx)) m) : RegIn m R.POST_TIGBASE_HI_SEC.key :=
  RegIn.name .POST_TIGBASE_HI_SEC 0 0 h

theorem R.CK_STATUS_LOCK_in {m : Nat} (h : Cov (2 ^ (32 + Reg.CK_STATUS_LOCK.ctorIdx)) m) : RegIn m R.CK_STATUS_LOCK.key :=
  RegIn.name .CK_STATUS_LOCK 0 0 h

theorem R.CK_STATUS_SHADOW_in {m : Nat} (h : Cov (2 ^ (32 + Reg.CK_STATUS_SHADOW.ctorIdx)) m) : RegIn m R.CK_STATUS_SHADOW.key :=
  RegIn.name .CK_STATUS_SHADOW 0 0 h

theorem R.CK_STATUS_ACT_in {m : Nat} (h : Cov (2 ^ (32 + Reg.CK_STATUS_ACT.ctorIdx)) m) : RegIn m R.CK_STATUS_ACT.key :=
  RegIn.name .CK_STATUS_ACT 0 0 h

theorem R.CK_STATUS_REF1_OK_in {m : Nat} (h : Cov (2 ^ (32 + Reg.CK_STATUS_REF1_OK.ctorIdx)) m) : RegIn m R.CK_STATUS_REF1_OK.key :=
  RegIn.name .CK_STATUS_REF1_OK 0 0 h

theorem R.CK_STATUS_REF0_OK_in {m : Nat} (h : Cov (2 ^ (32 + Reg.CK_STATUS_REF0_OK.ctorIdx)) m) : RegIn m R.CK_STATUS_REF0_OK.key :=
  RegIn.name .CK_STATUS_REF0_OK 0 0 h

theorem R.CK_STATUS_LOSS_in {m : Nat} (h : Cov (2 ^ (32 + Reg.CK_STATUS_LOSS.ctorIdx)) m) : RegIn m R.CK_STATUS_LOSS.key :=
  RegIn.name .CK_STATUS_LOSS 0 0 h

theorem R.CK_STATUS_RELOCKS_in {m : Nat} (h : Cov (2 ^ (32 + Reg.CK_STATUS_RELOCKS.ctorIdx)) m) : RegIn m R.CK_STATUS_RELOCKS.key :=
  RegIn.name .CK_STATUS_RELOCKS 0 0 h

theorem R.CK_REF_AUTO_in {m : Nat} (h : Cov (2 ^ (32 + Reg.CK_REF_AUTO.ctorIdx)) m) : RegIn m R.CK_REF_AUTO.key :=
  RegIn.name .CK_REF_AUTO 0 0 h

theorem R.CK_REF_SEL_in {m : Nat} (h : Cov (2 ^ (32 + Reg.CK_REF_SEL.ctorIdx)) m) : RegIn m R.CK_REF_SEL.key :=
  RegIn.name .CK_REF_SEL 0 0 h

theorem R.CK_REF_REF1_EN_in {m : Nat} (h : Cov (2 ^ (32 + Reg.CK_REF_REF1_EN.ctorIdx)) m) : RegIn m R.CK_REF_REF1_EN.key :=
  RegIn.name .CK_REF_REF1_EN 0 0 h

theorem R.CK_REF_REF0_EN_in {m : Nat} (h : Cov (2 ^ (32 + Reg.CK_REF_REF0_EN.ctorIdx)) m) : RegIn m R.CK_REF_REF0_EN.key :=
  RegIn.name .CK_REF_REF0_EN 0 0 h

theorem R.CK_LOCKWIN_COUNT_in {m : Nat} (h : Cov (2 ^ (32 + Reg.CK_LOCKWIN_COUNT.ctorIdx)) m) : RegIn m R.CK_LOCKWIN_COUNT.key :=
  RegIn.name .CK_LOCKWIN_COUNT 0 0 h

theorem R.CK_RSTCAUSE_RESET_HELD_LONG_in {m : Nat} (h : Cov (2 ^ (32 + Reg.CK_RSTCAUSE_RESET_HELD_LONG.ctorIdx)) m) : RegIn m R.CK_RSTCAUSE_RESET_HELD_LONG.key :=
  RegIn.name .CK_RSTCAUSE_RESET_HELD_LONG 0 0 h

theorem R.CK_RSTCAUSE_WAKE_in {m : Nat} (h : Cov (2 ^ (32 + Reg.CK_RSTCAUSE_WAKE.ctorIdx)) m) : RegIn m R.CK_RSTCAUSE_WAKE.key :=
  RegIn.name .CK_RSTCAUSE_WAKE 0 0 h

theorem R.CK_RSTCAUSE_COARSE_LOST_in {m : Nat} (h : Cov (2 ^ (32 + Reg.CK_RSTCAUSE_COARSE_LOST.ctorIdx)) m) : RegIn m R.CK_RSTCAUSE_COARSE_LOST.key :=
  RegIn.name .CK_RSTCAUSE_COARSE_LOST 0 0 h

theorem R.CK_RSTCAUSE_BOSUP_in {m : Nat} (h : Cov (2 ^ (32 + Reg.CK_RSTCAUSE_BOSUP.ctorIdx)) m) : RegIn m R.CK_RSTCAUSE_BOSUP.key :=
  RegIn.name .CK_RSTCAUSE_BOSUP 0 0 h

theorem R.CK_RSTCAUSE_KIND_in {m : Nat} (h : Cov (2 ^ (32 + Reg.CK_RSTCAUSE_KIND.ctorIdx)) m) : RegIn m R.CK_RSTCAUSE_KIND.key :=
  RegIn.name .CK_RSTCAUSE_KIND 0 0 h

theorem R.CK_HOLD_MS_in {m : Nat} (h : Cov (2 ^ (32 + Reg.CK_HOLD_MS.ctorIdx)) m) : RegIn m R.CK_HOLD_MS.key :=
  RegIn.name .CK_HOLD_MS 0 0 h

theorem R.CK_WDOG_CFG_TIMEOUT_in {m : Nat} (h : Cov (2 ^ (32 + Reg.CK_WDOG_CFG_TIMEOUT.ctorIdx)) m) : RegIn m R.CK_WDOG_CFG_TIMEOUT.key :=
  RegIn.name .CK_WDOG_CFG_TIMEOUT 0 0 h

theorem R.CK_WDOG_STAT_REMAIN_in {m : Nat} (h : Cov (2 ^ (32 + Reg.CK_WDOG_STAT_REMAIN.ctorIdx)) m) : RegIn m R.CK_WDOG_STAT_REMAIN.key :=
  RegIn.name .CK_WDOG_STAT_REMAIN 0 0 h

theorem R.CK_WAKE_CAUSE_in {m : Nat} (h : Cov (2 ^ (32 + Reg.CK_WAKE_CAUSE.ctorIdx)) m) : RegIn m R.CK_WAKE_CAUSE.key :=
  RegIn.name .CK_WAKE_CAUSE 0 0 h

theorem R.CK_WAKE_INPUT_in {m : Nat} (h : Cov (2 ^ (32 + Reg.CK_WAKE_INPUT.ctorIdx)) m) : RegIn m R.CK_WAKE_INPUT.key :=
  RegIn.name .CK_WAKE_INPUT 0 0 h

theorem R.CK_ALARM_LO_FRAC_in {m : Nat} (h : Cov (2 ^ (32 + Reg.CK_ALARM_LO_FRAC.ctorIdx)) m) : RegIn m R.CK_ALARM_LO_FRAC.key :=
  RegIn.name .CK_ALARM_LO_FRAC 0 0 h

theorem R.CK_ALARM_HI_SEC_in {m : Nat} (h : Cov (2 ^ (32 + Reg.CK_ALARM_HI_SEC.ctorIdx)) m) : RegIn m R.CK_ALARM_HI_SEC.key :=
  RegIn.name .CK_ALARM_HI_SEC 0 0 h

theorem R.LEGn_CFG_BLANK_in {m : Nat} {i : Nat} (h : Cov (2 ^ (32 + Reg.LEGn_CFG_BLANK.ctorIdx)) m) : RegIn m (R.LEGn_CFG_BLANK i).key :=
  RegIn.name .LEGn_CFG_BLANK i 0 h

theorem R.LEGn_CFG_PHASE_in {m : Nat} {i : Nat} (h : Cov (2 ^ (32 + Reg.LEGn_CFG_PHASE.ctorIdx)) m) : RegIn m (R.LEGn_CFG_PHASE i).key :=
  RegIn.name .LEGn_CFG_PHASE i 0 h

theorem R.LEGn_CFG_BRIDGE_in {m : Nat} {i : Nat} (h : Cov (2 ^ (32 + Reg.LEGn_CFG_BRIDGE.ctorIdx)) m) : RegIn m (R.LEGn_CFG_BRIDGE i).key :=
  RegIn.name .LEGn_CFG_BRIDGE i 0 h

theorem R.LEGn_CFG_SAFE_in {m : Nat} {i : Nat} (h : Cov (2 ^ (32 + Reg.LEGn_CFG_SAFE.ctorIdx)) m) : RegIn m (R.LEGn_CFG_SAFE i).key :=
  RegIn.name .LEGn_CFG_SAFE i 0 h

theorem R.LEGn_CFG_POLICY_in {m : Nat} {i : Nat} (h : Cov (2 ^ (32 + Reg.LEGn_CFG_POLICY.ctorIdx)) m) : RegIn m (R.LEGn_CFG_POLICY i).key :=
  RegIn.name .LEGn_CFG_POLICY i 0 h

theorem R.LEGn_CFG_SENSE_in {m : Nat} {i : Nat} (h : Cov (2 ^ (32 + Reg.LEGn_CFG_SENSE.ctorIdx)) m) : RegIn m (R.LEGn_CFG_SENSE i).key :=
  RegIn.name .LEGn_CFG_SENSE i 0 h

theorem R.LEGn_CFG_ASSIGNED_in {m : Nat} {i : Nat} (h : Cov (2 ^ (32 + Reg.LEGn_CFG_ASSIGNED.ctorIdx)) m) : RegIn m (R.LEGn_CFG_ASSIGNED i).key :=
  RegIn.name .LEGn_CFG_ASSIGNED i 0 h

theorem R.LEGn_DT_RISE_in {m : Nat} {i : Nat} (h : Cov (2 ^ (32 + Reg.LEGn_DT_RISE.ctorIdx)) m) : RegIn m (R.LEGn_DT_RISE i).key :=
  RegIn.name .LEGn_DT_RISE i 0 h

theorem R.LEGn_DT_FALL_in {m : Nat} {i : Nat} (h : Cov (2 ^ (32 + Reg.LEGn_DT_FALL.ctorIdx)) m) : RegIn m (R.LEGn_DT_FALL i).key :=
  RegIn.name .LEGn_DT_FALL i 0 h

theorem R.LEGn_MINP_MIN_in {m : Nat} {i : Nat} (h : Cov (2 ^ (32 + Reg.LEGn_MINP_MIN.ctorIdx)) m) : RegIn m (R.LEGn_MINP_MIN i).key :=
  RegIn.name .LEGn_MINP_MIN i 0 h

theorem R.LEGn_DUTY_DUTY_in {m : Nat} {i : Nat} (h : Cov (2 ^ (32 + Reg.LEGn_DUTY_DUTY.ctorIdx)) m) : RegIn m (R.LEGn_DUTY_DUTY i).key :=
  RegIn.name .LEGn_DUTY_DUTY i 0 h

theorem R.LEGn_PHASE_PHASE_in {m : Nat} {i : Nat} (h : Cov (2 ^ (32 + Reg.LEGn_PHASE_PHASE.ctorIdx)) m) : RegIn m (R.LEGn_PHASE_PHASE i).key :=
  RegIn.name .LEGn_PHASE_PHASE i 0 h

theorem R.LEGn_PERIOD_PERIOD_in {m : Nat} {i : Nat} (h : Cov (2 ^ (32 + Reg.LEGn_PERIOD_PERIOD.ctorIdx)) m) : RegIn m (R.LEGn_PERIOD_PERIOD i).key :=
  RegIn.name .LEGn_PERIOD_PERIOD i 0 h

theorem R.LEGn_DUTY_ACT_DUTY_in {m : Nat} {i : Nat} (h : Cov (2 ^ (32 + Reg.LEGn_DUTY_ACT_DUTY.ctorIdx)) m) : RegIn m (R.LEGn_DUTY_ACT_DUTY i).key :=
  RegIn.name .LEGn_DUTY_ACT_DUTY i 0 h

theorem R.LEGn_PHASE_ACT_PHASE_in {m : Nat} {i : Nat} (h : Cov (2 ^ (32 + Reg.LEGn_PHASE_ACT_PHASE.ctorIdx)) m) : RegIn m (R.LEGn_PHASE_ACT_PHASE i).key :=
  RegIn.name .LEGn_PHASE_ACT_PHASE i 0 h

theorem R.LEGn_PERIOD_ACT_PERIOD_in {m : Nat} {i : Nat} (h : Cov (2 ^ (32 + Reg.LEGn_PERIOD_ACT_PERIOD.ctorIdx)) m) : RegIn m (R.LEGn_PERIOD_ACT_PERIOD i).key :=
  RegIn.name .LEGn_PERIOD_ACT_PERIOD i 0 h

theorem R.LEGn_FORCE_CODE_in {m : Nat} {i : Nat} (h : Cov (2 ^ (32 + Reg.LEGn_FORCE_CODE.ctorIdx)) m) : RegIn m (R.LEGn_FORCE_CODE i).key :=
  RegIn.name .LEGn_FORCE_CODE i 0 h

theorem R.LEGn_STATUS_DRIVE_in {m : Nat} {i : Nat} (h : Cov (2 ^ (32 + Reg.LEGn_STATUS_DRIVE.ctorIdx)) m) : RegIn m (R.LEGn_STATUS_DRIVE i).key :=
  RegIn.name .LEGn_STATUS_DRIVE i 0 h

theorem R.LEGn_STATUS_HELD_in {m : Nat} {i : Nat} (h : Cov (2 ^ (32 + Reg.LEGn_STATUS_HELD.ctorIdx)) m) : RegIn m (R.LEGn_STATUS_HELD i).key :=
  RegIn.name .LEGn_STATUS_HELD i 0 h

theorem R.LEGn_STATUS_PEND_D_in {m : Nat} {i : Nat} (h : Cov (2 ^ (32 + Reg.LEGn_STATUS_PEND_D.ctorIdx)) m) : RegIn m (R.LEGn_STATUS_PEND_D i).key :=
  RegIn.name .LEGn_STATUS_PEND_D i 0 h

theorem R.LEGn_STATUS_PEND_PP_in {m : Nat} {i : Nat} (h : Cov (2 ^ (32 + Reg.LEGn_STATUS_PEND_PP.ctorIdx)) m) : RegIn m (R.LEGn_STATUS_PEND_PP i).key :=
  RegIn.name .LEGn_STATUS_PEND_PP i 0 h

theorem R.LEGn_STATUS_FCODE_in {m : Nat} {i : Nat} (h : Cov (2 ^ (32 + Reg.LEGn_STATUS_FCODE.ctorIdx)) m) : RegIn m (R.LEGn_STATUS_FCODE i).key :=
  RegIn.name .LEGn_STATUS_FCODE i 0 h

theorem R.LEGn_STATUS_FREFUSED_in {m : Nat} {i : Nat} (h : Cov (2 ^ (32 + Reg.LEGn_STATUS_FREFUSED.ctorIdx)) m) : RegIn m (R.LEGn_STATUS_FREFUSED i).key :=
  RegIn.name .LEGn_STATUS_FREFUSED i 0 h

theorem R.LEGn_STATUS_DSAT_in {m : Nat} {i : Nat} (h : Cov (2 ^ (32 + Reg.LEGn_STATUS_DSAT.ctorIdx)) m) : RegIn m (R.LEGn_STATUS_DSAT i).key :=
  RegIn.name .LEGn_STATUS_DSAT i 0 h

theorem R.LEGn_STATUS_RBERR_in {m : Nat} {i : Nat} (h : Cov (2 ^ (32 + Reg.LEGn_STATUS_RBERR.ctorIdx)) m) : RegIn m (R.LEGn_STATUS_RBERR i).key :=
  RegIn.name .LEGn_STATUS_RBERR i 0 h

theorem R.LEGn_STATUS_PCLAMP_in {m : Nat} {i : Nat} (h : Cov (2 ^ (32 + Reg.LEGn_STATUS_PCLAMP.ctorIdx)) m) : RegIn m (R.LEGn_STATUS_PCLAMP i).key :=
  RegIn.name .LEGn_STATUS_PCLAMP i 0 h

theorem R.LEGn_STATUS_RB_GL_in {m : Nat} {i : Nat} (h : Cov (2 ^ (32 + Reg.LEGn_STATUS_RB_GL.ctorIdx)) m) : RegIn m (R.LEGn_STATUS_RB_GL i).key :=
  RegIn.name .LEGn_STATUS_RB_GL i 0 h

theorem R.LEGn_STATUS_RB_GH_in {m : Nat} {i : Nat} (h : Cov (2 ^ (32 + Reg.LEGn_STATUS_RB_GH.ctorIdx)) m) : RegIn m (R.LEGn_STATUS_RB_GH i).key :=
  RegIn.name .LEGn_STATUS_RB_GH i 0 h

theorem R.LEGn_STATUS_GL_in {m : Nat} {i : Nat} (h : Cov (2 ^ (32 + Reg.LEGn_STATUS_GL.ctorIdx)) m) : RegIn m (R.LEGn_STATUS_GL i).key :=
  RegIn.name .LEGn_STATUS_GL i 0 h

theorem R.LEGn_STATUS_GH_in {m : Nat} {i : Nat} (h : Cov (2 ^ (32 + Reg.LEGn_STATUS_GH.ctorIdx)) m) : RegIn m (R.LEGn_STATUS_GH i).key :=
  RegIn.name .LEGn_STATUS_GH i 0 h

theorem R.LEGn_DEBT_D_in {m : Nat} {i : Nat} (h : Cov (2 ^ (32 + Reg.LEGn_DEBT_D.ctorIdx)) m) : RegIn m (R.LEGn_DEBT_D i).key :=
  RegIn.name .LEGn_DEBT_D i 0 h

theorem R.LEGn_DEBTMAX_D_in {m : Nat} {i : Nat} (h : Cov (2 ^ (32 + Reg.LEGn_DEBTMAX_D.ctorIdx)) m) : RegIn m (R.LEGn_DEBTMAX_D i).key :=
  RegIn.name .LEGn_DEBTMAX_D i 0 h

theorem R.LEGn_COUNT_DOWN_in {m : Nat} {i : Nat} (h : Cov (2 ^ (32 + Reg.LEGn_COUNT_DOWN.ctorIdx)) m) : RegIn m (R.LEGn_COUNT_DOWN i).key :=
  RegIn.name .LEGn_COUNT_DOWN i 0 h

theorem R.LEGn_COUNT_C_in {m : Nat} {i : Nat} (h : Cov (2 ^ (32 + Reg.LEGn_COUNT_C.ctorIdx)) m) : RegIn m (R.LEGn_COUNT_C i).key :=
  RegIn.name .LEGn_COUNT_C i 0 h

theorem R.LEGn_RBCFG_SETTLE_in {m : Nat} {i : Nat} (h : Cov (2 ^ (32 + Reg.LEGn_RBCFG_SETTLE.ctorIdx)) m) : RegIn m (R.LEGn_RBCFG_SETTLE i).key :=
  RegIn.name .LEGn_RBCFG_SETTLE i 0 h

theorem R.LEGn_RBCFG_TOL_in {m : Nat} {i : Nat} (h : Cov (2 ^ (32 + Reg.LEGn_RBCFG_TOL.ctorIdx)) m) : RegIn m (R.LEGn_RBCFG_TOL i).key :=
  RegIn.name .LEGn_RBCFG_TOL i 0 h

theorem R.LEGn_CNT_SHORT_in {m : Nat} {i : Nat} (h : Cov (2 ^ (32 + Reg.LEGn_CNT_SHORT.ctorIdx)) m) : RegIn m (R.LEGn_CNT_SHORT i).key :=
  RegIn.name .LEGn_CNT_SHORT i 0 h

theorem R.LEGn_CNT_SUPER_in {m : Nat} {i : Nat} (h : Cov (2 ^ (32 + Reg.LEGn_CNT_SUPER.ctorIdx)) m) : RegIn m (R.LEGn_CNT_SUPER i).key :=
  RegIn.name .LEGn_CNT_SUPER i 0 h

theorem R.BRIDGE_CFG_PRESENT_in {m : Nat} {i : Nat} (h : Cov (2 ^ (32 + Reg.BRIDGE_CFG_PRESENT.ctorIdx)) m) : RegIn m (R.BRIDGE_CFG_PRESENT i).key :=
  RegIn.name .BRIDGE_CFG_PRESENT i 0 h

theorem R.BRIDGE_CFG_ROLE_in {m : Nat} {i : Nat} (h : Cov (2 ^ (32 + Reg.BRIDGE_CFG_ROLE.ctorIdx)) m) : RegIn m (R.BRIDGE_CFG_ROLE i).key :=
  RegIn.name .BRIDGE_CFG_ROLE i 0 h

theorem R.BRIDGE_CFG_NPHASE_in {m : Nat} {i : Nat} (h : Cov (2 ^ (32 + Reg.BRIDGE_CFG_NPHASE.ctorIdx)) m) : RegIn m (R.BRIDGE_CFG_NPHASE i).key :=
  RegIn.name .BRIDGE_CFG_NPHASE i 0 h

theorem R.BRIDGE_CFG_CFORM_in {m : Nat} {i : Nat} (h : Cov (2 ^ (32 + Reg.BRIDGE_CFG_CFORM.ctorIdx)) m) : RegIn m (R.BRIDGE_CFG_CFORM i).key :=
  RegIn.name .BRIDGE_CFG_CFORM i 0 h

theorem R.BRIDGE_CFG_RELOAD_in {m : Nat} {i : Nat} (h : Cov (2 ^ (32 + Reg.BRIDGE_CFG_RELOAD.ctorIdx)) m) : RegIn m (R.BRIDGE_CFG_RELOAD i).key :=
  RegIn.name .BRIDGE_CFG_RELOAD i 0 h

theorem R.BRIDGE_CTRL_SRC_in {m : Nat} {i : Nat} (h : Cov (2 ^ (32 + Reg.BRIDGE_CTRL_SRC.ctorIdx)) m) : RegIn m (R.BRIDGE_CTRL_SRC i).key :=
  RegIn.name .BRIDGE_CTRL_SRC i 0 h

theorem R.BRIDGE_STATUS_SWITCHING_in {m : Nat} {i : Nat} (h : Cov (2 ^ (32 + Reg.BRIDGE_STATUS_SWITCHING.ctorIdx)) m) : RegIn m (R.BRIDGE_STATUS_SWITCHING i).key :=
  RegIn.name .BRIDGE_STATUS_SWITCHING i 0 h

theorem R.BRIDGE_STATUS_HELD_in {m : Nat} {i : Nat} (h : Cov (2 ^ (32 + Reg.BRIDGE_STATUS_HELD.ctorIdx)) m) : RegIn m (R.BRIDGE_STATUS_HELD i).key :=
  RegIn.name .BRIDGE_STATUS_HELD i 0 h

theorem R.BRIDGE_STATUS_FORCED_in {m : Nat} {i : Nat} (h : Cov (2 ^ (32 + Reg.BRIDGE_STATUS_FORCED.ctorIdx)) m) : RegIn m (R.BRIDGE_STATUS_FORCED i).key :=
  RegIn.name .BRIDGE_STATUS_FORCED i 0 h

theorem R.BRIDGE_STATUS_HOSTW_in {m : Nat} {i : Nat} (h : Cov (2 ^ (32 + Reg.BRIDGE_STATUS_HOSTW.ctorIdx)) m) : RegIn m (R.BRIDGE_STATUS_HOSTW i).key :=
  RegIn.name .BRIDGE_STATUS_HOSTW i 0 h

theorem R.SN_STATUS_RUN_in {m : Nat} (h : Cov (2 ^ (32 + Reg.SN_STATUS_RUN.ctorIdx)) m) : RegIn m R.SN_STATUS_RUN.key :=
  RegIn.name .SN_STATUS_RUN 0 0 h

theorem R.SN_STATUS_GRPEN_in {m : Nat} (h : Cov (2 ^ (32 + Reg.SN_STATUS_GRPEN.ctorIdx)) m) : RegIn m R.SN_STATUS_GRPEN.key :=
  RegIn.name .SN_STATUS_GRPEN 0 0 h

theorem R.SN_STATUS_BANKEN_in {m : Nat} (h : Cov (2 ^ (32 + Reg.SN_STATUS_BANKEN.ctorIdx)) m) : RegIn m R.SN_STATUS_BANKEN.key :=
  RegIn.name .SN_STATUS_BANKEN 0 0 h

theorem R.SN_CAL_FAILED_in {m : Nat} (h : Cov (2 ^ (32 + Reg.SN_CAL_FAILED.ctorIdx)) m) : RegIn m R.SN_CAL_FAILED.key :=
  RegIn.name .SN_CAL_FAILED 0 0 h

theorem R.SN_CAL_PHASE_in {m : Nat} (h : Cov (2 ^ (32 + Reg.SN_CAL_PHASE.ctorIdx)) m) : RegIn m R.SN_CAL_PHASE.key :=
  RegIn.name .SN_CAL_PHASE 0 0 h

theorem R.SN_CAL_FSLICE_in {m : Nat} (h : Cov (2 ^ (32 + Reg.SN_CAL_FSLICE.ctorIdx)) m) : RegIn m R.SN_CAL_FSLICE.key :=
  RegIn.name .SN_CAL_FSLICE 0 0 h

theorem R.SN_CAL_STEP_in {m : Nat} (h : Cov (2 ^ (32 + Reg.SN_CAL_STEP.ctorIdx)) m) : RegIn m R.SN_CAL_STEP.key :=
  RegIn.name .SN_CAL_STEP 0 0 h

theorem R.SN_CAL_ROT_in {m : Nat} (h : Cov (2 ^ (32 + Reg.SN_CAL_ROT.ctorIdx)) m) : RegIn m R.SN_CAL_ROT.key :=
  RegIn.name .SN_CAL_ROT 0 0 h

theorem R.SN_SNAPSTAT_DONE_in {m : Nat} (h : Cov (2 ^ (32 + Reg.SN_SNAPSTAT_DONE.ctorIdx)) m) : RegIn m R.SN_SNAPSTAT_DONE.key :=
  RegIn.name .SN_SNAPSTAT_DONE 0 0 h

theorem R.SN_SNAPSTAT_DROP_in {m : Nat} (h : Cov (2 ^ (32 + Reg.SN_SNAPSTAT_DROP.ctorIdx)) m) : RegIn m R.SN_SNAPSTAT_DROP.key :=
  RegIn.name .SN_SNAPSTAT_DROP 0 0 h

theorem R.SN_SNAPSTAT_PEND_in {m : Nat} (h : Cov (2 ^ (32 + Reg.SN_SNAPSTAT_PEND.ctorIdx)) m) : RegIn m R.SN_SNAPSTAT_PEND.key :=
  RegIn.name .SN_SNAPSTAT_PEND 0 0 h

theorem R.SN_ORm_CH_in {m : Nat} {i : Nat} (h : Cov (2 ^ (32 + Reg.SN_ORm_CH.ctorIdx)) m) : RegIn m (R.SN_ORm_CH i).key :=
  RegIn.name .SN_ORm_CH i 0 h

theorem R.SN_LOSTm_CH_in {m : Nat} {i : Nat} (h : Cov (2 ^ (32 + Reg.SN_LOSTm_CH.ctorIdx)) m) : RegIn m (R.SN_LOSTm_CH i).key :=
  RegIn.name .SN_LOSTm_CH i 0 h

theorem R.SN_BANKb_PM_in {m : Nat} {i : Nat} (h : Cov (2 ^ (32 + Reg.SN_BANKb_PM.ctorIdx)) m) : RegIn m (R.SN_BANKb_PM i).key :=
  RegIn.name .SN_BANKb_PM i 0 h

theorem R.SN_BANKb_FORM_in {m : Nat} {i : Nat} (h : Cov (2 ^ (32 + Reg.SN_BANKb_FORM.ctorIdx)) m) : RegIn m (R.SN_BANKb_FORM i).key :=
  RegIn.name .SN_BANKb_FORM i 0 h

theorem R.SN_BANKb_SDLEV_in {m : Nat} {i : Nat} (h : Cov (2 ^ (32 + Reg.SN_BANKb_SDLEV.ctorIdx)) m) : RegIn m (R.SN_BANKb_SDLEV i).key :=
  RegIn.name .SN_BANKb_SDLEV i 0 h

theorem R.SN_BANKb_CLKADJ_in {m : Nat} {i : Nat} (h : Cov (2 ^ (32 + Reg.SN_BANKb_CLKADJ.ctorIdx)) m) : RegIn m (R.SN_BANKb_CLKADJ i).key :=
  RegIn.name .SN_BANKb_CLKADJ i 0 h

theorem R.SN_BANKb_SDLY_in {m : Nat} {i : Nat} (h : Cov (2 ^ (32 + Reg.SN_BANKb_SDLY.ctorIdx)) m) : RegIn m (R.SN_BANKb_SDLY i).key :=
  RegIn.name .SN_BANKb_SDLY i 0 h

theorem R.SN_GRPg_EN_in {m : Nat} {i : Nat} (h : Cov (2 ^ (32 + Reg.SN_GRPg_EN.ctorIdx)) m) : RegIn m (R.SN_GRPg_EN i).key :=
  RegIn.name .SN_GRPg_EN i 0 h

theorem R.SN_GRPg_PS_in {m : Nat} {i : Nat} (h : Cov (2 ^ (32 + Reg.SN_GRPg_PS.ctorIdx)) m) : RegIn m (R.SN_GRPg_PS i).key :=
  RegIn.name .SN_GRPg_PS i 0 h

theorem R.SN_CHc_CODE_CODE_in {m : Nat} {i : Nat} (h : Cov (2 ^ (32 + Reg.SN_CHc_CODE_CODE.ctorIdx)) m) : RegIn m (R.SN_CHc_CODE_CODE i).key :=
  RegIn.name .SN_CHc_CODE_CODE i 0 h

theorem R.SN_CHc_STAT_STAT_in {m : Nat} {i : Nat} (h : Cov (2 ^ (32 + Reg.SN_CHc_STAT_STAT.ctorIdx)) m) : RegIn m (R.SN_CHc_STAT_STAT i).key :=
  RegIn.name .SN_CHc_STAT_STAT i 0 h

theorem R.DEC_PATHp_CFG_DEFINED_in {m : Nat} {i : Nat} (h : Cov (2 ^ (32 + Reg.DEC_PATHp_CFG_DEFINED.ctorIdx)) m) : RegIn m (R.DEC_PATHp_CFG_DEFINED i).key :=
  RegIn.name .DEC_PATHp_CFG_DEFINED i 0 h

theorem R.DEC_PATHp_CFG_K_in {m : Nat} {i : Nat} (h : Cov (2 ^ (32 + Reg.DEC_PATHp_CFG_K.ctorIdx)) m) : RegIn m (R.DEC_PATHp_CFG_K i).key :=
  RegIn.name .DEC_PATHp_CFG_K i 0 h

theorem R.DEC_PATHp_CFG_DLOG_in {m : Nat} {i : Nat} (h : Cov (2 ^ (32 + Reg.DEC_PATHp_CFG_DLOG.ctorIdx)) m) : RegIn m (R.DEC_PATHp_CFG_DLOG i).key :=
  RegIn.name .DEC_PATHp_CFG_DLOG i 0 h

theorem R.DEC_PATHp_CFG_R_in {m : Nat} {i : Nat} (h : Cov (2 ^ (32 + Reg.DEC_PATHp_CFG_R.ctorIdx)) m) : RegIn m (R.DEC_PATHp_CFG_R i).key :=
  RegIn.name .DEC_PATHp_CFG_R i 0 h

theorem R.DEC_PATHp_CFG_SRC_in {m : Nat} {i : Nat} (h : Cov (2 ^ (32 + Reg.DEC_PATHp_CFG_SRC.ctorIdx)) m) : RegIn m (R.DEC_PATHp_CFG_SRC i).key :=
  RegIn.name .DEC_PATHp_CFG_SRC i 0 h

theorem R.DEC_PATHp_BANK_FADING_in {m : Nat} {i : Nat} (h : Cov (2 ^ (32 + Reg.DEC_PATHp_BANK_FADING.ctorIdx)) m) : RegIn m (R.DEC_PATHp_BANK_FADING i).key :=
  RegIn.name .DEC_PATHp_BANK_FADING i 0 h

theorem R.DEC_PATHp_BANK_HELD_in {m : Nat} {i : Nat} (h : Cov (2 ^ (32 + Reg.DEC_PATHp_BANK_HELD.ctorIdx)) m) : RegIn m (R.DEC_PATHp_BANK_HELD i).key :=
  RegIn.name .DEC_PATHp_BANK_HELD i 0 h

theorem R.DEC_PATHp_BANK_HBANK_in {m : Nat} {i : Nat} (h : Cov (2 ^ (32 + Reg.DEC_PATHp_BANK_HBANK.ctorIdx)) m) : RegIn m (R.DEC_PATHp_BANK_HBANK i).key :=
  RegIn.name .DEC_PATHp_BANK_HBANK i 0 h

theorem R.DEC_PATHp_BANK_TBANK_in {m : Nat} {i : Nat} (h : Cov (2 ^ (32 + Reg.DEC_PATHp_BANK_TBANK.ctorIdx)) m) : RegIn m (R.DEC_PATHp_BANK_TBANK i).key :=
  RegIn.name .DEC_PATHp_BANK_TBANK i 0 h

theorem R.DEC_PATHp_BANK_ABANK_in {m : Nat} {i : Nat} (h : Cov (2 ^ (32 + Reg.DEC_PATHp_BANK_ABANK.ctorIdx)) m) : RegIn m (R.DEC_PATHp_BANK_ABANK i).key :=
  RegIn.name .DEC_PATHp_BANK_ABANK i 0 h

theorem R.DEC_PATHp_BANK_ARESP_in {m : Nat} {i : Nat} (h : Cov (2 ^ (32 + Reg.DEC_PATHp_BANK_ARESP.ctorIdx)) m) : RegIn m (R.DEC_PATHp_BANK_ARESP i).key :=
  RegIn.name .DEC_PATHp_BANK_ARESP i 0 h

theorem R.DEC_PATHp_BANK_XFLEFT_in {m : Nat} {i : Nat} (h : Cov (2 ^ (32 + Reg.DEC_PATHp_BANK_XFLEFT.ctorIdx)) m) : RegIn m (R.DEC_PATHp_BANK_XFLEFT i).key :=
  RegIn.name .DEC_PATHp_BANK_XFLEFT i 0 h

theorem R.DEC_PATHp_DLY_UNITS_in {m : Nat} {i : Nat} (h : Cov (2 ^ (32 + Reg.DEC_PATHp_DLY_UNITS.ctorIdx)) m) : RegIn m (R.DEC_PATHp_DLY_UNITS i).key :=
  RegIn.name .DEC_PATHp_DLY_UNITS i 0 h

theorem R.DEC_RSr_CFG_DEFINED_in {m : Nat} {i : Nat} (h : Cov (2 ^ (32 + Reg.DEC_RSr_CFG_DEFINED.ctorIdx)) m) : RegIn m (R.DEC_RSr_CFG_DEFINED i).key :=
  RegIn.name .DEC_RSr_CFG_DEFINED i 0 h

theorem R.DEC_RSr_CFG_LOCK_in {m : Nat} {i : Nat} (h : Cov (2 ^ (32 + Reg.DEC_RSr_CFG_LOCK.ctorIdx)) m) : RegIn m (R.DEC_RSr_CFG_LOCK i).key :=
  RegIn.name .DEC_RSr_CFG_LOCK i 0 h

theorem R.DEC_RSr_CFG_BRIDGE_in {m : Nat} {i : Nat} (h : Cov (2 ^ (32 + Reg.DEC_RSr_CFG_BRIDGE.ctorIdx)) m) : RegIn m (R.DEC_RSr_CFG_BRIDGE i).key :=
  RegIn.name .DEC_RSr_CFG_BRIDGE i 0 h

theorem R.DEC_RSr_CFG_LOGN_in {m : Nat} {i : Nat} (h : Cov (2 ^ (32 + Reg.DEC_RSr_CFG_LOGN.ctorIdx)) m) : RegIn m (R.DEC_RSr_CFG_LOGN i).key :=
  RegIn.name .DEC_RSr_CFG_LOGN i 0 h

theorem R.DEC_RSr_CFG_CYC_in {m : Nat} {i : Nat} (h : Cov (2 ^ (32 + Reg.DEC_RSr_CFG_CYC.ctorIdx)) m) : RegIn m (R.DEC_RSr_CFG_CYC i).key :=
  RegIn.name .DEC_RSr_CFG_CYC i 0 h

theorem R.DEC_RSr_CFG_SRC_in {m : Nat} {i : Nat} (h : Cov (2 ^ (32 + Reg.DEC_RSr_CFG_SRC.ctorIdx)) m) : RegIn m (R.DEC_RSr_CFG_SRC i).key :=
  RegIn.name .DEC_RSr_CFG_SRC i 0 h

theorem R.DEC_RSr_IDX_RUN_in {m : Nat} {i : Nat} (h : Cov (2 ^ (32 + Reg.DEC_RSr_IDX_RUN.ctorIdx)) m) : RegIn m (R.DEC_RSr_IDX_RUN i).key :=
  RegIn.name .DEC_RSr_IDX_RUN i 0 h

theorem R.DEC_RSr_IDX_J_in {m : Nat} {i : Nat} (h : Cov (2 ^ (32 + Reg.DEC_RSr_IDX_J.ctorIdx)) m) : RegIn m (R.DEC_RSr_IDX_J i).key :=
  RegIn.name .DEC_RSr_IDX_J i 0 h

theorem R.DEC_RSr_CNT_OUT_in {m : Nat} {i : Nat} (h : Cov (2 ^ (32 + Reg.DEC_RSr_CNT_OUT.ctorIdx)) m) : RegIn m (R.DEC_RSr_CNT_OUT i).key :=
  RegIn.name .DEC_RSr_CNT_OUT i 0 h

theorem R.DEC_RSr_CNT_LATE_in {m : Nat} {i : Nat} (h : Cov (2 ^ (32 + Reg.DEC_RSr_CNT_LATE.ctorIdx)) m) : RegIn m (R.DEC_RSr_CNT_LATE i).key :=
  RegIn.name .DEC_RSr_CNT_LATE i 0 h

theorem R.FAB_STATUS_RUN_in {m : Nat} (h : Cov (2 ^ (32 + Reg.FAB_STATUS_RUN.ctorIdx)) m) : RegIn m R.FAB_STATUS_RUN.key :=
  RegIn.name .FAB_STATUS_RUN 0 0 h

theorem R.FAB_STATUS_FAULT_in {m : Nat} (h : Cov (2 ^ (32 + Reg.FAB_STATUS_FAULT.ctorIdx)) m) : RegIn m R.FAB_STATUS_FAULT.key :=
  RegIn.name .FAB_STATUS_FAULT 0 0 h

theorem R.FAB_STATUS_FTILE_in {m : Nat} (h : Cov (2 ^ (32 + Reg.FAB_STATUS_FTILE.ctorIdx)) m) : RegIn m R.FAB_STATUS_FTILE.key :=
  RegIn.name .FAB_STATUS_FTILE 0 0 h

theorem R.FAB_STATUS_SLOT_in {m : Nat} (h : Cov (2 ^ (32 + Reg.FAB_STATUS_SLOT.ctorIdx)) m) : RegIn m R.FAB_STATUS_SLOT.key :=
  RegIn.name .FAB_STATUS_SLOT 0 0 h

theorem R.FAB_STATUS_ACTIVE_in {m : Nat} (h : Cov (2 ^ (32 + Reg.FAB_STATUS_ACTIVE.ctorIdx)) m) : RegIn m R.FAB_STATUS_ACTIVE.key :=
  RegIn.name .FAB_STATUS_ACTIVE 0 0 h

theorem R.FAB_STATUS_USED_in {m : Nat} (h : Cov (2 ^ (32 + Reg.FAB_STATUS_USED.ctorIdx)) m) : RegIn m R.FAB_STATUS_USED.key :=
  RegIn.name .FAB_STATUS_USED 0 0 h

theorem R.FAB_CFG_G3_in {m : Nat} (h : Cov (2 ^ (32 + Reg.FAB_CFG_G3.ctorIdx)) m) : RegIn m R.FAB_CFG_G3.key :=
  RegIn.name .FAB_CFG_G3 0 0 h

theorem R.FAB_CFG_G2_in {m : Nat} (h : Cov (2 ^ (32 + Reg.FAB_CFG_G2.ctorIdx)) m) : RegIn m R.FAB_CFG_G2.key :=
  RegIn.name .FAB_CFG_G2 0 0 h

theorem R.FAB_CFG_G1_in {m : Nat} (h : Cov (2 ^ (32 + Reg.FAB_CFG_G1.ctorIdx)) m) : RegIn m R.FAB_CFG_G1.key :=
  RegIn.name .FAB_CFG_G1 0 0 h

theorem R.FAB_CFG_G0_in {m : Nat} (h : Cov (2 ^ (32 + Reg.FAB_CFG_G0.ctorIdx)) m) : RegIn m R.FAB_CFG_G0.key :=
  RegIn.name .FAB_CFG_G0 0 0 h

theorem R.FAB_CFG_FRATE_in {m : Nat} (h : Cov (2 ^ (32 + Reg.FAB_CFG_FRATE.ctorIdx)) m) : RegIn m R.FAB_CFG_FRATE.key :=
  RegIn.name .FAB_CFG_FRATE 0 0 h

theorem R.FAB_SNAP_FROZEN_in {m : Nat} (h : Cov (2 ^ (32 + Reg.FAB_SNAP_FROZEN.ctorIdx)) m) : RegIn m R.FAB_SNAP_FROZEN.key :=
  RegIn.name .FAB_SNAP_FROZEN 0 0 h

theorem R.FAB_SNAP_FREEZE_in {m : Nat} (h : Cov (2 ^ (32 + Reg.FAB_SNAP_FREEZE.ctorIdx)) m) : RegIn m R.FAB_SNAP_FREEZE.key :=
  RegIn.name .FAB_SNAP_FREEZE 0 0 h

theorem R.FAB_NAN_INF_in {m : Nat} (h : Cov (2 ^ (32 + Reg.FAB_NAN_INF.ctorIdx)) m) : RegIn m R.FAB_NAN_INF.key :=
  RegIn.name .FAB_NAN_INF 0 0 h

theorem R.FAB_NAN_NAN_in {m : Nat} (h : Cov (2 ^ (32 + Reg.FAB_NAN_NAN.ctorIdx)) m) : RegIn m R.FAB_NAN_NAN.key :=
  RegIn.name .FAB_NAN_NAN 0 0 h

theorem R.FAB_FRAME_LO_K_in {m : Nat} (h : Cov (2 ^ (32 + Reg.FAB_FRAME_LO_K.ctorIdx)) m) : RegIn m R.FAB_FRAME_LO_K.key :=
  RegIn.name .FAB_FRAME_LO_K 0 0 h

theorem R.FAB_FRAME_HI_K_in {m : Nat} (h : Cov (2 ^ (32 + Reg.FAB_FRAME_HI_K.ctorIdx)) m) : RegIn m R.FAB_FRAME_HI_K.key :=
  RegIn.name .FAB_FRAME_HI_K 0 0 h

theorem R.FAB_HASH_LO_H_in {m : Nat} (h : Cov (2 ^ (32 + Reg.FAB_HASH_LO_H.ctorIdx)) m) : RegIn m R.FAB_HASH_LO_H.key :=
  RegIn.name .FAB_HASH_LO_H 0 0 h

theorem R.FAB_HASH_HI_H_in {m : Nat} (h : Cov (2 ^ (32 + Reg.FAB_HASH_HI_H.ctorIdx)) m) : RegIn m R.FAB_HASH_HI_H.key :=
  RegIn.name .FAB_HASH_HI_H 0 0 h

theorem R.FAB_SNAPK_LO_K_in {m : Nat} (h : Cov (2 ^ (32 + Reg.FAB_SNAPK_LO_K.ctorIdx)) m) : RegIn m R.FAB_SNAPK_LO_K.key :=
  RegIn.name .FAB_SNAPK_LO_K 0 0 h

theorem R.FAB_SNAPK_HI_K_in {m : Nat} (h : Cov (2 ^ (32 + Reg.FAB_SNAPK_HI_K.ctorIdx)) m) : RegIn m R.FAB_SNAPK_HI_K.key :=
  RegIn.name .FAB_SNAPK_HI_K 0 0 h

theorem R.FAB_FAULTK_LO_K_in {m : Nat} (h : Cov (2 ^ (32 + Reg.FAB_FAULTK_LO_K.ctorIdx)) m) : RegIn m R.FAB_FAULTK_LO_K.key :=
  RegIn.name .FAB_FAULTK_LO_K 0 0 h

theorem R.FAB_FAULTK_HI_K_in {m : Nat} (h : Cov (2 ^ (32 + Reg.FAB_FAULTK_HI_K.ctorIdx)) m) : RegIn m R.FAB_FAULTK_HI_K.key :=
  RegIn.name .FAB_FAULTK_HI_K 0 0 h

theorem R.FAB_TILEt_STATIC_CYC_in {m : Nat} {i : Nat} (h : Cov (2 ^ (32 + Reg.FAB_TILEt_STATIC_CYC.ctorIdx)) m) : RegIn m (R.FAB_TILEt_STATIC_CYC i).key :=
  RegIn.name .FAB_TILEt_STATIC_CYC i 0 h

theorem R.FAB_TILEt_PEAK_CYC_in {m : Nat} {i : Nat} (h : Cov (2 ^ (32 + Reg.FAB_TILEt_PEAK_CYC.ctorIdx)) m) : RegIn m (R.FAB_TILEt_PEAK_CYC i).key :=
  RegIn.name .FAB_TILEt_PEAK_CYC i 0 h

theorem R.SO_STATUS_RUN_in {m : Nat} (h : Cov (2 ^ (32 + Reg.SO_STATUS_RUN.ctorIdx)) m) : RegIn m R.SO_STATUS_RUN.key :=
  RegIn.name .SO_STATUS_RUN 0 0 h

theorem R.SO_STATUS_INFLIGHT_in {m : Nat} (h : Cov (2 ^ (32 + Reg.SO_STATUS_INFLIGHT.ctorIdx)) m) : RegIn m R.SO_STATUS_INFLIGHT.key :=
  RegIn.name .SO_STATUS_INFLIGHT 0 0 h

theorem R.SO_STATUS_SWUSE_in {m : Nat} (h : Cov (2 ^ (32 + Reg.SO_STATUS_SWUSE.ctorIdx)) m) : RegIn m R.SO_STATUS_SWUSE.key :=
  RegIn.name .SO_STATUS_SWUSE 0 0 h

theorem R.SO_LEDSTAT_FULL_in {m : Nat} (h : Cov (2 ^ (32 + Reg.SO_LEDSTAT_FULL.ctorIdx)) m) : RegIn m R.SO_LEDSTAT_FULL.key :=
  RegIn.name .SO_LEDSTAT_FULL 0 0 h

theorem R.SO_LEDSTAT_WRAPPED_in {m : Nat} (h : Cov (2 ^ (32 + Reg.SO_LEDSTAT_WRAPPED.ctorIdx)) m) : RegIn m R.SO_LEDSTAT_WRAPPED.key :=
  RegIn.name .SO_LEDSTAT_WRAPPED 0 0 h

theorem R.SO_LEDSTAT_LOST_in {m : Nat} (h : Cov (2 ^ (32 + Reg.SO_LEDSTAT_LOST.ctorIdx)) m) : RegIn m R.SO_LEDSTAT_LOST.key :=
  RegIn.name .SO_LEDSTAT_LOST 0 0 h

theorem R.SO_LEDPTR_NEXT_in {m : Nat} (h : Cov (2 ^ (32 + Reg.SO_LEDPTR_NEXT.ctorIdx)) m) : RegIn m R.SO_LEDPTR_NEXT.key :=
  RegIn.name .SO_LEDPTR_NEXT 0 0 h

theorem R.SO_DROP_HW_in {m : Nat} (h : Cov (2 ^ (32 + Reg.SO_DROP_HW.ctorIdx)) m) : RegIn m R.SO_DROP_HW.key :=
  RegIn.name .SO_DROP_HW 0 0 h

theorem R.SO_DROP_DL_in {m : Nat} (h : Cov (2 ^ (32 + Reg.SO_DROP_DL.ctorIdx)) m) : RegIn m R.SO_DROP_DL.key :=
  RegIn.name .SO_DROP_DL 0 0 h

theorem R.SO_RESULT_CODE_in {m : Nat} {i : Nat} (h : Cov (2 ^ (32 + Reg.SO_RESULT_CODE.ctorIdx)) m) : RegIn m (R.SO_RESULT_CODE i).key :=
  RegIn.name .SO_RESULT_CODE i 0 h

theorem R.SO_RESULT_ID_in {m : Nat} {i : Nat} (h : Cov (2 ^ (32 + Reg.SO_RESULT_ID.ctorIdx)) m) : RegIn m (R.SO_RESULT_ID i).key :=
  RegIn.name .SO_RESULT_ID i 0 h

theorem R.SO_TRAY_LO_FRAC_in {m : Nat} {i : Nat} (h : Cov (2 ^ (32 + Reg.SO_TRAY_LO_FRAC.ctorIdx)) m) : RegIn m (R.SO_TRAY_LO_FRAC i).key :=
  RegIn.name .SO_TRAY_LO_FRAC i 0 h

theorem R.SO_TRAY_HI_SEC_in {m : Nat} {i : Nat} (h : Cov (2 ^ (32 + Reg.SO_TRAY_HI_SEC.ctorIdx)) m) : RegIn m (R.SO_TRAY_HI_SEC i).key :=
  RegIn.name .SO_TRAY_HI_SEC i 0 h

theorem R.SO_CANRES_RES_in {m : Nat} {i : Nat} (h : Cov (2 ^ (32 + Reg.SO_CANRES_RES.ctorIdx)) m) : RegIn m (R.SO_CANRES_RES i).key :=
  RegIn.name .SO_CANRES_RES i 0 h

theorem R.SO_CUR_BUSY_in {m : Nat} {i : Nat} (h : Cov (2 ^ (32 + Reg.SO_CUR_BUSY.ctorIdx)) m) : RegIn m (R.SO_CUR_BUSY i).key :=
  RegIn.name .SO_CUR_BUSY i 0 h

theorem R.SO_CUR_ID_in {m : Nat} {i : Nat} (h : Cov (2 ^ (32 + Reg.SO_CUR_ID.ctorIdx)) m) : RegIn m (R.SO_CUR_ID i).key :=
  RegIn.name .SO_CUR_ID i 0 h

theorem R.SO_COREc_BUSY_in {m : Nat} {i : Nat} (h : Cov (2 ^ (32 + Reg.SO_COREc_BUSY.ctorIdx)) m) : RegIn m (R.SO_COREc_BUSY i).key :=
  RegIn.name .SO_COREc_BUSY i 0 h

theorem R.SO_COREc_NOFLOW_in {m : Nat} {i : Nat} (h : Cov (2 ^ (32 + Reg.SO_COREc_NOFLOW.ctorIdx)) m) : RegIn m (R.SO_COREc_NOFLOW i).key :=
  RegIn.name .SO_COREc_NOFLOW i 0 h

theorem R.SO_COREc_FLOW_in {m : Nat} {i : Nat} (h : Cov (2 ^ (32 + Reg.SO_COREc_FLOW.ctorIdx)) m) : RegIn m (R.SO_COREc_FLOW i).key :=
  RegIn.name .SO_COREc_FLOW i 0 h

theorem R.SO_COREc_ID_in {m : Nat} {i : Nat} (h : Cov (2 ^ (32 + Reg.SO_COREc_ID.ctorIdx)) m) : RegIn m (R.SO_COREc_ID i).key :=
  RegIn.name .SO_COREc_ID i 0 h

theorem R.SO_PHp_PRIO_in {m : Nat} {i : Nat} (h : Cov (2 ^ (32 + Reg.SO_PHp_PRIO.ctorIdx)) m) : RegIn m (R.SO_PHp_PRIO i).key :=
  RegIn.name .SO_PHp_PRIO i 0 h

theorem R.SO_PHp_CORES_in {m : Nat} {i : Nat} (h : Cov (2 ^ (32 + Reg.SO_PHp_CORES.ctorIdx)) m) : RegIn m (R.SO_PHp_CORES i).key :=
  RegIn.name .SO_PHp_CORES i 0 h

theorem R.SO_PHp_LIMIT_in {m : Nat} {i : Nat} (h : Cov (2 ^ (32 + Reg.SO_PHp_LIMIT.ctorIdx)) m) : RegIn m (R.SO_PHp_LIMIT i).key :=
  RegIn.name .SO_PHp_LIMIT i 0 h

theorem R.SO_PHp_COUNT_in {m : Nat} {i : Nat} (h : Cov (2 ^ (32 + Reg.SO_PHp_COUNT.ctorIdx)) m) : RegIn m (R.SO_PHp_COUNT i).key :=
  RegIn.name .SO_PHp_COUNT i 0 h

theorem R.SO_TRAYt_COUNT_in {m : Nat} {i : Nat} (h : Cov (2 ^ (32 + Reg.SO_TRAYt_COUNT.ctorIdx)) m) : RegIn m (R.SO_TRAYt_COUNT i).key :=
  RegIn.name .SO_TRAYt_COUNT i 0 h

theorem R.CAP_STATUS_ARMED_in {m : Nat} (h : Cov (2 ^ (32 + Reg.CAP_STATUS_ARMED.ctorIdx)) m) : RegIn m R.CAP_STATUS_ARMED.key :=
  RegIn.name .CAP_STATUS_ARMED 0 0 h

theorem R.CAP_STATUS_DONE_in {m : Nat} (h : Cov (2 ^ (32 + Reg.CAP_STATUS_DONE.ctorIdx)) m) : RegIn m R.CAP_STATUS_DONE.key :=
  RegIn.name .CAP_STATUS_DONE 0 0 h

theorem R.CAP_FRCFG_HOLD_in {m : Nat} (h : Cov (2 ^ (32 + Reg.CAP_FRCFG_HOLD.ctorIdx)) m) : RegIn m R.CAP_FRCFG_HOLD.key :=
  RegIn.name .CAP_FRCFG_HOLD 0 0 h

theorem R.CAP_FRCFG_AUTOHOLD_in {m : Nat} (h : Cov (2 ^ (32 + Reg.CAP_FRCFG_AUTOHOLD.ctorIdx)) m) : RegIn m R.CAP_FRCFG_AUTOHOLD.key :=
  RegIn.name .CAP_FRCFG_AUTOHOLD 0 0 h

theorem R.CAP_FRCFG_EXT_in {m : Nat} (h : Cov (2 ^ (32 + Reg.CAP_FRCFG_EXT.ctorIdx)) m) : RegIn m R.CAP_FRCFG_EXT.key :=
  RegIn.name .CAP_FRCFG_EXT 0 0 h

theorem R.CAP_FRCFG_CKPLOG_in {m : Nat} (h : Cov (2 ^ (32 + Reg.CAP_FRCFG_CKPLOG.ctorIdx)) m) : RegIn m R.CAP_FRCFG_CKPLOG.key :=
  RegIn.name .CAP_FRCFG_CKPLOG 0 0 h

theorem R.CAP_FRCFG_POSTFR_in {m : Nat} (h : Cov (2 ^ (32 + Reg.CAP_FRCFG_POSTFR.ctorIdx)) m) : RegIn m R.CAP_FRCFG_POSTFR.key :=
  RegIn.name .CAP_FRCFG_POSTFR 0 0 h

theorem R.CAP_FRSTAT_REC_in {m : Nat} (h : Cov (2 ^ (32 + Reg.CAP_FRSTAT_REC.ctorIdx)) m) : RegIn m R.CAP_FRSTAT_REC.key :=
  RegIn.name .CAP_FRSTAT_REC 0 0 h

theorem R.CAP_FRSTAT_HCAUSE_in {m : Nat} (h : Cov (2 ^ (32 + Reg.CAP_FRSTAT_HCAUSE.ctorIdx)) m) : RegIn m R.CAP_FRSTAT_HCAUSE.key :=
  RegIn.name .CAP_FRSTAT_HCAUSE 0 0 h

theorem R.CAP_FRSTAT_GAPS_in {m : Nat} (h : Cov (2 ^ (32 + Reg.CAP_FRSTAT_GAPS.ctorIdx)) m) : RegIn m R.CAP_FRSTAT_GAPS.key :=
  RegIn.name .CAP_FRSTAT_GAPS 0 0 h

theorem R.CAP_FRPTR_OFS_in {m : Nat} (h : Cov (2 ^ (32 + Reg.CAP_FRPTR_OFS.ctorIdx)) m) : RegIn m R.CAP_FRPTR_OFS.key :=
  RegIn.name .CAP_FRPTR_OFS 0 0 h

theorem R.CAP_FROLDK_LO_K_in {m : Nat} (h : Cov (2 ^ (32 + Reg.CAP_FROLDK_LO_K.ctorIdx)) m) : RegIn m R.CAP_FROLDK_LO_K.key :=
  RegIn.name .CAP_FROLDK_LO_K 0 0 h

theorem R.CAP_FROLDK_HI_K_in {m : Nat} (h : Cov (2 ^ (32 + Reg.CAP_FROLDK_HI_K.ctorIdx)) m) : RegIn m R.CAP_FROLDK_HI_K.key :=
  RegIn.name .CAP_FROLDK_HI_K 0 0 h

theorem R.CAP_FRNEWK_LO_K_in {m : Nat} (h : Cov (2 ^ (32 + Reg.CAP_FRNEWK_LO_K.ctorIdx)) m) : RegIn m R.CAP_FRNEWK_LO_K.key :=
  RegIn.name .CAP_FRNEWK_LO_K 0 0 h

theorem R.CAP_FRNEWK_HI_K_in {m : Nat} (h : Cov (2 ^ (32 + Reg.CAP_FRNEWK_HI_K.ctorIdx)) m) : RegIn m R.CAP_FRNEWK_HI_K.key :=
  RegIn.name .CAP_FRNEWK_HI_K 0 0 h

theorem R.CAP_RPSTAT_STATE_in {m : Nat} (h : Cov (2 ^ (32 + Reg.CAP_RPSTAT_STATE.ctorIdx)) m) : RegIn m R.CAP_RPSTAT_STATE.key :=
  RegIn.name .CAP_RPSTAT_STATE 0 0 h

theorem R.CAP_RPSTAT_REASON_in {m : Nat} (h : Cov (2 ^ (32 + Reg.CAP_RPSTAT_REASON.ctorIdx)) m) : RegIn m R.CAP_RPSTAT_REASON.key :=
  RegIn.name .CAP_RPSTAT_REASON 0 0 h

theorem R.CAP_RPSTAT_SKIPS_in {m : Nat} (h : Cov (2 ^ (32 + Reg.CAP_RPSTAT_SKIPS.ctorIdx)) m) : RegIn m R.CAP_RPSTAT_SKIPS.key :=
  RegIn.name .CAP_RPSTAT_SKIPS 0 0 h

theorem R.CAP_RPDIV_SLOT_in {m : Nat} (h : Cov (2 ^ (32 + Reg.CAP_RPDIV_SLOT.ctorIdx)) m) : RegIn m R.CAP_RPDIV_SLOT.key :=
  RegIn.name .CAP_RPDIV_SLOT 0 0 h

theorem R.CAP_RPDIV_NDIV_in {m : Nat} (h : Cov (2 ^ (32 + Reg.CAP_RPDIV_NDIV.ctorIdx)) m) : RegIn m R.CAP_RPDIV_NDIV.key :=
  RegIn.name .CAP_RPDIV_NDIV 0 0 h

theorem R.CAP_RPSTART_LO_W_in {m : Nat} (h : Cov (2 ^ (32 + Reg.CAP_RPSTART_LO_W.ctorIdx)) m) : RegIn m R.CAP_RPSTART_LO_W.key :=
  RegIn.name .CAP_RPSTART_LO_W 0 0 h

theorem R.CAP_RPSTART_HI_W_in {m : Nat} (h : Cov (2 ^ (32 + Reg.CAP_RPSTART_HI_W.ctorIdx)) m) : RegIn m R.CAP_RPSTART_HI_W.key :=
  RegIn.name .CAP_RPSTART_HI_W 0 0 h

theorem R.CAP_RPEND_LO_W_in {m : Nat} (h : Cov (2 ^ (32 + Reg.CAP_RPEND_LO_W.ctorIdx)) m) : RegIn m R.CAP_RPEND_LO_W.key :=
  RegIn.name .CAP_RPEND_LO_W 0 0 h

theorem R.CAP_RPEND_HI_W_in {m : Nat} (h : Cov (2 ^ (32 + Reg.CAP_RPEND_HI_W.ctorIdx)) m) : RegIn m R.CAP_RPEND_HI_W.key :=
  RegIn.name .CAP_RPEND_HI_W 0 0 h

theorem R.CAP_RPK_LO_W_in {m : Nat} (h : Cov (2 ^ (32 + Reg.CAP_RPK_LO_W.ctorIdx)) m) : RegIn m R.CAP_RPK_LO_W.key :=
  RegIn.name .CAP_RPK_LO_W 0 0 h

theorem R.CAP_RPK_HI_W_in {m : Nat} (h : Cov (2 ^ (32 + Reg.CAP_RPK_HI_W.ctorIdx)) m) : RegIn m R.CAP_RPK_HI_W.key :=
  RegIn.name .CAP_RPK_HI_W 0 0 h

theorem R.CAP_RPREC_LO_W_in {m : Nat} (h : Cov (2 ^ (32 + Reg.CAP_RPREC_LO_W.ctorIdx)) m) : RegIn m R.CAP_RPREC_LO_W.key :=
  RegIn.name .CAP_RPREC_LO_W 0 0 h

theorem R.CAP_RPREC_HI_W_in {m : Nat} (h : Cov (2 ^ (32 + Reg.CAP_RPREC_HI_W.ctorIdx)) m) : RegIn m R.CAP_RPREC_HI_W.key :=
  RegIn.name .CAP_RPREC_HI_W 0 0 h

theorem R.CAP_RPCALC_LO_W_in {m : Nat} (h : Cov (2 ^ (32 + Reg.CAP_RPCALC_LO_W.ctorIdx)) m) : RegIn m R.CAP_RPCALC_LO_W.key :=
  RegIn.name .CAP_RPCALC_LO_W 0 0 h

theorem R.CAP_RPCALC_HI_W_in {m : Nat} (h : Cov (2 ^ (32 + Reg.CAP_RPCALC_HI_W.ctorIdx)) m) : RegIn m R.CAP_RPCALC_HI_W.key :=
  RegIn.name .CAP_RPCALC_HI_W 0 0 h

theorem R.CAP_WINw_CFG_NSEGLOG_in {m : Nat} {i : Nat} (h : Cov (2 ^ (32 + Reg.CAP_WINw_CFG_NSEGLOG.ctorIdx)) m) : RegIn m (R.CAP_WINw_CFG_NSEGLOG i).key :=
  RegIn.name .CAP_WINw_CFG_NSEGLOG i 0 h

theorem R.CAP_WINw_TRIG_TKIND_in {m : Nat} {i : Nat} (h : Cov (2 ^ (32 + Reg.CAP_WINw_TRIG_TKIND.ctorIdx)) m) : RegIn m (R.CAP_WINw_TRIG_TKIND i).key :=
  RegIn.name .CAP_WINw_TRIG_TKIND i 0 h

theorem R.CAP_WINw_TRIG_COND_in {m : Nat} {i : Nat} (h : Cov (2 ^ (32 + Reg.CAP_WINw_TRIG_COND.ctorIdx)) m) : RegIn m (R.CAP_WINw_TRIG_COND i).key :=
  RegIn.name .CAP_WINw_TRIG_COND i 0 h

theorem R.CAP_WINw_STAT_STATE_in {m : Nat} {i : Nat} (h : Cov (2 ^ (32 + Reg.CAP_WINw_STAT_STATE.ctorIdx)) m) : RegIn m (R.CAP_WINw_STAT_STATE i).key :=
  RegIn.name .CAP_WINw_STAT_STATE i 0 h

theorem R.CAP_WINw_STAT_ARMERR_in {m : Nat} {i : Nat} (h : Cov (2 ^ (32 + Reg.CAP_WINw_STAT_ARMERR.ctorIdx)) m) : RegIn m (R.CAP_WINw_STAT_ARMERR i).key :=
  RegIn.name .CAP_WINw_STAT_ARMERR i 0 h

theorem R.CAP_WINw_STAT_SEG_in {m : Nat} {i : Nat} (h : Cov (2 ^ (32 + Reg.CAP_WINw_STAT_SEG.ctorIdx)) m) : RegIn m (R.CAP_WINw_STAT_SEG i).key :=
  RegIn.name .CAP_WINw_STAT_SEG i 0 h

theorem R.CAP_WINw_STAT_NDONE_in {m : Nat} {i : Nat} (h : Cov (2 ^ (32 + Reg.CAP_WINw_STAT_NDONE.ctorIdx)) m) : RegIn m (R.CAP_WINw_STAT_NDONE i).key :=
  RegIn.name .CAP_WINw_STAT_NDONE i 0 h

theorem R.CAP_WINw_MISS_COUNT_in {m : Nat} {i : Nat} (h : Cov (2 ^ (32 + Reg.CAP_WINw_MISS_COUNT.ctorIdx)) m) : RegIn m (R.CAP_WINw_MISS_COUNT i).key :=
  RegIn.name .CAP_WINw_MISS_COUNT i 0 h

theorem R.CAP_WINw_MISS_NEXT_in {m : Nat} {i : Nat} (h : Cov (2 ^ (32 + Reg.CAP_WINw_MISS_NEXT.ctorIdx)) m) : RegIn m (R.CAP_WINw_MISS_NEXT i).key :=
  RegIn.name .CAP_WINw_MISS_NEXT i 0 h

theorem R.SAF_STATUS_PERMIT_in {m : Nat} (h : Cov (2 ^ (32 + Reg.SAF_STATUS_PERMIT.ctorIdx)) m) : RegIn m R.SAF_STATUS_PERMIT.key :=
  RegIn.name .SAF_STATUS_PERMIT 0 0 h

theorem R.SAF_STATUS_ISTO_in {m : Nat} (h : Cov (2 ^ (32 + Reg.SAF_STATUS_ISTO.ctorIdx)) m) : RegIn m R.SAF_STATUS_ISTO.key :=
  RegIn.name .SAF_STATUS_ISTO 0 0 h

theorem R.SAF_STATUS_STOA_in {m : Nat} (h : Cov (2 ^ (32 + Reg.SAF_STATUS_STOA.ctorIdx)) m) : RegIn m R.SAF_STATUS_STOA.key :=
  RegIn.name .SAF_STATUS_STOA 0 0 h

theorem R.SAF_STATUS_STOB_in {m : Nat} (h : Cov (2 ^ (32 + Reg.SAF_STATUS_STOB.ctorIdx)) m) : RegIn m R.SAF_STATUS_STOB.key :=
  RegIn.name .SAF_STATUS_STOB 0 0 h

theorem R.SAF_STATUS_FSEL_in {m : Nat} (h : Cov (2 ^ (32 + Reg.SAF_STATUS_FSEL.ctorIdx)) m) : RegIn m R.SAF_STATUS_FSEL.key :=
  RegIn.name .SAF_STATUS_FSEL 0 0 h

theorem R.SAF_STATUS_DEMAND_in {m : Nat} (h : Cov (2 ^ (32 + Reg.SAF_STATUS_DEMAND.ctorIdx)) m) : RegIn m R.SAF_STATUS_DEMAND.key :=
  RegIn.name .SAF_STATUS_DEMAND 0 0 h

theorem R.SAF_STATUS_RFOFF_in {m : Nat} (h : Cov (2 ^ (32 + Reg.SAF_STATUS_RFOFF.ctorIdx)) m) : RegIn m R.SAF_STATUS_RFOFF.key :=
  RegIn.name .SAF_STATUS_RFOFF 0 0 h

theorem R.SAF_LOCK_FIRST_in {m : Nat} (h : Cov (2 ^ (32 + Reg.SAF_LOCK_FIRST.ctorIdx)) m) : RegIn m R.SAF_LOCK_FIRST.key :=
  RegIn.name .SAF_LOCK_FIRST 0 0 h

theorem R.SAF_LOCK_INDEX_in {m : Nat} (h : Cov (2 ^ (32 + Reg.SAF_LOCK_INDEX.ctorIdx)) m) : RegIn m R.SAF_LOCK_INDEX.key :=
  RegIn.name .SAF_LOCK_INDEX 0 0 h

theorem R.SAF_LOCK_NCAUSE_in {m : Nat} (h : Cov (2 ^ (32 + Reg.SAF_LOCK_NCAUSE.ctorIdx)) m) : RegIn m R.SAF_LOCK_NCAUSE.key :=
  RegIn.name .SAF_LOCK_NCAUSE 0 0 h

theorem R.SAF_LOCK_OPEN_in {m : Nat} (h : Cov (2 ^ (32 + Reg.SAF_LOCK_OPEN.ctorIdx)) m) : RegIn m R.SAF_LOCK_OPEN.key :=
  RegIn.name .SAF_LOCK_OPEN 0 0 h

theorem R.SAF_IN_DISCREP_in {m : Nat} (h : Cov (2 ^ (32 + Reg.SAF_IN_DISCREP.ctorIdx)) m) : RegIn m R.SAF_IN_DISCREP.key :=
  RegIn.name .SAF_IN_DISCREP 0 0 h

theorem R.SAF_IN_LEVEL_in {m : Nat} (h : Cov (2 ^ (32 + Reg.SAF_IN_LEVEL.ctorIdx)) m) : RegIn m R.SAF_IN_LEVEL.key :=
  RegIn.name .SAF_IN_LEVEL 0 0 h

theorem R.SAF_OUT_TPACT_in {m : Nat} (h : Cov (2 ^ (32 + Reg.SAF_OUT_TPACT.ctorIdx)) m) : RegIn m R.SAF_OUT_TPACT.key :=
  RegIn.name .SAF_OUT_TPACT 0 0 h

theorem R.SAF_OUT_RB_in {m : Nat} (h : Cov (2 ^ (32 + Reg.SAF_OUT_RB.ctorIdx)) m) : RegIn m R.SAF_OUT_RB.key :=
  RegIn.name .SAF_OUT_RB 0 0 h

theorem R.SAF_OUT_CMD_in {m : Nat} (h : Cov (2 ^ (32 + Reg.SAF_OUT_CMD.ctorIdx)) m) : RegIn m R.SAF_OUT_CMD.key :=
  RegIn.name .SAF_OUT_CMD 0 0 h

theorem R.SAF_FB_MISMATCH_in {m : Nat} (h : Cov (2 ^ (32 + Reg.SAF_FB_MISMATCH.ctorIdx)) m) : RegIn m R.SAF_FB_MISMATCH.key :=
  RegIn.name .SAF_FB_MISMATCH 0 0 h

theorem R.SAF_FB_LEVEL_in {m : Nat} (h : Cov (2 ^ (32 + Reg.SAF_FB_LEVEL.ctorIdx)) m) : RegIn m R.SAF_FB_LEVEL.key :=
  RegIn.name .SAF_FB_LEVEL 0 0 h

theorem R.SAF_LRST_PRESSED_in {m : Nat} (h : Cov (2 ^ (32 + Reg.SAF_LRST_PRESSED.ctorIdx)) m) : RegIn m R.SAF_LRST_PRESSED.key :=
  RegIn.name .SAF_LRST_PRESSED 0 0 h

theorem R.SAF_LRST_STUCK_in {m : Nat} (h : Cov (2 ^ (32 + Reg.SAF_LRST_STUCK.ctorIdx)) m) : RegIn m R.SAF_LRST_STUCK.key :=
  RegIn.name .SAF_LRST_STUCK 0 0 h

theorem R.SAF_LRST_SHORT_in {m : Nat} (h : Cov (2 ^ (32 + Reg.SAF_LRST_SHORT.ctorIdx)) m) : RegIn m R.SAF_LRST_SHORT.key :=
  RegIn.name .SAF_LRST_SHORT 0 0 h

theorem R.SAF_LRST_LAST_in {m : Nat} (h : Cov (2 ^ (32 + Reg.SAF_LRST_LAST.ctorIdx)) m) : RegIn m R.SAF_LRST_LAST.key :=
  RegIn.name .SAF_LRST_LAST 0 0 h

theorem R.SAF_PLUG_STATE_in {m : Nat} (h : Cov (2 ^ (32 + Reg.SAF_PLUG_STATE.ctorIdx)) m) : RegIn m R.SAF_PLUG_STATE.key :=
  RegIn.name .SAF_PLUG_STATE 0 0 h

theorem R.SAF_PLUG_LOCKCMD_in {m : Nat} (h : Cov (2 ^ (32 + Reg.SAF_PLUG_LOCKCMD.ctorIdx)) m) : RegIn m R.SAF_PLUG_LOCKCMD.key :=
  RegIn.name .SAF_PLUG_LOCKCMD 0 0 h

theorem R.SAF_PLUG_LOCKFB_in {m : Nat} (h : Cov (2 ^ (32 + Reg.SAF_PLUG_LOCKFB.ctorIdx)) m) : RegIn m R.SAF_PLUG_LOCKFB.key :=
  RegIn.name .SAF_PLUG_LOCKFB 0 0 h

theorem R.SAF_PLUG_CODE_in {m : Nat} (h : Cov (2 ^ (32 + Reg.SAF_PLUG_CODE.ctorIdx)) m) : RegIn m R.SAF_PLUG_CODE.key :=
  RegIn.name .SAF_PLUG_CODE 0 0 h

theorem R.SAF_ISO_VALID_in {m : Nat} (h : Cov (2 ^ (32 + Reg.SAF_ISO_VALID.ctorIdx)) m) : RegIn m R.SAF_ISO_VALID.key :=
  RegIn.name .SAF_ISO_VALID 0 0 h

theorem R.SAF_ISO_WARN_in {m : Nat} (h : Cov (2 ^ (32 + Reg.SAF_ISO_WARN.ctorIdx)) m) : RegIn m R.SAF_ISO_WARN.key :=
  RegIn.name .SAF_ISO_WARN 0 0 h

theorem R.SAF_ISO_FAULT_in {m : Nat} (h : Cov (2 ^ (32 + Reg.SAF_ISO_FAULT.ctorIdx)) m) : RegIn m R.SAF_ISO_FAULT.key :=
  RegIn.name .SAF_ISO_FAULT 0 0 h

theorem R.SAF_ISO_R_ISO_in {m : Nat} (h : Cov (2 ^ (32 + Reg.SAF_ISO_R_ISO.ctorIdx)) m) : RegIn m R.SAF_ISO_R_ISO.key :=
  RegIn.name .SAF_ISO_R_ISO 0 0 h

theorem R.SAF_TPRES_DISCARD_in {m : Nat} (h : Cov (2 ^ (32 + Reg.SAF_TPRES_DISCARD.ctorIdx)) m) : RegIn m R.SAF_TPRES_DISCARD.key :=
  RegIn.name .SAF_TPRES_DISCARD 0 0 h

theorem R.SAF_TPRES_PASS_in {m : Nat} (h : Cov (2 ^ (32 + Reg.SAF_TPRES_PASS.ctorIdx)) m) : RegIn m R.SAF_TPRES_PASS.key :=
  RegIn.name .SAF_TPRES_PASS 0 0 h

theorem R.SAF_CNT_TPDONE_in {m : Nat} (h : Cov (2 ^ (32 + Reg.SAF_CNT_TPDONE.ctorIdx)) m) : RegIn m R.SAF_CNT_TPDONE.key :=
  RegIn.name .SAF_CNT_TPDONE 0 0 h

theorem R.SAF_CNT_DEMANDS_in {m : Nat} (h : Cov (2 ^ (32 + Reg.SAF_CNT_DEMANDS.ctorIdx)) m) : RegIn m R.SAF_CNT_DEMANDS.key :=
  RegIn.name .SAF_CNT_DEMANDS 0 0 h

theorem R.SAF_RFj_STAT_DEFINED_in {m : Nat} {i : Nat} (h : Cov (2 ^ (32 + Reg.SAF_RFj_STAT_DEFINED.ctorIdx)) m) : RegIn m (R.SAF_RFj_STAT_DEFINED i).key :=
  RegIn.name .SAF_RFj_STAT_DEFINED i 0 h

theorem R.SAF_RFj_STAT_FRESH_in {m : Nat} {i : Nat} (h : Cov (2 ^ (32 + Reg.SAF_RFj_STAT_FRESH.ctorIdx)) m) : RegIn m (R.SAF_RFj_STAT_FRESH i).key :=
  RegIn.name .SAF_RFj_STAT_FRESH i 0 h

theorem R.SAF_RFj_STAT_PERMIT_in {m : Nat} {i : Nat} (h : Cov (2 ^ (32 + Reg.SAF_RFj_STAT_PERMIT.ctorIdx)) m) : RegIn m (R.SAF_RFj_STAT_PERMIT i).key :=
  RegIn.name .SAF_RFj_STAT_PERMIT i 0 h

theorem R.SAF_RFj_STAT_DIR_in {m : Nat} {i : Nat} (h : Cov (2 ^ (32 + Reg.SAF_RFj_STAT_DIR.ctorIdx)) m) : RegIn m (R.SAF_RFj_STAT_DIR i).key :=
  RegIn.name .SAF_RFj_STAT_DIR i 0 h

theorem R.SAF_RFj_STAT_SEQ_in {m : Nat} {i : Nat} (h : Cov (2 ^ (32 + Reg.SAF_RFj_STAT_SEQ.ctorIdx)) m) : RegIn m (R.SAF_RFj_STAT_SEQ i).key :=
  RegIn.name .SAF_RFj_STAT_SEQ i 0 h

theorem R.SAF_RFj_CNT_CRCC_in {m : Nat} {i : Nat} (h : Cov (2 ^ (32 + Reg.SAF_RFj_CNT_CRCC.ctorIdx)) m) : RegIn m (R.SAF_RFj_CNT_CRCC i).key :=
  RegIn.name .SAF_RFj_CNT_CRCC i 0 h

theorem R.SAF_RFj_CNT_CRCK_in {m : Nat} {i : Nat} (h : Cov (2 ^ (32 + Reg.SAF_RFj_CNT_CRCK.ctorIdx)) m) : RegIn m (R.SAF_RFj_CNT_CRCK i).key :=
  RegIn.name .SAF_RFj_CNT_CRCK i 0 h

theorem R.SAF_RFj_CNT_SEQ_in {m : Nat} {i : Nat} (h : Cov (2 ^ (32 + Reg.SAF_RFj_CNT_SEQ.ctorIdx)) m) : RegIn m (R.SAF_RFj_CNT_SEQ i).key :=
  RegIn.name .SAF_RFj_CNT_SEQ i 0 h

theorem R.SAF_RFj_CNT_TIME_in {m : Nat} {i : Nat} (h : Cov (2 ^ (32 + Reg.SAF_RFj_CNT_TIME.ctorIdx)) m) : RegIn m (R.SAF_RFj_CNT_TIME i).key :=
  RegIn.name .SAF_RFj_CNT_TIME i 0 h

theorem R.SEC_STATUS_ENROLLED_in {m : Nat} (h : Cov (2 ^ (32 + Reg.SEC_STATUS_ENROLLED.ctorIdx)) m) : RegIn m R.SEC_STATUS_ENROLLED.key :=
  RegIn.name .SEC_STATUS_ENROLLED 0 0 h

theorem R.SEC_STATUS_DXK_in {m : Nat} (h : Cov (2 ^ (32 + Reg.SEC_STATUS_DXK.ctorIdx)) m) : RegIn m R.SEC_STATUS_DXK.key :=
  RegIn.name .SEC_STATUS_DXK 0 0 h

theorem R.SEC_STATUS_RNGFAIL_in {m : Nat} (h : Cov (2 ^ (32 + Reg.SEC_STATUS_RNGFAIL.ctorIdx)) m) : RegIn m R.SEC_STATUS_RNGFAIL.key :=
  RegIn.name .SEC_STATUS_RNGFAIL 0 0 h

theorem R.SEC_STATUS_LOGFULL_in {m : Nat} (h : Cov (2 ^ (32 + Reg.SEC_STATUS_LOGFULL.ctorIdx)) m) : RegIn m R.SEC_STATUS_LOGFULL.key :=
  RegIn.name .SEC_STATUS_LOGFULL 0 0 h

theorem R.SEC_STATUS_REVOKED0_in {m : Nat} (h : Cov (2 ^ (32 + Reg.SEC_STATUS_REVOKED0.ctorIdx)) m) : RegIn m R.SEC_STATUS_REVOKED0.key :=
  RegIn.name .SEC_STATUS_REVOKED0 0 0 h

theorem R.SEC_STATUS_LOGN_in {m : Nat} (h : Cov (2 ^ (32 + Reg.SEC_STATUS_LOGN.ctorIdx)) m) : RegIn m R.SEC_STATUS_LOGN.key :=
  RegIn.name .SEC_STATUS_LOGN 0 0 h

theorem R.SEC_RESULT_BUSY_in {m : Nat} (h : Cov (2 ^ (32 + Reg.SEC_RESULT_BUSY.ctorIdx)) m) : RegIn m R.SEC_RESULT_BUSY.key :=
  RegIn.name .SEC_RESULT_BUSY 0 0 h

theorem R.SEC_RESULT_CODE_in {m : Nat} (h : Cov (2 ^ (32 + Reg.SEC_RESULT_CODE.ctorIdx)) m) : RegIn m R.SEC_RESULT_CODE.key :=
  RegIn.name .SEC_RESULT_CODE 0 0 h

theorem R.SEC_RNG_R_in {m : Nat} (h : Cov (2 ^ (32 + Reg.SEC_RNG_R.ctorIdx)) m) : RegIn m R.SEC_RNG_R.key :=
  RegIn.name .SEC_RNG_R 0 0 h

theorem R.SEC_CNT_TAGFAIL_in {m : Nat} (h : Cov (2 ^ (32 + Reg.SEC_CNT_TAGFAIL.ctorIdx)) m) : RegIn m R.SEC_CNT_TAGFAIL.key :=
  RegIn.name .SEC_CNT_TAGFAIL 0 0 h

theorem R.SEC_CNT_REPLAY_in {m : Nat} (h : Cov (2 ^ (32 + Reg.SEC_CNT_REPLAY.ctorIdx)) m) : RegIn m R.SEC_CNT_REPLAY.key :=
  RegIn.name .SEC_CNT_REPLAY 0 0 h

theorem R.SEC_SESS_OPEN_in {m : Nat} (h : Cov (2 ^ (32 + Reg.SEC_SESS_OPEN.ctorIdx)) m) : RegIn m R.SEC_SESS_OPEN.key :=
  RegIn.name .SEC_SESS_OPEN 0 0 h

theorem R.SEC_SESSCFG_LIFE_in {m : Nat} (h : Cov (2 ^ (32 + Reg.SEC_SESSCFG_LIFE.ctorIdx)) m) : RegIn m R.SEC_SESSCFG_LIFE.key :=
  RegIn.name .SEC_SESSCFG_LIFE 0 0 h

theorem R.SEC_ENR_PTR_OFS_in {m : Nat} (h : Cov (2 ^ (32 + Reg.SEC_ENR_PTR_OFS.ctorIdx)) m) : RegIn m R.SEC_ENR_PTR_OFS.key :=
  RegIn.name .SEC_ENR_PTR_OFS 0 0 h

theorem R.SEC_FW_PTR_OFS_in {m : Nat} (h : Cov (2 ^ (32 + Reg.SEC_FW_PTR_OFS.ctorIdx)) m) : RegIn m R.SEC_FW_PTR_OFS.key :=
  RegIn.name .SEC_FW_PTR_OFS 0 0 h

theorem R.SEC_FW_STATUS_CODE_in {m : Nat} (h : Cov (2 ^ (32 + Reg.SEC_FW_STATUS_CODE.ctorIdx)) m) : RegIn m R.SEC_FW_STATUS_CODE.key :=
  RegIn.name .SEC_FW_STATUS_CODE 0 0 h

theorem R.SEC_FW_STATUS_BOOTFALL_in {m : Nat} (h : Cov (2 ^ (32 + Reg.SEC_FW_STATUS_BOOTFALL.ctorIdx)) m) : RegIn m R.SEC_FW_STATUS_BOOTFALL.key :=
  RegIn.name .SEC_FW_STATUS_BOOTFALL 0 0 h

theorem R.SEC_FW_STATUS_RUN_in {m : Nat} (h : Cov (2 ^ (32 + Reg.SEC_FW_STATUS_RUN.ctorIdx)) m) : RegIn m R.SEC_FW_STATUS_RUN.key :=
  RegIn.name .SEC_FW_STATUS_RUN 0 0 h

theorem R.SEC_FW_STATUS_MARK_in {m : Nat} (h : Cov (2 ^ (32 + Reg.SEC_FW_STATUS_MARK.ctorIdx)) m) : RegIn m R.SEC_FW_STATUS_MARK.key :=
  RegIn.name .SEC_FW_STATUS_MARK 0 0 h

theorem R.SEC_FW_STATUS_STATE_in {m : Nat} (h : Cov (2 ^ (32 + Reg.SEC_FW_STATUS_STATE.ctorIdx)) m) : RegIn m R.SEC_FW_STATUS_STATE.key :=
  RegIn.name .SEC_FW_STATUS_STATE 0 0 h

theorem R.SEC_IMG_PTR_OFS_in {m : Nat} (h : Cov (2 ^ (32 + Reg.SEC_IMG_PTR_OFS.ctorIdx)) m) : RegIn m R.SEC_IMG_PTR_OFS.key :=
  RegIn.name .SEC_IMG_PTR_OFS 0 0 h

theorem R.SEC_IMG_STATUS_BUSY_in {m : Nat} (h : Cov (2 ^ (32 + Reg.SEC_IMG_STATUS_BUSY.ctorIdx)) m) : RegIn m R.SEC_IMG_STATUS_BUSY.key :=
  RegIn.name .SEC_IMG_STATUS_BUSY 0 0 h

theorem R.SEC_IMG_STATUS_CODE_in {m : Nat} (h : Cov (2 ^ (32 + Reg.SEC_IMG_STATUS_CODE.ctorIdx)) m) : RegIn m R.SEC_IMG_STATUS_CODE.key :=
  RegIn.name .SEC_IMG_STATUS_CODE 0 0 h

theorem R.SEC_IMG_STATUS_ACT_SLOT_in {m : Nat} (h : Cov (2 ^ (32 + Reg.SEC_IMG_STATUS_ACT_SLOT.ctorIdx)) m) : RegIn m R.SEC_IMG_STATUS_ACT_SLOT.key :=
  RegIn.name .SEC_IMG_STATUS_ACT_SLOT 0 0 h

theorem R.SEC_IMG_STATUS_ACT_MARK_in {m : Nat} (h : Cov (2 ^ (32 + Reg.SEC_IMG_STATUS_ACT_MARK.ctorIdx)) m) : RegIn m R.SEC_IMG_STATUS_ACT_MARK.key :=
  RegIn.name .SEC_IMG_STATUS_ACT_MARK 0 0 h

theorem R.SEC_IMG_STATUS_STATE_in {m : Nat} (h : Cov (2 ^ (32 + Reg.SEC_IMG_STATUS_STATE.ctorIdx)) m) : RegIn m R.SEC_IMG_STATUS_STATE.key :=
  RegIn.name .SEC_IMG_STATUS_STATE 0 0 h

theorem R.SEC_IMG_WHERE_SECT_in {m : Nat} (h : Cov (2 ^ (32 + Reg.SEC_IMG_WHERE_SECT.ctorIdx)) m) : RegIn m R.SEC_IMG_WHERE_SECT.key :=
  RegIn.name .SEC_IMG_WHERE_SECT 0 0 h

theorem R.SEC_IMG_WHERE_REC_in {m : Nat} (h : Cov (2 ^ (32 + Reg.SEC_IMG_WHERE_REC.ctorIdx)) m) : RegIn m R.SEC_IMG_WHERE_REC.key :=
  RegIn.name .SEC_IMG_WHERE_REC 0 0 h

theorem R.SEC_FW_VERs_VER_in {m : Nat} {i : Nat} (h : Cov (2 ^ (32 + Reg.SEC_FW_VERs_VER.ctorIdx)) m) : RegIn m (R.SEC_FW_VERs_VER i).key :=
  RegIn.name .SEC_FW_VERs_VER i 0 h

theorem R.SEC_FRANK_STATUS_BUSY_in {m : Nat} {i : Nat} (h : Cov (2 ^ (32 + Reg.SEC_FRANK_STATUS_BUSY.ctorIdx)) m) : RegIn m (R.SEC_FRANK_STATUS_BUSY i).key :=
  RegIn.name .SEC_FRANK_STATUS_BUSY i 0 h

theorem R.SEC_FRANK_STATUS_DONE_in {m : Nat} {i : Nat} (h : Cov (2 ^ (32 + Reg.SEC_FRANK_STATUS_DONE.ctorIdx)) m) : RegIn m (R.SEC_FRANK_STATUS_DONE i).key :=
  RegIn.name .SEC_FRANK_STATUS_DONE i 0 h

theorem R.SEC_FRANK_STATUS_CODE_in {m : Nat} {i : Nat} (h : Cov (2 ^ (32 + Reg.SEC_FRANK_STATUS_CODE.ctorIdx)) m) : RegIn m (R.SEC_FRANK_STATUS_CODE i).key :=
  RegIn.name .SEC_FRANK_STATUS_CODE i 0 h

theorem R.SEC_FRANK_STATUS_QUEUE_in {m : Nat} {i : Nat} (h : Cov (2 ^ (32 + Reg.SEC_FRANK_STATUS_QUEUE.ctorIdx)) m) : RegIn m (R.SEC_FRANK_STATUS_QUEUE i).key :=
  RegIn.name .SEC_FRANK_STATUS_QUEUE i 0 h

theorem R.SEC_FRANK_NONCEn_N_in {m : Nat} {i j : Nat} (h : Cov (2 ^ (32 + Reg.SEC_FRANK_NONCEn_N.ctorIdx)) m) : RegIn m (R.SEC_FRANK_NONCEn_N i j).key :=
  RegIn.name .SEC_FRANK_NONCEn_N i j h

theorem R.SEC_EXT_Dn_D_in {m : Nat} {i : Nat} (h : Cov (2 ^ (32 + Reg.SEC_EXT_Dn_D.ctorIdx)) m) : RegIn m (R.SEC_EXT_Dn_D i).key :=
  RegIn.name .SEC_EXT_Dn_D i 0 h

theorem R.SEC_RBi_COUNT_in {m : Nat} {i : Nat} (h : Cov (2 ^ (32 + Reg.SEC_RBi_COUNT.ctorIdx)) m) : RegIn m (R.SEC_RBi_COUNT i).key :=
  RegIn.name .SEC_RBi_COUNT i 0 h

theorem R.SEC_IMG_VERs_VER_in {m : Nat} {i : Nat} (h : Cov (2 ^ (32 + Reg.SEC_IMG_VERs_VER.ctorIdx)) m) : RegIn m (R.SEC_IMG_VERs_VER i).key :=
  RegIn.name .SEC_IMG_VERs_VER i 0 h

theorem R.SEC_IMG_IDs_ID_in {m : Nat} {i : Nat} (h : Cov (2 ^ (32 + Reg.SEC_IMG_IDs_ID.ctorIdx)) m) : RegIn m (R.SEC_IMG_IDs_ID i).key :=
  RegIn.name .SEC_IMG_IDs_ID i 0 h

theorem R.LK_STATUS_PCIE_UP_in {m : Nat} (h : Cov (2 ^ (32 + Reg.LK_STATUS_PCIE_UP.ctorIdx)) m) : RegIn m R.LK_STATUS_PCIE_UP.key :=
  RegIn.name .LK_STATUS_PCIE_UP 0 0 h

theorem R.LK_STATUS_GEN_in {m : Nat} (h : Cov (2 ^ (32 + Reg.LK_STATUS_GEN.ctorIdx)) m) : RegIn m R.LK_STATUS_GEN.key :=
  RegIn.name .LK_STATUS_GEN 0 0 h

theorem R.LK_STATUS_WIDTH_in {m : Nat} (h : Cov (2 ^ (32 + Reg.LK_STATUS_WIDTH.ctorIdx)) m) : RegIn m R.LK_STATUS_WIDTH.key :=
  RegIn.name .LK_STATUS_WIDTH 0 0 h

theorem R.LK_STATUS_TWIN_UP_in {m : Nat} (h : Cov (2 ^ (32 + Reg.LK_STATUS_TWIN_UP.ctorIdx)) m) : RegIn m R.LK_STATUS_TWIN_UP.key :=
  RegIn.name .LK_STATUS_TWIN_UP 0 0 h

theorem R.LK_STATUS_CAN_ON_in {m : Nat} (h : Cov (2 ^ (32 + Reg.LK_STATUS_CAN_ON.ctorIdx)) m) : RegIn m R.LK_STATUS_CAN_ON.key :=
  RegIn.name .LK_STATUS_CAN_ON 0 0 h

theorem R.LK_HIRQ_CAUSE_in {m : Nat} (h : Cov (2 ^ (32 + Reg.LK_HIRQ_CAUSE.ctorIdx)) m) : RegIn m R.LK_HIRQ_CAUSE.key :=
  RegIn.name .LK_HIRQ_CAUSE 0 0 h

theorem R.LK_TWIN_STAT_BLOCK_in {m : Nat} (h : Cov (2 ^ (32 + Reg.LK_TWIN_STAT_BLOCK.ctorIdx)) m) : RegIn m R.LK_TWIN_STAT_BLOCK.key :=
  RegIn.name .LK_TWIN_STAT_BLOCK 0 0 h

theorem R.LK_TWIN_STAT_SESSION_in {m : Nat} (h : Cov (2 ^ (32 + Reg.LK_TWIN_STAT_SESSION.ctorIdx)) m) : RegIn m R.LK_TWIN_STAT_SESSION.key :=
  RegIn.name .LK_TWIN_STAT_SESSION 0 0 h

theorem R.LK_TWIN_STAT_DELAY_in {m : Nat} (h : Cov (2 ^ (32 + Reg.LK_TWIN_STAT_DELAY.ctorIdx)) m) : RegIn m R.LK_TWIN_STAT_DELAY.key :=
  RegIn.name .LK_TWIN_STAT_DELAY 0 0 h

theorem R.LK_TWIN_CNT_TAGFAIL_in {m : Nat} (h : Cov (2 ^ (32 + Reg.LK_TWIN_CNT_TAGFAIL.ctorIdx)) m) : RegIn m R.LK_TWIN_CNT_TAGFAIL.key :=
  RegIn.name .LK_TWIN_CNT_TAGFAIL 0 0 h

theorem R.LK_TWIN_CNT_LATE_in {m : Nat} (h : Cov (2 ^ (32 + Reg.LK_TWIN_CNT_LATE.ctorIdx)) m) : RegIn m R.LK_TWIN_CNT_LATE.key :=
  RegIn.name .LK_TWIN_CNT_LATE 0 0 h

theorem R.LK_SPn_CFG_PTPROLE_in {m : Nat} {i : Nat} (h : Cov (2 ^ (32 + Reg.LK_SPn_CFG_PTPROLE.ctorIdx)) m) : RegIn m (R.LK_SPn_CFG_PTPROLE i).key :=
  RegIn.name .LK_SPn_CFG_PTPROLE i 0 h

theorem R.LK_SPn_CFG_LOGSYNC_in {m : Nat} {i : Nat} (h : Cov (2 ^ (32 + Reg.LK_SPn_CFG_LOGSYNC.ctorIdx)) m) : RegIn m (R.LK_SPn_CFG_LOGSYNC i).key :=
  RegIn.name .LK_SPn_CFG_LOGSYNC i 0 h

theorem R.LK_SPn_STAT_UP_in {m : Nat} {i : Nat} (h : Cov (2 ^ (32 + Reg.LK_SPn_STAT_UP.ctorIdx)) m) : RegIn m (R.LK_SPn_STAT_UP i).key :=
  RegIn.name .LK_SPn_STAT_UP i 0 h

theorem R.LK_SPn_STAT_RATE_in {m : Nat} {i : Nat} (h : Cov (2 ^ (32 + Reg.LK_SPn_STAT_RATE.ctorIdx)) m) : RegIn m (R.LK_SPn_STAT_RATE i).key :=
  RegIn.name .LK_SPn_STAT_RATE i 0 h

theorem R.LK_SPn_STAT_PSTATE_in {m : Nat} {i : Nat} (h : Cov (2 ^ (32 + Reg.LK_SPn_STAT_PSTATE.ctorIdx)) m) : RegIn m (R.LK_SPn_STAT_PSTATE i).key :=
  RegIn.name .LK_SPn_STAT_PSTATE i 0 h

theorem R.LK_SPn_CNT_RXDROP_in {m : Nat} {i : Nat} (h : Cov (2 ^ (32 + Reg.LK_SPn_CNT_RXDROP.ctorIdx)) m) : RegIn m (R.LK_SPn_CNT_RXDROP i).key :=
  RegIn.name .LK_SPn_CNT_RXDROP i 0 h

theorem R.LK_SPn_CNT_DUP_in {m : Nat} {i : Nat} (h : Cov (2 ^ (32 + Reg.LK_SPn_CNT_DUP.ctorIdx)) m) : RegIn m (R.LK_SPn_CNT_DUP i).key :=
  RegIn.name .LK_SPn_CNT_DUP i 0 h

theorem R.LK_CANc_NBT_BRP_in {m : Nat} {i : Nat} (h : Cov (2 ^ (32 + Reg.LK_CANc_NBT_BRP.ctorIdx)) m) : RegIn m (R.LK_CANc_NBT_BRP i).key :=
  RegIn.name .LK_CANc_NBT_BRP i 0 h

theorem R.LK_CANc_DBT_BRP_in {m : Nat} {i : Nat} (h : Cov (2 ^ (32 + Reg.LK_CANc_DBT_BRP.ctorIdx)) m) : RegIn m (R.LK_CANc_DBT_BRP i).key :=
  RegIn.name .LK_CANc_DBT_BRP i 0 h

theorem R.LK_CANc_STAT_BUSOFF_in {m : Nat} {i : Nat} (h : Cov (2 ^ (32 + Reg.LK_CANc_STAT_BUSOFF.ctorIdx)) m) : RegIn m (R.LK_CANc_STAT_BUSOFF i).key :=
  RegIn.name .LK_CANc_STAT_BUSOFF i 0 h

theorem R.LK_CANc_STAT_PASSIVE_in {m : Nat} {i : Nat} (h : Cov (2 ^ (32 + Reg.LK_CANc_STAT_PASSIVE.ctorIdx)) m) : RegIn m (R.LK_CANc_STAT_PASSIVE i).key :=
  RegIn.name .LK_CANc_STAT_PASSIVE i 0 h

theorem R.LK_CANc_STAT_TEC_in {m : Nat} {i : Nat} (h : Cov (2 ^ (32 + Reg.LK_CANc_STAT_TEC.ctorIdx)) m) : RegIn m (R.LK_CANc_STAT_TEC i).key :=
  RegIn.name .LK_CANc_STAT_TEC i 0 h

theorem R.LK_CANc_STAT_REC_in {m : Nat} {i : Nat} (h : Cov (2 ^ (32 + Reg.LK_CANc_STAT_REC.ctorIdx)) m) : RegIn m (R.LK_CANc_STAT_REC i).key :=
  RegIn.name .LK_CANc_STAT_REC i 0 h

theorem R.LK_CANc_TXDONE_DONE_in {m : Nat} {i : Nat} (h : Cov (2 ^ (32 + Reg.LK_CANc_TXDONE_DONE.ctorIdx)) m) : RegIn m (R.LK_CANc_TXDONE_DONE i).key :=
  RegIn.name .LK_CANc_TXDONE_DONE i 0 h

theorem R.LK_CANc_FLTf_RT_ACT_in {m : Nat} {i j : Nat} (h : Cov (2 ^ (32 + Reg.LK_CANc_FLTf_RT_ACT.ctorIdx)) m) : RegIn m (R.LK_CANc_FLTf_RT_ACT i j).key :=
  RegIn.name .LK_CANc_FLTf_RT_ACT i j h

theorem R.HL_STATUS_RUN_in {m : Nat} (h : Cov (2 ^ (32 + Reg.HL_STATUS_RUN.ctorIdx)) m) : RegIn m R.HL_STATUS_RUN.key :=
  RegIn.name .HL_STATUS_RUN 0 0 h

theorem R.HL_STATUS_COUNT_LOST_in {m : Nat} (h : Cov (2 ^ (32 + Reg.HL_STATUS_COUNT_LOST.ctorIdx)) m) : RegIn m R.HL_STATUS_COUNT_LOST.key :=
  RegIn.name .HL_STATUS_COUNT_LOST 0 0 h

theorem R.HL_STATUS_OVF_in {m : Nat} (h : Cov (2 ^ (32 + Reg.HL_STATUS_OVF.ctorIdx)) m) : RegIn m R.HL_STATUS_OVF.key :=
  RegIn.name .HL_STATUS_OVF 0 0 h

theorem R.HL_CTRL_PERIOD_in {m : Nat} (h : Cov (2 ^ (32 + Reg.HL_CTRL_PERIOD.ctorIdx)) m) : RegIn m R.HL_CTRL_PERIOD.key :=
  RegIn.name .HL_CTRL_PERIOD 0 0 h

theorem R.HL_FLAGS_LO_F_in {m : Nat} (h : Cov (2 ^ (32 + Reg.HL_FLAGS_LO_F.ctorIdx)) m) : RegIn m R.HL_FLAGS_LO_F.key :=
  RegIn.name .HL_FLAGS_LO_F 0 0 h

theorem R.HL_FLAGS_HI_F_in {m : Nat} (h : Cov (2 ^ (32 + Reg.HL_FLAGS_HI_F.ctorIdx)) m) : RegIn m R.HL_FLAGS_HI_F.key :=
  RegIn.name .HL_FLAGS_HI_F 0 0 h

theorem R.HL_NODE_RL_in {m : Nat} (h : Cov (2 ^ (32 + Reg.HL_NODE_RL.ctorIdx)) m) : RegIn m R.HL_NODE_RL.key :=
  RegIn.name .HL_NODE_RL 0 0 h

theorem R.HL_TEMPs_T_in {m : Nat} {i : Nat} (h : Cov (2 ^ (32 + Reg.HL_TEMPs_T.ctorIdx)) m) : RegIn m (R.HL_TEMPs_T i).key :=
  RegIn.name .HL_TEMPs_T i 0 h

theorem R.HL_ROr_DRIFT_in {m : Nat} {i : Nat} (h : Cov (2 ^ (32 + Reg.HL_ROr_DRIFT.ctorIdx)) m) : RegIn m (R.HL_ROr_DRIFT i).key :=
  RegIn.name .HL_ROr_DRIFT i 0 h

theorem R.HL_NVp_MAXW_in {m : Nat} {i : Nat} (h : Cov (2 ^ (32 + Reg.HL_NVp_MAXW.ctorIdx)) m) : RegIn m (R.HL_NVp_MAXW i).key :=
  RegIn.name .HL_NVp_MAXW i 0 h

theorem R.HL_LEGn_D_D_in {m : Nat} {i : Nat} (h : Cov (2 ^ (32 + Reg.HL_LEGn_D_D.ctorIdx)) m) : RegIn m (R.HL_LEGn_D_D i).key :=
  RegIn.name .HL_LEGn_D_D i 0 h

theorem R.AXn_CFG_ENCMODE_in {m : Nat} {i : Nat} (h : Cov (2 ^ (32 + Reg.AXn_CFG_ENCMODE.ctorIdx)) m) : RegIn m (R.AXn_CFG_ENCMODE i).key :=
  RegIn.name .AXn_CFG_ENCMODE i 0 h

theorem R.AXn_STAT_STATE_in {m : Nat} {i : Nat} (h : Cov (2 ^ (32 + Reg.AXn_STAT_STATE.ctorIdx)) m) : RegIn m (R.AXn_STAT_STATE i).key :=
  RegIn.name .AXn_STAT_STATE i 0 h

theorem R.AXn_STAT_HOMED_in {m : Nat} {i : Nat} (h : Cov (2 ^ (32 + Reg.AXn_STAT_HOMED.ctorIdx)) m) : RegIn m (R.AXn_STAT_HOMED i).key :=
  RegIn.name .AXn_STAT_HOMED i 0 h

theorem R.AXn_STAT_REHOME_ADVISED_in {m : Nat} {i : Nat} (h : Cov (2 ^ (32 + Reg.AXn_STAT_REHOME_ADVISED.ctorIdx)) m) : RegIn m (R.AXn_STAT_REHOME_ADVISED i).key :=
  RegIn.name .AXn_STAT_REHOME_ADVISED i 0 h

theorem R.AXn_STAT_FAULT_in {m : Nat} {i : Nat} (h : Cov (2 ^ (32 + Reg.AXn_STAT_FAULT.ctorIdx)) m) : RegIn m (R.AXn_STAT_FAULT i).key :=
  RegIn.name .AXn_STAT_FAULT i 0 h

theorem R.AXn_STAT_LIMSTOP_in {m : Nat} {i : Nat} (h : Cov (2 ^ (32 + Reg.AXn_STAT_LIMSTOP.ctorIdx)) m) : RegIn m (R.AXn_STAT_LIMSTOP i).key :=
  RegIn.name .AXn_STAT_LIMSTOP i 0 h

theorem R.AXn_STAT_HWLIM_in {m : Nat} {i : Nat} (h : Cov (2 ^ (32 + Reg.AXn_STAT_HWLIM.ctorIdx)) m) : RegIn m (R.AXn_STAT_HWLIM i).key :=
  RegIn.name .AXn_STAT_HWLIM i 0 h

theorem R.AXn_STAT_TGTERR_in {m : Nat} {i : Nat} (h : Cov (2 ^ (32 + Reg.AXn_STAT_TGTERR.ctorIdx)) m) : RegIn m (R.AXn_STAT_TGTERR i).key :=
  RegIn.name .AXn_STAT_TGTERR i 0 h

theorem R.AXn_STAT_ENCERR_in {m : Nat} {i : Nat} (h : Cov (2 ^ (32 + Reg.AXn_STAT_ENCERR.ctorIdx)) m) : RegIn m (R.AXn_STAT_ENCERR i).key :=
  RegIn.name .AXn_STAT_ENCERR i 0 h

theorem R.AXn_STAT_ZSEEN_in {m : Nat} {i : Nat} (h : Cov (2 ^ (32 + Reg.AXn_STAT_ZSEEN.ctorIdx)) m) : RegIn m (R.AXn_STAT_ZSEEN i).key :=
  RegIn.name .AXn_STAT_ZSEEN i 0 h

theorem R.AXn_STAT_LVALID_in {m : Nat} {i : Nat} (h : Cov (2 ^ (32 + Reg.AXn_STAT_LVALID.ctorIdx)) m) : RegIn m (R.AXn_STAT_LVALID i).key :=
  RegIn.name .AXn_STAT_LVALID i 0 h

theorem R.AXn_STAT_CHATTER_in {m : Nat} {i : Nat} (h : Cov (2 ^ (32 + Reg.AXn_STAT_CHATTER.ctorIdx)) m) : RegIn m (R.AXn_STAT_CHATTER i).key :=
  RegIn.name .AXn_STAT_CHATTER i 0 h

theorem R.AXn_POS_LO_W_in {m : Nat} {i : Nat} (h : Cov (2 ^ (32 + Reg.AXn_POS_LO_W.ctorIdx)) m) : RegIn m (R.AXn_POS_LO_W i).key :=
  RegIn.name .AXn_POS_LO_W i 0 h

theorem R.AXn_POS_HI_W_in {m : Nat} {i : Nat} (h : Cov (2 ^ (32 + Reg.AXn_POS_HI_W.ctorIdx)) m) : RegIn m (R.AXn_POS_HI_W i).key :=
  RegIn.name .AXn_POS_HI_W i 0 h

theorem R.AXn_TGT_LO_W_in {m : Nat} {i : Nat} (h : Cov (2 ^ (32 + Reg.AXn_TGT_LO_W.ctorIdx)) m) : RegIn m (R.AXn_TGT_LO_W i).key :=
  RegIn.name .AXn_TGT_LO_W i 0 h

theorem R.AXn_TGT_HI_W_in {m : Nat} {i : Nat} (h : Cov (2 ^ (32 + Reg.AXn_TGT_HI_W.ctorIdx)) m) : RegIn m (R.AXn_TGT_HI_W i).key :=
  RegIn.name .AXn_TGT_HI_W i 0 h

theorem R.AXn_ENC_LO_W_in {m : Nat} {i : Nat} (h : Cov (2 ^ (32 + Reg.AXn_ENC_LO_W.ctorIdx)) m) : RegIn m (R.AXn_ENC_LO_W i).key :=
  RegIn.name .AXn_ENC_LO_W i 0 h

theorem R.AXn_ENC_HI_W_in {m : Nat} {i : Nat} (h : Cov (2 ^ (32 + Reg.AXn_ENC_HI_W.ctorIdx)) m) : RegIn m (R.AXn_ENC_HI_W i).key :=
  RegIn.name .AXn_ENC_HI_W i 0 h

theorem R.AXn_SLIMP_LO_W_in {m : Nat} {i : Nat} (h : Cov (2 ^ (32 + Reg.AXn_SLIMP_LO_W.ctorIdx)) m) : RegIn m (R.AXn_SLIMP_LO_W i).key :=
  RegIn.name .AXn_SLIMP_LO_W i 0 h

theorem R.AXn_SLIMP_HI_W_in {m : Nat} {i : Nat} (h : Cov (2 ^ (32 + Reg.AXn_SLIMP_HI_W.ctorIdx)) m) : RegIn m (R.AXn_SLIMP_HI_W i).key :=
  RegIn.name .AXn_SLIMP_HI_W i 0 h

theorem R.AXn_SLIMN_LO_W_in {m : Nat} {i : Nat} (h : Cov (2 ^ (32 + Reg.AXn_SLIMN_LO_W.ctorIdx)) m) : RegIn m (R.AXn_SLIMN_LO_W i).key :=
  RegIn.name .AXn_SLIMN_LO_W i 0 h

theorem R.AXn_SLIMN_HI_W_in {m : Nat} {i : Nat} (h : Cov (2 ^ (32 + Reg.AXn_SLIMN_HI_W.ctorIdx)) m) : RegIn m (R.AXn_SLIMN_HI_W i).key :=
  RegIn.name .AXn_SLIMN_HI_W i 0 h

theorem R.AXn_HOFS_LO_W_in {m : Nat} {i : Nat} (h : Cov (2 ^ (32 + Reg.AXn_HOFS_LO_W.ctorIdx)) m) : RegIn m (R.AXn_HOFS_LO_W i).key :=
  RegIn.name .AXn_HOFS_LO_W i 0 h

theorem R.AXn_HOFS_HI_W_in {m : Nat} {i : Nat} (h : Cov (2 ^ (32 + Reg.AXn_HOFS_HI_W.ctorIdx)) m) : RegIn m (R.AXn_HOFS_HI_W i).key :=
  RegIn.name .AXn_HOFS_HI_W i 0 h

theorem R.AXn_LCFG_LEDGE_in {m : Nat} {i : Nat} (h : Cov (2 ^ (32 + Reg.AXn_LCFG_LEDGE.ctorIdx)) m) : RegIn m (R.AXn_LCFG_LEDGE i).key :=
  RegIn.name .AXn_LCFG_LEDGE i 0 h

theorem R.AXn_LPOS_LO_W_in {m : Nat} {i : Nat} (h : Cov (2 ^ (32 + Reg.AXn_LPOS_LO_W.ctorIdx)) m) : RegIn m (R.AXn_LPOS_LO_W i).key :=
  RegIn.name .AXn_LPOS_LO_W i 0 h

theorem R.AXn_LPOS_HI_W_in {m : Nat} {i : Nat} (h : Cov (2 ^ (32 + Reg.AXn_LPOS_HI_W.ctorIdx)) m) : RegIn m (R.AXn_LPOS_HI_W i).key :=
  RegIn.name .AXn_LPOS_HI_W i 0 h

theorem R.AXn_LENC_LO_W_in {m : Nat} {i : Nat} (h : Cov (2 ^ (32 + Reg.AXn_LENC_LO_W.ctorIdx)) m) : RegIn m (R.AXn_LENC_LO_W i).key :=
  RegIn.name .AXn_LENC_LO_W i 0 h

theorem R.AXn_LENC_HI_W_in {m : Nat} {i : Nat} (h : Cov (2 ^ (32 + Reg.AXn_LENC_HI_W.ctorIdx)) m) : RegIn m (R.AXn_LENC_HI_W i).key :=
  RegIn.name .AXn_LENC_HI_W i 0 h

theorem R.AXn_LPM_LO_W_in {m : Nat} {i : Nat} (h : Cov (2 ^ (32 + Reg.AXn_LPM_LO_W.ctorIdx)) m) : RegIn m (R.AXn_LPM_LO_W i).key :=
  RegIn.name .AXn_LPM_LO_W i 0 h

theorem R.AXn_LPM_HI_W_in {m : Nat} {i : Nat} (h : Cov (2 ^ (32 + Reg.AXn_LPM_HI_W.ctorIdx)) m) : RegIn m (R.AXn_LPM_HI_W i).key :=
  RegIn.name .AXn_LPM_HI_W i 0 h

end Sys2Proof.Machine
end

