-- ==== Sys2Proof/Laws/EvCore.lean ====
section
/-!
SUPPORT. What each operation over State can do, said once: one lemma for each function of the envelope office, health, capture, legs, trips, time, acceptance. The result is as sound as
the state it starts from, never before it, and differs from it only in the parts and registers of the set named (`mask` of Safety.lean).
-/
namespace Sys2Proof.Machine
set_option Elab.async false
set_option linter.all false

theorem regsOk_sset {d v k : Nat} {m : Sparse Nat} (h : regsOk m) (hv : v < 2 ^ 32) : regsOk (sset d m k v) :=
  ⟨srising_sset h.1, fun e he => by
    obtain rfl | g := mem_sset he
    · exact hv
    · exact h.2 e g⟩

theorem State.put_ev {μ : Nat} {r s : State} {f : Fld} {v : Nat} (h : Ev μ r s) (hf : RegIn μ f.key) : Ev μ r (s.put f v) :=
  h.table (fun g => regsOk_sset g (Nat.lt_of_lt_of_le (Nat.mod_lt _ (Nat.two_pow_pos _)) (Nat.pow_le_pow_right (by decide) (Nat.min_le_right _ _))))
    fun k => if e : k = f.key then Or.inl (e ▸ hf) else Or.inr fun d => sget_sset_ne e

theorem State.event_ev {μ : Nat} {r s : State} {f : Fld} {upd : Nat → Nat} (h : Ev μ r s) (hf : RegIn μ f.key)
    (hm : Cov 0x800000 μ := by exact .use) :
    Ev μ r (State.event s f upd) := by
  unfold State.event
  repeat' with_reducible first
    | assumption | exact .inl .use | exact .inr rfl | exact Cov.use
    | (extract_lets +onlyGivenNames -underBinder s'; refine Ev.cut (m := μ) (r := r) (x := s') ?_ ?_
       all_goals first | (intro h'; clear_value s') | subst s')
    | (extract_lets +onlyGivenNames -underBinder x'; subst x')
    | (refine fun (h' : Ev _ _ _) => ?_) | apply State.put_ev
    | apply Ev.iteR | (apply Ev.fst; assumption) | (apply Ev.snd; assumption) | split | apply Ev.upd | apply Ev.updT | rfl

theorem State.mark_ev {μ : Nat} {r s : State} {f : Fld} {bits : Nat} (h : Ev μ r s) (hf : RegIn μ f.key)
    (hm : Cov 0x800000 μ := by exact .use) :
    Ev μ r (State.mark s f bits) := by
  unfold State.mark
  repeat' with_reducible first
    | assumption | exact .inl .use | exact .inr rfl | exact Cov.use
    | (refine fun (h' : Ev _ _ _) => ?_) | apply State.event_ev
    | apply Ev.iteR | split | apply Ev.upd | apply Ev.updT | rfl

theorem State.bump_ev {μ : Nat} {r s : State} {f : Fld} {n : Nat} (h : Ev μ r s) (hf : RegIn μ f.key)
    (hm : Cov 0x800000 μ := by exact .use) :
    Ev μ r (State.bump s f n) := by
  unfold State.bump
  repeat' with_reducible first
    | assumption | exact .inl .use | exact .inr rfl | exact Cov.use
    | (refine fun (h' : Ev _ _ _) => ?_) | (intro a hab) | apply State.event_ev
    | apply Ev.iteR | split | apply Ev.upd | apply Ev.updT | rfl

theorem State.clear_ev {μ : Nat} {r s : State} {f : Fld} {keep : Nat} (h : Ev μ r s) (hf : RegIn μ f.key)
    (hm : Cov 0x800000 μ := by exact .use) :
    Ev μ r (State.clear s f keep) := by
  unfold State.clear
  repeat' with_reducible first
    | assumption | exact .inl .use | exact .inr rfl | exact Cov.use
    | (refine fun (h' : Ev _ _ _) => ?_) | apply State.put_ev
    | apply Ev.iteR | (apply Ev.fst; assumption) | (apply Ev.snd; assumption) | split | apply Ev.upd | apply Ev.updT | rfl

theorem State.putPair_ev {μ : Nat} {r s : State} {lo : Fld} {hi : Fld} {v : Nat} (h : Ev μ r s) (hlo : RegIn μ lo.key) (hhi : RegIn μ hi.key)
    (hm : Cov 0x0 μ := by exact .use) :
    Ev μ r (State.putPair s lo hi v) := by
  unfold State.putPair
  repeat' with_reducible first
    | assumption | exact .inl .use | exact .inr rfl | exact Cov.use
    | (refine fun (h' : Ev _ _ _) => ?_) | apply State.put_ev
    | apply Ev.iteR | split | apply Ev.upd | apply Ev.updT | rfl

theorem State.freshNat_ev {μ : Nat} {r s : State} (h : Ev μ r s) (hm : Cov 0x1000000 μ := by exact .use) : Ev μ r s.freshNat.2 :=
  ⟨h.1, h.2, h.3, h.4, h.5, Nat.le_trans h.6 (Nat.le_succ _), h.7.trans { Keeps.refl μ s with fresh := Or.inl .use }⟩

theorem State.freshBytes_ev {μ : Nat} {r s : State} {n : Nat} (h : Ev μ r s)
    (hm : Cov 0x1000000 μ := by exact .use) :
    Ev μ r (State.freshBytes s n).2 := by
  unfold State.freshBytes
  repeat' with_reducible first
    | assumption | exact .inl .use | exact .inr rfl | exact Cov.use
    | (refine fun (h' : Ev _ _ _) => ?_) | apply State.freshNat_ev
    | apply Ev.iteR | split | apply Ev.upd | apply Ev.updT | rfl | apply Ev.pair2

theorem State.send_ev {μ : Nat} {r s : State} {o : OutMsg} (h : Ev μ r s) (hm : Cov 0x2000000 μ := by exact .use) : Ev μ r (s.send o) :=
  ⟨h.1, h.2, h.3, h.4, h.5.trans (List.prefix_append _ _), h.6, h.7.trans { Keeps.refl μ s with outbox := Or.inl .use }⟩

theorem State.nextMsgId_ev {μ : Nat} {r s : State} (h : Ev μ r s)
    (hm : Cov 0x10000 μ := by exact .use) :
    Ev μ r (State.nextMsgId s) := by
  unfold State.nextMsgId
  repeat' with_reducible first
    | assumption | exact .inl .use | exact .inr rfl | exact Cov.use
    | (refine fun (h' : Ev _ _ _) => ?_)
    | apply Ev.iteR | split | apply Ev.upd | apply Ev.updT | rfl

theorem State.irq_ev {μ : Nat} {r s : State} {v : Nat} (h : Ev μ r s)
    (hm : Cov 0x40000000000000000000000000000000000000000000000000000000000000000000000000000000000000000000000000000000000000000000002800000 μ := by exact .use) :
    Ev μ r (State.irq s v) := by
  unfold State.irq
  repeat' with_reducible first
    | assumption | exact .inl .use | exact .inr rfl | exact Cov.use
    | (extract_lets +onlyGivenNames -underBinder s'; refine Ev.cut (m := μ) (r := r) (x := s') ?_ ?_
       all_goals first | (intro h'; clear_value s') | subst s')
    | (extract_lets +onlyGivenNames -underBinder x'; subst x')
    | (refine fun (h' : Ev _ _ _) => ?_) | apply State.send_ev | apply State.mark_ev | apply R.LK_HIRQ_CAUSE_in
    | apply Ev.iteR | split | apply Ev.upd | apply Ev.updT | rfl

theorem addrError_ev {μ : Nat} {r s : State} {a1 : Nat} {kind : Nat} {addr : Nat} (h : Ev μ r s)
    (hm : Cov 0x1e00000000810000 μ := by exact .use) :
    Ev μ r (addrError s a1 kind addr) := by
  unfold addrError
  repeat' with_reducible first
    | assumption | exact .inl .use | exact .inr rfl | exact Cov.use
    | (extract_lets +onlyGivenNames -underBinder s'; refine Ev.cut (m := μ) (r := r) (x := s') ?_ ?_
       all_goals first | (intro h'; clear_value s') | subst s')
    | (extract_lets +onlyGivenNames -underBinder x'; subst x')
    | (refine fun (h' : Ev _ _ _) => ?_) | apply State.bump_ev | apply State.put_ev | apply R.NODE_ADDRERR_ADDR_ADDR_in | apply R.NODE_ADDRERR_COUNT_in | apply R.NODE_ADDRERR_KIND_in | apply R.NODE_ADDRERR_REQ_in
    | apply Ev.iteR | split | apply Ev.upd | apply Ev.updT | rfl

theorem secondsEnd_ev {μ : Nat} {r s : State} (h : Ev μ r s) (hm : Cov 0x40000000000000000000000000000000000000000000000000000000000000000000000000000000000000022000011000000000000000000000002801002 μ := by exact .use) : Ev μ r (secondsEnd s) := by
  have h1 : Ev μ r { s with time := { s.time with acc := (2 ^ 64 - 1) * 2 ^ 40, stopped := true } } :=
    h.run (fun _ => by show (2 ^ 64 - 1) * 2 ^ 40 < 2 ^ 104; decide) (Nat.le_refl _)
  exact Ev.upd (State.put_ev (State.put_ev (Ev.ite h1 (State.irq_ev (State.mark_ev (State.put_ev h1 (R.POST_STATUS_STATE_in (Cov.mono hm (by decide +kernel)))) (R.POST_STATUS_CHANGED_in (Cov.mono hm (by decide +kernel))))))
    (R.POST_TIG_TIMEBASE_in (Cov.mono hm (by decide +kernel)))) (R.POST_TIG_HELD_in (Cov.mono hm (by decide +kernel)))) rfl rfl

theorem State.ticks_ev {μ : Nat} {r s : State} {n : Nat} (h : Ev μ r s) (hm : Cov 0x40000000000000000000000000000000000000000000000000000000000000000000000000000000000000022000011000000000000000000000002801006 μ := by exact .use) : Ev μ r (s.ticks n) := by
  have h1 : Ev μ r { s with time := { s.time with elapsed := s.time.elapsed + n * s.increment, count := s.time.count + n }
                            root := { s.root with xtalTicks := s.root.xtalTicks + n } } :=
    Ev.upd (cap := s.capture) (h.run (tb := { s.time with elapsed := s.time.elapsed + n * s.increment, count := s.time.count + n }) id (Nat.le_add_right _ _)) rfl rfl
  unfold State.ticks
  dsimp only
  split
  · exact h1
  · split
    · exact secondsEnd_ev h1
    · rename_i h2; exact h1.run (fun _ => Nat.lt_of_not_le h2) (Nat.le_refl _)

theorem State.tick_ev {μ : Nat} {r s : State} (h : Ev μ r s)
    (hm : Cov 0x40000000000000000000000000000000000000000000000000000000000000000000000000000000000000022000011000000000000000000000002801006 μ := by exact .use) :
    Ev μ r (State.tick s) := by
  unfold State.tick
  repeat' with_reducible first
    | assumption | exact .inl .use | exact .inr rfl | exact Cov.use
    | (refine fun (h' : Ev _ _ _) => ?_) | apply State.ticks_ev
    | apply Ev.iteR | split | apply Ev.upd | apply Ev.updT | rfl

theorem State.runTo_ev {μ : Nat} {r s : State} {pm : Nat} (h : Ev μ r s)
    (hm : Cov 0x40000000000000000000000000000000000000000000000000000000000000000000000000000000000000022000011000000000000000000000002801006 μ := by exact .use) :
    Ev μ r (State.runTo s pm) := by
  unfold State.runTo
  repeat' with_reducible first
    | assumption | exact .inl .use | exact .inr rfl | exact Cov.use
    | (refine fun (h' : Ev _ _ _) => ?_) | apply State.ticks_ev
    | apply Ev.iteR | split | apply Ev.upd | apply Ev.updT | rfl

theorem State.runElapsed_ev {μ : Nat} {r s : State} {e : Nat} (h : Ev μ r s)
    (hm : Cov 0x40000000000000000000000000000000000000000000000000000000000000000000000000000000000000022000011000000000000000000000002801006 μ := by exact .use) :
    Ev μ r (State.runElapsed s e) := by
  unfold State.runElapsed
  repeat' with_reducible first
    | assumption | exact .inl .use | exact .inr rfl | exact Cov.use
    | (refine fun (h' : Ev _ _ _) => ?_) | apply State.ticks_ev
    | apply Ev.iteR | split | apply Ev.upd | apply Ev.updT | rfl

theorem State.setPath_ev {μ : Nat} {r s : State} {p : Nat} {x : Path} (h : Ev μ r s)
    (hm : Cov 0x200 μ := by exact .use) :
    Ev μ r (State.setPath s p x) := by
  unfold State.setPath
  repeat' with_reducible first
    | assumption | exact .inl .use | exact .inr rfl | exact Cov.use
    | (refine fun (h' : Ev _ _ _) => ?_)
    | apply Ev.iteR | split | apply Ev.upd | apply Ev.updT | rfl

theorem pathUnsettle_ev {μ : Nat} {r s : State} {p : Nat} (h : Ev μ r s)
    (hm : Cov 0x200 μ := by exact .use) :
    Ev μ r (pathUnsettle s p) := by
  unfold pathUnsettle
  repeat' with_reducible first
    | assumption | exact .inl .use | exact .inr rfl | exact Cov.use
    | (extract_lets +onlyGivenNames -underBinder s'; refine Ev.cut (m := μ) (r := r) (x := s') ?_ ?_
       all_goals first | (intro h'; clear_value s') | subst s')
    | (extract_lets +onlyGivenNames -underBinder x'; subst x')
    | (refine fun (h' : Ev _ _ _) => ?_) | apply State.setPath_ev
    | apply Ev.iteR | split | apply Ev.upd | apply Ev.updT | rfl

theorem setActiveBank_ev {μ : Nat} {r s : State} {p : Nat} {b : Nat} (h : Ev μ r s)
    (hm : Cov 0x83000000000000000000000000000000000000000000000000000000000000000000 μ := by exact .use) :
    Ev μ r (setActiveBank s p b) := by
  unfold setActiveBank
  repeat' with_reducible first
    | assumption | exact .inl .use | exact .inr rfl | exact Cov.use
    | (extract_lets +onlyGivenNames -underBinder s'; refine Ev.cut (m := μ) (r := r) (x := s') ?_ ?_
       all_goals first | (intro h'; clear_value s') | subst s')
    | (extract_lets +onlyGivenNames -underBinder x'; subst x')
    | (refine fun (h' : Ev _ _ _) => ?_) | apply State.put_ev | apply R.DEC_PATHp_BANK_ABANK_in | apply R.DEC_PATHp_BANK_ARESP_in | apply R.DEC_PATHp_DLY_UNITS_in
    | apply Ev.iteR | split | apply Ev.upd | apply Ev.updT | rfl

theorem fadeEnd_ev {μ : Nat} {r s : State} {p : Nat} (h : Ev μ r s)
    (hm : Cov 0x87100000000000000000000000000000000000000000000000000000000000000200 μ := by exact .use) :
    Ev μ r (fadeEnd s p) := by
  unfold fadeEnd
  repeat' with_reducible first
    | assumption | exact .inl .use | exact .inr rfl | exact Cov.use
    | (extract_lets +onlyGivenNames -underBinder s'; refine Ev.cut (m := μ) (r := r) (x := s') ?_ ?_
       all_goals first | (intro h'; clear_value s') | subst s')
    | (extract_lets +onlyGivenNames -underBinder x'; subst x')
    | (refine fun (h' : Ev _ _ _) => ?_) | apply setActiveBank_ev | apply State.setPath_ev | apply State.put_ev | apply R.DEC_PATHp_BANK_FADING_in | apply R.DEC_PATHp_BANK_XFLEFT_in
    | apply Ev.iteR | (apply Ev.fst; assumption) | (apply Ev.snd; assumption) | split | apply Ev.upd | apply Ev.updT | rfl

theorem fadeStart_ev {μ : Nat} {r s : State} {p : Nat} {b : Nat} (h : Ev μ r s)
    (hm : Cov 0x4b00000000000000000000000000000000000000000000000000000000000000200 μ := by exact .use) :
    Ev μ r (fadeStart s p b) := by
  unfold fadeStart
  repeat' with_reducible first
    | assumption | exact .inl .use | exact .inr rfl | exact Cov.use
    | (extract_lets +onlyGivenNames -underBinder s'; refine Ev.cut (m := μ) (r := r) (x := s') ?_ ?_
       all_goals first | (intro h'; clear_value s') | subst s')
    | (extract_lets +onlyGivenNames -underBinder x'; subst x')
    | (refine fun (h' : Ev _ _ _) => ?_) | apply State.setPath_ev | apply State.put_ev | apply R.DEC_PATHp_BANK_FADING_in | apply R.DEC_PATHp_BANK_HELD_in | apply R.DEC_PATHp_BANK_TBANK_in | apply R.DEC_PATHp_BANK_XFLEFT_in
    | apply Ev.iteR | split | apply Ev.upd | apply Ev.updT | rfl

theorem fadeClose_ev {μ : Nat} {r s : State} {p : Nat} {b : Nat} (h : Ev μ r s)
    (hm : Cov 0x87b00000000000000000000000000000000000000000000000000000000000000200 μ := by exact .use) :
    Ev μ r (fadeClose s p b) := by
  unfold fadeClose
  repeat' with_reducible first
    | assumption | exact .inl .use | exact .inr rfl | exact Cov.use
    | (extract_lets +onlyGivenNames -underBinder s'; refine Ev.cut (m := μ) (r := r) (x := s') ?_ ?_
       all_goals first | (intro h'; clear_value s') | subst s')
    | (extract_lets +onlyGivenNames -underBinder x'; subst x')
    | (refine fun (h' : Ev _ _ _) => ?_) | apply fadeEnd_ev | apply State.put_ev | apply State.setPath_ev | apply fadeStart_ev | apply R.DEC_PATHp_BANK_HELD_in
    | apply Ev.iteR | (apply Ev.fst; assumption) | (apply Ev.snd; assumption) | split | apply Ev.upd | apply Ev.updT | rfl

theorem fadesEnd_ev {μ : Nat} {r s : State} (h : Ev μ r s)
    (hm : Cov 0x87b00000000000000000000000000000000000000000000000000000000000000200 μ := by exact .use) :
    Ev μ r (fadesEnd s) := by
  unfold fadesEnd
  repeat' with_reducible first
    | assumption | exact .inl .use | exact .inr rfl | exact Cov.use
    | (refine fun (h' : Ev _ _ _) => ?_) | (intro a b hab) | (intro a hab) | apply fadeClose_ev
    | apply Ev.iteR | apply Ev.foldl | (apply Ev.fst; assumption) | (apply Ev.snd; assumption) | split | apply Ev.upd | apply Ev.updT | rfl

theorem unsettleAll_ev {μ : Nat} {r s : State} (h : Ev μ r s)
    (hm : Cov 0x200 μ := by exact .use) :
    Ev μ r (unsettleAll s) := by
  unfold unsettleAll
  repeat' with_reducible first
    | assumption | exact .inl .use | exact .inr rfl | exact Cov.use
    | (refine fun (h' : Ev _ _ _) => ?_) | (intro a b hab) | apply pathUnsettle_ev
    | apply Ev.iteR | apply Ev.foldl | split | apply Ev.upd | apply Ev.updT | rfl

theorem siteTake_ev {μ : Nat} {r s : State} {n kind : Nat} {x : SiteHead} {act : State → State} (ha : ∀ x, Ev μ r x → Ev μ r (act x)) (h : Ev μ r s) (hm : Cov 0x4000000000000000000000000000000000000000000000000000000000000000000000000000000000000000000000000000000000000000000000000000000800000 μ := by exact .use) :
    Ev μ r (siteTake s n kind x act) := by
  unfold siteTake
  split
  · exact ha _ h
  · exact State.bump_ev h (R.LK_SPn_CNT_RXDROP_in (Cov.mono hm (by decide +kernel)))

theorem siteFrameOut_ev {μ : Nat} {r s : State} {kind : Nat} {dst : Nat} {body : Bytes} (h : Ev μ r s)
    (hm : Cov 0x2010000 μ := by exact .use) :
    Ev μ r (siteFrameOut s kind dst body) := by
  unfold siteFrameOut
  repeat' with_reducible first
    | assumption | exact .inl .use | exact .inr rfl | exact Cov.use
    | (extract_lets +onlyGivenNames -underBinder s'; refine Ev.cut (m := μ) (r := r) (x := s') ?_ ?_
       all_goals first | (intro h'; clear_value s') | subst s')
    | (extract_lets +onlyGivenNames -underBinder x'; subst x')
    | (refine fun (h' : Ev _ _ _) => ?_) | (intro a b hab) | (intro a hab) | apply State.nextMsgId_ev | apply State.send_ev
    | apply Ev.iteR | apply Ev.foldl | split | apply Ev.upd | apply Ev.updT | rfl

theorem sessionOut_ev {μ : Nat} {r s : State} {x : Session} {flags : Nat} {plain : Bytes} (h : Ev μ r s)
    (hm : Cov 0x2018000 μ := by exact .use) :
    Ev μ r (sessionOut s x flags plain) := by
  unfold sessionOut
  repeat' with_reducible first
    | assumption | exact .inl .use | exact .inr rfl | exact Cov.use
    | (extract_lets +onlyGivenNames -underBinder s'; refine Ev.cut (m := μ) (r := r) (x := s') ?_ ?_
       all_goals first | (intro h'; clear_value s') | subst s')
    | (extract_lets +onlyGivenNames -underBinder x'; subst x')
    | (refine fun (h' : Ev _ _ _) => ?_) | (intro a hab) | apply siteFrameOut_ev
    | apply Ev.iteR | split | apply Ev.upd | apply Ev.updT | rfl

theorem setSeqNext_ev {μ : Nat} {r s : State} {n : Nat} (h : Ev μ r s)
    (hm : Cov 0x6000000000000000000020000 μ := by exact .use) :
    Ev μ r (setSeqNext s n) := by
  unfold setSeqNext
  repeat' with_reducible first
    | assumption | exact .inl .use | exact .inr rfl | exact Cov.use
    | (extract_lets +onlyGivenNames -underBinder s'; refine Ev.cut (m := μ) (r := r) (x := s') ?_ ?_
       all_goals first | (intro h'; clear_value s') | subst s')
    | (extract_lets +onlyGivenNames -underBinder x'; subst x')
    | (refine fun (h' : Ev _ _ _) => ?_) | apply State.putPair_ev | apply R.NODE_TWIN_SEQ_HI_NEXT_in | apply R.NODE_TWIN_SEQ_LO_NEXT_in
    | apply Ev.iteR | split | apply Ev.upd | apply Ev.updT | rfl

theorem takeSeq_ev {μ : Nat} {r s : State} (h : Ev μ r s) (hm : Cov 0x6001000000000000000020000 μ := by exact .use) : Ev μ r (takeSeq s).2 := by
  unfold takeSeq
  dsimp only
  repeat' split
  · exact h
  · exact State.put_ev h (R.NODE_TWIN_STAT_SEQ_END_in (Cov.mono hm (by decide +kernel)))
  · exact setSeqNext_ev h

theorem siteSend_ev {μ : Nat} {r s : State} {seq : Nat} {mtype : Nat} {body : Bytes} (h : Ev μ r s)
    (hm : Cov 0x2018000 μ := by exact .use) :
    Ev μ r (siteSend s seq mtype body) := by
  unfold siteSend
  repeat' with_reducible first
    | assumption | exact .inl .use | exact .inr rfl | exact Cov.use
    | (refine fun (h' : Ev _ _ _) => ?_) | apply sessionOut_ev | apply State.send_ev
    | apply Ev.iteR | (apply Ev.fst; assumption) | (apply Ev.snd; assumption) | split | apply Ev.upd | apply Ev.updT | rfl

theorem siteNumber_ev {μ : Nat} {r s : State} {o m : Nat} {b : Bytes} (h : Ev μ r s) (hm : Cov 0x6001000000000000002038000 μ := by exact .use) : Ev μ r (siteNumber s o m b) := by
  unfold siteNumber
  split
  · rename_i e; exact Ev.snd e (takeSeq_ev h)
  · rename_i e
    have h1 := Ev.snd e (takeSeq_ev h)
    split
    · exact State.send_ev (Ev.upd h1 rfl rfl)
    · exact siteSend_ev h1

theorem siteOut_ev {μ : Nat} {r s : State} {origin : Nat} {mtype : Nat} {body : Bytes} (h : Ev μ r s)
    (hm : Cov 0x6201000000000000002838000 μ := by exact .use) :
    Ev μ r (siteOut s origin mtype body) := by
  unfold siteOut
  repeat' with_reducible first
    | assumption | exact .inl .use | exact .inr rfl | exact Cov.use
    | (extract_lets +onlyGivenNames -underBinder s'; refine Ev.cut (m := μ) (r := r) (x := s') ?_ ?_
       all_goals first | (intro h'; clear_value s') | subst s')
    | (extract_lets +onlyGivenNames -underBinder x'; subst x')
    | (refine fun (h' : Ev _ _ _) => ?_) | apply State.mark_ev | apply siteNumber_ev | apply R.NODE_TWIN_STAT_HELDLOSS_in
    | apply Ev.iteR | split | apply Ev.upd | apply Ev.updT | rfl

theorem deadLetterReply_ev {μ : Nat} {r s : State} {source : Nat} {k : Nat} {body : Bytes} (h : Ev μ r s)
    (hm : Cov 0x6201000000000000002838000 μ := by exact .use) :
    Ev μ r (deadLetterReply s source k body) := by
  unfold deadLetterReply
  repeat' with_reducible first
    | assumption | exact .inl .use | exact .inr rfl | exact Cov.use
    | (refine fun (h' : Ev _ _ _) => ?_) | apply siteOut_ev | apply State.send_ev
    | apply Ev.iteR | split | apply Ev.upd | apply Ev.updT | rfl

theorem ledFull_ev {μ : Nat} {r s : State} (h : Ev μ r s)
    (hm : Cov 0x2000000000000000000000000000000000000000000000000000000000000000000000000000000 μ := by exact .use) :
    Ev μ r (ledFull s) := by
  unfold ledFull
  repeat' with_reducible first
    | assumption | exact .inl .use | exact .inr rfl | exact Cov.use
    | (refine fun (h' : Ev _ _ _) => ?_) | apply State.put_ev | apply R.SO_LEDSTAT_FULL_in
    | apply Ev.iteR | split | apply Ev.upd | apply Ev.updT | rfl

theorem ledWrite_ev {μ : Nat} {r s : State} {w : Nat} (h : Ev μ r s)
    (hm : Cov 0x16000000000000000000000000000000000000000000000000000000000000000000000000000020 μ := by exact .use) :
    Ev μ r (ledWrite s w) := by
  unfold ledWrite
  repeat' with_reducible first
    | assumption | exact .inl .use | exact .inr rfl | exact Cov.use
    | (extract_lets +onlyGivenNames -underBinder s'; refine Ev.cut (m := μ) (r := r) (x := s') ?_ ?_
       all_goals first | (intro h'; clear_value s') | subst s')
    | (extract_lets +onlyGivenNames -underBinder x'; subst x')
    | (refine fun (h' : Ev _ _ _) => ?_) | apply ledFull_ev | apply State.put_ev | apply R.SO_LEDPTR_NEXT_in | apply R.SO_LEDSTAT_WRAPPED_in
    | apply Ev.iteR | split | apply Ev.upd | apply Ev.updT | rfl

theorem ledBuffer_ev {μ : Nat} {r s : State} {w : Nat} (h : Ev μ r s)
    (hm : Cov 0x16000000000000000000000000000000000000000000000000000000000000000000000000000020 μ := by exact .use) :
    Ev μ r (ledBuffer s w) := by
  unfold ledBuffer
  repeat' with_reducible first
    | assumption | exact .inl .use | exact .inr rfl | exact Cov.use
    | (refine fun (h' : Ev _ _ _) => ?_) | apply ledWrite_ev
    | apply Ev.iteR | split | apply Ev.upd | apply Ev.updT | rfl

theorem ledDrain_ev {μ : Nat} {r s : State} {tick : Nat} {pm : Nat} (h : Ev μ r s)
    (hm : Cov 0x1e000000000000000000000000000000000000000000000000000000000000000000000000800020 μ := by exact .use) :
    Ev μ r (ledDrain s tick pm) := by
  unfold ledDrain
  repeat' with_reducible first
    | assumption | exact .inl .use | exact .inr rfl | exact Cov.use
    | (extract_lets +onlyGivenNames -underBinder s'; refine Ev.cut (m := μ) (r := r) (x := s') ?_ ?_
       all_goals first | (intro h'; clear_value s') | subst s')
    | (extract_lets +onlyGivenNames -underBinder x'; subst x')
    | (refine fun (h' : Ev _ _ _) => ?_) | apply State.bump_ev | apply ledBuffer_ev | apply R.SO_LEDSTAT_LOST_in
    | apply Ev.iteR | split | apply Ev.upd | apply Ev.updT | rfl

theorem ledPut_ev {μ : Nat} {r s : State} {e : LedEntry} (h : Ev μ r s)
    (hm : Cov 0x1e000000000000000000000000000000000000000000000000000000000000000000000000800020 μ := by exact .use) :
    Ev μ r (ledPut s e) := by
  unfold ledPut
  repeat' with_reducible first
    | assumption | exact .inl .use | exact .inr rfl | exact Cov.use
    | (extract_lets +onlyGivenNames -underBinder s'; refine Ev.cut (m := μ) (r := r) (x := s') ?_ ?_
       all_goals first | (intro h'; clear_value s') | subst s')
    | (extract_lets +onlyGivenNames -underBinder x'; subst x')
    | (refine fun (h' : Ev _ _ _) => ?_) | apply ledDrain_ev | apply ledBuffer_ev
    | apply Ev.iteR | split | apply Ev.upd | apply Ev.updT | rfl

theorem ledFlush_ev {μ : Nat} {r s : State} (h : Ev μ r s)
    (hm : Cov 0x1e000000000000000000000000000000000000000000000000000000000000000000000000800020 μ := by exact .use) :
    Ev μ r (ledFlush s) := by
  unfold ledFlush
  repeat' with_reducible first
    | assumption | exact .inl .use | exact .inr rfl | exact Cov.use
    | (refine fun (h' : Ev _ _ _) => ?_) | (intro a b hab) | (intro a hab) | apply ledPut_ev
    | apply Ev.iteR | apply Ev.foldl | split | apply Ev.upd | apply Ev.updT | rfl

theorem ledAt_ev {μ : Nat} {r s : State} {tick : Nat} {rank : Nat} {kind : Nat} {id : Nat} {ph : Nat} {core : Nat} {detail : Nat} (h : Ev μ r s)
    (hm : Cov 0x1e000000000000000000000000000000000000000000000000000000000000000000000000800020 μ := by exact .use) :
    Ev μ r (ledAt s tick rank kind id ph core detail) := by
  unfold ledAt
  repeat' with_reducible first
    | assumption | exact .inl .use | exact .inr rfl | exact Cov.use
    | (extract_lets +onlyGivenNames -underBinder s'; refine Ev.cut (m := μ) (r := r) (x := s') ?_ ?_
       all_goals first | (intro h'; clear_value s') | subst s')
    | (extract_lets +onlyGivenNames -underBinder x'; subst x')
    | (refine fun (h' : Ev _ _ _) => ?_) | apply ledFlush_ev | apply ledPut_ev
    | apply Ev.iteR | split | apply Ev.upd | apply Ev.updT | rfl

theorem ledEvent_ev {μ : Nat} {r s : State} {kind : Nat} {id : Nat} {ph : Nat} {core : Nat} {detail : Nat} (h : Ev μ r s)
    (hm : Cov 0x1e000000000000000000000000000000000000000000000000000000000000000000000000800020 μ := by exact .use) :
    Ev μ r (ledEvent s kind id ph core detail) := by
  unfold ledEvent
  repeat' with_reducible first
    | assumption | exact .inl .use | exact .inr rfl | exact Cov.use
    | (refine fun (h' : Ev _ _ _) => ?_) | apply ledAt_ev
    | apply Ev.iteR | split | apply Ev.upd | apply Ev.updT | rfl

theorem ledStepped_ev {μ : Nat} {r s : State} (h : Ev μ r s)
    (hm : Cov 0x1e000000000000000000000000000000000000000000000000000000000000000000000000800020 μ := by exact .use) :
    Ev μ r (ledStepped s) := by
  unfold ledStepped
  repeat' with_reducible first
    | assumption | exact .inl .use | exact .inr rfl | exact Cov.use
    | (extract_lets +onlyGivenNames -underBinder s'; refine Ev.cut (m := μ) (r := r) (x := s') ?_ ?_
       all_goals first | (intro h'; clear_value s') | subst s')
    | (extract_lets +onlyGivenNames -underBinder x'; subst x')
    | (refine fun (h' : Ev _ _ _) => ?_) | apply ledFlush_ev | apply ledDrain_ev | apply ledBuffer_ev
    | apply Ev.iteR | split | apply Ev.upd | apply Ev.updT | rfl

theorem State.served_ev {μ : Nat} {r s : State} {rank : Nat} (h : Ev μ r s)
    (hm : Cov 0x20 μ := by exact .use) :
    Ev μ r (State.served s rank) := by
  unfold State.served
  repeat' with_reducible first
    | assumption | exact .inl .use | exact .inr rfl | exact Cov.use
    | (refine fun (h' : Ev _ _ _) => ?_)
    | apply Ev.iteR | split | apply Ev.upd | apply Ev.updT | rfl

theorem officeTurn_ev {μ : Nat} {r s : State} {rank : Nat} (h : Ev μ r s)
    (hm : Cov 0x40000000000000000000000000000000000000000000000000000000000000000000000000000000000000022000011000000000000000000000002801026 μ := by exact .use) :
    Ev μ r (officeTurn s rank) := by
  unfold officeTurn
  repeat' with_reducible first
    | assumption | exact .inl .use | exact .inr rfl | exact Cov.use
    | (refine fun (h' : Ev _ _ _) => ?_) | apply State.served_ev | apply State.tick_ev
    | apply Ev.iteR | split | apply Ev.upd | apply Ev.updT | rfl

theorem officeLane_ev {μ : Nat} {r s : State} {lane : Nat} (h : Ev μ r s)
    (hm : Cov 0x20 μ := by exact .use) :
    Ev μ r (officeLane s lane).2 := by
  unfold officeLane
  repeat' with_reducible first
    | assumption | exact .inl .use | exact .inr rfl | exact Cov.use
    | (extract_lets +onlyGivenNames -underBinder s'; refine Ev.cut (m := μ) (r := r) (x := s') ?_ ?_
       all_goals first | (intro h'; clear_value s') | subst s')
    | (extract_lets +onlyGivenNames -underBinder x'; subst x')
    | (refine fun (h' : Ev _ _ _) => ?_) | apply State.served_ev
    | apply Ev.iteR | split | apply Ev.upd | apply Ev.updT | rfl | apply Ev.pair2

theorem pickFree_ev {μ : Nat} {r s : State} {free : List Nat} (h : Ev μ r s)
    (hm : Cov 0x1000000 μ := by exact .use) :
    Ev μ r (pickFree s free).2 := by
  unfold pickFree
  repeat' with_reducible first
    | assumption | exact .inl .use | exact .inr rfl | exact Cov.use
    | (extract_lets +onlyGivenNames -underBinder s'; refine Ev.cut (m := μ) (r := r) (x := s') ?_ ?_
       all_goals first | (intro h'; clear_value s') | subst s')
    | (extract_lets +onlyGivenNames -underBinder x'; subst x')
    | (refine fun (h' : Ev _ _ _) => ?_) | apply State.freshNat_ev
    | apply Ev.iteR | (apply Ev.fst; assumption) | (apply Ev.snd; assumption) | split | apply Ev.upd | apply Ev.updT | rfl | apply Ev.pair2

theorem makeReady_ev {μ : Nat} {r s : State} {e : Env} {tick : Nat} (h : Ev μ r s)
    (hm : Cov 0x1000020 μ := by exact .use) :
    Ev μ r (makeReady s e tick).1 := by
  unfold makeReady
  repeat' with_reducible first
    | assumption | exact .inl .use | exact .inr rfl | exact Cov.use
    | (extract_lets +onlyGivenNames -underBinder s'; refine Ev.cut (m := μ) (r := r) (x := s') ?_ ?_
       all_goals first | (intro h'; clear_value s') | subst s')
    | (extract_lets +onlyGivenNames -underBinder x'; subst x')
    | (refine fun (h' : Ev _ _ _) => ?_) | apply pickFree_ev
    | apply Ev.iteR | (apply Ev.fst; assumption) | (apply Ev.snd; assumption) | split | apply Ev.upd | apply Ev.updT | rfl | apply Ev.pair1

theorem postHw_ev {μ : Nat} {r s : State} {typ : Nat} {ph : Nat} {flow : Nat} {pm : Nat} {port : Nat} {tag : Nat} {body : Bytes} (h : Ev μ r s)
    (hm : Cov 0x7e000000000000000000000000000000000000000000000000000000000000000000000001800020 μ := by exact .use) :
    Ev μ r (postHw s typ ph flow pm port tag body) := by
  unfold postHw
  repeat' with_reducible first
    | assumption | exact .inl .use | exact .inr rfl | exact Cov.use
    | (extract_lets +onlyGivenNames -underBinder s'; refine Ev.cut (m := μ) (r := r) (x := s') ?_ ?_
       all_goals first | (intro h'; clear_value s') | subst s')
    | (extract_lets +onlyGivenNames -underBinder x'; subst x')
    | (refine fun (h' : Ev _ _ _) => ?_) | apply State.bump_ev | apply officeLane_ev | apply ledAt_ev | apply makeReady_ev | apply R.SO_DROP_DL_in | apply R.SO_DROP_HW_in
    | apply Ev.iteR | (apply Ev.fst; assumption) | (apply Ev.snd; assumption) | split | apply Ev.upd | apply Ev.updT | rfl

theorem deadLetter_ev {μ : Nat} {r s : State} {domain : Nat} {code : Nat} {source : Nat} {target : Nat} {pm : Nat} {k : Nat} {item : Bytes} (h : Ev μ r s)
    (hm : Cov 0x7e000000000000000000000000000000000000000000000000000006201000000000000003838020 μ := by exact .use) :
    Ev μ r (deadLetter s domain code source target pm k item) := by
  unfold deadLetter
  repeat' with_reducible first
    | assumption | exact .inl .use | exact .inr rfl | exact Cov.use
    | (extract_lets +onlyGivenNames -underBinder s'; refine Ev.cut (m := μ) (r := r) (x := s') ?_ ?_
       all_goals first | (intro h'; clear_value s') | subst s')
    | (extract_lets +onlyGivenNames -underBinder x'; subst x')
    | (refine fun (h' : Ev _ _ _) => ?_) | apply postHw_ev | apply deadLetterReply_ev
    | apply Ev.iteR | split | apply Ev.upd | apply Ev.updT | rfl

theorem postRefuse_ev {μ : Nat} {r s : State} {a1 : Nat} {port : Nat} {ph : Nat} {code : Nat} (h : Ev μ r s)
    (hm : Cov 0x61e000000000000000000000000000000000000000000000000000000000000000000000000800020 μ := by exact .use) :
    Ev μ r (postRefuse s a1 port ph code) := by
  unfold postRefuse
  repeat' with_reducible first
    | assumption | exact .inl .use | exact .inr rfl | exact Cov.use
    | (refine fun (h' : Ev _ _ _) => ?_) | apply ledEvent_ev | apply State.put_ev | apply R.SO_RESULT_CODE_in | apply R.SO_RESULT_ID_in
    | apply Ev.iteR | split | apply Ev.upd | apply Ev.updT | rfl

theorem softPost_ev {μ : Nat} {r s : State} {a1 : Nat} (h : Ev μ r s)
    (hm : Cov 0x4000000000000000000000000000000000000000000061e000000000000000000000000000000000000000022000011000000000000000000000003801026 μ := by exact .use) :
    Ev μ r (softPost s a1) := by
  unfold softPost
  repeat' with_reducible first
    | assumption | exact .inl .use | exact .inr rfl | exact Cov.use
    | (extract_lets +onlyGivenNames -underBinder s'; refine Ev.cut (m := μ) (r := r) (x := s') ?_ ?_
       all_goals first | (intro h'; clear_value s') | subst s')
    | (extract_lets +onlyGivenNames -underBinder x'; subst x')
    | (refine fun (h' : Ev _ _ _) => ?_) | apply officeTurn_ev | apply postRefuse_ev | apply makeReady_ev | apply State.put_ev | apply ledEvent_ev | apply R.SO_RESULT_CODE_in | apply R.SO_RESULT_ID_in
    | apply Ev.iteR | (apply Ev.fst; assumption) | (apply Ev.snd; assumption) | split | apply Ev.upd | apply Ev.updT | rfl

theorem trayInsert_ev {μ : Nat} {r s : State} {a1 : Nat} {tray : Nat} (h : Ev μ r s)
    (hm : Cov 0x4000000000000000000000000000000000000000000061e000000000000000000000000000000000000000022000011000000000000000000000003801026 μ := by exact .use) :
    Ev μ r (trayInsert s a1 tray) := by
  unfold trayInsert
  repeat' with_reducible first
    | assumption | exact .inl .use | exact .inr rfl | exact Cov.use
    | (extract_lets +onlyGivenNames -underBinder s'; refine Ev.cut (m := μ) (r := r) (x := s') ?_ ?_
       all_goals first | (intro h'; clear_value s') | subst s')
    | (extract_lets +onlyGivenNames -underBinder x'; subst x')
    | (refine fun (h' : Ev _ _ _) => ?_) | (intro a hab) | apply officeTurn_ev | apply postRefuse_ev | apply pickFree_ev | apply State.put_ev | apply ledEvent_ev | apply R.SO_RESULT_CODE_in | apply R.SO_RESULT_ID_in
    | apply Ev.iteR | (apply Ev.fst; assumption) | (apply Ev.snd; assumption) | split | apply Ev.upd | apply Ev.updT | rfl

theorem cancelEnvelope_ev {μ : Nat} {r s : State} {a1 : Nat} {id : Nat} (h : Ev μ r s)
    (hm : Cov 0x4000000000000000000000000000000000000000000801e000000000000000000000000000000000000000022000011000000000000000000000002801026 μ := by exact .use) :
    Ev μ r (cancelEnvelope s a1 id) := by
  unfold cancelEnvelope
  repeat' with_reducible first
    | assumption | exact .inl .use | exact .inr rfl | exact Cov.use
    | (extract_lets +onlyGivenNames -underBinder s'; refine Ev.cut (m := μ) (r := r) (x := s') ?_ ?_
       all_goals first | (intro h'; clear_value s') | subst s')
    | (extract_lets +onlyGivenNames -underBinder x'; subst x')
    | (refine fun (h' : Ev _ _ _) => ?_) | (intro a hab) | apply officeTurn_ev | apply ledEvent_ev | apply State.put_ev | apply R.SO_CANRES_RES_in
    | apply Ev.iteR | (apply Ev.fst; assumption) | (apply Ev.snd; assumption) | split | apply Ev.upd | apply Ev.updT | rfl

theorem cancelTrayEntry_ev {μ : Nat} {r s : State} {a1 : Nat} {id : Nat} (h : Ev μ r s)
    (hm : Cov 0x4000000000000000000000000000000000000000000801e000000000000000000000000000000000000000022000011000000000000000000000002801026 μ := by exact .use) :
    Ev μ r (cancelTrayEntry s a1 id) := by
  unfold cancelTrayEntry
  repeat' with_reducible first
    | assumption | exact .inl .use | exact .inr rfl | exact Cov.use
    | (extract_lets +onlyGivenNames -underBinder s'; refine Ev.cut (m := μ) (r := r) (x := s') ?_ ?_
       all_goals first | (intro h'; clear_value s') | subst s')
    | (extract_lets +onlyGivenNames -underBinder x'; subst x')
    | (refine fun (h' : Ev _ _ _) => ?_) | (intro a hab) | apply officeTurn_ev | apply ledEvent_ev | apply State.put_ev | apply R.SO_CANRES_RES_in
    | apply Ev.iteR | (apply Ev.fst; assumption) | (apply Ev.snd; assumption) | split | apply Ev.upd | apply Ev.updT | rfl

theorem completeEnvelope_ev {μ : Nat} {r s : State} {a1 : Nat} (h : Ev μ r s)
    (hm : Cov 0x4000000000000000000000000000000000000000000001e000000000000000000000000000000000000000022000011000000000000001e00000002811026 μ := by exact .use) :
    Ev μ r (completeEnvelope s a1) := by
  unfold completeEnvelope
  repeat' with_reducible first
    | assumption | exact .inl .use | exact .inr rfl | exact Cov.use
    | (extract_lets +onlyGivenNames -underBinder s'; refine Ev.cut (m := μ) (r := r) (x := s') ?_ ?_
       all_goals first | (intro h'; clear_value s') | subst s')
    | (extract_lets +onlyGivenNames -underBinder x'; subst x')
    | (refine fun (h' : Ev _ _ _) => ?_) | apply addrError_ev | apply officeTurn_ev | apply ledEvent_ev
    | apply Ev.iteR | (apply Ev.fst; assumption) | (apply Ev.snd; assumption) | split | apply Ev.upd | apply Ev.updT | rfl

theorem dispatchOne_ev {μ : Nat} {r s : State} (h : Ev μ r s)
    (hm : Cov 0x4000000000000000000000000000000000000000000001e000000000000000000000000000000000000000022000011000000000000000000000002801026 μ := by exact .use) :
    Ev μ r (dispatchOne s) := by
  unfold dispatchOne
  repeat' with_reducible first
    | assumption | exact .inl .use | exact .inr rfl | exact Cov.use
    | (extract_lets +onlyGivenNames -underBinder s'; refine Ev.cut (m := μ) (r := r) (x := s') ?_ ?_
       all_goals first | (intro h'; clear_value s') | subst s')
    | (extract_lets +onlyGivenNames -underBinder x'; subst x')
    | (refine fun (h' : Ev _ _ _) => ?_) | (intro a hab) | apply officeTurn_ev | apply ledEvent_ev
    | apply Ev.iteR | (apply Ev.fst; assumption) | (apply Ev.snd; assumption) | split | apply Ev.upd | apply Ev.updT | rfl

theorem trayRelease_ev {μ : Nat} {r s : State} {te : TrayEntry} (h : Ev μ r s)
    (hm : Cov 0x1e000000000000000000000000000000000000000000000000000000000000000000000001800020 μ := by exact .use) :
    Ev μ r (trayRelease s te) := by
  unfold trayRelease
  repeat' with_reducible first
    | assumption | exact .inl .use | exact .inr rfl | exact Cov.use
    | (extract_lets +onlyGivenNames -underBinder s'; refine Ev.cut (m := μ) (r := r) (x := s') ?_ ?_
       all_goals first | (intro h'; clear_value s') | subst s')
    | (extract_lets +onlyGivenNames -underBinder x'; subst x')
    | (refine fun (h' : Ev _ _ _) => ?_) | (intro a hab) | apply officeLane_ev | apply ledAt_ev | apply makeReady_ev
    | apply Ev.iteR | (apply Ev.fst; assumption) | (apply Ev.snd; assumption) | split | apply Ev.upd | apply Ev.updT | rfl

theorem trayReleaseDue_ev {μ : Nat} {r s : State} {tickPm : Nat} (h : Ev μ r s)
    (hm : Cov 0x1e000000000000000000000000000000000000000000000000000000000000000000000001800020 μ := by exact .use) :
    Ev μ r (trayReleaseDue s tickPm) := by
  unfold trayReleaseDue
  repeat' with_reducible first
    | assumption | exact .inl .use | exact .inr rfl | exact Cov.use
    | (extract_lets +onlyGivenNames -underBinder s'; refine Ev.cut (m := μ) (r := r) (x := s') ?_ ?_
       all_goals first | (intro h'; clear_value s') | subst s')
    | (extract_lets +onlyGivenNames -underBinder x'; subst x')
    | (refine fun (h' : Ev _ _ _) => ?_) | (intro a b hab) | (intro a hab) | apply trayRelease_ev
    | apply Ev.iteR | apply Ev.foldl | split | apply Ev.upd | apply Ev.updT | rfl

theorem ledDiscards_ev {μ : Nat} {r s : State} {l : List (Nat × Nat)} {detail : Nat} (h : Ev μ r s)
    (hm : Cov 0x1e000000000000000000000000000000000000000000000000000000000000000000000000800020 μ := by exact .use) :
    Ev μ r (ledDiscards s l detail) := by
  unfold ledDiscards
  repeat' with_reducible first
    | assumption | exact .inl .use | exact .inr rfl | exact Cov.use
    | (refine fun (h' : Ev _ _ _) => ?_) | (intro a b hab) | (intro a hab) | apply ledEvent_ev
    | apply Ev.iteR | apply Ev.foldl | split | apply Ev.upd | apply Ev.updT | rfl

theorem trayDiscardStep_ev {μ : Nat} {r s : State} {stepPm : Nat} (h : Ev μ r s)
    (hm : Cov 0x7e000000000000000000000000000000000000000000000000000006201000000000000003838020 μ := by exact .use) :
    Ev μ r (trayDiscardStep s stepPm) := by
  unfold trayDiscardStep
  repeat' with_reducible first
    | assumption | exact .inl .use | exact .inr rfl | exact Cov.use
    | (extract_lets +onlyGivenNames -underBinder s'; refine Ev.cut (m := μ) (r := r) (x := s') ?_ ?_
       all_goals first | (intro h'; clear_value s') | subst s')
    | (extract_lets +onlyGivenNames -underBinder x'; subst x')
    | (refine fun (h' : Ev _ _ _) => ?_) | (intro a b hab) | (intro a hab) | apply ledDiscards_ev | apply deadLetter_ev
    | apply Ev.iteR | apply Ev.foldl | split | apply Ev.upd | apply Ev.updT | rfl

theorem officeEmpty_ev {μ : Nat} {r s : State} (h : Ev μ r s)
    (hm : Cov 0x1e000000000000000000000000000000000000000000000000000000000000000000000000800020 μ := by exact .use) :
    Ev μ r (officeEmpty s) := by
  unfold officeEmpty
  repeat' with_reducible first
    | assumption | exact .inl .use | exact .inr rfl | exact Cov.use
    | (extract_lets +onlyGivenNames -underBinder s'; refine Ev.cut (m := μ) (r := r) (x := s') ?_ ?_
       all_goals first | (intro h'; clear_value s') | subst s')
    | (extract_lets +onlyGivenNames -underBinder x'; subst x')
    | (refine fun (h' : Ev _ _ _) => ?_) | (intro a hab) | apply ledDiscards_ev
    | apply Ev.iteR | split | apply Ev.upd | apply Ev.updT | rfl

theorem officeStart_ev {μ : Nat} {r s : State} (h : Ev μ r s)
    (hm : Cov 0x80000000000000000000000000000000000000000000000000000000000000000000000000000 μ := by exact .use) :
    Ev μ r (officeStart s) := by
  unfold officeStart
  repeat' with_reducible first
    | assumption | exact .inl .use | exact .inr rfl | exact Cov.use
    | (refine fun (h' : Ev _ _ _) => ?_) | apply State.put_ev | apply R.SO_STATUS_RUN_in
    | apply Ev.iteR | split | apply Ev.upd | apply Ev.updT | rfl

theorem officeDefault_ev {μ : Nat} {r s : State} (h : Ev μ r s)
    (hm : Cov 0x3800000000000000000000000000000000000000000000000000000000000000000000000000000000000 μ := by exact .use) :
    Ev μ r (officeDefault s) := by
  unfold officeDefault
  repeat' with_reducible first
    | assumption | exact .inl .use | exact .inr rfl | exact Cov.use
    | (refine fun (h' : Ev _ _ _) => ?_) | (intro a b hab) | (intro a hab) | apply State.put_ev | apply R.SO_PHp_CORES_in | apply R.SO_PHp_LIMIT_in | apply R.SO_PHp_PRIO_in
    | apply Ev.iteR | apply Ev.foldl | split | apply Ev.upd | apply Ev.updT | rfl

theorem officeConfig_ev {μ : Nat} {r s : State} {recs : List (Nat × Nat × Nat)} (h : Ev μ r s)
    (hm : Cov 0x3800000000000000000000000000000000000000000000000000000000000000000000000000000000000 μ := by exact .use) :
    Ev μ r (officeConfig s recs) := by
  unfold officeConfig
  repeat' with_reducible first
    | assumption | exact .inl .use | exact .inr rfl | exact Cov.use
    | (refine fun (h' : Ev _ _ _) => ?_) | (intro a b hab) | (intro a hab) | apply State.put_ev | apply R.SO_PHp_CORES_in | apply R.SO_PHp_LIMIT_in | apply R.SO_PHp_PRIO_in
    | apply Ev.iteR | apply Ev.foldl | split | apply Ev.upd | apply Ev.updT | rfl

theorem runPause_ev {μ : Nat} {r s : State} (h : Ev μ r s)
    (hm : Cov 0x40000 μ := by exact .use) :
    Ev μ r (runPause s) := by
  unfold runPause
  repeat' with_reducible first
    | assumption | exact .inl .use | exact .inr rfl | exact Cov.use
    | (refine fun (h' : Ev _ _ _) => ?_)
    | apply Ev.iteR | split | apply Ev.upd | apply Ev.updT | rfl

theorem runResume_ev {μ : Nat} {r s : State} (h : Ev μ r s)
    (hm : Cov 0x40000 μ := by exact .use) :
    Ev μ r (runResume s) := by
  unfold runResume
  repeat' with_reducible first
    | assumption | exact .inl .use | exact .inr rfl | exact Cov.use
    | (extract_lets +onlyGivenNames -underBinder s'; refine Ev.cut (m := μ) (r := r) (x := s') ?_ ?_
       all_goals first | (intro h'; clear_value s') | subst s')
    | (extract_lets +onlyGivenNames -underBinder x'; subst x')
    | (refine fun (h' : Ev _ _ _) => ?_)
    | apply Ev.iteR | (apply Ev.fst; assumption) | (apply Ev.snd; assumption) | split | apply Ev.upd | apply Ev.updT | rfl

theorem nvWrite_ev {μ : Nat} {r s : State} {part : Nat} {line : Nat} (h : Ev μ r s)
    (hm : Cov 0x100000000000000000000000000000000000000000000000000000000000000000000000000000000000000000000000000000000000000000000000000000000000000000040000 μ := by exact .use) :
    Ev μ r (nvWrite s part line) := by
  unfold nvWrite
  repeat' with_reducible first
    | assumption | exact .inl .use | exact .inr rfl | exact Cov.use
    | (extract_lets +onlyGivenNames -underBinder s'; refine Ev.cut (m := μ) (r := r) (x := s') ?_ ?_
       all_goals first | (intro h'; clear_value s') | subst s')
    | (extract_lets +onlyGivenNames -underBinder x'; subst x')
    | (refine fun (h' : Ev _ _ _) => ?_) | apply State.put_ev | apply R.HL_NVp_MAXW_in
    | apply Ev.iteR | split | apply Ev.upd | apply Ev.updT | rfl

theorem journalAdd_ev {μ : Nat} {r s : State} {kind : Nat} {value : Nat} (h : Ev μ r s)
    (hm : Cov 0x100000000000000000000000000000000000000000000000000000000000000000000000000000000000000000000000000000000000000000000000000000000000000000440000 μ := by exact .use) :
    Ev μ r (journalAdd s kind value) := by
  unfold journalAdd
  repeat' with_reducible first
    | assumption | exact .inl .use | exact .inr rfl | exact Cov.use
    | (refine fun (h' : Ev _ _ _) => ?_) | apply nvWrite_ev
    | apply Ev.iteR | split | apply Ev.upd | apply Ev.updT | rfl

theorem retentionAdd_ev {μ : Nat} {r s : State} {t : Int} {ms : Nat} (h : Ev μ r s)
    (hm : Cov 0x40000 μ := by exact .use) :
    Ev μ r (retentionAdd s t ms) := by
  unfold retentionAdd
  repeat' with_reducible first
    | assumption | exact .inl .use | exact .inr rfl | exact Cov.use
    | (extract_lets +onlyGivenNames -underBinder s'; refine Ev.cut (m := μ) (r := r) (x := s') ?_ ?_
       all_goals first | (intro h'; clear_value s') | subst s')
    | (extract_lets +onlyGivenNames -underBinder x'; subst x')
    | (refine fun (h' : Ev _ _ _) => ?_) | (intro a b hab) | (intro a hab)
    | apply Ev.iteR | apply Ev.foldl | split | apply Ev.upd | apply Ev.updT | rfl

theorem hibernateRetention_ev {μ : Nat} {r s : State} (h : Ev μ r s)
    (hm : Cov 0x40000 μ := by exact .use) :
    Ev μ r (hibernateRetention s) := by
  unfold hibernateRetention
  repeat' with_reducible first
    | assumption | exact .inl .use | exact .inr rfl | exact Cov.use
    | (refine fun (h' : Ev _ _ _) => ?_) | apply retentionAdd_ev
    | apply Ev.iteR | split | apply Ev.upd | apply Ev.updT | rfl

theorem retentionRewrite_ev {μ : Nat} {r s : State} {p : Nat} (h : Ev μ r s)
    (hm : Cov 0x100000000000000000000000000000000000000000000000000000000000000000000000000000000000000000000000000000000000000000000000000000000000000000040000 μ := by exact .use) :
    Ev μ r (retentionRewrite s p) := by
  unfold retentionRewrite
  repeat' with_reducible first
    | assumption | exact .inl .use | exact .inr rfl | exact Cov.use
    | (extract_lets +onlyGivenNames -underBinder s'; refine Ev.cut (m := μ) (r := r) (x := s') ?_ ?_
       all_goals first | (intro h'; clear_value s') | subst s')
    | (extract_lets +onlyGivenNames -underBinder x'; subst x')
    | (refine fun (h' : Ev _ _ _) => ?_) | apply State.put_ev | apply R.HL_NVp_MAXW_in
    | apply Ev.iteR | split | apply Ev.upd | apply Ev.updT | rfl

theorem dieHot_ev {μ : Nat} {r s : State} {t : Option Int} (h : Ev μ r s)
    (hm : Cov 0x40000 μ := by exact .use) :
    Ev μ r (dieHot s t) := by
  unfold dieHot
  repeat' with_reducible first
    | assumption | exact .inl .use | exact .inr rfl | exact Cov.use
    | (extract_lets +onlyGivenNames -underBinder s'; refine Ev.cut (m := μ) (r := r) (x := s') ?_ ?_
       all_goals first | (intro h'; clear_value s') | subst s')
    | (extract_lets +onlyGivenNames -underBinder x'; subst x')
    | (refine fun (h' : Ev _ _ _) => ?_)
    | apply Ev.iteR | (apply Ev.fst; assumption) | (apply Ev.snd; assumption) | split | apply Ev.upd | apply Ev.updT | rfl

theorem ringMeasure_ev {μ : Nat} {r s : State} {counts : List Nat} (h : Ev μ r s)
    (hm : Cov 0xa0000000000000000040000000000000000000000000000000000000000000000000000000000000000000000000000000000000022000011000000000000000000000002841006 μ := by exact .use) :
    Ev μ r (ringMeasure s counts) := by
  unfold ringMeasure
  repeat' with_reducible first
    | assumption | exact .inl .use | exact .inr rfl | exact Cov.use
    | (extract_lets +onlyGivenNames -underBinder s'; refine Ev.cut (m := μ) (r := r) (x := s') ?_ ?_
       all_goals first | (intro h'; clear_value s') | subst s')
    | (extract_lets +onlyGivenNames -underBinder x'; subst x')
    | (refine fun (h' : Ev _ _ _) => ?_) | (intro a b hab) | (intro a hab) | apply State.runElapsed_ev | apply State.put_ev | apply R.HL_NODE_RL_in | apply R.HL_ROr_DRIFT_in
    | apply Ev.iteR | apply Ev.foldl | split | apply Ev.upd | apply Ev.updT | rfl

theorem rainFeed_ev {μ : Nat} {r s : State} {n : Nat} {v : Nat} {st : Nat} (h : Ev μ r s)
    (hm : Cov 0x1000000000000000000000000000000000000000000000000000000000000000000000000000000000000000000000000000000000000000000000000000000000000000840000 μ := by exact .use) :
    Ev μ r (rainFeed s n v st) := by
  unfold rainFeed
  repeat' with_reducible first
    | assumption | exact .inl .use | exact .inr rfl | exact Cov.use
    | (extract_lets +onlyGivenNames -underBinder s'; refine Ev.cut (m := μ) (r := r) (x := s') ?_ ?_
       all_goals first | (intro h'; clear_value s') | subst s')
    | (extract_lets +onlyGivenNames -underBinder x'; subst x')
    | (refine fun (h' : Ev _ _ _) => ?_) | apply State.bump_ev | apply R.HL_STATUS_OVF_in
    | apply Ev.iteR | (apply Ev.fst; assumption) | (apply Ev.snd; assumption) | split | apply Ev.upd | apply Ev.updT | rfl

theorem hourlyUpdate_ev {μ : Nat} {r s : State} (h : Ev μ r s)
    (hm : Cov 0x40000000000000000000000000000000000000000000000000000000000000000000000000000000000000022000011000000000000000000000002841006 μ := by exact .use) :
    Ev μ r (hourlyUpdate s) := by
  unfold hourlyUpdate
  repeat' with_reducible first
    | assumption | exact .inl .use | exact .inr rfl | exact Cov.use
    | (extract_lets +onlyGivenNames -underBinder s'; refine Ev.cut (m := μ) (r := r) (x := s') ?_ ?_
       all_goals first | (intro h'; clear_value s') | subst s')
    | (extract_lets +onlyGivenNames -underBinder x'; subst x')
    | (refine fun (h' : Ev _ _ _) => ?_) | (intro a b hab) | (intro a hab) | apply State.runElapsed_ev
    | apply Ev.iteR | apply Ev.foldl | (apply Ev.fst; assumption) | (apply Ev.snd; assumption) | split | apply Ev.upd | apply Ev.updT | rfl

theorem dcLinkWindow_ev {μ : Nat} {r s : State} {l : Nat} {samples : List (Int × Int)} (h : Ev μ r s)
    (hm : Cov 0x40000 μ := by exact .use) :
    Ev μ r (dcLinkWindow s l samples) := by
  unfold dcLinkWindow
  repeat' with_reducible first
    | assumption | exact .inl .use | exact .inr rfl | exact Cov.use
    | (extract_lets +onlyGivenNames -underBinder s'; refine Ev.cut (m := μ) (r := r) (x := s') ?_ ?_
       all_goals first | (intro h'; clear_value s') | subst s')
    | (extract_lets +onlyGivenNames -underBinder x'; subst x')
    | (refine fun (h' : Ev _ _ _) => ?_) | (intro a hab)
    | apply Ev.iteR | (apply Ev.fst; assumption) | (apply Ev.snd; assumption) | split | apply Ev.upd | apply Ev.updT | rfl

theorem contactorOpening_ev {μ : Nat} {r s : State} {n : Nat} (h : Ev μ r s)
    (hm : Cov 0x40000 μ := by exact .use) :
    Ev μ r (contactorOpening s n) := by
  unfold contactorOpening
  repeat' with_reducible first
    | assumption | exact .inl .use | exact .inr rfl | exact Cov.use
    | (extract_lets +onlyGivenNames -underBinder s'; refine Ev.cut (m := μ) (r := r) (x := s') ?_ ?_
       all_goals first | (intro h'; clear_value s') | subst s')
    | (extract_lets +onlyGivenNames -underBinder x'; subst x')
    | (refine fun (h' : Ev _ _ _) => ?_)
    | apply Ev.iteR | (apply Ev.fst; assumption) | (apply Ev.snd; assumption) | split | apply Ev.upd | apply Ev.updT | rfl

theorem formReport_ev {μ : Nat} {r s : State} (h : Ev μ r s)
    (hm : Cov 0x23800000000000000004000000000000000000000000000000000000000000007e000000000000000000000000000000000000000000000000000000000000000000000003840020 μ := by exact .use) :
    Ev μ r (formReport s) := by
  unfold formReport
  repeat' with_reducible first
    | assumption | exact .inl .use | exact .inr rfl | exact Cov.use
    | (extract_lets +onlyGivenNames -underBinder s'; refine Ev.cut (m := μ) (r := r) (x := s') ?_ ?_
       all_goals first | (intro h'; clear_value s') | subst s')
    | (extract_lets +onlyGivenNames -underBinder x'; subst x')
    | (refine fun (h' : Ev _ _ _) => ?_) | (intro a b hab) | (intro a hab) | apply State.put_ev | apply State.putPair_ev | apply State.irq_ev | apply postHw_ev | apply R.HL_FLAGS_HI_F_in | apply R.HL_FLAGS_LO_F_in | apply R.HL_LEGn_D_D_in | apply R.HL_NODE_RL_in
    | apply Ev.iteR | apply Ev.foldl | split | apply Ev.upd | apply Ev.updT | rfl

theorem healthCheck_ev {μ : Nat} {r s : State} (h : Ev μ r s)
    (hm : Cov 0x23800000000000000004000000000000000000000000000000000000000000007e000000000000000000000000000000000000000000000000000000000000000000000003840020 μ := by exact .use) :
    Ev μ r (healthCheck s) := by
  unfold healthCheck
  repeat' with_reducible first
    | assumption | exact .inl .use | exact .inr rfl | exact Cov.use
    | (refine fun (h' : Ev _ _ _) => ?_) | apply formReport_ev
    | apply Ev.iteR | split | apply Ev.upd | apply Ev.updT | rfl

theorem dieTempSample_ev {μ : Nat} {r s : State} {temps : List Int} (h : Ev μ r s)
    (hm : Cov 0x27800000000000000004000000000000000000000000000000000000000000007e000000000000000000000000000000000000000022000011000000000000000000000003841026 μ := by exact .use) :
    Ev μ r (dieTempSample s temps) := by
  unfold dieTempSample
  repeat' with_reducible first
    | assumption | exact .inl .use | exact .inr rfl | exact Cov.use
    | (extract_lets +onlyGivenNames -underBinder s'; refine Ev.cut (m := μ) (r := r) (x := s') ?_ ?_
       all_goals first | (intro h'; clear_value s') | subst s')
    | (extract_lets +onlyGivenNames -underBinder x'; subst x')
    | (refine fun (h' : Ev _ _ _) => ?_) | (intro a b hab) | (intro a hab) | apply State.runElapsed_ev | apply State.put_ev | apply healthCheck_ev | apply dieHot_ev | apply retentionAdd_ev | apply R.HL_TEMPs_T_in
    | apply Ev.iteR | apply Ev.foldl | split | apply Ev.upd | apply Ev.updT | rfl

theorem reportNow_ev {μ : Nat} {r s : State} (h : Ev μ r s)
    (hm : Cov 0x23800000000000000004000000000000000000000000000000000000000000007e000000000000000000000000000000000000000000000000000000000000000000000003840020 μ := by exact .use) :
    Ev μ r (reportNow s) := by
  unfold reportNow
  repeat' with_reducible first
    | assumption | exact .inl .use | exact .inr rfl | exact Cov.use
    | (refine fun (h' : Ev _ _ _) => ?_) | apply formReport_ev
    | apply Ev.iteR | split | apply Ev.upd | apply Ev.updT | rfl

theorem reportPeriod_ev {μ : Nat} {r s : State} (h : Ev μ r s)
    (hm : Cov 0x23800000000000000004000000000000000000000000000000000000000000007e000000000000000000000000000000000000000022000011000000000000000000000003841026 μ := by exact .use) :
    Ev μ r (reportPeriod s) := by
  unfold reportPeriod
  repeat' with_reducible first
    | assumption | exact .inl .use | exact .inr rfl | exact Cov.use
    | (extract_lets +onlyGivenNames -underBinder s'; refine Ev.cut (m := μ) (r := r) (x := s') ?_ ?_
       all_goals first | (intro h'; clear_value s') | subst s')
    | (extract_lets +onlyGivenNames -underBinder x'; subst x')
    | (refine fun (h' : Ev _ _ _) => ?_) | apply State.runElapsed_ev | apply formReport_ev
    | apply Ev.iteR | split | apply Ev.upd | apply Ev.updT | rfl

theorem counterWrite_ev {μ : Nat} {r s : State} (h : Ev μ r s)
    (hm : Cov 0x100000000000000000000000000000000000000000000000000000000000000000000000000000000000000000000000000000000000000000000000000000000000000000040000 μ := by exact .use) :
    Ev μ r (counterWrite s) := by
  unfold counterWrite
  repeat' with_reducible first
    | assumption | exact .inl .use | exact .inr rfl | exact Cov.use
    | (extract_lets +onlyGivenNames -underBinder s'; refine Ev.cut (m := μ) (r := r) (x := s') ?_ ?_
       all_goals first | (intro h'; clear_value s') | subst s')
    | (extract_lets +onlyGivenNames -underBinder x'; subst x')
    | (refine fun (h' : Ev _ _ _) => ?_) | apply nvWrite_ev
    | apply Ev.iteR | split | apply Ev.upd | apply Ev.updT | rfl

theorem counterFlush_ev {μ : Nat} {r s : State} (h : Ev μ r s)
    (hm : Cov 0x100000000000000000040000000000000000000000000000000000000000000000000000000000000000000000000000000000000022000011000000000000000000000002841006 μ := by exact .use) :
    Ev μ r (counterFlush s) := by
  unfold counterFlush
  repeat' with_reducible first
    | assumption | exact .inl .use | exact .inr rfl | exact Cov.use
    | (refine fun (h' : Ev _ _ _) => ?_) | apply counterWrite_ev | apply State.runElapsed_ev
    | apply Ev.iteR | split | apply Ev.upd | apply Ev.updT | rfl

theorem countsLost_ev {μ : Nat} {r s : State} (h : Ev μ r s)
    (hm : Cov 0x100800000000000000000000000000000000000000000000000000000000000000000000000000000000000000000000000000000000000000000000000000000000000000c40000 μ := by exact .use) :
    Ev μ r (countsLost s) := by
  unfold countsLost
  repeat' with_reducible first
    | assumption | exact .inl .use | exact .inr rfl | exact Cov.use
    | (extract_lets +onlyGivenNames -underBinder s'; refine Ev.cut (m := μ) (r := r) (x := s') ?_ ?_
       all_goals first | (intro h'; clear_value s') | subst s')
    | (extract_lets +onlyGivenNames -underBinder x'; subst x')
    | (refine fun (h' : Ev _ _ _) => ?_) | apply journalAdd_ev | apply State.mark_ev | apply R.HL_STATUS_COUNT_LOST_in
    | apply Ev.iteR | split | apply Ev.upd | apply Ev.updT | rfl

theorem healthActivate_ev {μ : Nat} {r s : State} {was : List Nat} (h : Ev μ r s)
    (hm : Cov 0x100400000000000000000000000000000000000000000000000000000000000000000000000000000000000000000000000000000000000000000000000000000000000000440000 μ := by exact .use) :
    Ev μ r (healthActivate s was) := by
  unfold healthActivate
  repeat' with_reducible first
    | assumption | exact .inl .use | exact .inr rfl | exact Cov.use
    | (extract_lets +onlyGivenNames -underBinder s'; refine Ev.cut (m := μ) (r := r) (x := s') ?_ ?_
       all_goals first | (intro h'; clear_value s') | subst s')
    | (extract_lets +onlyGivenNames -underBinder x'; subst x')
    | (refine fun (h' : Ev _ _ _) => ?_) | (intro a b hab) | (intro a hab) | apply State.put_ev | apply journalAdd_ev | apply R.HL_STATUS_RUN_in
    | apply Ev.iteR | apply Ev.foldl | split | apply Ev.upd | apply Ev.updT | rfl

theorem mrExtend_ev {μ : Nat} {r s : State} {i : Nat} {d : Bytes} (h : Ev μ r s)
    (hm : Cov 0x28000000000000000000000000000000000000000000000000000000000000000000000000000000000000000000000000000000000008000 μ := by exact .use) :
    Ev μ r (mrExtend s i d) := by
  unfold mrExtend
  repeat' with_reducible first
    | assumption | exact .inl .use | exact .inr rfl | exact Cov.use
    | (extract_lets +onlyGivenNames -underBinder s'; refine Ev.cut (m := μ) (r := r) (x := s') ?_ ?_
       all_goals first | (intro h'; clear_value s') | subst s')
    | (extract_lets +onlyGivenNames -underBinder x'; subst x')
    | (refine fun (h' : Ev _ _ _) => ?_) | apply State.put_ev | apply R.SEC_STATUS_LOGFULL_in | apply R.SEC_STATUS_LOGN_in
    | apply Ev.iteR | split | apply Ev.upd | apply Ev.updT | rfl

theorem counterRaise_ev {μ : Nat} {r s : State} {i : Nat} {v : Nat} (h : Ev μ r s)
    (hm : Cov 0x100000000000000000000400000000000000000000000000000000000000000000000000000000000000000000000000000000000000000000000000000000000000000000040000 μ := by exact .use) :
    Ev μ r (counterRaise s i v) := by
  unfold counterRaise
  repeat' with_reducible first
    | assumption | exact .inl .use | exact .inr rfl | exact Cov.use
    | (refine fun (h' : Ev _ _ _) => ?_) | apply State.put_ev | apply nvWrite_ev | apply R.SEC_RBi_COUNT_in
    | apply Ev.iteR | split | apply Ev.upd | apply Ev.updT | rfl

theorem securityEnvelope_ev {μ : Nat} {r s : State} {event : Nat} {code : Nat} {peer : Nat} {session : Nat} {value : Nat} (h : Ev μ r s)
    (hm : Cov 0x4000000000000000000000000000000000000000000007e000000000000000000000000000000000000000000000000000000000000000000000003800020 μ := by exact .use) :
    Ev μ r (securityEnvelope s event code peer session value) := by
  unfold securityEnvelope
  repeat' with_reducible first
    | assumption | exact .inl .use | exact .inr rfl | exact Cov.use
    | (refine fun (h' : Ev _ _ _) => ?_) | apply postHw_ev | apply State.irq_ev
    | apply Ev.iteR | split | apply Ev.upd | apply Ev.updT | rfl

theorem measureIdent_ev {μ : Nat} {r s : State} (h : Ev μ r s)
    (hm : Cov 0x28000000000000000000000000000000000000000000000000000000000000000000000000000000000000000000000000000000000008000 μ := by exact .use) :
    Ev μ r (measureIdent s) := by
  unfold measureIdent
  repeat' with_reducible first
    | assumption | exact .inl .use | exact .inr rfl | exact Cov.use
    | (refine fun (h' : Ev _ _ _) => ?_) | apply mrExtend_ev
    | apply Ev.iteR | split | apply Ev.upd | apply Ev.updT | rfl

theorem memWrite_ok {m : List Host.Cell} {a : Nat} {bs : Bytes} (h : Memory.wf m = true ∧ ∀ e ∈ m, e.1 < 33554432) :
    Memory.wf (memWrite m a bs) = true ∧ ∀ e ∈ memWrite m a bs, e.1 < 33554432 := by
  induction bs generalizing m a with
  | nil => exact h
  | cons b bs ih =>
    refine ih ?_
    split
    · rename_i ha
      exact ⟨swf_sset h.1, fun e he => by
        obtain rfl | g := mem_sset he
        · exact ha
        · exact h.2 e g⟩
    · exact h

theorem State.capWrite_ev {μ : Nat} {r s : State} {a : Nat} {bs : Bytes} (h : Ev μ r s) (hm : Cov 0x4000040 μ := by exact .use) : Ev μ r (s.capWrite a bs) :=
  h.memory fun g => ⟨(memWrite_ok ⟨g.1, g.2.1⟩).1, (memWrite_ok ⟨g.1, g.2.1⟩).2, g.2.2⟩

theorem State.setWin_ev {μ : Nat} {r s : State} {w : Nat} {x : Win} (h : Ev μ r s)
    (hm : Cov 0x40 μ := by exact .use) :
    Ev μ r (State.setWin s w x) := by
  unfold State.setWin
  repeat' with_reducible first
    | assumption | exact .inl .use | exact .inr rfl | exact Cov.use
    | (refine fun (h' : Ev _ _ _) => ?_)
    | apply Ev.iteR | split | apply Ev.upd | apply Ev.updT | rfl

theorem writeHeader_ev {μ : Nat} {r s : State} {w : Nat} {state : Nat} (h : Ev μ r s)
    (hm : Cov 0x4000040 μ := by exact .use) :
    Ev μ r (writeHeader s w state) := by
  unfold writeHeader
  repeat' with_reducible first
    | assumption | exact .inl .use | exact .inr rfl | exact Cov.use
    | (refine fun (h' : Ev _ _ _) => ?_) | apply State.capWrite_ev
    | apply Ev.iteR | split | apply Ev.upd | apply Ev.updT | rfl

theorem setWinState_ev {μ : Nat} {r s : State} {w : Nat} {st : Nat} (h : Ev μ r s)
    (hm : Cov 0x200000000000030000000000000000000000000000000000000000000000000000000000000000000000000000000000000 μ := by exact .use) :
    Ev μ r (setWinState s w st) := by
  unfold setWinState
  repeat' with_reducible first
    | assumption | exact .inl .use | exact .inr rfl | exact Cov.use
    | (extract_lets +onlyGivenNames -underBinder s'; refine Ev.cut (m := μ) (r := r) (x := s') ?_ ?_
       all_goals first | (intro h'; clear_value s') | subst s')
    | (extract_lets +onlyGivenNames -underBinder x'; subst x')
    | (refine fun (h' : Ev _ _ _) => ?_) | apply State.put_ev | apply R.CAP_STATUS_ARMED_in | apply R.CAP_STATUS_DONE_in | apply R.CAP_WINw_STAT_STATE_in
    | apply Ev.iteR | split | apply Ev.upd | apply Ev.updT | rfl

theorem missTrigger_ev {μ : Nat} {r s : State} {w : Nat} {st : Nat} {t : Trig} (h : Ev μ r s)
    (hm : Cov 0x6000000000000000000000000000000000000000000000000000000000000000000000000000000000000000000004800040 μ := by exact .use) :
    Ev μ r (missTrigger s w st t) := by
  unfold missTrigger
  repeat' with_reducible first
    | assumption | exact .inl .use | exact .inr rfl | exact Cov.use
    | (extract_lets +onlyGivenNames -underBinder s'; refine Ev.cut (m := μ) (r := r) (x := s') ?_ ?_
       all_goals first | (intro h'; clear_value s') | subst s')
    | (extract_lets +onlyGivenNames -underBinder x'; subst x')
    | (refine fun (h' : Ev _ _ _) => ?_) | apply State.capWrite_ev | apply State.put_ev | apply State.bump_ev | apply State.setWin_ev | apply R.CAP_WINw_MISS_COUNT_in | apply R.CAP_WINw_MISS_NEXT_in
    | apply Ev.iteR | split | apply Ev.upd | apply Ev.updT | rfl

theorem segmentClose_ev {μ : Nat} {r s : State} {w : Nat} (h : Ev μ r s)
    (hm : Cov 0x1200000000000030000000000000000000000000000000000000000000000000000000000000000000000000000004800040 μ := by exact .use) :
    Ev μ r (segmentClose s w) := by
  unfold segmentClose
  repeat' with_reducible first
    | assumption | exact .inl .use | exact .inr rfl | exact Cov.use
    | (extract_lets +onlyGivenNames -underBinder s'; refine Ev.cut (m := μ) (r := r) (x := s') ?_ ?_
       all_goals first | (intro h'; clear_value s') | subst s')
    | (extract_lets +onlyGivenNames -underBinder x'; subst x')
    | (refine fun (h' : Ev _ _ _) => ?_) | apply writeHeader_ev | apply State.bump_ev | apply State.setWin_ev | apply setWinState_ev | apply R.CAP_WINw_STAT_NDONE_in
    | apply Ev.iteR | split | apply Ev.upd | apply Ev.updT | rfl

theorem closeIfDone_ev {μ : Nat} {r s : State} {w : Nat} (h : Ev μ r s)
    (hm : Cov 0x1200000000000030000000000000000000000000000000000000000000000000000000000000000000000000000004800040 μ := by exact .use) :
    Ev μ r (closeIfDone s w) := by
  unfold closeIfDone
  repeat' with_reducible first
    | assumption | exact .inl .use | exact .inr rfl | exact Cov.use
    | (refine fun (h' : Ev _ _ _) => ?_) | apply segmentClose_ev
    | apply Ev.iteR | split | apply Ev.upd | apply Ev.updT | rfl

theorem takeTrigger_ev {μ : Nat} {r s : State} {w : Nat} {t : Trig} {back : Nat} {frac : Nat} (h : Ev μ r s)
    (hm : Cov 0x200000000000030000000000000000000000000000000000000000000000000000000000000000000000000000000000040 μ := by exact .use) :
    Ev μ r (takeTrigger s w t back frac) := by
  unfold takeTrigger
  repeat' with_reducible first
    | assumption | exact .inl .use | exact .inr rfl | exact Cov.use
    | (extract_lets +onlyGivenNames -underBinder s'; refine Ev.cut (m := μ) (r := r) (x := s') ?_ ?_
       all_goals first | (intro h'; clear_value s') | subst s')
    | (extract_lets +onlyGivenNames -underBinder x'; subst x')
    | (refine fun (h' : Ev _ _ _) => ?_) | apply State.setWin_ev | apply setWinState_ev
    | apply Ev.iteR | split | apply Ev.upd | apply Ev.updT | rfl

theorem offerTrigger_ev {μ : Nat} {r s : State} {w : Nat} {t : Trig} (h : Ev μ r s)
    (hm : Cov 0x6000000000000000000000000000000000000000000000000000000000000000000000000000000000000000000004800040 μ := by exact .use) :
    Ev μ r (offerTrigger s w t) := by
  unfold offerTrigger
  repeat' with_reducible first
    | assumption | exact .inl .use | exact .inr rfl | exact Cov.use
    | (extract_lets +onlyGivenNames -underBinder s'; refine Ev.cut (m := μ) (r := r) (x := s') ?_ ?_
       all_goals first | (intro h'; clear_value s') | subst s')
    | (extract_lets +onlyGivenNames -underBinder x'; subst x')
    | (refine fun (h' : Ev _ _ _) => ?_) | apply State.setWin_ev | apply missTrigger_ev
    | apply Ev.iteR | split | apply Ev.upd | apply Ev.updT | rfl

theorem capEdge_ev {μ : Nat} {r s : State} {kind : Nat} {tid : Nat} {fine : Nat} (h : Ev μ r s)
    (hm : Cov 0x6000000000000000000000000000000000000000000000000000000000000000000000000000000000000000000004800040 μ := by exact .use) :
    Ev μ r (capEdge s kind tid fine) := by
  unfold capEdge
  repeat' with_reducible first
    | assumption | exact .inl .use | exact .inr rfl | exact Cov.use
    | (refine fun (h' : Ev _ _ _) => ?_) | (intro a b hab) | (intro a hab) | apply offerTrigger_ev
    | apply Ev.iteR | apply Ev.foldl | split | apply Ev.upd | apply Ev.updT | rfl

theorem placeTrigger_ev {μ : Nat} {r s : State} {u : Nat} {st : Nat} {w : Nat} {t : Trig} (h : Ev μ r s)
    (hm : Cov 0x6200000000000030000000000000000000000000000000000000000000000000000000000000000000000000000004800040 μ := by exact .use) :
    Ev μ r (placeTrigger u st s w t) := by
  unfold placeTrigger
  repeat' with_reducible first
    | assumption | exact .inl .use | exact .inr rfl | exact Cov.use
    | (extract_lets +onlyGivenNames -underBinder s'; refine Ev.cut (m := μ) (r := r) (x := s') ?_ ?_
       all_goals first | (intro h'; clear_value s') | subst s')
    | (extract_lets +onlyGivenNames -underBinder x'; subst x')
    | (refine fun (h' : Ev _ _ _) => ?_) | apply missTrigger_ev | apply takeTrigger_ev | apply capEdge_ev
    | apply Ev.iteR | (apply Ev.fst; assumption) | (apply Ev.snd; assumption) | split | apply Ev.upd | apply Ev.updT | rfl

theorem placePending_ev {μ : Nat} {r s : State} {w : Nat} {u : Nat} (h : Ev μ r s)
    (hm : Cov 0x6200000000000030000000000000000000000000000000000000000000000000000000000000000000000000000004800040 μ := by exact .use) :
    Ev μ r (placePending s w u) := by
  unfold placePending
  repeat' with_reducible first
    | assumption | exact .inl .use | exact .inr rfl | exact Cov.use
    | (extract_lets +onlyGivenNames -underBinder s'; refine Ev.cut (m := μ) (r := r) (x := s') ?_ ?_
       all_goals first | (intro h'; clear_value s') | subst s')
    | (extract_lets +onlyGivenNames -underBinder x'; subst x')
    | (refine fun (h' : Ev _ _ _) => ?_) | (intro a b hab) | (intro a hab) | apply placeTrigger_ev | apply State.setWin_ev
    | apply Ev.iteR | apply Ev.foldl | (apply Ev.fst; assumption) | (apply Ev.snd; assumption) | split | apply Ev.upd | apply Ev.updT | rfl

theorem flushWaits_ev {μ : Nat} {r s : State} {w : Nat} (h : Ev μ r s)
    (hm : Cov 0x6000000000000000000000000000000000000000000000000000000000000000000000000000000000000000000004800040 μ := by exact .use) :
    Ev μ r (flushWaits s w) := by
  unfold flushWaits
  repeat' with_reducible first
    | assumption | exact .inl .use | exact .inr rfl | exact Cov.use
    | (extract_lets +onlyGivenNames -underBinder s'; refine Ev.cut (m := μ) (r := r) (x := s') ?_ ?_
       all_goals first | (intro h'; clear_value s') | subst s')
    | (extract_lets +onlyGivenNames -underBinder x'; subst x')
    | (refine fun (h' : Ev _ _ _) => ?_) | (intro a b hab) | (intro a hab) | apply missTrigger_ev | apply State.setWin_ev
    | apply Ev.iteR | apply Ev.foldl | split | apply Ev.upd | apply Ev.updT | rfl

theorem putRow_ev {μ : Nat} {r s : State} {w : Nat} {u : Nat} {sense : Sparse SenseOut} (h : Ev μ r s)
    (hm : Cov 0x4000040 μ := by exact .use) :
    Ev μ r (putRow s w u sense) := by
  unfold putRow
  repeat' with_reducible first
    | assumption | exact .inl .use | exact .inr rfl | exact Cov.use
    | (extract_lets +onlyGivenNames -underBinder s'; refine Ev.cut (m := μ) (r := r) (x := s') ?_ ?_
       all_goals first | (intro h'; clear_value s') | subst s')
    | (extract_lets +onlyGivenNames -underBinder x'; subst x')
    | (refine fun (h' : Ev _ _ _) => ?_) | apply State.capWrite_ev | apply State.setWin_ev
    | apply Ev.iteR | split | apply Ev.upd | apply Ev.updT | rfl

theorem capRow_ev {μ : Nat} {r s : State} {w : Nat} {u : Nat} {sense : Sparse SenseOut} (h : Ev μ r s)
    (hm : Cov 0x7a00000000000030000000000000000000000000000000000000000000000000000000000000000000000000000004800040 μ := by exact .use) :
    Ev μ r (capRow s w u sense) := by
  unfold capRow
  repeat' with_reducible first
    | assumption | exact .inl .use | exact .inr rfl | exact Cov.use
    | (extract_lets +onlyGivenNames -underBinder s'; refine Ev.cut (m := μ) (r := r) (x := s') ?_ ?_
       all_goals first | (intro h'; clear_value s') | subst s')
    | (extract_lets +onlyGivenNames -underBinder x'; subst x')
    | (refine fun (h' : Ev _ _ _) => ?_) | apply closeIfDone_ev | apply placePending_ev | apply State.put_ev | apply State.setWin_ev | apply writeHeader_ev | apply setWinState_ev | apply flushWaits_ev | apply putRow_ev | apply capEdge_ev | apply takeTrigger_ev | apply missTrigger_ev | apply R.CAP_WINw_STAT_SEG_in
    | apply Ev.iteR | split | apply Ev.upd | apply Ev.updT | rfl

theorem capFrameRows_ev {μ : Nat} {r s : State} {k : Nat} {fk : Nat} (h : Ev μ r s)
    (hm : Cov 0x7a00000000000030000000000000000000000000000000000000000000000000000000000000000000000000000004800040 μ := by exact .use) :
    Ev μ r (capFrameRows s k fk) := by
  unfold capFrameRows
  repeat' with_reducible first
    | assumption | exact .inl .use | exact .inr rfl | exact Cov.use
    | (refine fun (h' : Ev _ _ _) => ?_) | (intro a b hab) | (intro a hab) | apply capRow_ev
    | apply Ev.iteR | apply Ev.foldl | split | apply Ev.upd | apply Ev.updT | rfl

theorem capChannelRows_ev {μ : Nat} {r s : State} {c : Nat} {u : Nat} (h : Ev μ r s)
    (hm : Cov 0x7a00000000000030000000000000000000000000000000000000000000000000000000000000000000000000000004800040 μ := by exact .use) :
    Ev μ r (capChannelRows s c u) := by
  unfold capChannelRows
  repeat' with_reducible first
    | assumption | exact .inl .use | exact .inr rfl | exact Cov.use
    | (refine fun (h' : Ev _ _ _) => ?_) | (intro a b hab) | (intro a hab) | apply capRow_ev
    | apply Ev.iteR | apply Ev.foldl | split | apply Ev.upd | apply Ev.updT | rfl

theorem windowArm_ev {μ : Nat} {r s : State} {w : Nat} (h : Ev μ r s)
    (hm : Cov 0x1e00000000000030000000000000000000000000000000000000000000000000000000000000000000000000000004000040 μ := by exact .use) :
    Ev μ r (windowArm s w) := by
  unfold windowArm
  repeat' with_reducible first
    | assumption | exact .inl .use | exact .inr rfl | exact Cov.use
    | (extract_lets +onlyGivenNames -underBinder s'; refine Ev.cut (m := μ) (r := r) (x := s') ?_ ?_
       all_goals first | (intro h'; clear_value s') | subst s')
    | (extract_lets +onlyGivenNames -underBinder x'; subst x')
    | (refine fun (h' : Ev _ _ _) => ?_) | apply State.put_ev | apply State.setWin_ev | apply writeHeader_ev | apply setWinState_ev | apply R.CAP_WINw_STAT_ARMERR_in | apply R.CAP_WINw_STAT_NDONE_in | apply R.CAP_WINw_STAT_SEG_in
    | apply Ev.iteR | (apply Ev.fst; assumption) | (apply Ev.snd; assumption) | split | apply Ev.upd | apply Ev.updT | rfl

theorem windowCut_ev {μ : Nat} {r s : State} {w : Nat} {state : Nat} (h : Ev μ r s)
    (hm : Cov 0x6200000000000030000000000000000000000000000000000000000000000000000000000000000000000000000004800040 μ := by exact .use) :
    Ev μ r (windowCut s w state) := by
  unfold windowCut
  repeat' with_reducible first
    | assumption | exact .inl .use | exact .inr rfl | exact Cov.use
    | (extract_lets +onlyGivenNames -underBinder s'; refine Ev.cut (m := μ) (r := r) (x := s') ?_ ?_
       all_goals first | (intro h'; clear_value s') | subst s')
    | (extract_lets +onlyGivenNames -underBinder x'; subst x')
    | (refine fun (h' : Ev _ _ _) => ?_) | apply flushWaits_ev | apply writeHeader_ev | apply setWinState_ev | apply State.setWin_ev
    | apply Ev.iteR | split | apply Ev.upd | apply Ev.updT | rfl

theorem windowStop_ev {μ : Nat} {r s : State} {w : Nat} (h : Ev μ r s)
    (hm : Cov 0x6200000000000030000000000000000000000000000000000000000000000000000000000000000000000000000004800040 μ := by exact .use) :
    Ev μ r (windowStop s w) := by
  unfold windowStop
  repeat' with_reducible first
    | assumption | exact .inl .use | exact .inr rfl | exact Cov.use
    | (refine fun (h' : Ev _ _ _) => ?_) | apply windowCut_ev
    | apply Ev.iteR | split | apply Ev.upd | apply Ev.updT | rfl

theorem windowForce_ev {μ : Nat} {r s : State} {w : Nat} (h : Ev μ r s)
    (hm : Cov 0x6000000000000000000000000000000000000000000000000000000000000000000000000000000000000000000004800040 μ := by exact .use) :
    Ev μ r (windowForce s w) := by
  unfold windowForce
  repeat' with_reducible first
    | assumption | exact .inl .use | exact .inr rfl | exact Cov.use
    | (refine fun (h' : Ev _ _ _) => ?_) | apply offerTrigger_ev
    | apply Ev.iteR | split | apply Ev.upd | apply Ev.updT | rfl

theorem capActivation_ev {μ : Nat} {r s : State} (h : Ev μ r s)
    (hm : Cov 0x6200000000000030000000000000000000000000000000000000000000000000000000000000000000000000000004800040 μ := by exact .use) :
    Ev μ r (capActivation s) := by
  unfold capActivation
  repeat' with_reducible first
    | assumption | exact .inl .use | exact .inr rfl | exact Cov.use
    | (refine fun (h' : Ev _ _ _) => ?_) | (intro a b hab) | (intro a hab) | apply windowCut_ev
    | apply Ev.iteR | apply Ev.foldl | split | apply Ev.upd | apply Ev.updT | rfl

theorem capReset_ev {μ : Nat} {r s : State} (h : Ev μ r s)
    (hm : Cov 0x6200000000000030000000000000000000000000000000000000000000000000000000000000000000000000000004800040 μ := by exact .use) :
    Ev μ r (capReset s) := by
  unfold capReset
  repeat' with_reducible first
    | assumption | exact .inl .use | exact .inr rfl | exact Cov.use
    | (refine fun (h' : Ev _ _ _) => ?_) | (intro a b hab) | (intro a hab) | apply windowCut_ev
    | apply Ev.iteR | apply Ev.foldl | split | apply Ev.upd | apply Ev.updT | rfl

theorem frPut_ev {μ : Nat} {r s : State} {off v : Nat} (h : Ev μ r s) (hm : Cov 0x4000040 μ := by exact .use) : Ev μ r (frPut s off v) := by
  unfold frPut
  split
  · exact h.memory fun g => ⟨g.1, g.2.1, swf_sset g.2.2⟩
  · exact State.capWrite_ev h

theorem frPutBytes_ev {μ : Nat} {r s : State} {off : Nat} {bs : Bytes} (h : Ev μ r s)
    (hm : Cov 0x4000040 μ := by exact .use) :
    Ev μ r (frPutBytes s off bs) := by
  unfold frPutBytes
  repeat' with_reducible first
    | assumption | exact .inl .use | exact .inr rfl | exact Cov.use
    | (refine fun (h' : Ev _ _ _) => ?_) | (intro a b hab) | (intro a hab) | apply frPut_ev
    | apply Ev.iteR | apply Ev.foldl | split | apply Ev.upd | apply Ev.updT | rfl

theorem frPointers_ev {μ : Nat} {r s : State} (h : Ev μ r s)
    (hm : Cov 0x1e0000000000000000000000000000000000000000000000000000000000000000000000000000000004000040 μ := by exact .use) :
    Ev μ r (frPointers s) := by
  unfold frPointers
  repeat' with_reducible first
    | assumption | exact .inl .use | exact .inr rfl | exact Cov.use
    | (extract_lets +onlyGivenNames -underBinder s'; refine Ev.cut (m := μ) (r := r) (x := s') ?_ ?_
       all_goals first | (intro h'; clear_value s') | subst s')
    | (extract_lets +onlyGivenNames -underBinder x'; subst x')
    | (refine fun (h' : Ev _ _ _) => ?_) | apply frPut_ev | apply State.putPair_ev | apply R.CAP_FRNEWK_HI_K_in | apply R.CAP_FRNEWK_LO_K_in | apply R.CAP_FROLDK_HI_K_in | apply R.CAP_FROLDK_LO_K_in
    | apply Ev.iteR | split | apply Ev.upd | apply Ev.updT | rfl

theorem frEmpty_ev {μ : Nat} {r s : State} (h : Ev μ r s) (hm : Cov 0x1e0000000000000000000000000000000000000000000000000000000000000000000000000000000004000040 μ := by exact .use) : Ev μ r (frEmpty s) :=
  frPointers_ev (frPutBytes_ev (h.memory fun g => ⟨g.1, g.2.1, rfl⟩))

theorem frAppend_ev {μ : Nat} {r s : State} {kind : Nat} {flags : Nat} {k : Nat} {body : Bytes} (h : Ev μ r s)
    (hm : Cov 0x1e0000000000000000000000000000000000000000000000000000000000000000000000000000000004000040 μ := by exact .use) :
    Ev μ r (frAppend s kind flags k body) := by
  unfold frAppend
  repeat' with_reducible first
    | assumption | exact .inl .use | exact .inr rfl | exact Cov.use
    | (extract_lets +onlyGivenNames -underBinder s'; refine Ev.cut (m := μ) (r := r) (x := s') ?_ ?_
       all_goals first | (intro h'; clear_value s') | subst s')
    | (extract_lets +onlyGivenNames -underBinder x'; subst x')
    | (refine fun (h' : Ev _ _ _) => ?_) | (intro a hab) | apply frPutBytes_ev | apply frPointers_ev
    | apply Ev.iteR | (apply Ev.fst; assumption) | (apply Ev.snd; assumption) | split | apply Ev.upd | apply Ev.updT | rfl

theorem frFrame_ev {μ : Nat} {r s : State} {flags : Nat} {k : Nat} {body : Bytes} (h : Ev μ r s)
    (hm : Cov 0x1e2000000000000000000000000000000000000000000000000000000000000000000000000000000004800040 μ := by exact .use) :
    Ev μ r (frFrame s flags k body) := by
  unfold frFrame
  repeat' with_reducible first
    | assumption | exact .inl .use | exact .inr rfl | exact Cov.use
    | (extract_lets +onlyGivenNames -underBinder s'; refine Ev.cut (m := μ) (r := r) (x := s') ?_ ?_
       all_goals first | (intro h'; clear_value s') | subst s')
    | (extract_lets +onlyGivenNames -underBinder x'; subst x')
    | (refine fun (h' : Ev _ _ _) => ?_) | apply frAppend_ev | apply State.bump_ev | apply R.CAP_FRSTAT_GAPS_in
    | apply Ev.iteR | split | apply Ev.upd | apply Ev.updT | rfl

theorem frHold_ev {μ : Nat} {r s : State} {cause : Nat} (h : Ev μ r s)
    (hm : Cov 0x1840000000000000000000000000000000000000000000000000000000000000000000000000000000000040 μ := by exact .use) :
    Ev μ r (frHold s cause) := by
  unfold frHold
  repeat' with_reducible first
    | assumption | exact .inl .use | exact .inr rfl | exact Cov.use
    | (extract_lets +onlyGivenNames -underBinder s'; refine Ev.cut (m := μ) (r := r) (x := s') ?_ ?_
       all_goals first | (intro h'; clear_value s') | subst s')
    | (extract_lets +onlyGivenNames -underBinder x'; subst x')
    | (refine fun (h' : Ev _ _ _) => ?_) | apply State.put_ev | apply R.CAP_FRCFG_HOLD_in | apply R.CAP_FRSTAT_HCAUSE_in | apply R.CAP_FRSTAT_REC_in
    | apply Ev.iteR | split | apply Ev.upd | apply Ev.updT | rfl

theorem frRelease_ev {μ : Nat} {r s : State} (h : Ev μ r s)
    (hm : Cov 0x1e1840000000000000000000000000000000000000000000000000000000000000000000000000000004000040 μ := by exact .use) :
    Ev μ r (frRelease s) := by
  unfold frRelease
  repeat' with_reducible first
    | assumption | exact .inl .use | exact .inr rfl | exact Cov.use
    | (extract_lets +onlyGivenNames -underBinder s'; refine Ev.cut (m := μ) (r := r) (x := s') ?_ ?_
       all_goals first | (intro h'; clear_value s') | subst s')
    | (extract_lets +onlyGivenNames -underBinder x'; subst x')
    | (refine fun (h' : Ev _ _ _) => ?_) | apply State.put_ev | apply frEmpty_ev | apply R.CAP_FRCFG_HOLD_in | apply R.CAP_FRSTAT_HCAUSE_in | apply R.CAP_FRSTAT_REC_in
    | apply Ev.iteR | split | apply Ev.upd | apply Ev.updT | rfl

theorem holdCause_ev {μ : Nat} {r s : State} {bit : Nat} (h : Ev μ r s)
    (hm : Cov 0x40 μ := by exact .use) :
    Ev μ r (holdCause s bit) := by
  unfold holdCause
  repeat' with_reducible first
    | assumption | exact .inl .use | exact .inr rfl | exact Cov.use
    | (refine fun (h' : Ev _ _ _) => ?_)
    | apply Ev.iteR | split | apply Ev.upd | apply Ev.updT | rfl

theorem autoholdStop_ev {μ : Nat} {r s : State} (h : Ev μ r s)
    (hm : Cov 0x1840000000000000000000000000000000000000000000000000000000000000000000000000000000000040 μ := by exact .use) :
    Ev μ r (autoholdStop s) := by
  unfold autoholdStop
  repeat' with_reducible first
    | assumption | exact .inl .use | exact .inr rfl | exact Cov.use
    | (refine fun (h' : Ev _ _ _) => ?_) | apply frHold_ev
    | apply Ev.iteR | (apply Ev.fst; assumption) | (apply Ev.snd; assumption) | split | apply Ev.upd | apply Ev.updT | rfl

theorem holdTick_ev {μ : Nat} {r s : State} (h : Ev μ r s)
    (hm : Cov 0x40 μ := by exact .use) :
    Ev μ r (holdTick s) := by
  unfold holdTick
  repeat' with_reducible first
    | assumption | exact .inl .use | exact .inr rfl | exact Cov.use
    | (refine fun (h' : Ev _ _ _) => ?_)
    | apply Ev.iteR | (apply Ev.fst; assumption) | (apply Ev.snd; assumption) | split | apply Ev.upd | apply Ev.updT | rfl

theorem State.setLeg_ev {μ : Nat} {r s : State} {n : Nat} {l : Leg} (h : Ev μ r s)
    (hm : Cov 0x80 μ := by exact .use) :
    Ev μ r (State.setLeg s n l) := by
  unfold State.setLeg
  repeat' with_reducible first
    | assumption | exact .inl .use | exact .inr rfl | exact Cov.use
    | (refine fun (h' : Ev _ _ _) => ?_)
    | apply Ev.iteR | split | apply Ev.upd | apply Ev.updT | rfl

theorem setDebt_ev {μ : Nat} {r s : State} {n : Nat} {d : Int} (h : Ev μ r s)
    (hm : Cov 0x300000000000000000000000000000000000000000000000800000 μ := by exact .use) :
    Ev μ r (setDebt s n d) := by
  unfold setDebt
  repeat' with_reducible first
    | assumption | exact .inl .use | exact .inr rfl | exact Cov.use
    | (extract_lets +onlyGivenNames -underBinder s'; refine Ev.cut (m := μ) (r := r) (x := s') ?_ ?_
       all_goals first | (intro h'; clear_value s') | subst s')
    | (extract_lets +onlyGivenNames -underBinder x'; subst x')
    | (refine fun (h' : Ev _ _ _) => ?_) | apply State.put_ev | apply State.event_ev | apply R.LEGn_DEBTMAX_D_in | apply R.LEGn_DEBT_D_in
    | apply Ev.iteR | split | apply Ev.upd | apply Ev.updT | rfl

theorem legStop_ev {μ : Nat} {r s : State} {n : Nat} {lv : Bool × Bool} (h : Ev μ r s)
    (hm : Cov 0x80 μ := by exact .use) :
    Ev μ r (legStop s n lv) := by
  unfold legStop
  repeat' with_reducible first
    | assumption | exact .inl .use | exact .inr rfl | exact Cov.use
    | (extract_lets +onlyGivenNames -underBinder s'; refine Ev.cut (m := μ) (r := r) (x := s') ?_ ?_
       all_goals first | (intro h'; clear_value s') | subst s')
    | (extract_lets +onlyGivenNames -underBinder x'; subst x')
    | (refine fun (h' : Ev _ _ _) => ?_) | apply State.setLeg_ev
    | apply Ev.iteR | split | apply Ev.upd | apply Ev.updT | rfl

theorem legHold_ev {μ : Nat} {r s : State} {n : Nat} (h : Ev μ r s)
    (hm : Cov 0x300100000000000000000000000000000000000000000000800080 μ := by exact .use) :
    Ev μ r (legHold s n) := by
  unfold legHold
  repeat' with_reducible first
    | assumption | exact .inl .use | exact .inr rfl | exact Cov.use
    | (extract_lets +onlyGivenNames -underBinder s'; refine Ev.cut (m := μ) (r := r) (x := s') ?_ ?_
       all_goals first | (intro h'; clear_value s') | subst s')
    | (extract_lets +onlyGivenNames -underBinder x'; subst x')
    | (refine fun (h' : Ev _ _ _) => ?_) | apply legStop_ev | apply setDebt_ev | apply State.setLeg_ev | apply State.put_ev | apply R.LEGn_STATUS_HELD_in
    | apply Ev.iteR | split | apply Ev.upd | apply Ev.updT | rfl

theorem holdAll_ev {μ : Nat} {r s : State} (h : Ev μ r s)
    (hm : Cov 0x300100000000000000000000000000000000000000000000800080 μ := by exact .use) :
    Ev μ r (holdAll s) := by
  unfold holdAll
  repeat' with_reducible first
    | assumption | exact .inl .use | exact .inr rfl | exact Cov.use
    | (refine fun (h' : Ev _ _ _) => ?_) | (intro a b hab) | apply legHold_ev
    | apply Ev.iteR | apply Ev.foldl | split | apply Ev.upd | apply Ev.updT | rfl

theorem holdAgain_ev {μ : Nat} {r s : State} (h : Ev μ r s)
    (hm : Cov 0x80 μ := by exact .use) :
    Ev μ r (holdAgain s) := by
  unfold holdAgain
  repeat' with_reducible first
    | assumption | exact .inl .use | exact .inr rfl | exact Cov.use
    | (refine fun (h' : Ev _ _ _) => ?_) | (intro a b hab) | (intro a hab) | apply legStop_ev
    | apply Ev.iteR | apply Ev.foldl | split | apply Ev.upd | apply Ev.updT | rfl

theorem openInterval_ev {μ : Nat} {r s : State} {n : Nat} {lv : Bool} {x : Nat} {xc : Nat} (h : Ev μ r s)
    (hm : Cov 0x80 μ := by exact .use) :
    Ev μ r (openInterval s n lv x xc) := by
  unfold openInterval
  repeat' with_reducible first
    | assumption | exact .inl .use | exact .inr rfl | exact Cov.use
    | (extract_lets +onlyGivenNames -underBinder s'; refine Ev.cut (m := μ) (r := r) (x := s') ?_ ?_
       all_goals first | (intro h'; clear_value s') | subst s')
    | (extract_lets +onlyGivenNames -underBinder x'; subst x')
    | (refine fun (h' : Ev _ _ _) => ?_) | apply State.setLeg_ev
    | apply Ev.iteR | split | apply Ev.upd | apply Ev.updT | rfl

theorem carryDebt_ev {μ : Nat} {r s : State} {n : Nat} {v : Int} (h : Ev μ r s)
    (hm : Cov 0x302000000000000000000000000000000000000000000000800000 μ := by exact .use) :
    Ev μ r (carryDebt s n v) := by
  unfold carryDebt
  repeat' with_reducible first
    | assumption | exact .inl .use | exact .inr rfl | exact Cov.use
    | (extract_lets +onlyGivenNames -underBinder s'; refine Ev.cut (m := μ) (r := r) (x := s') ?_ ?_
       all_goals first | (intro h'; clear_value s') | subst s')
    | (extract_lets +onlyGivenNames -underBinder x'; subst x')
    | (refine fun (h' : Ev _ _ _) => ?_) | apply State.mark_ev | apply setDebt_ev | apply R.LEGn_STATUS_DSAT_in
    | apply Ev.iteR | split | apply Ev.upd | apply Ev.updT | rfl

theorem sEdge_ev {μ : Nat} {r s : State} {n : Nat} {lv : Bool} {x1 : Nat} {xcNext : Nat} (h : Ev μ r s)
    (hm : Cov 0x4302000000000000000000000000000000000000000000000800080 μ := by exact .use) :
    Ev μ r (sEdge s n lv x1 xcNext) := by
  unfold sEdge
  repeat' with_reducible first
    | assumption | exact .inl .use | exact .inr rfl | exact Cov.use
    | (extract_lets +onlyGivenNames -underBinder s'; refine Ev.cut (m := μ) (r := r) (x := s') ?_ ?_
       all_goals first | (intro h'; clear_value s') | subst s')
    | (extract_lets +onlyGivenNames -underBinder x'; subst x')
    | (refine fun (h' : Ev _ _ _) => ?_) | apply openInterval_ev | apply State.bump_ev | apply carryDebt_ev | apply State.setLeg_ev | apply R.LEGn_CNT_SHORT_in
    | apply Ev.iteR | (apply Ev.fst; assumption) | (apply Ev.snd; assumption) | split | apply Ev.upd | apply Ev.updT | rfl

theorem genStart_ev {μ : Nat} {r s : State} {n : Nat} {x : Nat} {lv : Bool} {xc : Nat} (h : Ev μ r s)
    (hm : Cov 0x80 μ := by exact .use) :
    Ev μ r (genStart s n x lv xc) := by
  unfold genStart
  repeat' with_reducible first
    | assumption | exact .inl .use | exact .inr rfl | exact Cov.use
    | (extract_lets +onlyGivenNames -underBinder s'; refine Ev.cut (m := μ) (r := r) (x := s') ?_ ?_
       all_goals first | (intro h'; clear_value s') | subst s')
    | (extract_lets +onlyGivenNames -underBinder x'; subst x')
    | (refine fun (h' : Ev _ _ _) => ?_) | apply State.setLeg_ev
    | apply Ev.iteR | split | apply Ev.upd | apply Ev.updT | rfl

theorem placeHalf_ev {μ : Nat} {r s : State} {n : Nat} {peak : Bool} (h : Ev μ r s)
    (hm : Cov 0x4302000000000000000000000000000000000000000000000800080 μ := by exact .use) :
    Ev μ r (placeHalf s n peak) := by
  unfold placeHalf
  repeat' with_reducible first
    | assumption | exact .inl .use | exact .inr rfl | exact Cov.use
    | (extract_lets +onlyGivenNames -underBinder s'; refine Ev.cut (m := μ) (r := r) (x := s') ?_ ?_
       all_goals first | (intro h'; clear_value s') | subst s')
    | (extract_lets +onlyGivenNames -underBinder x'; subst x')
    | (refine fun (h' : Ev _ _ _) => ?_) | apply genStart_ev | apply sEdge_ev
    | apply Ev.iteR | split | apply Ev.upd | apply Ev.updT | rfl

theorem stagePeriod_ev {μ : Nat} {r s : State} {n : Nat} {v : Nat} (h : Ev μ r s)
    (hm : Cov 0x8004000000000000000000000000000000000000000000800000 μ := by exact .use) :
    Ev μ r (stagePeriod s n v) := by
  unfold stagePeriod
  repeat' with_reducible first
    | assumption | exact .inl .use | exact .inr rfl | exact Cov.use
    | (extract_lets +onlyGivenNames -underBinder s'; refine Ev.cut (m := μ) (r := r) (x := s') ?_ ?_
       all_goals first | (intro h'; clear_value s') | subst s')
    | (extract_lets +onlyGivenNames -underBinder x'; subst x')
    | (refine fun (h' : Ev _ _ _) => ?_) | apply State.mark_ev | apply State.put_ev | apply R.LEGn_PERIOD_PERIOD_in | apply R.LEGn_STATUS_PCLAMP_in
    | apply Ev.iteR | split | apply Ev.upd | apply Ev.updT | rfl

theorem stagePhase_ev {μ : Nat} {r s : State} {n : Nat} {v : Nat} (h : Ev μ r s)
    (hm : Cov 0x8002000000000000000000000000000000000000000000800000 μ := by exact .use) :
    Ev μ r (stagePhase s n v) := by
  unfold stagePhase
  repeat' with_reducible first
    | assumption | exact .inl .use | exact .inr rfl | exact Cov.use
    | (extract_lets +onlyGivenNames -underBinder s'; refine Ev.cut (m := μ) (r := r) (x := s') ?_ ?_
       all_goals first | (intro h'; clear_value s') | subst s')
    | (extract_lets +onlyGivenNames -underBinder x'; subst x')
    | (refine fun (h' : Ev _ _ _) => ?_) | apply State.mark_ev | apply State.put_ev | apply R.LEGn_PHASE_PHASE_in | apply R.LEGn_STATUS_PCLAMP_in
    | apply Ev.iteR | split | apply Ev.upd | apply Ev.updT | rfl

theorem stageDuty_ev {μ : Nat} {r s : State} {n : Nat} {v : Nat} (h : Ev μ r s)
    (hm : Cov 0x8001000000000000000000000000000000000000000000800000 μ := by exact .use) :
    Ev μ r (stageDuty s n v) := by
  unfold stageDuty
  repeat' with_reducible first
    | assumption | exact .inl .use | exact .inr rfl | exact Cov.use
    | (extract_lets +onlyGivenNames -underBinder s'; refine Ev.cut (m := μ) (r := r) (x := s') ?_ ?_
       all_goals first | (intro h'; clear_value s') | subst s')
    | (extract_lets +onlyGivenNames -underBinder x'; subst x')
    | (refine fun (h' : Ev _ _ _) => ?_) | apply State.mark_ev | apply State.put_ev | apply R.LEGn_DUTY_DUTY_in | apply R.LEGn_STATUS_PCLAMP_in
    | apply Ev.iteR | split | apply Ev.upd | apply Ev.updT | rfl

theorem loadLeg_ev {μ : Nat} {r s : State} {n : Nat} {c : Nat} {safe : Bool} (h : Ev μ r s)
    (hm : Cov 0x8000000000000000000000000000000000000000000000000800080 μ := by exact .use) :
    Ev μ r (loadLeg s n c safe) := by
  unfold loadLeg
  repeat' with_reducible first
    | assumption | exact .inl .use | exact .inr rfl | exact Cov.use
    | (extract_lets +onlyGivenNames -underBinder s'; refine Ev.cut (m := μ) (r := r) (x := s') ?_ ?_
       all_goals first | (intro h'; clear_value s') | subst s')
    | (extract_lets +onlyGivenNames -underBinder x'; subst x')
    | (refine fun (h' : Ev _ _ _) => ?_) | (intro a hab) | apply State.setLeg_ev | apply State.bump_ev | apply R.LEGn_CNT_SUPER_in
    | apply Ev.iteR | split | apply Ev.upd | apply Ev.updT | rfl

theorem loadBridge_ev {μ : Nat} {r s : State} {b : Nat} {c : Nat} (h : Ev μ r s)
    (hm : Cov 0x8000000000000000000000000000000000000000000000000800080 μ := by exact .use) :
    Ev μ r (loadBridge s b c) := by
  unfold loadBridge
  repeat' with_reducible first
    | assumption | exact .inl .use | exact .inr rfl | exact Cov.use
    | (refine fun (h' : Ev _ _ _) => ?_) | (intro a b hab) | (intro a hab) | apply loadLeg_ev
    | apply Ev.iteR | apply Ev.foldl | split | apply Ev.upd | apply Ev.updT | rfl

theorem bridgeLoad_ev {μ : Nat} {r s : State} {b : Nat} (h : Ev μ r s)
    (hm : Cov 0x8008000000000000000000000000000000000000000000000000800080 μ := by exact .use) :
    Ev μ r (bridgeLoad s b) := by
  unfold bridgeLoad
  repeat' with_reducible first
    | assumption | exact .inl .use | exact .inr rfl | exact Cov.use
    | (refine fun (h' : Ev _ _ _) => ?_) | apply loadBridge_ev | apply State.mark_ev | apply R.BRIDGE_STATUS_HOSTW_in
    | apply Ev.iteR | split | apply Ev.upd | apply Ev.updT | rfl

theorem globalLoad_ev {μ : Nat} {r s : State} (h : Ev μ r s)
    (hm : Cov 0x8000000000000000000000000000000000000000000000000800080 μ := by exact .use) :
    Ev μ r (globalLoad s) := by
  unfold globalLoad
  repeat' with_reducible first
    | assumption | exact .inl .use | exact .inr rfl | exact Cov.use
    | (refine fun (h' : Ev _ _ _) => ?_) | (intro a b hab) | (intro a hab) | apply loadBridge_ev
    | apply Ev.iteR | apply Ev.foldl | split | apply Ev.upd | apply Ev.updT | rfl

theorem forceDrive_ev {μ : Nat} {r s : State} {n : Nat} {x : Nat} (h : Ev μ r s)
    (hm : Cov 0x80 μ := by exact .use) :
    Ev μ r (forceDrive s n x) := by
  unfold forceDrive
  repeat' with_reducible first
    | assumption | exact .inl .use | exact .inr rfl | exact Cov.use
    | (extract_lets +onlyGivenNames -underBinder s'; refine Ev.cut (m := μ) (r := r) (x := s') ?_ ?_
       all_goals first | (intro h'; clear_value s') | subst s')
    | (extract_lets +onlyGivenNames -underBinder x'; subst x')
    | (refine fun (h' : Ev _ _ _) => ?_) | apply State.setLeg_ev
    | apply Ev.iteR | split | apply Ev.upd | apply Ev.updT | rfl

theorem dutyTransfer_ev {μ : Nat} {r s : State} {n : Nat} {x : Nat} (h : Ev μ r s)
    (hm : Cov 0x300108000000000000000000000000000000000000000000800080 μ := by exact .use) :
    Ev μ r (dutyTransfer s n x) := by
  unfold dutyTransfer
  repeat' with_reducible first
    | assumption | exact .inl .use | exact .inr rfl | exact Cov.use
    | (extract_lets +onlyGivenNames -underBinder s'; refine Ev.cut (m := μ) (r := r) (x := s') ?_ ?_
       all_goals first | (intro h'; clear_value s') | subst s')
    | (extract_lets +onlyGivenNames -underBinder x'; subst x')
    | (refine fun (h' : Ev _ _ _) => ?_) | apply State.put_ev | apply State.setLeg_ev | apply legHold_ev | apply forceDrive_ev | apply R.LEGn_DUTY_ACT_DUTY_in | apply R.LEGn_STATUS_HELD_in
    | apply Ev.iteR | (apply Ev.fst; assumption) | (apply Ev.snd; assumption) | split | apply Ev.upd | apply Ev.updT | rfl

theorem periodTransfer_ev {μ : Nat} {r s : State} {n : Nat} {x : Nat} (h : Ev μ r s)
    (hm : Cov 0x30000000000000000000000000000000000000000000000080 μ := by exact .use) :
    Ev μ r (periodTransfer s n x) := by
  unfold periodTransfer
  repeat' with_reducible first
    | assumption | exact .inl .use | exact .inr rfl | exact Cov.use
    | (extract_lets +onlyGivenNames -underBinder s'; refine Ev.cut (m := μ) (r := r) (x := s') ?_ ?_
       all_goals first | (intro h'; clear_value s') | subst s')
    | (extract_lets +onlyGivenNames -underBinder x'; subst x')
    | (refine fun (h' : Ev _ _ _) => ?_) | apply State.setLeg_ev | apply State.put_ev | apply R.LEGn_PERIOD_ACT_PERIOD_in | apply R.LEGn_PHASE_ACT_PHASE_in
    | apply Ev.iteR | (apply Ev.fst; assumption) | (apply Ev.snd; assumption) | split | apply Ev.upd | apply Ev.updT | rfl

theorem forceTakes_ev {μ : Nat} {r s : State} {n : Nat} {x : Nat} (h : Ev μ r s)
    (hm : Cov 0x300800000000000000000000000000000000000000000000800080 μ := by exact .use) :
    Ev μ r (forceTakes s n x) := by
  unfold forceTakes
  repeat' with_reducible first
    | assumption | exact .inl .use | exact .inr rfl | exact Cov.use
    | (extract_lets +onlyGivenNames -underBinder s'; refine Ev.cut (m := μ) (r := r) (x := s') ?_ ?_
       all_goals first | (intro h'; clear_value s') | subst s')
    | (extract_lets +onlyGivenNames -underBinder x'; subst x')
    | (refine fun (h' : Ev _ _ _) => ?_) | apply State.put_ev | apply State.setLeg_ev | apply forceDrive_ev | apply setDebt_ev | apply R.LEGn_STATUS_FCODE_in
    | apply Ev.iteR | (apply Ev.fst; assumption) | (apply Ev.snd; assumption) | split | apply Ev.upd | apply Ev.updT | rfl

theorem forceWrite_ev {μ : Nat} {r s : State} {n : Nat} {code : Nat} (h : Ev μ r s)
    (hm : Cov 0x1040000000000000000000000000000000000000000000800080 μ := by exact .use) :
    Ev μ r (forceWrite s n code) := by
  unfold forceWrite
  repeat' with_reducible first
    | assumption | exact .inl .use | exact .inr rfl | exact Cov.use
    | (extract_lets +onlyGivenNames -underBinder s'; refine Ev.cut (m := μ) (r := r) (x := s') ?_ ?_
       all_goals first | (intro h'; clear_value s') | subst s')
    | (extract_lets +onlyGivenNames -underBinder x'; subst x')
    | (refine fun (h' : Ev _ _ _) => ?_) | (intro a hab) | apply State.mark_ev | apply State.setLeg_ev | apply State.put_ev | apply R.LEGn_FORCE_CODE_in | apply R.LEGn_STATUS_FREFUSED_in
    | apply Ev.iteR | split | apply Ev.upd | apply Ev.updT | rfl

theorem driveTakes_ev {μ : Nat} {r s : State} {n : Nat} {x : Nat} (h : Ev μ r s)
    (hm : Cov 0x80000000000000000000000000000000000000000000000080 μ := by exact .use) :
    Ev μ r (driveTakes s n x) := by
  unfold driveTakes
  repeat' with_reducible first
    | assumption | exact .inl .use | exact .inr rfl | exact Cov.use
    | (extract_lets +onlyGivenNames -underBinder s'; refine Ev.cut (m := μ) (r := r) (x := s') ?_ ?_
       all_goals first | (intro h'; clear_value s') | subst s')
    | (extract_lets +onlyGivenNames -underBinder x'; subst x')
    | (refine fun (h' : Ev _ _ _) => ?_) | apply State.put_ev | apply State.setLeg_ev | apply R.LEGn_STATUS_DRIVE_in
    | apply Ev.iteR | (apply Ev.fst; assumption) | (apply Ev.snd; assumption) | split | apply Ev.upd | apply Ev.updT | rfl

theorem legsModeChange_ev {μ : Nat} {r s : State} (h : Ev μ r s)
    (hm : Cov 0x200000840000000000000000000000000000000000000000000000080 μ := by exact .use) :
    Ev μ r (legsModeChange s) := by
  unfold legsModeChange
  repeat' with_reducible first
    | assumption | exact .inl .use | exact .inr rfl | exact Cov.use
    | (extract_lets +onlyGivenNames -underBinder s'; refine Ev.cut (m := μ) (r := r) (x := s') ?_ ?_
       all_goals first | (intro h'; clear_value s') | subst s')
    | (extract_lets +onlyGivenNames -underBinder x'; subst x')
    | (refine fun (h' : Ev _ _ _) => ?_) | (intro a b hab) | (intro a hab) | apply State.setLeg_ev | apply State.put_ev | apply R.BRIDGE_CTRL_SRC_in | apply R.LEGn_FORCE_CODE_in | apply R.LEGn_STATUS_FCODE_in
    | apply Ev.iteR | apply Ev.foldl | split | apply Ev.upd | apply Ev.updT | rfl

theorem snapPend_ev {μ : Nat} {r s : State} (h : Ev μ r s)
    (hm : Cov 0x8000000000000000000000000000000000000000000000000000000000000 μ := by exact .use) :
    Ev μ r (snapPend s) := by
  unfold snapPend
  repeat' with_reducible first
    | assumption | exact .inl .use | exact .inr rfl | exact Cov.use
    | (refine fun (h' : Ev _ _ _) => ?_) | apply State.put_ev | apply R.SN_SNAPSTAT_PEND_in
    | apply Ev.iteR | split | apply Ev.upd | apply Ev.updT | rfl

theorem snapTake_ev {μ : Nat} {r s : State} {src : Nat} {id : Nat} {b : Nat} {pm : Nat} (h : Ev μ r s)
    (hm : Cov 0xc000000000000000000000000000000000000000000000000000000800200 μ := by exact .use) :
    Ev μ r (snapTake s src id b pm) := by
  unfold snapTake
  repeat' with_reducible first
    | assumption | exact .inl .use | exact .inr rfl | exact Cov.use
    | (extract_lets +onlyGivenNames -underBinder s'; refine Ev.cut (m := μ) (r := r) (x := s') ?_ ?_
       all_goals first | (intro h'; clear_value s') | subst s')
    | (extract_lets +onlyGivenNames -underBinder x'; subst x')
    | (refine fun (h' : Ev _ _ _) => ?_) | apply State.bump_ev | apply snapPend_ev | apply R.SN_SNAPSTAT_DROP_in
    | apply Ev.iteR | (apply Ev.fst; assumption) | (apply Ev.snd; assumption) | split | apply Ev.upd | apply Ev.updT | rfl

theorem snapRequest_ev {μ : Nat} {r s : State} {src : Nat} {id : Nat} {pm : Nat} (h : Ev μ r s)
    (hm : Cov 0xc000000000000000000000000000000000000000000000000000000800200 μ := by exact .use) :
    Ev μ r (snapRequest s src id pm) := by
  unfold snapRequest
  repeat' with_reducible first
    | assumption | exact .inl .use | exact .inr rfl | exact Cov.use
    | (refine fun (h' : Ev _ _ _) => ?_) | apply snapTake_ev
    | apply Ev.iteR | split | apply Ev.upd | apply Ev.updT | rfl

theorem snapServe_ev {μ : Nat} {r s : State} {p : Nat} {o : SenseOut} (h : Ev μ r s)
    (hm : Cov 0x200 μ := by exact .use) :
    Ev μ r (snapServe s p o) := by
  unfold snapServe
  repeat' with_reducible first
    | assumption | exact .inl .use | exact .inr rfl | exact Cov.use
    | (refine fun (h' : Ev _ _ _) => ?_) | (intro a hab)
    | apply Ev.iteR | (apply Ev.fst; assumption) | (apply Ev.snd; assumption) | split | apply Ev.upd | apply Ev.updT | rfl

theorem snapPost_ev {μ : Nat} {r s : State} (h : Ev μ r s)
    (hm : Cov 0x7e00000000000000000a000000000000000000000000000000000000000000000000000001800220 μ := by exact .use) :
    Ev μ r (snapPost s) := by
  unfold snapPost
  repeat' with_reducible first
    | assumption | exact .inl .use | exact .inr rfl | exact Cov.use
    | (extract_lets +onlyGivenNames -underBinder s'; refine Ev.cut (m := μ) (r := r) (x := s') ?_ ?_
       all_goals first | (intro h'; clear_value s') | subst s')
    | (extract_lets +onlyGivenNames -underBinder x'; subst x')
    | (refine fun (h' : Ev _ _ _) => ?_) | (intro a hab) | apply snapPend_ev | apply State.bump_ev | apply postHw_ev | apply R.SN_SNAPSTAT_DONE_in
    | apply Ev.iteR | (apply Ev.fst; assumption) | (apply Ev.snd; assumption) | split | apply Ev.upd | apply Ev.updT | rfl

theorem State.setBtrips_ev {μ : Nat} {r s : State} {b : Nat} {x : BridgeTrips} (h : Ev μ r s)
    (hm : Cov 0x100 μ := by exact .use) :
    Ev μ r (State.setBtrips s b x) := by
  unfold State.setBtrips
  repeat' with_reducible first
    | assumption | exact .inl .use | exact .inr rfl | exact Cov.use
    | (refine fun (h' : Ev _ _ _) => ?_)
    | apply Ev.iteR | split | apply Ev.upd | apply Ev.updT | rfl

theorem tripAny_ev {μ : Nat} {r s : State} (h : Ev μ r s)
    (hm : Cov 0x40000000000000000 μ := by exact .use) :
    Ev μ r (tripAny s) := by
  unfold tripAny
  repeat' with_reducible first
    | assumption | exact .inl .use | exact .inr rfl | exact Cov.use
    | (extract_lets +onlyGivenNames -underBinder s'; refine Ev.cut (m := μ) (r := r) (x := s') ?_ ?_
       all_goals first | (intro h'; clear_value s') | subst s')
    | (extract_lets +onlyGivenNames -underBinder x'; subst x')
    | (refine fun (h' : Ev _ _ _) => ?_) | apply State.put_ev | apply R.NODE_TRIPSTAT_ANY_in
    | apply Ev.iteR | split | apply Ev.upd | apply Ev.updT | rfl

theorem writeBcause_ev {μ : Nat} {r s : State} {b : Nat} {causes : List (Nat × Nat)} (h : Ev μ r s)
    (hm : Cov 0x700000000000000000000000000 μ := by exact .use) :
    Ev μ r (writeBcause s b causes) := by
  unfold writeBcause
  repeat' with_reducible first
    | assumption | exact .inl .use | exact .inr rfl | exact Cov.use
    | (extract_lets +onlyGivenNames -underBinder s'; refine Ev.cut (m := μ) (r := r) (x := s') ?_ ?_
       all_goals first | (intro h'; clear_value s') | subst s')
    | (extract_lets +onlyGivenNames -underBinder x'; subst x')
    | (refine fun (h' : Ev _ _ _) => ?_) | (intro a b hab) | (intro a hab) | apply State.put_ev | apply R.NODE_BCAUSEb_FIRST_in | apply R.NODE_BCAUSEb_LAST_in | apply R.NODE_BCAUSEb_NCAUSE_in
    | apply Ev.iteR | apply Ev.foldl | split | apply Ev.upd | apply Ev.updT | rfl

theorem postBridgeTrip_ev {μ : Nat} {r s : State} {b : Nat} (h : Ev μ r s)
    (hm : Cov 0x7e000000000000000000000000000000000000000000000000000000000000000000000001800120 μ := by exact .use) :
    Ev μ r (postBridgeTrip s b) := by
  unfold postBridgeTrip
  repeat' with_reducible first
    | assumption | exact .inl .use | exact .inr rfl | exact Cov.use
    | (extract_lets +onlyGivenNames -underBinder s'; refine Ev.cut (m := μ) (r := r) (x := s') ?_ ?_
       all_goals first | (intro h'; clear_value s') | subst s')
    | (extract_lets +onlyGivenNames -underBinder x'; subst x')
    | (refine fun (h' : Ev _ _ _) => ?_) | (intro a hab) | apply postHw_ev | apply State.setBtrips_ev
    | apply Ev.iteR | (apply Ev.fst; assumption) | (apply Ev.snd; assumption) | split | apply Ev.upd | apply Ev.updT | rfl

theorem postBridgeTripsBefore_ev {μ : Nat} {r s : State} {k : Nat} (h : Ev μ r s)
    (hm : Cov 0x7e000000000000000000000000000000000000000000000000000000000000000000000001800120 μ := by exact .use) :
    Ev μ r (postBridgeTripsBefore s k) := by
  unfold postBridgeTripsBefore
  repeat' with_reducible first
    | assumption | exact .inl .use | exact .inr rfl | exact Cov.use
    | (refine fun (h' : Ev _ _ _) => ?_) | (intro a b hab) | (intro a hab) | apply postBridgeTrip_ev
    | apply Ev.iteR | apply Ev.foldl | (apply Ev.fst; assumption) | (apply Ev.snd; assumption) | split | apply Ev.upd | apply Ev.updT | rfl

theorem tripAgain_ev {μ : Nat} {r s : State} {b : Nat} {cause : Nat} {order : Nat} (h : Ev μ r s)
    (hm : Cov 0x100 μ := by exact .use) :
    Ev μ r (tripAgain s b cause order) := by
  unfold tripAgain
  repeat' with_reducible first
    | assumption | exact .inl .use | exact .inr rfl | exact Cov.use
    | (refine fun (h' : Ev _ _ _) => ?_) | (intro a hab)
    | apply Ev.iteR | (apply Ev.fst; assumption) | (apply Ev.snd; assumption) | split | apply Ev.upd | apply Ev.updT | rfl

theorem bridgeTrip_ev {μ : Nat} {r s : State} {b : Nat} {cause : Nat} {order : Nat} (h : Ev μ r s)
    (hm : Cov 0x600000000000000000007e00000000000000000c0000003001000000000000000000000007000000000c00000000058003e0 μ := by exact .use) :
    Ev μ r (bridgeTrip s b cause order) := by
  unfold bridgeTrip
  repeat' with_reducible first
    | assumption | exact .inl .use | exact .inr rfl | exact Cov.use
    | (extract_lets +onlyGivenNames -underBinder s'; refine Ev.cut (m := μ) (r := r) (x := s') ?_ ?_
       all_goals first | (intro h'; clear_value s') | subst s')
    | (extract_lets +onlyGivenNames -underBinder x'; subst x')
    | (refine fun (h' : Ev _ _ _) => ?_) | (intro a b hab) | apply tripAgain_ev | apply postBridgeTrip_ev | apply writeBcause_ev | apply State.setBtrips_ev | apply capEdge_ev | apply snapRequest_ev | apply holdCause_ev | apply tripAny_ev | apply State.put_ev | apply legHold_ev | apply R.NODE_BTRIP_BRIDGE_in
    | apply Ev.iteR | apply Ev.foldl | (apply Ev.fst; assumption) | (apply Ev.snd; assumption) | split | apply Ev.upd | apply Ev.updT | rfl

theorem escalate_ev {μ : Nat} {r s : State} {b : Nat} {order : Nat} (h : Ev μ r s)
    (hm : Cov 0x600000000000000000007e00000000000000000c0000003001000000000000000000000017000000000c00000000058003e0 μ := by exact .use) :
    Ev μ r (escalate s b order) := by
  unfold escalate
  repeat' with_reducible first
    | assumption | exact .inl .use | exact .inr rfl | exact Cov.use
    | (extract_lets +onlyGivenNames -underBinder s'; refine Ev.cut (m := μ) (r := r) (x := s') ?_ ?_
       all_goals first | (intro h'; clear_value s') | subst s')
    | (extract_lets +onlyGivenNames -underBinder x'; subst x')
    | (refine fun (h' : Ev _ _ _) => ?_) | (intro a hab) | apply State.put_ev | apply State.setBtrips_ev | apply bridgeTrip_ev | apply R.NODE_BCNTb_WIN_in
    | apply Ev.iteR | (apply Ev.fst; assumption) | (apply Ev.snd; assumption) | split | apply Ev.upd | apply Ev.updT | rfl

theorem postLegTrip_ev {μ : Nat} {r s : State} {n : Nat} {cause : Nat} {order : Nat} (h : Ev μ r s)
    (hm : Cov 0x7e000000000000000000000000000000000000000000000000000000000000000000000001800020 μ := by exact .use) :
    Ev μ r (postLegTrip s n cause order) := by
  unfold postLegTrip
  repeat' with_reducible first
    | assumption | exact .inl .use | exact .inr rfl | exact Cov.use
    | (extract_lets +onlyGivenNames -underBinder s'; refine Ev.cut (m := μ) (r := r) (x := s') ?_ ?_
       all_goals first | (intro h'; clear_value s') | subst s')
    | (extract_lets +onlyGivenNames -underBinder x'; subst x')
    | (refine fun (h' : Ev _ _ _) => ?_) | apply postHw_ev
    | apply Ev.iteR | split | apply Ev.upd | apply Ev.updT | rfl

theorem legLatch_ev {μ : Nat} {r s : State} {n : Nat} (h : Ev μ r s)
    (hm : Cov 0x300100000000000000000000000020000000050000000000800180 μ := by exact .use) :
    Ev μ r (legLatch s n) := by
  unfold legLatch
  repeat' with_reducible first
    | assumption | exact .inl .use | exact .inr rfl | exact Cov.use
    | (extract_lets +onlyGivenNames -underBinder s'; refine Ev.cut (m := μ) (r := r) (x := s') ?_ ?_
       all_goals first | (intro h'; clear_value s') | subst s')
    | (extract_lets +onlyGivenNames -underBinder x'; subst x')
    | (refine fun (h' : Ev _ _ _) => ?_) | apply State.mark_ev | apply legHold_ev | apply tripAny_ev | apply State.put_ev | apply R.NODE_LTRIPm_LEG_in | apply R.NODE_TRIPSTAT_CLRREF_in
    | apply Ev.iteR | (apply Ev.fst; assumption) | (apply Ev.snd; assumption) | split | apply Ev.upd | apply Ev.updT | rfl

theorem legCut_ev {μ : Nat} {r s : State} {n : Nat} (h : Ev μ r s)
    (hm : Cov 0x80 μ := by exact .use) :
    Ev μ r (legCut s n) := by
  unfold legCut
  repeat' with_reducible first
    | assumption | exact .inl .use | exact .inr rfl | exact Cov.use
    | (extract_lets +onlyGivenNames -underBinder s'; refine Ev.cut (m := μ) (r := r) (x := s') ?_ ?_
       all_goals first | (intro h'; clear_value s') | subst s')
    | (extract_lets +onlyGivenNames -underBinder x'; subst x')
    | (refine fun (h' : Ev _ _ _) => ?_) | apply legStop_ev | apply State.setLeg_ev
    | apply Ev.iteR | split | apply Ev.upd | apply Ev.updT | rfl

theorem legTripNote_ev {μ : Nat} {r s : State} {n : Nat} {order : Nat} (h : Ev μ r s)
    (hm : Cov 0x600000000000000000000000000000000000000c000000000000000000000000000000000800000000004000000004800240 μ := by exact .use) :
    Ev μ r (legTripNote s n order) := by
  unfold legTripNote
  repeat' with_reducible first
    | assumption | exact .inl .use | exact .inr rfl | exact Cov.use
    | (extract_lets +onlyGivenNames -underBinder s'; refine Ev.cut (m := μ) (r := r) (x := s') ?_ ?_
       all_goals first | (intro h'; clear_value s') | subst s')
    | (extract_lets +onlyGivenNames -underBinder x'; subst x')
    | (refine fun (h' : Ev _ _ _) => ?_) | apply State.bump_ev | apply capEdge_ev | apply snapRequest_ev | apply R.NODE_BCNTb_TOTAL_in | apply R.NODE_TRIPSTAT_LTOTAL_in
    | apply Ev.iteR | split | apply Ev.upd | apply Ev.updT | rfl

theorem legTripBy_ev {μ : Nat} {r s : State} {n : Nat} {cause : Nat} {order : Nat} {count : Bool} (h : Ev μ r s)
    (hm : Cov 0x600000000000000000007e00000000000000000c000000300100000000000000000000001f200000000d40000000058003e0 μ := by exact .use) :
    Ev μ r (legTripBy s n cause order count) := by
  unfold legTripBy
  repeat' with_reducible first
    | assumption | exact .inl .use | exact .inr rfl | exact Cov.use
    | (extract_lets +onlyGivenNames -underBinder s'; refine Ev.cut (m := μ) (r := r) (x := s') ?_ ?_
       all_goals first | (intro h'; clear_value s') | subst s')
    | (extract_lets +onlyGivenNames -underBinder x'; subst x')
    | (refine fun (h' : Ev _ _ _) => ?_) | apply legTripNote_ev | apply postLegTrip_ev | apply legCut_ev | apply legLatch_ev | apply escalate_ev
    | apply Ev.iteR | split | apply Ev.upd | apply Ev.updT | rfl

theorem legTrip_ev {μ : Nat} {r s : State} {n : Nat} {cause : Nat} {order : Nat} (h : Ev μ r s)
    (hm : Cov 0x600000000000000000007e00000000000000000c000000300100000000000000000000001f200000000d40000000058003e0 μ := by exact .use) :
    Ev μ r (legTrip s n cause order) := by
  unfold legTrip
  repeat' with_reducible first
    | assumption | exact .inl .use | exact .inr rfl | exact Cov.use
    | (refine fun (h' : Ev _ _ _) => ?_) | apply legTripBy_ev
    | apply Ev.iteR | split | apply Ev.upd | apply Ev.updT | rfl

theorem phaseTrip_ev {μ : Nat} {r s : State} {ph : Nat} {cause : Nat} {order : Nat} (h : Ev μ r s)
    (hm : Cov 0x600000000000000000007e00000000000000000c000000300100000000000000000000001f200000000d40000000058003e0 μ := by exact .use) :
    Ev μ r (phaseTrip s ph cause order) := by
  unfold phaseTrip
  repeat' with_reducible first
    | assumption | exact .inl .use | exact .inr rfl | exact Cov.use
    | (extract_lets +onlyGivenNames -underBinder s'; refine Ev.cut (m := μ) (r := r) (x := s') ?_ ?_
       all_goals first | (intro h'; clear_value s') | subst s')
    | (extract_lets +onlyGivenNames -underBinder x'; subst x')
    | (refine fun (h' : Ev _ _ _) => ?_) | (intro a b hab) | (intro a hab) | apply legTripBy_ev
    | apply Ev.iteR | apply Ev.foldl | apply Ev.foldl1 | (apply Ev.fst; assumption) | (apply Ev.snd; assumption) | split
    | apply Ev.upd | apply Ev.updT | rfl | apply Ev.pair1 | apply Ev.pair2 | intro _

theorem setTripInput_ev {μ : Nat} {r s : State} {n : Nat} {v : Bool} (h : Ev μ r s)
    (hm : Cov 0x40000000000000000000000000 μ := by exact .use) :
    Ev μ r (setTripInput s n v) := by
  unfold setTripInput
  repeat' with_reducible first
    | assumption | exact .inl .use | exact .inr rfl | exact Cov.use
    | (extract_lets +onlyGivenNames -underBinder s'; refine Ev.cut (m := μ) (r := r) (x := s') ?_ ?_
       all_goals first | (intro h'; clear_value s') | subst s')
    | (extract_lets +onlyGivenNames -underBinder x'; subst x')
    | (refine fun (h' : Ev _ _ _) => ?_) | apply State.put_ev | apply R.NODE_LTINm_LEG_in
    | apply Ev.iteR | split | apply Ev.upd | apply Ev.updT | rfl

theorem legLatchClear_ev {μ : Nat} {r s : State} {a1 : Nat} {v : Nat} (h : Ev μ r s)
    (hm : Cov 0x20000000050000000000800100 μ := by exact .use) :
    Ev μ r (legLatchClear s a1 v) := by
  unfold legLatchClear
  repeat' with_reducible first
    | assumption | exact .inl .use | exact .inr rfl | exact Cov.use
    | (extract_lets +onlyGivenNames -underBinder s'; refine Ev.cut (m := μ) (r := r) (x := s') ?_ ?_
       all_goals first | (intro h'; clear_value s') | subst s')
    | (extract_lets +onlyGivenNames -underBinder x'; subst x')
    | (refine fun (h' : Ev _ _ _) => ?_) | (intro a b hab) | (intro a hab) | apply tripAny_ev | apply State.mark_ev | apply State.put_ev | apply R.NODE_LTRIPm_LEG_in | apply R.NODE_TRIPSTAT_CLRREF_in
    | apply Ev.iteR | apply Ev.foldl | (apply Ev.fst; assumption) | (apply Ev.snd; assumption) | split | apply Ev.upd | apply Ev.updT | rfl

theorem bridgeClear_ev {μ : Nat} {r s : State} {b : Nat} {source : Nat} {pm : Nat} {k : Nat} {item : Bytes} (h : Ev μ r s)
    (hm : Cov 0x600000000000000000007e00000000000000000c0000003001000000000000000000000017062010000d00000000078383e0 μ := by exact .use) :
    Ev μ r (bridgeClear s b source pm k item) := by
  unfold bridgeClear
  repeat' with_reducible first
    | assumption | exact .inl .use | exact .inr rfl | exact Cov.use
    | (extract_lets +onlyGivenNames -underBinder s'; refine Ev.cut (m := μ) (r := r) (x := s') ?_ ?_
       all_goals first | (intro h'; clear_value s') | subst s')
    | (extract_lets +onlyGivenNames -underBinder x'; subst x')
    | (refine fun (h' : Ev _ _ _) => ?_) | (intro a b hab) | (intro a hab) | apply State.mark_ev | apply deadLetter_ev | apply State.put_ev | apply State.setBtrips_ev | apply tripAny_ev | apply bridgeTrip_ev | apply R.NODE_BCNTb_WIN_in | apply R.NODE_BTRIP_BRIDGE_in | apply R.NODE_TRIPSTAT_CLRREF_in
    | apply Ev.iteR | apply Ev.foldl | split | apply Ev.upd | apply Ev.updT | rfl

theorem tripsClearAll_ev {μ : Nat} {r s : State} (h : Ev μ r s)
    (hm : Cov 0x10200000000c0000000000000100 μ := by exact .use) :
    Ev μ r (tripsClearAll s) := by
  unfold tripsClearAll
  repeat' with_reducible first
    | assumption | exact .inl .use | exact .inr rfl | exact Cov.use
    | (extract_lets +onlyGivenNames -underBinder s'; refine Ev.cut (m := μ) (r := r) (x := s') ?_ ?_
       all_goals first | (intro h'; clear_value s') | subst s')
    | (extract_lets +onlyGivenNames -underBinder x'; subst x')
    | (refine fun (h' : Ev _ _ _) => ?_) | (intro a b hab) | (intro a hab) | apply State.put_ev | apply State.setBtrips_ev | apply tripAny_ev | apply R.NODE_BCNTb_WIN_in | apply R.NODE_BTRIP_BRIDGE_in | apply R.NODE_LTRIPm_LEG_in
    | apply Ev.iteR | apply Ev.foldl | split | apply Ev.upd | apply Ev.updT | rfl

theorem comparatorTrip_ev {μ : Nat} {r s : State} {c : Nat} {st : Nat} {order : Nat} (h : Ev μ r s)
    (hm : Cov 0x600000000000000000007e00000000000000000c0000003001000000000000000000000007000000000c00000000058003e0 μ := by exact .use) :
    Ev μ r (comparatorTrip s c st order) := by
  unfold comparatorTrip
  repeat' with_reducible first
    | assumption | exact .inl .use | exact .inr rfl | exact Cov.use
    | (extract_lets +onlyGivenNames -underBinder s'; refine Ev.cut (m := μ) (r := r) (x := s') ?_ ?_
       all_goals first | (intro h'; clear_value s') | subst s')
    | (extract_lets +onlyGivenNames -underBinder x'; subst x')
    | (refine fun (h' : Ev _ _ _) => ?_) | (intro a b hab) | (intro a hab) | apply bridgeTrip_ev | apply State.setBtrips_ev
    | apply Ev.iteR | apply Ev.foldl | split | apply Ev.upd | apply Ev.updT | rfl

theorem comparatorAct_ev {μ : Nat} {r s : State} {c : Nat} {st : Nat} {order : Nat} (h : Ev μ r s)
    (hm : Cov 0x600000000000000000007e00000000000000000c0000003001000000000000000000000007000000000c00000000058003e0 μ := by exact .use) :
    Ev μ r (comparatorAct s c st order) := by
  unfold comparatorAct
  repeat' with_reducible first
    | assumption | exact .inl .use | exact .inr rfl | exact Cov.use
    | (refine fun (h' : Ev _ _ _) => ?_) | apply comparatorTrip_ev | apply capEdge_ev
    | apply Ev.iteR | split | apply Ev.upd | apply Ev.updT | rfl

theorem comparatorShow_ev {μ : Nat} {r s : State} {c : Nat} {st : Nat} (h : Ev μ r s)
    (hm : Cov 0x620000000000000000 μ := by exact .use) :
    Ev μ r (comparatorShow s c st) := by
  unfold comparatorShow
  repeat' with_reducible first
    | assumption | exact .inl .use | exact .inr rfl | exact Cov.use
    | (extract_lets +onlyGivenNames -underBinder s'; refine Ev.cut (m := μ) (r := r) (x := s') ?_ ?_
       all_goals first | (intro h'; clear_value s') | subst s')
    | (extract_lets +onlyGivenNames -underBinder x'; subst x')
    | (refine fun (h' : Ev _ _ _) => ?_) | apply State.put_ev | apply R.NODE_TRIPSTAT_CMPOUT_in | apply R.NODE_WCMPST_OVER_in | apply R.NODE_WCMPST_UNDER_in
    | apply Ev.iteR | split | apply Ev.upd | apply Ev.updT | rfl

theorem comparatorFollow_ev {μ : Nat} {r s : State} {c : Nat} (h : Ev μ r s)
    (hm : Cov 0x620000000000000000 μ := by exact .use) :
    Ev μ r (comparatorFollow s c) := by
  unfold comparatorFollow
  repeat' with_reducible first
    | assumption | exact .inl .use | exact .inr rfl | exact Cov.use
    | (refine fun (h' : Ev _ _ _) => ?_) | apply comparatorShow_ev
    | apply Ev.iteR | split | apply Ev.upd | apply Ev.updT | rfl

theorem comparatorSet_ev {μ : Nat} {r s : State} {c : Nat} {st : Nat} {order : Nat} (h : Ev μ r s)
    (hm : Cov 0x600000000000000000007e00000000000000000c0000003001000000000000000000000007000000006e00000000058003e0 μ := by exact .use) :
    Ev μ r (comparatorSet s c st order) := by
  unfold comparatorSet
  repeat' with_reducible first
    | assumption | exact .inl .use | exact .inr rfl | exact Cov.use
    | (extract_lets +onlyGivenNames -underBinder s'; refine Ev.cut (m := μ) (r := r) (x := s') ?_ ?_
       all_goals first | (intro h'; clear_value s') | subst s')
    | (extract_lets +onlyGivenNames -underBinder x'; subst x')
    | (refine fun (h' : Ev _ _ _) => ?_) | apply comparatorShow_ev | apply comparatorAct_ev
    | apply Ev.iteR | split | apply Ev.upd | apply Ev.updT | rfl

theorem legSourcesAct_ev {μ : Nat} {r s : State} {n : Nat} {t : Nat} (h : Ev μ r s)
    (hm : Cov 0x600000000000000000007e00000000000000000c000000300100000000000000000000001f200000000d40000000058003e0 μ := by exact .use) :
    Ev μ r (legSourcesAct s n t) := by
  unfold legSourcesAct
  repeat' with_reducible first
    | assumption | exact .inl .use | exact .inr rfl | exact Cov.use
    | (extract_lets +onlyGivenNames -underBinder s'; refine Ev.cut (m := μ) (r := r) (x := s') ?_ ?_
       all_goals first | (intro h'; clear_value s') | subst s')
    | (extract_lets +onlyGivenNames -underBinder x'; subst x')
    | (refine fun (h' : Ev _ _ _) => ?_) | apply legTrip_ev
    | apply Ev.iteR | (apply Ev.fst; assumption) | (apply Ev.snd; assumption) | split | apply Ev.upd | apply Ev.updT | rfl

theorem sourcesAct_ev {μ : Nat} {r s : State} (h : Ev μ r s)
    (hm : Cov 0x600000000000000000007e00000000000000000c000000300100000000000000000000001f200000000d40000000058003e0 μ := by exact .use) :
    Ev μ r (sourcesAct s) := by
  unfold sourcesAct
  repeat' with_reducible first
    | assumption | exact .inl .use | exact .inr rfl | exact Cov.use
    | (extract_lets +onlyGivenNames -underBinder s'; refine Ev.cut (m := μ) (r := r) (x := s') ?_ ?_
       all_goals first | (intro h'; clear_value s') | subst s')
    | (extract_lets +onlyGivenNames -underBinder x'; subst x')
    | (refine fun (h' : Ev _ _ _) => ?_) | (intro a b hab) | (intro a hab) | apply legSourcesAct_ev | apply comparatorTrip_ev
    | apply Ev.iteR | apply Ev.foldl | split | apply Ev.upd | apply Ev.updT | rfl

theorem setBound_ev {μ : Nat} {r s : State} {b : Option Nat} (h : Ev μ r s)
    (hm : Cov 0x2 μ := by exact .use) :
    Ev μ r (setBound s b) := by
  unfold setBound
  repeat' with_reducible first
    | assumption | exact .inl .use | exact .inr rfl | exact Cov.use
    | (refine fun (h' : Ev _ _ _) => ?_)
    | apply Ev.iteR | split | apply Ev.upd | apply Ev.updT | rfl

theorem tigBreak_ev {μ : Nat} {r s : State} (h : Ev μ r s)
    (hm : Cov 0x20000000000000000000000000000000001000 μ := by exact .use) :
    Ev μ r (tigBreak s) := by
  unfold tigBreak
  repeat' with_reducible first
    | assumption | exact .inl .use | exact .inr rfl | exact Cov.use
    | (refine fun (h' : Ev _ _ _) => ?_) | apply State.put_ev | apply R.POST_TIG_HELD_in
    | apply Ev.iteR | split | apply Ev.upd | apply Ev.updT | rfl

theorem tigTimebase_ev {μ : Nat} {r s : State} (h : Ev μ r s)
    (hm : Cov 0x22000000000000000000000000000000001000 μ := by exact .use) :
    Ev μ r (tigTimebase s) := by
  unfold tigTimebase
  repeat' with_reducible first
    | assumption | exact .inl .use | exact .inr rfl | exact Cov.use
    | (extract_lets +onlyGivenNames -underBinder s'; refine Ev.cut (m := μ) (r := r) (x := s') ?_ ?_
       all_goals first | (intro h'; clear_value s') | subst s')
    | (extract_lets +onlyGivenNames -underBinder x'; subst x')
    | (refine fun (h' : Ev _ _ _) => ?_) | apply State.put_ev | apply tigBreak_ev | apply R.POST_TIG_TIMEBASE_in
    | apply Ev.iteR | split | apply Ev.upd | apply Ev.updT | rfl

theorem setTimebase_ev {μ : Nat} {r s : State} {st : Nat} (h : Ev μ r s)
    (hm : Cov 0x40000000000000000000000000000000000000000000000000000000000000000000000000000000000000022020019000000000000000000000002801002 μ := by exact .use) :
    Ev μ r (setTimebase s st) := by
  unfold setTimebase
  repeat' with_reducible first
    | assumption | exact .inl .use | exact .inr rfl | exact Cov.use
    | (extract_lets +onlyGivenNames -underBinder s'; refine Ev.cut (m := μ) (r := r) (x := s') ?_ ?_
       all_goals first | (intro h'; clear_value s') | subst s')
    | (extract_lets +onlyGivenNames -underBinder x'; subst x')
    | (refine fun (h' : Ev _ _ _) => ?_) | apply State.irq_ev | apply State.mark_ev | apply State.put_ev | apply tigTimebase_ev | apply R.POST_STATUS_CHANGED_in | apply R.POST_STATUS_COARSE_in | apply R.POST_STATUS_STATE_in | apply R.POST_TRIM_TRIM_in
    | apply Ev.iteR | split | apply Ev.upd | apply Ev.updT | rfl

theorem legStepped_ev {μ : Nat} {r s : State} {n : Nat} (h : Ev μ r s)
    (hm : Cov 0x80 μ := by exact .use) :
    Ev μ r (legStepped s n) := by
  unfold legStepped
  repeat' with_reducible first
    | assumption | exact .inl .use | exact .inr rfl | exact Cov.use
    | (extract_lets +onlyGivenNames -underBinder s'; refine Ev.cut (m := μ) (r := r) (x := s') ?_ ?_
       all_goals first | (intro h'; clear_value s') | subst s')
    | (extract_lets +onlyGivenNames -underBinder x'; subst x')
    | (refine fun (h' : Ev _ _ _) => ?_) | apply State.setLeg_ev
    | apply Ev.iteR | split | apply Ev.upd | apply Ev.updT | rfl

theorem afterStep_ev {μ : Nat} {r s : State} (h : Ev μ r s)
    (hm : Cov 0x7e000000000087b0000000000000000000000000000000000000000620100000000000000393f2a0 μ := by exact .use) :
    Ev μ r (afterStep s) := by
  unfold afterStep
  repeat' with_reducible first
    | assumption | exact .inl .use | exact .inr rfl | exact Cov.use
    | (extract_lets +onlyGivenNames -underBinder s'; refine Ev.cut (m := μ) (r := r) (x := s') ?_ ?_
       all_goals first | (intro h'; clear_value s') | subst s')
    | (extract_lets +onlyGivenNames -underBinder x'; subst x')
    | (refine fun (h' : Ev _ _ _) => ?_) | (intro a b hab) | (intro a hab) | apply trayDiscardStep_ev | apply deadLetter_ev | apply unsettleAll_ev | apply fadesEnd_ev | apply legStepped_ev | apply ledStepped_ev
    | apply Ev.iteR | apply Ev.foldl | split | apply Ev.upd | apply Ev.updT | rfl

theorem stepTo_ev {μ : Nat} {r s : State} {n : Nat} (h : Ev μ r s) (hm : Cov 0x7e000000000087b0000000000000000000000000000000000200000620100000000000000393f2a2 μ := by exact .use) : Ev μ r (stepTo s n) := by
  unfold stepTo
  split
  · exact h
  · exact afterStep_ev (State.mark_ev (h.run (fun _ => Nat.mod_lt _ (by decide)) (Nat.le_refl _)) (R.POST_STATUS_STEPPED_in (Cov.mono hm (by decide +kernel))))

theorem markUsable_ev {μ : Nat} {r s : State} {c : Nat} (h : Ev μ r s)
    (hm : Cov 0x2 μ := by exact .use) :
    Ev μ r (markUsable s c) := by
  unfold markUsable
  repeat' with_reducible first
    | assumption | exact .inl .use | exact .inr rfl | exact Cov.use
    | (refine fun (h' : Ev _ _ _) => ?_)
    | apply Ev.iteR | split | apply Ev.upd | apply Ev.updT | rfl

theorem servoTrim_ev {μ : Nat} {r s : State} {offset : Int} {left : Int} (h : Ev μ r s)
    (hm : Cov 0x20000000000000000000000000001000002 μ := by exact .use) :
    Ev μ r (servoTrim s offset left) := by
  unfold servoTrim
  repeat' with_reducible first
    | assumption | exact .inl .use | exact .inr rfl | exact Cov.use
    | (extract_lets +onlyGivenNames -underBinder s'; refine Ev.cut (m := μ) (r := r) (x := s') ?_ ?_
       all_goals first | (intro h'; clear_value s') | subst s')
    | (extract_lets +onlyGivenNames -underBinder x'; subst x')
    | (refine fun (h' : Ev _ _ _) => ?_) | apply State.freshNat_ev | apply State.put_ev | apply R.POST_TRIM_TRIM_in
    | apply Ev.iteR | (apply Ev.fst; assumption) | (apply Ev.snd; assumption) | split | apply Ev.upd | apply Ev.updT | rfl

theorem noteUpdate_ev {μ : Nat} {r s : State} {offset : Int} (h : Ev μ r s)
    (hm : Cov 0x2 μ := by exact .use) :
    Ev μ r (noteUpdate s offset) := by
  unfold noteUpdate
  repeat' with_reducible first
    | assumption | exact .inl .use | exact .inr rfl | exact Cov.use
    | (extract_lets +onlyGivenNames -underBinder s'; refine Ev.cut (m := μ) (r := r) (x := s') ?_ ?_
       all_goals first | (intro h'; clear_value s') | subst s')
    | (extract_lets +onlyGivenNames -underBinder x'; subst x')
    | (refine fun (h' : Ev _ _ _) => ?_)
    | apply Ev.iteR | split | apply Ev.upd | apply Ev.updT | rfl

theorem lockWhenGood_ev {μ : Nat} {r s : State} (h : Ev μ r s)
    (hm : Cov 0x40000000000000000000000000000000000000000000000000000000000000000000000000000000000000022020019000000000000000000000002801002 μ := by exact .use) :
    Ev μ r (lockWhenGood s) := by
  unfold lockWhenGood
  repeat' with_reducible first
    | assumption | exact .inl .use | exact .inr rfl | exact Cov.use
    | (refine fun (h' : Ev _ _ _) => ?_) | apply setBound_ev | apply setTimebase_ev
    | apply Ev.iteR | split | apply Ev.upd | apply Ev.updT | rfl

theorem servoStep_ev {μ : Nat} {r s : State} {offset : Int} (h : Ev μ r s)
    (hm : Cov 0x4000000000000000000000000000000000000000000007e000000000087b0000000000000000000000000002203001b00000620100000000000000393f2a2 μ := by exact .use) :
    Ev μ r (servoStep s offset) := by
  unfold servoStep
  repeat' with_reducible first
    | assumption | exact .inl .use | exact .inr rfl | exact Cov.use
    | (extract_lets +onlyGivenNames -underBinder s'; refine Ev.cut (m := μ) (r := r) (x := s') ?_ ?_
       all_goals first | (intro h'; clear_value s') | subst s')
    | (extract_lets +onlyGivenNames -underBinder x'; subst x')
    | (refine fun (h' : Ev _ _ _) => ?_) | apply State.put_ev | apply setBound_ev | apply setTimebase_ev | apply servoTrim_ev | apply stepTo_ev | apply noteUpdate_ev | apply lockWhenGood_ev | apply R.POST_OFFSET_OFS_NS_in
    | apply Ev.iteR | (apply Ev.fst; assumption) | (apply Ev.snd; assumption) | split | apply Ev.upd | apply Ev.updT | rfl

theorem noSource_ev {μ : Nat} {r s : State} (h : Ev μ r s)
    (hm : Cov 0x40000000000000000000000000000000000000000000000000000000000000000000000000000000000000022020019000000000000000000000002801002 μ := by exact .use) :
    Ev μ r (noSource s) := by
  unfold noSource
  repeat' with_reducible first
    | assumption | exact .inl .use | exact .inr rfl | exact Cov.use
    | (extract_lets +onlyGivenNames -underBinder s'; refine Ev.cut (m := μ) (r := r) (x := s') ?_ ?_
       all_goals first | (intro h'; clear_value s') | subst s')
    | (extract_lets +onlyGivenNames -underBinder x'; subst x')
    | (refine fun (h' : Ev _ _ _) => ?_) | apply setTimebase_ev
    | apply Ev.iteR | split | apply Ev.upd | apply Ev.updT | rfl

theorem resteer_ev {μ : Nat} {r s : State} (h : Ev μ r s)
    (hm : Cov 0x4000000000000000000000000000000000000000000000000000000000000000000000000000000000000002202001d000000000000000000000002801002 μ := by exact .use) :
    Ev μ r (resteer s) := by
  unfold resteer
  repeat' with_reducible first
    | assumption | exact .inl .use | exact .inr rfl | exact Cov.use
    | (extract_lets +onlyGivenNames -underBinder s'; refine Ev.cut (m := μ) (r := r) (x := s') ?_ ?_
       all_goals first | (intro h'; clear_value s') | subst s')
    | (extract_lets +onlyGivenNames -underBinder x'; subst x')
    | (refine fun (h' : Ev _ _ _) => ?_) | apply noSource_ev | apply State.put_ev | apply R.POST_STATUS_SRC_ACT_in
    | apply Ev.iteR | split | apply Ev.upd | apply Ev.updT | rfl

theorem measurement_ev {μ : Nat} {r s : State} {c : Nat} {offset : Int} (h : Ev μ r s)
    (hm : Cov 0x4000000000000000000000000000000000000000000007e000000000087b0000000000000000000000000002203001f00000620100000000000000393f2a2 μ := by exact .use) :
    Ev μ r (measurement s c offset) := by
  unfold measurement
  repeat' with_reducible first
    | assumption | exact .inl .use | exact .inr rfl | exact Cov.use
    | (extract_lets +onlyGivenNames -underBinder s'; refine Ev.cut (m := μ) (r := r) (x := s') ?_ ?_
       all_goals first | (intro h'; clear_value s') | subst s')
    | (extract_lets +onlyGivenNames -underBinder x'; subst x')
    | (refine fun (h' : Ev _ _ _) => ?_) | apply markUsable_ev | apply servoStep_ev | apply State.put_ev | apply resteer_ev | apply R.POST_STATUS_SRC_ACT_in
    | apply Ev.iteR | split | apply Ev.upd | apply Ev.updT | rfl

theorem sourceLost_ev {μ : Nat} {r s : State} {c : Nat} (h : Ev μ r s)
    (hm : Cov 0x4000000000000000000000000000000000000000000000000000000000000000000000000000000000000002202001d000000000000000000000002801002 μ := by exact .use) :
    Ev μ r (sourceLost s c) := by
  unfold sourceLost
  repeat' with_reducible first
    | assumption | exact .inl .use | exact .inr rfl | exact Cov.use
    | (refine fun (h' : Ev _ _ _) => ?_) | apply resteer_ev
    | apply Ev.iteR | split | apply Ev.upd | apply Ev.updT | rfl

theorem boundExceeded_ev {μ : Nat} {r s : State} (h : Ev μ r s)
    (hm : Cov 0x40000000000000000000000000000000000000000000000000000000000000000000000000000000000000022020019000000000000000000000002801006 μ := by exact .use) :
    Ev μ r (boundExceeded s) := by
  unfold boundExceeded
  repeat' with_reducible first
    | assumption | exact .inl .use | exact .inr rfl | exact Cov.use
    | (extract_lets +onlyGivenNames -underBinder s'; refine Ev.cut (m := μ) (r := r) (x := s') ?_ ?_
       all_goals first | (intro h'; clear_value s') | subst s')
    | (extract_lets +onlyGivenNames -underBinder x'; subst x')
    | (refine fun (h' : Ev _ _ _) => ?_) | apply setTimebase_ev | apply State.runElapsed_ev
    | apply Ev.iteR | split | apply Ev.upd | apply Ev.updT | rfl

theorem forcePoor_ev {μ : Nat} {r s : State} (h : Ev μ r s)
    (hm : Cov 0x40000000000000000000000000000000000000000000000000000000000000000000000000000000000000022020019000000000000000000000002801002 μ := by exact .use) :
    Ev μ r (forcePoor s) := by
  unfold forcePoor
  repeat' with_reducible first
    | assumption | exact .inl .use | exact .inr rfl | exact Cov.use
    | (extract_lets +onlyGivenNames -underBinder s'; refine Ev.cut (m := μ) (r := r) (x := s') ?_ ?_
       all_goals first | (intro h'; clear_value s') | subst s')
    | (extract_lets +onlyGivenNames -underBinder x'; subst x')
    | (refine fun (h' : Ev _ _ _) => ?_) | apply setBound_ev | apply setTimebase_ev
    | apply Ev.iteR | split | apply Ev.upd | apply Ev.updT | rfl

theorem hostSet_ev {μ : Nat} {r s : State} {v : Nat} (h : Ev μ r s)
    (hm : Cov 0x7e000000000087b0000000000000000000000000000000000600000620100000000000000393f2a2 μ := by exact .use) :
    Ev μ r (hostSet s v) := by
  unfold hostSet
  repeat' with_reducible first
    | assumption | exact .inl .use | exact .inr rfl | exact Cov.use
    | (refine fun (h' : Ev _ _ _) => ?_) | apply State.put_ev | apply stepTo_ev | apply R.POST_STATUS_SRC_ACT_in
    | apply Ev.iteR | split | apply Ev.upd | apply Ev.updT | rfl

theorem ppsEdge_ev {μ : Nat} {r s : State} {rising : Bool} (h : Ev μ r s)
    (hm : Cov 0x4000000000000000000000000000000000000000000007e000000000087b0000000000000000000000000002203001f00000620100000000000000393f2a2 μ := by exact .use) :
    Ev μ r (ppsEdge s rising) := by
  unfold ppsEdge
  repeat' with_reducible first
    | assumption | exact .inl .use | exact .inr rfl | exact Cov.use
    | (extract_lets +onlyGivenNames -underBinder s'; refine Ev.cut (m := μ) (r := r) (x := s') ?_ ?_
       all_goals first | (intro h'; clear_value s') | subst s')
    | (extract_lets +onlyGivenNames -underBinder x'; subst x')
    | (refine fun (h' : Ev _ _ _) => ?_) | apply hostSet_ev | apply setBound_ev | apply setTimebase_ev | apply markUsable_ev | apply measurement_ev | apply sourceLost_ev
    | apply Ev.iteR | (apply Ev.fst; assumption) | (apply Ev.snd; assumption) | split | apply Ev.upd | apply Ev.updT | rfl

theorem postSetCommit_ev {μ : Nat} {r s : State} {v : Nat} (h : Ev μ r s)
    (hm : Cov 0x7e000000000087b0000000000000000000000000000000000600000620100000000000000393f2a2 μ := by exact .use) :
    Ev μ r (postSetCommit s v) := by
  unfold postSetCommit
  repeat' with_reducible first
    | assumption | exact .inl .use | exact .inr rfl | exact Cov.use
    | (refine fun (h' : Ev _ _ _) => ?_) | apply hostSet_ev
    | apply Ev.iteR | split | apply Ev.upd | apply Ev.updT | rfl

theorem crystalEdge_ev {μ : Nat} {r s : State} (h : Ev μ r s)
    (hm : Cov 0x6 μ := by exact .use) :
    Ev μ r (crystalEdge s) := by
  unfold crystalEdge
  repeat' with_reducible first
    | assumption | exact .inl .use | exact .inr rfl | exact Cov.use
    | (extract_lets +onlyGivenNames -underBinder s'; refine Ev.cut (m := μ) (r := r) (x := s') ?_ ?_
       all_goals first | (intro h'; clear_value s') | subst s')
    | (extract_lets +onlyGivenNames -underBinder x'; subst x')
    | (refine fun (h' : Ev _ _ _) => ?_) | (intro a hab)
    | apply Ev.iteR | split | apply Ev.upd | apply Ev.updT | rfl

theorem coarseLoad_ev {μ : Nat} {r s : State} {n : Nat} (h : Ev μ r s) (hm : Cov 0x40000000000000000000000000000000000000000000000000000000000000000000000000000000000000022020019000000000000000000000002801002 μ := by exact .use) : Ev μ r (coarseLoad s n) := by
  unfold coarseLoad
  split
  · refine tigTimebase_ev (State.put_ev (State.put_ev ?_ (R.POST_STATUS_STATE_in (Cov.mono hm (by decide +kernel)))) (R.POST_STATUS_COARSE_in (Cov.mono hm (by decide +kernel))))
    exact h.run (fun _ => by show 0 < 2 ^ 104; decide) (Nat.le_refl _)
  · rename_i c _
    have hx : Ev μ r { s with time := { timeRestart s with acc := min (2 ^ 64 - 1) c * 2 ^ 40 } } :=
      h.run (fun _ => by
        show min (2 ^ 64 - 1) c * 2 ^ 40 < 2 ^ 104
        have := Nat.min_le_left (2 ^ 64 - 1) c
        omega) (Nat.le_refl _)
    exact setTimebase_ev (setBound_ev (State.put_ev hx (R.POST_STATUS_COARSE_in (Cov.mono hm (by decide +kernel)))))

theorem acceptEnter_ev {μ : Nat} {r s : State} {path : Nat} {source : Nat} {seq : Nat} {target : Nat} {value : Nat} {t : Nat} {item : Bytes} (h : Ev μ r s)
    (hm : Cov 0x7e00000000000000000000000000000000000000008000000000000620100000000000000383a020 μ := by exact .use) :
    Ev μ r (acceptEnter s path source seq target value t item) := by
  unfold acceptEnter
  repeat' with_reducible first
    | assumption | exact .inl .use | exact .inr rfl | exact Cov.use
    | (extract_lets +onlyGivenNames -underBinder s'; refine Ev.cut (m := μ) (r := r) (x := s') ?_ ?_
       all_goals first | (intro h'; clear_value s') | subst s')
    | (extract_lets +onlyGivenNames -underBinder x'; subst x')
    | (refine fun (h' : Ev _ _ _) => ?_) | apply State.send_ev | apply State.bump_ev | apply deadLetter_ev | apply R.POST_ACC_LATE_in
    | apply Ev.iteR | (apply Ev.fst; assumption) | (apply Ev.snd; assumption) | split | apply Ev.upd | apply Ev.updT | rfl

theorem hostCommand_ev {μ : Nat} {r s : State} {a1 : Nat} {target : Nat} {value : Nat} {item : Bytes} (h : Ev μ r s)
    (hm : Cov 0x7e00000000000000000000000000000000000000008000000000000620100000000000000383a020 μ := by exact .use) :
    Ev μ r (hostCommand s a1 target value item) := by
  unfold hostCommand
  repeat' with_reducible first
    | assumption | exact .inl .use | exact .inr rfl | exact Cov.use
    | (refine fun (h' : Ev _ _ _) => ?_) | apply acceptEnter_ev
    | apply Ev.iteR | split | apply Ev.upd | apply Ev.updT | rfl

theorem superseded_ev {μ : Nat} {r s : State} {k : Nat} {w : Accepted} {l : Accepted} (h : Ev μ r s)
    (hm : Cov 0x7e000000000000000000000000000000000000000040000000000000000000000000000001800020 μ := by exact .use) :
    Ev μ r (superseded s k w l) := by
  unfold superseded
  repeat' with_reducible first
    | assumption | exact .inl .use | exact .inr rfl | exact Cov.use
    | (extract_lets +onlyGivenNames -underBinder s'; refine Ev.cut (m := μ) (r := r) (x := s') ?_ ?_
       all_goals first | (intro h'; clear_value s') | subst s')
    | (extract_lets +onlyGivenNames -underBinder x'; subst x')
    | (refine fun (h' : Ev _ _ _) => ?_) | apply State.bump_ev | apply postHw_ev | apply R.POST_ACC_SUPER_in
    | apply Ev.iteR | (apply Ev.fst; assumption) | (apply Ev.snd; assumption) | split | apply Ev.upd | apply Ev.updT | rfl

theorem closeSet_ev {μ : Nat} {r s : State} {k : Nat} {set : List Accepted} (h : Ev μ r s)
    (hm : Cov 0x7e000000000000000000000000000000000000000040000000000000000000000000000001800020 μ := by exact .use) :
    Ev μ r (closeSet s k set).1 := by
  unfold closeSet
  repeat' with_reducible first
    | assumption | exact .inl .use | exact .inr rfl | exact Cov.use
    | (extract_lets +onlyGivenNames -underBinder s'; refine Ev.cut (m := μ) (r := r) (x := s') ?_ ?_
       all_goals first | (intro h'; clear_value s') | subst s')
    | (extract_lets +onlyGivenNames -underBinder x'; subst x')
    | (refine fun (h' : Ev _ _ _) => ?_) | (intro a b hab) | (intro a hab) | apply superseded_ev
    | apply Ev.iteR | apply Ev.foldl | apply Ev.foldl1 | (apply Ev.fst; assumption) | (apply Ev.snd; assumption) | split
    | apply Ev.upd | apply Ev.updT | rfl | apply Ev.pair1 | apply Ev.pair2 | intro _

theorem twinEnvelope_ev {μ : Nat} {r s : State} {event : Nat} {old : Nat} {new : Nat} {detail : Nat} {k : Nat} (h : Ev μ r s)
    (hm : Cov 0x4000000000000000000000000000000000000000000007e000000000000000000000000000000000000000000000000000000000000000000000003800020 μ := by exact .use) :
    Ev μ r (twinEnvelope s event old new detail k) := by
  unfold twinEnvelope
  repeat' with_reducible first
    | assumption | exact .inl .use | exact .inr rfl | exact Cov.use
    | (extract_lets +onlyGivenNames -underBinder s'; refine Ev.cut (m := μ) (r := r) (x := s') ?_ ?_
       all_goals first | (intro h'; clear_value s') | subst s')
    | (extract_lets +onlyGivenNames -underBinder x'; subst x')
    | (refine fun (h' : Ev _ _ _) => ?_) | apply State.irq_ev | apply postHw_ev
    | apply Ev.iteR | split | apply Ev.upd | apply Ev.updT | rfl

theorem sendHeld_ev {μ : Nat} {r s : State} (h : Ev μ r s)
    (hm : Cov 0x6001000000000000002038000 μ := by exact .use) :
    Ev μ r (sendHeld s) := by
  unfold sendHeld
  repeat' with_reducible first
    | assumption | exact .inl .use | exact .inr rfl | exact Cov.use
    | (extract_lets +onlyGivenNames -underBinder s'; refine Ev.cut (m := μ) (r := r) (x := s') ?_ ?_
       all_goals first | (intro h'; clear_value s') | subst s')
    | (extract_lets +onlyGivenNames -underBinder x'; subst x')
    | (refine fun (h' : Ev _ _ _) => ?_) | (intro a b hab) | (intro a hab) | apply siteNumber_ev
    | apply Ev.iteR | apply Ev.foldl | split | apply Ev.upd | apply Ev.updT | rfl

theorem readbackDisagree_ev {μ : Nat} {r s : State} (h : Ev μ r s)
    (hm : Cov 0x40000000000000000800000 μ := by exact .use) :
    Ev μ r (readbackDisagree s) := by
  unfold readbackDisagree
  repeat' with_reducible first
    | assumption | exact .inl .use | exact .inr rfl | exact Cov.use
    | (refine fun (h' : Ev _ _ _) => ?_) | apply State.mark_ev | apply R.NODE_TWIN_STAT_RB_DISAGREE_in
    | apply Ev.iteR | split | apply Ev.upd | apply Ev.updT | rfl

theorem setDrive_ev {μ : Nat} {r s : State} {old : Nat} {new : Nat} (h : Ev μ r s)
    (hm : Cov 0x80000000000000000000000000000000000000000000000080 μ := by exact .use) :
    Ev μ r (setDrive s old new) := by
  unfold setDrive
  repeat' with_reducible first
    | assumption | exact .inl .use | exact .inr rfl | exact Cov.use
    | (refine fun (h' : Ev _ _ _) => ?_) | (intro a b hab) | (intro a hab) | apply State.setLeg_ev | apply State.put_ev | apply R.LEGn_STATUS_DRIVE_in
    | apply Ev.iteR | apply Ev.foldl | split | apply Ev.upd | apply Ev.updT | rfl

theorem setRole_ev {μ : Nat} {r s : State} {new : Nat} (h : Ev μ r s)
    (hm : Cov 0x4000000000000000000000000000000000000000000007e0000000000000000000000000000800000000000000000000000060011000000000000038380a0 μ := by exact .use) :
    Ev μ r (setRole s new) := by
  unfold setRole
  repeat' with_reducible first
    | assumption | exact .inl .use | exact .inr rfl | exact Cov.use
    | (extract_lets +onlyGivenNames -underBinder s'; refine Ev.cut (m := μ) (r := r) (x := s') ?_ ?_
       all_goals first | (intro h'; clear_value s') | subst s')
    | (extract_lets +onlyGivenNames -underBinder x'; subst x')
    | (refine fun (h' : Ev _ _ _) => ?_) | apply setDrive_ev | apply State.put_ev | apply twinEnvelope_ev | apply State.send_ev | apply sendHeld_ev | apply setSeqNext_ev | apply R.NODE_TWIN_STAT_ROLE_in
    | apply Ev.iteR | (apply Ev.fst; assumption) | (apply Ev.snd; assumption) | split | apply Ev.upd | apply Ev.updT | rfl

theorem twinFault_ev {μ : Nat} {r s : State} (h : Ev μ r s)
    (hm : Cov 0x4000000000000000000000000000000000000000000007e0000000000000000000000000000800000000000000000000000060011000000000000038380a0 μ := by exact .use) :
    Ev μ r (twinFault s) := by
  unfold twinFault
  repeat' with_reducible first
    | assumption | exact .inl .use | exact .inr rfl | exact Cov.use
    | (refine fun (h' : Ev _ _ _) => ?_) | apply setRole_ev | apply State.send_ev
    | apply Ev.iteR | split | apply Ev.upd | apply Ev.updT | rfl

theorem angleStop_ev {μ : Nat} {r s : State} (h : Ev μ r s)
    (hm : Cov 0x4000000000000000000000000000000000000000000000000000000000000000000200 μ := by exact .use) :
    Ev μ r (angleStop s) := by
  unfold angleStop
  repeat' with_reducible first
    | assumption | exact .inl .use | exact .inr rfl | exact Cov.use
    | (refine fun (h' : Ev _ _ _) => ?_) | (intro a b hab) | (intro a hab) | apply State.put_ev | apply R.DEC_RSr_IDX_RUN_in
    | apply Ev.iteR | apply Ev.foldl | (apply Ev.fst; assumption) | (apply Ev.snd; assumption) | split | apply Ev.upd | apply Ev.updT | rfl

theorem fabricHalt_ev {μ : Nat} {r s : State} (h : Ev μ r s)
    (hm : Cov 0x44000000000000000000000000000000000000000000000000000000000000000001200 μ := by exact .use) :
    Ev μ r (fabricHalt s) := by
  unfold fabricHalt
  repeat' with_reducible first
    | assumption | exact .inl .use | exact .inr rfl | exact Cov.use
    | (extract_lets +onlyGivenNames -underBinder s'; refine Ev.cut (m := μ) (r := r) (x := s') ?_ ?_
       all_goals first | (intro h'; clear_value s') | subst s')
    | (extract_lets +onlyGivenNames -underBinder x'; subst x')
    | (refine fun (h' : Ev _ _ _) => ?_) | apply angleStop_ev | apply State.put_ev | apply R.FAB_STATUS_RUN_in
    | apply Ev.iteR | split | apply Ev.upd | apply Ev.updT | rfl

theorem State.setAxis_ev {μ : Nat} {r s : State} {n : Nat} {a : Axis} (h : Ev μ r s)
    (hm : Cov 0x80000 μ := by exact .use) :
    Ev μ r (State.setAxis s n a) := by
  unfold State.setAxis
  repeat' with_reducible first
    | assumption | exact .inl .use | exact .inr rfl | exact Cov.use
    | (refine fun (h' : Ev _ _ _) => ?_)
    | apply Ev.iteR | split | apply Ev.upd | apply Ev.updT | rfl

theorem axPut_ev {μ : Nat} {r s : State} {lo : Fld} {hi : Fld} {v : Int} (h : Ev μ r s) (hlo : RegIn μ lo.key) (hhi : RegIn μ hi.key)
    (hm : Cov 0x0 μ := by exact .use) :
    Ev μ r (axPut s lo hi v) := by
  unfold axPut
  repeat' with_reducible first
    | assumption | exact .inl .use | exact .inr rfl | exact Cov.use
    | (refine fun (h' : Ev _ _ _) => ?_) | apply State.putPair_ev
    | apply Ev.iteR | split | apply Ev.upd | apply Ev.updT | rfl

theorem axSetPos_ev {μ : Nat} {r s : State} {n : Nat} {v : Int} (h : Ev μ r s)
    (hm : Cov 0x60000000000000000000000000000000000000000000000000000000000000000000000000000000000000000000000000000000000000000000000000000000000000000000000000000 μ := by exact .use) :
    Ev μ r (axSetPos s n v) := by
  unfold axSetPos
  repeat' with_reducible first
    | assumption | exact .inl .use | exact .inr rfl | exact Cov.use
    | (refine fun (h' : Ev _ _ _) => ?_) | apply axPut_ev | apply R.AXn_POS_HI_W_in | apply R.AXn_POS_LO_W_in
    | apply Ev.iteR | split | apply Ev.upd | apply Ev.updT | rfl

theorem axSetEnc_ev {μ : Nat} {r s : State} {n : Nat} {v : Int} (h : Ev μ r s)
    (hm : Cov 0x600000000000000000000000000000000000000000000000000000000000000000000000000000000000000000000000000000000000000000000000000000000000000000000000000000 μ := by exact .use) :
    Ev μ r (axSetEnc s n v) := by
  unfold axSetEnc
  repeat' with_reducible first
    | assumption | exact .inl .use | exact .inr rfl | exact Cov.use
    | (refine fun (h' : Ev _ _ _) => ?_) | apply axPut_ev | apply R.AXn_ENC_HI_W_in | apply R.AXn_ENC_LO_W_in
    | apply Ev.iteR | split | apply Ev.upd | apply Ev.updT | rfl

theorem axSave_ev {μ : Nat} {r s : State} {n : Nat} {made : Bool} (h : Ev μ r s)
    (hm : Cov 0x200000 μ := by exact .use) :
    Ev μ r (axSave s n made) := by
  unfold axSave
  repeat' with_reducible first
    | assumption | exact .inl .use | exact .inr rfl | exact Cov.use
    | (refine fun (h' : Ev _ _ _) => ?_)
    | apply Ev.iteR | split | apply Ev.upd | apply Ev.updT | rfl

theorem axesDrop_ev {μ : Nat} {r s : State} (h : Ev μ r s)
    (hm : Cov 0x20000000000000000000000000000000000000000000000000000000000000000000000000000000000000000000000000000000000000000000000000000000000000000000080000 μ := by exact .use) :
    Ev μ r (axesDrop s) := by
  unfold axesDrop
  repeat' with_reducible first
    | assumption | exact .inl .use | exact .inr rfl | exact Cov.use
    | (extract_lets +onlyGivenNames -underBinder s'; refine Ev.cut (m := μ) (r := r) (x := s') ?_ ?_
       all_goals first | (intro h'; clear_value s') | subst s')
    | (extract_lets +onlyGivenNames -underBinder x'; subst x')
    | (refine fun (h' : Ev _ _ _) => ?_) | (intro a b hab) | (intro a hab) | apply State.setAxis_ev | apply State.put_ev | apply R.AXn_STAT_STATE_in
    | apply Ev.iteR | apply Ev.foldl | split | apply Ev.upd | apply Ev.updT | rfl

theorem activationAbort_ev {μ : Nat} {r s : State} (h : Ev μ r s)
    (hm : Cov 0x40000180000000000000000000000000000000000000000000000000000000000000000000000000000000000000000000000000000000000000002800800 μ := by exact .use) :
    Ev μ r (activationAbort s) := by
  unfold activationAbort
  repeat' with_reducible first
    | assumption | exact .inl .use | exact .inr rfl | exact Cov.use
    | (extract_lets +onlyGivenNames -underBinder s'; refine Ev.cut (m := μ) (r := r) (x := s') ?_ ?_
       all_goals first | (intro h'; clear_value s') | subst s')
    | (extract_lets +onlyGivenNames -underBinder x'; subst x')
    | (refine fun (h' : Ev _ _ _) => ?_) | apply State.irq_ev | apply State.put_ev | apply R.SEC_IMG_STATUS_BUSY_in | apply R.SEC_IMG_STATUS_CODE_in
    | apply Ev.iteR | (apply Ev.fst; assumption) | (apply Ev.snd; assumption) | split | apply Ev.upd | apply Ev.updT | rfl

theorem outZero_ev {μ : Nat} {r s : State} {im : Image} {b : Block} {j : Nat} (h : Ev μ r s)
    (hm : Cov 0x1000 μ := by exact .use) :
    Ev μ r (outZero im b s j) := by
  unfold outZero
  repeat' with_reducible first
    | assumption | exact .inl .use | exact .inr rfl | exact Cov.use
    | (refine fun (h' : Ev _ _ _) => ?_)
    | apply Ev.iteR | (apply Ev.fst; assumption) | (apply Ev.snd; assumption) | split | apply Ev.upd | apply Ev.updT | rfl

theorem formingWait_ev {μ : Nat} {r s : State} (h : Ev μ r s)
    (hm : Cov 0x1000 μ := by exact .use) :
    Ev μ r (formingWait s) := by
  unfold formingWait
  repeat' with_reducible first
    | assumption | exact .inl .use | exact .inr rfl | exact Cov.use
    | (extract_lets +onlyGivenNames -underBinder s'; refine Ev.cut (m := μ) (r := r) (x := s') ?_ ?_
       all_goals first | (intro h'; clear_value s') | subst s')
    | (extract_lets +onlyGivenNames -underBinder x'; subst x')
    | (refine fun (h' : Ev _ _ _) => ?_) | (intro a b hab) | (intro a hab) | apply outZero_ev
    | apply Ev.iteR | apply Ev.foldl | (apply Ev.fst; assumption) | (apply Ev.snd; assumption) | split | apply Ev.upd | apply Ev.updT | rfl

theorem setMode_ev {μ : Nat} {r s : State} {a1 : Nat} {entry : Nat} (h : Ev μ r s)
    (hm : Cov 0x2000000000000000000004000018000000000000000000600000000000000000007e00000004400000000c0002003009c0000000000020000000001f260011000d40008800078b9bf0 μ := by exact .use) :
    Ev μ r (setMode s a1 entry) := by
  unfold setMode
  repeat' with_reducible first
    | assumption | exact .inl .use | exact .inr rfl | exact Cov.use
    | (extract_lets +onlyGivenNames -underBinder s'; refine Ev.cut (m := μ) (r := r) (x := s') ?_ ?_
       all_goals first | (intro h'; clear_value s') | subst s')
    | (extract_lets +onlyGivenNames -underBinder x'; subst x')
    | (refine fun (h' : Ev _ _ _) => ?_) | apply State.irq_ev | apply State.put_ev | apply legsModeChange_ev | apply holdAll_ev | apply sourcesAct_ev | apply formingWait_ev | apply fabricHalt_ev | apply tigBreak_ev | apply axesDrop_ev | apply twinFault_ev | apply holdCause_ev | apply activationAbort_ev | apply R.NODE_MODE_ENTRY_in | apply R.NODE_MODE_MODE_in
    | apply Ev.iteR | split | apply Ev.upd | apply Ev.updT | rfl

theorem enterRecovery_ev {μ : Nat} {r s : State} {entry : Nat} (h : Ev μ r s)
    (hm : Cov 0x2000000000000000000004000018000000000000000000600000000000000000007e00000004400000000c0002003009c0000000000020000000001f260011000d40008800078b9bf0 μ := by exact .use) :
    Ev μ r (enterRecovery s entry) := by
  unfold enterRecovery
  repeat' with_reducible first
    | assumption | exact .inl .use | exact .inr rfl | exact Cov.use
    | (extract_lets +onlyGivenNames -underBinder s'; refine Ev.cut (m := μ) (r := r) (x := s') ?_ ?_
       all_goals first | (intro h'; clear_value s') | subst s')
    | (extract_lets +onlyGivenNames -underBinder x'; subst x')
    | (refine fun (h' : Ev _ _ _) => ?_) | apply setMode_ev
    | apply Ev.iteR | split | apply Ev.upd | apply Ev.updT | rfl

theorem modeRefuse_ev {μ : Nat} {r s : State} {code : Nat} {source : Nat} {target : Nat} {pm : Nat} {k : Nat} {item : Bytes} (h : Ev μ r s)
    (hm : Cov 0x7e000000000000000000000000000000000000000000000000000006201000000000040003838020 μ := by exact .use) :
    Ev μ r (modeRefuse s code source target pm k item) := by
  unfold modeRefuse
  repeat' with_reducible first
    | assumption | exact .inl .use | exact .inr rfl | exact Cov.use
    | (refine fun (h' : Ev _ _ _) => ?_) | apply deadLetter_ev | apply State.put_ev | apply R.NODE_MODE_REFUSE_in
    | apply Ev.iteR | split | apply Ev.upd | apply Ev.updT | rfl

theorem stopRampEnd_ev {μ : Nat} {r s : State} (h : Ev μ r s)
    (hm : Cov 0x40000000000000000000000000000000000000000000000000000000000000000000000300100000000000022000011000000000000000000000002801096 μ := by exact .use) :
    Ev μ r (stopRampEnd s) := by
  unfold stopRampEnd
  repeat' with_reducible first
    | assumption | exact .inl .use | exact .inr rfl | exact Cov.use
    | (extract_lets +onlyGivenNames -underBinder s'; refine Ev.cut (m := μ) (r := r) (x := s') ?_ ?_
       all_goals first | (intro h'; clear_value s') | subst s')
    | (extract_lets +onlyGivenNames -underBinder x'; subst x')
    | (refine fun (h' : Ev _ _ _) => ?_) | apply State.runElapsed_ev | apply holdAll_ev
    | apply Ev.iteR | (apply Ev.fst; assumption) | (apply Ev.snd; assumption) | split | apply Ev.upd | apply Ev.updT | rfl

theorem testAbort_ev {μ : Nat} {r s : State} (h : Ev μ r s)
    (hm : Cov 0x18000000001210 μ := by exact .use) :
    Ev μ r (testAbort s) := by
  unfold testAbort
  repeat' with_reducible first
    | assumption | exact .inl .use | exact .inr rfl | exact Cov.use
    | (extract_lets +onlyGivenNames -underBinder s'; refine Ev.cut (m := μ) (r := r) (x := s') ?_ ?_
       all_goals first | (intro h'; clear_value s') | subst s')
    | (extract_lets +onlyGivenNames -underBinder x'; subst x')
    | (refine fun (h' : Ev _ _ _) => ?_) | apply unsettleAll_ev | apply State.put_ev | apply R.NODE_TEST_RESULT_in | apply R.NODE_TEST_RUNNING_in
    | apply Ev.iteR | (apply Ev.fst; assumption) | (apply Ev.snd; assumption) | split | apply Ev.upd | apply Ev.updT | rfl

end Sys2Proof.Machine
end

