-- ==== Sys2Proof/Laws/EvFrame.lean ====
section
/-!
SUPPORT. What each operation over State can do, said once: one lemma for each function of the fabric, sensing, the frame and the safety function. The result is as sound as
the state it starts from, never before it, and differs from it only in the parts and registers of the set named (`mask` of Safety.lean).
-/
namespace Sys2Proof.Machine
set_option Elab.async false
set_option linter.all false

theorem writeCell_ev {μ : Nat} {r s : State} {im : Image} {b : Block} {a2 : Reads} {valid : Bool} {allBad : Bool} {w : Nat} {flat : Nat} {c : OutCell} (h : Ev μ r s)
    (hm : Cov 0x180000000000000000000000000000000000000000000000000000000000000000000801000 μ := by exact .use) :
    Ev μ r (writeCell im b a2 valid allBad s w flat c) := by
  unfold writeCell
  repeat' with_reducible first
    | assumption | exact .inl .use | exact .inr rfl | exact Cov.use
    | (extract_lets +onlyGivenNames -underBinder s'; refine Ev.cut (m := μ) (r := r) (x := s') ?_ ?_
       all_goals first | (intro h'; clear_value s') | subst s')
    | (extract_lets +onlyGivenNames -underBinder x'; subst x')
    | (refine fun (h' : Ev _ _ _) => ?_) | apply State.bump_ev | apply R.FAB_NAN_INF_in | apply R.FAB_NAN_NAN_in
    | apply Ev.iteR | (apply Ev.fst; assumption) | (apply Ev.snd; assumption) | split | apply Ev.upd | apply Ev.updT | rfl

theorem tjestTake_ev {μ : Nat} {r s : State} {im : Image} {b : Block} {word : Nat → Nat × Nat} (h : Ev μ r s)
    (hm : Cov 0x1000 μ := by exact .use) :
    Ev μ r (tjestTake s im b word) := by
  unfold tjestTake
  repeat' with_reducible first
    | assumption | exact .inl .use | exact .inr rfl | exact Cov.use
    | (refine fun (h' : Ev _ _ _) => ?_) | (intro a b hab) | (intro a hab)
    | apply Ev.iteR | apply Ev.foldl | split | apply Ev.upd | apply Ev.updT | rfl

theorem writeOuts_ev {μ : Nat} {r s : State} {im : Image} {b : Block} {a3 : Reads} {valid : Bool} {allBad : Bool} {fault : Bool} {outs : List OutCell} (h : Ev μ r s)
    (hm : Cov 0x180000000000000000000000000000000000000000000000000000000000000000000801000 μ := by exact .use) :
    Ev μ r (writeOuts s im b a3 valid allBad fault outs) := by
  unfold writeOuts
  repeat' with_reducible first
    | assumption | exact .inl .use | exact .inr rfl | exact Cov.use
    | (extract_lets +onlyGivenNames -underBinder s'; refine Ev.cut (m := μ) (r := r) (x := s') ?_ ?_
       all_goals first | (intro h'; clear_value s') | subst s')
    | (extract_lets +onlyGivenNames -underBinder x'; subst x')
    | (refine fun (h' : Ev _ _ _) => ?_) | (intro a b hab) | (intro a hab) | apply writeCell_ev
    | apply Ev.iteR | apply Ev.foldl | (apply Ev.fst; assumption) | (apply Ev.snd; assumption) | split | apply Ev.upd | apply Ev.updT | rfl

theorem tripRequest_ev {μ : Nat} {r s : State} {scope : Nat} {target : Nat} {cause : Nat} {fk : Nat} (h : Ev μ r s)
    (hm : Cov 0x600000000000000000007e00000000000000000c000000300100000000000000000000001f200000000d40000000058003e0 μ := by exact .use) :
    Ev μ r (tripRequest s scope target cause fk) := by
  unfold tripRequest
  repeat' with_reducible first
    | assumption | exact .inl .use | exact .inr rfl | exact Cov.use
    | (refine fun (h' : Ev _ _ _) => ?_) | apply legTrip_ev | apply phaseTrip_ev | apply bridgeTrip_ev
    | apply Ev.iteR | split | apply Ev.upd | apply Ev.updT | rfl

theorem requestStands_ev {μ : Nat} {r s : State} {im : Image} {scope : Nat} {target : Nat} {cause : Nat} {on : Bool} (h : Ev μ r s)
    (hm : Cov 0x1080 μ := by exact .use) :
    Ev μ r (requestStands s im scope target cause on) := by
  unfold requestStands
  repeat' with_reducible first
    | assumption | exact .inl .use | exact .inr rfl | exact Cov.use
    | (extract_lets +onlyGivenNames -underBinder s'; refine Ev.cut (m := μ) (r := r) (x := s') ?_ ?_
       all_goals first | (intro h'; clear_value s') | subst s')
    | (extract_lets +onlyGivenNames -underBinder x'; subst x')
    | (refine fun (h' : Ev _ _ _) => ?_) | (intro a b hab) | (intro a hab) | apply State.setLeg_ev
    | apply Ev.iteR | apply Ev.foldl | split | apply Ev.upd | apply Ev.updT | rfl

theorem tripBlock_ev {μ : Nat} {r s : State} {im : Image} {slot : Nat} {scope : Nat} {target : Nat} {cause : Nat} {fk : Nat} {on : Bool} {was : Bool} (h : Ev μ r s)
    (hm : Cov 0x600000000000000000007e00000000000000000c000000300100000000000000000000001f200000000d40000000058013e0 μ := by exact .use) :
    Ev μ r (tripBlock s im slot scope target cause fk on was) := by
  unfold tripBlock
  repeat' with_reducible first
    | assumption | exact .inl .use | exact .inr rfl | exact Cov.use
    | (extract_lets +onlyGivenNames -underBinder s'; refine Ev.cut (m := μ) (r := r) (x := s') ?_ ?_
       all_goals first | (intro h'; clear_value s') | subst s')
    | (extract_lets +onlyGivenNames -underBinder x'; subst x')
    | (refine fun (h' : Ev _ _ _) => ?_) | apply requestStands_ev | apply tripRequest_ev
    | apply Ev.iteR | split | apply Ev.upd | apply Ev.updT | rfl

theorem eventBlock_ev {μ : Nat} {r s : State} {b : Block} {a2 : Reads} {fr : Frame} {on : Bool} {was : Bool} (h : Ev μ r s)
    (hm : Cov 0x1000 μ := by exact .use) :
    Ev μ r (eventBlock s b a2 fr on was) := by
  unfold eventBlock
  repeat' with_reducible first
    | assumption | exact .inl .use | exact .inr rfl | exact Cov.use
    | (extract_lets +onlyGivenNames -underBinder s'; refine Ev.cut (m := μ) (r := r) (x := s') ?_ ?_
       all_goals first | (intro h'; clear_value s') | subst s')
    | (extract_lets +onlyGivenNames -underBinder x'; subst x')
    | (refine fun (h' : Ev _ _ _) => ?_)
    | apply Ev.iteR | (apply Ev.fst; assumption) | (apply Ev.snd; assumption) | split | apply Ev.upd | apply Ev.updT | rfl

theorem stageDuties_ev {μ : Nat} {r s : State} {ds : List (Nat × Nat × Bool)} (h : Ev μ r s)
    (hm : Cov 0x1000 μ := by exact .use) :
    Ev μ r (stageDuties s ds) := by
  unfold stageDuties
  repeat' with_reducible first
    | assumption | exact .inl .use | exact .inr rfl | exact Cov.use
    | (refine fun (h' : Ev _ _ _) => ?_) | (intro a hab)
    | apply Ev.iteR | split | apply Ev.upd | apply Ev.updT | rfl

theorem blockEffects_ev {μ : Nat} {r s : State} {im : Image} {b : Block} {fr : Frame} {a4 : Reads} {was : List Nat} {k : KindRes} (h : Ev μ r s)
    (hm : Cov 0x600000000000000000007e00000002000000000c000000300100000000000000000000001f262010000d40000000078393e0 μ := by exact .use) :
    Ev μ r (blockEffects s im b fr a4 was k) := by
  unfold blockEffects
  repeat' with_reducible first
    | assumption | exact .inl .use | exact .inr rfl | exact Cov.use
    | (extract_lets +onlyGivenNames -underBinder s'; refine Ev.cut (m := μ) (r := r) (x := s') ?_ ?_
       all_goals first | (intro h'; clear_value s') | subst s')
    | (extract_lets +onlyGivenNames -underBinder x'; subst x')
    | (refine fun (h' : Ev _ _ _) => ?_) | (intro a b hab) | (intro a hab) | apply stageDuties_ev | apply State.bump_ev | apply eventBlock_ev | apply tripBlock_ev | apply deadLetter_ev | apply R.DEC_RSr_CNT_LATE_in
    | apply Ev.iteR | apply Ev.foldl | (apply Ev.fst; assumption) | (apply Ev.snd; assumption) | split | apply Ev.upd | apply Ev.updT | rfl

theorem setBlk_ev {μ : Nat} {r s : State} {slot : Nat} {x : BlkState} (h : Ev μ r s)
    (hm : Cov 0x1000 μ := by exact .use) :
    Ev μ r (setBlk s slot x) := by
  unfold setBlk
  repeat' with_reducible first
    | assumption | exact .inl .use | exact .inr rfl | exact Cov.use
    | (refine fun (h' : Ev _ _ _) => ?_)
    | apply Ev.iteR | split | apply Ev.upd | apply Ev.updT | rfl

theorem delayCapture_ev {μ : Nat} {r s : State} {b : Block} (h : Ev μ r s)
    (hm : Cov 0x1000 μ := by exact .use) :
    Ev μ r (delayCapture s b) := by
  unfold delayCapture
  repeat' with_reducible first
    | assumption | exact .inl .use | exact .inr rfl | exact Cov.use
    | (extract_lets +onlyGivenNames -underBinder s'; refine Ev.cut (m := μ) (r := r) (x := s') ?_ ?_
       all_goals first | (intro h'; clear_value s') | subst s')
    | (extract_lets +onlyGivenNames -underBinder x'; subst x')
    | (refine fun (h' : Ev _ _ _) => ?_) | apply setBlk_ev
    | apply Ev.iteR | (apply Ev.fst; assumption) | (apply Ev.snd; assumption) | split | apply Ev.upd | apply Ev.updT | rfl

theorem delayUpdate_ev {μ : Nat} {r s : State} {im : Image} {b : Block} (h : Ev μ r s)
    (hm : Cov 0x1000 μ := by exact .use) :
    Ev μ r (delayUpdate im s b) := by
  unfold delayUpdate
  repeat' with_reducible first
    | assumption | exact .inl .use | exact .inr rfl | exact Cov.use
    | (refine fun (h' : Ev _ _ _) => ?_)
    | apply Ev.iteR | (apply Ev.fst; assumption) | (apply Ev.snd; assumption) | split | apply Ev.upd | apply Ev.updT | rfl

theorem keepOuts_ev {μ : Nat} {r s : State} {im : Image} {b : Block} {a3 : Reads} (h : Ev μ r s)
    (hm : Cov 0x1000 μ := by exact .use) :
    Ev μ r (keepOuts s im b a3) := by
  unfold keepOuts
  repeat' with_reducible first
    | assumption | exact .inl .use | exact .inr rfl | exact Cov.use
    | (extract_lets +onlyGivenNames -underBinder s'; refine Ev.cut (m := μ) (r := r) (x := s') ?_ ?_
       all_goals first | (intro h'; clear_value s') | subst s')
    | (extract_lets +onlyGivenNames -underBinder x'; subst x')
    | (refine fun (h' : Ev _ _ _) => ?_) | (intro a b hab) | (intro a hab)
    | apply Ev.iteR | apply Ev.foldl | split | apply Ev.upd | apply Ev.updT | rfl

theorem evalBlock_ev {μ : Nat} {r s : State} {im : Image} {k : Nat} {b : Block} (h : Ev μ r s)
    (hm : Cov 0x600000000000000000007e00018002000000000c000000300100000000000000000000001f262010000d40000000078393e0 μ := by exact .use) :
    Ev μ r (evalBlock im k s b) := by
  unfold evalBlock
  repeat' with_reducible first
    | assumption | exact .inl .use | exact .inr rfl | exact Cov.use
    | (extract_lets +onlyGivenNames -underBinder s'; refine Ev.cut (m := μ) (r := r) (x := s') ?_ ?_
       all_goals first | (intro h'; clear_value s') | subst s')
    | (extract_lets +onlyGivenNames -underBinder x'; subst x')
    | (refine fun (h' : Ev _ _ _) => ?_) | (intro a hab) | apply delayCapture_ev | apply setBlk_ev | apply tjestTake_ev | apply keepOuts_ev | apply State.bump_ev | apply writeOuts_ev | apply blockEffects_ev | apply R.FAB_NAN_INF_in | apply R.FAB_NAN_NAN_in
    | apply Ev.iteR | (apply Ev.fst; assumption) | (apply Ev.snd; assumption) | split | apply Ev.upd | apply Ev.updT | rfl

theorem evalFrame_ev {μ : Nat} {r s : State} {im : Image} {k : Nat} {c : State → State} (hc : ∀ x, Ev μ r x → Ev μ r (c x)) (h : Ev μ r s) (hm : Cov 0x600000000000000000007e00018002000000000c000000300100000000000000000000001f262010000d40000000078393e0 μ := by exact .use) :
    Ev μ r (evalFrame s im k c) := by
  unfold evalFrame
  refine Ev.foldl (fun x b hx => evalBlock_ev hx) (Ev.foldl (fun x b hx => requestStands_ev hx)
    (Ev.foldl (fun x n hx => ?_) (Ev.upd (hc _ (Ev.foldl (fun x b hx => delayUpdate_ev hx) h)) rfl rfl)))
  split
  · exact State.setLeg_ev hx
  · exact hx

theorem writeFrameItem_ev {μ : Nat} {r s : State} {im : Image} {k : Nat} {hash : Nat} {faulted : Bool} (h : Ev μ r s)
    (hm : Cov 0x1e2000000000000000000000000000000000000000000000000000000000000000000000000000000004800040 μ := by exact .use) :
    Ev μ r (writeFrameItem s im k hash faulted) := by
  unfold writeFrameItem
  repeat' with_reducible first
    | assumption | exact .inl .use | exact .inr rfl | exact Cov.use
    | (extract_lets +onlyGivenNames -underBinder s'; refine Ev.cut (m := μ) (r := r) (x := s') ?_ ?_
       all_goals first | (intro h'; clear_value s') | subst s')
    | (extract_lets +onlyGivenNames -underBinder x'; subst x')
    | (refine fun (h' : Ev _ _ _) => ?_) | apply frFrame_ev
    | apply Ev.iteR | (apply Ev.fst; assumption) | (apply Ev.snd; assumption) | split | apply Ev.upd | apply Ev.updT | rfl

theorem ckpBlocks_ev {μ : Nat} {r : State} {im : Image} {bl : List Block} {p : State × Bytes} (h : Ev μ r p.1) (hm : Cov 0x1000 μ := by exact .use) : Ev μ r (ckpBlocks im bl p).1 := by
  induction bl generalizing p with
  | nil => exact h
  | cons b bl ih => exact ih (setBlk_ev h)

theorem ckpBuffers_ev {μ : Nat} {r : State} {rs : List ResRec} {p : State × Bytes} (h : Ev μ r p.1) (hm : Cov 0x200 μ := by exact .use) : Ev μ r (ckpBuffers rs p).1 := by
  induction rs generalizing p with
  | nil => exact h
  | cons b rs ih => exact ih (Ev.upd h rfl rfl)

theorem ckpLoad_ev {μ : Nat} {r s : State} {im : Image} {body : Bytes} (h : Ev μ r s)
    (hm : Cov 0x1200 μ := by exact .use) :
    Ev μ r (ckpLoad s im body) := by
  unfold ckpLoad
  repeat' with_reducible first
    | assumption | exact .inl .use | exact .inr rfl | exact Cov.use
    | (extract_lets +onlyGivenNames -underBinder s'; refine Ev.cut (m := μ) (r := r) (x := s') ?_ ?_
       all_goals first | (intro h'; clear_value s') | subst s')
    | (extract_lets +onlyGivenNames -underBinder x'; subst x')
    | (refine fun (h' : Ev _ _ _) => ?_) | (intro a b hab) | (intro a hab) | apply ckpBuffers_ev | apply ckpBlocks_ev
    | apply Ev.iteR | apply Ev.foldl | split | apply Ev.upd | apply Ev.updT | rfl

theorem writeCheckpoint_ev {μ : Nat} {r s : State} {k : Nat} {body : Bytes} (h : Ev μ r s)
    (hm : Cov 0x1e0000000000000000000000000000000000000000000000000000000000000000000000000000000004000040 μ := by exact .use) :
    Ev μ r (writeCheckpoint s k body) := by
  unfold writeCheckpoint
  repeat' with_reducible first
    | assumption | exact .inl .use | exact .inr rfl | exact Cov.use
    | (extract_lets +onlyGivenNames -underBinder s'; refine Ev.cut (m := μ) (r := r) (x := s') ?_ ?_
       all_goals first | (intro h'; clear_value s') | subst s')
    | (extract_lets +onlyGivenNames -underBinder x'; subst x')
    | (refine fun (h' : Ev _ _ _) => ?_) | apply frAppend_ev
    | apply Ev.iteR | split | apply Ev.upd | apply Ev.updT | rfl

theorem recordFrame_ev {μ : Nat} {r s : State} {im : Image} {k : Nat} {hash : Nat} {faulted : Bool} (h : Ev μ r s)
    (hm : Cov 0x1e3840000000000000000000000000000000000000000000000000000000000000000000000000000004800040 μ := by exact .use) :
    Ev μ r (recordFrame s im k hash faulted) := by
  unfold recordFrame
  repeat' with_reducible first
    | assumption | exact .inl .use | exact .inr rfl | exact Cov.use
    | (extract_lets +onlyGivenNames -underBinder s'; refine Ev.cut (m := μ) (r := r) (x := s') ?_ ?_
       all_goals first | (intro h'; clear_value s') | subst s')
    | (extract_lets +onlyGivenNames -underBinder x'; subst x')
    | (refine fun (h' : Ev _ _ _) => ?_) | apply autoholdStop_ev | apply writeCheckpoint_ev | apply holdTick_ev | apply writeFrameItem_ev
    | apply Ev.iteR | (apply Ev.fst; assumption) | (apply Ev.snd; assumption) | split | apply Ev.upd | apply Ev.updT | rfl

theorem State.setConn_ev {μ : Nat} {r s : State} {j : Nat} {c : Conn} (h : Ev μ r s)
    (hm : Cov 0x4000 μ := by exact .use) :
    Ev μ r (State.setConn s j c) := by
  unfold State.setConn
  repeat' with_reducible first
    | assumption | exact .inl .use | exact .inr rfl | exact Cov.use
    | (refine fun (h' : Ev _ _ _) => ?_)
    | apply Ev.iteR | split | apply Ev.upd | apply Ev.updT | rfl

theorem State.setContactor_ev {μ : Nat} {r s : State} {n : Nat} {c : Contactor} (h : Ev μ r s)
    (hm : Cov 0x4000 μ := by exact .use) :
    Ev μ r (State.setContactor s n c) := by
  unfold State.setContactor
  repeat' with_reducible first
    | assumption | exact .inl .use | exact .inr rfl | exact Cov.use
    | (refine fun (h' : Ev _ _ _) => ?_)
    | apply Ev.iteR | split | apply Ev.upd | apply Ev.updT | rfl

theorem contactorFrame_ev {μ : Nat} {r s : State} (h : Ev μ r s)
    (hm : Cov 0x4000 μ := by exact .use) :
    Ev μ r (contactorFrame s) := by
  unfold contactorFrame
  repeat' with_reducible first
    | assumption | exact .inl .use | exact .inr rfl | exact Cov.use
    | (extract_lets +onlyGivenNames -underBinder s'; refine Ev.cut (m := μ) (r := r) (x := s') ?_ ?_
       all_goals first | (intro h'; clear_value s') | subst s')
    | (extract_lets +onlyGivenNames -underBinder x'; subst x')
    | (refine fun (h' : Ev _ _ _) => ?_) | (intro a b hab) | (intro a hab) | apply State.setContactor_ev
    | apply Ev.iteR | apply Ev.foldl | split | apply Ev.upd | apply Ev.updT | rfl

theorem setLost_ev {μ : Nat} {r s : State} {p : Nat} {v : Bool} (h : Ev μ r s)
    (hm : Cov 0x20000000000000000000000000000000000000000000000000000000000200 μ := by exact .use) :
    Ev μ r (setLost s p v) := by
  unfold setLost
  repeat' with_reducible first
    | assumption | exact .inl .use | exact .inr rfl | exact Cov.use
    | (extract_lets +onlyGivenNames -underBinder s'; refine Ev.cut (m := μ) (r := r) (x := s') ?_ ?_
       all_goals first | (intro h'; clear_value s') | subst s')
    | (extract_lets +onlyGivenNames -underBinder x'; subst x')
    | (refine fun (h' : Ev _ _ _) => ?_) | apply State.setPath_ev | apply State.put_ev | apply R.SN_LOSTm_CH_in
    | apply Ev.iteR | split | apply Ev.upd | apply Ev.updT | rfl

theorem bitstreamLost_ev {μ : Nat} {r s : State} {p : Nat} (h : Ev μ r s)
    (hm : Cov 0x20000000000000000000000000000000000000000000000000000000000200 μ := by exact .use) :
    Ev μ r (bitstreamLost s p) := by
  unfold bitstreamLost
  repeat' with_reducible first
    | assumption | exact .inl .use | exact .inr rfl | exact Cov.use
    | (refine fun (h' : Ev _ _ _) => ?_) | apply setLost_ev | apply State.setPath_ev
    | apply Ev.iteR | split | apply Ev.upd | apply Ev.updT | rfl

theorem lostEnd_ev {μ : Nat} {r s : State} {p : Nat} (h : Ev μ r s)
    (hm : Cov 0x20000000000000000000000000000000000000000000000000000000000200 μ := by exact .use) :
    Ev μ r (lostEnd s p) := by
  unfold lostEnd
  repeat' with_reducible first
    | assumption | exact .inl .use | exact .inr rfl | exact Cov.use
    | (refine fun (h' : Ev _ _ _) => ?_) | apply pathUnsettle_ev | apply setLost_ev
    | apply Ev.iteR | split | apply Ev.upd | apply Ev.updT | rfl

theorem sliceOverload_ev {μ : Nat} {r s : State} {n : Nat} {positive : Bool} (h : Ev μ r s)
    (hm : Cov 0x200 μ := by exact .use) :
    Ev μ r (sliceOverload s n positive) := by
  unfold sliceOverload
  repeat' with_reducible first
    | assumption | exact .inl .use | exact .inr rfl | exact Cov.use
    | (extract_lets +onlyGivenNames -underBinder s'; refine Ev.cut (m := μ) (r := r) (x := s') ?_ ?_
       all_goals first | (intro h'; clear_value s') | subst s')
    | (extract_lets +onlyGivenNames -underBinder x'; subst x')
    | (refine fun (h' : Ev _ _ _) => ?_) | (intro a hab)
    | apply Ev.iteR | (apply Ev.fst; assumption) | (apply Ev.snd; assumption) | split | apply Ev.upd | apply Ev.updT | rfl

theorem bankAccepted_ev {μ : Nat} {r s : State} {p : Nat} {b : Nat} {source : Nat} {pm : Nat} {k : Nat} {item : Bytes} (h : Ev μ r s)
    (hm : Cov 0x7e000000000004f00000000000000000000000000000000000000006201000000000000003838220 μ := by exact .use) :
    Ev μ r (bankAccepted s p b source pm k item) := by
  unfold bankAccepted
  repeat' with_reducible first
    | assumption | exact .inl .use | exact .inr rfl | exact Cov.use
    | (extract_lets +onlyGivenNames -underBinder s'; refine Ev.cut (m := μ) (r := r) (x := s') ?_ ?_
       all_goals first | (intro h'; clear_value s') | subst s')
    | (extract_lets +onlyGivenNames -underBinder x'; subst x')
    | (refine fun (h' : Ev _ _ _) => ?_) | apply deadLetter_ev | apply fadeStart_ev | apply State.setPath_ev | apply State.put_ev | apply R.DEC_PATHp_BANK_HBANK_in | apply R.DEC_PATHp_BANK_HELD_in
    | apply Ev.iteR | (apply Ev.fst; assumption) | (apply Ev.snd; assumption) | split | apply Ev.upd | apply Ev.updT | rfl

theorem sourceAccepted_ev {μ : Nat} {r s : State} {p : Nat} {src : Nat} {source : Nat} {pm : Nat} {k : Nat} {item : Bytes} (h : Ev μ r s)
    (hm : Cov 0x7e000000000000080000000000000000000000000000000000000006201000000000000003838220 μ := by exact .use) :
    Ev μ r (sourceAccepted s p src source pm k item) := by
  unfold sourceAccepted
  repeat' with_reducible first
    | assumption | exact .inl .use | exact .inr rfl | exact Cov.use
    | (refine fun (h' : Ev _ _ _) => ?_) | apply deadLetter_ev | apply pathUnsettle_ev | apply State.put_ev | apply R.DEC_PATHp_CFG_SRC_in
    | apply Ev.iteR | split | apply Ev.upd | apply Ev.updT | rfl

theorem State.setResampler_ev {μ : Nat} {r s : State} {a1 : Nat} {x : Resampler} (h : Ev μ r s)
    (hm : Cov 0x200 μ := by exact .use) :
    Ev μ r (State.setResampler s a1 x) := by
  unfold State.setResampler
  repeat' with_reducible first
    | assumption | exact .inl .use | exact .inr rfl | exact Cov.use
    | (refine fun (h' : Ev _ _ _) => ?_)
    | apply Ev.iteR | split | apply Ev.upd | apply Ev.updT | rfl

theorem feedResamplers_ev {μ : Nat} {r s : State} {p : Nat} {o : SenseOut} (h : Ev μ r s)
    (hm : Cov 0x200 μ := by exact .use) :
    Ev μ r (feedResamplers s p o) := by
  unfold feedResamplers
  repeat' with_reducible first
    | assumption | exact .inl .use | exact .inr rfl | exact Cov.use
    | (extract_lets +onlyGivenNames -underBinder s'; refine Ev.cut (m := μ) (r := r) (x := s') ?_ ?_
       all_goals first | (intro h'; clear_value s') | subst s')
    | (extract_lets +onlyGivenNames -underBinder x'; subst x')
    | (refine fun (h' : Ev _ _ _) => ?_) | (intro a b hab) | (intro a hab) | apply State.setResampler_ev
    | apply Ev.iteR | apply Ev.foldl | (apply Ev.fst; assumption) | (apply Ev.snd; assumption) | split | apply Ev.upd | apply Ev.updT | rfl

theorem resamplerOutput_ev {μ : Nat} {r s : State} {a1 : Nat} (h : Ev μ r s)
    (hm : Cov 0x1c000006000000000000000000000000000000000000000000000000000000000800200 μ := by exact .use) :
    Ev μ r (resamplerOutput s a1) := by
  unfold resamplerOutput
  repeat' with_reducible first
    | assumption | exact .inl .use | exact .inr rfl | exact Cov.use
    | (extract_lets +onlyGivenNames -underBinder s'; refine Ev.cut (m := μ) (r := r) (x := s') ?_ ?_
       all_goals first | (intro h'; clear_value s') | subst s')
    | (extract_lets +onlyGivenNames -underBinder x'; subst x')
    | (refine fun (h' : Ev _ _ _) => ?_) | (intro a b hab) | (intro a hab) | apply State.setResampler_ev | apply State.put_ev | apply State.bump_ev | apply R.DEC_RSr_CNT_OUT_in | apply R.DEC_RSr_IDX_J_in | apply R.DEC_RSr_IDX_RUN_in | apply R.SN_CHc_CODE_CODE_in | apply R.SN_CHc_STAT_STAT_in
    | apply Ev.iteR | apply Ev.foldl | (apply Ev.fst; assumption) | (apply Ev.snd; assumption) | split | apply Ev.upd | apply Ev.updT | rfl

theorem resamplersRestart_ev {μ : Nat} {r s : State} (h : Ev μ r s)
    (hm : Cov 0x4000000000000000000000000000000000000000000000000000000000000000000200 μ := by exact .use) :
    Ev μ r (resamplersRestart s) := by
  unfold resamplersRestart
  repeat' with_reducible first
    | assumption | exact .inl .use | exact .inr rfl | exact Cov.use
    | (refine fun (h' : Ev _ _ _) => ?_) | (intro a b hab) | (intro a hab) | apply State.put_ev | apply State.setResampler_ev | apply R.DEC_RSr_IDX_RUN_in
    | apply Ev.iteR | apply Ev.foldl | (apply Ev.fst; assumption) | (apply Ev.snd; assumption) | split | apply Ev.upd | apply Ev.updT | rfl

theorem calBegin_ev {μ : Nat} {r s : State} {step : Nat} (h : Ev μ r s)
    (hm : Cov 0x500000000000000000000000000000000000000000000000000000000200 μ := by exact .use) :
    Ev μ r (calBegin s step) := by
  unfold calBegin
  repeat' with_reducible first
    | assumption | exact .inl .use | exact .inr rfl | exact Cov.use
    | (extract_lets +onlyGivenNames -underBinder s'; refine Ev.cut (m := μ) (r := r) (x := s') ?_ ?_
       all_goals first | (intro h'; clear_value s') | subst s')
    | (extract_lets +onlyGivenNames -underBinder x'; subst x')
    | (refine fun (h' : Ev _ _ _) => ?_) | apply State.put_ev | apply R.SN_CAL_PHASE_in | apply R.SN_CAL_STEP_in
    | apply Ev.iteR | split | apply Ev.upd | apply Ev.updT | rfl

theorem calSuspend_ev {μ : Nat} {r s : State} (h : Ev μ r s)
    (hm : Cov 0x100000000000000000000000000000000000000000000000000000000200 μ := by exact .use) :
    Ev μ r (calSuspend s) := by
  unfold calSuspend
  repeat' with_reducible first
    | assumption | exact .inl .use | exact .inr rfl | exact Cov.use
    | (refine fun (h' : Ev _ _ _) => ?_) | apply State.put_ev | apply R.SN_CAL_PHASE_in
    | apply Ev.iteR | split | apply Ev.upd | apply Ev.updT | rfl

theorem calFail_ev {μ : Nat} {r s : State} {afterSubst : Bool} (h : Ev μ r s)
    (hm : Cov 0x380000000000000000000000000000000000000000000000000000000200 μ := by exact .use) :
    Ev μ r (calFail s afterSubst) := by
  unfold calFail
  repeat' with_reducible first
    | assumption | exact .inl .use | exact .inr rfl | exact Cov.use
    | (extract_lets +onlyGivenNames -underBinder s'; refine Ev.cut (m := μ) (r := r) (x := s') ?_ ?_
       all_goals first | (intro h'; clear_value s') | subst s')
    | (extract_lets +onlyGivenNames -underBinder x'; subst x')
    | (refine fun (h' : Ev _ _ _) => ?_) | apply State.put_ev | apply R.SN_CAL_FAILED_in | apply R.SN_CAL_FSLICE_in | apply R.SN_CAL_PHASE_in
    | apply Ev.iteR | split | apply Ev.upd | apply Ev.updT | rfl

theorem calStep_ev {μ : Nat} {r s : State} (h : Ev μ r s)
    (hm : Cov 0x40000000000000000000000000000000000000000000000000000000000000000f80000000000000000000022000011000000000000000000000002801206 μ := by exact .use) :
    Ev μ r (calStep s) := by
  unfold calStep
  repeat' with_reducible first
    | assumption | exact .inl .use | exact .inr rfl | exact Cov.use
    | (extract_lets +onlyGivenNames -underBinder s'; refine Ev.cut (m := μ) (r := r) (x := s') ?_ ?_
       all_goals first | (intro h'; clear_value s') | subst s')
    | (extract_lets +onlyGivenNames -underBinder x'; subst x')
    | (refine fun (h' : Ev _ _ _) => ?_) | apply calBegin_ev | apply State.runElapsed_ev | apply calFail_ev | apply State.bump_ev | apply R.SN_CAL_ROT_in
    | apply Ev.iteR | (apply Ev.fst; assumption) | (apply Ev.snd; assumption) | split | apply Ev.upd | apply Ev.updT | rfl

theorem calAtOutput_ev {μ : Nat} {r s : State} {p : Nat} {n : Nat} {paired : Nat} {st : Nat} (h : Ev μ r s)
    (hm : Cov 0x380000000000000000000000000000000000000000000000000000000200 μ := by exact .use) :
    Ev μ r (calAtOutput s p n paired st) := by
  unfold calAtOutput
  repeat' with_reducible first
    | assumption | exact .inl .use | exact .inr rfl | exact Cov.use
    | (extract_lets +onlyGivenNames -underBinder s'; refine Ev.cut (m := μ) (r := r) (x := s') ?_ ?_
       all_goals first | (intro h'; clear_value s') | subst s')
    | (extract_lets +onlyGivenNames -underBinder x'; subst x')
    | (refine fun (h' : Ev _ _ _) => ?_) | apply calFail_ev | apply State.put_ev | apply State.setPath_ev | apply R.SN_CAL_PHASE_in
    | apply Ev.iteR | split | apply Ev.upd | apply Ev.updT | rfl

theorem bitFeed_ev {μ : Nat} {r s : State} {p : Nat} {k : Nat} {a3 : Nat} {d : Nat} {xs : List Int} (h : Ev μ r s)
    (hm : Cov 0x20000000000000000000000000000000000000000000000000000000000200 μ := by exact .use) :
    Ev μ r (bitFeed s p k a3 d xs) := by
  unfold bitFeed
  repeat' with_reducible first
    | assumption | exact .inl .use | exact .inr rfl | exact Cov.use
    | (extract_lets +onlyGivenNames -underBinder s'; refine Ev.cut (m := μ) (r := r) (x := s') ?_ ?_
       all_goals first | (intro h'; clear_value s') | subst s')
    | (extract_lets +onlyGivenNames -underBinder x'; subst x')
    | (refine fun (h' : Ev _ _ _) => ?_) | apply State.setPath_ev | apply setLost_ev | apply pathUnsettle_ev
    | apply Ev.iteR | (apply Ev.fst; assumption) | (apply Ev.snd; assumption) | split | apply Ev.upd | apply Ev.updT | rfl

theorem sliceFeed_ev {μ : Nat} {r s : State} {p : Nat} {k : Nat} {a3 : Nat} {d : Nat} {xs : List Int} (h : Ev μ r s)
    (hm : Cov 0x200 μ := by exact .use) :
    Ev μ r (sliceFeed s p k a3 d xs) := by
  unfold sliceFeed
  repeat' with_reducible first
    | assumption | exact .inl .use | exact .inr rfl | exact Cov.use
    | (extract_lets +onlyGivenNames -underBinder s'; refine Ev.cut (m := μ) (r := r) (x := s') ?_ ?_
       all_goals first | (intro h'; clear_value s') | subst s')
    | (extract_lets +onlyGivenNames -underBinder x'; subst x')
    | (refine fun (h' : Ev _ _ _) => ?_) | apply State.setPath_ev
    | apply Ev.iteR | split | apply Ev.upd | apply Ev.updT | rfl

theorem pathFeed_ev {μ : Nat} {r s : State} {p : Nat} {d : Nat} {mods : List Int} (h : Ev μ r s)
    (hm : Cov 0x20000000000000000000000000000000000000000000000000000000000200 μ := by exact .use) :
    Ev μ r (pathFeed s p d mods) := by
  unfold pathFeed
  repeat' with_reducible first
    | assumption | exact .inl .use | exact .inr rfl | exact Cov.use
    | (extract_lets +onlyGivenNames -underBinder s'; refine Ev.cut (m := μ) (r := r) (x := s') ?_ ?_
       all_goals first | (intro h'; clear_value s') | subst s')
    | (extract_lets +onlyGivenNames -underBinder x'; subst x')
    | (refine fun (h' : Ev _ _ _) => ?_) | apply bitFeed_ev | apply sliceFeed_ev
    | apply Ev.iteR | split | apply Ev.upd | apply Ev.updT | rfl

theorem fadeStep_ev {μ : Nat} {r s : State} {p : Nat} (h : Ev μ r s)
    (hm : Cov 0x87b00000000000000000000000000000000000000000000000000000000000000200 μ := by exact .use) :
    Ev μ r (fadeStep s p) := by
  unfold fadeStep
  repeat' with_reducible first
    | assumption | exact .inl .use | exact .inr rfl | exact Cov.use
    | (refine fun (h' : Ev _ _ _) => ?_) | apply State.put_ev | apply State.setPath_ev | apply fadeClose_ev | apply R.DEC_PATHp_BANK_XFLEFT_in
    | apply Ev.iteR | (apply Ev.fst; assumption) | (apply Ev.snd; assumption) | split | apply Ev.upd | apply Ev.updT | rfl

theorem deliver_ev {μ : Nat} {r s : State} {p : Nat} {o : SenseOut} (h : Ev μ r s)
    (hm : Cov 0x7a00000000000030000000000000000000006010000000000000000000000000000000000000000000000000000004800240 μ := by exact .use) :
    Ev μ r (deliver s p o) := by
  unfold deliver
  repeat' with_reducible first
    | assumption | exact .inl .use | exact .inr rfl | exact Cov.use
    | (extract_lets +onlyGivenNames -underBinder s'; refine Ev.cut (m := μ) (r := r) (x := s') ?_ ?_
       all_goals first | (intro h'; clear_value s') | subst s')
    | (extract_lets +onlyGivenNames -underBinder x'; subst x')
    | (refine fun (h' : Ev _ _ _) => ?_) | apply State.setPath_ev | apply State.put_ev | apply capChannelRows_ev | apply snapServe_ev | apply feedResamplers_ev | apply R.SN_CHc_CODE_CODE_in | apply R.SN_CHc_STAT_STAT_in | apply R.SN_ORm_CH_in
    | apply Ev.iteR | split | apply Ev.upd | apply Ev.updT | rfl

theorem pathAccepts_ev {μ : Nat} {r s : State} {p : Nat} {t : Nat} (h : Ev μ r s)
    (hm : Cov 0x7e000000000004f8000000000000000000000000004000000000000620100000000000000383a220 μ := by exact .use) :
    Ev μ r (pathAccepts s p t) := by
  unfold pathAccepts
  repeat' with_reducible first
    | assumption | exact .inl .use | exact .inr rfl | exact Cov.use
    | (extract_lets +onlyGivenNames -underBinder s'; refine Ev.cut (m := μ) (r := r) (x := s') ?_ ?_
       all_goals first | (intro h'; clear_value s') | subst s')
    | (extract_lets +onlyGivenNames -underBinder x'; subst x')
    | (refine fun (h' : Ev _ _ _) => ?_) | (intro a b hab) | (intro a hab) | apply closeSet_ev | apply bankAccepted_ev | apply sourceAccepted_ev
    | apply Ev.iteR | apply Ev.foldl | (apply Ev.fst; assumption) | (apply Ev.snd; assumption) | split | apply Ev.upd | apply Ev.updT | rfl

theorem senseTrigger_ev {μ : Nat} {r s : State} {p : Nat} {mods : List Int} {paired : Nat} (h : Ev μ r s)
    (hm : Cov 0x40000000000000000000000007a0000000000003000007e000000000087f8603038000000000000000000006200001100000620100000000000000783b266 μ := by exact .use) :
    Ev μ r (senseTrigger s p mods paired) := by
  unfold senseTrigger
  repeat' with_reducible first
    | assumption | exact .inl .use | exact .inr rfl | exact Cov.use
    | (extract_lets +onlyGivenNames -underBinder s'; refine Ev.cut (m := μ) (r := r) (x := s') ?_ ?_
       all_goals first | (intro h'; clear_value s') | subst s')
    | (extract_lets +onlyGivenNames -underBinder x'; subst x')
    | (refine fun (h' : Ev _ _ _) => ?_) | apply pathAccepts_ev | apply State.runTo_ev | apply pathFeed_ev | apply calAtOutput_ev | apply State.setPath_ev | apply deliver_ev | apply fadeStep_ev
    | apply Ev.iteR | (apply Ev.fst; assumption) | (apply Ev.snd; assumption) | split | apply Ev.upd | apply Ev.updT | rfl

theorem senseResume_ev {μ : Nat} {r s : State} (h : Ev μ r s)
    (hm : Cov 0x200 μ := by exact .use) :
    Ev μ r (senseResume s) := by
  unfold senseResume
  repeat' with_reducible first
    | assumption | exact .inl .use | exact .inr rfl | exact Cov.use
    | (refine fun (h' : Ev _ _ _) => ?_) | apply unsettleAll_ev
    | apply Ev.iteR | split | apply Ev.upd | apply Ev.updT | rfl

theorem tigStart_ev {μ : Nat} {r s : State} {fk : Nat} (h : Ev μ r s)
    (hm : Cov 0x334000000000000000000000000000000001000 μ := by exact .use) :
    Ev μ r (tigStart s fk) := by
  unfold tigStart
  repeat' with_reducible first
    | assumption | exact .inl .use | exact .inr rfl | exact Cov.use
    | (extract_lets +onlyGivenNames -underBinder s'; refine Ev.cut (m := μ) (r := r) (x := s') ?_ ?_
       all_goals first | (intro h'; clear_value s') | subst s')
    | (extract_lets +onlyGivenNames -underBinder x'; subst x')
    | (refine fun (h' : Ev _ _ _) => ?_) | apply State.put_ev | apply State.putPair_ev | apply R.POST_TIGBASE_HI_SEC_in | apply R.POST_TIGBASE_LO_FRAC_in | apply R.POST_TIG_HELD_in | apply R.POST_TIG_IMAGE_in | apply R.POST_TIG_OVERRUN_in
    | apply Ev.iteR | split | apply Ev.upd | apply Ev.updT | rfl

theorem tigComplete_ev {μ : Nat} {r s : State} {fk : Nat} (h : Ev μ r s)
    (hm : Cov 0x320800000000000000000000000000000801000 μ := by exact .use) :
    Ev μ r (tigComplete s fk) := by
  unfold tigComplete
  repeat' with_reducible first
    | assumption | exact .inl .use | exact .inr rfl | exact Cov.use
    | (extract_lets +onlyGivenNames -underBinder s'; refine Ev.cut (m := μ) (r := r) (x := s') ?_ ?_
       all_goals first | (intro h'; clear_value s') | subst s')
    | (extract_lets +onlyGivenNames -underBinder x'; subst x')
    | (refine fun (h' : Ev _ _ _) => ?_) | apply State.put_ev | apply State.putPair_ev | apply State.bump_ev | apply R.POST_TIGBASE_HI_SEC_in | apply R.POST_TIGBASE_LO_FRAC_in | apply R.POST_TIG_HELD_in | apply R.POST_TIG_LAPSES_in
    | apply Ev.iteR | split | apply Ev.upd | apply Ev.updT | rfl

theorem hwFault_ev {μ : Nat} {r s : State} (h : Ev μ r s)
    (hm : Cov 0x21000000000000000000000000000000001000 μ := by exact .use) :
    Ev μ r (hwFault s) := by
  unfold hwFault
  repeat' with_reducible first
    | assumption | exact .inl .use | exact .inr rfl | exact Cov.use
    | (refine fun (h' : Ev _ _ _) => ?_) | apply tigBreak_ev | apply State.put_ev | apply R.POST_TIG_HWFAULT_in
    | apply Ev.iteR | split | apply Ev.upd | apply Ev.updT | rfl

theorem replayBegin_ev {μ : Nat} {r s : State} (h : Ev μ r s)
    (hm : Cov 0x7c001840000000000000000000000000000000000000000000000000000000000000000000000000000000001040 μ := by exact .use) :
    Ev μ r (replayBegin s) := by
  unfold replayBegin
  repeat' with_reducible first
    | assumption | exact .inl .use | exact .inr rfl | exact Cov.use
    | (extract_lets +onlyGivenNames -underBinder s'; refine Ev.cut (m := μ) (r := r) (x := s') ?_ ?_
       all_goals first | (intro h'; clear_value s') | subst s')
    | (extract_lets +onlyGivenNames -underBinder x'; subst x')
    | (refine fun (h' : Ev _ _ _) => ?_) | (intro a hab) | apply frHold_ev | apply State.put_ev | apply R.CAP_RPDIV_NDIV_in | apply R.CAP_RPDIV_SLOT_in | apply R.CAP_RPSTAT_REASON_in | apply R.CAP_RPSTAT_SKIPS_in | apply R.CAP_RPSTAT_STATE_in
    | apply Ev.iteR | split | apply Ev.upd | apply Ev.updT | rfl

theorem replayEnd_ev {μ : Nat} {r s : State} {reason : Nat} (h : Ev μ r s)
    (hm : Cov 0x2000000000000000000004000018000000000000000000600000000c00000000007e00000004400000000c0002003009c0000000000020000000001f260011000d40008800078b9bf0 μ := by exact .use) :
    Ev μ r (replayEnd s reason) := by
  unfold replayEnd
  repeat' with_reducible first
    | assumption | exact .inl .use | exact .inr rfl | exact Cov.use
    | (extract_lets +onlyGivenNames -underBinder s'; refine Ev.cut (m := μ) (r := r) (x := s') ?_ ?_
       all_goals first | (intro h'; clear_value s') | subst s')
    | (extract_lets +onlyGivenNames -underBinder x'; subst x')
    | (refine fun (h' : Ev _ _ _) => ?_) | apply State.irq_ev | apply State.put_ev | apply fabricHalt_ev | apply tigBreak_ev | apply setMode_ev | apply R.CAP_RPSTAT_REASON_in | apply R.CAP_RPSTAT_STATE_in
    | apply Ev.iteR | split | apply Ev.upd | apply Ev.updT | rfl

theorem stageMod_ev {μ : Nat} {r s : State} {im : Image} {e : Nat × Nat × Bool} (h : Ev μ r s)
    (hm : Cov 0x8007000000000000000000000000000000000000000000800000 μ := by exact .use) :
    Ev μ r (stageMod im s e) := by
  unfold stageMod
  repeat' with_reducible first
    | assumption | exact .inl .use | exact .inr rfl | exact Cov.use
    | (extract_lets +onlyGivenNames -underBinder s'; refine Ev.cut (m := μ) (r := r) (x := s') ?_ ?_
       all_goals first | (intro h'; clear_value s') | subst s')
    | (extract_lets +onlyGivenNames -underBinder x'; subst x')
    | (refine fun (h' : Ev _ _ _) => ?_) | apply stagePeriod_ev | apply stageDuty_ev | apply stagePhase_ev
    | apply Ev.iteR | split | apply Ev.upd | apply Ev.updT | rfl

theorem loadAll_ev {μ : Nat} {r s : State} {im : Image} {c : Nat} (h : Ev μ r s)
    (hm : Cov 0x8008007000000000000000000000000000000000000000000800080 μ := by exact .use) :
    Ev μ r (loadAll s im c) := by
  unfold loadAll
  repeat' with_reducible first
    | assumption | exact .inl .use | exact .inr rfl | exact Cov.use
    | (extract_lets +onlyGivenNames -underBinder s'; refine Ev.cut (m := μ) (r := r) (x := s') ?_ ?_
       all_goals first | (intro h'; clear_value s') | subst s')
    | (extract_lets +onlyGivenNames -underBinder x'; subst x')
    | (refine fun (h' : Ev _ _ _) => ?_) | (intro a b hab) | (intro a hab) | apply stageMod_ev | apply loadLeg_ev
    | apply Ev.iteR | apply Ev.foldl | split | apply Ev.upd | apply Ev.updT | rfl

theorem postRaised_ev {μ : Nat} {r s : State} {fk : Nat} (h : Ev μ r s)
    (hm : Cov 0x7e000000000000000000000000000000000000000000000000000000000000000000000001800020 μ := by exact .use) :
    Ev μ r (postRaised s fk) := by
  unfold postRaised
  repeat' with_reducible first
    | assumption | exact .inl .use | exact .inr rfl | exact Cov.use
    | (extract_lets +onlyGivenNames -underBinder s'; refine Ev.cut (m := μ) (r := r) (x := s') ?_ ?_
       all_goals first | (intro h'; clear_value s') | subst s')
    | (extract_lets +onlyGivenNames -underBinder x'; subst x')
    | (refine fun (h' : Ev _ _ _) => ?_) | (intro a b hab) | (intro a hab) | apply postHw_ev
    | apply Ev.iteR | apply Ev.foldl | split | apply Ev.upd | apply Ev.updT | rfl

theorem windowFollow_ev {μ : Nat} {r s : State} {im : Image} {k : Nat} (h : Ev μ r s)
    (hm : Cov 0x6020000000000000000000000000000000000000000000000000000000000000000000001000 μ := by exact .use) :
    Ev μ r (windowFollow s im k) := by
  unfold windowFollow
  repeat' with_reducible first
    | assumption | exact .inl .use | exact .inr rfl | exact Cov.use
    | (extract_lets +onlyGivenNames -underBinder s'; refine Ev.cut (m := μ) (r := r) (x := s') ?_ ?_
       all_goals first | (intro h'; clear_value s') | subst s')
    | (extract_lets +onlyGivenNames -underBinder x'; subst x')
    | (refine fun (h' : Ev _ _ _) => ?_) | apply State.put_ev | apply State.putPair_ev | apply R.FAB_SNAPK_HI_K_in | apply R.FAB_SNAPK_LO_K_in | apply R.FAB_SNAP_FROZEN_in
    | apply Ev.iteR | split | apply Ev.upd | apply Ev.updT | rfl

theorem resampledIn_ev {μ : Nat} {r s : State} {es : List (Nat × Nat × SenseRec)} (h : Ev μ r s)
    (hm : Cov 0x200 μ := by exact .use) :
    Ev μ r (resampledIn s es) := by
  unfold resampledIn
  repeat' with_reducible first
    | assumption | exact .inl .use | exact .inr rfl | exact Cov.use
    | (extract_lets +onlyGivenNames -underBinder s'; refine Ev.cut (m := μ) (r := r) (x := s') ?_ ?_
       all_goals first | (intro h'; clear_value s') | subst s')
    | (extract_lets +onlyGivenNames -underBinder x'; subst x')
    | (refine fun (h' : Ev _ _ _) => ?_) | (intro a b hab) | (intro a hab) | apply State.setResampler_ev
    | apply Ev.iteR | apply Ev.foldl | split | apply Ev.upd | apply Ev.updT | rfl

theorem replayCompare_ev {μ : Nat} {r s : State} {k : Nat} {a2 : Nat} (h : Ev μ r s)
    (hm : Cov 0x2000000000000000000004000018000000000000000000600001f84c00000000007e00002004400000000c0002003009c0000000000020000000001f260011000d40008800078b9bf0 μ := by exact .use) :
    Ev μ r (replayCompare s k a2) := by
  unfold replayCompare
  repeat' with_reducible first
    | assumption | exact .inl .use | exact .inr rfl | exact Cov.use
    | (extract_lets +onlyGivenNames -underBinder s'; refine Ev.cut (m := μ) (r := r) (x := s') ?_ ?_
       all_goals first | (intro h'; clear_value s') | subst s')
    | (extract_lets +onlyGivenNames -underBinder x'; subst x')
    | (refine fun (h' : Ev _ _ _) => ?_) | apply resampledIn_ev | apply State.bump_ev | apply State.putPair_ev | apply replayEnd_ev | apply State.put_ev | apply R.CAP_RPCALC_HI_W_in | apply R.CAP_RPCALC_LO_W_in | apply R.CAP_RPDIV_NDIV_in | apply R.CAP_RPK_HI_W_in | apply R.CAP_RPK_LO_W_in | apply R.CAP_RPREC_HI_W_in | apply R.CAP_RPREC_LO_W_in | apply R.FAB_SNAP_FROZEN_in
    | apply Ev.iteR | (apply Ev.fst; assumption) | (apply Ev.snd; assumption) | split | apply Ev.upd | apply Ev.updT | rfl

theorem frameClear_ev {μ : Nat} {r s : State} (h : Ev μ r s)
    (hm : Cov 0x1200 μ := by exact .use) :
    Ev μ r (frameClear s) := by
  unfold frameClear
  repeat' with_reducible first
    | assumption | exact .inl .use | exact .inr rfl | exact Cov.use
    | (refine fun (h' : Ev _ _ _) => ?_)
    | apply Ev.iteR | split | apply Ev.upd | apply Ev.updT | rfl

theorem tilePeaks_ev {μ : Nat} {r s : State} {im : Image} {k : Nat} (h : Ev μ r s)
    (hm : Cov 0x40000000000000000000000000000000000000000000000000000000000000000000000000000 μ := by exact .use) :
    Ev μ r (tilePeaks s im k) := by
  unfold tilePeaks
  repeat' with_reducible first
    | assumption | exact .inl .use | exact .inr rfl | exact Cov.use
    | (extract_lets +onlyGivenNames -underBinder s'; refine Ev.cut (m := μ) (r := r) (x := s') ?_ ?_
       all_goals first | (intro h'; clear_value s') | subst s')
    | (extract_lets +onlyGivenNames -underBinder x'; subst x')
    | (refine fun (h' : Ev _ _ _) => ?_) | (intro a b hab) | (intro a hab) | apply State.put_ev | apply R.FAB_TILEt_PEAK_CYC_in
    | apply Ev.iteR | apply Ev.foldl | split | apply Ev.upd | apply Ev.updT | rfl

theorem completeFrameWith_ev {μ : Nat} {r s : State} {im : Image} {load : Bool} (h : Ev μ r s)
    (hm : Cov 0x20000000000000000000040000180000000000000000007a0001f84c1e387000007e047e2004400000000c0002083089c7000000000320800000001f260011000d40008800078bdbf0 μ := by exact .use) :
    Ev μ r (completeFrameWith s im load) := by
  unfold completeFrameWith
  repeat' with_reducible first
    | assumption | exact .inl .use | exact .inr rfl | exact Cov.use
    | (extract_lets +onlyGivenNames -underBinder s'; refine Ev.cut (m := μ) (r := r) (x := s') ?_ ?_
       all_goals first | (intro h'; clear_value s') | subst s')
    | (extract_lets +onlyGivenNames -underBinder x'; subst x')
    | (refine fun (h' : Ev _ _ _) => ?_) | apply postBridgeTripsBefore_ev | apply loadAll_ev | apply postRaised_ev | apply tigComplete_ev | apply recordFrame_ev | apply capFrameRows_ev | apply State.putPair_ev | apply windowFollow_ev | apply replayCompare_ev | apply frameClear_ev | apply contactorFrame_ev | apply tilePeaks_ev | apply R.FAB_FRAME_HI_K_in | apply R.FAB_FRAME_LO_K_in | apply R.FAB_HASH_HI_H_in | apply R.FAB_HASH_LO_H_in
    | apply Ev.iteR | (apply Ev.fst; assumption) | (apply Ev.snd; assumption) | split | apply Ev.upd | apply Ev.updT | rfl

theorem completeFrame_ev {μ : Nat} {r s : State} {im : Image} (h : Ev μ r s)
    (hm : Cov 0x20000000000000000000040000180000000000000000007a0001f84c1e387000007e047e2004400000000c0002083089c7000000000320800000001f260011000d40008800078bdbf0 μ := by exact .use) :
    Ev μ r (completeFrame s im) := by
  unfold completeFrame
  repeat' with_reducible first
    | assumption | exact .inl .use | exact .inr rfl | exact Cov.use
    | (refine fun (h' : Ev _ _ _) => ?_) | apply completeFrameWith_ev
    | apply Ev.iteR | split | apply Ev.upd | apply Ev.updT | rfl

theorem postFabricFault_ev {μ : Nat} {r s : State} {code : Nat} {tile : Nat} {k : Nat} {fk : Nat} (h : Ev μ r s)
    (hm : Cov 0x4000000000000000000000000000000000000000000007e000000000000000000000000000000000000000000000000000000000000000000000003800020 μ := by exact .use) :
    Ev μ r (postFabricFault s code tile k fk) := by
  unfold postFabricFault
  repeat' with_reducible first
    | assumption | exact .inl .use | exact .inr rfl | exact Cov.use
    | (extract_lets +onlyGivenNames -underBinder s'; refine Ev.cut (m := μ) (r := r) (x := s') ?_ ?_
       all_goals first | (intro h'; clear_value s') | subst s')
    | (extract_lets +onlyGivenNames -underBinder x'; subst x')
    | (refine fun (h' : Ev _ _ _) => ?_) | apply State.irq_ev | apply postHw_ev
    | apply Ev.iteR | split | apply Ev.upd | apply Ev.updT | rfl

theorem fabricFault_ev {μ : Nat} {r s : State} {code : Nat} {tile : Nat} (h : Ev μ r s)
    (hm : Cov 0x2000000000000000000004000018000000000000000000600000000c1e384000007e0180001c400000000c0002003009c0000000000025000000001f260011000d40008800078b9bf0 μ := by exact .use) :
    Ev μ r (fabricFault s code tile) := by
  unfold fabricFault
  repeat' with_reducible first
    | assumption | exact .inl .use | exact .inr rfl | exact Cov.use
    | (extract_lets +onlyGivenNames -underBinder s'; refine Ev.cut (m := μ) (r := r) (x := s') ?_ ?_
       all_goals first | (intro h'; clear_value s') | subst s')
    | (extract_lets +onlyGivenNames -underBinder x'; subst x')
    | (refine fun (h' : Ev _ _ _) => ?_) | apply State.putPair_ev | apply State.put_ev | apply tigBreak_ev | apply hwFault_ev | apply postFabricFault_ev | apply postRaised_ev | apply recordFrame_ev | apply holdCause_ev | apply fabricHalt_ev | apply frameClear_ev | apply replayEnd_ev | apply enterRecovery_ev | apply twinFault_ev | apply R.FAB_FAULTK_HI_K_in | apply R.FAB_FAULTK_LO_K_in | apply R.FAB_STATUS_FAULT_in | apply R.FAB_STATUS_FTILE_in | apply R.POST_TIG_OVERRUN_in
    | apply Ev.iteR | (apply Ev.fst; assumption) | (apply Ev.snd; assumption) | split | apply Ev.upd | apply Ev.updT | rfl

theorem legAnchor_ev {μ : Nat} {r s : State} {im : Image} {fs : Nat} {n : Nat} (h : Ev μ r s)
    (hm : Cov 0x30013f000000000000000000000000000000000000000000800080 μ := by exact .use) :
    Ev μ r (legAnchor s im fs n) := by
  unfold legAnchor
  repeat' with_reducible first
    | assumption | exact .inl .use | exact .inr rfl | exact Cov.use
    | (extract_lets +onlyGivenNames -underBinder s'; refine Ev.cut (m := μ) (r := r) (x := s') ?_ ?_
       all_goals first | (intro h'; clear_value s') | subst s')
    | (extract_lets +onlyGivenNames -underBinder x'; subst x')
    | (refine fun (h' : Ev _ _ _) => ?_) | apply State.put_ev | apply legHold_ev | apply State.setLeg_ev | apply R.LEGn_DUTY_ACT_DUTY_in | apply R.LEGn_DUTY_DUTY_in | apply R.LEGn_PERIOD_ACT_PERIOD_in | apply R.LEGn_PERIOD_PERIOD_in | apply R.LEGn_PHASE_ACT_PHASE_in | apply R.LEGn_PHASE_PHASE_in
    | apply Ev.iteR | split | apply Ev.upd | apply Ev.updT | rfl

theorem fabricInit_ev {μ : Nat} {r s : State} {im : Image} {fs : Nat} (h : Ev μ r s)
    (hm : Cov 0x600000000000000000007e0000000c400000000c00000030013f000000000005000000001f200000000d40000000058013e0 μ := by exact .use) :
    Ev μ r (fabricInit s im fs) := by
  unfold fabricInit
  repeat' with_reducible first
    | assumption | exact .inl .use | exact .inr rfl | exact Cov.use
    | (extract_lets +onlyGivenNames -underBinder s'; refine Ev.cut (m := μ) (r := r) (x := s') ?_ ?_
       all_goals first | (intro h'; clear_value s') | subst s')
    | (extract_lets +onlyGivenNames -underBinder x'; subst x')
    | (refine fun (h' : Ev _ _ _) => ?_) | (intro a b hab) | (intro a hab) | apply State.put_ev | apply tripsClearAll_ev | apply legAnchor_ev | apply sourcesAct_ev | apply resamplersRestart_ev | apply unsettleAll_ev | apply R.FAB_STATUS_FAULT_in | apply R.FAB_STATUS_RUN_in | apply R.POST_TIG_HWFAULT_in | apply R.POST_TIG_OVERRUN_in
    | apply Ev.iteR | apply Ev.foldl | split | apply Ev.upd | apply Ev.updT | rfl

theorem modeJudge_ev {μ : Nat} {r s : State} {q : ModeReq} {k : Nat} (h : Ev μ r s)
    (hm : Cov 0x2000000000000000000004000018000000000000000000600000007c00184000007e00000004400000000c0002003009c0000000000020000000001f262011000d40008c00078b9bf0 μ := by exact .use) :
    Ev μ r (modeJudge s q k) := by
  unfold modeJudge
  repeat' with_reducible first
    | assumption | exact .inl .use | exact .inr rfl | exact Cov.use
    | (extract_lets +onlyGivenNames -underBinder s'; refine Ev.cut (m := μ) (r := r) (x := s') ?_ ?_
       all_goals first | (intro h'; clear_value s') | subst s')
    | (extract_lets +onlyGivenNames -underBinder x'; subst x')
    | (refine fun (h' : Ev _ _ _) => ?_) | apply modeRefuse_ev | apply setMode_ev | apply replayBegin_ev | apply replayEnd_ev
    | apply Ev.iteR | (apply Ev.fst; assumption) | (apply Ev.snd; assumption) | split | apply Ev.upd | apply Ev.updT | rfl

theorem modePending_ev {μ : Nat} {r s : State} (h : Ev μ r s)
    (hm : Cov 0x200000000000 μ := by exact .use) :
    Ev μ r (modePending s) := by
  unfold modePending
  repeat' with_reducible first
    | assumption | exact .inl .use | exact .inr rfl | exact Cov.use
    | (extract_lets +onlyGivenNames -underBinder s'; refine Ev.cut (m := μ) (r := r) (x := s') ?_ ?_
       all_goals first | (intro h'; clear_value s') | subst s')
    | (extract_lets +onlyGivenNames -underBinder x'; subst x')
    | (refine fun (h' : Ev _ _ _) => ?_) | (intro a hab) | apply State.put_ev | apply R.NODE_MODE_PENDING_in
    | apply Ev.iteR | split | apply Ev.upd | apply Ev.updT | rfl

theorem modeRequests_ev {μ : Nat} {r s : State} {k : Nat} {reqs : List Accepted} (h : Ev μ r s)
    (hm : Cov 0x2000000000000000000004000018000000000000000000600000007c00184000007e00000004400000000c0002003009c0000000000020000000001f262011000d40008c00078b9bf0 μ := by exact .use) :
    Ev μ r (modeRequests s k reqs) := by
  unfold modeRequests
  repeat' with_reducible first
    | assumption | exact .inl .use | exact .inr rfl | exact Cov.use
    | (extract_lets +onlyGivenNames -underBinder s'; refine Ev.cut (m := μ) (r := r) (x := s') ?_ ?_
       all_goals first | (intro h'; clear_value s') | subst s')
    | (extract_lets +onlyGivenNames -underBinder x'; subst x')
    | (refine fun (h' : Ev _ _ _) => ?_) | (intro a b hab) | (intro a hab) | apply modeJudge_ev
    | apply Ev.iteR | apply Ev.foldl | split | apply Ev.upd | apply Ev.updT | rfl

theorem modeAutomatic_ev {μ : Nat} {r s : State} {im : Image} (h : Ev μ r s)
    (hm : Cov 0x2000000000000000000004000018000000000000000000600000000000000000007e00000004400000000c0002003009c0000000000020000000001f260011000d40008800078b9bf0 μ := by exact .use) :
    Ev μ r (modeAutomatic s im) := by
  unfold modeAutomatic
  repeat' with_reducible first
    | assumption | exact .inl .use | exact .inr rfl | exact Cov.use
    | (refine fun (h' : Ev _ _ _) => ?_) | apply setMode_ev
    | apply Ev.iteR | split | apply Ev.upd | apply Ev.updT | rfl

theorem sysWire_ev {μ : Nat} {r s : State} {w : Nat} {v : Nat} (h : Ev μ r s)
    (hm : Cov 0x1000 μ := by exact .use) :
    Ev μ r (sysWire s w v) := by
  unfold sysWire
  repeat' with_reducible first
    | assumption | exact .inl .use | exact .inr rfl | exact Cov.use
    | (refine fun (h' : Ev _ _ _) => ?_)
    | apply Ev.iteR | split | apply Ev.upd | apply Ev.updT | rfl

theorem systemWires_ev {μ : Nat} {r s : State} {f : Nat} {k : Nat} {sys : Nat} (h : Ev μ r s)
    (hm : Cov 0x1000 μ := by exact .use) :
    Ev μ r (systemWires s f k sys) := by
  unfold systemWires
  repeat' with_reducible first
    | assumption | exact .inl .use | exact .inr rfl | exact Cov.use
    | (extract_lets +onlyGivenNames -underBinder s'; refine Ev.cut (m := μ) (r := r) (x := s') ?_ ?_
       all_goals first | (intro h'; clear_value s') | subst s')
    | (extract_lets +onlyGivenNames -underBinder x'; subst x')
    | (refine fun (h' : Ev _ _ _) => ?_) | apply sysWire_ev
    | apply Ev.iteR | split | apply Ev.upd | apply Ev.updT | rfl

theorem tripView_ev {μ : Nat} {r s : State} {fk : Nat} (h : Ev μ r s)
    (hm : Cov 0x100 μ := by exact .use) :
    Ev μ r (tripView s fk) := by
  unfold tripView
  repeat' with_reducible first
    | assumption | exact .inl .use | exact .inr rfl | exact Cov.use
    | (extract_lets +onlyGivenNames -underBinder s'; refine Ev.cut (m := μ) (r := r) (x := s') ?_ ?_
       all_goals first | (intro h'; clear_value s') | subst s')
    | (extract_lets +onlyGivenNames -underBinder x'; subst x')
    | (refine fun (h' : Ev _ _ _) => ?_) | (intro a b hab) | (intro a hab)
    | apply Ev.iteR | apply Ev.foldl | (apply Ev.fst; assumption) | (apply Ev.snd; assumption) | split | apply Ev.upd | apply Ev.updT | rfl

theorem frameSamples_ev {μ : Nat} {r s : State} {im : Image} {fk : Nat} (h : Ev μ r s)
    (hm : Cov 0x1000 μ := by exact .use) :
    Ev μ r (frameSamples s im fk) := by
  unfold frameSamples
  repeat' with_reducible first
    | assumption | exact .inl .use | exact .inr rfl | exact Cov.use
    | (extract_lets +onlyGivenNames -underBinder s'; refine Ev.cut (m := μ) (r := r) (x := s') ?_ ?_
       all_goals first | (intro h'; clear_value s') | subst s')
    | (extract_lets +onlyGivenNames -underBinder x'; subst x')
    | (refine fun (h' : Ev _ _ _) => ?_) | (intro a b hab) | (intro a hab)
    | apply Ev.iteR | apply Ev.foldl | split | apply Ev.upd | apply Ev.updT | rfl

theorem fedSamples_ev {μ : Nat} {r s : State} {im : Image} {k : Nat} {es : List (Nat × Nat)} (h : Ev μ r s)
    (hm : Cov 0x1000 μ := by exact .use) :
    Ev μ r (fedSamples s im k es) := by
  unfold fedSamples
  repeat' with_reducible first
    | assumption | exact .inl .use | exact .inr rfl | exact Cov.use
    | (extract_lets +onlyGivenNames -underBinder s'; refine Ev.cut (m := μ) (r := r) (x := s') ?_ ?_
       all_goals first | (intro h'; clear_value s') | subst s')
    | (extract_lets +onlyGivenNames -underBinder x'; subst x')
    | (refine fun (h' : Ev _ _ _) => ?_) | (intro a b hab) | (intro a hab)
    | apply Ev.iteR | apply Ev.foldl | split | apply Ev.upd | apply Ev.updT | rfl

theorem writeTarget_ev {μ : Nat} {r s : State} {c : Accepted} (h : Ev μ r s)
    (hm : Cov 0x1000 μ := by exact .use) :
    Ev μ r (writeTarget s c) := by
  unfold writeTarget
  repeat' with_reducible first
    | assumption | exact .inl .use | exact .inr rfl | exact Cov.use
    | (extract_lets +onlyGivenNames -underBinder s'; refine Ev.cut (m := μ) (r := r) (x := s') ?_ ?_
       all_goals first | (intro h'; clear_value s') | subst s')
    | (extract_lets +onlyGivenNames -underBinder x'; subst x')
    | (refine fun (h' : Ev _ _ _) => ?_)
    | apply Ev.iteR | (apply Ev.fst; assumption) | (apply Ev.snd; assumption) | split | apply Ev.upd | apply Ev.updT | rfl

theorem startAccepted_ev {μ : Nat} {r s : State} {im : Image} {k : Nat} {c : Accepted} (h : Ev μ r s)
    (hm : Cov 0x7e000000000000000000000000000000000000000000000000000006201000000000000003839020 μ := by exact .use) :
    Ev μ r (startAccepted s im k c) := by
  unfold startAccepted
  repeat' with_reducible first
    | assumption | exact .inl .use | exact .inr rfl | exact Cov.use
    | (extract_lets +onlyGivenNames -underBinder s'; refine Ev.cut (m := μ) (r := r) (x := s') ?_ ?_
       all_goals first | (intro h'; clear_value s') | subst s')
    | (extract_lets +onlyGivenNames -underBinder x'; subst x')
    | (refine fun (h' : Ev _ _ _) => ?_) | apply deadLetter_ev | apply setBlk_ev
    | apply Ev.iteR | (apply Ev.fst; assumption) | (apply Ev.snd; assumption) | split | apply Ev.upd | apply Ev.updT | rfl

theorem frameCommands_ev {μ : Nat} {r s : State} {im : Image} {k : Nat} {cmds : List Accepted} (h : Ev μ r s)
    (hm : Cov 0x7e000000000000000000000000000000000000000000000000000006201000000000000003839020 μ := by exact .use) :
    Ev μ r (frameCommands im k cmds s) := by
  unfold frameCommands
  repeat' with_reducible first
    | assumption | exact .inl .use | exact .inr rfl | exact Cov.use
    | (extract_lets +onlyGivenNames -underBinder s'; refine Ev.cut (m := μ) (r := r) (x := s') ?_ ?_
       all_goals first | (intro h'; clear_value s') | subst s')
    | (extract_lets +onlyGivenNames -underBinder x'; subst x')
    | (refine fun (h' : Ev _ _ _) => ?_) | (intro a b hab) | (intro a hab) | apply writeTarget_ev | apply startAccepted_ev
    | apply Ev.iteR | apply Ev.foldl | (apply Ev.fst; assumption) | (apply Ev.snd; assumption) | split | apply Ev.upd | apply Ev.updT | rfl

theorem rainflowFrame_ev {μ : Nat} {r s : State} {im : Image} {k : Nat} (h : Ev μ r s)
    (hm : Cov 0x1000000000000000000000000000000000000000000000000000000000000000000000000000000000000000000000000000000000000000000000000000000000000000840000 μ := by exact .use) :
    Ev μ r (rainflowFrame s im k) := by
  unfold rainflowFrame
  repeat' with_reducible first
    | assumption | exact .inl .use | exact .inr rfl | exact Cov.use
    | (extract_lets +onlyGivenNames -underBinder s'; refine Ev.cut (m := μ) (r := r) (x := s') ?_ ?_
       all_goals first | (intro h'; clear_value s') | subst s')
    | (extract_lets +onlyGivenNames -underBinder x'; subst x')
    | (refine fun (h' : Ev _ _ _) => ?_) | (intro a b hab) | (intro a hab) | apply rainFeed_ev
    | apply Ev.iteR | apply Ev.foldl | split | apply Ev.upd | apply Ev.updT | rfl

theorem scheduleLock_ev {μ : Nat} {r s : State} {im : Image} {lock : Nat} {new : ResRec → List (Nat × Nat)} (h : Ev μ r s)
    (hm : Cov 0x200 μ := by exact .use) :
    Ev μ r (scheduleLock s im lock new) := by
  unfold scheduleLock
  repeat' with_reducible first
    | assumption | exact .inl .use | exact .inr rfl | exact Cov.use
    | (extract_lets +onlyGivenNames -underBinder s'; refine Ev.cut (m := μ) (r := r) (x := s') ?_ ?_
       all_goals first | (intro h'; clear_value s') | subst s')
    | (extract_lets +onlyGivenNames -underBinder x'; subst x')
    | (refine fun (h' : Ev _ _ _) => ?_) | (intro a b hab) | (intro a hab) | apply State.setResampler_ev
    | apply Ev.iteR | apply Ev.foldl | split | apply Ev.upd | apply Ev.updT | rfl

theorem scheduleFrames_ev {μ : Nat} {r s : State} {im : Image} {k : Nat} (h : Ev μ r s)
    (hm : Cov 0x200 μ := by exact .use) :
    Ev μ r (scheduleFrames s im k) := by
  unfold scheduleFrames
  repeat' with_reducible first
    | assumption | exact .inl .use | exact .inr rfl | exact Cov.use
    | (refine fun (h' : Ev _ _ _) => ?_) | (intro a hab) | apply scheduleLock_ev
    | apply Ev.iteR | split | apply Ev.upd | apply Ev.updT | rfl

theorem scheduleAngles_ev {μ : Nat} {r s : State} {im : Image} {k : Nat} (h : Ev μ r s)
    (hm : Cov 0x200 μ := by exact .use) :
    Ev μ r (scheduleAngles s im k) := by
  unfold scheduleAngles
  repeat' with_reducible first
    | assumption | exact .inl .use | exact .inr rfl | exact Cov.use
    | (extract_lets +onlyGivenNames -underBinder s'; refine Ev.cut (m := μ) (r := r) (x := s') ?_ ?_
       all_goals first | (intro h'; clear_value s') | subst s')
    | (extract_lets +onlyGivenNames -underBinder x'; subst x')
    | (refine fun (h' : Ev _ _ _) => ?_) | (intro a hab) | apply scheduleLock_ev
    | apply Ev.iteR | (apply Ev.fst; assumption) | (apply Ev.snd; assumption) | split | apply Ev.upd | apply Ev.updT | rfl

theorem evaluateFrame_ev {μ : Nat} {r s : State} {im : Image} {k : Nat} {feed : Option FrameFeed} {cmds : List Accepted} (h : Ev μ r s)
    (hm : Cov 0x100000000000000000000000000000000000000000600000000000000000007e00018002000000000c000000300100000000000334000000001f262010000d40000000078793e0 μ := by exact .use) :
    Ev μ r (evaluateFrame s im k feed cmds) := by
  unfold evaluateFrame
  repeat' with_reducible first
    | assumption | exact .inl .use | exact .inr rfl | exact Cov.use
    | (extract_lets +onlyGivenNames -underBinder s'; refine Ev.cut (m := μ) (r := r) (x := s') ?_ ?_
       all_goals first | (intro h'; clear_value s') | subst s')
    | (extract_lets +onlyGivenNames -underBinder x'; subst x')
    | (refine fun (h' : Ev _ _ _) => ?_) | (intro a b hab) | (intro a hab) | apply tigStart_ev | apply tripView_ev | apply fedSamples_ev | apply systemWires_ev | apply frameSamples_ev | apply evalFrame_ev | apply frameCommands_ev | apply rainflowFrame_ev | apply scheduleAngles_ev
    | apply Ev.iteR | apply Ev.foldl | apply Ev.foldl1 | (apply Ev.fst; assumption) | (apply Ev.snd; assumption) | split
    | apply Ev.upd | apply Ev.updT | rfl | apply Ev.pair1 | apply Ev.pair2 | intro _

theorem replayWalk_ev {μ : Nat} {r s : State} {im : Image} {n : Nat} (h : Ev μ r s) (hm : Cov 0x2000100000000000000004000018000000000000000000600000007c00000000007e00018006400000000c0002003009c0000000000334000000001f262011000d40008800078f9bf0 μ := by exact .use) : Ev μ r (replayWalk im n s) := by
  induction n generalizing s with
  | zero => exact replayEnd_ev h
  | succ n ih =>
    have hset : ∀ (x : State) (c : Replay), Ev μ r x → Ev μ r { x with capture := { x.capture with replay := some c } } :=
      fun x c hx => Ev.upd hx rfl rfl
    unfold replayWalk
    split
    · exact h
    · split
      · exact replayEnd_ev h
      · rename_i o _
        dsimp only
        split
        · exact replayEnd_ev h
        · split
          · exact ih (hset _ _ h)
          · split
            · exact replayEnd_ev h
            · split
              · split
                · exact ih (Ev.ite (Ev.upd (ckpLoad_ev h) rfl rfl) (hset _ _ (ckpLoad_ev h)))
                · split
                  · exact ih (hset _ _ h)
                  · refine ih (hset _ _ (State.bump_ev ?_ (R.CAP_RPDIV_NDIV_in (Cov.mono hm (by decide +kernel)))))
                    split
                    · exact State.put_ev h (R.CAP_RPDIV_SLOT_in (Cov.mono hm (by decide +kernel)))
                    · exact h
              · split
                · exact ih (hset _ _ h)
                · split
                  · exact ih (hset _ _ (State.bump_ev h (R.CAP_RPSTAT_SKIPS_in (Cov.mono hm (by decide +kernel)))))
                  · exact evaluateFrame_ev (hset _ _ h)

theorem sendBundle_ev {μ : Nat} {r s : State} {im : Image} {k : Nat} {hash : Nat} {ncmd : Nat} {rs : List (Nat × Nat × SenseOut)} (h : Ev μ r s)
    (hm : Cov 0x2000000 μ := by exact .use) :
    Ev μ r (sendBundle s im k hash ncmd rs) := by
  unfold sendBundle
  repeat' with_reducible first
    | assumption | exact .inl .use | exact .inr rfl | exact Cov.use
    | (refine fun (h' : Ev _ _ _) => ?_) | apply State.send_ev
    | apply Ev.iteR | split | apply Ev.upd | apply Ev.updT | rfl

theorem sendState_ev {μ : Nat} {r s : State} {im : Image} {k : Nat} (h : Ev μ r s)
    (hm : Cov 0x2020000 μ := by exact .use) :
    Ev μ r (sendState s im k) := by
  unfold sendState
  repeat' with_reducible first
    | assumption | exact .inl .use | exact .inr rfl | exact Cov.use
    | (extract_lets +onlyGivenNames -underBinder s'; refine Ev.cut (m := μ) (r := r) (x := s') ?_ ?_
       all_goals first | (intro h'; clear_value s') | subst s')
    | (extract_lets +onlyGivenNames -underBinder x'; subst x')
    | (refine fun (h' : Ev _ _ _) => ?_) | (intro a b hab) | (intro a hab) | apply State.send_ev
    | apply Ev.iteR | apply Ev.foldl | split | apply Ev.upd | apply Ev.updT | rfl

theorem sampledFrame_ev {μ : Nat} {r s : State} (h : Ev μ r s)
    (hm : Cov 0x100000000000000000000000000000000000000000600000000000000000007e00018002000000000c000000300100000000000334000000001f262010000d40000000078793e0 μ := by exact .use) :
    Ev μ r (sampledFrame s) := by
  unfold sampledFrame
  repeat' with_reducible first
    | assumption | exact .inl .use | exact .inr rfl | exact Cov.use
    | (refine fun (h' : Ev _ _ _) => ?_) | apply sendBundle_ev | apply evaluateFrame_ev
    | apply Ev.iteR | (apply Ev.fst; assumption) | (apply Ev.snd; assumption) | split | apply Ev.upd | apply Ev.updT | rfl

theorem frameSampled_ev {μ : Nat} {r s : State} (h : Ev μ r s)
    (hm : Cov 0x100000000000000000000000000000000000000000600000000000000000007e00018002000000000c000000300100000000000334000000001f262010000d40000000078793e0 μ := by exact .use) :
    Ev μ r (frameSampled s) := by
  unfold frameSampled
  repeat' with_reducible first
    | assumption | exact .inl .use | exact .inr rfl | exact Cov.use
    | (refine fun (h' : Ev _ _ _) => ?_) | apply sampledFrame_ev
    | apply Ev.iteR | (apply Ev.fst; assumption) | (apply Ev.snd; assumption) | split | apply Ev.upd | apply Ev.updT | rfl

theorem ownFrame_ev {μ : Nat} {r s : State} {k : Nat} {won : List Accepted} {ncmd : Nat} {outs : List (Nat × Nat × SenseOut)} (h : Ev μ r s)
    (hm : Cov 0x100000000000000000000000000000000000000000600000000000000000007e00018002000000000c000000300100000000000334000000001f262010000d40000000078793e0 μ := by exact .use) :
    Ev μ r (ownFrame s k won ncmd outs) := by
  unfold ownFrame
  repeat' with_reducible first
    | assumption | exact .inl .use | exact .inr rfl | exact Cov.use
    | (refine fun (h' : Ev _ _ _) => ?_) | apply frameSampled_ev
    | apply Ev.iteR | split | apply Ev.upd | apply Ev.updT | rfl

theorem ownTargets_ev {μ : Nat} {r s : State} {k : Nat} {won : List Accepted} (h : Ev μ r s)
    (hm : Cov 0x2000000000000000000004000018000000000000000000600000007c00184000007e000000044004f8000c0002003009c0000000000020000000001f262011000d40008c00078b9bf0 μ := by exact .use) :
    Ev μ r (ownTargets s k won) := by
  unfold ownTargets
  repeat' with_reducible first
    | assumption | exact .inl .use | exact .inr rfl | exact Cov.use
    | (extract_lets +onlyGivenNames -underBinder s'; refine Ev.cut (m := μ) (r := r) (x := s') ?_ ?_
       all_goals first | (intro h'; clear_value s') | subst s')
    | (extract_lets +onlyGivenNames -underBinder x'; subst x')
    | (refine fun (h' : Ev _ _ _) => ?_) | (intro a b hab) | (intro a hab) | apply modeRequests_ev | apply bridgeClear_ev | apply bankAccepted_ev | apply sourceAccepted_ev
    | apply Ev.iteR | apply Ev.foldl | split | apply Ev.upd | apply Ev.updT | rfl

theorem missedBundle_ev {μ : Nat} {r s : State} {im : Image} (h : Ev μ r s)
    (hm : Cov 0x100000000000000000000000000000000000000000600000000000000000007e00018002000000000c000000300100000000000374000000001f266018000d40000000078793e0 μ := by exact .use) :
    Ev μ r (missedBundle s im) := by
  unfold missedBundle
  repeat' with_reducible first
    | assumption | exact .inl .use | exact .inr rfl | exact Cov.use
    | (extract_lets +onlyGivenNames -underBinder s'; refine Ev.cut (m := μ) (r := r) (x := s') ?_ ?_
       all_goals first | (intro h'; clear_value s') | subst s')
    | (extract_lets +onlyGivenNames -underBinder x'; subst x')
    | (refine fun (h' : Ev _ _ _) => ?_) | apply State.bump_ev | apply State.put_ev | apply closeSet_ev | apply evaluateFrame_ev | apply R.NODE_TWIN_CNT_BMISS_in | apply R.NODE_TWIN_STAT_DIVERGED_in
    | apply Ev.iteR | (apply Ev.fst; assumption) | (apply Ev.snd; assumption) | split | apply Ev.upd | apply Ev.updT | rfl

theorem frameCatchUp_ev {μ : Nat} {r s : State} {im : Image} (h : Ev μ r s)
    (hm : Cov 0x100000000000000000000000000000000000000000600000000000000000007e00018002000000000c000000300100000000000374000000001f266018000d40000000078793e0 μ := by exact .use) :
    Ev μ r (frameCatchUp s im) := by
  unfold frameCatchUp
  repeat' with_reducible first
    | assumption | exact .inl .use | exact .inr rfl | exact Cov.use
    | (extract_lets +onlyGivenNames -underBinder s'; refine Ev.cut (m := μ) (r := r) (x := s') ?_ ?_
       all_goals first | (intro h'; clear_value s') | subst s')
    | (extract_lets +onlyGivenNames -underBinder x'; subst x')
    | (refine fun (h' : Ev _ _ _) => ?_) | apply sampledFrame_ev | apply missedBundle_ev
    | apply Ev.iteR | split | apply Ev.upd | apply Ev.updT | rfl

theorem replayEnds_ev {μ : Nat} {r s : State} {im : Image} (h : Ev μ r s)
    (hm : Cov 0x2000100000000000000004000018000000000000000000600000007c00000000007e00018006400000000c0002003009c0000000000334000000001f262011000d40008800078f9bf0 μ := by exact .use) :
    Ev μ r (replayEnds s im) := by
  unfold replayEnds
  repeat' with_reducible first
    | assumption | exact .inl .use | exact .inr rfl | exact Cov.use
    | (extract_lets +onlyGivenNames -underBinder s'; refine Ev.cut (m := μ) (r := r) (x := s') ?_ ?_
       all_goals first | (intro h'; clear_value s') | subst s')
    | (extract_lets +onlyGivenNames -underBinder x'; subst x')
    | (refine fun (h' : Ev _ _ _) => ?_) | apply replayWalk_ev
    | apply Ev.iteR | split | apply Ev.upd | apply Ev.updT | rfl

theorem frameBegin_ev {μ : Nat} {r s : State} {im : Image} {k : Nat} (h : Ev μ r s)
    (hm : Cov 0x20001000000000000000040000180000000000000000007a0001f87c1e387000007e047fa00e4004f8000c0002083089ff000000000377800011001f266019000d4000ac00078ffbf6 μ := by exact .use) :
    Ev μ r (frameBegin s im k) := by
  unfold frameBegin
  repeat' with_reducible first
    | assumption | exact .inl .use | exact .inr rfl | exact Cov.use
    | (extract_lets +onlyGivenNames -underBinder s'; refine Ev.cut (m := μ) (r := r) (x := s') ?_ ?_
       all_goals first | (intro h'; clear_value s') | subst s')
    | (extract_lets +onlyGivenNames -underBinder x'; subst x')
    | (refine fun (h' : Ev _ _ _) => ?_) | (intro a hab) | apply frameCatchUp_ev | apply State.runTo_ev | apply completeFrame_ev | apply closeSet_ev | apply fabricInit_ev | apply replayEnds_ev | apply modeAutomatic_ev | apply modePending_ev | apply ownTargets_ev | apply sendState_ev | apply scheduleFrames_ev | apply replayWalk_ev | apply ownFrame_ev
    | apply Ev.iteR | (apply Ev.fst; assumption) | (apply Ev.snd; assumption) | split | apply Ev.upd | apply Ev.updT | rfl

theorem frameStartStep_ev {μ : Nat} {r s : State} (h : Ev μ r s)
    (hm : Cov 0x20001000000000000000040000180000000000000000007a0001f87c1e387000007e047fa00e4004f8000c0002083089ff000000000377800011001f266019000d4000ac00078ffbf6 μ := by exact .use) :
    Ev μ r (frameStartStep s) := by
  unfold frameStartStep
  repeat' with_reducible first
    | assumption | exact .inl .use | exact .inr rfl | exact Cov.use
    | (refine fun (h' : Ev _ _ _) => ?_) | apply frameBegin_ev
    | apply Ev.iteR | (apply Ev.fst; assumption) | (apply Ev.snd; assumption) | split | apply Ev.upd | apply Ev.updT | rfl

theorem openCount_ev {μ : Nat} {r s : State} (h : Ev μ r s)
    (hm : Cov 0x4000000000000000000000000000000000000000000000000000000000000000000000000000000000000000000000000000000 μ := by exact .use) :
    Ev μ r (openCount s) := by
  unfold openCount
  repeat' with_reducible first
    | assumption | exact .inl .use | exact .inr rfl | exact Cov.use
    | (refine fun (h' : Ev _ _ _) => ?_) | apply State.put_ev | apply R.SAF_LOCK_OPEN_in
    | apply Ev.iteR | split | apply Ev.upd | apply Ev.updT | rfl

theorem latchCause_ev {μ : Nat} {r s : State} {code : Nat} {index : Nat} (h : Ev μ r s)
    (hm : Cov 0x7800000000000000000000000000000000000000000000000000000000000000000000000000000000000000000400000804000 μ := by exact .use) :
    Ev μ r (latchCause s code index) := by
  unfold latchCause
  repeat' with_reducible first
    | assumption | exact .inl .use | exact .inr rfl | exact Cov.use
    | (extract_lets +onlyGivenNames -underBinder s'; refine Ev.cut (m := μ) (r := r) (x := s') ?_ ?_
       all_goals first | (intro h'; clear_value s') | subst s')
    | (extract_lets +onlyGivenNames -underBinder x'; subst x')
    | (refine fun (h' : Ev _ _ _) => ?_) | apply State.put_ev | apply State.bump_ev | apply openCount_ev | apply R.NODE_MODE_LATCH_in | apply R.SAF_LOCK_FIRST_in | apply R.SAF_LOCK_INDEX_in | apply R.SAF_LOCK_NCAUSE_in
    | apply Ev.iteR | split | apply Ev.upd | apply Ev.updT | rfl

theorem safetyEnvelope_ev {μ : Nat} {r s : State} {event : Nat} {index : Nat} {cause : Nat} {td : Nat} (h : Ev μ r s)
    (hm : Cov 0x4000000000000000000000000000000000000000000007e000000000000000000000000000000000000000000000000000000000000000000000003800020 μ := by exact .use) :
    Ev μ r (safetyEnvelope s event index cause td) := by
  unfold safetyEnvelope
  repeat' with_reducible first
    | assumption | exact .inl .use | exact .inr rfl | exact Cov.use
    | (extract_lets +onlyGivenNames -underBinder s'; refine Ev.cut (m := μ) (r := r) (x := s') ?_ ?_
       all_goals first | (intro h'; clear_value s') | subst s')
    | (extract_lets +onlyGivenNames -underBinder x'; subst x')
    | (refine fun (h' : Ev _ _ _) => ?_) | apply State.irq_ev | apply postHw_ev
    | apply Ev.iteR | split | apply Ev.upd | apply Ev.updT | rfl

theorem lockoutEnter_ev {μ : Nat} {r s : State} {code : Nat} {index : Nat} {td : Nat} (h : Ev μ r s)
    (hm : Cov 0x2000000000000000000004000018000000000000000000600000000000000000007e00000004400000000c0002003009c0000000000020000000001f260011000d40188800078b9bf0 μ := by exact .use) :
    Ev μ r (lockoutEnter s code index td) := by
  unfold lockoutEnter
  repeat' with_reducible first
    | assumption | exact .inl .use | exact .inr rfl | exact Cov.use
    | (refine fun (h' : Ev _ _ _) => ?_) | apply safetyEnvelope_ev | apply setMode_ev | apply testAbort_ev
    | apply Ev.iteR | split | apply Ev.upd | apply Ev.updT | rfl

theorem standbyRequest_ev {μ : Nat} {r s : State} {pm : Nat} (h : Ev μ r s)
    (hm : Cov 0x7e00000000000000000000000000000000000000008000000000000620100000000020000383e020 μ := by exact .use) :
    Ev μ r (standbyRequest s pm) := by
  unfold standbyRequest
  repeat' with_reducible first
    | assumption | exact .inl .use | exact .inr rfl | exact Cov.use
    | (extract_lets +onlyGivenNames -underBinder s'; refine Ev.cut (m := μ) (r := r) (x := s') ?_ ?_
       all_goals first | (intro h'; clear_value s') | subst s')
    | (extract_lets +onlyGivenNames -underBinder x'; subst x')
    | (refine fun (h' : Ev _ _ _) => ?_) | (intro a hab) | apply modePending_ev | apply acceptEnter_ev
    | apply Ev.iteR | split | apply Ev.upd | apply Ev.updT | rfl

theorem setOutBits_ev {μ : Nat} {r s : State} {f : Fld} {n : Nat} {a : Bool} {b : Bool} (h : Ev μ r s) (hf : RegIn μ f.key)
    (hm : Cov 0x0 μ := by exact .use) :
    Ev μ r (setOutBits s f n a b) := by
  unfold setOutBits
  repeat' with_reducible first
    | assumption | exact .inl .use | exact .inr rfl | exact Cov.use
    | (refine fun (h' : Ev _ _ _) => ?_) | apply State.put_ev
    | apply Ev.iteR | split | apply Ev.upd | apply Ev.updT | rfl

theorem outBalls_ev {μ : Nat} {r s : State} {n : Nat} (h : Ev μ r s)
    (hm : Cov 0xe0000000000000000000000000000000000000000000000000000000000000000000000000000000000000000000000000000000 μ := by exact .use) :
    Ev μ r (outBalls s n) := by
  unfold outBalls
  repeat' with_reducible first
    | assumption | exact .inl .use | exact .inr rfl | exact Cov.use
    | (extract_lets +onlyGivenNames -underBinder s'; refine Ev.cut (m := μ) (r := r) (x := s') ?_ ?_
       all_goals first | (intro h'; clear_value s') | subst s')
    | (extract_lets +onlyGivenNames -underBinder x'; subst x')
    | (refine fun (h' : Ev _ _ _) => ?_) | apply setOutBits_ev | apply State.put_ev | apply R.SAF_OUT_CMD_in | apply R.SAF_OUT_RB_in | apply R.SAF_OUT_TPACT_in
    | apply Ev.iteR | split | apply Ev.upd | apply Ev.updT | rfl

theorem outCommand_ev {μ : Nat} {r s : State} {n : Nat} {on : Bool} (h : Ev μ r s)
    (hm : Cov 0xe0000000000000000000000000000000000000000000000000000000000000000000000000000000000000000000000000044000 μ := by exact .use) :
    Ev μ r (outCommand s n on) := by
  unfold outCommand
  repeat' with_reducible first
    | assumption | exact .inl .use | exact .inr rfl | exact Cov.use
    | (extract_lets +onlyGivenNames -underBinder s'; refine Ev.cut (m := μ) (r := r) (x := s') ?_ ?_
       all_goals first | (intro h'; clear_value s') | subst s')
    | (extract_lets +onlyGivenNames -underBinder x'; subst x')
    | (refine fun (h' : Ev _ _ _) => ?_) | apply outBalls_ev | apply State.setContactor_ev | apply contactorOpening_ev
    | apply Ev.iteR | split | apply Ev.upd | apply Ev.updT | rfl

theorem outsFollow_ev {μ : Nat} {r s : State} (h : Ev μ r s)
    (hm : Cov 0xe0000000000000000000000000000000000000000000000000000000000000000000000000000000000000000000000000044000 μ := by exact .use) :
    Ev μ r (outsFollow s) := by
  unfold outsFollow
  repeat' with_reducible first
    | assumption | exact .inl .use | exact .inr rfl | exact Cov.use
    | (refine fun (h' : Ev _ _ _) => ?_) | (intro a b hab) | (intro a hab) | apply outCommand_ev
    | apply Ev.iteR | apply Ev.foldl | split | apply Ev.upd | apply Ev.updT | rfl

theorem pulseStart_ev {μ : Nat} {r s : State} {o : Nat} (h : Ev μ r s)
    (hm : Cov 0xe0000000000000000000000000000000000000000000000000000000000000000000000000000000000000000000000000004000 μ := by exact .use) :
    Ev μ r (pulseStart s o) := by
  unfold pulseStart
  repeat' with_reducible first
    | assumption | exact .inl .use | exact .inr rfl | exact Cov.use
    | (extract_lets +onlyGivenNames -underBinder s'; refine Ev.cut (m := μ) (r := r) (x := s') ?_ ?_
       all_goals first | (intro h'; clear_value s') | subst s')
    | (extract_lets +onlyGivenNames -underBinder x'; subst x')
    | (refine fun (h' : Ev _ _ _) => ?_) | apply State.setContactor_ev | apply outBalls_ev
    | apply Ev.iteR | split | apply Ev.upd | apply Ev.updT | rfl

theorem pulseEnd_ev {μ : Nat} {r s : State} {o : Nat} {ok : Bool} (h : Ev μ r s)
    (hm : Cov 0x40000000000000001c000e000000000000000000000007e000000000000000000000000000000000000000022000011000000000000000000000003805026 μ := by exact .use) :
    Ev μ r (pulseEnd s o ok) := by
  unfold pulseEnd
  repeat' with_reducible first
    | assumption | exact .inl .use | exact .inr rfl | exact Cov.use
    | (extract_lets +onlyGivenNames -underBinder s'; refine Ev.cut (m := μ) (r := r) (x := s') ?_ ?_
       all_goals first | (intro h'; clear_value s') | subst s')
    | (extract_lets +onlyGivenNames -underBinder x'; subst x')
    | (refine fun (h' : Ev _ _ _) => ?_) | apply State.runElapsed_ev | apply outBalls_ev | apply State.setContactor_ev | apply safetyEnvelope_ev | apply State.mark_ev | apply State.put_ev | apply State.bump_ev | apply R.SAF_CNT_TPDONE_in | apply R.SAF_TPRES_DISCARD_in | apply R.SAF_TPRES_PASS_in
    | apply Ev.iteR | (apply Ev.fst; assumption) | (apply Ev.snd; assumption) | split | apply Ev.upd | apply Ev.updT | rfl

theorem pilotFilter_ev {μ : Nat} {r s : State} {filt : Nat} {code : Nat} (h : Ev μ r s)
    (hm : Cov 0x4000 μ := by exact .use) :
    Ev μ r (pilotFilter s filt code) := by
  unfold pilotFilter
  repeat' with_reducible first
    | assumption | exact .inl .use | exact .inr rfl | exact Cov.use
    | (extract_lets +onlyGivenNames -underBinder s'; refine Ev.cut (m := μ) (r := r) (x := s') ?_ ?_
       all_goals first | (intro h'; clear_value s') | subst s')
    | (extract_lets +onlyGivenNames -underBinder x'; subst x')
    | (refine fun (h' : Ev _ _ _) => ?_)
    | apply Ev.iteR | split | apply Ev.upd | apply Ev.updT | rfl

theorem plugFollow_ev {μ : Nat} {r s : State} {i : Nat} {code : Nat} (h : Ev μ r s)
    (hm : Cov 0x24000000000000000000000000000000000000000000000000000000000000000000000000000000000000000000000000000004000 μ := by exact .use) :
    Ev μ r (plugFollow s i code) := by
  unfold plugFollow
  repeat' with_reducible first
    | assumption | exact .inl .use | exact .inr rfl | exact Cov.use
    | (extract_lets +onlyGivenNames -underBinder s'; refine Ev.cut (m := μ) (r := r) (x := s') ?_ ?_
       all_goals first | (intro h'; clear_value s') | subst s')
    | (extract_lets +onlyGivenNames -underBinder x'; subst x')
    | (refine fun (h' : Ev _ _ _) => ?_) | apply pilotFilter_ev | apply State.put_ev | apply R.SAF_PLUG_CODE_in | apply R.SAF_PLUG_STATE_in
    | apply Ev.iteR | split | apply Ev.upd | apply Ev.updT | rfl

theorem conlockFollow_ev {μ : Nat} {r s : State} (h : Ev μ r s)
    (hm : Cov 0x18000000000000000000000000000000000000000000000000000000000000000000000000000000000000000000000000000004000 μ := by exact .use) :
    Ev μ r (conlockFollow s) := by
  unfold conlockFollow
  repeat' with_reducible first
    | assumption | exact .inl .use | exact .inr rfl | exact Cov.use
    | (extract_lets +onlyGivenNames -underBinder s'; refine Ev.cut (m := μ) (r := r) (x := s') ?_ ?_
       all_goals first | (intro h'; clear_value s') | subst s')
    | (extract_lets +onlyGivenNames -underBinder x'; subst x')
    | (refine fun (h' : Ev _ _ _) => ?_) | apply State.put_ev | apply R.SAF_PLUG_LOCKCMD_in | apply R.SAF_PLUG_LOCKFB_in
    | apply Ev.iteR | (apply Ev.fst; assumption) | (apply Ev.snd; assumption) | split | apply Ev.upd | apply Ev.updT | rfl

theorem discFollow_ev {μ : Nat} {r s : State} (h : Ev μ r s)
    (hm : Cov 0x8000000000000000000000000000000000000000000000000000000000000000000000000000000000000000000000000004000 μ := by exact .use) :
    Ev μ r (discFollow s) := by
  unfold discFollow
  repeat' with_reducible first
    | assumption | exact .inl .use | exact .inr rfl | exact Cov.use
    | (extract_lets +onlyGivenNames -underBinder s'; refine Ev.cut (m := μ) (r := r) (x := s') ?_ ?_
       all_goals first | (intro h'; clear_value s') | subst s')
    | (extract_lets +onlyGivenNames -underBinder x'; subst x')
    | (refine fun (h' : Ev _ _ _) => ?_) | (intro a b hab) | (intro a hab) | apply State.put_ev | apply R.SAF_IN_DISCREP_in
    | apply Ev.iteR | apply Ev.foldl | split | apply Ev.upd | apply Ev.updT | rfl

theorem connFollow_ev {μ : Nat} {r s : State} (h : Ev μ r s)
    (hm : Cov 0x10000000000000000000000000000000000000000000000000000000000000000000000000000000000000000000000000000000000000 μ := by exact .use) :
    Ev μ r (connFollow s) := by
  unfold connFollow
  repeat' with_reducible first
    | assumption | exact .inl .use | exact .inr rfl | exact Cov.use
    | (extract_lets +onlyGivenNames -underBinder s'; refine Ev.cut (m := μ) (r := r) (x := s') ?_ ?_
       all_goals first | (intro h'; clear_value s') | subst s')
    | (extract_lets +onlyGivenNames -underBinder x'; subst x')
    | (refine fun (h' : Ev _ _ _) => ?_) | (intro a b hab) | (intro a hab) | apply State.put_ev | apply R.SAF_RFj_STAT_FRESH_in
    | apply Ev.iteR | apply Ev.foldl | (apply Ev.fst; assumption) | (apply Ev.snd; assumption) | split | apply Ev.upd | apply Ev.updT | rfl

theorem fbMismatch_ev {μ : Nat} {r s : State} (h : Ev μ r s)
    (hm : Cov 0x100000000000000000000000000000000000000000000000000000000000000000000000000000000000000000000000000800000 μ := by exact .use) :
    Ev μ r (fbMismatch s) := by
  unfold fbMismatch
  repeat' with_reducible first
    | assumption | exact .inl .use | exact .inr rfl | exact Cov.use
    | (refine fun (h' : Ev _ _ _) => ?_) | (intro a b hab) | (intro a hab) | apply State.mark_ev | apply R.SAF_FB_MISMATCH_in
    | apply Ev.iteR | apply Ev.foldl | split | apply Ev.upd | apply Ev.updT | rfl

theorem causesClear_ev {μ : Nat} {r s : State} (h : Ev μ r s)
    (hm : Cov 0x4000000000000000000000000000000000000000000000000000000000000000000000000000000000000000000000000004000 μ := by exact .use) :
    Ev μ r (causesClear s) := by
  unfold causesClear
  repeat' with_reducible first
    | assumption | exact .inl .use | exact .inr rfl | exact Cov.use
    | (refine fun (h' : Ev _ _ _) => ?_) | apply openCount_ev
    | apply Ev.iteR | split | apply Ev.upd | apply Ev.updT | rfl

theorem demandStart_ev {μ : Nat} {r s : State} {src : DemandSrc} {react : Nat} {cmask : Nat} {tss1 : Nat} {latch : Bool} {td : Nat} (h : Ev μ r s)
    (hm : Cov 0x4000000000000000200000780000000000000000000007e00000000000000000000000000000000000000008000000000000620100000000060000383e020 μ := by exact .use) :
    Ev μ r (demandStart s src react cmask tss1 latch td) := by
  unfold demandStart
  repeat' with_reducible first
    | assumption | exact .inl .use | exact .inr rfl | exact Cov.use
    | (extract_lets +onlyGivenNames -underBinder s'; refine Ev.cut (m := μ) (r := r) (x := s') ?_ ?_
       all_goals first | (intro h'; clear_value s') | subst s')
    | (extract_lets +onlyGivenNames -underBinder x'; subst x')
    | (refine fun (h' : Ev _ _ _) => ?_) | apply State.bump_ev | apply latchCause_ev | apply safetyEnvelope_ev | apply standbyRequest_ev | apply R.SAF_CNT_DEMANDS_in
    | apply Ev.iteR | (apply Ev.fst; assumption) | (apply Ev.snd; assumption) | split | apply Ev.upd | apply Ev.updT | rfl

theorem demandEnd_ev {μ : Nat} {r s : State} {src : DemandSrc} {td : Nat} (h : Ev μ r s)
    (hm : Cov 0x4000000000000000000000000000000000000000000007e000000000000000000000000000000000000000000000000000000000000000000000003804020 μ := by exact .use) :
    Ev μ r (demandEnd s src td) := by
  unfold demandEnd
  repeat' with_reducible first
    | assumption | exact .inl .use | exact .inr rfl | exact Cov.use
    | (extract_lets +onlyGivenNames -underBinder s'; refine Ev.cut (m := μ) (r := r) (x := s') ?_ ?_
       all_goals first | (intro h'; clear_value s') | subst s')
    | (extract_lets +onlyGivenNames -underBinder x'; subst x')
    | (refine fun (h' : Ev _ _ _) => ?_) | (intro a hab) | apply safetyEnvelope_ev
    | apply Ev.iteR | (apply Ev.fst; assumption) | (apply Ev.snd; assumption) | split | apply Ev.upd | apply Ev.updT | rfl

theorem demandFollow_ev {μ : Nat} {r s : State} {src : DemandSrc} {now : Bool} {react : Nat} {cmask : Nat} {tss1 : Nat} {latch : Bool} {td : Nat} (h : Ev μ r s)
    (hm : Cov 0x4000000000000000200000780000000000000000000007e00000000000000000000000000000000000000008000000000000620100000000060000383e020 μ := by exact .use) :
    Ev μ r (demandFollow s src now react cmask tss1 latch td) := by
  unfold demandFollow
  repeat' with_reducible first
    | assumption | exact .inl .use | exact .inr rfl | exact Cov.use
    | (refine fun (h' : Ev _ _ _) => ?_) | apply demandStart_ev | apply demandEnd_ev
    | apply Ev.iteR | split | apply Ev.upd | apply Ev.updT | rfl

theorem demandsFollow_ev {μ : Nat} {r s : State} {td : Nat} (h : Ev μ r s)
    (hm : Cov 0x40000000000000002000007e0000000000000000000007e00000000000000000000000000000000000000008000000000000620100000000060000383e020 μ := by exact .use) :
    Ev μ r (demandsFollow s td) := by
  unfold demandsFollow
  repeat' with_reducible first
    | assumption | exact .inl .use | exact .inr rfl | exact Cov.use
    | (extract_lets +onlyGivenNames -underBinder s'; refine Ev.cut (m := μ) (r := r) (x := s') ?_ ?_
       all_goals first | (intro h'; clear_value s') | subst s')
    | (extract_lets +onlyGivenNames -underBinder x'; subst x')
    | (refine fun (h' : Ev _ _ _) => ?_) | (intro a b hab) | (intro a hab) | apply State.put_ev | apply demandFollow_ev | apply State.setConn_ev | apply R.SAF_STATUS_DEMAND_in | apply R.SAF_STATUS_RFOFF_in
    | apply Ev.iteR | apply Ev.foldl | split | apply Ev.upd | apply Ev.updT | rfl

theorem holdOff_ev {μ : Nat} {r s : State} {before : Demand} {after : Demand} (h : Ev μ r s)
    (hm : Cov 0x4000 μ := by exact .use) :
    Ev μ r (holdOff s before after) := by
  unfold holdOff
  repeat' with_reducible first
    | assumption | exact .inl .use | exact .inr rfl | exact Cov.use
    | (refine fun (h' : Ev _ _ _) => ?_) | (intro a b hab) | (intro a hab) | apply State.setContactor_ev
    | apply Ev.iteR | apply Ev.foldl | split | apply Ev.upd | apply Ev.updT | rfl

theorem reactionsStep_ev {μ : Nat} {r s : State} (h : Ev μ r s)
    (hm : Cov 0x4000 μ := by exact .use) :
    Ev μ r (reactionsStep s) := by
  unfold reactionsStep
  repeat' with_reducible first
    | assumption | exact .inl .use | exact .inr rfl | exact Cov.use
    | (extract_lets +onlyGivenNames -underBinder s'; refine Ev.cut (m := μ) (r := r) (x := s') ?_ ?_
       all_goals first | (intro h'; clear_value s') | subst s')
    | (extract_lets +onlyGivenNames -underBinder x'; subst x')
    | (refine fun (h' : Ev _ _ _) => ?_) | (intro a b hab) | (intro a hab) | apply holdOff_ev
    | apply Ev.iteR | apply Ev.foldl | split | apply Ev.upd | apply Ev.updT | rfl

theorem demandsComplete_ev {μ : Nat} {r s : State} (h : Ev μ r s)
    (hm : Cov 0x2000000000000000000004000018000000000000000000600000000000000000007e00000004400000000c0002003009c0000000000020000000001f260011000d40188800078bdbf0 μ := by exact .use) :
    Ev μ r (demandsComplete s) := by
  unfold demandsComplete
  repeat' with_reducible first
    | assumption | exact .inl .use | exact .inr rfl | exact Cov.use
    | (extract_lets +onlyGivenNames -underBinder s'; refine Ev.cut (m := μ) (r := r) (x := s') ?_ ?_
       all_goals first | (intro h'; clear_value s') | subst s')
    | (extract_lets +onlyGivenNames -underBinder x'; subst x')
    | (refine fun (h' : Ev _ _ _) => ?_) | (intro a b hab) | (intro a hab) | apply lockoutEnter_ev
    | apply Ev.iteR | apply Ev.foldl | (apply Ev.fst; assumption) | (apply Ev.snd; assumption) | split | apply Ev.upd | apply Ev.updT | rfl

theorem istoFollow_ev {μ : Nat} {r s : State} (h : Ev μ r s)
    (hm : Cov 0x20000000000000000000000000000000000000000000000300100000000000000000000000000000000000000000000800080 μ := by exact .use) :
    Ev μ r (istoFollow s) := by
  unfold istoFollow
  repeat' with_reducible first
    | assumption | exact .inl .use | exact .inr rfl | exact Cov.use
    | (extract_lets +onlyGivenNames -underBinder s'; refine Ev.cut (m := μ) (r := r) (x := s') ?_ ?_
       all_goals first | (intro h'; clear_value s') | subst s')
    | (extract_lets +onlyGivenNames -underBinder x'; subst x')
    | (refine fun (h' : Ev _ _ _) => ?_) | (intro a hab) | apply State.put_ev | apply holdAll_ev | apply holdAgain_ev | apply R.SAF_STATUS_ISTO_in
    | apply Ev.iteR | split | apply Ev.upd | apply Ev.updT | rfl

theorem permitFollow_ev {μ : Nat} {r s : State} (h : Ev μ r s)
    (hm : Cov 0x10000000000000000000000000000000000000000000000000000000000000000000000000000000000000000000000000000 μ := by exact .use) :
    Ev μ r (permitFollow s) := by
  unfold permitFollow
  repeat' with_reducible first
    | assumption | exact .inl .use | exact .inr rfl | exact Cov.use
    | (extract_lets +onlyGivenNames -underBinder s'; refine Ev.cut (m := μ) (r := r) (x := s') ?_ ?_
       all_goals first | (intro h'; clear_value s') | subst s')
    | (extract_lets +onlyGivenNames -underBinder x'; subst x')
    | (refine fun (h' : Ev _ _ _) => ?_) | apply State.put_ev | apply R.SAF_STATUS_PERMIT_in
    | apply Ev.iteR | split | apply Ev.upd | apply Ev.updT | rfl

theorem targetPost_ev {μ : Nat} {r s : State} {pm : Nat} {id : Nat} {v : Nat} (h : Ev μ r s)
    (hm : Cov 0x7e00000000000000000000000000000000000000008000000000000620100000000000000383e020 μ := by exact .use) :
    Ev μ r (targetPost s pm id v) := by
  unfold targetPost
  repeat' with_reducible first
    | assumption | exact .inl .use | exact .inr rfl | exact Cov.use
    | (extract_lets +onlyGivenNames -underBinder s'; refine Ev.cut (m := μ) (r := r) (x := s') ?_ ?_
       all_goals first | (intro h'; clear_value s') | subst s')
    | (extract_lets +onlyGivenNames -underBinder x'; subst x')
    | (refine fun (h' : Ev _ _ _) => ?_) | apply acceptEnter_ev
    | apply Ev.iteR | (apply Ev.fst; assumption) | (apply Ev.snd; assumption) | split | apply Ev.upd | apply Ev.updT | rfl

theorem targetsPost_ev {μ : Nat} {r s : State} {pm : Nat} (h : Ev μ r s)
    (hm : Cov 0x7e00000000000000000000000000000000000000008000000000000620100000000000000383e020 μ := by exact .use) :
    Ev μ r (targetsPost s pm) := by
  unfold targetsPost
  repeat' with_reducible first
    | assumption | exact .inl .use | exact .inr rfl | exact Cov.use
    | (extract_lets +onlyGivenNames -underBinder s'; refine Ev.cut (m := μ) (r := r) (x := s') ?_ ?_
       all_goals first | (intro h'; clear_value s') | subst s')
    | (extract_lets +onlyGivenNames -underBinder x'; subst x')
    | (refine fun (h' : Ev _ _ _) => ?_) | (intro a b hab) | (intro a hab) | apply targetPost_ev
    | apply Ev.iteR | apply Ev.foldl | split | apply Ev.upd | apply Ev.updT | rfl

theorem stoRequest_ev {μ : Nat} {r s : State} {pm : Nat} (h : Ev μ r s)
    (hm : Cov 0x7e00000000000000000000000000000000000000008000000000000620100000000020000383e020 μ := by exact .use) :
    Ev μ r (stoRequest s pm) := by
  unfold stoRequest
  repeat' with_reducible first
    | assumption | exact .inl .use | exact .inr rfl | exact Cov.use
    | (extract_lets +onlyGivenNames -underBinder s'; refine Ev.cut (m := μ) (r := r) (x := s') ?_ ?_
       all_goals first | (intro h'; clear_value s') | subst s')
    | (extract_lets +onlyGivenNames -underBinder x'; subst x')
    | (refine fun (h' : Ev _ _ _) => ?_) | apply standbyRequest_ev
    | apply Ev.iteR | split | apply Ev.upd | apply Ev.updT | rfl

theorem faultsTake_ev {μ : Nat} {r s : State} {td : Nat} (h : Ev μ r s)
    (hm : Cov 0x200000000000000000000400001800000000000000e782600000000000000000007e00000004400000000c0002003009c0000000000020000000001f260011000d4018c800078fdbf0 μ := by exact .use) :
    Ev μ r (faultsTake s td) := by
  unfold faultsTake
  repeat' with_reducible first
    | assumption | exact .inl .use | exact .inr rfl | exact Cov.use
    | (extract_lets +onlyGivenNames -underBinder s'; refine Ev.cut (m := μ) (r := r) (x := s') ?_ ?_
       all_goals first | (intro h'; clear_value s') | subst s')
    | (extract_lets +onlyGivenNames -underBinder x'; subst x')
    | (refine fun (h' : Ev _ _ _) => ?_) | (intro a b hab) | (intro a hab) | apply latchCause_ev | apply State.setContactor_ev | apply lockoutEnter_ev | apply istoFollow_ev | apply outsFollow_ev
    | apply Ev.iteR | apply Ev.foldl | (apply Ev.fst; assumption) | (apply Ev.snd; assumption) | split | apply Ev.upd | apply Ev.updT | rfl

theorem cycleBody_ev {μ : Nat} {r s : State} {pilot : Nat} {agree : Bool} {pm : Nat} (h : Ev μ r s)
    (hm : Cov 0x2000000000000000000004000018000000001203c1efe3600000000000000000007e00000004400000000c0002003009c00000000000a0000000001f262011000d4018e800078ffbf0 μ := by exact .use) :
    Ev μ r (cycleBody s pilot agree pm) := by
  unfold cycleBody
  repeat' with_reducible first
    | assumption | exact .inl .use | exact .inr rfl | exact Cov.use
    | (extract_lets +onlyGivenNames -underBinder s'; refine Ev.cut (m := μ) (r := r) (x := s') ?_ ?_
       all_goals first | (intro h'; clear_value s') | subst s')
    | (extract_lets +onlyGivenNames -underBinder x'; subst x')
    | (refine fun (h' : Ev _ _ _) => ?_) | (intro a b hab) | (intro a hab) | apply plugFollow_ev | apply causesClear_ev | apply connFollow_ev | apply discFollow_ev | apply stoRequest_ev | apply demandsFollow_ev | apply reactionsStep_ev | apply faultsTake_ev | apply fbMismatch_ev | apply istoFollow_ev | apply outsFollow_ev | apply demandsComplete_ev | apply conlockFollow_ev | apply pulseStart_ev | apply targetsPost_ev | apply permitFollow_ev
    | apply Ev.iteR | apply Ev.foldl | (apply Ev.fst; assumption) | (apply Ev.snd; assumption) | split | apply Ev.upd | apply Ev.updT | rfl

theorem cycleRun_ev {μ : Nat} {r s : State} {c : Nat} {pilot : Nat} {agree : Bool} (h : Ev μ r s)
    (hm : Cov 0x2000000000000000000004000018000000001203c1efe3600000000000000000007e00000004400000000c0002003009c00000000000a2000011001f262011000d4018e800078ffbf6 μ := by exact .use) :
    Ev μ r (cycleRun s c pilot agree) := by
  unfold cycleRun
  repeat' with_reducible first
    | assumption | exact .inl .use | exact .inr rfl | exact Cov.use
    | (extract_lets +onlyGivenNames -underBinder s'; refine Ev.cut (m := μ) (r := r) (x := s') ?_ ?_
       all_goals first | (intro h'; clear_value s') | subst s')
    | (extract_lets +onlyGivenNames -underBinder x'; subst x')
    | (refine fun (h' : Ev _ _ _) => ?_) | apply State.runTo_ev | apply cycleBody_ev
    | apply Ev.iteR | split | apply Ev.upd | apply Ev.updT | rfl

theorem safetyCycle_ev {μ : Nat} {r s : State} {pilot : Nat} {agree : Bool} (h : Ev μ r s)
    (hm : Cov 0x2000000000000000000004000018000000001203c1efe3600000000000000000007e00000004400000000c0002003009c00000000000a2000011001f262011000d4018e800078ffbf6 μ := by exact .use) :
    Ev μ r (safetyCycle s pilot agree) := by
  unfold safetyCycle
  repeat' with_reducible first
    | assumption | exact .inl .use | exact .inr rfl | exact Cov.use
    | (refine fun (h' : Ev _ _ _) => ?_) | apply cycleRun_ev
    | apply Ev.iteR | split | apply Ev.upd | apply Ev.updT | rfl

theorem cycleHeld_ev {μ : Nat} {r s : State} (h : Ev μ r s)
    (hm : Cov 0x2000000000000000000004000018000000001203c1efe3600000000000000000007e00000004400000000c0002003009c00000000000a2000011001f262011000d4018e800078ffbf6 μ := by exact .use) :
    Ev μ r (cycleHeld s) := by
  unfold cycleHeld
  repeat' with_reducible first
    | assumption | exact .inl .use | exact .inr rfl | exact Cov.use
    | (refine fun (h' : Ev _ _ _) => ?_) | apply cycleRun_ev
    | apply Ev.iteR | split | apply Ev.upd | apply Ev.updT | rfl

theorem cycleDue_ev {μ : Nat} {r s : State} {since : Nat} {us : Nat} (h : Ev μ r s)
    (hm : Cov 0x2000000000000000000004000018000000001203c1efe3600000000000000000007e00000004400000000c0002003009c00000000000a2000011001f262011000d4018e800078ffbf6 μ := by exact .use) :
    Ev μ r (cycleDue s since us) := by
  unfold cycleDue
  repeat' with_reducible first
    | assumption | exact .inl .use | exact .inr rfl | exact Cov.use
    | (refine fun (h' : Ev _ _ _) => ?_) | apply cycleHeld_ev | apply State.runElapsed_ev
    | apply Ev.iteR | split | apply Ev.upd | apply Ev.updT | rfl

theorem faultFound_ev {μ : Nat} {r s : State} {code : Nat} {index : Nat} (h : Ev μ r s)
    (hm : Cov 0x2000000000000000000004000018000000001203c1efe3600000000000000000007e00000004400000000c0002003009c00000000000a2000011001f262011000d4018e800078ffbf6 μ := by exact .use) :
    Ev μ r (faultFound s code index) := by
  unfold faultFound
  repeat' with_reducible first
    | assumption | exact .inl .use | exact .inr rfl | exact Cov.use
    | (refine fun (h' : Ev _ _ _) => ?_) | apply cycleHeld_ev
    | apply Ev.iteR | split | apply Ev.upd | apply Ev.updT | rfl

theorem lrstPress_ev {μ : Nat} {r s : State} (h : Ev μ r s)
    (hm : Cov 0x400000000000000000000000000000000000000000000000000000000000000000000000000000000000000000000000000004000 μ := by exact .use) :
    Ev μ r (lrstPress s) := by
  unfold lrstPress
  repeat' with_reducible first
    | assumption | exact .inl .use | exact .inr rfl | exact Cov.use
    | (extract_lets +onlyGivenNames -underBinder s'; refine Ev.cut (m := μ) (r := r) (x := s') ?_ ?_
       all_goals first | (intro h'; clear_value s') | subst s')
    | (extract_lets +onlyGivenNames -underBinder x'; subst x')
    | (refine fun (h' : Ev _ _ _) => ?_) | apply State.put_ev | apply R.SAF_LRST_PRESSED_in
    | apply Ev.iteR | split | apply Ev.upd | apply Ev.updT | rfl

theorem selfCheckDone_ev {μ : Nat} {r s : State} {pass : Bool} (h : Ev μ r s)
    (hm : Cov 0x4000000000000000000000000000000000000000000000000000000000000000000000000000000000000000000000000004000 μ := by exact .use) :
    Ev μ r (selfCheckDone s pass) := by
  unfold selfCheckDone
  repeat' with_reducible first
    | assumption | exact .inl .use | exact .inr rfl | exact Cov.use
    | (extract_lets +onlyGivenNames -underBinder s'; refine Ev.cut (m := μ) (r := r) (x := s') ?_ ?_
       all_goals first | (intro h'; clear_value s') | subst s')
    | (extract_lets +onlyGivenNames -underBinder x'; subst x')
    | (refine fun (h' : Ev _ _ _) => ?_) | (intro a hab) | apply openCount_ev
    | apply Ev.iteR | split | apply Ev.upd | apply Ev.updT | rfl

theorem stuckNow_ev {μ : Nat} {r s : State} (h : Ev μ r s)
    (hm : Cov 0x4000000000000000000080000000000000000000000007e000000000000000000000000000000000000000000000000000000000000000000000003804020 μ := by exact .use) :
    Ev μ r (stuckNow s) := by
  unfold stuckNow
  repeat' with_reducible first
    | assumption | exact .inl .use | exact .inr rfl | exact Cov.use
    | (refine fun (h' : Ev _ _ _) => ?_) | apply safetyEnvelope_ev | apply State.mark_ev | apply R.SAF_LRST_STUCK_in
    | apply Ev.iteR | split | apply Ev.upd | apply Ev.updT | rfl

theorem lrstStuck_ev {μ : Nat} {r s : State} (h : Ev μ r s)
    (hm : Cov 0x4000000000000000000080000000000000000000000007e000000000000000000000000000000000000000022000011000000000000000000000003805026 μ := by exact .use) :
    Ev μ r (lrstStuck s) := by
  unfold lrstStuck
  repeat' with_reducible first
    | assumption | exact .inl .use | exact .inr rfl | exact Cov.use
    | (refine fun (h' : Ev _ _ _) => ?_) | apply stuckNow_ev | apply State.runElapsed_ev
    | apply Ev.iteR | (apply Ev.fst; assumption) | (apply Ev.snd; assumption) | split | apply Ev.upd | apply Ev.updT | rfl

theorem lrstRelease_ev {μ : Nat} {r s : State} (h : Ev μ r s) (hm : Cov 0x2000000000000000000004000018000000001203fdefe3600000000000000000007e00000004400000000c0002003009c00000000000a2000011001f262011000d4018e800078ffbf6 μ := by exact .use) : Ev μ r (lrstRelease s).1 := by
  have key : ∀ (x : State) (a b c : Prop) [Decidable a] [Decidable b] [Decidable c], Ev μ r x →
      Ev μ r (if a then (x.mark R.SAF_LRST_SHORT 1, false)
        else if b then (stuckNow x, false)
        else if c then (x, false)
        else
          if (cycleHeld x).safety.selfCheck ∧ (cycleHeld x).safety.selfRunning = false ∧ (cycleHeld x).safety.causes = [] ∧
              (cycleHeld x).get R.SAF_STATUS_DEMAND = 0 then
            (safetyEnvelope (permitFollow (istoFollow (setMode ((cycleHeld x).put R.NODE_MODE_LATCH 0) 1 9))) 4
              ((setMode ((cycleHeld x).put R.NODE_MODE_LATCH 0) 1 9).get R.SAF_LOCK_INDEX)
              ((setMode ((cycleHeld x).put R.NODE_MODE_LATCH 0) 1 9).get R.SAF_LOCK_FIRST)
              (setMode ((cycleHeld x).put R.NODE_MODE_LATCH 0) 1 9).postmark, true)
          else (cycleHeld x, false)).1 := by
    intro x a b c _ _ _ h1
    split
    · exact State.mark_ev h1 (R.SAF_LRST_SHORT_in (Cov.mono hm (by decide +kernel)))
    · split
      · exact stuckNow_ev h1
      · split
        · exact h1
        · split
          · exact safetyEnvelope_ev (permitFollow_ev (istoFollow_ev (setMode_ev (State.put_ev (cycleHeld_ev h1) (R.NODE_MODE_LATCH_in (Cov.mono hm (by decide +kernel)))))))
          · exact cycleHeld_ev h1
  unfold lrstRelease
  split
  · exact h
  · exact key _ _ _ _ (Ev.upd (State.put_ev (State.put_ev h (R.SAF_LRST_LAST_in (Cov.mono hm (by decide +kernel)))) (R.SAF_LRST_PRESSED_in (Cov.mono hm (by decide +kernel)))) rfl rfl)

theorem rejectAt_ev {μ : Nat} {r s : State} {f : Nat → Fld} {j : Nat} (h : Ev μ r s) (hf : ∀ j, RegIn μ (f j).key)
    (hm : Cov 0x800000 μ := by exact .use) :
    Ev μ r (rejectAt s f j) := by
  unfold rejectAt
  repeat' with_reducible first
    | assumption | exact hf _ | exact .inl .use | exact .inr rfl | exact Cov.use
    | (refine fun (h' : Ev _ _ _) => ?_) | apply State.bump_ev
    | apply Ev.iteR | split | apply Ev.upd | apply Ev.updT | rfl

theorem frameAccept_ev {μ : Nat} {r s : State} {j : Nat} {f : Bytes} {ta : Nat} (h : Ev μ r s)
    (hm : Cov 0xb000000000000000000000000000007e000000000000000000000000000000000000000000000000000000000000000000000001804020 μ := by exact .use) :
    Ev μ r (frameAccept s j f ta) := by
  unfold frameAccept
  repeat' with_reducible first
    | assumption | exact .inl .use | exact .inr rfl | exact Cov.use
    | (extract_lets +onlyGivenNames -underBinder s'; refine Ev.cut (m := μ) (r := r) (x := s') ?_ ?_
       all_goals first | (intro h'; clear_value s') | subst s')
    | (extract_lets +onlyGivenNames -underBinder x'; subst x')
    | (refine fun (h' : Ev _ _ _) => ?_) | apply State.setConn_ev | apply State.put_ev | apply postHw_ev | apply R.SAF_RFj_STAT_FRESH_in | apply R.SAF_RFj_STAT_PERMIT_in | apply R.SAF_RFj_STAT_SEQ_in
    | apply Ev.iteR | (apply Ev.fst; assumption) | (apply Ev.snd; assumption) | split | apply Ev.upd | apply Ev.updT | rfl

theorem frameReceive_ev {μ : Nat} {r s : State} {bus : Nat} {addr : Nat} {f : Bytes} (h : Ev μ r s)
    (hm : Cov 0xfb000000000000000000000000000007e000000000000000000000000000000000000000000000000000000000000000000000001804020 μ := by exact .use) :
    Ev μ r (frameReceive s bus addr f) := by
  unfold frameReceive
  repeat' with_reducible first
    | assumption | exact .inl .use | exact .inr rfl | exact Cov.use
    | (extract_lets +onlyGivenNames -underBinder s'; refine Ev.cut (m := μ) (r := r) (x := s') ?_ ?_
       all_goals first | (intro h'; clear_value s') | subst s')
    | (extract_lets +onlyGivenNames -underBinder x'; subst x')
    | (refine fun (h' : Ev _ _ _) => ?_) | (intro a b hab) | (intro a hab) | apply rejectAt_ev | apply frameAccept_ev | apply R.SAF_RFj_CNT_CRCC_in | apply R.SAF_RFj_CNT_CRCK_in | apply R.SAF_RFj_CNT_SEQ_in | apply R.SAF_RFj_CNT_TIME_in
    | apply Ev.iteR | apply Ev.foldl | apply Ev.foldl1 | (apply Ev.fst; assumption) | (apply Ev.snd; assumption) | split
    | apply Ev.upd | apply Ev.updT | rfl | apply Ev.pair1 | apply Ev.pair2 | intro _

theorem registeredSend_ev {μ : Nat} {r s : State} {bus : Nat} {addr : Nat} {frame : Bytes} (h : Ev μ r s)
    (hm : Cov 0x2010000 μ := by exact .use) :
    Ev μ r (registeredSend s bus addr frame) := by
  unfold registeredSend
  repeat' with_reducible first
    | assumption | exact .inl .use | exact .inr rfl | exact Cov.use
    | (extract_lets +onlyGivenNames -underBinder s'; refine Ev.cut (m := μ) (r := r) (x := s') ?_ ?_
       all_goals first | (intro h'; clear_value s') | subst s')
    | (extract_lets +onlyGivenNames -underBinder x'; subst x')
    | (refine fun (h' : Ev _ _ _) => ?_) | apply State.send_ev | apply State.nextMsgId_ev
    | apply Ev.iteR | split | apply Ev.upd | apply Ev.updT | rfl

theorem frameIn_ev {μ : Nat} {r s : State} {bus addr : Nat} {x : SiteHead} {f : Bytes} (h : Ev μ r s) (hm : Cov 0x4000000000000000000000fb000000000000000000000000000007e000000000000000000000000000000000000000000000000000000000000000000000001804020 μ := by exact .use) : Ev μ r (frameIn s bus x addr f) := by
  unfold frameIn
  split
  · exact frameReceive_ev h
  · exact siteTake_ev (fun _ hx => frameReceive_ev hx) h

theorem frameSend_ev {μ : Nat} {r s : State} {j : Nat} (h : Ev μ r s)
    (hm : Cov 0x40000000000000080000000000000000000000000000000000000000000000000000000000000000000000022000011000000000000000000000002815006 μ := by exact .use) :
    Ev μ r (frameSend s j) := by
  unfold frameSend
  repeat' with_reducible first
    | assumption | exact .inl .use | exact .inr rfl | exact Cov.use
    | (extract_lets +onlyGivenNames -underBinder s'; refine Ev.cut (m := μ) (r := r) (x := s') ?_ ?_
       all_goals first | (intro h'; clear_value s') | subst s')
    | (extract_lets +onlyGivenNames -underBinder x'; subst x')
    | (refine fun (h' : Ev _ _ _) => ?_) | apply State.runTo_ev | apply State.put_ev | apply State.setConn_ev | apply registeredSend_ev | apply R.SAF_RFj_STAT_SEQ_in
    | apply Ev.iteR | split | apply Ev.upd | apply Ev.updT | rfl

theorem isoMeasure_ev {μ : Nat} {r s : State} {mean : Int} {valid : Bool} (h : Ev μ r s)
    (hm : Cov 0x400000000000000003c000000000000000000000000007e000000000000000000000000000000000000000000000000000000000000000000000003804020 μ := by exact .use) :
    Ev μ r (isoMeasure s mean valid) := by
  unfold isoMeasure
  repeat' with_reducible first
    | assumption | exact .inl .use | exact .inr rfl | exact Cov.use
    | (extract_lets +onlyGivenNames -underBinder s'; refine Ev.cut (m := μ) (r := r) (x := s') ?_ ?_
       all_goals first | (intro h'; clear_value s') | subst s')
    | (extract_lets +onlyGivenNames -underBinder x'; subst x')
    | (refine fun (h' : Ev _ _ _) => ?_) | apply State.put_ev | apply safetyEnvelope_ev | apply State.mark_ev | apply R.SAF_ISO_FAULT_in | apply R.SAF_ISO_R_ISO_in | apply R.SAF_ISO_VALID_in | apply R.SAF_ISO_WARN_in
    | apply Ev.iteR | (apply Ev.fst; assumption) | (apply Ev.snd; assumption) | split | apply Ev.upd | apply Ev.updT | rfl

theorem safetyActivate_ev {μ : Nat} {r s : State} (h : Ev μ r s)
    (hm : Cov 0xf83400e0000000000000000000000000000000000000000000000000000000000000000000000000000000000000000000000000004000 μ := by exact .use) :
    Ev μ r (safetyActivate s) := by
  unfold safetyActivate
  repeat' with_reducible first
    | assumption | exact .inl .use | exact .inr rfl | exact Cov.use
    | (extract_lets +onlyGivenNames -underBinder s'; refine Ev.cut (m := μ) (r := r) (x := s') ?_ ?_
       all_goals first | (intro h'; clear_value s') | subst s')
    | (extract_lets +onlyGivenNames -underBinder x'; subst x')
    | (refine fun (h' : Ev _ _ _) => ?_) | (intro a b hab) | (intro a hab) | apply State.put_ev | apply R.SAF_ISO_FAULT_in | apply R.SAF_ISO_R_ISO_in | apply R.SAF_ISO_VALID_in | apply R.SAF_OUT_CMD_in | apply R.SAF_OUT_RB_in | apply R.SAF_OUT_TPACT_in | apply R.SAF_RFj_STAT_DEFINED_in | apply R.SAF_RFj_STAT_DIR_in | apply R.SAF_RFj_STAT_FRESH_in | apply R.SAF_RFj_STAT_PERMIT_in | apply R.SAF_RFj_STAT_SEQ_in
    | apply Ev.iteR | apply Ev.foldl | split | apply Ev.upd | apply Ev.updT | rfl

theorem stoInput_ev {μ : Nat} {r s : State} {a : Bool} {b : Bool} (h : Ev μ r s)
    (hm : Cov 0xc0000000000000000000000000000000000000000000000300100000000000000000000000000000000000000000000804080 μ := by exact .use) :
    Ev μ r (stoInput s a b) := by
  unfold stoInput
  repeat' with_reducible first
    | assumption | exact .inl .use | exact .inr rfl | exact Cov.use
    | (extract_lets +onlyGivenNames -underBinder s'; refine Ev.cut (m := μ) (r := r) (x := s') ?_ ?_
       all_goals first | (intro h'; clear_value s') | subst s')
    | (extract_lets +onlyGivenNames -underBinder x'; subst x')
    | (refine fun (h' : Ev _ _ _) => ?_) | apply State.put_ev | apply holdAgain_ev | apply holdAll_ev | apply R.SAF_STATUS_STOA_in | apply R.SAF_STATUS_STOB_in
    | apply Ev.iteR | split | apply Ev.upd | apply Ev.updT | rfl

theorem testPulseRequest_ev {μ : Nat} {r s : State} {v : Nat} (h : Ev μ r s)
    (hm : Cov 0x4000 μ := by exact .use) :
    Ev μ r (testPulseRequest s v) := by
  unfold testPulseRequest
  repeat' with_reducible first
    | assumption | exact .inl .use | exact .inr rfl | exact Cov.use
    | (extract_lets +onlyGivenNames -underBinder s'; refine Ev.cut (m := μ) (r := r) (x := s') ?_ ?_
       all_goals first | (intro h'; clear_value s') | subst s')
    | (extract_lets +onlyGivenNames -underBinder x'; subst x')
    | (refine fun (h' : Ev _ _ _) => ?_) | (intro a b hab) | (intro a hab)
    | apply Ev.iteR | apply Ev.foldl | split | apply Ev.upd | apply Ev.updT | rfl

theorem outputReadback_ev {μ : Nat} {r s : State} {o : Nat} (h : Ev μ r s)
    (hm : Cov 0x2000000000000000000004000018000000001203c1efe3600000000000000000007e00000004400000000c0002003009c00000000000a2000011001f262411000d4018e800078ffbf6 μ := by exact .use) :
    Ev μ r (outputReadback s o) := by
  unfold outputReadback
  repeat' with_reducible first
    | assumption | exact .inl .use | exact .inr rfl | exact Cov.use
    | (refine fun (h' : Ev _ _ _) => ?_) | apply faultFound_ev | apply readbackDisagree_ev
    | apply Ev.iteR | split | apply Ev.upd | apply Ev.updT | rfl

theorem feedbackLevel_ev {μ : Nat} {r s : State} {f : Nat} {level : Bool} (h : Ev μ r s)
    (hm : Cov 0x2000000000000000000004000018000000001203c3efe3600000000000000000007e00000004400000000c0002003009c00000000000a2000011001f262011000d4018e800078ffbf6 μ := by exact .use) :
    Ev μ r (feedbackLevel s f level) := by
  unfold feedbackLevel
  repeat' with_reducible first
    | assumption | exact .inl .use | exact .inr rfl | exact Cov.use
    | (extract_lets +onlyGivenNames -underBinder s'; refine Ev.cut (m := μ) (r := r) (x := s') ?_ ?_
       all_goals first | (intro h'; clear_value s') | subst s')
    | (extract_lets +onlyGivenNames -underBinder x'; subst x')
    | (refine fun (h' : Ev _ _ _) => ?_) | (intro a hab) | apply State.put_ev | apply cycleHeld_ev | apply R.SAF_FB_LEVEL_in
    | apply Ev.iteR | split | apply Ev.upd | apply Ev.updT | rfl

end Sys2Proof.Machine
end

