-- ==== Sys2Proof/Laws/EvSecure.lean ====
section
/-!
SUPPORT. What each operation over State can do, said once: one lemma for each function of images, identity, sessions and the twin pair. The result is as sound as
the state it starts from, never before it, and differs from it only in the parts and registers of the set named (`mask` of Safety.lean).
-/
namespace Sys2Proof.Machine
set_option Elab.async false
set_option linter.all false

theorem setSlotState_ev {μ : Nat} {r s : State} {n : Nat} {v : Nat} {ver : Nat} {id : Nat} (h : Ev μ r s)
    (hm : Cov 0x1800800000000000000000000000000000000000000000000000000000000000000000000000000000000000000000000000000000000000000000000000 μ := by exact .use) :
    Ev μ r (setSlotState s n v ver id) := by
  unfold setSlotState
  repeat' with_reducible first
    | assumption | exact .inl .use | exact .inr rfl | exact Cov.use
    | (extract_lets +onlyGivenNames -underBinder s'; refine Ev.cut (m := μ) (r := r) (x := s') ?_ ?_
       all_goals first | (intro h'; clear_value s') | subst s')
    | (extract_lets +onlyGivenNames -underBinder x'; subst x')
    | (refine fun (h' : Ev _ _ _) => ?_) | apply State.put_ev | apply R.SEC_IMG_IDs_ID_in | apply R.SEC_IMG_STATUS_STATE_in | apply R.SEC_IMG_VERs_VER_in
    | apply Ev.iteR | split | apply Ev.upd | apply Ev.updT | rfl

theorem slotCode_ev {μ : Nat} {r s : State} {c : Nat} (h : Ev μ r s)
    (hm : Cov 0x40000100000000000000000000000000000000000000000000000000000000000000000000000000000000000000000000000000000000000000002800000 μ := by exact .use) :
    Ev μ r (slotCode s c) := by
  unfold slotCode
  repeat' with_reducible first
    | assumption | exact .inl .use | exact .inr rfl | exact Cov.use
    | (refine fun (h' : Ev _ _ _) => ?_) | apply State.irq_ev | apply State.put_ev | apply R.SEC_IMG_STATUS_CODE_in
    | apply Ev.iteR | split | apply Ev.upd | apply Ev.updT | rfl

theorem slotClose_ev {μ : Nat} {r s : State} {n : Nat} (h : Ev μ r s)
    (hm : Cov 0x800 μ := by exact .use) :
    Ev μ r (slotClose s n) := by
  unfold slotClose
  repeat' with_reducible first
    | assumption | exact .inl .use | exact .inr rfl | exact Cov.use
    | (refine fun (h' : Ev _ _ _) => ?_)
    | apply Ev.iteR | split | apply Ev.upd | apply Ev.updT | rfl

theorem imgOpen_ev {μ : Nat} {r s : State} {a1 : Nat} {n : Nat} (h : Ev μ r s)
    (hm : Cov 0x41800940000000000000000000000000000000000000000000000000000000000000000000000000000000000000000000000000000000000000002800800 μ := by exact .use) :
    Ev μ r (imgOpen s a1 n) := by
  unfold imgOpen
  repeat' with_reducible first
    | assumption | exact .inl .use | exact .inr rfl | exact Cov.use
    | (extract_lets +onlyGivenNames -underBinder s'; refine Ev.cut (m := μ) (r := r) (x := s') ?_ ?_
       all_goals first | (intro h'; clear_value s') | subst s')
    | (extract_lets +onlyGivenNames -underBinder x'; subst x')
    | (refine fun (h' : Ev _ _ _) => ?_) | apply slotCode_ev | apply setSlotState_ev | apply State.put_ev | apply R.SEC_IMG_PTR_OFS_in
    | apply Ev.iteR | split | apply Ev.upd | apply Ev.updT | rfl

theorem imgData_ev {μ : Nat} {r s : State} {a1 : Nat} {addr : Nat} {v : Nat} (h : Ev μ r s)
    (hm : Cov 0x100000000000000000000000040000000000000000000000000000000000000000000000000000000000000000000000000000000000000000000000000000001e00000000850800 μ := by exact .use) :
    Ev μ r (imgData s a1 addr v) := by
  unfold imgData
  repeat' with_reducible first
    | assumption | exact .inl .use | exact .inr rfl | exact Cov.use
    | (extract_lets +onlyGivenNames -underBinder s'; refine Ev.cut (m := μ) (r := r) (x := s') ?_ ?_
       all_goals first | (intro h'; clear_value s') | subst s')
    | (extract_lets +onlyGivenNames -underBinder x'; subst x')
    | (refine fun (h' : Ev _ _ _) => ?_) | apply addrError_ev | apply State.put_ev | apply nvWrite_ev | apply R.SEC_IMG_PTR_OFS_in
    | apply Ev.iteR | (apply Ev.fst; assumption) | (apply Ev.snd; assumption) | split | apply Ev.upd | apply Ev.updT | rfl

theorem slotRefuse_ev {μ : Nat} {r s : State} {n : Nat} {f : Refuse} (h : Ev μ r s)
    (hm : Cov 0x41803900000000000000000000000000000000000000000000000000000000000000000000000000000000000000000000000000000000000000002800000 μ := by exact .use) :
    Ev μ r (slotRefuse s n f) := by
  unfold slotRefuse
  repeat' with_reducible first
    | assumption | exact .inl .use | exact .inr rfl | exact Cov.use
    | (extract_lets +onlyGivenNames -underBinder s'; refine Ev.cut (m := μ) (r := r) (x := s') ?_ ?_
       all_goals first | (intro h'; clear_value s') | subst s')
    | (extract_lets +onlyGivenNames -underBinder x'; subst x')
    | (refine fun (h' : Ev _ _ _) => ?_) | apply setSlotState_ev | apply slotCode_ev | apply State.put_ev | apply R.SEC_IMG_WHERE_REC_in | apply R.SEC_IMG_WHERE_SECT_in
    | apply Ev.iteR | split | apply Ev.upd | apply Ev.updT | rfl

theorem imgCommit_ev {μ : Nat} {r s : State} {a1 : Nat} {n : Nat} (h : Ev μ r s)
    (hm : Cov 0x41803900000000000000000000000000000000000000000000000000000000000000000000000000000000000000000000000000000000000000002800800 μ := by exact .use) :
    Ev μ r (imgCommit s a1 n) := by
  unfold imgCommit
  repeat' with_reducible first
    | assumption | exact .inl .use | exact .inr rfl | exact Cov.use
    | (extract_lets +onlyGivenNames -underBinder s'; refine Ev.cut (m := μ) (r := r) (x := s') ?_ ?_
       all_goals first | (intro h'; clear_value s') | subst s')
    | (extract_lets +onlyGivenNames -underBinder x'; subst x')
    | (refine fun (h' : Ev _ _ _) => ?_) | apply slotCode_ev | apply slotClose_ev | apply slotRefuse_ev | apply setSlotState_ev
    | apply Ev.iteR | (apply Ev.fst; assumption) | (apply Ev.snd; assumption) | split | apply Ev.upd | apply Ev.updT | rfl

theorem imgErase_ev {μ : Nat} {r s : State} {a1 : Nat} {n : Nat} (h : Ev μ r s)
    (hm : Cov 0x41800900000000000000000000000000000000000000000000000000000000000000000000000000000000000000000000000000000000000000002800800 μ := by exact .use) :
    Ev μ r (imgErase s a1 n) := by
  unfold imgErase
  repeat' with_reducible first
    | assumption | exact .inl .use | exact .inr rfl | exact Cov.use
    | (extract_lets +onlyGivenNames -underBinder s'; refine Ev.cut (m := μ) (r := r) (x := s') ?_ ?_
       all_goals first | (intro h'; clear_value s') | subst s')
    | (extract_lets +onlyGivenNames -underBinder x'; subst x')
    | (refine fun (h' : Ev _ _ _) => ?_) | apply slotCode_ev | apply slotClose_ev | apply setSlotState_ev
    | apply Ev.iteR | split | apply Ev.upd | apply Ev.updT | rfl

theorem imgAbort_ev {μ : Nat} {r s : State} {a1 : Nat} {n : Nat} (h : Ev μ r s)
    (hm : Cov 0x41800900000000000000000000000000000000000000000000000000000000000000000000000000000000000000000000000000000000000000002800800 μ := by exact .use) :
    Ev μ r (imgAbort s a1 n) := by
  unfold imgAbort
  repeat' with_reducible first
    | assumption | exact .inl .use | exact .inr rfl | exact Cov.use
    | (extract_lets +onlyGivenNames -underBinder s'; refine Ev.cut (m := μ) (r := r) (x := s') ?_ ?_
       all_goals first | (intro h'; clear_value s') | subst s')
    | (extract_lets +onlyGivenNames -underBinder x'; subst x')
    | (refine fun (h' : Ev _ _ _) => ?_) | apply slotCode_ev | apply slotClose_ev | apply setSlotState_ev
    | apply Ev.iteR | split | apply Ev.upd | apply Ev.updT | rfl

theorem slotsAtReset_ev {μ : Nat} {r s : State} (h : Ev μ r s)
    (hm : Cov 0x41803900000000000000000000000000000000000000000000000000000000000000000000000000000000000000000000000000000000000000002800800 μ := by exact .use) :
    Ev μ r (slotsAtReset s) := by
  unfold slotsAtReset
  repeat' with_reducible first
    | assumption | exact .inl .use | exact .inr rfl | exact Cov.use
    | (extract_lets +onlyGivenNames -underBinder s'; refine Ev.cut (m := μ) (r := r) (x := s') ?_ ?_
       all_goals first | (intro h'; clear_value s') | subst s')
    | (extract_lets +onlyGivenNames -underBinder x'; subst x')
    | (refine fun (h' : Ev _ _ _) => ?_) | (intro a b hab) | (intro a hab) | apply slotRefuse_ev
    | apply Ev.iteR | apply Ev.foldl | split | apply Ev.upd | apply Ev.updT | rfl

theorem imgActivate_ev {μ : Nat} {r s : State} {a1 : Nat} {n : Nat} (h : Ev μ r s)
    (hm : Cov 0x41803980000000000000000000000000000000000000000000000000000000000000000000000000000000000000000000000000000000000000002800800 μ := by exact .use) :
    Ev μ r (imgActivate s a1 n) := by
  unfold imgActivate
  repeat' with_reducible first
    | assumption | exact .inl .use | exact .inr rfl | exact Cov.use
    | (refine fun (h' : Ev _ _ _) => ?_) | apply slotCode_ev | apply slotRefuse_ev | apply State.put_ev | apply R.SEC_IMG_STATUS_BUSY_in
    | apply Ev.iteR | (apply Ev.fst; assumption) | (apply Ev.snd; assumption) | split | apply Ev.upd | apply Ev.updT | rfl

theorem refuseWaiting_ev {μ : Nat} {r s : State} {k : Nat} (h : Ev μ r s)
    (hm : Cov 0x7e00000000000000000000000000000000000000000000000000000620100000000004000383a020 μ := by exact .use) :
    Ev μ r (refuseWaiting s k) := by
  unfold refuseWaiting
  repeat' with_reducible first
    | assumption | exact .inl .use | exact .inr rfl | exact Cov.use
    | (extract_lets +onlyGivenNames -underBinder s'; refine Ev.cut (m := μ) (r := r) (x := s') ?_ ?_
       all_goals first | (intro h'; clear_value s') | subst s')
    | (extract_lets +onlyGivenNames -underBinder x'; subst x')
    | (refine fun (h' : Ev _ _ _) => ?_) | (intro a b hab) | (intro a hab) | apply modeRefuse_ev | apply deadLetter_ev
    | apply Ev.iteR | apply Ev.foldl | split | apply Ev.upd | apply Ev.updT | rfl

theorem Ev.putAll {μ : Nat} {r s : State} {l : List Fld} (hl : ∀ f ∈ l, RegIn μ f.key) (h : Ev μ r s) :
    Ev μ r (l.foldl (fun s f => s.put f f.reset) s) := by
  induction l generalizing s with
  | nil => exact h
  | cons f l ih => exact ih (fun g hg => hl g (List.mem_cons_of_mem _ hg)) (State.put_ev h (hl f (List.mem_cons_self ..)))

theorem fabricDefault_ev {μ : Nat} {r s : State} (h : Ev μ r s) (hm : Cov 0x1fe00000000000000000000000000000000000000000000000000000000000000000000000 μ := by exact .use) : Ev μ r (fabricDefault s) := by
  unfold fabricDefault
  refine Ev.putAll ?_ h
  refine List.forall_mem_cons.2 ⟨R.FAB_STATUS_ACTIVE_in .use, ?_⟩
  refine List.forall_mem_cons.2 ⟨R.FAB_STATUS_SLOT_in .use, ?_⟩
  refine List.forall_mem_cons.2 ⟨R.FAB_STATUS_USED_in .use, ?_⟩
  refine List.forall_mem_cons.2 ⟨R.FAB_CFG_FRATE_in .use, ?_⟩
  refine List.forall_mem_cons.2 ⟨R.FAB_CFG_G0_in .use, ?_⟩
  refine List.forall_mem_cons.2 ⟨R.FAB_CFG_G1_in .use, ?_⟩
  refine List.forall_mem_cons.2 ⟨R.FAB_CFG_G2_in .use, ?_⟩
  refine List.forall_mem_cons.2 ⟨R.FAB_CFG_G3_in .use, ?_⟩
  exact List.forall_mem_nil _

theorem imageStop_ev {μ : Nat} {r s : State} {k : Nat} (h : Ev μ r s)
    (hm : Cov 0x380007e00001fe4400000000000000000000000000000003000000000000620100000000024000383b220 μ := by exact .use) :
    Ev μ r (imageStop s k) := by
  unfold imageStop
  repeat' with_reducible first
    | assumption | exact .inl .use | exact .inr rfl | exact Cov.use
    | (extract_lets +onlyGivenNames -underBinder s'; refine Ev.cut (m := μ) (r := r) (x := s') ?_ ?_
       all_goals first | (intro h'; clear_value s') | subst s')
    | (extract_lets +onlyGivenNames -underBinder x'; subst x')
    | (refine fun (h' : Ev _ _ _) => ?_) | apply officeDefault_ev | apply fabricDefault_ev | apply fabricHalt_ev | apply tigBreak_ev | apply State.put_ev | apply modePending_ev | apply refuseWaiting_ev | apply officeEmpty_ev | apply R.POST_TIG_IMAGE_in
    | apply Ev.iteR | split | apply Ev.upd | apply Ev.updT | rfl

theorem legConfig_ev {μ : Nat} {r s : State} {im : Image} {n : Nat} (h : Ev μ r s)
    (hm : Cov 0x300fffffc000000000000000000040000000000000000000800080 μ := by exact .use) :
    Ev μ r (legConfig im s n) := by
  unfold legConfig
  repeat' with_reducible first
    | assumption | exact .inl .use | exact .inr rfl | exact Cov.use
    | (extract_lets +onlyGivenNames -underBinder s'; refine Ev.cut (m := μ) (r := r) (x := s') ?_ ?_
       all_goals first | (intro h'; clear_value s') | subst s')
    | (extract_lets +onlyGivenNames -underBinder x'; subst x')
    | (refine fun (h' : Ev _ _ _) => ?_) | apply State.setLeg_ev | apply State.put_ev | apply setTripInput_ev | apply legHold_ev | apply R.LEGn_CFG_ASSIGNED_in | apply R.LEGn_CFG_BLANK_in | apply R.LEGn_CFG_BRIDGE_in | apply R.LEGn_CFG_PHASE_in | apply R.LEGn_CFG_POLICY_in | apply R.LEGn_CFG_SAFE_in | apply R.LEGn_CFG_SENSE_in | apply R.LEGn_DT_FALL_in | apply R.LEGn_DT_RISE_in | apply R.LEGn_DUTY_ACT_DUTY_in | apply R.LEGn_DUTY_DUTY_in | apply R.LEGn_FORCE_CODE_in | apply R.LEGn_MINP_MIN_in | apply R.LEGn_PERIOD_ACT_PERIOD_in | apply R.LEGn_PERIOD_PERIOD_in | apply R.LEGn_PHASE_ACT_PHASE_in | apply R.LEGn_PHASE_PHASE_in | apply R.LEGn_STATUS_DRIVE_in | apply R.LEGn_STATUS_FCODE_in | apply R.LEGn_STATUS_PEND_D_in | apply R.LEGn_STATUS_PEND_PP_in
    | apply Ev.iteR | (apply Ev.fst; assumption) | (apply Ev.snd; assumption) | split | apply Ev.upd | apply Ev.updT | rfl

theorem bridgeConfig_ev {μ : Nat} {r s : State} {im : Image} {b : Nat} (h : Ev μ r s)
    (hm : Cov 0x3f0000000000000000000000000000000000000000000000000000000 μ := by exact .use) :
    Ev μ r (bridgeConfig im s b) := by
  unfold bridgeConfig
  repeat' with_reducible first
    | assumption | exact .inl .use | exact .inr rfl | exact Cov.use
    | (extract_lets +onlyGivenNames -underBinder s'; refine Ev.cut (m := μ) (r := r) (x := s') ?_ ?_
       all_goals first | (intro h'; clear_value s') | subst s')
    | (extract_lets +onlyGivenNames -underBinder x'; subst x')
    | (refine fun (h' : Ev _ _ _) => ?_) | apply State.put_ev | apply R.BRIDGE_CFG_CFORM_in | apply R.BRIDGE_CFG_NPHASE_in | apply R.BRIDGE_CFG_PRESENT_in | apply R.BRIDGE_CFG_RELOAD_in | apply R.BRIDGE_CFG_ROLE_in | apply R.BRIDGE_CTRL_SRC_in
    | apply Ev.iteR | (apply Ev.fst; assumption) | (apply Ev.snd; assumption) | split | apply Ev.upd | apply Ev.updT | rfl

theorem senseConfig_ev {μ : Nat} {r s : State} {im : Image} (h : Ev μ r s)
    (hm : Cov 0x1fc0d70000000000000000000000000000000000000000000000000000000000 μ := by exact .use) :
    Ev μ r (senseConfig im s) := by
  unfold senseConfig
  repeat' with_reducible first
    | assumption | exact .inl .use | exact .inr rfl | exact Cov.use
    | (extract_lets +onlyGivenNames -underBinder s'; refine Ev.cut (m := μ) (r := r) (x := s') ?_ ?_
       all_goals first | (intro h'; clear_value s') | subst s')
    | (extract_lets +onlyGivenNames -underBinder x'; subst x')
    | (refine fun (h' : Ev _ _ _) => ?_) | (intro a b hab) | (intro a hab) | apply State.put_ev | apply R.SN_BANKb_CLKADJ_in | apply R.SN_BANKb_FORM_in | apply R.SN_BANKb_PM_in | apply R.SN_BANKb_SDLEV_in | apply R.SN_BANKb_SDLY_in | apply R.SN_CAL_PHASE_in | apply R.SN_CAL_ROT_in | apply R.SN_CAL_STEP_in | apply R.SN_GRPg_EN_in | apply R.SN_GRPg_PS_in | apply R.SN_STATUS_BANKEN_in | apply R.SN_STATUS_GRPEN_in | apply R.SN_STATUS_RUN_in
    | apply Ev.iteR | apply Ev.foldl | split | apply Ev.upd | apply Ev.updT | rfl

theorem pathConfig_ev {μ : Nat} {r s : State} {im : Image} {p : Nat} (h : Ev μ r s)
    (hm : Cov 0x87ff8000000000000000000000000000000000000000000000000000000000000200 μ := by exact .use) :
    Ev μ r (pathConfig im s p) := by
  unfold pathConfig
  repeat' with_reducible first
    | assumption | exact .inl .use | exact .inr rfl | exact Cov.use
    | (extract_lets +onlyGivenNames -underBinder s'; refine Ev.cut (m := μ) (r := r) (x := s') ?_ ?_
       all_goals first | (intro h'; clear_value s') | subst s')
    | (extract_lets +onlyGivenNames -underBinder x'; subst x')
    | (refine fun (h' : Ev _ _ _) => ?_) | apply State.setPath_ev | apply State.put_ev | apply setActiveBank_ev | apply R.DEC_PATHp_BANK_ABANK_in | apply R.DEC_PATHp_BANK_ARESP_in | apply R.DEC_PATHp_BANK_FADING_in | apply R.DEC_PATHp_BANK_HBANK_in | apply R.DEC_PATHp_BANK_HELD_in | apply R.DEC_PATHp_BANK_TBANK_in | apply R.DEC_PATHp_BANK_XFLEFT_in | apply R.DEC_PATHp_CFG_DEFINED_in | apply R.DEC_PATHp_CFG_DLOG_in | apply R.DEC_PATHp_CFG_K_in | apply R.DEC_PATHp_CFG_R_in | apply R.DEC_PATHp_CFG_SRC_in | apply R.DEC_PATHp_DLY_UNITS_in
    | apply Ev.iteR | (apply Ev.fst; assumption) | (apply Ev.snd; assumption) | split | apply Ev.upd | apply Ev.updT | rfl

theorem resConfig_ev {μ : Nat} {r s : State} {im : Image} {a2 : Nat} (h : Ev μ r s)
    (hm : Cov 0xff00000000000000000000000000000000000000000000000000000000000000000000 μ := by exact .use) :
    Ev μ r (resConfig im s a2) := by
  unfold resConfig
  repeat' with_reducible first
    | assumption | exact .inl .use | exact .inr rfl | exact Cov.use
    | (extract_lets +onlyGivenNames -underBinder s'; refine Ev.cut (m := μ) (r := r) (x := s') ?_ ?_
       all_goals first | (intro h'; clear_value s') | subst s')
    | (extract_lets +onlyGivenNames -underBinder x'; subst x')
    | (refine fun (h' : Ev _ _ _) => ?_) | apply State.put_ev | apply R.DEC_RSr_CFG_BRIDGE_in | apply R.DEC_RSr_CFG_CYC_in | apply R.DEC_RSr_CFG_DEFINED_in | apply R.DEC_RSr_CFG_LOCK_in | apply R.DEC_RSr_CFG_LOGN_in | apply R.DEC_RSr_CFG_SRC_in | apply R.DEC_RSr_IDX_J_in | apply R.DEC_RSr_IDX_RUN_in
    | apply Ev.iteR | (apply Ev.fst; assumption) | (apply Ev.snd; assumption) | split | apply Ev.upd | apply Ev.updT | rfl

theorem fabricConfig_ev {μ : Nat} {r s : State} {im : Image} (h : Ev μ r s)
    (hm : Cov 0x6001fa00000000000000000000000000000000000000000000000000000000000000000000000 μ := by exact .use) :
    Ev μ r (fabricConfig im s) := by
  unfold fabricConfig
  repeat' with_reducible first
    | assumption | exact .inl .use | exact .inr rfl | exact Cov.use
    | (extract_lets +onlyGivenNames -underBinder s'; refine Ev.cut (m := μ) (r := r) (x := s') ?_ ?_
       all_goals first | (intro h'; clear_value s') | subst s')
    | (extract_lets +onlyGivenNames -underBinder x'; subst x')
    | (refine fun (h' : Ev _ _ _) => ?_) | (intro a b hab) | (intro a hab) | apply State.put_ev | apply R.FAB_CFG_FRATE_in | apply R.FAB_CFG_G0_in | apply R.FAB_CFG_G1_in | apply R.FAB_CFG_G2_in | apply R.FAB_CFG_G3_in | apply R.FAB_STATUS_SLOT_in | apply R.FAB_STATUS_USED_in | apply R.FAB_TILEt_PEAK_CYC_in | apply R.FAB_TILEt_STATIC_CYC_in
    | apply Ev.iteR | apply Ev.foldl | split | apply Ev.upd | apply Ev.updT | rfl

theorem imageLoad_ev {μ : Nat} {r s : State} {im : Image} (h : Ev μ r s)
    (hm : Cov 0x1004000000000000000000000000000000f83400e00062000000001e003000000000000000ff87ff9fe8d703f0300fffffc000000000000000000040000000000000000004c45ec0 μ := by exact .use) :
    Ev μ r (imageLoad s im) := by
  unfold imageLoad
  repeat' with_reducible first
    | assumption | exact .inl .use | exact .inr rfl | exact Cov.use
    | (extract_lets +onlyGivenNames -underBinder s'; refine Ev.cut (m := μ) (r := r) (x := s') ?_ ?_
       all_goals first | (intro h'; clear_value s') | subst s')
    | (extract_lets +onlyGivenNames -underBinder x'; subst x')
    | (refine fun (h' : Ev _ _ _) => ?_) | (intro a b hab) | (intro a hab) | apply State.put_ev | apply bridgeConfig_ev | apply legConfig_ev | apply pathConfig_ev | apply senseConfig_ev | apply resConfig_ev | apply capActivation_ev | apply healthActivate_ev | apply safetyActivate_ev | apply frEmpty_ev | apply R.SN_LOSTm_CH_in | apply R.SN_SNAPSTAT_PEND_in
    | apply Ev.iteR | apply Ev.foldl | split | apply Ev.upd | apply Ev.updT | rfl

theorem imageMark_ev {μ : Nat} {r s : State} {im : Image} (h : Ev μ r s)
    (hm : Cov 0x100000000000000000000400600000028000000000000000000000000000000000000000000000000000000000000000000000000000000000000000000000000000000000048000 μ := by exact .use) :
    Ev μ r (imageMark s im) := by
  unfold imageMark
  repeat' with_reducible first
    | assumption | exact .inl .use | exact .inr rfl | exact Cov.use
    | (extract_lets +onlyGivenNames -underBinder s'; refine Ev.cut (m := μ) (r := r) (x := s') ?_ ?_
       all_goals first | (intro h'; clear_value s') | subst s')
    | (extract_lets +onlyGivenNames -underBinder x'; subst x')
    | (refine fun (h' : Ev _ _ _) => ?_) | apply nvWrite_ev | apply State.put_ev | apply counterRaise_ev | apply mrExtend_ev | apply R.SEC_IMG_STATUS_ACT_MARK_in | apply R.SEC_IMG_STATUS_ACT_SLOT_in
    | apply Ev.iteR | split | apply Ev.upd | apply Ev.updT | rfl

theorem activationStop_ev {μ : Nat} {r s : State} (h : Ev μ r s)
    (hm : Cov 0x201014000000000000000404007800000280f83400e0007a0001f87c1e387380007e047fbfeeff87ff9fecd703f8308fffffc000000377800011001f666019000d4000ac0007cffff6 μ := by exact .use) :
    Ev μ r (activationStop s) := by
  unfold activationStop
  repeat' with_reducible first
    | assumption | exact .inl .use | exact .inr rfl | exact Cov.use
    | (extract_lets +onlyGivenNames -underBinder s'; refine Ev.cut (m := μ) (r := r) (x := s') ?_ ?_
       all_goals first | (intro h'; clear_value s') | subst s')
    | (extract_lets +onlyGivenNames -underBinder x'; subst x')
    | (refine fun (h' : Ev _ _ _) => ?_) | apply slotCode_ev | apply State.put_ev | apply imageLoad_ev | apply imageStop_ev | apply imageMark_ev | apply State.runTo_ev | apply frameBegin_ev | apply frameCatchUp_ev | apply completeFrame_ev | apply R.SEC_IMG_STATUS_BUSY_in
    | apply Ev.iteR | (apply Ev.fst; assumption) | (apply Ev.snd; assumption) | split | apply Ev.upd | apply Ev.updT | rfl

theorem activationStart_ev {μ : Nat} {r s : State} (h : Ev μ r s)
    (hm : Cov 0x20001000000000000000040000180000000000000000007a0001f87c1e387380007e067fbfee4004f8000c0002083089ff000000000377800011001f266019000d4000ac00078ffff6 μ := by exact .use) :
    Ev μ r (activationStart s) := by
  unfold activationStart
  repeat' with_reducible first
    | assumption | exact .inl .use | exact .inr rfl | exact Cov.use
    | (extract_lets +onlyGivenNames -underBinder s'; refine Ev.cut (m := μ) (r := r) (x := s') ?_ ?_
       all_goals first | (intro h'; clear_value s') | subst s')
    | (extract_lets +onlyGivenNames -underBinder x'; subst x')
    | (refine fun (h' : Ev _ _ _) => ?_) | apply State.runTo_ev | apply State.put_ev | apply officeConfig_ev | apply fabricConfig_ev | apply frameBegin_ev | apply slotCode_ev | apply R.CAP_FRSTAT_REC_in | apply R.FAB_STATUS_ACTIVE_in | apply R.SEC_IMG_STATUS_BUSY_in
    | apply Ev.iteR | (apply Ev.fst; assumption) | (apply Ev.snd; assumption) | split | apply Ev.upd | apply Ev.updT | rfl

theorem activateMarked_ev {μ : Nat} {r s : State} (h : Ev μ r s)
    (hm : Cov 0x100400000000000000041c03f800000280f83400e00062000000001e003000000000000000ff87ff9fe8d703f0300fffffc000000030000000000040000000000000000006c4dec0 μ := by exact .use) :
    Ev μ r (activateMarked s) := by
  unfold activateMarked
  repeat' with_reducible first
    | assumption | exact .inl .use | exact .inr rfl | exact Cov.use
    | (extract_lets +onlyGivenNames -underBinder s'; refine Ev.cut (m := μ) (r := r) (x := s') ?_ ?_
       all_goals first | (intro h'; clear_value s') | subst s')
    | (extract_lets +onlyGivenNames -underBinder x'; subst x')
    | (refine fun (h' : Ev _ _ _) => ?_) | apply slotRefuse_ev | apply tigBreak_ev | apply State.put_ev | apply counterRaise_ev | apply imageLoad_ev | apply imageMark_ev | apply R.POST_TIG_IMAGE_in | apply R.SEC_IMG_STATUS_BUSY_in
    | apply Ev.iteR | (apply Ev.fst; assumption) | (apply Ev.snd; assumption) | split | apply Ev.upd | apply Ev.updT | rfl

theorem dikSign_ev {μ : Nat} {r s : State} {msg : Bytes} (h : Ev μ r s)
    (hm : Cov 0x1000000 μ := by exact .use) :
    Ev μ r (dikSign s msg).2 := by
  unfold dikSign
  repeat' with_reducible first
    | assumption | exact .inl .use | exact .inr rfl | exact Cov.use
    | (extract_lets +onlyGivenNames -underBinder s'; refine Ev.cut (m := μ) (r := r) (x := s') ?_ ?_
       all_goals first | (intro h'; clear_value s') | subst s')
    | (extract_lets +onlyGivenNames -underBinder x'; subst x')
    | (refine fun (h' : Ev _ _ _) => ?_) | apply State.freshBytes_ev
    | apply Ev.iteR | (apply Ev.fst; assumption) | (apply Ev.snd; assumption) | split | apply Ev.upd | apply Ev.updT | rfl | apply Ev.pair2

theorem secResult_ev {μ : Nat} {r s : State} {code : Nat} (h : Ev μ r s)
    (hm : Cov 0x4000000000020000000000000000000000000000000007e000000000000000000000000000000000000000000000000000000000000000000000003800020 μ := by exact .use) :
    Ev μ r (secResult s code) := by
  unfold secResult
  repeat' with_reducible first
    | assumption | exact .inl .use | exact .inr rfl | exact Cov.use
    | (extract_lets +onlyGivenNames -underBinder s'; refine Ev.cut (m := μ) (r := r) (x := s') ?_ ?_
       all_goals first | (intro h'; clear_value s') | subst s')
    | (extract_lets +onlyGivenNames -underBinder x'; subst x')
    | (refine fun (h' : Ev _ _ _) => ?_) | apply State.put_ev | apply securityEnvelope_ev | apply R.SEC_RESULT_CODE_in
    | apply Ev.iteR | split | apply Ev.upd | apply Ev.updT | rfl

theorem sessShow_ev {μ : Nat} {r s : State} (h : Ev μ r s)
    (hm : Cov 0x2000000000000000000000000000000000000000000000000000000000000000000000000000000000000000000000000000000000000000000 μ := by exact .use) :
    Ev μ r (sessShow s) := by
  unfold sessShow
  repeat' with_reducible first
    | assumption | exact .inl .use | exact .inr rfl | exact Cov.use
    | (refine fun (h' : Ev _ _ _) => ?_) | apply State.put_ev | apply R.SEC_SESS_OPEN_in
    | apply Ev.iteR | split | apply Ev.upd | apply Ev.updT | rfl

theorem sessionsClose_ev {μ : Nat} {r s : State} {p : Session → Bool} (h : Ev μ r s)
    (hm : Cov 0x4000000000200000000000000000000000000000000007e000000000000000000000000000000000000000000000000000000000000000000000003808020 μ := by exact .use) :
    Ev μ r (sessionsClose s p) := by
  unfold sessionsClose
  repeat' with_reducible first
    | assumption | exact .inl .use | exact .inr rfl | exact Cov.use
    | (extract_lets +onlyGivenNames -underBinder s'; refine Ev.cut (m := μ) (r := r) (x := s') ?_ ?_
       all_goals first | (intro h'; clear_value s') | subst s')
    | (extract_lets +onlyGivenNames -underBinder x'; subst x')
    | (refine fun (h' : Ev _ _ _) => ?_) | (intro a b hab) | (intro a hab) | apply sessShow_ev | apply securityEnvelope_ev
    | apply Ev.iteR | apply Ev.foldl | split | apply Ev.upd | apply Ev.updT | rfl

theorem measureEnrolment_ev {μ : Nat} {r s : State} (h : Ev μ r s)
    (hm : Cov 0x28000000000000000000000000000000000000000000000000000000000000000000000000000000000000000000000000000000000008000 μ := by exact .use) :
    Ev μ r (measureEnrolment s) := by
  unfold measureEnrolment
  repeat' with_reducible first
    | assumption | exact .inl .use | exact .inr rfl | exact Cov.use
    | (extract_lets +onlyGivenNames -underBinder s'; refine Ev.cut (m := μ) (r := r) (x := s') ?_ ?_
       all_goals first | (intro h'; clear_value s') | subst s')
    | (extract_lets +onlyGivenNames -underBinder x'; subst x')
    | (refine fun (h' : Ev _ _ _) => ?_) | apply mrExtend_ev
    | apply Ev.iteR | split | apply Ev.upd | apply Ev.updT | rfl

theorem epochSet_ev {μ : Nat} {r s : State} {valid : Nat} {sec : Nat} (h : Ev μ r s)
    (hm : Cov 0x4000000000002800000000000000000000000000000007e0000000000000000000000000000000000000000221e001b00000620100000000020000383b022 μ := by exact .use) :
    Ev μ r (epochSet s valid sec) := by
  unfold epochSet
  repeat' with_reducible first
    | assumption | exact .inl .use | exact .inr rfl | exact Cov.use
    | (extract_lets +onlyGivenNames -underBinder s'; refine Ev.cut (m := μ) (r := r) (x := s') ?_ ?_
       all_goals first | (intro h'; clear_value s') | subst s')
    | (extract_lets +onlyGivenNames -underBinder x'; subst x')
    | (refine fun (h' : Ev _ _ _) => ?_) | (intro a b hab) | (intro a hab) | apply State.put_ev | apply measureIdent_ev | apply State.mark_ev | apply setTimebase_ev | apply deadLetter_ev | apply trayDiscardStep_ev | apply modePending_ev | apply R.POST_EPOCH_HI_SEC_in | apply R.POST_EPOCH_HI_VALID_in | apply R.POST_EPOCH_LO_SEC_in | apply R.POST_STATUS_STEPPED_in
    | apply Ev.iteR | apply Ev.foldl | split | apply Ev.upd | apply Ev.updT | rfl

theorem dxkStart_ev {μ : Nat} {r s : State} (h : Ev μ r s)
    (hm : Cov 0x8000 μ := by exact .use) :
    Ev μ r (dxkStart s) := by
  unfold dxkStart
  repeat' with_reducible first
    | assumption | exact .inl .use | exact .inr rfl | exact Cov.use
    | (refine fun (h' : Ev _ _ _) => ?_)
    | apply Ev.iteR | split | apply Ev.upd | apply Ev.updT | rfl

theorem release_ev {μ : Nat} {r s : State} (h : Ev μ r s)
    (hm : Cov 0x41800e0000202b00000000000000000000000000000007e0000000000000000000000000000000000000000221e001b00000620100000000020780383b822 μ := by exact .use) :
    Ev μ r (release s) := by
  unfold release
  repeat' with_reducible first
    | assumption | exact .inl .use | exact .inr rfl | exact Cov.use
    | (extract_lets +onlyGivenNames -underBinder s'; refine Ev.cut (m := μ) (r := r) (x := s') ?_ ?_
       all_goals first | (intro h'; clear_value s') | subst s')
    | (extract_lets +onlyGivenNames -underBinder x'; subst x')
    | (refine fun (h' : Ev _ _ _) => ?_) | (intro a b hab) | (intro a hab) | apply setSlotState_ev | apply State.put_ev | apply epochSet_ev | apply sessionsClose_ev | apply R.NODE_IDENT_CLUSTER_in | apply R.NODE_IDENT_NODE_in | apply R.NODE_IDENT_PROV_in | apply R.NODE_IDENT_TWIN_in | apply R.SEC_IMG_STATUS_ACT_MARK_in | apply R.SEC_IMG_STATUS_ACT_SLOT_in | apply R.SEC_STATUS_DXK_in | apply R.SEC_STATUS_ENROLLED_in
    | apply Ev.iteR | apply Ev.foldl | split | apply Ev.upd | apply Ev.updT | rfl

theorem install_ev {μ : Nat} {r s : State} (h : Ev μ r s)
    (hm : Cov 0x100000000000000000041c00e0000222b00000000000000000000000000000007e0000000000000000000000000000000000000000221e001b00000620100000000020780387b822 μ := by exact .use) :
    Ev μ r (install s) := by
  unfold install
  repeat' with_reducible first
    | assumption | exact .inl .use | exact .inr rfl | exact Cov.use
    | (extract_lets +onlyGivenNames -underBinder s'; refine Ev.cut (m := μ) (r := r) (x := s') ?_ ?_
       all_goals first | (intro h'; clear_value s') | subst s')
    | (extract_lets +onlyGivenNames -underBinder x'; subst x')
    | (refine fun (h' : Ev _ _ _) => ?_) | (intro a hab) | apply secResult_ev | apply release_ev | apply nvWrite_ev | apply counterRaise_ev | apply State.put_ev | apply sessionsClose_ev | apply measureEnrolment_ev | apply epochSet_ev | apply dxkStart_ev | apply securityEnvelope_ev | apply R.SEC_STATUS_ENROLLED_in
    | apply Ev.iteR | split | apply Ev.upd | apply Ev.updT | rfl

theorem enrOpen_ev {μ : Nat} {r s : State} (h : Ev μ r s)
    (hm : Cov 0x4000000001020000000000000000000000000000000007e000000000000000000000000000000000000000000000000000000000000000000000003808020 μ := by exact .use) :
    Ev μ r (enrOpen s) := by
  unfold enrOpen
  repeat' with_reducible first
    | assumption | exact .inl .use | exact .inr rfl | exact Cov.use
    | (refine fun (h' : Ev _ _ _) => ?_) | apply secResult_ev | apply State.put_ev | apply R.SEC_ENR_PTR_OFS_in
    | apply Ev.iteR | split | apply Ev.upd | apply Ev.updT | rfl

theorem enrData_ev {μ : Nat} {r s : State} {v : Nat} (h : Ev μ r s)
    (hm : Cov 0x10000000000000000000000000000000000000000000000000000000000000000000000000000000000000000000000000000000000000008000 μ := by exact .use) :
    Ev μ r (enrData s v) := by
  unfold enrData
  repeat' with_reducible first
    | assumption | exact .inl .use | exact .inr rfl | exact Cov.use
    | (extract_lets +onlyGivenNames -underBinder s'; refine Ev.cut (m := μ) (r := r) (x := s') ?_ ?_
       all_goals first | (intro h'; clear_value s') | subst s')
    | (extract_lets +onlyGivenNames -underBinder x'; subst x')
    | (refine fun (h' : Ev _ _ _) => ?_) | apply State.put_ev | apply R.SEC_ENR_PTR_OFS_in
    | apply Ev.iteR | split | apply Ev.upd | apply Ev.updT | rfl

theorem rekeyx_ev {μ : Nat} {r s : State} (h : Ev μ r s)
    (hm : Cov 0x4000000000030000000000000000000000000000000007e000000000000000000000000000000000000000000000000000000000000000000000003808020 μ := by exact .use) :
    Ev μ r (rekeyx s) := by
  unfold rekeyx
  repeat' with_reducible first
    | assumption | exact .inl .use | exact .inr rfl | exact Cov.use
    | (refine fun (h' : Ev _ _ _) => ?_) | apply secResult_ev | apply State.put_ev | apply R.SEC_RESULT_BUSY_in
    | apply Ev.iteR | split | apply Ev.upd | apply Ev.updT | rfl

theorem dxkGenerated_ev {μ : Nat} {r s : State} (h : Ev μ r s)
    (hm : Cov 0x4000000000030200000000000000000000000000000007e000000000000000000000000000000000000000000000000000000000000000000000003808020 μ := by exact .use) :
    Ev μ r (dxkGenerated s) := by
  unfold dxkGenerated
  repeat' with_reducible first
    | assumption | exact .inl .use | exact .inr rfl | exact Cov.use
    | (extract_lets +onlyGivenNames -underBinder s'; refine Ev.cut (m := μ) (r := r) (x := s') ?_ ?_
       all_goals first | (intro h'; clear_value s') | subst s')
    | (extract_lets +onlyGivenNames -underBinder x'; subst x')
    | (refine fun (h' : Ev _ _ _) => ?_) | apply State.freshNat_ev | apply secResult_ev | apply State.put_ev | apply securityEnvelope_ev | apply R.SEC_RESULT_BUSY_in | apply R.SEC_STATUS_DXK_in
    | apply Ev.iteR | (apply Ev.fst; assumption) | (apply Ev.snd; assumption) | split | apply Ev.upd | apply Ev.updT | rfl

theorem extend_ev {μ : Nat} {r s : State} (h : Ev μ r s)
    (hm : Cov 0x4000000000022800000000000000000000000000000007e000000000000000000000000000000000000000000000000000000000000000000000003808020 μ := by exact .use) :
    Ev μ r (extend s) := by
  unfold extend
  repeat' with_reducible first
    | assumption | exact .inl .use | exact .inr rfl | exact Cov.use
    | (refine fun (h' : Ev _ _ _) => ?_) | (intro a hab) | apply secResult_ev | apply mrExtend_ev
    | apply Ev.iteR | split | apply Ev.upd | apply Ev.updT | rfl

theorem sessionClose_ev {μ : Nat} {r s : State} {index : Nat} (h : Ev μ r s)
    (hm : Cov 0x4000000000220000000000000000000000000000000007e000000000000000000000000000000000000000000000000000000000000000000000003808020 μ := by exact .use) :
    Ev μ r (sessionClose s index) := by
  unfold sessionClose
  repeat' with_reducible first
    | assumption | exact .inl .use | exact .inr rfl | exact Cov.use
    | (refine fun (h' : Ev _ _ _) => ?_) | (intro a hab) | apply secResult_ev | apply sessionsClose_ev
    | apply Ev.iteR | split | apply Ev.upd | apply Ev.updT | rfl

theorem setFwState_ev {μ : Nat} {r s : State} {n : Nat} {v : Nat} {ver : Nat} (h : Ev μ r s)
    (hm : Cov 0x4004000000000000000000000000000000000000000000000000000000000000000000000000000000000000000000000000000000000000000000000 μ := by exact .use) :
    Ev μ r (setFwState s n v ver) := by
  unfold setFwState
  repeat' with_reducible first
    | assumption | exact .inl .use | exact .inr rfl | exact Cov.use
    | (extract_lets +onlyGivenNames -underBinder s'; refine Ev.cut (m := μ) (r := r) (x := s') ?_ ?_
       all_goals first | (intro h'; clear_value s') | subst s')
    | (extract_lets +onlyGivenNames -underBinder x'; subst x')
    | (refine fun (h' : Ev _ _ _) => ?_) | apply State.put_ev | apply R.SEC_FW_STATUS_STATE_in | apply R.SEC_FW_VERs_VER_in
    | apply Ev.iteR | split | apply Ev.upd | apply Ev.updT | rfl

theorem fwCode_ev {μ : Nat} {r s : State} {c : Nat} (h : Ev μ r s)
    (hm : Cov 0x4000000040000000000000000000000000000000000007e000000000000000000000000000000000000000000000000000000000000000000000003800020 μ := by exact .use) :
    Ev μ r (fwCode s c) := by
  unfold fwCode
  repeat' with_reducible first
    | assumption | exact .inl .use | exact .inr rfl | exact Cov.use
    | (extract_lets +onlyGivenNames -underBinder s'; refine Ev.cut (m := μ) (r := r) (x := s') ?_ ?_
       all_goals first | (intro h'; clear_value s') | subst s')
    | (extract_lets +onlyGivenNames -underBinder x'; subst x')
    | (refine fun (h' : Ev _ _ _) => ?_) | apply State.irq_ev | apply State.put_ev | apply securityEnvelope_ev | apply R.SEC_FW_STATUS_CODE_in
    | apply Ev.iteR | split | apply Ev.upd | apply Ev.updT | rfl

theorem fwClose_ev {μ : Nat} {r s : State} {n : Nat} (h : Ev μ r s)
    (hm : Cov 0x8000 μ := by exact .use) :
    Ev μ r (fwClose s n) := by
  unfold fwClose
  repeat' with_reducible first
    | assumption | exact .inl .use | exact .inr rfl | exact Cov.use
    | (refine fun (h' : Ev _ _ _) => ?_)
    | apply Ev.iteR | split | apply Ev.upd | apply Ev.updT | rfl

theorem fwOpen_ev {μ : Nat} {r s : State} {a1 : Nat} {n : Nat} (h : Ev μ r s)
    (hm : Cov 0x4000400450000000000000000000000000000000000007e000000000000000000000000000000000000000000000000000000000000000000000003808020 μ := by exact .use) :
    Ev μ r (fwOpen s a1 n) := by
  unfold fwOpen
  repeat' with_reducible first
    | assumption | exact .inl .use | exact .inr rfl | exact Cov.use
    | (extract_lets +onlyGivenNames -underBinder s'; refine Ev.cut (m := μ) (r := r) (x := s') ?_ ?_
       all_goals first | (intro h'; clear_value s') | subst s')
    | (extract_lets +onlyGivenNames -underBinder x'; subst x')
    | (refine fun (h' : Ev _ _ _) => ?_) | apply fwCode_ev | apply setFwState_ev | apply State.put_ev | apply R.SEC_FW_PTR_OFS_in
    | apply Ev.iteR | split | apply Ev.upd | apply Ev.updT | rfl

theorem fwData_ev {μ : Nat} {r s : State} {a1 : Nat} {addr : Nat} {v : Nat} (h : Ev μ r s)
    (hm : Cov 0x100000000000000000000000000100000000000000000000000000000000000000000000000000000000000000000000000000000000000000000000000000001e00000000858000 μ := by exact .use) :
    Ev μ r (fwData s a1 addr v) := by
  unfold fwData
  repeat' with_reducible first
    | assumption | exact .inl .use | exact .inr rfl | exact Cov.use
    | (extract_lets +onlyGivenNames -underBinder s'; refine Ev.cut (m := μ) (r := r) (x := s') ?_ ?_
       all_goals first | (intro h'; clear_value s') | subst s')
    | (extract_lets +onlyGivenNames -underBinder x'; subst x')
    | (refine fun (h' : Ev _ _ _) => ?_) | apply addrError_ev | apply State.put_ev | apply nvWrite_ev | apply R.SEC_FW_PTR_OFS_in
    | apply Ev.iteR | (apply Ev.fst; assumption) | (apply Ev.snd; assumption) | split | apply Ev.upd | apply Ev.updT | rfl

theorem fwCommit_ev {μ : Nat} {r s : State} {a1 : Nat} {n : Nat} (h : Ev μ r s)
    (hm : Cov 0x4000400440000000000000000000000000000000000007e000000000000000000000000000000000000000000000000000000000000000000000003808020 μ := by exact .use) :
    Ev μ r (fwCommit s a1 n) := by
  unfold fwCommit
  repeat' with_reducible first
    | assumption | exact .inl .use | exact .inr rfl | exact Cov.use
    | (extract_lets +onlyGivenNames -underBinder s'; refine Ev.cut (m := μ) (r := r) (x := s') ?_ ?_
       all_goals first | (intro h'; clear_value s') | subst s')
    | (extract_lets +onlyGivenNames -underBinder x'; subst x')
    | (refine fun (h' : Ev _ _ _) => ?_) | apply fwCode_ev | apply fwClose_ev | apply setFwState_ev
    | apply Ev.iteR | (apply Ev.fst; assumption) | (apply Ev.snd; assumption) | split | apply Ev.upd | apply Ev.updT | rfl

theorem fwMark_ev {μ : Nat} {r s : State} {a1 : Nat} {n : Nat} (h : Ev μ r s)
    (hm : Cov 0x10000000000000000004000000240000000000000000000000000000000000007e000000000000000000000000000000000000000000000000000000000000000000000003840020 μ := by exact .use) :
    Ev μ r (fwMark s a1 n) := by
  unfold fwMark
  repeat' with_reducible first
    | assumption | exact .inl .use | exact .inr rfl | exact Cov.use
    | (refine fun (h' : Ev _ _ _) => ?_) | apply fwCode_ev | apply nvWrite_ev | apply State.put_ev | apply R.SEC_FW_STATUS_MARK_in
    | apply Ev.iteR | split | apply Ev.upd | apply Ev.updT | rfl

theorem fwErase_ev {μ : Nat} {r s : State} {a1 : Nat} {n : Nat} (h : Ev μ r s)
    (hm : Cov 0x4000400440000000000000000000000000000000000007e000000000000000000000000000000000000000000000000000000000000000000000003808020 μ := by exact .use) :
    Ev μ r (fwErase s a1 n) := by
  unfold fwErase
  repeat' with_reducible first
    | assumption | exact .inl .use | exact .inr rfl | exact Cov.use
    | (extract_lets +onlyGivenNames -underBinder s'; refine Ev.cut (m := μ) (r := r) (x := s') ?_ ?_
       all_goals first | (intro h'; clear_value s') | subst s')
    | (extract_lets +onlyGivenNames -underBinder x'; subst x')
    | (refine fun (h' : Ev _ _ _) => ?_) | apply fwCode_ev | apply fwClose_ev | apply setFwState_ev
    | apply Ev.iteR | split | apply Ev.upd | apply Ev.updT | rfl

theorem fwAbort_ev {μ : Nat} {r s : State} {a1 : Nat} {n : Nat} (h : Ev μ r s)
    (hm : Cov 0x4000400440000000000000000000000000000000000007e000000000000000000000000000000000000000000000000000000000000000000000003808020 μ := by exact .use) :
    Ev μ r (fwAbort s a1 n) := by
  unfold fwAbort
  repeat' with_reducible first
    | assumption | exact .inl .use | exact .inr rfl | exact Cov.use
    | (extract_lets +onlyGivenNames -underBinder s'; refine Ev.cut (m := μ) (r := r) (x := s') ?_ ?_
       all_goals first | (intro h'; clear_value s') | subst s')
    | (extract_lets +onlyGivenNames -underBinder x'; subst x')
    | (refine fun (h' : Ev _ _ _) => ?_) | apply fwCode_ev | apply fwClose_ev | apply setFwState_ev
    | apply Ev.iteR | split | apply Ev.upd | apply Ev.updT | rfl

theorem fwConfirm_ev {μ : Nat} {r s : State} (h : Ev μ r s)
    (hm : Cov 0x10000000000000000004040000040000000000000000000000000000000000007e000000000000000000000000000000000000000000000000000000000000000000000003840020 μ := by exact .use) :
    Ev μ r (fwConfirm s) := by
  unfold fwConfirm
  repeat' with_reducible first
    | assumption | exact .inl .use | exact .inr rfl | exact Cov.use
    | (extract_lets +onlyGivenNames -underBinder s'; refine Ev.cut (m := μ) (r := r) (x := s') ?_ ?_
       all_goals first | (intro h'; clear_value s') | subst s')
    | (extract_lets +onlyGivenNames -underBinder x'; subst x')
    | (refine fun (h' : Ev _ _ _) => ?_) | apply counterRaise_ev | apply fwCode_ev | apply securityEnvelope_ev
    | apply Ev.iteR | split | apply Ev.upd | apply Ev.updT | rfl

theorem revoke0_ev {μ : Nat} {r s : State} {a1 : Nat} (h : Ev μ r s)
    (hm : Cov 0x4000000040001000000000000000000000000000000007e000000000000000000000000000000000000000000000000000000000000000000000003800020 μ := by exact .use) :
    Ev μ r (revoke0 s a1) := by
  unfold revoke0
  repeat' with_reducible first
    | assumption | exact .inl .use | exact .inr rfl | exact Cov.use
    | (refine fun (h' : Ev _ _ _) => ?_) | apply fwCode_ev | apply State.put_ev | apply R.SEC_STATUS_REVOKED0_in
    | apply Ev.iteR | split | apply Ev.upd | apply Ev.updT | rfl

theorem fwAtReset_ev {μ : Nat} {r s : State} (h : Ev μ r s)
    (hm : Cov 0x4004400000000000000000000000000000000000000000000000000000000000000000000000000000000000000000000000000000000000000008000 μ := by exact .use) :
    Ev μ r (fwAtReset s) := by
  unfold fwAtReset
  repeat' with_reducible first
    | assumption | exact .inl .use | exact .inr rfl | exact Cov.use
    | (extract_lets +onlyGivenNames -underBinder s'; refine Ev.cut (m := μ) (r := r) (x := s') ?_ ?_
       all_goals first | (intro h'; clear_value s') | subst s')
    | (extract_lets +onlyGivenNames -underBinder x'; subst x')
    | (refine fun (h' : Ev _ _ _) => ?_) | (intro a b hab) | (intro a hab) | apply State.put_ev | apply setFwState_ev | apply R.SEC_FW_STATUS_CODE_in
    | apply Ev.iteR | apply Ev.foldl | split | apply Ev.upd | apply Ev.updT | rfl

theorem rngFail_ev {μ : Nat} {r s : State} (h : Ev μ r s)
    (hm : Cov 0x4000000000000400000000000000000000000000000007e000000000000000000000000000000000000000000000000000000000000000000000003800020 μ := by exact .use) :
    Ev μ r (rngFail s) := by
  unfold rngFail
  repeat' with_reducible first
    | assumption | exact .inl .use | exact .inr rfl | exact Cov.use
    | (refine fun (h' : Ev _ _ _) => ?_) | apply securityEnvelope_ev | apply State.put_ev | apply R.SEC_STATUS_RNGFAIL_in
    | apply Ev.iteR | split | apply Ev.upd | apply Ev.updT | rfl

theorem rngRead_ev {μ : Nat} {r s : State} (h : Ev μ r s)
    (hm : Cov 0x1000000 μ := by exact .use) :
    Ev μ r (rngRead s).2 := by
  unfold rngRead
  repeat' with_reducible first
    | assumption | exact .inl .use | exact .inr rfl | exact Cov.use
    | (refine fun (h' : Ev _ _ _) => ?_) | apply State.freshNat_ev
    | apply Ev.iteR | split | apply Ev.upd | apply Ev.updT | rfl | apply Ev.pair2

theorem State.readBack_ev {μ : Nat} {r s : State} {a1 : Nat} {l : List Nat} (h : Ev μ r s)
    (hm : Cov 0x10000 μ := by exact .use) :
    Ev μ r (State.readBack s a1 l) := by
  unfold State.readBack
  repeat' with_reducible first
    | assumption | exact .inl .use | exact .inr rfl | exact Cov.use
    | (refine fun (h' : Ev _ _ _) => ?_)
    | apply Ev.iteR | split | apply Ev.upd | apply Ev.updT | rfl

theorem queueShow_ev {μ : Nat} {r s : State} (h : Ev μ r s)
    (hm : Cov 0x80000000000000000000000000000000000000000000000000000000000000000000000000000000000000000000000000000000000000000000000000 μ := by exact .use) :
    Ev μ r (queueShow s) := by
  unfold queueShow
  repeat' with_reducible first
    | assumption | exact .inl .use | exact .inr rfl | exact Cov.use
    | (refine fun (h' : Ev _ _ _) => ?_) | (intro a b hab) | (intro a hab) | apply State.put_ev | apply R.SEC_FRANK_STATUS_QUEUE_in
    | apply Ev.iteR | apply Ev.foldl | split | apply Ev.upd | apply Ev.updT | rfl

theorem frankQueue_ev {μ : Nat} {r s : State} {w : FrankWho} {nonce : Bytes} (h : Ev μ r s)
    (hm : Cov 0x80000000000000000000000000000000000000000000000000000000000000000000000000000000000000000000000000000000000000000000008000 μ := by exact .use) :
    Ev μ r (frankQueue s w nonce) := by
  unfold frankQueue
  repeat' with_reducible first
    | assumption | exact .inl .use | exact .inr rfl | exact Cov.use
    | (refine fun (h' : Ev _ _ _) => ?_) | apply queueShow_ev
    | apply Ev.iteR | split | apply Ev.upd | apply Ev.updT | rfl

theorem frankRequest_ev {μ : Nat} {r s : State} {a1 : Nat} (h : Ev μ r s)
    (hm : Cov 0x400f000000000000000000000000000000000000000007e000000000000000000000000000000000000000000000000000000000000000000000003808020 μ := by exact .use) :
    Ev μ r (frankRequest s a1) := by
  unfold frankRequest
  repeat' with_reducible first
    | assumption | exact .inl .use | exact .inr rfl | exact Cov.use
    | (extract_lets +onlyGivenNames -underBinder s'; refine Ev.cut (m := μ) (r := r) (x := s') ?_ ?_
       all_goals first | (intro h'; clear_value s') | subst s')
    | (extract_lets +onlyGivenNames -underBinder x'; subst x')
    | (refine fun (h' : Ev _ _ _) => ?_) | (intro a hab) | apply securityEnvelope_ev | apply State.put_ev | apply frankQueue_ev | apply R.SEC_FRANK_STATUS_BUSY_in | apply R.SEC_FRANK_STATUS_CODE_in | apply R.SEC_FRANK_STATUS_DONE_in
    | apply Ev.iteR | split | apply Ev.upd | apply Ev.updT | rfl

theorem statementCapture_ev {μ : Nat} {r s : State} (h : Ev μ r s)
    (hm : Cov 0x80000000000000000000000000000000000000000000000000000000000000000000000000000000000000000000000000000000000000000000008000 μ := by exact .use) :
    Ev μ r (statementCapture s) := by
  unfold statementCapture
  repeat' with_reducible first
    | assumption | exact .inl .use | exact .inr rfl | exact Cov.use
    | (refine fun (h' : Ev _ _ _) => ?_) | apply queueShow_ev
    | apply Ev.iteR | (apply Ev.fst; assumption) | (apply Ev.snd; assumption) | split | apply Ev.upd | apply Ev.updT | rfl

theorem statementReady_ev {μ : Nat} {r s : State} (h : Ev μ r s)
    (hm : Cov 0x4003000000000000000000000000000000000000000007e000000000000000000000000000000000000000000000000000000000000000000000003818020 μ := by exact .use) :
    Ev μ r (statementReady s) := by
  unfold statementReady
  repeat' with_reducible first
    | assumption | exact .inl .use | exact .inr rfl | exact Cov.use
    | (extract_lets +onlyGivenNames -underBinder s'; refine Ev.cut (m := μ) (r := r) (x := s') ?_ ?_
       all_goals first | (intro h'; clear_value s') | subst s')
    | (extract_lets +onlyGivenNames -underBinder x'; subst x')
    | (refine fun (h' : Ev _ _ _) => ?_) | apply dikSign_ev | apply State.irq_ev | apply State.put_ev | apply securityEnvelope_ev | apply siteFrameOut_ev | apply R.SEC_FRANK_STATUS_BUSY_in | apply R.SEC_FRANK_STATUS_DONE_in
    | apply Ev.iteR | (apply Ev.fst; assumption) | (apply Ev.snd; assumption) | split | apply Ev.upd | apply Ev.updT | rfl

theorem setAttempt_ev {μ : Nat} {r s : State} {peer : Nat} {a : Option Attempt} (h : Ev μ r s)
    (hm : Cov 0x8000 μ := by exact .use) :
    Ev μ r (setAttempt s peer a) := by
  unfold setAttempt
  repeat' with_reducible first
    | assumption | exact .inl .use | exact .inr rfl | exact Cov.use
    | (refine fun (h' : Ev _ _ _) => ?_) | (intro a hab)
    | apply Ev.iteR | split | apply Ev.upd | apply Ev.updT | rfl

theorem peerRefuse_ev {μ : Nat} {r s : State} {code : Nat} {peer : Nat} (h : Ev μ r s)
    (hm : Cov 0x4000000000000000000000000000000000000000000007e000000000000000000000000000000000000000000000000000000000000000000000003800020 μ := by exact .use) :
    Ev μ r (peerRefuse s code peer) := by
  unfold peerRefuse
  repeat' with_reducible first
    | assumption | exact .inl .use | exact .inr rfl | exact Cov.use
    | (refine fun (h' : Ev _ _ _) => ?_) | apply securityEnvelope_ev
    | apply Ev.iteR | split | apply Ev.upd | apply Ev.updT | rfl

theorem attemptStart_ev {μ : Nat} {r s : State} {peer : Nat} {peerNonce : Bytes} (h : Ev μ r s)
    (hm : Cov 0x4000000000000000000000000000000000000000000007e000000000000000000000000000000000000000000000000000000000000000000000003818020 μ := by exact .use) :
    Ev μ r (attemptStart s peer peerNonce) := by
  unfold attemptStart
  repeat' with_reducible first
    | assumption | exact .inl .use | exact .inr rfl | exact Cov.use
    | (extract_lets +onlyGivenNames -underBinder s'; refine Ev.cut (m := μ) (r := r) (x := s') ?_ ?_
       all_goals first | (intro h'; clear_value s') | subst s')
    | (extract_lets +onlyGivenNames -underBinder x'; subst x')
    | (refine fun (h' : Ev _ _ _) => ?_) | apply peerRefuse_ev | apply State.freshBytes_ev | apply setAttempt_ev | apply siteFrameOut_ev
    | apply Ev.iteR | (apply Ev.fst; assumption) | (apply Ev.snd; assumption) | split | apply Ev.upd | apply Ev.updT | rfl

theorem keySend_ev {μ : Nat} {r s : State} {a : Attempt} (h : Ev μ r s)
    (hm : Cov 0x4000000000000000000000000000000000000000000007e000000000000000000000000000000000000000000000000000000000000000000000003818020 μ := by exact .use) :
    Ev μ r (keySend s a) := by
  unfold keySend
  repeat' with_reducible first
    | assumption | exact .inl .use | exact .inr rfl | exact Cov.use
    | (extract_lets +onlyGivenNames -underBinder s'; refine Ev.cut (m := μ) (r := r) (x := s') ?_ ?_
       all_goals first | (intro h'; clear_value s') | subst s')
    | (extract_lets +onlyGivenNames -underBinder x'; subst x')
    | (refine fun (h' : Ev _ _ _) => ?_) | apply peerRefuse_ev | apply setAttempt_ev | apply State.freshBytes_ev | apply State.freshNat_ev | apply dikSign_ev | apply siteFrameOut_ev
    | apply Ev.iteR | (apply Ev.fst; assumption) | (apply Ev.snd; assumption) | split | apply Ev.upd | apply Ev.updT | rfl

theorem siteMessageIn_ev {μ : Nat} {r s : State} {n kind src : Nat} {x : SiteHead} {act : State → State} (ha : ∀ x, Ev μ r x → Ev μ r (act x)) (h : Ev μ r s) (hm : Cov 0x4000000000000000000000000000000000000000000000000000000000000000000000000000000000000000000000000000000000000000000000000000000810000 μ := by exact .use) :
    Ev μ r (siteMessageIn s n kind src x act) := by
  unfold siteMessageIn
  refine siteTake_ev (fun s h => ?_) h
  dsimp only
  split
  · exact h
  split
  · exact ha _ h
  split
  · exact ha _ (Ev.upd h rfl rfl)
  split
  · exact State.bump_ev (Ev.upd h rfl rfl) (R.LK_SPn_CNT_RXDROP_in (Cov.mono hm (by decide +kernel)))
  · exact Ev.upd h rfl rfl

theorem frankReq_ev {μ : Nat} {r s : State} {f : FrankReq} (h : Ev μ r s)
    (hm : Cov 0x4008000000000000000000000000000000000000000007e000000000000000000000000000000000000000000000000000000000000000000000003818020 μ := by exact .use) :
    Ev μ r (frankReq s f) := by
  unfold frankReq
  repeat' with_reducible first
    | assumption | exact .inl .use | exact .inr rfl | exact Cov.use
    | (extract_lets +onlyGivenNames -underBinder s'; refine Ev.cut (m := μ) (r := r) (x := s') ?_ ?_
       all_goals first | (intro h'; clear_value s') | subst s')
    | (extract_lets +onlyGivenNames -underBinder x'; subst x')
    | (refine fun (h' : Ev _ _ _) => ?_) | (intro a hab) | apply peerRefuse_ev | apply frankQueue_ev | apply attemptStart_ev | apply keySend_ev | apply setAttempt_ev
    | apply Ev.iteR | (apply Ev.fst; assumption) | (apply Ev.snd; assumption) | split | apply Ev.upd | apply Ev.updT | rfl

theorem frankRep_ev {μ : Nat} {r s : State} {f : FrankRep} (h : Ev μ r s)
    (hm : Cov 0x4000000000000000000000000000000000000000000007e000000000000000000000000000000000000000000000000000000000000000000000003818020 μ := by exact .use) :
    Ev μ r (frankRep s f) := by
  unfold frankRep
  repeat' with_reducible first
    | assumption | exact .inl .use | exact .inr rfl | exact Cov.use
    | (extract_lets +onlyGivenNames -underBinder s'; refine Ev.cut (m := μ) (r := r) (x := s') ?_ ?_
       all_goals first | (intro h'; clear_value s') | subst s')
    | (extract_lets +onlyGivenNames -underBinder x'; subst x')
    | (refine fun (h' : Ev _ _ _) => ?_) | apply peerRefuse_ev | apply setAttempt_ev | apply keySend_ev
    | apply Ev.iteR | (apply Ev.fst; assumption) | (apply Ev.snd; assumption) | split | apply Ev.upd | apply Ev.updT | rfl

theorem sessionOpen_ev {μ : Nat} {r s : State} {x : Session} (h : Ev μ r s)
    (hm : Cov 0x4000000000200000000000000000000000000000000007e000000000000000000000000000000000000000000000000000000000000000000000003808020 μ := by exact .use) :
    Ev μ r (sessionOpen s x) := by
  unfold sessionOpen
  repeat' with_reducible first
    | assumption | exact .inl .use | exact .inr rfl | exact Cov.use
    | (extract_lets +onlyGivenNames -underBinder s'; refine Ev.cut (m := μ) (r := r) (x := s') ?_ ?_
       all_goals first | (intro h'; clear_value s') | subst s')
    | (extract_lets +onlyGivenNames -underBinder x'; subst x')
    | (refine fun (h' : Ev _ _ _) => ?_) | (intro a hab) | apply securityEnvelope_ev | apply sessShow_ev
    | apply Ev.iteR | split | apply Ev.upd | apply Ev.updT | rfl

theorem keyTransport_ev {μ : Nat} {r s : State} {a1 : KeyMsg} (h : Ev μ r s)
    (hm : Cov 0x4000000000200000000000000000000000000000000007e000000000000000000000000000000000000000000000000000000000000000000000003818020 μ := by exact .use) :
    Ev μ r (keyTransport s a1) := by
  unfold keyTransport
  repeat' with_reducible first
    | assumption | exact .inl .use | exact .inr rfl | exact Cov.use
    | (extract_lets +onlyGivenNames -underBinder s'; refine Ev.cut (m := μ) (r := r) (x := s') ?_ ?_
       all_goals first | (intro h'; clear_value s') | subst s')
    | (extract_lets +onlyGivenNames -underBinder x'; subst x')
    | (refine fun (h' : Ev _ _ _) => ?_) | apply peerRefuse_ev | apply setAttempt_ev | apply sessionOpen_ev | apply sessionOut_ev
    | apply Ev.iteR | (apply Ev.fst; assumption) | (apply Ev.snd; assumption) | split | apply Ev.upd | apply Ev.updT | rfl

theorem keyConfirm_ev {μ : Nat} {r s : State} {a1 : KeyMsg} (h : Ev μ r s)
    (hm : Cov 0x4000000000280000000000000000000000000000000007e000000000000000000000000000000000000000000000000000000000000000000000003808020 μ := by exact .use) :
    Ev μ r (keyConfirm s a1) := by
  unfold keyConfirm
  repeat' with_reducible first
    | assumption | exact .inl .use | exact .inr rfl | exact Cov.use
    | (extract_lets +onlyGivenNames -underBinder s'; refine Ev.cut (m := μ) (r := r) (x := s') ?_ ?_
       all_goals first | (intro h'; clear_value s') | subst s')
    | (extract_lets +onlyGivenNames -underBinder x'; subst x')
    | (refine fun (h' : Ev _ _ _) => ?_) | apply peerRefuse_ev | apply setAttempt_ev | apply sessionOpen_ev | apply State.bump_ev | apply R.SEC_CNT_TAGFAIL_in
    | apply Ev.iteR | (apply Ev.fst; assumption) | (apply Ev.snd; assumption) | split | apply Ev.upd | apply Ev.updT | rfl

theorem keyTimeout_ev {μ : Nat} {r s : State} {peer : Nat} (h : Ev μ r s)
    (hm : Cov 0x4000000000000000000000000000000000000000000007e000000000000000000000000000000000000000022000011000000000000000000000003809026 μ := by exact .use) :
    Ev μ r (keyTimeout s peer) := by
  unfold keyTimeout
  repeat' with_reducible first
    | assumption | exact .inl .use | exact .inr rfl | exact Cov.use
    | (extract_lets +onlyGivenNames -underBinder s'; refine Ev.cut (m := μ) (r := r) (x := s') ?_ ?_
       all_goals first | (intro h'; clear_value s') | subst s')
    | (extract_lets +onlyGivenNames -underBinder x'; subst x')
    | (refine fun (h' : Ev _ _ _) => ?_) | apply State.runElapsed_ev | apply peerRefuse_ev | apply setAttempt_ev
    | apply Ev.iteR | (apply Ev.fst; assumption) | (apply Ev.snd; assumption) | split | apply Ev.upd | apply Ev.updT | rfl

theorem reassemblyTimeout_ev {μ : Nat} {r s : State} {peer : Nat} (h : Ev μ r s)
    (hm : Cov 0x4000000000000000000000000000000000000000000007e000000000000000000000000000000000000000022000011000000000000000000000003819026 μ := by exact .use) :
    Ev μ r (reassemblyTimeout s peer) := by
  unfold reassemblyTimeout
  repeat' with_reducible first
    | assumption | exact .inl .use | exact .inr rfl | exact Cov.use
    | (extract_lets +onlyGivenNames -underBinder s'; refine Ev.cut (m := μ) (r := r) (x := s') ?_ ?_
       all_goals first | (intro h'; clear_value s') | subst s')
    | (extract_lets +onlyGivenNames -underBinder x'; subst x')
    | (refine fun (h' : Ev _ _ _) => ?_) | apply State.runElapsed_ev | apply peerRefuse_ev | apply setAttempt_ev
    | apply Ev.iteR | (apply Ev.fst; assumption) | (apply Ev.snd; assumption) | split | apply Ev.upd | apply Ev.updT | rfl

theorem sessionRekey_ev {μ : Nat} {r s : State} {peer : Nat} (h : Ev μ r s)
    (hm : Cov 0x4000000000000000000000000000000000000000000007e000000000000000000000000000000000000000022000011000000000000000000000003819026 μ := by exact .use) :
    Ev μ r (sessionRekey s peer) := by
  unfold sessionRekey
  repeat' with_reducible first
    | assumption | exact .inl .use | exact .inr rfl | exact Cov.use
    | (refine fun (h' : Ev _ _ _) => ?_) | apply attemptStart_ev | apply State.runElapsed_ev
    | apply Ev.iteR | (apply Ev.fst; assumption) | (apply Ev.snd; assumption) | split | apply Ev.upd | apply Ev.updT | rfl

theorem oldExpiry_ev {μ : Nat} {r s : State} {peer : Nat} (h : Ev μ r s)
    (hm : Cov 0x4000000000200000000000000000000000000000000007e000000000000000000000000000000000000000022000011000000000000000000000003809026 μ := by exact .use) :
    Ev μ r (oldExpiry s peer) := by
  unfold oldExpiry
  repeat' with_reducible first
    | assumption | exact .inl .use | exact .inr rfl | exact Cov.use
    | (extract_lets +onlyGivenNames -underBinder s'; refine Ev.cut (m := μ) (r := r) (x := s') ?_ ?_
       all_goals first | (intro h'; clear_value s') | subst s')
    | (extract_lets +onlyGivenNames -underBinder x'; subst x')
    | (refine fun (h' : Ev _ _ _) => ?_) | (intro a hab) | apply State.runElapsed_ev | apply sessionsClose_ev
    | apply Ev.iteR | (apply Ev.fst; assumption) | (apply Ev.snd; assumption) | split | apply Ev.upd | apply Ev.updT | rfl

theorem messageIn_ev {μ : Nat} {r s : State} {port : Nat} {plain : Bytes} (h : Ev μ r s)
    (hm : Cov 0x8000000000000000000000000000000000000000000000000000000000000000000000000000000000000000000000000000000000000000000000000000000810000 μ := by exact .use) :
    Ev μ r (messageIn s port plain) := by
  unfold messageIn
  repeat' with_reducible first
    | assumption | exact .inl .use | exact .inr rfl | exact Cov.use
    | (extract_lets +onlyGivenNames -underBinder s'; refine Ev.cut (m := μ) (r := r) (x := s') ?_ ?_
       all_goals first | (intro h'; clear_value s') | subst s')
    | (extract_lets +onlyGivenNames -underBinder x'; subst x')
    | (refine fun (h' : Ev _ _ _) => ?_) | apply State.bump_ev | apply R.LK_SPn_CNT_DUP_in
    | apply Ev.iteR | (apply Ev.fst; assumption) | (apply Ev.snd; assumption) | split | apply Ev.upd | apply Ev.updT | rfl

theorem sessionFrame_ev {μ : Nat} {r s : State} {f : SessionFrame} (h : Ev μ r s)
    (hm : Cov 0x8000200000000000001800000000000000000000000000000000000000000000000000000000000000000000000000000000000000000000000000000000000818000 μ := by exact .use) :
    Ev μ r (sessionFrame s f) := by
  unfold sessionFrame
  repeat' with_reducible first
    | assumption | exact .inl .use | exact .inr rfl | exact Cov.use
    | (extract_lets +onlyGivenNames -underBinder s'; refine Ev.cut (m := μ) (r := r) (x := s') ?_ ?_
       all_goals first | (intro h'; clear_value s') | subst s')
    | (extract_lets +onlyGivenNames -underBinder x'; subst x')
    | (refine fun (h' : Ev _ _ _) => ?_) | (intro a hab) | apply State.bump_ev | apply messageIn_ev | apply R.LK_SPn_CNT_DUP_in | apply R.LK_TWIN_CNT_TAGFAIL_in | apply R.SEC_CNT_REPLAY_in | apply R.SEC_CNT_TAGFAIL_in
    | apply Ev.iteR | (apply Ev.fst; assumption) | (apply Ev.snd; assumption) | split | apply Ev.upd | apply Ev.updT | rfl

theorem takeMessage_ev {μ : Nat} {r s : State} {m : SiteMessage} {mtype : Nat} {act : State → State} (ha : ∀ x, Ev μ r x → Ev μ r (act x)) (h : Ev μ r s) (hm : Cov 0x10000 μ := by exact .use) :
    Ev μ r (takeMessage s m mtype act) := by
  unfold takeMessage
  split
  · exact ha _ (Ev.upd h rfl rfl)
  · exact h

theorem siteCommand_ev {μ : Nat} {r s : State} {m : SiteMessage} (h : Ev μ r s) (hm : Cov 0x7e00000000000000000000000000000000000000008000000000000620100000000000000383a020 μ := by exact .use) : Ev μ r (siteCommand s m) :=
  takeMessage_ev (fun x hx => by
    dsimp only
    split
    · exact deadLetter_ev hx
    · exact acceptEnter_ev hx) h

theorem siteDeadLetter_ev {μ : Nat} {r s : State} {m : SiteMessage} (h : Ev μ r s) (hm : Cov 0x10000 μ := by exact .use) : Ev μ r (siteDeadLetter s m) := takeMessage_ev (fun _ hx => hx) h

theorem siteData_ev {μ : Nat} {r s : State} {m : SiteMessage} (h : Ev μ r s) (hm : Cov 0x7e000000000000000000000000000000000000000000000000000000000000000000000001810020 μ := by exact .use) : Ev μ r (siteData s m) := takeMessage_ev (fun _ hx => postHw_ev hx) h

theorem broadcast_ev {μ : Nat} {r s : State} {b : BroadcastRec} (h : Ev μ r s)
    (hm : Cov 0x4000000000000000000000000000000000000000000007e00000000000000000000000000000000000000008000000000000620100000000000000383a020 μ := by exact .use) :
    Ev μ r (broadcast s b) := by
  unfold broadcast
  repeat' with_reducible first
    | assumption | exact .inl .use | exact .inr rfl | exact Cov.use
    | (extract_lets +onlyGivenNames -underBinder s'; refine Ev.cut (m := μ) (r := r) (x := s') ?_ ?_
       all_goals first | (intro h'; clear_value s') | subst s')
    | (extract_lets +onlyGivenNames -underBinder x'; subst x')
    | (refine fun (h' : Ev _ _ _) => ?_) | apply acceptEnter_ev | apply peerRefuse_ev
    | apply Ev.iteR | (apply Ev.fst; assumption) | (apply Ev.snd; assumption) | split | apply Ev.upd | apply Ev.updT | rfl

theorem frankReqIn_ev {μ : Nat} {r s : State} {f : FrankReq} (h : Ev μ r s) (hm : Cov 0x400000004008000000000000000000000000000000000000000007e000000000000000000000000000000000000000000000000000000000000000000000003818020 μ := by exact .use) : Ev μ r (frankReqIn s f) := siteMessageIn_ev (fun _ hx => frankReq_ev hx) h

theorem frankRepIn_ev {μ : Nat} {r s : State} {f : FrankRep} (h : Ev μ r s) (hm : Cov 0x400000004000000000000000000000000000000000000000000007e000000000000000000000000000000000000000000000000000000000000000000000003818020 μ := by exact .use) : Ev μ r (frankRepIn s f) := siteMessageIn_ev (fun _ hx => frankRep_ev hx) h

theorem keyTransportIn_ev {μ : Nat} {r s : State} {m : KeyMsg} (h : Ev μ r s) (hm : Cov 0x400000004000000000200000000000000000000000000000000007e000000000000000000000000000000000000000000000000000000000000000000000003818020 μ := by exact .use) : Ev μ r (keyTransportIn s m) := siteMessageIn_ev (fun _ hx => keyTransport_ev hx) h

theorem keyConfirmIn_ev {μ : Nat} {r s : State} {m : KeyMsg} (h : Ev μ r s) (hm : Cov 0x400000004000000000280000000000000000000000000000000007e000000000000000000000000000000000000000000000000000000000000000000000003808020 μ := by exact .use) : Ev μ r (keyConfirmIn s m) := siteTake_ev (fun _ hx => keyConfirm_ev hx) h

theorem sessionFrameIn_ev {μ : Nat} {r s : State} {f : SessionFrame} (h : Ev μ r s) (hm : Cov 0xc000200000000000001800000000000000000000000000000000000000000000000000000000000000000000000000000000000000000000000000000000000818000 μ := by exact .use) : Ev μ r (sessionFrameIn s f) := by
  unfold sessionFrameIn
  split
  · exact sessionFrame_ev h
  · exact siteTake_ev (fun _ hx => sessionFrame_ev hx) h

theorem broadcastIn_ev {μ : Nat} {r s : State} {b : BroadcastRec} (h : Ev μ r s) (hm : Cov 0x400000004000000000000000000000000000000000000000000007e00000000000000000000000000000000000000008000000000000620100000000000000383a020 μ := by exact .use) : Ev μ r (broadcastIn s b) := siteTake_ev (fun _ hx => broadcast_ev hx) h

theorem testBegin_ev {μ : Nat} {r s : State} {kind : Nat} (h : Ev μ r s)
    (hm : Cov 0x440000000001000003001000000000000000000000000000000000000080000008012b0 μ := by exact .use) :
    Ev μ r (testBegin s kind) := by
  unfold testBegin
  repeat' with_reducible first
    | assumption | exact .inl .use | exact .inr rfl | exact Cov.use
    | (extract_lets +onlyGivenNames -underBinder s'; refine Ev.cut (m := μ) (r := r) (x := s') ?_ ?_
       all_goals first | (intro h'; clear_value s') | subst s')
    | (extract_lets +onlyGivenNames -underBinder x'; subst x')
    | (refine fun (h' : Ev _ _ _) => ?_) | apply State.put_ev | apply calSuspend_ev | apply holdAll_ev | apply fabricHalt_ev | apply R.NODE_TEST_RUNNING_in
    | apply Ev.iteR | split | apply Ev.upd | apply Ev.updT | rfl

theorem testBusy_ev {μ : Nat} {r s : State} {code : Nat} (h : Ev μ r s)
    (hm : Cov 0x10000000000000 μ := by exact .use) :
    Ev μ r (testBusy s code) := by
  unfold testBusy
  repeat' with_reducible first
    | assumption | exact .inl .use | exact .inr rfl | exact Cov.use
    | (refine fun (h' : Ev _ _ _) => ?_) | apply State.put_ev | apply R.NODE_TEST_RESULT_in
    | apply Ev.iteR | split | apply Ev.upd | apply Ev.updT | rfl

theorem testRequest_ev {μ : Nat} {r s : State} {kind : Nat} (h : Ev μ r s)
    (hm : Cov 0x440000000001000003001000000000000000000000000000000000000180000008012b0 μ := by exact .use) :
    Ev μ r (testRequest s kind) := by
  unfold testRequest
  repeat' with_reducible first
    | assumption | exact .inl .use | exact .inr rfl | exact Cov.use
    | (extract_lets +onlyGivenNames -underBinder s'; refine Ev.cut (m := μ) (r := r) (x := s') ?_ ?_
       all_goals first | (intro h'; clear_value s') | subst s')
    | (extract_lets +onlyGivenNames -underBinder x'; subst x')
    | (refine fun (h' : Ev _ _ _) => ?_) | apply testBusy_ev | apply testBegin_ev
    | apply Ev.iteR | split | apply Ev.upd | apply Ev.updT | rfl

theorem testWrite_ev {μ : Nat} {r s : State} {v : Nat} (h : Ev μ r s)
    (hm : Cov 0x440000000001000003001000000000000000000000000000000000000180000008012b0 μ := by exact .use) :
    Ev μ r (testWrite s v) := by
  unfold testWrite
  repeat' with_reducible first
    | assumption | exact .inl .use | exact .inr rfl | exact Cov.use
    | (refine fun (h' : Ev _ _ _) => ?_) | apply testRequest_ev
    | apply Ev.iteR | split | apply Ev.upd | apply Ev.updT | rfl

theorem testDone_ev {μ : Nat} {r s : State} {pass : Bool} {unit : Nat} (h : Ev μ r s)
    (hm : Cov 0x4000000000000000000000000000000000000000000007e0000000000000000000000000000800000000000220000110000060811000000380000038392b6 μ := by exact .use) :
    Ev μ r (testDone s pass unit) := by
  unfold testDone
  repeat' with_reducible first
    | assumption | exact .inl .use | exact .inr rfl | exact Cov.use
    | (extract_lets +onlyGivenNames -underBinder s'; refine Ev.cut (m := μ) (r := r) (x := s') ?_ ?_
       all_goals first | (intro h'; clear_value s') | subst s')
    | (extract_lets +onlyGivenNames -underBinder x'; subst x')
    | (refine fun (h' : Ev _ _ _) => ?_) | apply State.runElapsed_ev | apply State.put_ev | apply senseResume_ev | apply setRole_ev | apply twinEnvelope_ev | apply State.mark_ev | apply R.NODE_TEST_FAILUNIT_in | apply R.NODE_TEST_RESULT_in | apply R.NODE_TEST_RUNNING_in | apply R.NODE_TWIN_STAT_TEST_FAIL_in
    | apply Ev.iteR | (apply Ev.fst; assumption) | (apply Ev.snd; assumption) | split | apply Ev.upd | apply Ev.updT | rfl

theorem setPartnerRole_ev {μ : Nat} {r s : State} {role : Nat} (h : Ev μ r s)
    (hm : Cov 0x20000 μ := by exact .use) :
    Ev μ r (setPartnerRole s role) := by
  unfold setPartnerRole
  repeat' with_reducible first
    | assumption | exact .inl .use | exact .inr rfl | exact Cov.use
    | (refine fun (h' : Ev _ _ _) => ?_) | (intro a hab)
    | apply Ev.iteR | split | apply Ev.upd | apply Ev.updT | rfl

theorem pairIdentity_ev {μ : Nat} {r s : State} {p : Partner} (h : Ev μ r s)
    (hm : Cov 0x38000040000 μ := by exact .use) :
    Ev μ r (pairIdentity s p) := by
  unfold pairIdentity
  repeat' with_reducible first
    | assumption | exact .inl .use | exact .inr rfl | exact Cov.use
    | (extract_lets +onlyGivenNames -underBinder s'; refine Ev.cut (m := μ) (r := r) (x := s') ?_ ?_
       all_goals first | (intro h'; clear_value s') | subst s')
    | (extract_lets +onlyGivenNames -underBinder x'; subst x')
    | (refine fun (h' : Ev _ _ _) => ?_) | apply State.put_ev | apply R.NODE_PAIR_PAIR_ID_in | apply R.NODE_PAIR_PAIR_VALID_in | apply R.NODE_PAIR_PARTNER_in
    | apply Ev.iteR | split | apply Ev.upd | apply Ev.updT | rfl

theorem syncRequest_ev {μ : Nat} {r s : State} (h : Ev μ r s)
    (hm : Cov 0x2021000 μ := by exact .use) :
    Ev μ r (syncRequest s) := by
  unfold syncRequest
  repeat' with_reducible first
    | assumption | exact .inl .use | exact .inr rfl | exact Cov.use
    | (extract_lets +onlyGivenNames -underBinder s'; refine Ev.cut (m := μ) (r := r) (x := s') ?_ ?_
       all_goals first | (intro h'; clear_value s') | subst s')
    | (extract_lets +onlyGivenNames -underBinder x'; subst x')
    | (refine fun (h' : Ev _ _ _) => ?_) | apply State.send_ev
    | apply Ev.iteR | (apply Ev.fst; assumption) | (apply Ev.snd; assumption) | split | apply Ev.upd | apply Ev.updT | rfl

theorem enterSyncing_ev {μ : Nat} {r s : State} (h : Ev μ r s)
    (hm : Cov 0x4000000000000000000000000000000000000000000007e0000000000000000000000000000800000000000000000000000060019000000000000038390a0 μ := by exact .use) :
    Ev μ r (enterSyncing s) := by
  unfold enterSyncing
  repeat' with_reducible first
    | assumption | exact .inl .use | exact .inr rfl | exact Cov.use
    | (extract_lets +onlyGivenNames -underBinder s'; refine Ev.cut (m := μ) (r := r) (x := s') ?_ ?_
       all_goals first | (intro h'; clear_value s') | subst s')
    | (extract_lets +onlyGivenNames -underBinder x'; subst x')
    | (refine fun (h' : Ev _ _ _) => ?_) | apply setRole_ev | apply syncRequest_ev | apply State.put_ev | apply R.NODE_TWIN_STAT_DIVERGED_in
    | apply Ev.iteR | split | apply Ev.upd | apply Ev.updT | rfl

theorem syncFail_ev {μ : Nat} {r s : State} (h : Ev μ r s)
    (hm : Cov 0x4000000000000000000000000000000000000000000007e0000000000000000000000000000800000000000000000000000060011000000000000038390a0 μ := by exact .use) :
    Ev μ r (syncFail s) := by
  unfold syncFail
  repeat' with_reducible first
    | assumption | exact .inl .use | exact .inr rfl | exact Cov.use
    | (refine fun (h' : Ev _ _ _) => ?_) | apply syncRequest_ev | apply setRole_ev
    | apply Ev.iteR | split | apply Ev.upd | apply Ev.updT | rfl

theorem pairForm_ev {μ : Nat} {r s : State} {p : Partner} (h : Ev μ r s)
    (hm : Cov 0x4000000000000000000000000000000000000000000007e0000000000000000000000000000800000000000000000000000060039000000000380038790a0 μ := by exact .use) :
    Ev μ r (pairForm s p) := by
  unfold pairForm
  repeat' with_reducible first
    | assumption | exact .inl .use | exact .inr rfl | exact Cov.use
    | (extract_lets +onlyGivenNames -underBinder s'; refine Ev.cut (m := μ) (r := r) (x := s') ?_ ?_
       all_goals first | (intro h'; clear_value s') | subst s')
    | (extract_lets +onlyGivenNames -underBinder x'; subst x')
    | (refine fun (h' : Ev _ _ _) => ?_) | apply pairIdentity_ev | apply State.put_ev | apply setRole_ev | apply enterSyncing_ev | apply R.NODE_TWIN_STAT_REFUSE_in
    | apply Ev.iteR | split | apply Ev.upd | apply Ev.updT | rfl

theorem twinSession_ev {μ : Nat} {r s : State} {p : Partner} (h : Ev μ r s)
    (hm : Cov 0x1008000 μ := by exact .use) :
    Ev μ r (twinSession s p) := by
  unfold twinSession
  repeat' with_reducible first
    | assumption | exact .inl .use | exact .inr rfl | exact Cov.use
    | (extract_lets +onlyGivenNames -underBinder s'; refine Ev.cut (m := μ) (r := r) (x := s') ?_ ?_
       all_goals first | (intro h'; clear_value s') | subst s')
    | (extract_lets +onlyGivenNames -underBinder x'; subst x')
    | (refine fun (h' : Ev _ _ _) => ?_) | (intro a hab) | apply State.freshBytes_ev | apply State.freshNat_ev
    | apply Ev.iteR | (apply Ev.fst; assumption) | (apply Ev.snd; assumption) | split | apply Ev.upd | apply Ev.updT | rfl

theorem twinBlock_ev {μ : Nat} {r s : State} {v : Nat} (h : Ev μ r s)
    (hm : Cov 0x40010000000000000000000000000000000000000000000000000000000000000000000000000000000000000000000000000000000000000000000000000000 μ := by exact .use) :
    Ev μ r (twinBlock s v) := by
  unfold twinBlock
  repeat' with_reducible first
    | assumption | exact .inl .use | exact .inr rfl | exact Cov.use
    | (refine fun (h' : Ev _ _ _) => ?_) | apply State.put_ev | apply R.LK_STATUS_TWIN_UP_in | apply R.LK_TWIN_STAT_BLOCK_in
    | apply Ev.iteR | split | apply Ev.upd | apply Ev.updT | rfl

theorem hello_ev {μ : Nat} {r s : State} {p : Partner} (h : Ev μ r s)
    (hm : Cov 0xc005000000000000000000000000000000000000000000007e000000000000000000000000000080000000000000000000000006003f000000000380038790a0 μ := by exact .use) :
    Ev μ r (hello s p) := by
  unfold hello
  repeat' with_reducible first
    | assumption | exact .inl .use | exact .inr rfl | exact Cov.use
    | (extract_lets +onlyGivenNames -underBinder s'; refine Ev.cut (m := μ) (r := r) (x := s') ?_ ?_
       all_goals first | (intro h'; clear_value s') | subst s')
    | (extract_lets +onlyGivenNames -underBinder x'; subst x')
    | (refine fun (h' : Ev _ _ _) => ?_) | apply State.put_ev | apply twinBlock_ev | apply twinSession_ev | apply pairForm_ev | apply R.LK_TWIN_STAT_SESSION_in | apply R.NODE_TWIN_STAT_LINK_in | apply R.NODE_TWIN_STAT_SILENT_in
    | apply Ev.iteR | split | apply Ev.upd | apply Ev.updT | rfl

theorem hashMismatch_ev {μ : Nat} {r s : State} {j : Nat} (h : Ev μ r s)
    (hm : Cov 0x4000000000000000000000000000000000000000000007e00000000000000000000000000008000000000000000000000001e8091000000000000038390a0 μ := by exact .use) :
    Ev μ r (hashMismatch s j) := by
  unfold hashMismatch
  repeat' with_reducible first
    | assumption | exact .inl .use | exact .inr rfl | exact Cov.use
    | (extract_lets +onlyGivenNames -underBinder s'; refine Ev.cut (m := μ) (r := r) (x := s') ?_ ?_
       all_goals first | (intro h'; clear_value s') | subst s')
    | (extract_lets +onlyGivenNames -underBinder x'; subst x')
    | (refine fun (h' : Ev _ _ _) => ?_) | apply State.putPair_ev | apply State.bump_ev | apply State.mark_ev | apply syncFail_ev | apply R.NODE_TWIN_CNT_MISM_in | apply R.NODE_TWIN_MISK_HI_K_in | apply R.NODE_TWIN_MISK_LO_K_in | apply R.NODE_TWIN_STAT_HASH_MISMATCH_in
    | apply Ev.iteR | split | apply Ev.upd | apply Ev.updT | rfl

theorem hashCompare_ev {μ : Nat} {r s : State} {k : Nat} {a2 : Nat} (h : Ev μ r s)
    (hm : Cov 0x4000000000000000000000000000000000000000000007e00000000000000000000000000008000000000000000000000001e8091000000000000038390a0 μ := by exact .use) :
    Ev μ r (hashCompare s k a2) := by
  unfold hashCompare
  repeat' with_reducible first
    | assumption | exact .inl .use | exact .inr rfl | exact Cov.use
    | (extract_lets +onlyGivenNames -underBinder s'; refine Ev.cut (m := μ) (r := r) (x := s') ?_ ?_
       all_goals first | (intro h'; clear_value s') | subst s')
    | (extract_lets +onlyGivenNames -underBinder x'; subst x')
    | (refine fun (h' : Ev _ _ _) => ?_) | apply setPartnerRole_ev | apply State.putPair_ev | apply State.bump_ev | apply State.mark_ev | apply hashMismatch_ev | apply R.NODE_TWIN_CNT_MISM_in | apply R.NODE_TWIN_MISK_HI_K_in | apply R.NODE_TWIN_MISK_LO_K_in | apply R.NODE_TWIN_STAT_HASH_MISMATCH_in
    | apply Ev.iteR | (apply Ev.fst; assumption) | (apply Ev.snd; assumption) | split | apply Ev.upd | apply Ev.updT | rfl

theorem hashReceived_ev {μ : Nat} {r s : State} {k : Nat} {a2 : Nat} (h : Ev μ r s)
    (hm : Cov 0x4000000000000000000000000000000000000000000007e00000000000000000000000000008000000000000000000000001e8091000000000000038390a0 μ := by exact .use) :
    Ev μ r (hashReceived s k a2) := by
  unfold hashReceived
  repeat' with_reducible first
    | assumption | exact .inl .use | exact .inr rfl | exact Cov.use
    | (refine fun (h' : Ev _ _ _) => ?_) | apply hashCompare_ev
    | apply Ev.iteR | split | apply Ev.upd | apply Ev.updT | rfl

theorem scrubFault_ev {μ : Nat} {r s : State} (h : Ev μ r s)
    (hm : Cov 0x2000000000000000000004000018000000000000000000600000000c1e384000007e0180001c400000000c0002003009c0000000000025000000001f260011000d40008800078b9bf0 μ := by exact .use) :
    Ev μ r (scrubFault s) := by
  unfold scrubFault
  repeat' with_reducible first
    | assumption | exact .inl .use | exact .inr rfl | exact Cov.use
    | (extract_lets +onlyGivenNames -underBinder s'; refine Ev.cut (m := μ) (r := r) (x := s') ?_ ?_
       all_goals first | (intro h'; clear_value s') | subst s')
    | (extract_lets +onlyGivenNames -underBinder x'; subst x')
    | (refine fun (h' : Ev _ _ _) => ?_) | apply State.freshNat_ev | apply fabricFault_ev
    | apply Ev.iteR | (apply Ev.fst; assumption) | (apply Ev.snd; assumption) | split | apply Ev.upd | apply Ev.updT | rfl

theorem unexplained_ev {μ : Nat} {r s : State} (h : Ev μ r s)
    (hm : Cov 0x10000000000000000820000 μ := by exact .use) :
    Ev μ r (unexplained s).1 := by
  unfold unexplained
  repeat' with_reducible first
    | assumption | exact .inl .use | exact .inr rfl | exact Cov.use
    | (extract_lets +onlyGivenNames -underBinder s'; refine Ev.cut (m := μ) (r := r) (x := s') ?_ ?_
       all_goals first | (intro h'; clear_value s') | subst s')
    | (extract_lets +onlyGivenNames -underBinder x'; subst x')
    | (refine fun (h' : Ev _ _ _) => ?_) | apply State.mark_ev | apply R.NODE_TWIN_STAT_UNEXPLAINED_in
    | apply Ev.iteR | (apply Ev.fst; assumption) | (apply Ev.snd; assumption) | split | apply Ev.upd | apply Ev.updT | rfl | apply Ev.pair1

theorem arbActive_ev {μ : Nat} {r s : State} {row : Nat} (h : Ev μ r s)
    (hm : Cov 0x2000000000000000000004000018000000000000000000600000000c1e384000007e0180001c400000000c0002003009c0000000000025000000001f260111000d40008800078b9bf0 μ := by exact .use) :
    Ev μ r (arbActive s row) := by
  unfold arbActive
  repeat' with_reducible first
    | assumption | exact .inl .use | exact .inr rfl | exact Cov.use
    | (extract_lets +onlyGivenNames -underBinder s'; refine Ev.cut (m := μ) (r := r) (x := s') ?_ ?_
       all_goals first | (intro h'; clear_value s') | subst s')
    | (extract_lets +onlyGivenNames -underBinder x'; subst x')
    | (refine fun (h' : Ev _ _ _) => ?_) | apply scrubFault_ev | apply setPartnerRole_ev | apply unexplained_ev | apply enterRecovery_ev
    | apply Ev.iteR | (apply Ev.fst; assumption) | (apply Ev.snd; assumption) | split | apply Ev.upd | apply Ev.updT | rfl

theorem arbPartner_ev {μ : Nat} {r s : State} {row : Nat} (h : Ev μ r s)
    (hm : Cov 0x2000000000000000000004000018000000000000000000600000000c1e384000007e0180001c400000000c0002003009c0000000000025000000001f260119000d40008800078b9bf0 μ := by exact .use) :
    Ev μ r (arbPartner s row) := by
  unfold arbPartner
  repeat' with_reducible first
    | assumption | exact .inl .use | exact .inr rfl | exact Cov.use
    | (extract_lets +onlyGivenNames -underBinder s'; refine Ev.cut (m := μ) (r := r) (x := s') ?_ ?_
       all_goals first | (intro h'; clear_value s') | subst s')
    | (extract_lets +onlyGivenNames -underBinder x'; subst x')
    | (refine fun (h' : Ev _ _ _) => ?_) | apply setRole_ev | apply scrubFault_ev | apply unexplained_ev | apply enterSyncing_ev
    | apply Ev.iteR | (apply Ev.fst; assumption) | (apply Ev.snd; assumption) | split | apply Ev.upd | apply Ev.updT | rfl

theorem arbitrationOutcome_ev {μ : Nat} {r s : State} {own : Bool} {partner : Bool} (h : Ev μ r s)
    (hm : Cov 0x2000000000000000000004000018000000000000000000600000000c1e384000007e0180001c400000000c0002003009c0000000000025000000001f260119000d40008800078b9bf0 μ := by exact .use) :
    Ev μ r (arbitrationOutcome s own partner) := by
  unfold arbitrationOutcome
  repeat' with_reducible first
    | assumption | exact .inl .use | exact .inr rfl | exact Cov.use
    | (extract_lets +onlyGivenNames -underBinder s'; refine Ev.cut (m := μ) (r := r) (x := s') ?_ ?_
       all_goals first | (intro h'; clear_value s') | subst s')
    | (extract_lets +onlyGivenNames -underBinder x'; subst x')
    | (refine fun (h' : Ev _ _ _) => ?_) | apply arbActive_ev | apply arbPartner_ev | apply twinEnvelope_ev
    | apply Ev.iteR | (apply Ev.fst; assumption) | (apply Ev.snd; assumption) | split | apply Ev.upd | apply Ev.updT | rfl

theorem bundleFrame_ev {μ : Nat} {r s : State} {im : Image} {b : Bundle} (h : Ev μ r s)
    (hm : Cov 0x2000100000000000000004000018000000000000000000600000007c00184000007e000180064004f8000c0002003009c0000000000374000000001f262011000d40008c00078f9bf0 μ := by exact .use) :
    Ev μ r (bundleFrame s im b) := by
  unfold bundleFrame
  repeat' with_reducible first
    | assumption | exact .inl .use | exact .inr rfl | exact Cov.use
    | (extract_lets +onlyGivenNames -underBinder s'; refine Ev.cut (m := μ) (r := r) (x := s') ?_ ?_
       all_goals first | (intro h'; clear_value s') | subst s')
    | (extract_lets +onlyGivenNames -underBinder x'; subst x')
    | (refine fun (h' : Ev _ _ _) => ?_) | (intro a hab) | apply closeSet_ev | apply ownTargets_ev | apply resampledIn_ev | apply evaluateFrame_ev
    | apply Ev.iteR | (apply Ev.fst; assumption) | (apply Ev.snd; assumption) | split | apply Ev.upd | apply Ev.updT | rfl

theorem senseCompare_ev {μ : Nat} {r s : State} {im : Image} {b : Bundle} (h : Ev μ r s)
    (hm : Cov 0x4000000000000000000000000000000000000000000007e000000000000000000000000000000000000000000000000000001020000000000000003820020 μ := by exact .use) :
    Ev μ r (senseCompare s im b) := by
  unfold senseCompare
  repeat' with_reducible first
    | assumption | exact .inl .use | exact .inr rfl | exact Cov.use
    | (extract_lets +onlyGivenNames -underBinder s'; refine Ev.cut (m := μ) (r := r) (x := s') ?_ ?_
       all_goals first | (intro h'; clear_value s') | subst s')
    | (extract_lets +onlyGivenNames -underBinder x'; subst x')
    | (refine fun (h' : Ev _ _ _) => ?_) | (intro a b hab) | (intro a hab) | apply State.put_ev | apply State.mark_ev | apply twinEnvelope_ev | apply R.NODE_TWIN_CNT_SDCH_in | apply R.NODE_TWIN_STAT_SENSE_DISAGREE_in
    | apply Ev.iteR | apply Ev.foldl | (apply Ev.fst; assumption) | (apply Ev.snd; assumption) | split | apply Ev.upd | apply Ev.updT | rfl

theorem bundleTake_ev {μ : Nat} {r s : State} {im : Image} {b : Bundle} (h : Ev μ r s)
    (hm : Cov 0x2000100000000000040004000018000000000000000000600000007c00184000007e000180064004f8000c0002003009c0000000000374000000001f3fa299000d40008c00078f9bf0 μ := by exact .use) :
    Ev μ r (bundleTake s im b) := by
  unfold bundleTake
  repeat' with_reducible first
    | assumption | exact .inl .use | exact .inr rfl | exact Cov.use
    | (extract_lets +onlyGivenNames -underBinder s'; refine Ev.cut (m := μ) (r := r) (x := s') ?_ ?_
       all_goals first | (intro h'; clear_value s') | subst s')
    | (extract_lets +onlyGivenNames -underBinder x'; subst x')
    | (refine fun (h' : Ev _ _ _) => ?_) | apply enterSyncing_ev | apply syncFail_ev | apply State.bump_ev | apply State.send_ev | apply senseCompare_ev | apply hashCompare_ev | apply bundleFrame_ev | apply R.LK_TWIN_CNT_LATE_in
    | apply Ev.iteR | (apply Ev.fst; assumption) | (apply Ev.snd; assumption) | split | apply Ev.upd | apply Ev.updT | rfl

theorem bundleReceived_ev {μ : Nat} {r s : State} {b : Bundle} (h : Ev μ r s)
    (hm : Cov 0x2000100000000000040004000018000000000000000000600000007c00184000007e000180064004f8000c0002003009c0000000000374000000001f3fa299000d40008c00078f9bf0 μ := by exact .use) :
    Ev μ r (bundleReceived s b) := by
  unfold bundleReceived
  repeat' with_reducible first
    | assumption | exact .inl .use | exact .inr rfl | exact Cov.use
    | (refine fun (h' : Ev _ _ _) => ?_) | apply bundleTake_ev
    | apply Ev.iteR | (apply Ev.fst; assumption) | (apply Ev.snd; assumption) | split | apply Ev.upd | apply Ev.updT | rfl

theorem cmdReceived_ev {μ : Nat} {r s : State} {k : Nat} {c : Command} (h : Ev μ r s)
    (hm : Cov 0x2000100000000000040004000018000000000000000000600000007c00184000007e000180064004f8000c0002003009c0000000000374000000001f3fa299000d40008c00078f9bf0 μ := by exact .use) :
    Ev μ r (cmdReceived s k c) := by
  unfold cmdReceived
  repeat' with_reducible first
    | assumption | exact .inl .use | exact .inr rfl | exact Cov.use
    | (extract_lets +onlyGivenNames -underBinder s'; refine Ev.cut (m := μ) (r := r) (x := s') ?_ ?_
       all_goals first | (intro h'; clear_value s') | subst s')
    | (extract_lets +onlyGivenNames -underBinder x'; subst x')
    | (refine fun (h' : Ev _ _ _) => ?_) | apply bundleTake_ev
    | apply Ev.iteR | (apply Ev.fst; assumption) | (apply Ev.snd; assumption) | split | apply Ev.upd | apply Ev.updT | rfl

theorem bundleMissed_ev {μ : Nat} {r s : State} (h : Ev μ r s)
    (hm : Cov 0x100000000000000004000000000000000000000000600000000000000000007e00018002000000000c000000300100000000000376000011001f266018000d40000000078793e6 μ := by exact .use) :
    Ev μ r (bundleMissed s) := by
  unfold bundleMissed
  repeat' with_reducible first
    | assumption | exact .inl .use | exact .inr rfl | exact Cov.use
    | (refine fun (h' : Ev _ _ _) => ?_) | apply missedBundle_ev | apply State.runTo_ev
    | apply Ev.iteR | (apply Ev.fst; assumption) | (apply Ev.snd; assumption) | split | apply Ev.upd | apply Ev.updT | rfl

theorem handover_ev {μ : Nat} {r s : State} (h : Ev μ r s)
    (hm : Cov 0x4000000000000000000000000000000000000000000007e0000000000000000000000000000800000000000000000000000060031000000000000038380a0 μ := by exact .use) :
    Ev μ r (handover s) := by
  unfold handover
  repeat' with_reducible first
    | assumption | exact .inl .use | exact .inr rfl | exact Cov.use
    | (refine fun (h' : Ev _ _ _) => ?_) | apply setPartnerRole_ev | apply setRole_ev | apply State.send_ev | apply State.put_ev | apply R.NODE_TWIN_STAT_REFUSE_in
    | apply Ev.iteR | split | apply Ev.upd | apply Ev.updT | rfl

theorem twinSteerEnd_ev {μ : Nat} {r s : State} (h : Ev μ r s) (hm : Cov 0x4000000000000000000000000000000000000000000000000000000000000000000000000000000000000002202001d000000000000000000000002801002 μ := by exact .use) : Ev μ r (twinSteerEnd s) :=
  Ev.updT (sourceLost_ev h) rfl rfl

theorem handoverReceived_ev {μ : Nat} {r s : State} (h : Ev μ r s)
    (hm : Cov 0x4000000000000000000000000000000000000000000007e00000000000000000000000000008000000000002202001d0000060011000000000000038390a2 μ := by exact .use) :
    Ev μ r (handoverReceived s) := by
  unfold handoverReceived
  repeat' with_reducible first
    | assumption | exact .inl .use | exact .inr rfl | exact Cov.use
    | (extract_lets +onlyGivenNames -underBinder s'; refine Ev.cut (m := μ) (r := r) (x := s') ?_ ?_
       all_goals first | (intro h'; clear_value s') | subst s')
    | (extract_lets +onlyGivenNames -underBinder x'; subst x')
    | (refine fun (h' : Ev _ _ _) => ?_) | apply State.freshNat_ev | apply setPartnerRole_ev | apply setRole_ev | apply twinSteerEnd_ev | apply State.send_ev
    | apply Ev.iteR | (apply Ev.fst; assumption) | (apply Ev.snd; assumption) | split | apply Ev.upd | apply Ev.updT | rfl

theorem flushMirrors_ev {μ : Nat} {r s : State} (h : Ev μ r s)
    (hm : Cov 0x2038000 μ := by exact .use) :
    Ev μ r (flushMirrors s) := by
  unfold flushMirrors
  repeat' with_reducible first
    | assumption | exact .inl .use | exact .inr rfl | exact Cov.use
    | (extract_lets +onlyGivenNames -underBinder s'; refine Ev.cut (m := μ) (r := r) (x := s') ?_ ?_
       all_goals first | (intro h'; clear_value s') | subst s')
    | (extract_lets +onlyGivenNames -underBinder x'; subst x')
    | (refine fun (h' : Ev _ _ _) => ?_) | (intro a b hab) | (intro a hab) | apply siteSend_ev
    | apply Ev.iteR | apply Ev.foldl | split | apply Ev.upd | apply Ev.updT | rfl

theorem linkLoss_ev {μ : Nat} {r s : State} (h : Ev μ r s)
    (hm : Cov 0x4005000000000000000000000000000000000000000000007e0000000000000000000000000000800000000000000000000000060053000000000000038390a0 μ := by exact .use) :
    Ev μ r (linkLoss s) := by
  unfold linkLoss
  repeat' with_reducible first
    | assumption | exact .inl .use | exact .inr rfl | exact Cov.use
    | (extract_lets +onlyGivenNames -underBinder s'; refine Ev.cut (m := μ) (r := r) (x := s') ?_ ?_
       all_goals first | (intro h'; clear_value s') | subst s')
    | (extract_lets +onlyGivenNames -underBinder x'; subst x')
    | (refine fun (h' : Ev _ _ _) => ?_) | apply State.mark_ev | apply State.put_ev | apply twinBlock_ev | apply State.freshNat_ev | apply flushMirrors_ev | apply setRole_ev | apply twinEnvelope_ev | apply R.NODE_TWIN_STAT_LINK_in | apply R.NODE_TWIN_STAT_LINK_DOWN_in
    | apply Ev.iteR | split | apply Ev.upd | apply Ev.updT | rfl

theorem linkReturns_ev {μ : Nat} {r s : State} (h : Ev μ r s)
    (hm : Cov 0x4005000000000000000000000000000000000000000000007e000000000000000000000000000080000000000000000000000006003f000000000380038790a0 μ := by exact .use) :
    Ev μ r (linkReturns s) := by
  unfold linkReturns
  repeat' with_reducible first
    | assumption | exact .inl .use | exact .inr rfl | exact Cov.use
    | (extract_lets +onlyGivenNames -underBinder s'; refine Ev.cut (m := μ) (r := r) (x := s') ?_ ?_
       all_goals first | (intro h'; clear_value s') | subst s')
    | (extract_lets +onlyGivenNames -underBinder x'; subst x')
    | (refine fun (h' : Ev _ _ _) => ?_) | apply State.put_ev | apply twinBlock_ev | apply pairForm_ev | apply twinEnvelope_ev | apply R.NODE_TWIN_STAT_LINK_in | apply R.NODE_TWIN_STAT_SILENT_in
    | apply Ev.iteR | (apply Ev.fst; assumption) | (apply Ev.snd; assumption) | split | apply Ev.upd | apply Ev.updT | rfl

theorem takeover_ev {μ : Nat} {r s : State} (h : Ev μ r s)
    (hm : Cov 0x4000000000000000000000000000000000000000000007e00000000000000000000000000008000000000002202001d0000061015000000000000038390a2 μ := by exact .use) :
    Ev μ r (takeover s) := by
  unfold takeover
  repeat' with_reducible first
    | assumption | exact .inl .use | exact .inr rfl | exact Cov.use
    | (extract_lets +onlyGivenNames -underBinder s'; refine Ev.cut (m := μ) (r := r) (x := s') ?_ ?_
       all_goals first | (intro h'; clear_value s') | subst s')
    | (extract_lets +onlyGivenNames -underBinder x'; subst x')
    | (refine fun (h' : Ev _ _ _) => ?_) | apply State.mark_ev | apply State.put_ev | apply setRole_ev | apply twinSteerEnd_ev | apply twinEnvelope_ev | apply R.NODE_TWIN_STAT_SILENT_in | apply R.NODE_TWIN_STAT_TAKEOVER_in
    | apply Ev.iteR | split | apply Ev.upd | apply Ev.updT | rfl

theorem alone_ev {μ : Nat} {r s : State} (h : Ev μ r s)
    (hm : Cov 0x4000000000000000000000000000000000000000000007e0000000000000000000000000000800000000000000000000000060031000000000000038380a0 μ := by exact .use) :
    Ev μ r (alone s) := by
  unfold alone
  repeat' with_reducible first
    | assumption | exact .inl .use | exact .inr rfl | exact Cov.use
    | (extract_lets +onlyGivenNames -underBinder s'; refine Ev.cut (m := μ) (r := r) (x := s') ?_ ?_
       all_goals first | (intro h'; clear_value s') | subst s')
    | (extract_lets +onlyGivenNames -underBinder x'; subst x')
    | (refine fun (h' : Ev _ _ _) => ?_) | apply State.freshNat_ev | apply setRole_ev | apply State.put_ev | apply R.NODE_TWIN_STAT_REFUSE_in
    | apply Ev.iteR | (apply Ev.fst; assumption) | (apply Ev.snd; assumption) | split | apply Ev.upd | apply Ev.updT | rfl

theorem rejoin_ev {μ : Nat} {r s : State} (h : Ev μ r s)
    (hm : Cov 0x4000000000000000000000000000000000000000000007e0000000000000000000000000000800000000000000000000000060019000000000000038390a0 μ := by exact .use) :
    Ev μ r (rejoin s) := by
  unfold rejoin
  repeat' with_reducible first
    | assumption | exact .inl .use | exact .inr rfl | exact Cov.use
    | (refine fun (h' : Ev _ _ _) => ?_) | apply enterSyncing_ev
    | apply Ev.iteR | split | apply Ev.upd | apply Ev.updT | rfl

theorem mirror_ev {μ : Nat} {r s : State} {seq : Nat} {origin : Nat} {msg : Bytes} (h : Ev μ r s)
    (hm : Cov 0x2038000 μ := by exact .use) :
    Ev μ r (mirror s seq origin msg) := by
  unfold mirror
  repeat' with_reducible first
    | assumption | exact .inl .use | exact .inr rfl | exact Cov.use
    | (extract_lets +onlyGivenNames -underBinder s'; refine Ev.cut (m := μ) (r := r) (x := s') ?_ ?_
       all_goals first | (intro h'; clear_value s') | subst s')
    | (extract_lets +onlyGivenNames -underBinder x'; subst x')
    | (refine fun (h' : Ev _ _ _) => ?_) | (intro a hab) | apply siteSend_ev | apply State.send_ev
    | apply Ev.iteR | split | apply Ev.upd | apply Ev.updT | rfl

theorem mirrorSend_ev {μ : Nat} {r s : State} {seq : Nat} (h : Ev μ r s)
    (hm : Cov 0x2038000 μ := by exact .use) :
    Ev μ r (mirrorSend s seq) := by
  unfold mirrorSend
  repeat' with_reducible first
    | assumption | exact .inl .use | exact .inr rfl | exact Cov.use
    | (extract_lets +onlyGivenNames -underBinder s'; refine Ev.cut (m := μ) (r := r) (x := s') ?_ ?_
       all_goals first | (intro h'; clear_value s') | subst s')
    | (extract_lets +onlyGivenNames -underBinder x'; subst x')
    | (refine fun (h' : Ev _ _ _) => ?_) | (intro a hab) | apply siteSend_ev
    | apply Ev.iteR | (apply Ev.fst; assumption) | (apply Ev.snd; assumption) | split | apply Ev.upd | apply Ev.updT | rfl

theorem mirrorTimeout_ev {μ : Nat} {r s : State} {seq : Nat} (h : Ev μ r s)
    (hm : Cov 0x40000000000000000000000000000000000000000000000000000000000000000000000000000000000000022000011000000000000000000000002839006 μ := by exact .use) :
    Ev μ r (mirrorTimeout s seq) := by
  unfold mirrorTimeout
  repeat' with_reducible first
    | assumption | exact .inl .use | exact .inr rfl | exact Cov.use
    | (refine fun (h' : Ev _ _ _) => ?_) | apply mirrorSend_ev | apply State.runElapsed_ev
    | apply Ev.iteR | (apply Ev.fst; assumption) | (apply Ev.snd; assumption) | split | apply Ev.upd | apply Ev.updT | rfl

theorem resyncRequest_ev {μ : Nat} {r s : State} (h : Ev μ r s)
    (hm : Cov 0x20000 μ := by exact .use) :
    Ev μ r (resyncRequest s) := by
  unfold resyncRequest
  repeat' with_reducible first
    | assumption | exact .inl .use | exact .inr rfl | exact Cov.use
    | (refine fun (h' : Ev _ _ _) => ?_) | apply setPartnerRole_ev
    | apply Ev.iteR | (apply Ev.fst; assumption) | (apply Ev.snd; assumption) | split | apply Ev.upd | apply Ev.updT | rfl

theorem legResync_ev {μ : Nat} {r s : State} {a : LegAnchor} (h : Ev μ r s)
    (hm : Cov 0x3f000000000000000000000000000000000000000000000080 μ := by exact .use) :
    Ev μ r (legResync s a) := by
  unfold legResync
  repeat' with_reducible first
    | assumption | exact .inl .use | exact .inr rfl | exact Cov.use
    | (extract_lets +onlyGivenNames -underBinder s'; refine Ev.cut (m := μ) (r := r) (x := s') ?_ ?_
       all_goals first | (intro h'; clear_value s') | subst s')
    | (extract_lets +onlyGivenNames -underBinder x'; subst x')
    | (refine fun (h' : Ev _ _ _) => ?_) | (intro a hab) | apply State.put_ev | apply State.setLeg_ev | apply R.LEGn_DUTY_ACT_DUTY_in | apply R.LEGn_DUTY_DUTY_in | apply R.LEGn_PERIOD_ACT_PERIOD_in | apply R.LEGn_PERIOD_PERIOD_in | apply R.LEGn_PHASE_ACT_PHASE_in | apply R.LEGn_PHASE_PHASE_in
    | apply Ev.iteR | split | apply Ev.upd | apply Ev.updT | rfl

theorem runBuffered_ev {μ : Nat} {r s : State} {im : Image} {bs : List Bundle} (h : Ev μ r s) (hm : Cov 0x20001000000000000000040000180000000000000000007a0001f87c1e387000007e047fa0064004f8000c0002083089c7000000000374800000001f3ea091000d40008c00078fdbf0 μ := by exact .use) : Ev μ r (runBuffered im bs s) := by
  induction bs generalizing s with
  | nil => exact h
  | cons b bs ih =>
    have h1 : Ev μ r (hashCompare (completeFrame { s with fabric := { s.fabric with next := some b.k } } im) (b.k - 1) b.hash.toNat) :=
      hashCompare_ev (completeFrame_ev (Ev.upd h rfl rfl))
    unfold runBuffered
    dsimp only
    split
    · exact h1
    · exact ih (bundleFrame_ev (Ev.upd h1 rfl rfl))

theorem stateTransfer_ev {μ : Nat} {r s : State} {x : Transfer} (h : Ev μ r s)
    (hm : Cov 0x20001000000000000000040000180000000000000000007a0001f87c1e387000007e047fa0064004f8000c0002083089ff000000000374800000001f3ea091000d40008c00078fdbf0 μ := by exact .use) :
    Ev μ r (stateTransfer s x) := by
  unfold stateTransfer
  repeat' with_reducible first
    | assumption | exact .inl .use | exact .inr rfl | exact Cov.use
    | (extract_lets +onlyGivenNames -underBinder s'; refine Ev.cut (m := μ) (r := r) (x := s') ?_ ?_
       all_goals first | (intro h'; clear_value s') | subst s')
    | (extract_lets +onlyGivenNames -underBinder x'; subst x')
    | (refine fun (h' : Ev _ _ _) => ?_) | (intro a b hab) | (intro a hab) | apply ckpLoad_ev | apply State.put_ev | apply legResync_ev | apply runBuffered_ev | apply R.FAB_STATUS_RUN_in
    | apply Ev.iteR | apply Ev.foldl | (apply Ev.fst; assumption) | (apply Ev.snd; assumption) | split | apply Ev.upd | apply Ev.updT | rfl

theorem resyncComplete_ev {μ : Nat} {r s : State} (h : Ev μ r s)
    (hm : Cov 0x4000000000000000000000000000000000000000000007e0000000000000000000000000000800000000000000000000000060011000000000000038380a0 μ := by exact .use) :
    Ev μ r (resyncComplete s) := by
  unfold resyncComplete
  repeat' with_reducible first
    | assumption | exact .inl .use | exact .inr rfl | exact Cov.use
    | (refine fun (h' : Ev _ _ _) => ?_) | apply setRole_ev
    | apply Ev.iteR | (apply Ev.fst; assumption) | (apply Ev.snd; assumption) | split | apply Ev.upd | apply Ev.updT | rfl

theorem partnerLight_ev {μ : Nat} {r s : State} (h : Ev μ r s)
    (hm : Cov 0x400000000000000000000000000000000000000000000000000000440000000001000003001000000000000220000110000000000000000180000028212b6 μ := by exact .use) :
    Ev μ r (partnerLight s) := by
  unfold partnerLight
  repeat' with_reducible first
    | assumption | exact .inl .use | exact .inr rfl | exact Cov.use
    | (extract_lets +onlyGivenNames -underBinder s'; refine Ev.cut (m := μ) (r := r) (x := s') ?_ ?_
       all_goals first | (intro h'; clear_value s') | subst s')
    | (extract_lets +onlyGivenNames -underBinder x'; subst x')
    | (refine fun (h' : Ev _ _ _) => ?_) | apply State.runElapsed_ev | apply testRequest_ev
    | apply Ev.iteR | split | apply Ev.upd | apply Ev.updT | rfl

theorem forwarded_ev {μ : Nat} {r s : State} {c : Command} (h : Ev μ r s)
    (hm : Cov 0x7e00000000000000000000000000000000000000008000000000000620100000000000000383a020 μ := by exact .use) :
    Ev μ r (forwarded s c) := by
  unfold forwarded
  repeat' with_reducible first
    | assumption | exact .inl .use | exact .inr rfl | exact Cov.use
    | (refine fun (h' : Ev _ _ _) => ?_) | apply acceptEnter_ev
    | apply Ev.iteR | split | apply Ev.upd | apply Ev.updT | rfl

theorem twinTime_ev {μ : Nat} {r s : State} {offset : Int} (h : Ev μ r s)
    (hm : Cov 0x10004000000000000000000000000000000000000000000007e000000000087b0000000000000000000000000002203001f00000620100000000000000393f2a2 μ := by exact .use) :
    Ev μ r (twinTime s offset) := by
  unfold twinTime
  repeat' with_reducible first
    | assumption | exact .inl .use | exact .inr rfl | exact Cov.use
    | (refine fun (h' : Ev _ _ _) => ?_) | apply measurement_ev | apply State.put_ev | apply State.freshNat_ev | apply R.LK_TWIN_STAT_DELAY_in
    | apply Ev.iteR | split | apply Ev.upd | apply Ev.updT | rfl

end Sys2Proof.Machine
end

