-- ==== Sys2Proof/Laws/EvBlock.lean ====
section
/-!
SUPPORT. What each operation over State can do, said once: one lemma for each function of resets, power, axes, the clock and the links. The result is as sound as
the state it starts from, never before it, and differs from it only in the parts and registers of the set named (`mask` of Safety.lean).
-/
namespace Sys2Proof.Machine
set_option Elab.async false
set_option linter.all false

theorem regsOk_filter {m : Sparse Nat} {p : Nat × Nat → Bool} (h : regsOk m) : regsOk (m.filter p) :=
  ⟨srising_filter h.1, fun e he => h.2 e (List.mem_filter.1 he).1⟩

theorem regsReset_ev {μ : Nat} {r s : State} {k : Nat} (h : Ev μ r s) (hm : Cov 0x1 μ := by exact .use) : Ev μ r (regsReset s k) :=
  h.table (fun g => regsOk_filter g) fun _ => Or.inl (RegIn.any .use)

theorem officeReset_ev {μ : Nat} {r s : State} {keep : Bool} (h : Ev μ r s)
    (hm : Cov 0x20 μ := by exact .use) :
    Ev μ r (officeReset s keep) := by
  unfold officeReset
  repeat' with_reducible first
    | assumption | exact .inl .use | exact .inr rfl | exact Cov.use
    | (extract_lets +onlyGivenNames -underBinder s'; refine Ev.cut (m := μ) (r := r) (x := s') ?_ ?_
       all_goals first | (intro h'; clear_value s') | subst s')
    | (extract_lets +onlyGivenNames -underBinder x'; subst x')
    | (refine fun (h' : Ev _ _ _) => ?_)
    | apply Ev.iteR | split | apply Ev.upd | apply Ev.updT | rfl

theorem captureReset_ev {μ : Nat} {r s : State} {k : Bool} (h : Ev μ r s) (hm : Cov 0x4000040 μ := by exact .use) : Ev μ r (captureReset s k) := by
  refine h.memory (fun g => ?_)
  cases k
  · exact ⟨rfl, by simp [Capture.reset], rfl⟩
  · exact g

theorem contentsReset_ev {μ : Nat} {r s : State} {kind : Nat} (h : Ev μ r s)
    (hm : Cov 0x48bf7f8 μ := by exact .use) :
    Ev μ r (contentsReset s kind) := by
  unfold contentsReset
  repeat' with_reducible first
    | assumption | exact .inl .use | exact .inr rfl | exact Cov.use
    | (extract_lets +onlyGivenNames -underBinder s'; refine Ev.cut (m := μ) (r := r) (x := s') ?_ ?_
       all_goals first | (intro h'; clear_value s') | subst s')
    | (extract_lets +onlyGivenNames -underBinder x'; subst x')
    | (refine fun (h' : Ev _ _ _) => ?_) | apply captureReset_ev | apply officeReset_ev
    | apply Ev.iteR | split | apply Ev.upd | apply Ev.updT | rfl

theorem rootStops_ev {μ : Nat} {r s : State} (h : Ev μ r s)
    (hm : Cov 0x6 μ := by exact .use) :
    Ev μ r (rootStops s) := by
  unfold rootStops
  repeat' with_reducible first
    | assumption | exact .inl .use | exact .inr rfl | exact Cov.use
    | (refine fun (h' : Ev _ _ _) => ?_)
    | apply Ev.iteR | split | apply Ev.upd | apply Ev.updT | rfl

theorem aonRestart_ev {μ : Nat} {r s : State} (h : Ev μ r s) (hm : Cov 0x1000000000000000000000000000000000000000005 μ := by exact .use) : Ev μ r (aonRestart s) :=
  State.put_ev (Ev.upd (cap := s.capture) (h.table (fun g => regsOk_filter g) fun _ => Or.inl (RegIn.any .use)) rfl rfl)
    (RegIn.any .use)

theorem rstCause_ev {μ : Nat} {r s : State} {kind : Nat} {bosup : Nat} (h : Ev μ r s)
    (hm : Cov 0x6800000000000000000000000000000000000000000 μ := by exact .use) :
    Ev μ r (rstCause s kind bosup) := by
  unfold rstCause
  repeat' with_reducible first
    | assumption | exact .inl .use | exact .inr rfl | exact Cov.use
    | (refine fun (h' : Ev _ _ _) => ?_) | apply State.put_ev | apply R.CK_RSTCAUSE_BOSUP_in | apply R.CK_RSTCAUSE_KIND_in | apply R.CK_RSTCAUSE_WAKE_in
    | apply Ev.iteR | split | apply Ev.upd | apply Ev.updT | rfl

theorem resetContents_ev {μ : Nat} {r s : State} {kind : Nat} (h : Ev μ r s)
    (hm : Cov 0x10080000000000000004f807904400000000000000006200000000001870000000000000000000000000000000000000000000000022000000000000000000000000000006cfffff μ := by exact .use) :
    Ev μ r (resetContents s kind) := by
  unfold resetContents
  repeat' with_reducible first
    | assumption | exact .inl .use | exact .inr rfl | exact Cov.use
    | (extract_lets +onlyGivenNames -underBinder s'; refine Ev.cut (m := μ) (r := r) (x := s') ?_ ?_
       all_goals first | (intro h'; clear_value s') | subst s')
    | (extract_lets +onlyGivenNames -underBinder x'; subst x')
    | (refine fun (h' : Ev _ _ _) => ?_) | apply runPause_ev | apply hibernateRetention_ev | apply capReset_ev | apply frHold_ev | apply regsReset_ev | apply contentsReset_ev | apply rootStops_ev | apply State.put_ev | apply tigTimebase_ev | apply fwAtReset_ev | apply slotsAtReset_ev | apply countsLost_ev | apply R.LK_STATUS_GEN_in | apply R.LK_STATUS_PCIE_UP_in | apply R.LK_STATUS_WIDTH_in | exact RegIn.any .use
    | apply Ev.iteR | split | apply Ev.upd | apply Ev.updT | rfl

theorem resetAssert_ev {μ : Nat} {r s : State} {kind : Nat} {bosup : Nat} {aonLost : Bool} (h : Ev μ r s)
    (hm : Cov 0x10080000000000000004f807904400000000000000006200000000001870000000000000000000000000000000000000000007800022000000000000000000000000000006cfffff μ := by exact .use) :
    Ev μ r (resetAssert s kind bosup aonLost) := by
  unfold resetAssert
  repeat' with_reducible first
    | assumption | exact .inl .use | exact .inr rfl | exact Cov.use
    | (extract_lets +onlyGivenNames -underBinder s'; refine Ev.cut (m := μ) (r := r) (x := s') ?_ ?_
       all_goals first | (intro h'; clear_value s') | subst s')
    | (extract_lets +onlyGivenNames -underBinder x'; subst x')
    | (refine fun (h' : Ev _ _ _) => ?_) | apply resetContents_ev | apply rstCause_ev | apply State.put_ev | apply aonRestart_ev | apply R.CK_RSTCAUSE_COARSE_LOST_in | exact RegIn.any .use
    | apply Ev.iteR | split | apply Ev.upd | apply Ev.updT | rfl

theorem wakeUp_ev {μ : Nat} {r s : State} {cause : Nat} {input : Nat} (h : Ev μ r s)
    (hm : Cov 0x10080000000000000004f807904400000000000000006200000000001870000000000000000000000000000000000000000307800022000000000000000000000000000006cfffff μ := by exact .use) :
    Ev μ r (wakeUp s cause input) := by
  unfold wakeUp
  repeat' with_reducible first
    | assumption | exact .inl .use | exact .inr rfl | exact Cov.use
    | (extract_lets +onlyGivenNames -underBinder s'; refine Ev.cut (m := μ) (r := r) (x := s') ?_ ?_
       all_goals first | (intro h'; clear_value s') | subst s')
    | (extract_lets +onlyGivenNames -underBinder x'; subst x')
    | (refine fun (h' : Ev _ _ _) => ?_) | apply State.put_ev | apply resetContents_ev | apply rstCause_ev | apply R.CK_RSTCAUSE_COARSE_LOST_in | apply R.CK_WAKE_CAUSE_in | apply R.CK_WAKE_INPUT_in | exact RegIn.any .use
    | apply Ev.iteR | split | apply Ev.upd | apply Ev.updT | rfl

theorem alarmWake_ev {μ : Nat} {r s : State} (h : Ev μ r s)
    (hm : Cov 0x10080000000000000004f807904400000000000000006200000000001870000000000000000000000000000000000000000307800022000000000000000000000000000006cfffff μ := by exact .use) :
    Ev μ r (alarmWake s) := by
  unfold alarmWake
  repeat' with_reducible first
    | assumption | exact .inl .use | exact .inr rfl | exact Cov.use
    | (refine fun (h' : Ev _ _ _) => ?_) | apply wakeUp_ev | exact RegIn.any .use
    | apply Ev.iteR | split | apply Ev.upd | apply Ev.updT | rfl

theorem quietPointers_ev {μ : Nat} {r s : State} (h : Ev μ r s)
    (hm : Cov 0x8800 μ := by exact .use) :
    Ev μ r (quietPointers s) := by
  unfold quietPointers
  repeat' with_reducible first
    | assumption | exact .inl .use | exact .inr rfl | exact Cov.use
    | (extract_lets +onlyGivenNames -underBinder s'; refine Ev.cut (m := μ) (r := r) (x := s') ?_ ?_
       all_goals first | (intro h'; clear_value s') | subst s')
    | (extract_lets +onlyGivenNames -underBinder x'; subst x')
    | (refine fun (h' : Ev _ _ _) => ?_)
    | apply Ev.iteR | (apply Ev.fst; assumption) | (apply Ev.snd; assumption) | split | apply Ev.upd | apply Ev.updT | rfl

theorem forall_flatMap {α β : Type} {p : β → Prop} {l : List α} {g : α → List β} (h : ∀ a, ∀ b ∈ g a, p b) : ∀ b ∈ l.flatMap g, p b := by
  intro b hb
  obtain ⟨a, _, hb⟩ := List.mem_flatMap.1 hb
  exact h a b hb

theorem quietReset_ev {μ : Nat} {r s : State} (h : Ev μ r s) (hm : Cov 0x810000100100000c000700000103140111800f032400000024000000000040000000600001e003c00000003e5000000000000000202003ed810000000800c0200000de30038000809800 μ := by exact .use) : Ev μ r (quietReset s) := by
  refine Ev.upd (Ev.putAll ?_ (quietPointers_ev (tigBreak_ev h))) rfl rfl
  unfold quietFields
  refine List.forall_mem_append.2 ⟨List.forall_mem_append.2 ⟨List.forall_mem_append.2 ⟨List.forall_mem_append.2 ⟨List.forall_mem_append.2 ⟨List.forall_mem_append.2 ⟨?_, forall_flatMap fun n => ?_⟩, forall_flatMap fun n => ?_⟩, forall_flatMap fun n => ?_⟩,
    forall_flatMap fun n => ?_⟩, forall_flatMap fun n => ?_⟩, forall_flatMap fun n => ?_⟩
  · refine List.forall_mem_cons.2 ⟨R.NODE_PAIR_PAIR_VALID_in .use, ?_⟩
    refine List.forall_mem_cons.2 ⟨R.NODE_PAIR_PARTNER_in .use, ?_⟩
    refine List.forall_mem_cons.2 ⟨R.NODE_PAIR_PAIR_ID_in .use, ?_⟩
    refine List.forall_mem_cons.2 ⟨R.NODE_TEST_RESULT_in .use, ?_⟩
    refine List.forall_mem_cons.2 ⟨R.NODE_TEST_FAILUNIT_in .use, ?_⟩
    refine List.forall_mem_cons.2 ⟨R.NODE_ADDRERR_COUNT_in .use, ?_⟩
    refine List.forall_mem_cons.2 ⟨R.NODE_ADDRERR_REQ_in .use, ?_⟩
    refine List.forall_mem_cons.2 ⟨R.NODE_ADDRERR_KIND_in .use, ?_⟩
    refine List.forall_mem_cons.2 ⟨R.NODE_ADDRERR_ADDR_ADDR_in .use, ?_⟩
    refine List.forall_mem_cons.2 ⟨R.NODE_TRIPSTAT_LTOTAL_in .use, ?_⟩
    refine List.forall_mem_cons.2 ⟨R.NODE_TRIPSTAT_BLANKED_in .use, ?_⟩
    refine List.forall_mem_cons.2 ⟨R.NODE_TWIN_STAT_REFUSE_in .use, ?_⟩
    refine List.forall_mem_cons.2 ⟨R.NODE_TWIN_CNT_BMISS_in .use, ?_⟩
    refine List.forall_mem_cons.2 ⟨R.NODE_TWIN_CNT_MISM_in .use, ?_⟩
    refine List.forall_mem_cons.2 ⟨R.POST_OFFSET_OFS_NS_in .use, ?_⟩
    refine List.forall_mem_cons.2 ⟨R.POST_TIG_LAPSES_in .use, ?_⟩
    refine List.forall_mem_cons.2 ⟨R.POST_TIG_HWFAULT_in .use, ?_⟩
    refine List.forall_mem_cons.2 ⟨R.POST_TIG_OVERRUN_in .use, ?_⟩
    refine List.forall_mem_cons.2 ⟨R.POST_TIG_FOREIGN_in .use, ?_⟩
    refine List.forall_mem_cons.2 ⟨R.POST_ACC_SUPER_in .use, ?_⟩
    refine List.forall_mem_cons.2 ⟨R.POST_ACC_LATE_in .use, ?_⟩
    refine List.forall_mem_cons.2 ⟨R.POST_TIGBASE_LO_FRAC_in .use, ?_⟩
    refine List.forall_mem_cons.2 ⟨R.POST_TIGBASE_HI_SEC_in .use, ?_⟩
    refine List.forall_mem_cons.2 ⟨R.CK_LOCKWIN_COUNT_in .use, ?_⟩
    refine List.forall_mem_cons.2 ⟨R.CK_WDOG_CFG_TIMEOUT_in .use, ?_⟩
    refine List.forall_mem_cons.2 ⟨R.SN_SNAPSTAT_DONE_in .use, ?_⟩
    refine List.forall_mem_cons.2 ⟨R.SN_SNAPSTAT_DROP_in .use, ?_⟩
    refine List.forall_mem_cons.2 ⟨R.SN_SNAPSTAT_PEND_in .use, ?_⟩
    refine List.forall_mem_cons.2 ⟨R.SN_CAL_STEP_in .use, ?_⟩
    refine List.forall_mem_cons.2 ⟨R.SN_CAL_PHASE_in .use, ?_⟩
    refine List.forall_mem_cons.2 ⟨R.SEC_ENR_PTR_OFS_in .use, ?_⟩
    refine List.forall_mem_cons.2 ⟨R.SEC_FW_PTR_OFS_in .use, ?_⟩
    refine List.forall_mem_cons.2 ⟨R.SEC_IMG_PTR_OFS_in .use, ?_⟩
    refine List.forall_mem_cons.2 ⟨R.LK_TWIN_STAT_DELAY_in .use, ?_⟩
    refine List.forall_mem_cons.2 ⟨R.FAB_SNAP_FROZEN_in .use, ?_⟩
    refine List.forall_mem_cons.2 ⟨R.FAB_SNAP_FREEZE_in .use, ?_⟩
    refine List.forall_mem_cons.2 ⟨R.FAB_NAN_INF_in .use, ?_⟩
    refine List.forall_mem_cons.2 ⟨R.FAB_NAN_NAN_in .use, ?_⟩
    refine List.forall_mem_cons.2 ⟨R.SO_DROP_HW_in .use, ?_⟩
    refine List.forall_mem_cons.2 ⟨R.SO_DROP_DL_in .use, ?_⟩
    refine List.forall_mem_cons.2 ⟨R.CAP_FRPTR_OFS_in .use, ?_⟩
    refine List.forall_mem_cons.2 ⟨R.SAF_ISO_VALID_in .use, ?_⟩
    refine List.forall_mem_cons.2 ⟨R.SAF_ISO_R_ISO_in .use, ?_⟩
    refine List.forall_mem_cons.2 ⟨R.SAF_CNT_TPDONE_in .use, ?_⟩
    refine List.forall_mem_cons.2 ⟨R.SAF_CNT_DEMANDS_in .use, ?_⟩
    refine List.forall_mem_cons.2 ⟨R.SEC_CNT_TAGFAIL_in .use, ?_⟩
    refine List.forall_mem_cons.2 ⟨R.SEC_CNT_REPLAY_in .use, ?_⟩
    refine List.forall_mem_cons.2 ⟨R.SEC_IMG_STATUS_CODE_in .use, ?_⟩
    refine List.forall_mem_cons.2 ⟨R.SEC_IMG_WHERE_SECT_in .use, ?_⟩
    refine List.forall_mem_cons.2 ⟨R.SEC_IMG_WHERE_REC_in .use, ?_⟩
    refine List.forall_mem_cons.2 ⟨R.LK_TWIN_CNT_TAGFAIL_in .use, ?_⟩
    refine List.forall_mem_cons.2 ⟨R.LK_TWIN_CNT_LATE_in .use, ?_⟩
    refine List.forall_mem_cons.2 ⟨R.HL_STATUS_OVF_in .use, ?_⟩
    exact List.forall_mem_nil _
  · refine List.forall_mem_cons.2 ⟨R.NODE_BCNTb_TOTAL_in .use, ?_⟩
    refine List.forall_mem_cons.2 ⟨R.SAF_RFj_CNT_CRCC_in .use, ?_⟩
    refine List.forall_mem_cons.2 ⟨R.SAF_RFj_CNT_CRCK_in .use, ?_⟩
    refine List.forall_mem_cons.2 ⟨R.SAF_RFj_CNT_SEQ_in .use, ?_⟩
    refine List.forall_mem_cons.2 ⟨R.SAF_RFj_CNT_TIME_in .use, ?_⟩
    exact List.forall_mem_nil _
  · refine List.forall_mem_cons.2 ⟨R.DEC_RSr_IDX_RUN_in .use, ?_⟩
    refine List.forall_mem_cons.2 ⟨R.DEC_RSr_IDX_J_in .use, ?_⟩
    refine List.forall_mem_cons.2 ⟨R.DEC_RSr_CNT_OUT_in .use, ?_⟩
    refine List.forall_mem_cons.2 ⟨R.DEC_RSr_CNT_LATE_in .use, ?_⟩
    exact List.forall_mem_nil _
  · refine List.forall_mem_cons.2 ⟨R.CAP_WINw_STAT_ARMERR_in .use, ?_⟩
    refine List.forall_mem_cons.2 ⟨R.CAP_WINw_MISS_COUNT_in .use, ?_⟩
    exact List.forall_mem_nil _
  · refine List.forall_mem_cons.2 ⟨R.SN_ORm_CH_in .use, ?_⟩
    refine List.forall_mem_cons.2 ⟨R.SN_LOSTm_CH_in .use, ?_⟩
    refine List.forall_mem_cons.2 ⟨R.LK_CANc_TXDONE_DONE_in .use, ?_⟩
    refine List.forall_mem_cons.2 ⟨R.AXn_STAT_FAULT_in .use, ?_⟩
    refine List.forall_mem_cons.2 ⟨R.AXn_STAT_CHATTER_in .use, ?_⟩
    exact List.forall_mem_nil _
  · refine List.forall_mem_cons.2 ⟨R.LK_SPn_CNT_RXDROP_in .use, ?_⟩
    refine List.forall_mem_cons.2 ⟨R.LK_SPn_CNT_DUP_in .use, ?_⟩
    exact List.forall_mem_nil _
  · intro f hf
    obtain ⟨k, _, rfl⟩ := List.mem_map.1 hf
    exact R.SEC_FRANK_NONCEn_N_in .use

theorem quietGate_ev {μ : Nat} {r s : State} (h : Ev μ r s)
    (hm : Cov 0x810010100100000c000700000103140111800f032400000024000000000040000000600001e007c087b0003e5100000000000000202003ed810000000800c0200000de3033800084da10 μ := by exact .use) :
    Ev μ r (quietGate s) := by
  unfold quietGate
  repeat' with_reducible first
    | assumption | exact .inl .use | exact .inr rfl | exact Cov.use
    | (extract_lets +onlyGivenNames -underBinder s'; refine Ev.cut (m := μ) (r := r) (x := s') ?_ ?_
       all_goals first | (intro h'; clear_value s') | subst s')
    | (extract_lets +onlyGivenNames -underBinder x'; subst x')
    | (refine fun (h' : Ev _ _ _) => ?_) | apply State.put_ev | apply modePending_ev | apply quietReset_ev | apply runPause_ev | apply counterWrite_ev | apply calSuspend_ev | apply resamplersRestart_ev | apply fadesEnd_ev | apply R.FAB_STATUS_RUN_in | apply R.NODE_MODE_QUIET_in | apply R.SN_STATUS_RUN_in
    | apply Ev.iteR | split | apply Ev.upd | apply Ev.updT | rfl

theorem quietFrame_ev {μ : Nat} {r s : State} {im : Image} {k : Nat} (h : Ev μ r s)
    (hm : Cov 0x812010100100000c0007000401031c0111800f03240000007e0001f87c1e787000007e047fe00fc087f8003e5102083089ff0000202003ff810011001f26e039000dde30bf80078ffbf6 μ := by exact .use) :
    Ev μ r (quietFrame s im k) := by
  unfold quietFrame
  repeat' with_reducible first
    | assumption | exact .inl .use | exact .inr rfl | exact Cov.use
    | (extract_lets +onlyGivenNames -underBinder s'; refine Ev.cut (m := μ) (r := r) (x := s') ?_ ?_
       all_goals first | (intro h'; clear_value s') | subst s')
    | (extract_lets +onlyGivenNames -underBinder x'; subst x')
    | (refine fun (h' : Ev _ _ _) => ?_) | apply State.runTo_ev | apply frameCatchUp_ev | apply completeFrameWith_ev | apply frameBegin_ev | apply quietGate_ev
    | apply Ev.iteR | split | apply Ev.upd | apply Ev.updT | rfl

theorem quietLeave_ev {μ : Nat} {r s : State} (h : Ev μ r s)
    (hm : Cov 0x810000100100000c000700000103140111800f032400000024000000000040000000600001e003c00000003e5100000000000000202003ed810000000800c0200000de30338000849a14 μ := by exact .use) :
    Ev μ r (quietLeave s) := by
  unfold quietLeave
  repeat' with_reducible first
    | assumption | exact .inl .use | exact .inr rfl | exact Cov.use
    | (extract_lets +onlyGivenNames -underBinder s'; refine Ev.cut (m := μ) (r := r) (x := s') ?_ ?_
       all_goals first | (intro h'; clear_value s') | subst s')
    | (extract_lets +onlyGivenNames -underBinder x'; subst x')
    | (refine fun (h' : Ev _ _ _) => ?_) | apply quietReset_ev | apply runResume_ev | apply State.put_ev | apply modePending_ev | apply senseResume_ev | apply R.NODE_MODE_QUIET_in | apply R.SN_STATUS_RUN_in
    | apply Ev.iteR | split | apply Ev.upd | apply Ev.updT | rfl

theorem fabricResume_ev {μ : Nat} {r s : State} (h : Ev μ r s)
    (hm : Cov 0x20001000000000000000040000180000000000000000007a0001f87c1e387000007e047fa00e4004f8000c0002083089ff000000000377800011001f266019000d4000ac00078ffbf6 μ := by exact .use) :
    Ev μ r (fabricResume s) := by
  unfold fabricResume
  repeat' with_reducible first
    | assumption | exact .inl .use | exact .inr rfl | exact Cov.use
    | (extract_lets +onlyGivenNames -underBinder s'; refine Ev.cut (m := μ) (r := r) (x := s') ?_ ?_
       all_goals first | (intro h'; clear_value s') | subst s')
    | (extract_lets +onlyGivenNames -underBinder x'; subst x')
    | (refine fun (h' : Ev _ _ _) => ?_) | apply State.runElapsed_ev | apply State.put_ev | apply State.bump_ev | apply frameBegin_ev | apply R.FAB_STATUS_RUN_in | apply R.POST_TIG_LAPSES_in
    | apply Ev.iteR | (apply Ev.fst; assumption) | (apply Ev.snd; assumption) | split | apply Ev.upd | apply Ev.updT | rfl

theorem hibernateEnter_ev {μ : Nat} {r s : State} (h : Ev μ r s)
    (hm : Cov 0x10080000000000000004f80790440200000000000000620000000000187000007e000000044000000000000000300100000307800022000000000000000000000000000007efffff μ := by exact .use) :
    Ev μ r (hibernateEnter s) := by
  unfold hibernateEnter
  repeat' with_reducible first
    | assumption | exact .inl .use | exact .inr rfl | exact Cov.use
    | (extract_lets +onlyGivenNames -underBinder s'; refine Ev.cut (m := μ) (r := r) (x := s') ?_ ?_
       all_goals first | (intro h'; clear_value s') | subst s')
    | (extract_lets +onlyGivenNames -underBinder x'; subst x')
    | (refine fun (h' : Ev _ _ _) => ?_) | (intro a b hab) | (intro a hab) | apply fabricHalt_ev | apply holdAll_ev | apply axSave_ev | apply sessionsClose_ev | apply journalAdd_ev | apply counterWrite_ev | apply runPause_ev | apply alarmWake_ev | exact RegIn.any .use
    | apply Ev.iteR | apply Ev.foldl | split | apply Ev.upd | apply Ev.updT | rfl

theorem powerLate_ev {μ : Nat} {r s : State} {k : Nat} (h : Ev μ r s)
    (hm : Cov 0x7e000000000000000000000000000000000000000000000000000006201000000000040003838030 μ := by exact .use) :
    Ev μ r (powerLate s k) := by
  unfold powerLate
  repeat' with_reducible first
    | assumption | exact .inl .use | exact .inr rfl | exact Cov.use
    | (refine fun (h' : Ev _ _ _) => ?_) | apply modeRefuse_ev
    | apply Ev.iteR | (apply Ev.fst; assumption) | (apply Ev.snd; assumption) | split | apply Ev.upd | apply Ev.updT | rfl

theorem nodeFrameStart_ev {μ : Nat} {r s : State} (h : Ev μ r s)
    (hm : Cov 0x8120101c0100000c00070004fd07fc4513828ffb3400e0007e0001f87c1e787380007e067fffefff87ff9ffed703f8308fffffc327a003ff810011001f66e039000dde30bf8007efffff μ := by exact .use) :
    Ev μ r (nodeFrameStart s) := by
  unfold nodeFrameStart
  repeat' with_reducible first
    | assumption | exact .inl .use | exact .inr rfl | exact Cov.use
    | (extract_lets +onlyGivenNames -underBinder s'; refine Ev.cut (m := μ) (r := r) (x := s') ?_ ?_
       all_goals first | (intro h'; clear_value s') | subst s')
    | (extract_lets +onlyGivenNames -underBinder x'; subst x')
    | (refine fun (h' : Ev _ _ _) => ?_) | apply activationStart_ev | apply activationStop_ev | apply powerLate_ev | apply hibernateEnter_ev | apply State.runTo_ev | apply frameBegin_ev | apply quietFrame_ev | apply fabricResume_ev | exact RegIn.any .use
    | apply Ev.iteR | (apply Ev.fst; assumption) | (apply Ev.snd; assumption) | split | apply Ev.upd | apply Ev.updT | rfl

theorem powerTick_ev {μ : Nat} {r s : State} (h : Ev μ r s)
    (hm : Cov 0x812010180100000c00070004f9079c4513800f0324000000660000007c00587000007e0001e007c087b0003e5102003009c0000327a003ef810000001f26e031000dde30bf8007efffff μ := by exact .use) :
    Ev μ r (powerTick s) := by
  unfold powerTick
  repeat' with_reducible first
    | assumption | exact .inl .use | exact .inr rfl | exact Cov.use
    | (extract_lets +onlyGivenNames -underBinder s'; refine Ev.cut (m := μ) (r := r) (x := s') ?_ ?_
       all_goals first | (intro h'; clear_value s') | subst s')
    | (extract_lets +onlyGivenNames -underBinder x'; subst x')
    | (refine fun (h' : Ev _ _ _) => ?_) | apply powerLate_ev | apply quietLeave_ev | apply quietGate_ev | apply hibernateEnter_ev | apply modePending_ev | apply modeJudge_ev | exact RegIn.any .use
    | apply Ev.iteR | (apply Ev.fst; assumption) | (apply Ev.snd; assumption) | split | apply Ev.upd | apply Ev.updT | rfl

theorem trayTick_ev {μ : Nat} {r s : State} (h : Ev μ r s)
    (hm : Cov 0x8120101c0100000c00070004fd07fc4513828ffb3400e0007e0001f87c1e787380007e047fffefff87ff9ffed703f8308fffffc327a003ff810011001f66e039000dde30bf8007efffff μ := by exact .use) :
    Ev μ r (trayTick s) := by
  unfold trayTick
  repeat' with_reducible first
    | assumption | exact .inl .use | exact .inr rfl | exact Cov.use
    | (extract_lets +onlyGivenNames -underBinder s'; refine Ev.cut (m := μ) (r := r) (x := s') ?_ ?_
       all_goals first | (intro h'; clear_value s') | subst s')
    | (extract_lets +onlyGivenNames -underBinder x'; subst x')
    | (refine fun (h' : Ev _ _ _) => ?_) | apply activationStop_ev | apply State.runTo_ev | apply powerTick_ev | apply trayReleaseDue_ev | exact RegIn.any .use
    | apply Ev.iteR | split | apply Ev.upd | apply Ev.updT | rfl

theorem modeRequest_ev {μ : Nat} {r s : State} {a1 : Nat} {code : Nat} (h : Ev μ r s)
    (hm : Cov 0x7e00000000000000000000000000000000000000008000000000000620100000000024000383a030 μ := by exact .use) :
    Ev μ r (modeRequest s a1 code) := by
  unfold modeRequest
  repeat' with_reducible first
    | assumption | exact .inl .use | exact .inr rfl | exact Cov.use
    | (refine fun (h' : Ev _ _ _) => ?_) | apply modePending_ev | apply hostCommand_ev | apply modeRefuse_ev
    | apply Ev.iteR | split | apply Ev.upd | apply Ev.updT | rfl

theorem powerRequest_ev {μ : Nat} {r s : State} {a1 : Nat} {p : Nat} (h : Ev μ r s)
    (hm : Cov 0x7e000000000000000000000000000000000000000000000000000006201000000000040003838030 μ := by exact .use) :
    Ev μ r (powerRequest s a1 p) := by
  unfold powerRequest
  repeat' with_reducible first
    | assumption | exact .inl .use | exact .inr rfl | exact Cov.use
    | (extract_lets +onlyGivenNames -underBinder s'; refine Ev.cut (m := μ) (r := r) (x := s') ?_ ?_
       all_goals first | (intro h'; clear_value s') | subst s')
    | (extract_lets +onlyGivenNames -underBinder x'; subst x')
    | (refine fun (h' : Ev _ _ _) => ?_) | apply modeRefuse_ev
    | apply Ev.iteR | split | apply Ev.upd | apply Ev.updT | rfl

theorem modeReqWrite_ev {μ : Nat} {r s : State} {a1 : Nat} {v : Nat} (h : Ev μ r s)
    (hm : Cov 0x7e00000000000000000000000000000000000000008000000000000620100000000024000383a030 μ := by exact .use) :
    Ev μ r (modeReqWrite s a1 v) := by
  unfold modeReqWrite
  repeat' with_reducible first
    | assumption | exact .inl .use | exact .inr rfl | exact Cov.use
    | (extract_lets +onlyGivenNames -underBinder s'; refine Ev.cut (m := μ) (r := r) (x := s') ?_ ?_
       all_goals first | (intro h'; clear_value s') | subst s')
    | (extract_lets +onlyGivenNames -underBinder x'; subst x')
    | (refine fun (h' : Ev _ _ _) => ?_) | apply modeRefuse_ev | apply modeRequest_ev | apply powerRequest_ev
    | apply Ev.iteR | split | apply Ev.upd | apply Ev.updT | rfl

theorem ifHappens_ev {μ : Nat} {r s : State} {happens : Image → State → Bool} (h : Ev μ r s)
    (hm : Cov 0x8120101c0100000c00070004fd07fc4513828ffb3400e0007e0001f87c1e787380007e067fffefff87ff9ffed703f8308fffffc327a003ff810011001f66e039000dde30bf8007efffff μ := by exact .use) :
    Ev μ r (ifHappens s happens) := by
  unfold ifHappens
  repeat' with_reducible first
    | assumption | exact .inl .use | exact .inr rfl | exact Cov.use
    | (extract_lets +onlyGivenNames -underBinder s'; refine Ev.cut (m := μ) (r := r) (x := s') ?_ ?_
       all_goals first | (intro h'; clear_value s') | subst s')
    | (extract_lets +onlyGivenNames -underBinder x'; subst x')
    | (refine fun (h' : Ev _ _ _) => ?_) | apply sampledFrame_ev | apply nodeFrameStart_ev | exact RegIn.any .use
    | apply Ev.iteR | (apply Ev.fst; assumption) | (apply Ev.snd; assumption) | split | apply Ev.upd | apply Ev.updT | rfl

theorem rampOrigin_ev {μ : Nat} {r s : State} {b : Nat} (h : Ev μ r s)
    (hm : Cov 0x8120101c0100000c00070004fd07fc4513828ffb3400e0007e0001f87c1e787380007e067fffefff87ff9ffed703f8308fffffc327a003ff810011001f66e039000dde30bf8007efffff μ := by exact .use) :
    Ev μ r (rampOrigin s b) := by
  unfold rampOrigin
  repeat' with_reducible first
    | assumption | exact .inl .use | exact .inr rfl | exact Cov.use
    | (refine fun (h' : Ev _ _ _) => ?_) | (intro a hab) | apply ifHappens_ev | exact RegIn.any .use
    | apply Ev.iteR | split | apply Ev.upd | apply Ev.updT | rfl

theorem slotTime_ev {μ : Nat} {r s : State} {b : Nat} (h : Ev μ r s)
    (hm : Cov 0x8120101c0100000c00070004fd07fc4513828ffb3400e0007e0001f87c1e787380007e067fffefff87ff9ffed703f8308fffffc327a003ff810011001f66e039000dde30bf8007efffff μ := by exact .use) :
    Ev μ r (slotTime s b) := by
  unfold slotTime
  repeat' with_reducible first
    | assumption | exact .inl .use | exact .inr rfl | exact Cov.use
    | (refine fun (h' : Ev _ _ _) => ?_) | (intro a hab) | apply ifHappens_ev | exact RegIn.any .use
    | apply Ev.iteR | split | apply Ev.upd | apply Ev.updT | rfl

theorem busStatePersist_ev {μ : Nat} {r s : State} {b : Nat} (h : Ev μ r s)
    (hm : Cov 0x8120101c0100000c00070004fd07fc4513828ffb3400e0007e0001f87c1e787380007e067fffefff87ff9ffed703f8308fffffc327a003ff810011001f66e039000dde30bf8007efffff μ := by exact .use) :
    Ev μ r (busStatePersist s b) := by
  unfold busStatePersist
  repeat' with_reducible first
    | assumption | exact .inl .use | exact .inr rfl | exact Cov.use
    | (refine fun (h' : Ev _ _ _) => ?_) | (intro a hab) | apply ifHappens_ev | exact RegIn.any .use
    | apply Ev.iteR | split | apply Ev.upd | apply Ev.updT | rfl

theorem syncOk_ev {μ : Nat} {r s : State} {b : Nat} (h : Ev μ r s)
    (hm : Cov 0x8120101c0100000c00070004fd07fc4513828ffb3400e0007e0001f87c1e787380007e067fffefff87ff9ffed703f8308fffffc327a003ff810011001f66e039000dde30bf8007efffff μ := by exact .use) :
    Ev μ r (syncOk s b) := by
  unfold syncOk
  repeat' with_reducible first
    | assumption | exact .inl .use | exact .inr rfl | exact Cov.use
    | (refine fun (h' : Ev _ _ _) => ?_) | (intro a hab) | apply ifHappens_ev | exact RegIn.any .use
    | apply Ev.iteR | split | apply Ev.upd | apply Ev.updT | rfl

theorem syncTimeout_ev {μ : Nat} {r s : State} {b : Nat} (h : Ev μ r s)
    (hm : Cov 0x8120101c0100000c00070004fd07fc4513828ffb3400e0007e0001f87c1e787380007e067fffefff87ff9ffed703f8308fffffc327a003ff810011001f66e039000dde30bf8007efffff μ := by exact .use) :
    Ev μ r (syncTimeout s b) := by
  unfold syncTimeout
  repeat' with_reducible first
    | assumption | exact .inl .use | exact .inr rfl | exact Cov.use
    | (refine fun (h' : Ev _ _ _) => ?_) | apply ifHappens_ev | exact RegIn.any .use
    | apply Ev.iteR | split | apply Ev.upd | apply Ev.updT | rfl

theorem rampStall_ev {μ : Nat} {r s : State} {b : Nat} (h : Ev μ r s)
    (hm : Cov 0x8120101c0100000c00070004fd07fc4513828ffb3400e0007e0001f87c1e787380007e067fffefff87ff9ffed703f8308fffffc327a003ff810011001f66e039000dde30bf8007efffff μ := by exact .use) :
    Ev μ r (rampStall s b) := by
  unfold rampStall
  repeat' with_reducible first
    | assumption | exact .inl .use | exact .inr rfl | exact Cov.use
    | (refine fun (h' : Ev _ _ _) => ?_) | apply ifHappens_ev | exact RegIn.any .use
    | apply Ev.iteR | split | apply Ev.upd | apply Ev.updT | rfl

theorem poleSlip_ev {μ : Nat} {r s : State} {b : Nat} (h : Ev μ r s)
    (hm : Cov 0x8120101c0100000c00070004fd07fc4513828ffb3400e0007e0001f87c1e787380007e067fffefff87ff9ffed703f8308fffffc327a003ff810011001f66e039000dde30bf8007efffff μ := by exact .use) :
    Ev μ r (poleSlip s b) := by
  unfold poleSlip
  repeat' with_reducible first
    | assumption | exact .inl .use | exact .inr rfl | exact Cov.use
    | (refine fun (h' : Ev _ _ _) => ?_) | apply ifHappens_ev | exact RegIn.any .use
    | apply Ev.iteR | split | apply Ev.upd | apply Ev.updT | rfl

theorem tvimpHoldEnd_ev {μ : Nat} {r s : State} {b : Nat} (h : Ev μ r s)
    (hm : Cov 0x8120101c0100000c00070004fd07fc4513828ffb3400e0007e0001f87c1e787380007e067fffefff87ff9ffed703f8308fffffc327a003ff810011001f66e039000dde30bf8007efffff μ := by exact .use) :
    Ev μ r (tvimpHoldEnd s b) := by
  unfold tvimpHoldEnd
  repeat' with_reducible first
    | assumption | exact .inl .use | exact .inr rfl | exact Cov.use
    | (refine fun (h' : Ev _ _ _) => ?_) | apply ifHappens_ev | exact RegIn.any .use
    | apply Ev.iteR | split | apply Ev.upd | apply Ev.updT | rfl

theorem tvimpBlendEnd_ev {μ : Nat} {r s : State} {b : Nat} (h : Ev μ r s)
    (hm : Cov 0x8120101c0100000c00070004fd07fc4513828ffb3400e0007e0001f87c1e787380007e067fffefff87ff9ffed703f8308fffffc327a003ff810011001f66e039000dde30bf8007efffff μ := by exact .use) :
    Ev μ r (tvimpBlendEnd s b) := by
  unfold tvimpBlendEnd
  repeat' with_reducible first
    | assumption | exact .inl .use | exact .inr rfl | exact Cov.use
    | (refine fun (h' : Ev _ _ _) => ?_) | apply ifHappens_ev | exact RegIn.any .use
    | apply Ev.iteR | split | apply Ev.upd | apply Ev.updT | rfl

theorem inputHoldFault_ev {μ : Nat} {r s : State} {slot : Nat} (h : Ev μ r s)
    (hm : Cov 0x8120101c0100000c00070004fd07fc4513828ffb3400e0007e0001f87c1e787380007e067fffefff87ff9ffed703f8308fffffc327a003ff810011001f66e039000dde30bf8007efffff μ := by exact .use) :
    Ev μ r (inputHoldFault s slot) := by
  unfold inputHoldFault
  repeat' with_reducible first
    | assumption | exact .inl .use | exact .inr rfl | exact Cov.use
    | (refine fun (h' : Ev _ _ _) => ?_) | (intro a hab) | apply ifHappens_ev | exact RegIn.any .use
    | apply Ev.iteR | split | apply Ev.upd | apply Ev.updT | rfl

theorem budgetExhausted_ev {μ : Nat} {r s : State} {slot : Nat} (h : Ev μ r s)
    (hm : Cov 0x8120101c0100000c00070004fd07fc4513828ffb3400e0007e0001f87c1e787380007e067fffefff87ff9ffed703f8308fffffc327a003ff810011001f66e039000dde30bf8007efffff μ := by exact .use) :
    Ev μ r (budgetExhausted s slot) := by
  unfold budgetExhausted
  repeat' with_reducible first
    | assumption | exact .inl .use | exact .inr rfl | exact Cov.use
    | (refine fun (h' : Ev _ _ _) => ?_) | (intro a hab) | apply ifHappens_ev | exact RegIn.any .use
    | apply Ev.iteR | split | apply Ev.upd | apply Ev.updT | rfl

theorem energizeTimeout_ev {μ : Nat} {r s : State} (h : Ev μ r s)
    (hm : Cov 0x8120101c0100000c00070004fd07fc4513828ffb3400e0007e0001f87c1e787380007e067fffefff87ff9ffed703f8308fffffc327a003ff810011001f66e039000dde30bf8007efffff μ := by exact .use) :
    Ev μ r (energizeTimeout s) := by
  unfold energizeTimeout
  repeat' with_reducible first
    | assumption | exact .inl .use | exact .inr rfl | exact Cov.use
    | (refine fun (h' : Ev _ _ _) => ?_) | (intro a hab) | apply ifHappens_ev | exact RegIn.any .use
    | apply Ev.iteR | split | apply Ev.upd | apply Ev.updT | rfl

theorem fabricOverrun_ev {μ : Nat} {r s : State} {tile : Nat} (h : Ev μ r s)
    (hm : Cov 0x2000000000000000000004000018000000000000000000600000000c1e384000007e0180001c400000000c0002003009c0000000000027000011001f260011000d40008800078b9bf6 μ := by exact .use) :
    Ev μ r (fabricOverrun s tile) := by
  unfold fabricOverrun
  repeat' with_reducible first
    | assumption | exact .inl .use | exact .inr rfl | exact Cov.use
    | (refine fun (h' : Ev _ _ _) => ?_) | apply fabricFault_ev | apply State.runTo_ev
    | apply Ev.iteR | (apply Ev.fst; assumption) | (apply Ev.snd; assumption) | split | apply Ev.upd | apply Ev.updT | rfl

theorem memoryError_ev {μ : Nat} {r s : State} (h : Ev μ r s)
    (hm : Cov 0x2000000000000000000004000018000000000000000000600000000000000000007e00000004400000000c0002003009c0000000000021000000001f260011000d40008800078b9bf0 μ := by exact .use) :
    Ev μ r (memoryError s) := by
  unfold memoryError
  repeat' with_reducible first
    | assumption | exact .inl .use | exact .inr rfl | exact Cov.use
    | (refine fun (h' : Ev _ _ _) => ?_) | apply twinFault_ev | apply enterRecovery_ev | apply hwFault_ev
    | apply Ev.iteR | split | apply Ev.upd | apply Ev.updT | rfl

theorem freezeWrite_ev {μ : Nat} {r s : State} {freeze : Bool} (h : Ev μ r s)
    (hm : Cov 0x60000000000000000000000000000000000000000000000000000000000000000000000000 μ := by exact .use) :
    Ev μ r (freezeWrite s freeze) := by
  unfold freezeWrite
  repeat' with_reducible first
    | assumption | exact .inl .use | exact .inr rfl | exact Cov.use
    | (extract_lets +onlyGivenNames -underBinder s'; refine Ev.cut (m := μ) (r := r) (x := s') ?_ ?_
       all_goals first | (intro h'; clear_value s') | subst s')
    | (extract_lets +onlyGivenNames -underBinder x'; subst x')
    | (refine fun (h' : Ev _ _ _) => ?_) | apply State.put_ev | apply R.FAB_SNAP_FREEZE_in | apply R.FAB_SNAP_FROZEN_in
    | apply Ev.iteR | split | apply Ev.upd | apply Ev.updT | rfl

theorem commandEnter_ev {μ : Nat} {r s : State} {c : Command} (h : Ev μ r s)
    (hm : Cov 0x7e00000000000000000000000000000000000000008000000000000620100000000020000383a020 μ := by exact .use) :
    Ev μ r (commandEnter s c) := by
  unfold commandEnter
  repeat' with_reducible first
    | assumption | exact .inl .use | exact .inr rfl | exact Cov.use
    | (refine fun (h' : Ev _ _ _) => ?_) | apply modePending_ev | apply acceptEnter_ev
    | apply Ev.iteR | split | apply Ev.upd | apply Ev.updT | rfl

theorem startCommand_ev {μ : Nat} {r s : State} {b : Nat} {t : Nat} {cls : Nat} (h : Ev μ r s)
    (hm : Cov 0x7e00000000000000000000000000000000000000008000000000000620100000000000000383a020 μ := by exact .use) :
    Ev μ r (startCommand s b t cls) := by
  unfold startCommand
  repeat' with_reducible first
    | assumption | exact .inl .use | exact .inr rfl | exact Cov.use
    | (refine fun (h' : Ev _ _ _) => ?_) | (intro a hab) | apply acceptEnter_ev
    | apply Ev.iteR | (apply Ev.fst; assumption) | (apply Ev.snd; assumption) | split | apply Ev.upd | apply Ev.updT | rfl

theorem runToFine_ev {μ : Nat} {r s : State} {fine : Nat} (h : Ev μ r s)
    (hm : Cov 0x40000000000000000000000000000000000000000000000000000000000000000000000000000000000000022000011000000000000000000000002801006 μ := by exact .use) :
    Ev μ r (runToFine s fine) := by
  unfold runToFine
  repeat' with_reducible first
    | assumption | exact .inl .use | exact .inr rfl | exact Cov.use
    | (refine fun (h' : Ev _ _ _) => ?_) | apply State.ticks_ev
    | apply Ev.iteR | split | apply Ev.upd | apply Ev.updT | rfl

theorem reloadTakes_ev {μ : Nat} {r s : State} {n : Nat} {x : Nat} (h : Ev μ r s)
    (hm : Cov 0x300988000000000000000000000000000000000000000000800080 μ := by exact .use) :
    Ev μ r (reloadTakes s n x) := by
  unfold reloadTakes
  repeat' with_reducible first
    | assumption | exact .inl .use | exact .inr rfl | exact Cov.use
    | (refine fun (h' : Ev _ _ _) => ?_) | apply dutyTransfer_ev | apply driveTakes_ev | apply forceTakes_ev
    | apply Ev.iteR | split | apply Ev.upd | apply Ev.updT | rfl

theorem cutZero_ev {μ : Nat} {r s : State} {n : Nat} {x : Nat} (h : Ev μ r s)
    (hm : Cov 0x600000000000000000007e00000000000000000c000000300100000000000000000000001f000000000c40000000058003e0 μ := by exact .use) :
    Ev μ r (cutZero s n x) := by
  unfold cutZero
  repeat' with_reducible first
    | assumption | exact .inl .use | exact .inr rfl | exact Cov.use
    | (extract_lets +onlyGivenNames -underBinder s'; refine Ev.cut (m := μ) (r := r) (x := s') ?_ ?_
       all_goals first | (intro h'; clear_value s') | subst s')
    | (extract_lets +onlyGivenNames -underBinder x'; subst x')
    | (refine fun (h' : Ev _ _ _) => ?_) | apply escalate_ev | apply legTripNote_ev | apply forceDrive_ev | apply State.setLeg_ev
    | apply Ev.iteR | split | apply Ev.upd | apply Ev.updT | rfl

theorem legPoint_ev {μ : Nat} {r s : State} {n : Nat} (h : Ev μ r s)
    (hm : Cov 0x4000000000000000000000000600000000000000000007e00000000000000000c0000043029b8000000000022000011001f000000000c40000000078013e6 μ := by exact .use) :
    Ev μ r (legPoint s n) := by
  unfold legPoint
  repeat' with_reducible first
    | assumption | exact .inl .use | exact .inr rfl | exact Cov.use
    | (extract_lets +onlyGivenNames -underBinder s'; refine Ev.cut (m := μ) (r := r) (x := s') ?_ ?_
       all_goals first | (intro h'; clear_value s') | subst s')
    | (extract_lets +onlyGivenNames -underBinder x'; subst x')
    | (refine fun (h' : Ev _ _ _) => ?_) | apply runToFine_ev | apply State.setLeg_ev | apply placeHalf_ev | apply reloadTakes_ev | apply cutZero_ev | apply periodTransfer_ev
    | apply Ev.iteR | split | apply Ev.upd | apply Ev.updT | rfl

theorem reload_ev {μ : Nat} {r s : State} {n : Nat} (h : Ev μ r s)
    (hm : Cov 0x4000000000000000000000000600000000000000000007e00000000000000000c0000043029b8000000000022000011001f000000000c40000000078013e6 μ := by exact .use) :
    Ev μ r (reload s n) := by
  unfold reload
  repeat' with_reducible first
    | assumption | exact .inl .use | exact .inr rfl | exact Cov.use
    | (extract_lets +onlyGivenNames -underBinder s'; refine Ev.cut (m := μ) (r := r) (x := s') ?_ ?_
       all_goals first | (intro h'; clear_value s') | subst s')
    | (extract_lets +onlyGivenNames -underBinder x'; subst x')
    | (refine fun (h' : Ev _ _ _) => ?_) | apply legPoint_ev
    | apply Ev.iteR | split | apply Ev.upd | apply Ev.updT | rfl

theorem stagedWrite_ev {μ : Nat} {r s : State} {n : Nat} {which : Staged} {v : Nat} (h : Ev μ r s)
    (hm : Cov 0x8000008007000000000000000000000000000000000000000000800000 μ := by exact .use) :
    Ev μ r (stagedWrite s n which v) := by
  unfold stagedWrite
  repeat' with_reducible first
    | assumption | exact .inl .use | exact .inr rfl | exact Cov.use
    | (refine fun (h' : Ev _ _ _) => ?_) | apply State.mark_ev | apply stageDuty_ev | apply stagePhase_ev | apply stagePeriod_ev | apply R.BRIDGE_STATUS_HOSTW_in
    | apply Ev.iteR | (apply Ev.fst; assumption) | (apply Ev.snd; assumption) | split | apply Ev.upd | apply Ev.updT | rfl

theorem setSource_ev {μ : Nat} {r s : State} {b : Nat} {host : Bool} (h : Ev μ r s)
    (hm : Cov 0x200000000000000000000000000000000000000000000000000000000 μ := by exact .use) :
    Ev μ r (setSource s b host) := by
  unfold setSource
  repeat' with_reducible first
    | assumption | exact .inl .use | exact .inr rfl | exact Cov.use
    | (refine fun (h' : Ev _ _ _) => ?_) | apply State.put_ev | apply R.BRIDGE_CTRL_SRC_in
    | apply Ev.iteR | split | apply Ev.upd | apply Ev.updT | rfl

theorem readbackError_ev {μ : Nat} {r s : State} {n : Nat} {gh : Bool} (h : Ev μ r s)
    (hm : Cov 0x600000000000000000007e00000000000000000c000000304100000000000000000000001f200400000d40000000058003e0 μ := by exact .use) :
    Ev μ r (readbackError s n gh) := by
  unfold readbackError
  repeat' with_reducible first
    | assumption | exact .inl .use | exact .inr rfl | exact Cov.use
    | (extract_lets +onlyGivenNames -underBinder s'; refine Ev.cut (m := μ) (r := r) (x := s') ?_ ?_
       all_goals first | (intro h'; clear_value s') | subst s')
    | (extract_lets +onlyGivenNames -underBinder x'; subst x')
    | (refine fun (h' : Ev _ _ _) => ?_) | apply State.mark_ev | apply State.setLeg_ev | apply readbackDisagree_ev | apply legTrip_ev | apply R.LEGn_STATUS_RBERR_in
    | apply Ev.iteR | split | apply Ev.upd | apply Ev.updT | rfl

theorem blankedActs_ev {μ : Nat} {r s : State} {n : Nat} (h : Ev μ r s)
    (hm : Cov 0x600000000000000000007e00000000000000000c000000300100000000000000000000001f200000000d40000000058003e0 μ := by exact .use) :
    Ev μ r (blankedActs s n) := by
  unfold blankedActs
  repeat' with_reducible first
    | assumption | exact .inl .use | exact .inr rfl | exact Cov.use
    | (extract_lets +onlyGivenNames -underBinder s'; refine Ev.cut (m := μ) (r := r) (x := s') ?_ ?_
       all_goals first | (intro h'; clear_value s') | subst s')
    | (extract_lets +onlyGivenNames -underBinder x'; subst x')
    | (refine fun (h' : Ev _ _ _) => ?_) | apply legTrip_ev | apply State.setLeg_ev
    | apply Ev.iteR | (apply Ev.fst; assumption) | (apply Ev.snd; assumption) | split | apply Ev.upd | apply Ev.updT | rfl

theorem blankWindowEnd_ev {μ : Nat} {r s : State} {n : Nat} (h : Ev μ r s)
    (hm : Cov 0x4000000000000000000000000600000000000000000007e00000000000000000c000000300100000000000022000011001f200000000d40000000078013e6 μ := by exact .use) :
    Ev μ r (blankWindowEnd s n) := by
  unfold blankWindowEnd
  repeat' with_reducible first
    | assumption | exact .inl .use | exact .inr rfl | exact Cov.use
    | (refine fun (h' : Ev _ _ _) => ?_) | apply blankedActs_ev | apply runToFine_ev
    | apply Ev.iteR | (apply Ev.fst; assumption) | (apply Ev.snd; assumption) | split | apply Ev.upd | apply Ev.updT | rfl

theorem legTripInput_ev {μ : Nat} {r s : State} {n : Nat} {high : Bool} (h : Ev μ r s)
    (hm : Cov 0x600000000000000000007e00000000000000000c000000300100000000000000000000001f600000000dc0000000058003e0 μ := by exact .use) :
    Ev μ r (legTripInput s n high) := by
  unfold legTripInput
  repeat' with_reducible first
    | assumption | exact .inl .use | exact .inr rfl | exact Cov.use
    | (extract_lets +onlyGivenNames -underBinder s'; refine Ev.cut (m := μ) (r := r) (x := s') ?_ ?_
       all_goals first | (intro h'; clear_value s') | subst s')
    | (extract_lets +onlyGivenNames -underBinder x'; subst x')
    | (refine fun (h' : Ev _ _ _) => ?_) | apply State.setLeg_ev | apply capEdge_ev | apply setTripInput_ev | apply legTrip_ev | apply blankedActs_ev | apply State.bump_ev | apply R.NODE_TRIPSTAT_BLANKED_in
    | apply Ev.iteR | split | apply Ev.upd | apply Ev.updT | rfl

theorem bridgeTripClear_ev {μ : Nat} {r s : State} {b : Nat} (h : Ev μ r s)
    (hm : Cov 0x7e00000000000000000000000000000000000000008000000000000620100000000000000383a020 μ := by exact .use) :
    Ev μ r (bridgeTripClear s b) := by
  unfold bridgeTripClear
  repeat' with_reducible first
    | assumption | exact .inl .use | exact .inr rfl | exact Cov.use
    | (refine fun (h' : Ev _ _ _) => ?_) | apply hostCommand_ev
    | apply Ev.iteR | split | apply Ev.upd | apply Ev.updT | rfl

theorem snapshotRequest_ev {μ : Nat} {r s : State} {b : Nat} (h : Ev μ r s)
    (hm : Cov 0xc000000000000000000000000000000000000000000000000000000800200 μ := by exact .use) :
    Ev μ r (snapshotRequest s b) := by
  unfold snapshotRequest
  repeat' with_reducible first
    | assumption | exact .inl .use | exact .inr rfl | exact Cov.use
    | (refine fun (h' : Ev _ _ _) => ?_) | apply snapRequest_ev
    | apply Ev.iteR | split | apply Ev.upd | apply Ev.updT | rfl

theorem bankRequest_ev {μ : Nat} {r s : State} {a1 : Nat} {p : Nat} {b : Nat} (h : Ev μ r s)
    (hm : Cov 0x7e00000000000000000000000000000000000000008000000000000620100000000000000383a020 μ := by exact .use) :
    Ev μ r (bankRequest s a1 p b) := by
  unfold bankRequest
  repeat' with_reducible first
    | assumption | exact .inl .use | exact .inr rfl | exact Cov.use
    | (refine fun (h' : Ev _ _ _) => ?_) | apply hostCommand_ev
    | apply Ev.iteR | split | apply Ev.upd | apply Ev.updT | rfl

theorem sourceRequest_ev {μ : Nat} {r s : State} {a1 : Nat} {p : Nat} {src : Nat} (h : Ev μ r s)
    (hm : Cov 0x7e00000000000000000000000000000000000000008000000000000620100000000000000383a020 μ := by exact .use) :
    Ev μ r (sourceRequest s a1 p src) := by
  unfold sourceRequest
  repeat' with_reducible first
    | assumption | exact .inl .use | exact .inr rfl | exact Cov.use
    | (refine fun (h' : Ev _ _ _) => ?_) | apply hostCommand_ev
    | apply Ev.iteR | split | apply Ev.upd | apply Ev.updT | rfl

theorem pathRequest_ev {μ : Nat} {r s : State} {a1 : Nat} {p : Nat} {v : Nat} (h : Ev μ r s)
    (hm : Cov 0x7e00000000000000000000000000000000000000008000000000000620100000000000000383a020 μ := by exact .use) :
    Ev μ r (pathRequest s a1 p v) := by
  unfold pathRequest
  repeat' with_reducible first
    | assumption | exact .inl .use | exact .inr rfl | exact Cov.use
    | (extract_lets +onlyGivenNames -underBinder s'; refine Ev.cut (m := μ) (r := r) (x := s') ?_ ?_
       all_goals first | (intro h'; clear_value s') | subst s')
    | (extract_lets +onlyGivenNames -underBinder x'; subst x')
    | (refine fun (h' : Ev _ _ _) => ?_) | apply sourceRequest_ev | apply bankRequest_ev
    | apply Ev.iteR | split | apply Ev.upd | apply Ev.updT | rfl

theorem dispatchCycle_ev {μ : Nat} {r s : State} (h : Ev μ r s)
    (hm : Cov 0x4000000000000000000000000000000000000000000001e000000000000000000000000000000000000000022000011000000000000000000000002801026 μ := by exact .use) :
    Ev μ r (dispatchCycle s) := by
  unfold dispatchCycle
  repeat' with_reducible first
    | assumption | exact .inl .use | exact .inr rfl | exact Cov.use
    | (refine fun (h' : Ev _ _ _) => ?_) | apply dispatchOne_ev
    | apply Ev.iteR | split | apply Ev.upd | apply Ev.updT | rfl

theorem ledgerLoss_ev {μ : Nat} {r s : State} (h : Ev μ r s)
    (hm : Cov 0x1e000000000000000000000000000000000000000000000000000000000000000000000000800020 μ := by exact .use) :
    Ev μ r (ledgerLoss s) := by
  unfold ledgerLoss
  repeat' with_reducible first
    | assumption | exact .inl .use | exact .inr rfl | exact Cov.use
    | (refine fun (h' : Ev _ _ _) => ?_) | apply ledDrain_ev | apply ledFlush_ev
    | apply Ev.iteR | split | apply Ev.upd | apply Ev.updT | rfl

theorem holdWrite_ev {μ : Nat} {r s : State} {hold : Bool} (h : Ev μ r s)
    (hm : Cov 0x1e1840000000000000000000000000000000000000000000000000000000000000000000000000000004000040 μ := by exact .use) :
    Ev μ r (holdWrite s hold) := by
  unfold holdWrite
  repeat' with_reducible first
    | assumption | exact .inl .use | exact .inr rfl | exact Cov.use
    | (refine fun (h' : Ev _ _ _) => ?_) | apply frHold_ev | apply frRelease_ev
    | apply Ev.iteR | split | apply Ev.upd | apply Ev.updT | rfl

theorem segmentDone_ev {μ : Nat} {r s : State} {w : Nat} (h : Ev μ r s)
    (hm : Cov 0x1200000000000030000000000000000000000000000000000000000000000000000000000000000000000000000004800040 μ := by exact .use) :
    Ev μ r (segmentDone s w) := by
  unfold segmentDone
  repeat' with_reducible first
    | assumption | exact .inl .use | exact .inr rfl | exact Cov.use
    | (refine fun (h' : Ev _ _ _) => ?_) | apply closeIfDone_ev
    | apply Ev.iteR | split | apply Ev.upd | apply Ev.updT | rfl

theorem axStopped_ev {μ : Nat} {r s : State} {n : Nat} (h : Ev μ r s)
    (hm : Cov 0x20000000000000000000000000000000000000000000000000000000000000000000000000000000000000000000000000000000000000000000000000000000000000000000280000 μ := by exact .use) :
    Ev μ r (axStopped s n) := by
  unfold axStopped
  repeat' with_reducible first
    | assumption | exact .inl .use | exact .inr rfl | exact Cov.use
    | (extract_lets +onlyGivenNames -underBinder s'; refine Ev.cut (m := μ) (r := r) (x := s') ?_ ?_
       all_goals first | (intro h'; clear_value s') | subst s')
    | (extract_lets +onlyGivenNames -underBinder x'; subst x')
    | (refine fun (h' : Ev _ _ _) => ?_) | apply axSave_ev | apply State.setAxis_ev | apply State.put_ev | apply R.AXn_STAT_STATE_in
    | apply Ev.iteR | split | apply Ev.upd | apply Ev.updT | rfl

theorem axQuick_ev {μ : Nat} {r s : State} {n : Nat} (h : Ev μ r s)
    (hm : Cov 0x20000000000000000000000000000000000000000000000000000000000000000000000000000000000000000000000000000000000000000000000000000000000000000000280000 μ := by exact .use) :
    Ev μ r (axQuick s n) := by
  unfold axQuick
  repeat' with_reducible first
    | assumption | exact .inl .use | exact .inr rfl | exact Cov.use
    | (extract_lets +onlyGivenNames -underBinder s'; refine Ev.cut (m := μ) (r := r) (x := s') ?_ ?_
       all_goals first | (intro h'; clear_value s') | subst s')
    | (extract_lets +onlyGivenNames -underBinder x'; subst x')
    | (refine fun (h' : Ev _ _ _) => ?_) | apply State.setAxis_ev | apply axStopped_ev | apply State.put_ev | apply R.AXn_STAT_STATE_in
    | apply Ev.iteR | split | apply Ev.upd | apply Ev.updT | rfl

theorem axLimit_ev {μ : Nat} {r s : State} {n : Nat} {f : Fld} (h : Ev μ r s) (hf : RegIn μ f.key)
    (hm : Cov 0x20000000000000000000000000000000000000000000000000000000000000000000000000000000000000000000000000000000000000000000000000000000000000000000280000 μ := by exact .use) :
    Ev μ r (axLimit s n f) := by
  unfold axLimit
  repeat' with_reducible first
    | assumption | exact .inl .use | exact .inr rfl | exact Cov.use
    | (refine fun (h' : Ev _ _ _) => ?_) | apply axQuick_ev | apply State.put_ev
    | apply Ev.iteR | split | apply Ev.upd | apply Ev.updT | rfl

theorem homeFail_ev {μ : Nat} {r s : State} {n : Nat} {code : Nat} (h : Ev μ r s)
    (hm : Cov 0x160000000000000000000000000000000000000000000000000000000000000000000000000000000000000000000000000000000000000000000000000000000000000000000280000 μ := by exact .use) :
    Ev μ r (homeFail s n code) := by
  unfold homeFail
  repeat' with_reducible first
    | assumption | exact .inl .use | exact .inr rfl | exact Cov.use
    | (refine fun (h' : Ev _ _ _) => ?_) | apply State.put_ev | apply axQuick_ev | apply R.AXn_STAT_FAULT_in | apply R.AXn_STAT_HOMED_in
    | apply Ev.iteR | split | apply Ev.upd | apply Ev.updT | rfl

theorem axHome_ev {μ : Nat} {r s : State} {n : Nat} (h : Ev μ r s)
    (hm : Cov 0x601e0000000000000000000000000000000000000000000000000000000000000000000000000000000000000000000000000000000000000000000000000000000000000000000280000 μ := by exact .use) :
    Ev μ r (axHome s n) := by
  unfold axHome
  repeat' with_reducible first
    | assumption | exact .inl .use | exact .inr rfl | exact Cov.use
    | (extract_lets +onlyGivenNames -underBinder s'; refine Ev.cut (m := μ) (r := r) (x := s') ?_ ?_
       all_goals first | (intro h'; clear_value s') | subst s')
    | (extract_lets +onlyGivenNames -underBinder x'; subst x')
    | (refine fun (h' : Ev _ _ _) => ?_) | apply State.put_ev | apply axSave_ev | apply axSetPos_ev | apply State.setAxis_ev | apply R.AXn_STAT_FAULT_in | apply R.AXn_STAT_HOMED_in | apply R.AXn_STAT_REHOME_ADVISED_in | apply R.AXn_STAT_STATE_in
    | apply Ev.iteR | split | apply Ev.upd | apply Ev.updT | rfl

theorem axTarget_ev {μ : Nat} {r s : State} {n : Nat} {t : Int} (h : Ev μ r s)
    (hm : Cov 0x920000000000000000000000000000000000000000000000000000000000000000000000000000000000000000000000000000000000000000000000000000000000000000000880000 μ := by exact .use) :
    Ev μ r (axTarget s n t) := by
  unfold axTarget
  repeat' with_reducible first
    | assumption | exact .inl .use | exact .inr rfl | exact Cov.use
    | (extract_lets +onlyGivenNames -underBinder s'; refine Ev.cut (m := μ) (r := r) (x := s') ?_ ?_
       all_goals first | (intro h'; clear_value s') | subst s')
    | (extract_lets +onlyGivenNames -underBinder x'; subst x')
    | (refine fun (h' : Ev _ _ _) => ?_) | apply State.mark_ev | apply State.put_ev | apply State.setAxis_ev | apply R.AXn_STAT_FAULT_in | apply R.AXn_STAT_STATE_in | apply R.AXn_STAT_TGTERR_in
    | apply Ev.iteR | split | apply Ev.upd | apply Ev.updT | rfl

theorem axRequests_ev {μ : Nat} {r s : State} {n : Nat} (h : Ev μ r s)
    (hm : Cov 0x609e0000000000000000000000000000000000000000000000000000000000000000000000000000000000000000000000000000000000000000000000000000000000000000000a80000 μ := by exact .use) :
    Ev μ r (axRequests s n) := by
  unfold axRequests
  repeat' with_reducible first
    | assumption | exact .inl .use | exact .inr rfl | exact Cov.use
    | (extract_lets +onlyGivenNames -underBinder s'; refine Ev.cut (m := μ) (r := r) (x := s') ?_ ?_
       all_goals first | (intro h'; clear_value s') | subst s')
    | (extract_lets +onlyGivenNames -underBinder x'; subst x')
    | (refine fun (h' : Ev _ _ _) => ?_) | apply State.setAxis_ev | apply State.mark_ev | apply axQuick_ev | apply State.put_ev | apply axHome_ev | apply axTarget_ev | apply R.AXn_STAT_STATE_in | apply R.AXn_STAT_TGTERR_in
    | apply Ev.iteR | (apply Ev.fst; assumption) | (apply Ev.snd; assumption) | split | apply Ev.upd | apply Ev.updT | rfl

theorem axPlace_ev {μ : Nat} {r s : State} {n : Nat} {w : Nat} {p : Int} {q : Int} (h : Ev μ r s)
    (hm : Cov 0x80000 μ := by exact .use) :
    Ev μ r (axPlace s n w p q) := by
  unfold axPlace
  repeat' with_reducible first
    | assumption | exact .inl .use | exact .inr rfl | exact Cov.use
    | (extract_lets +onlyGivenNames -underBinder s'; refine Ev.cut (m := μ) (r := r) (x := s') ?_ ?_
       all_goals first | (intro h'; clear_value s') | subst s')
    | (extract_lets +onlyGivenNames -underBinder x'; subst x')
    | (refine fun (h' : Ev _ _ _) => ?_) | (intro a b hab) | apply State.setAxis_ev
    | apply Ev.iteR | apply Ev.foldl | (apply Ev.fst; assumption) | (apply Ev.snd; assumption) | split | apply Ev.upd | apply Ev.updT | rfl

theorem axCount_ev {μ : Nat} {r s : State} {n : Nat} (h : Ev μ r s)
    (hm : Cov 0x60000000000000000000000000000000000000000000000000000000000000000000000000000000000000000000000000000000000000000000000000000000000000000000000080000 μ := by exact .use) :
    Ev μ r (axCount s n) := by
  unfold axCount
  repeat' with_reducible first
    | assumption | exact .inl .use | exact .inr rfl | exact Cov.use
    | (extract_lets +onlyGivenNames -underBinder s'; refine Ev.cut (m := μ) (r := r) (x := s') ?_ ?_
       all_goals first | (intro h'; clear_value s') | subst s')
    | (extract_lets +onlyGivenNames -underBinder x'; subst x')
    | (refine fun (h' : Ev _ _ _) => ?_) | (intro a hab) | apply axPut_ev | apply State.setAxis_ev | apply R.AXn_POS_HI_W_in | apply R.AXn_POS_LO_W_in
    | apply Ev.iteR | split | apply Ev.upd | apply Ev.updT | rfl

theorem axGo_ev {μ : Nat} {r s : State} {n : Nat} {q : Int} {v' : Int} {acc' : Int} (h : Ev μ r s)
    (hm : Cov 0x80000 μ := by exact .use) :
    Ev μ r (axGo s n q v' acc') := by
  unfold axGo
  repeat' with_reducible first
    | assumption | exact .inl .use | exact .inr rfl | exact Cov.use
    | (extract_lets +onlyGivenNames -underBinder s'; refine Ev.cut (m := μ) (r := r) (x := s') ?_ ?_
       all_goals first | (intro h'; clear_value s') | subst s')
    | (extract_lets +onlyGivenNames -underBinder x'; subst x')
    | (refine fun (h' : Ev _ _ _) => ?_) | apply axPlace_ev | apply State.setAxis_ev
    | apply Ev.iteR | (apply Ev.fst; assumption) | (apply Ev.snd; assumption) | split | apply Ev.upd | apply Ev.updT | rfl

theorem axMove_ev {μ : Nat} {r s : State} {n : Nat} {v' : Int} {acc' : Int} (h : Ev μ r s)
    (hm : Cov 0x80000 μ := by exact .use) :
    Ev μ r (axMove s n v' acc') := by
  unfold axMove
  repeat' with_reducible first
    | assumption | exact .inl .use | exact .inr rfl | exact Cov.use
    | (refine fun (h' : Ev _ _ _) => ?_) | apply axGo_ev
    | apply Ev.iteR | split | apply Ev.upd | apply Ev.updT | rfl

theorem axBrake_ev {μ : Nat} {r s : State} {n : Nat} (h : Ev μ r s)
    (hm : Cov 0x20000000000000000000000000000000000000000000000000000000000000000000000000000000000000000000000000000000000000000000000000000000000000000000280000 μ := by exact .use) :
    Ev μ r (axBrake s n) := by
  unfold axBrake
  repeat' with_reducible first
    | assumption | exact .inl .use | exact .inr rfl | exact Cov.use
    | (extract_lets +onlyGivenNames -underBinder s'; refine Ev.cut (m := μ) (r := r) (x := s') ?_ ?_
       all_goals first | (intro h'; clear_value s') | subst s')
    | (extract_lets +onlyGivenNames -underBinder x'; subst x')
    | (refine fun (h' : Ev _ _ _) => ?_) | apply axMove_ev | apply axStopped_ev
    | apply Ev.iteR | split | apply Ev.upd | apply Ev.updT | rfl

theorem axFreeAcc_ev {μ : Nat} {r s : State} {n : Nat} (h : Ev μ r s)
    (hm : Cov 0x1000000 μ := by exact .use) :
    Ev μ r (axFreeAcc s n).2 := by
  unfold axFreeAcc
  repeat' with_reducible first
    | assumption | exact .inl .use | exact .inr rfl | exact Cov.use
    | (extract_lets +onlyGivenNames -underBinder s'; refine Ev.cut (m := μ) (r := r) (x := s') ?_ ?_
       all_goals first | (intro h'; clear_value s') | subst s')
    | (extract_lets +onlyGivenNames -underBinder x'; subst x')
    | (refine fun (h' : Ev _ _ _) => ?_) | apply State.freshNat_ev
    | apply Ev.iteR | (apply Ev.fst; assumption) | (apply Ev.snd; assumption) | split | apply Ev.upd | apply Ev.updT | rfl | apply Ev.pair2

theorem axSlow_ev {μ : Nat} {r s : State} {n : Nat} {f : State → State} (hf : ∀ x, Ev μ r x → Ev μ r (f x)) (h : Ev μ r s) (hm : Cov 0x1080000 μ := by exact .use) : Ev μ r (axSlow s n f) := by
  have h1 : Ev μ r (axFreeAcc s n).2 := axFreeAcc_ev h
  have key : ∀ (v acc : Int) (c : Prop) [Decidable c],
      Ev μ r (if c then f (axMove (axFreeAcc s n).2 n v acc) else axMove (axFreeAcc s n).2 n v acc) :=
    fun v acc c _ => Ev.ite (hf _ (axMove_ev h1)) (axMove_ev h1)
  exact key _ _ _

theorem axRun_ev {μ : Nat} {r s : State} {n : Nat} {d : Int} {v : Nat} {g : Option Int} (h : Ev μ r s) (hm : Cov 0x20000000000000000000000000000000000000000000000000000000000000000000000000000000000000000000000000000000000000000000000000000000000000000001280000 μ := by exact .use) : Ev μ r (axRun s n d v g) := by
  have h1 : Ev μ r (axFreeAcc s n).2 := axFreeAcc_ev h
  have key : ∀ (p : Int × Int), Ev μ r (match g with
      | none => axMove (axFreeAcc s n).2 n p.1 p.2
      | some g => if d * g ≤ d * (axAfter (axFreeAcc s n).2 n p.1 / 2 ^ 32)
          then axStopped (axGo (axFreeAcc s n).2 n (g * 2 ^ 32) p.1 p.2) n else axMove (axFreeAcc s n).2 n p.1 p.2) := by
    intro p
    split
    · exact axMove_ev h1
    · exact Ev.ite (axStopped_ev (axGo_ev h1)) (axMove_ev h1)
  exact Ev.ite (axSlow_ev (fun x hx => State.setAxis_ev hx) h) (key _)

theorem axMotion_ev {μ : Nat} {r s : State} {n : Nat} (h : Ev μ r s) (hm : Cov 0x20000000000000000000000000000000000000000000000000000000000000000000000000000000000000000000000000000000000000000000000000000000000000000001280000 μ := by exact .use) : Ev μ r (axMotion s n) := by
  unfold axMotion
  dsimp only
  split
  · split
    · exact axStopped_ev h
    · split
      · exact axSlow_ev (fun x hx => State.setAxis_ev hx) h
      · split
        · exact axStopped_ev h
        · exact axRun_ev h
  · split
    · exact axStopped_ev h
    · exact axSlow_ev (fun x hx => axStopped_ev hx) h
  · split
    · split
      · exact axStopped_ev h
      · exact State.put_ev h (R.AXn_STAT_STATE_in (Cov.mono hm (by decide +kernel)))
    · exact axRun_ev h
  · exact axBrake_ev h
  · exact h

theorem axCheck_ev {μ : Nat} {r s : State} {n : Nat} (h : Ev μ r s)
    (hm : Cov 0x760000000000000000000000000000000000000000000000000000000000000000000000000000000000000000000000000000000000000000000000000000000000000000000280000 μ := by exact .use) :
    Ev μ r (axCheck s n) := by
  unfold axCheck
  repeat' with_reducible first
    | assumption | exact .inl .use | exact .inr rfl | exact Cov.use
    | (extract_lets +onlyGivenNames -underBinder s'; refine Ev.cut (m := μ) (r := r) (x := s') ?_ ?_
       all_goals first | (intro h'; clear_value s') | subst s')
    | (extract_lets +onlyGivenNames -underBinder x'; subst x')
    | (refine fun (h' : Ev _ _ _) => ?_) | apply axLimit_ev | apply homeFail_ev | apply State.setAxis_ev | apply R.AXn_STAT_HWLIM_in | apply R.AXn_STAT_LIMSTOP_in
    | apply Ev.iteR | (apply Ev.fst; assumption) | (apply Ev.snd; assumption) | split | apply Ev.upd | apply Ev.updT | rfl

theorem axError_ev {μ : Nat} {r s : State} {n : Nat} (h : Ev μ r s)
    (hm : Cov 0x80000 μ := by exact .use) :
    Ev μ r (axError s n) := by
  unfold axError
  repeat' with_reducible first
    | assumption | exact .inl .use | exact .inr rfl | exact Cov.use
    | (extract_lets +onlyGivenNames -underBinder s'; refine Ev.cut (m := μ) (r := r) (x := s') ?_ ?_
       all_goals first | (intro h'; clear_value s') | subst s')
    | (extract_lets +onlyGivenNames -underBinder x'; subst x')
    | (refine fun (h' : Ev _ _ _) => ?_) | apply State.setAxis_ev
    | apply Ev.iteR | split | apply Ev.upd | apply Ev.updT | rfl

theorem axEvaluate_ev {μ : Nat} {r s : State} {n : Nat} (h : Ev μ r s)
    (hm : Cov 0x60fe0000000000000000000000000000000000000000000000000000000000000000000000000000000000000000000000000000000000000000000000000000000000000000001a80000 μ := by exact .use) :
    Ev μ r (axEvaluate s n) := by
  unfold axEvaluate
  repeat' with_reducible first
    | assumption | exact .inl .use | exact .inr rfl | exact Cov.use
    | (extract_lets +onlyGivenNames -underBinder s'; refine Ev.cut (m := μ) (r := r) (x := s') ?_ ?_
       all_goals first | (intro h'; clear_value s') | subst s')
    | (extract_lets +onlyGivenNames -underBinder x'; subst x')
    | (refine fun (h' : Ev _ _ _) => ?_) | apply axCheck_ev | apply axRequests_ev | apply axCount_ev | apply axMotion_ev | apply State.put_ev | apply axError_ev | apply R.AXn_STAT_STATE_in
    | apply Ev.iteR | split | apply Ev.upd | apply Ev.updT | rfl

theorem axisEvaluation_ev {μ : Nat} {r s : State} (h : Ev μ r s)
    (hm : Cov 0x60fe0000000000000000000040000000000000000000000000000000000000000000000000000000000000000000000000000000000000022000011000000000000000000000003b81006 μ := by exact .use) :
    Ev μ r (axisEvaluation s) := by
  unfold axisEvaluation
  repeat' with_reducible first
    | assumption | exact .inl .use | exact .inr rfl | exact Cov.use
    | (extract_lets +onlyGivenNames -underBinder s'; refine Ev.cut (m := μ) (r := r) (x := s') ?_ ?_
       all_goals first | (intro h'; clear_value s') | subst s')
    | (extract_lets +onlyGivenNames -underBinder x'; subst x')
    | (refine fun (h' : Ev _ _ _) => ?_) | (intro a b hab) | apply axEvaluate_ev | apply State.runTo_ev
    | apply Ev.iteR | apply Ev.foldl | split | apply Ev.upd | apply Ev.updT | rfl

theorem axWait_ev {μ : Nat} {r s : State} {n : Nat} {f : AxReq → AxReq} (h : Ev μ r s)
    (hm : Cov 0x80000 μ := by exact .use) :
    Ev μ r (axWait s n f) := by
  unfold axWait
  repeat' with_reducible first
    | assumption | exact .inl .use | exact .inr rfl | exact Cov.use
    | (refine fun (h' : Ev _ _ _) => ?_) | apply State.setAxis_ev
    | apply Ev.iteR | split | apply Ev.upd | apply Ev.updT | rfl

theorem targetCommit_ev {μ : Nat} {r s : State} {n : Nat} {v : Nat} (h : Ev μ r s)
    (hm : Cov 0x180800000000000000000000000000000000000000000000000000000000000000000000000000000000000000000000000000000000000000000000000000000000000000000000880000 μ := by exact .use) :
    Ev μ r (targetCommit s n v) := by
  unfold targetCommit
  repeat' with_reducible first
    | assumption | exact .inl .use | exact .inr rfl | exact Cov.use
    | (extract_lets +onlyGivenNames -underBinder s'; refine Ev.cut (m := μ) (r := r) (x := s') ?_ ?_
       all_goals first | (intro h'; clear_value s') | subst s')
    | (extract_lets +onlyGivenNames -underBinder x'; subst x')
    | (refine fun (h' : Ev _ _ _) => ?_) | (intro a hab) | apply axPut_ev | apply axWait_ev | apply State.mark_ev | apply R.AXn_STAT_TGTERR_in | apply R.AXn_TGT_HI_W_in | apply R.AXn_TGT_LO_W_in
    | apply Ev.iteR | split | apply Ev.upd | apply Ev.updT | rfl

theorem limitCommit_ev {μ : Nat} {r s : State} {n : Nat} {positive : Bool} {v : Nat} (h : Ev μ r s)
    (hm : Cov 0x7800000000000000000000000000000000000000000000000000000000000000000000000000000000000000000000000000000000000000000000000000000000000000000000000000000 μ := by exact .use) :
    Ev μ r (limitCommit s n positive v) := by
  unfold limitCommit
  repeat' with_reducible first
    | assumption | exact .inl .use | exact .inr rfl | exact Cov.use
    | (refine fun (h' : Ev _ _ _) => ?_) | apply axPut_ev | apply R.AXn_SLIMN_HI_W_in | apply R.AXn_SLIMN_LO_W_in | apply R.AXn_SLIMP_HI_W_in | apply R.AXn_SLIMP_LO_W_in
    | apply Ev.iteR | split | apply Ev.upd | apply Ev.updT | rfl

theorem axConfirm_ev {μ : Nat} {r s : State} {n : Nat} {ok : Bool} (h : Ev μ r s)
    (hm : Cov 0x80000000000000000000000000000000000000000000000000000000000000000000000000000000000000000000000000000000000000000000000000000000000000000000080000 μ := by exact .use) :
    Ev μ r (axConfirm s n ok) := by
  unfold axConfirm
  repeat' with_reducible first
    | assumption | exact .inl .use | exact .inr rfl | exact Cov.use
    | (extract_lets +onlyGivenNames -underBinder s'; refine Ev.cut (m := μ) (r := r) (x := s') ?_ ?_
       all_goals first | (intro h'; clear_value s') | subst s')
    | (extract_lets +onlyGivenNames -underBinder x'; subst x')
    | (refine fun (h' : Ev _ _ _) => ?_) | apply State.setAxis_ev | apply State.put_ev | apply R.AXn_STAT_REHOME_ADVISED_in
    | apply Ev.iteR | split | apply Ev.upd | apply Ev.updT | rfl

theorem axEnable_ev {μ : Nat} {r s : State} {n : Nat} (h : Ev μ r s)
    (hm : Cov 0x80000000000000000000000000000000000000000000000000000000000000000000000000000000000000000000000000000000000000000000000000000000000000000000080000 μ := by exact .use) :
    Ev μ r (axEnable s n) := by
  unfold axEnable
  repeat' with_reducible first
    | assumption | exact .inl .use | exact .inr rfl | exact Cov.use
    | (extract_lets +onlyGivenNames -underBinder s'; refine Ev.cut (m := μ) (r := r) (x := s') ?_ ?_
       all_goals first | (intro h'; clear_value s') | subst s')
    | (extract_lets +onlyGivenNames -underBinder x'; subst x')
    | (refine fun (h' : Ev _ _ _) => ?_) | apply State.setAxis_ev | apply axConfirm_ev
    | apply Ev.iteR | split | apply Ev.upd | apply Ev.updT | rfl

theorem axOp_ev {μ : Nat} {r s : State} {n : Nat} {op : Nat} (h : Ev μ r s)
    (hm : Cov 0x80000000000000000000000000000000000000000000000000000000000000000000000000000000000000000000000000000000000000000000000000000000000000000000080000 μ := by exact .use) :
    Ev μ r (axOp s n op) := by
  unfold axOp
  repeat' with_reducible first
    | assumption | exact .inl .use | exact .inr rfl | exact Cov.use
    | (refine fun (h' : Ev _ _ _) => ?_) | (intro a hab) | apply axWait_ev | apply axEnable_ev | apply State.setAxis_ev
    | apply Ev.iteR | split | apply Ev.upd | apply Ev.updT | rfl

theorem homingEdge_ev {μ : Nat} {r s : State} {n : Nat} (h : Ev μ r s)
    (hm : Cov 0x6680e0000000000000000000000000000000000000000000000000000000000000000000000000000000000000000000000000000000000000000000000000000000000000000000880000 μ := by exact .use) :
    Ev μ r (homingEdge s n) := by
  unfold homingEdge
  repeat' with_reducible first
    | assumption | exact .inl .use | exact .inr rfl | exact Cov.use
    | (extract_lets +onlyGivenNames -underBinder s'; refine Ev.cut (m := μ) (r := r) (x := s') ?_ ?_
       all_goals first | (intro h'; clear_value s') | subst s')
    | (extract_lets +onlyGivenNames -underBinder x'; subst x')
    | (refine fun (h' : Ev _ _ _) => ?_) | apply State.bump_ev | apply axSetEnc_ev | apply axSetPos_ev | apply State.setAxis_ev | apply State.put_ev | apply R.AXn_STAT_CHATTER_in | apply R.AXn_STAT_HOMED_in | apply R.AXn_STAT_REHOME_ADVISED_in | apply R.AXn_STAT_STATE_in
    | apply Ev.iteR | (apply Ev.fst; assumption) | (apply Ev.snd; assumption) | split | apply Ev.upd | apply Ev.updT | rfl

theorem limitSwitch_ev {μ : Nat} {r s : State} {n : Nat} {positive : Bool} (h : Ev μ r s)
    (hm : Cov 0x6605e0000000000000000000000000000000000000000000000000000000000000000000000000000000000000000000000000000000000000000000000000000000000000000000280000 μ := by exact .use) :
    Ev μ r (limitSwitch s n positive) := by
  unfold limitSwitch
  repeat' with_reducible first
    | assumption | exact .inl .use | exact .inr rfl | exact Cov.use
    | (extract_lets +onlyGivenNames -underBinder s'; refine Ev.cut (m := μ) (r := r) (x := s') ?_ ?_
       all_goals first | (intro h'; clear_value s') | subst s')
    | (extract_lets +onlyGivenNames -underBinder x'; subst x')
    | (refine fun (h' : Ev _ _ _) => ?_) | (intro a hab) | apply State.setAxis_ev | apply homeFail_ev | apply axSetEnc_ev | apply axSetPos_ev | apply State.put_ev | apply axLimit_ev | apply R.AXn_STAT_HWLIM_in | apply R.AXn_STAT_REHOME_ADVISED_in
    | apply Ev.iteR | (apply Ev.fst; assumption) | (apply Ev.snd; assumption) | split | apply Ev.upd | apply Ev.updT | rfl

theorem driverFault_ev {μ : Nat} {r s : State} {n : Nat} (h : Ev μ r s)
    (hm : Cov 0x1e0000000000000000000000000000000000000000000000000000000000000000000000000000000000000000000000000000000000000000000000000000000000000000000280000 μ := by exact .use) :
    Ev μ r (driverFault s n) := by
  unfold driverFault
  repeat' with_reducible first
    | assumption | exact .inl .use | exact .inr rfl | exact Cov.use
    | (extract_lets +onlyGivenNames -underBinder s'; refine Ev.cut (m := μ) (r := r) (x := s') ?_ ?_
       all_goals first | (intro h'; clear_value s') | subst s')
    | (extract_lets +onlyGivenNames -underBinder x'; subst x')
    | (refine fun (h' : Ev _ _ _) => ?_) | apply State.setAxis_ev | apply State.put_ev | apply homeFail_ev | apply axQuick_ev | apply axConfirm_ev | apply R.AXn_STAT_FAULT_in | apply R.AXn_STAT_REHOME_ADVISED_in
    | apply Ev.iteR | split | apply Ev.upd | apply Ev.updT | rfl

theorem followingError_ev {μ : Nat} {r s : State} {n : Nat} (h : Ev μ r s)
    (hm : Cov 0x120000000000000000000040000000000000000000000000000000000000000000000000000000000000000000000000000000000000022000011000000000000000000000002a81006 μ := by exact .use) :
    Ev μ r (followingError s n) := by
  unfold followingError
  repeat' with_reducible first
    | assumption | exact .inl .use | exact .inr rfl | exact Cov.use
    | (extract_lets +onlyGivenNames -underBinder s'; refine Ev.cut (m := μ) (r := r) (x := s') ?_ ?_
       all_goals first | (intro h'; clear_value s') | subst s')
    | (extract_lets +onlyGivenNames -underBinder x'; subst x')
    | (refine fun (h' : Ev _ _ _) => ?_) | apply axError_ev | apply State.put_ev | apply axQuick_ev | apply State.runElapsed_ev | apply R.AXn_STAT_FAULT_in
    | apply Ev.iteR | (apply Ev.fst; assumption) | (apply Ev.snd; assumption) | split | apply Ev.upd | apply Ev.updT | rfl

theorem latchEdge_ev {μ : Nat} {r s : State} {n : Nat} {tap : Nat} (h : Ev μ r s)
    (hm : Cov 0x3f0000004000000000000000000000000000000000000000000000000000000000000000000000000000000000000000000000000000000000000000000000000000000000000000000000800000 μ := by exact .use) :
    Ev μ r (latchEdge s n tap) := by
  unfold latchEdge
  repeat' with_reducible first
    | assumption | exact .inl .use | exact .inr rfl | exact Cov.use
    | (extract_lets +onlyGivenNames -underBinder s'; refine Ev.cut (m := μ) (r := r) (x := s') ?_ ?_
       all_goals first | (intro h'; clear_value s') | subst s')
    | (extract_lets +onlyGivenNames -underBinder x'; subst x')
    | (refine fun (h' : Ev _ _ _) => ?_) | apply axPut_ev | apply State.put_ev | apply State.mark_ev | apply R.AXn_LENC_HI_W_in | apply R.AXn_LENC_LO_W_in | apply R.AXn_LPM_HI_W_in | apply R.AXn_LPM_LO_W_in | apply R.AXn_LPOS_HI_W_in | apply R.AXn_LPOS_LO_W_in | apply R.AXn_STAT_LVALID_in
    | apply Ev.iteR | split | apply Ev.upd | apply Ev.updT | rfl

theorem ssiRead_ev {μ : Nat} {r s : State} {n : Nat} {bits : Nat} (h : Ev μ r s)
    (hm : Cov 0x600080000000000000000000000000000000000000000000000000000000000000000000000000000000000000000000000000000000000000000000000000000000000000000000080000 μ := by exact .use) :
    Ev μ r (ssiRead s n bits) := by
  unfold ssiRead
  repeat' with_reducible first
    | assumption | exact .inl .use | exact .inr rfl | exact Cov.use
    | (extract_lets +onlyGivenNames -underBinder s'; refine Ev.cut (m := μ) (r := r) (x := s') ?_ ?_
       all_goals first | (intro h'; clear_value s') | subst s')
    | (extract_lets +onlyGivenNames -underBinder x'; subst x')
    | (refine fun (h' : Ev _ _ _) => ?_) | apply axConfirm_ev | apply axError_ev | apply axSetEnc_ev
    | apply Ev.iteR | split | apply Ev.upd | apply Ev.updT | rfl

theorem encoderTransition_ev {μ : Nat} {r s : State} {n : Nat} {qa : Bool} {qb : Bool} {qz : Bool} (h : Ev μ r s)
    (hm : Cov 0x603000000000000000000000000000000000000000000000000000000000000000000000000000000000000000000000000000000000000000000000000000000000000000000000880000 μ := by exact .use) :
    Ev μ r (encoderTransition s n qa qb qz) := by
  unfold encoderTransition
  repeat' with_reducible first
    | assumption | exact .inl .use | exact .inr rfl | exact Cov.use
    | (extract_lets +onlyGivenNames -underBinder s'; refine Ev.cut (m := μ) (r := r) (x := s') ?_ ?_
       all_goals first | (intro h'; clear_value s') | subst s')
    | (extract_lets +onlyGivenNames -underBinder x'; subst x')
    | (refine fun (h' : Ev _ _ _) => ?_) | apply State.setAxis_ev | apply State.mark_ev | apply axSetEnc_ev | apply axError_ev | apply R.AXn_STAT_ENCERR_in | apply R.AXn_STAT_ZSEEN_in
    | apply Ev.iteR | split | apply Ev.upd | apply Ev.updT | rfl

theorem axRestore_ev {μ : Nat} {r s : State} {n : Nat} (h : Ev μ r s)
    (hm : Cov 0x660080000000000000000000000000000000000000000000000000000000000000000000000000000000000000000000000000000000000000000000000000000000000000000000080000 μ := by exact .use) :
    Ev μ r (axRestore s n) := by
  unfold axRestore
  repeat' with_reducible first
    | assumption | exact .inl .use | exact .inr rfl | exact Cov.use
    | (extract_lets +onlyGivenNames -underBinder s'; refine Ev.cut (m := μ) (r := r) (x := s') ?_ ?_
       all_goals first | (intro h'; clear_value s') | subst s')
    | (extract_lets +onlyGivenNames -underBinder x'; subst x')
    | (refine fun (h' : Ev _ _ _) => ?_) | apply axSetEnc_ev | apply axSetPos_ev | apply State.setAxis_ev | apply axConfirm_ev
    | apply Ev.iteR | (apply Ev.fst; assumption) | (apply Ev.snd; assumption) | split | apply Ev.upd | apply Ev.updT | rfl

theorem setRefOk_ev {μ : Nat} {r s : State} {n : Nat} {b : Bool} (h : Ev μ r s)
    (hm : Cov 0x6000000000000000000000000000000000000000 μ := by exact .use) :
    Ev μ r (setRefOk s n b) := by
  unfold setRefOk
  repeat' with_reducible first
    | assumption | exact .inl .use | exact .inr rfl | exact Cov.use
    | (refine fun (h' : Ev _ _ _) => ?_) | apply State.put_ev | apply R.CK_STATUS_REF0_OK_in | apply R.CK_STATUS_REF1_OK_in
    | apply Ev.iteR | split | apply Ev.upd | apply Ev.updT | rfl

theorem setRefEdge_ev {μ : Nat} {r s : State} {n : Nat} {b : Bool} (h : Ev μ r s)
    (hm : Cov 0x4 μ := by exact .use) :
    Ev μ r (setRefEdge s n b) := by
  unfold setRefEdge
  repeat' with_reducible first
    | assumption | exact .inl .use | exact .inr rfl | exact Cov.use
    | (refine fun (h' : Ev _ _ _) => ?_)
    | apply Ev.iteR | split | apply Ev.upd | apply Ev.updT | rfl

theorem lineStarts_ev {μ : Nat} {r s : State} (h : Ev μ r s)
    (hm : Cov 0x4 μ := by exact .use) :
    Ev μ r (lineStarts s) := by
  unfold lineStarts
  repeat' with_reducible first
    | assumption | exact .inl .use | exact .inr rfl | exact Cov.use
    | (refine fun (h' : Ev _ _ _) => ?_)
    | apply Ev.iteR | split | apply Ev.upd | apply Ev.updT | rfl

theorem linksRelock_ev {μ : Nat} {r s : State} (h : Ev μ r s)
    (hm : Cov 0x8004005e000000000000000000000000000000000000000000000000000000000000000000000000000000000000000000000000000000000000000000002800000 μ := by exact .use) :
    Ev μ r (linksRelock s) := by
  unfold linksRelock
  repeat' with_reducible first
    | assumption | exact .inl .use | exact .inr rfl | exact Cov.use
    | (extract_lets +onlyGivenNames -underBinder s'; refine Ev.cut (m := μ) (r := r) (x := s') ?_ ?_
       all_goals first | (intro h'; clear_value s') | subst s')
    | (extract_lets +onlyGivenNames -underBinder x'; subst x')
    | (refine fun (h' : Ev _ _ _) => ?_) | (intro a b hab) | (intro a hab) | apply State.irq_ev | apply State.put_ev | apply twinBlock_ev | apply R.LK_SPn_STAT_UP_in | apply R.LK_STATUS_GEN_in | apply R.LK_STATUS_PCIE_UP_in | apply R.LK_STATUS_WIDTH_in
    | apply Ev.iteR | apply Ev.foldl | split | apply Ev.upd | apply Ev.updT | rfl

theorem relock_ev {μ : Nat} {r s : State} {loss : Nat} {act : Option Nat} (h : Ev μ r s)
    (hm : Cov 0x2000000000000008004005e00018000000000000000000600000000000000000007e00000004400000000c0002003009c0000000009c22020019001f260011000d40188800078b9bf6 μ := by exact .use) :
    Ev μ r (relock s loss act) := by
  unfold relock
  repeat' with_reducible first
    | assumption | exact .inl .use | exact .inr rfl | exact Cov.use
    | (extract_lets +onlyGivenNames -underBinder s'; refine Ev.cut (m := μ) (r := r) (x := s') ?_ ?_
       all_goals first | (intro h'; clear_value s') | subst s')
    | (extract_lets +onlyGivenNames -underBinder x'; subst x')
    | (refine fun (h' : Ev _ _ _) => ?_) | apply State.put_ev | apply linksRelock_ev | apply enterRecovery_ev | apply forcePoor_ev | apply testAbort_ev | apply lineStarts_ev | apply R.CK_STATUS_ACT_in | apply R.CK_STATUS_LOCK_in | apply R.CK_STATUS_LOSS_in | apply R.CK_STATUS_SHADOW_in
    | apply Ev.iteR | (apply Ev.fst; assumption) | (apply Ev.snd; assumption) | split | apply Ev.upd | apply Ev.updT | rfl

theorem edgeGap_ev {μ : Nat} {r s : State} (h : Ev μ r s)
    (hm : Cov 0x2000000000000008004005e00018000000000000000000600000000000000000007e00000004400000000c0002003009c000000000fc22020019001f260011000d40188800078b9bf6 μ := by exact .use) :
    Ev μ r (edgeGap s) := by
  unfold edgeGap
  repeat' with_reducible first
    | assumption | exact .inl .use | exact .inr rfl | exact Cov.use
    | (extract_lets +onlyGivenNames -underBinder s'; refine Ev.cut (m := μ) (r := r) (x := s') ?_ ?_
       all_goals first | (intro h'; clear_value s') | subst s')
    | (extract_lets +onlyGivenNames -underBinder x'; subst x')
    | (refine fun (h' : Ev _ _ _) => ?_) | apply setRefOk_ev | apply setRefEdge_ev | apply relock_ev
    | apply Ev.iteR | split | apply Ev.upd | apply Ev.updT | rfl

theorem tuningEnd_ev {μ : Nat} {r s : State} (h : Ev μ r s)
    (hm : Cov 0x2000000000000008004005e00018000000000000000000600000000000000000007e00000004400000000c0002003009c0000000009c22020019001f260011000d40188800078b9bf6 μ := by exact .use) :
    Ev μ r (tuningEnd s) := by
  unfold tuningEnd
  repeat' with_reducible first
    | assumption | exact .inl .use | exact .inr rfl | exact Cov.use
    | (refine fun (h' : Ev _ _ _) => ?_) | apply relock_ev
    | apply Ev.iteR | split | apply Ev.upd | apply Ev.updT | rfl

theorem lockDeclare_ev {μ : Nat} {r s : State} (h : Ev μ r s)
    (hm : Cov 0x10c00000000000000000000000000000000800216 μ := by exact .use) :
    Ev μ r (lockDeclare s) := by
  unfold lockDeclare
  repeat' with_reducible first
    | assumption | exact .inl .use | exact .inr rfl | exact Cov.use
    | (extract_lets +onlyGivenNames -underBinder s'; refine Ev.cut (m := μ) (r := r) (x := s') ?_ ?_
       all_goals first | (intro h'; clear_value s') | subst s')
    | (extract_lets +onlyGivenNames -underBinder x'; subst x')
    | (refine fun (h' : Ev _ _ _) => ?_) | apply State.put_ev | apply State.bump_ev | apply unsettleAll_ev | apply R.CK_STATUS_LOCK_in | apply R.CK_STATUS_RELOCKS_in | apply R.CK_STATUS_SHADOW_in
    | apply Ev.iteR | (apply Ev.fst; assumption) | (apply Ev.snd; assumption) | split | apply Ev.upd | apply Ev.updT | rfl

theorem lockWindow_ev {μ : Nat} {r s : State} {count : Nat} (h : Ev μ r s)
    (hm : Cov 0x2000000000000008004005e00018000000000000000000600000000000000000007e00000004400000000c0002003009c000000021fc22020019001f260011000d40188800078b9bf6 μ := by exact .use) :
    Ev μ r (lockWindow s count) := by
  unfold lockWindow
  repeat' with_reducible first
    | assumption | exact .inl .use | exact .inr rfl | exact Cov.use
    | (extract_lets +onlyGivenNames -underBinder s'; refine Ev.cut (m := μ) (r := r) (x := s') ?_ ?_
       all_goals first | (intro h'; clear_value s') | subst s')
    | (extract_lets +onlyGivenNames -underBinder x'; subst x')
    | (refine fun (h' : Ev _ _ _) => ?_) | apply setRefEdge_ev | apply State.runElapsed_ev | apply State.put_ev | apply setRefOk_ev | apply relock_ev | apply lockDeclare_ev | apply R.CK_LOCKWIN_COUNT_in
    | apply Ev.iteR | split | apply Ev.upd | apply Ev.updT | rfl

theorem refWrite_ev {μ : Nat} {r s : State} {v : Nat} (h : Ev μ r s)
    (hm : Cov 0x2000000000000008004005e00018000000000000000000600000000000000000007e00000004400000000c0002003009c00000001e9c22020019001f260011000d40188800078b9bf6 μ := by exact .use) :
    Ev μ r (refWrite s v) := by
  unfold refWrite
  repeat' with_reducible first
    | assumption | exact .inl .use | exact .inr rfl | exact Cov.use
    | (extract_lets +onlyGivenNames -underBinder s'; refine Ev.cut (m := μ) (r := r) (x := s') ?_ ?_
       all_goals first | (intro h'; clear_value s') | subst s')
    | (extract_lets +onlyGivenNames -underBinder x'; subst x')
    | (refine fun (h' : Ev _ _ _) => ?_) | apply State.put_ev | apply relock_ev | apply R.CK_REF_AUTO_in | apply R.CK_REF_REF0_EN_in | apply R.CK_REF_REF1_EN_in | apply R.CK_REF_SEL_in
    | apply Ev.iteR | (apply Ev.fst; assumption) | (apply Ev.snd; assumption) | split | apply Ev.upd | apply Ev.updT | rfl

theorem bootMeasure_ev {μ : Nat} {r s : State} (h : Ev μ r s)
    (hm : Cov 0x28000000000000000000000000000000000000000000000000000000000000000000000000000000000000000000000000000000000008000 μ := by exact .use) :
    Ev μ r (bootMeasure s) := by
  unfold bootMeasure
  repeat' with_reducible first
    | assumption | exact .inl .use | exact .inr rfl | exact Cov.use
    | (refine fun (h' : Ev _ _ _) => ?_) | apply mrExtend_ev
    | apply Ev.iteR | split | apply Ev.upd | apply Ev.updT | rfl

theorem fwStart_ev {μ : Nat} {r s : State} {n : Nat} {fallen : Bool} (h : Ev μ r s)
    (hm : Cov 0x1800028000000000000000000000000000000000000000000000000000000000000000000000000000000000000000000000000000000000008004 μ := by exact .use) :
    Ev μ r (fwStart s n fallen) := by
  unfold fwStart
  repeat' with_reducible first
    | assumption | exact .inl .use | exact .inr rfl | exact Cov.use
    | (extract_lets +onlyGivenNames -underBinder s'; refine Ev.cut (m := μ) (r := r) (x := s') ?_ ?_
       all_goals first | (intro h'; clear_value s') | subst s')
    | (extract_lets +onlyGivenNames -underBinder x'; subst x')
    | (refine fun (h' : Ev _ _ _) => ?_) | apply mrExtend_ev | apply State.put_ev | apply R.SEC_FW_STATUS_BOOTFALL_in | apply R.SEC_FW_STATUS_RUN_in
    | apply Ev.iteR | split | apply Ev.upd | apply Ev.updT | rfl

theorem bootFirmware_ev {μ : Nat} {r s : State} (h : Ev μ r s)
    (hm : Cov 0x1c00028000000000000000000000000000000000000000000000000000000000000000000000000000000000000000000000000000000000008014 μ := by exact .use) :
    Ev μ r (bootFirmware s) := by
  unfold bootFirmware
  repeat' with_reducible first
    | assumption | exact .inl .use | exact .inr rfl | exact Cov.use
    | (extract_lets +onlyGivenNames -underBinder s'; refine Ev.cut (m := μ) (r := r) (x := s') ?_ ?_
       all_goals first | (intro h'; clear_value s') | subst s')
    | (extract_lets +onlyGivenNames -underBinder x'; subst x')
    | (refine fun (h' : Ev _ _ _) => ?_) | apply fwStart_ev | apply State.put_ev | apply R.SEC_FW_STATUS_CODE_in
    | apply Ev.iteR | (apply Ev.fst; assumption) | (apply Ev.snd; assumption) | split | apply Ev.upd | apply Ev.updT | rfl

theorem bootRun_ev {μ : Nat} {r s : State} (h : Ev μ r s)
    (hm : Cov 0x1c00028000000000000000000000000000000000000000000000000000000000000000000000000000000000000000000000000000000000008014 μ := by exact .use) :
    Ev μ r (bootRun s) := by
  unfold bootRun
  repeat' with_reducible first
    | assumption | exact .inl .use | exact .inr rfl | exact Cov.use
    | (refine fun (h' : Ev _ _ _) => ?_) | apply bootFirmware_ev | apply bootMeasure_ev
    | apply Ev.iteR | split | apply Ev.upd | apply Ev.updT | rfl

theorem holdEnd_ev {μ : Nat} {r s : State} (h : Ev μ r s)
    (hm : Cov 0x10400000000000000000000000000000000000800004 μ := by exact .use) :
    Ev μ r (holdEnd s) := by
  unfold holdEnd
  repeat' with_reducible first
    | assumption | exact .inl .use | exact .inr rfl | exact Cov.use
    | (extract_lets +onlyGivenNames -underBinder s'; refine Ev.cut (m := μ) (r := r) (x := s') ?_ ?_
       all_goals first | (intro h'; clear_value s') | subst s')
    | (extract_lets +onlyGivenNames -underBinder x'; subst x')
    | (refine fun (h' : Ev _ _ _) => ?_) | apply State.put_ev | apply State.mark_ev | apply R.CK_HOLD_MS_in | apply R.CK_RSTCAUSE_RESET_HELD_LONG_in
    | apply Ev.iteR | split | apply Ev.upd | apply Ev.updT | rfl

theorem resetRelease_ev {μ : Nat} {r s : State} {fselHigh : Bool} (h : Ev μ r s)
    (hm : Cov 0x660080000000000000000000040000001c000280000004001000000000000000000000000000000000000000000000000000000000104010220200190000000000000000000000028c9016 μ := by exact .use) :
    Ev μ r (resetRelease s fselHigh) := by
  unfold resetRelease
  repeat' with_reducible first
    | assumption | exact .inl .use | exact .inr rfl | exact Cov.use
    | (extract_lets +onlyGivenNames -underBinder s'; refine Ev.cut (m := μ) (r := r) (x := s') ?_ ?_
       all_goals first | (intro h'; clear_value s') | subst s')
    | (extract_lets +onlyGivenNames -underBinder x'; subst x')
    | (refine fun (h' : Ev _ _ _) => ?_) | (intro a b hab) | apply holdEnd_ev | apply State.runElapsed_ev | apply coarseLoad_ev | apply runResume_ev | apply State.put_ev | apply lineStarts_ev | apply bootRun_ev | apply axRestore_ev | apply R.CK_STATUS_ACT_in | apply R.SAF_LRST_PRESSED_in | apply R.SAF_STATUS_FSEL_in
    | apply Ev.iteR | apply Ev.foldl | (apply Ev.fst; assumption) | (apply Ev.snd; assumption) | split | apply Ev.upd | apply Ev.updT | rfl

theorem bootRole_ev {μ : Nat} {r s : State} (h : Ev μ r s)
    (hm : Cov 0x4000000000000000000000000000000000000000000007e0000000000000000000000000000800000000000000000000000060011000000000000038380a0 μ := by exact .use) :
    Ev μ r (bootRole s) := by
  unfold bootRole
  repeat' with_reducible first
    | assumption | exact .inl .use | exact .inr rfl | exact Cov.use
    | (extract_lets +onlyGivenNames -underBinder s'; refine Ev.cut (m := μ) (r := r) (x := s') ?_ ?_
       all_goals first | (intro h'; clear_value s') | subst s')
    | (extract_lets +onlyGivenNames -underBinder x'; subst x')
    | (refine fun (h' : Ev _ _ _) => ?_) | (intro a b hab) | (intro a hab) | apply State.put_ev | apply setRole_ev | apply R.LEGn_STATUS_DRIVE_in
    | apply Ev.iteR | apply Ev.foldl | split | apply Ev.upd | apply Ev.updT | rfl

theorem bootComplete_ev {μ : Nat} {r s : State} {ok : Bool} (h : Ev μ r s)
    (hm : Cov 0x20100400000000000000041c03f81c000280f83400e78062000000001e003000007e08000004ff87ff9fecd703f0300fffffc000000030000000001f660011000d4018c80007cfdff4 μ := by exact .use) :
    Ev μ r (bootComplete s ok) := by
  unfold bootComplete
  repeat' with_reducible first
    | assumption | exact .inl .use | exact .inr rfl | exact Cov.use
    | (extract_lets +onlyGivenNames -underBinder s'; refine Ev.cut (m := μ) (r := r) (x := s') ?_ ?_
       all_goals first | (intro h'; clear_value s') | subst s')
    | (extract_lets +onlyGivenNames -underBinder x'; subst x')
    | (refine fun (h' : Ev _ _ _) => ?_) | apply bootRun_ev | apply bootRole_ev | apply officeStart_ev | apply measureIdent_ev | apply measureEnrolment_ev | apply journalAdd_ev | apply lockoutEnter_ev | apply latchCause_ev | apply activateMarked_ev | apply setMode_ev
    | apply Ev.iteR | split | apply Ev.upd | apply Ev.updT | rfl

theorem wdogRestart_ev {μ : Nat} {r s : State} (h : Ev μ r s)
    (hm : Cov 0x4 μ := by exact .use) :
    Ev μ r (wdogRestart s) := by
  unfold wdogRestart
  repeat' with_reducible first
    | assumption | exact .inl .use | exact .inr rfl | exact Cov.use
    | (refine fun (h' : Ev _ _ _) => ?_)
    | apply Ev.iteR | split | apply Ev.upd | apply Ev.updT | rfl

theorem wdogKick_ev {μ : Nat} {r s : State} {a1 : Nat} {code : Nat} (h : Ev μ r s)
    (hm : Cov 0x1e00000000810004 μ := by exact .use) :
    Ev μ r (wdogKick s a1 code) := by
  unfold wdogKick
  repeat' with_reducible first
    | assumption | exact .inl .use | exact .inr rfl | exact Cov.use
    | (refine fun (h' : Ev _ _ _) => ?_) | apply wdogRestart_ev | apply addrError_ev
    | apply Ev.iteR | split | apply Ev.upd | apply Ev.updT | rfl

theorem wdogConfig_ev {μ : Nat} {r s : State} {v : Nat} (h : Ev μ r s)
    (hm : Cov 0x20000000000000000000000000000000000000000004 μ := by exact .use) :
    Ev μ r (wdogConfig s v) := by
  unfold wdogConfig
  repeat' with_reducible first
    | assumption | exact .inl .use | exact .inr rfl | exact Cov.use
    | (refine fun (h' : Ev _ _ _) => ?_) | apply wdogRestart_ev | apply State.put_ev | apply R.CK_WDOG_CFG_TIMEOUT_in
    | apply Ev.iteR | split | apply Ev.upd | apply Ev.updT | rfl

theorem wdogExpire_ev {μ : Nat} {r s : State} (h : Ev μ r s)
    (hm : Cov 0x10080000000000000004f807904400000000000000006200000000001870000000000000000000000000000000000000000007800022000011000000000000000000000006cfffff μ := by exact .use) :
    Ev μ r (wdogExpire s) := by
  unfold wdogExpire
  repeat' with_reducible first
    | assumption | exact .inl .use | exact .inr rfl | exact Cov.use
    | (refine fun (h' : Ev _ _ _) => ?_) | apply resetAssert_ev | apply State.runElapsed_ev | exact RegIn.any .use
    | apply Ev.iteR | split | apply Ev.upd | apply Ev.updT | rfl

theorem pinLow_ev {μ : Nat} {r s : State} (h : Ev μ r s)
    (hm : Cov 0x10080000000000000004f807904400000000000000006200000000001870000000000000000000000000000000000000000007800022000000000000000000000000000006cfffff μ := by exact .use) :
    Ev μ r (pinLow s) := by
  unfold pinLow
  repeat' with_reducible first
    | assumption | exact .inl .use | exact .inr rfl | exact Cov.use
    | (extract_lets +onlyGivenNames -underBinder s'; refine Ev.cut (m := μ) (r := r) (x := s') ?_ ?_
       all_goals first | (intro h'; clear_value s') | subst s')
    | (extract_lets +onlyGivenNames -underBinder x'; subst x')
    | (refine fun (h' : Ev _ _ _) => ?_) | apply resetAssert_ev | exact RegIn.any .use
    | apply Ev.iteR | split | apply Ev.upd | apply Ev.updT | rfl

theorem hostReset_ev {μ : Nat} {r s : State} {key : Nat} (h : Ev μ r s)
    (hm : Cov 0x10080000000000000004f807904400000000000000006200000000001870000000000000000000000000000000000000000007800022000000000000000000000000000006cfffff μ := by exact .use) :
    Ev μ r (hostReset s key) := by
  unfold hostReset
  repeat' with_reducible first
    | assumption | exact .inl .use | exact .inr rfl | exact Cov.use
    | (refine fun (h' : Ev _ _ _) => ?_) | apply resetAssert_ev | exact RegIn.any .use
    | apply Ev.iteR | split | apply Ev.upd | apply Ev.updT | rfl

theorem wake_ev {μ : Nat} {r s : State} {c : WakeCause} (h : Ev μ r s)
    (hm : Cov 0x10080000000000000004f807904400000000000007806200000000001870000000000000000000000000000000000000000307800022000000000000000000000000400006cfffff μ := by exact .use) :
    Ev μ r (wake s c) := by
  unfold wake
  repeat' with_reducible first
    | assumption | exact .inl .use | exact .inr rfl | exact Cov.use
    | (extract_lets +onlyGivenNames -underBinder s'; refine Ev.cut (m := μ) (r := r) (x := s') ?_ ?_
       all_goals first | (intro h'; clear_value s') | subst s')
    | (extract_lets +onlyGivenNames -underBinder x'; subst x')
    | (refine fun (h' : Ev _ _ _) => ?_) | apply latchCause_ev | apply wakeUp_ev | apply alarmWake_ev | exact RegIn.any .use
    | apply Ev.iteR | (apply Ev.fst; assumption) | (apply Ev.snd; assumption) | split | apply Ev.upd | apply Ev.updT | rfl

theorem portUp_ev {μ : Nat} {r s : State} {n : Nat} (h : Ev μ r s)
    (hm : Cov 0x380000040000000000000000000000000000000000000000000000000000000000000000000000000000000000000000000000000000000000000000000002800000 μ := by exact .use) :
    Ev μ r (portUp s n) := by
  unfold portUp
  repeat' with_reducible first
    | assumption | exact .inl .use | exact .inr rfl | exact Cov.use
    | (extract_lets +onlyGivenNames -underBinder s'; refine Ev.cut (m := μ) (r := r) (x := s') ?_ ?_
       all_goals first | (intro h'; clear_value s') | subst s')
    | (extract_lets +onlyGivenNames -underBinder x'; subst x')
    | (refine fun (h' : Ev _ _ _) => ?_) | apply State.put_ev | apply State.irq_ev | apply R.LK_SPn_STAT_PSTATE_in | apply R.LK_SPn_STAT_RATE_in | apply R.LK_SPn_STAT_UP_in
    | apply Ev.iteR | split | apply Ev.upd | apply Ev.updT | rfl

theorem portDown_ev {μ : Nat} {r s : State} {n : Nat} (h : Ev μ r s)
    (hm : Cov 0x280000040000000000000000000000000000000000000000000000000000000000000000000000000000000000000000000000000000000000000000000003800000 μ := by exact .use) :
    Ev μ r (portDown s n) := by
  unfold portDown
  repeat' with_reducible first
    | assumption | exact .inl .use | exact .inr rfl | exact Cov.use
    | (extract_lets +onlyGivenNames -underBinder s'; refine Ev.cut (m := μ) (r := r) (x := s') ?_ ?_
       all_goals first | (intro h'; clear_value s') | subst s')
    | (extract_lets +onlyGivenNames -underBinder x'; subst x')
    | (refine fun (h' : Ev _ _ _) => ?_) | apply State.irq_ev | apply State.put_ev | apply State.freshNat_ev | apply R.LK_SPn_STAT_PSTATE_in | apply R.LK_SPn_STAT_UP_in
    | apply Ev.iteR | split | apply Ev.upd | apply Ev.updT | rfl

theorem ptpMessage_ev {μ : Nat} {r s : State} {a1 : PtpMessage} (h : Ev μ r s)
    (hm : Cov 0x20000004000000000000000000000000000000000000000000007e000000000087b0000000000000000000000000002203001f00000620100000000000000393f2a2 μ := by exact .use) :
    Ev μ r (ptpMessage s a1) := by
  unfold ptpMessage
  repeat' with_reducible first
    | assumption | exact .inl .use | exact .inr rfl | exact Cov.use
    | (extract_lets +onlyGivenNames -underBinder s'; refine Ev.cut (m := μ) (r := r) (x := s') ?_ ?_
       all_goals first | (intro h'; clear_value s') | subst s')
    | (extract_lets +onlyGivenNames -underBinder x'; subst x')
    | (refine fun (h' : Ev _ _ _) => ?_) | apply State.put_ev | apply measurement_ev | apply State.send_ev | apply R.LK_SPn_STAT_PSTATE_in
    | apply Ev.iteR | split | apply Ev.upd | apply Ev.updT | rfl

theorem flr_ev {μ : Nat} {r s : State} (h : Ev μ r s)
    (hm : Cov 0x8 μ := by exact .use) :
    Ev μ r (flr s) := by
  unfold flr
  repeat' with_reducible first
    | assumption | exact .inl .use | exact .inr rfl | exact Cov.use
    | (refine fun (h' : Ev _ _ _) => ?_)
    | apply Ev.iteR | split | apply Ev.upd | apply Ev.updT | rfl

theorem pcieLink_ev {μ : Nat} {r s : State} {up : Bool} {rate : Nat} {width : Nat} (h : Ev μ r s)
    (hm : Cov 0xe000000000000000000000000000000000000000000000000000000000000000000000000000000000000000000000000000000000000000000000000000 μ := by exact .use) :
    Ev μ r (pcieLink s up rate width) := by
  unfold pcieLink
  repeat' with_reducible first
    | assumption | exact .inl .use | exact .inr rfl | exact Cov.use
    | (refine fun (h' : Ev _ _ _) => ?_) | apply State.put_ev | apply R.LK_STATUS_GEN_in | apply R.LK_STATUS_PCIE_UP_in | apply R.LK_STATUS_WIDTH_in
    | apply Ev.iteR | split | apply Ev.upd | apply Ev.updT | rfl

theorem canReceive_ev {μ : Nat} {r s : State} {a1 : CanFrame} (h : Ev μ r s)
    (hm : Cov 0xfb000000000000000000000000000007e000000000000000000000000000000000000000000000000000000000000000000000001804020 μ := by exact .use) :
    Ev μ r (canReceive s a1) := by
  unfold canReceive
  repeat' with_reducible first
    | assumption | exact .inl .use | exact .inr rfl | exact Cov.use
    | (extract_lets +onlyGivenNames -underBinder s'; refine Ev.cut (m := μ) (r := r) (x := s') ?_ ?_
       all_goals first | (intro h'; clear_value s') | subst s')
    | (extract_lets +onlyGivenNames -underBinder x'; subst x')
    | (refine fun (h' : Ev _ _ _) => ?_) | apply postHw_ev | apply frameReceive_ev
    | apply Ev.iteR | (apply Ev.fst; assumption) | (apply Ev.snd; assumption) | split | apply Ev.upd | apply Ev.updT | rfl

theorem setCanPending_ev {μ : Nat} {r s : State} {c : Nat} {v : Nat} (h : Ev μ r s)
    (hm : Cov 0x10000 μ := by exact .use) :
    Ev μ r (setCanPending s c v) := by
  unfold setCanPending
  repeat' with_reducible first
    | assumption | exact .inl .use | exact .inr rfl | exact Cov.use
    | (refine fun (h' : Ev _ _ _) => ?_)
    | apply Ev.iteR | split | apply Ev.upd | apply Ev.updT | rfl

theorem canRequest_ev {μ : Nat} {r s : State} {c : Nat} {bits : Nat} (h : Ev μ r s)
    (hm : Cov 0x10000 μ := by exact .use) :
    Ev μ r (canRequest s c bits) := by
  unfold canRequest
  repeat' with_reducible first
    | assumption | exact .inl .use | exact .inr rfl | exact Cov.use
    | (refine fun (h' : Ev _ _ _) => ?_) | apply setCanPending_ev
    | apply Ev.iteR | split | apply Ev.upd | apply Ev.updT | rfl

theorem canSent_ev {μ : Nat} {r s : State} {c : Nat} {b : Nat} (h : Ev μ r s)
    (hm : Cov 0x1000000000000000000000000000000000000000000000000000000000000000000000000000000000000000000000000000000000000000000000000000000000002810000 μ := by exact .use) :
    Ev μ r (canSent s c b) := by
  unfold canSent
  repeat' with_reducible first
    | assumption | exact .inl .use | exact .inr rfl | exact Cov.use
    | (extract_lets +onlyGivenNames -underBinder s'; refine Ev.cut (m := μ) (r := r) (x := s') ?_ ?_
       all_goals first | (intro h'; clear_value s') | subst s')
    | (extract_lets +onlyGivenNames -underBinder x'; subst x')
    | (refine fun (h' : Ev _ _ _) => ?_) | apply State.send_ev | apply setCanPending_ev | apply State.mark_ev | apply R.LK_CANc_TXDONE_DONE_in
    | apply Ev.iteR | split | apply Ev.upd | apply Ev.updT | rfl

theorem canOff_ev {μ : Nat} {r s : State} {c : Nat} (h : Ev μ r s)
    (hm : Cov 0x140000000000040000000000000000000000000000000000000000000000000000000000000000000000000000000000000000000000000000000000000000000003800000 μ := by exact .use) :
    Ev μ r (canOff s c) := by
  unfold canOff
  repeat' with_reducible first
    | assumption | exact .inl .use | exact .inr rfl | exact Cov.use
    | (refine fun (h' : Ev _ _ _) => ?_) | apply State.irq_ev | apply State.put_ev | apply State.freshNat_ev | apply R.LK_CANc_STAT_BUSOFF_in | apply R.LK_CANc_STAT_TEC_in
    | apply Ev.iteR | split | apply Ev.upd | apply Ev.updT | rfl

theorem canBack_ev {μ : Nat} {r s : State} {c : Nat} (h : Ev μ r s)
    (hm : Cov 0x3c0000000000000000000000000000000000000000000000000000000000000000000000000000000000000000000000000000000000000000000000000000000000000000 μ := by exact .use) :
    Ev μ r (canBack s c) := by
  unfold canBack
  repeat' with_reducible first
    | assumption | exact .inl .use | exact .inr rfl | exact Cov.use
    | (refine fun (h' : Ev _ _ _) => ?_) | apply State.put_ev | apply R.LK_CANc_STAT_BUSOFF_in | apply R.LK_CANc_STAT_PASSIVE_in | apply R.LK_CANc_STAT_REC_in | apply R.LK_CANc_STAT_TEC_in
    | apply Ev.iteR | split | apply Ev.upd | apply Ev.updT | rfl

theorem canRecover_ev {μ : Nat} {r s : State} {c : Nat} (h : Ev μ r s)
    (hm : Cov 0x3c0000000000000000000000000000000000000000000000000000000000000000000000000000000000000000000000000000000000000000000000000000000000000000 μ := by exact .use) :
    Ev μ r (canRecover s c) := by
  unfold canRecover
  repeat' with_reducible first
    | assumption | exact .inl .use | exact .inr rfl | exact Cov.use
    | (refine fun (h' : Ev _ _ _) => ?_) | apply canBack_ev
    | apply Ev.iteR | split | apply Ev.upd | apply Ev.updT | rfl

end Sys2Proof.Machine
end

