-- ==== Sys2Proof/Laws/EvBus.lean ====
section
/-!
SUPPORT. What each operation over State can do, said once: one lemma for each function of the register bus. The result is as sound as
the state it starts from, never before it, and differs from it only in the parts and registers of the set named (`mask` of Safety.lean).
-/
namespace Sys2Proof.Machine
set_option Elab.async false
set_option linter.all false

theorem legLive_ev {μ : Nat} {r s : State} {n : Nat} (h : Ev μ r s)
    (hm : Cov 0xcf0600000000000000000000000000000000000000000001000000 μ := by exact .use) :
    Ev μ r (legLive s n) := by
  unfold legLive
  repeat' with_reducible first
    | assumption | exact .inl .use | exact .inr rfl | exact Cov.use
    | (extract_lets +onlyGivenNames -underBinder s'; refine Ev.cut (m := μ) (r := r) (x := s') ?_ ?_
       all_goals first | (intro h'; clear_value s') | subst s')
    | (extract_lets +onlyGivenNames -underBinder x'; subst x')
    | (refine fun (h' : Ev _ _ _) => ?_) | apply State.freshNat_ev | apply State.put_ev | apply R.LEGn_COUNT_C_in | apply R.LEGn_COUNT_DOWN_in | apply R.LEGn_STATUS_GH_in | apply R.LEGn_STATUS_GL_in | apply R.LEGn_STATUS_PEND_D_in | apply R.LEGn_STATUS_PEND_PP_in | apply R.LEGn_STATUS_RB_GH_in | apply R.LEGn_STATUS_RB_GL_in
    | apply Ev.iteR | (apply Ev.fst; assumption) | (apply Ev.snd; assumption) | split | apply Ev.upd | apply Ev.updT | rfl

theorem bridgeLive_ev {μ : Nat} {r s : State} {b : Nat} (h : Ev μ r s)
    (hm : Cov 0x7000000000000000000000000000000000000000000000000000000000 μ := by exact .use) :
    Ev μ r (bridgeLive s b) := by
  unfold bridgeLive
  repeat' with_reducible first
    | assumption | exact .inl .use | exact .inr rfl | exact Cov.use
    | (extract_lets +onlyGivenNames -underBinder s'; refine Ev.cut (m := μ) (r := r) (x := s') ?_ ?_
       all_goals first | (intro h'; clear_value s') | subst s')
    | (extract_lets +onlyGivenNames -underBinder x'; subst x')
    | (refine fun (h' : Ev _ _ _) => ?_) | (intro a hab) | apply State.put_ev | apply R.BRIDGE_STATUS_FORCED_in | apply R.BRIDGE_STATUS_HELD_in | apply R.BRIDGE_STATUS_SWITCHING_in
    | apply Ev.iteR | split | apply Ev.upd | apply Ev.updT | rfl

theorem coreLive_ev {μ : Nat} {r s : State} {c : Nat} (h : Ev μ r s)
    (hm : Cov 0x7b0000000000000000000000000000000000000000000000000000000000000000000000000000000000 μ := by exact .use) :
    Ev μ r (coreLive s c) := by
  unfold coreLive
  repeat' with_reducible first
    | assumption | exact .inl .use | exact .inr rfl | exact Cov.use
    | (extract_lets +onlyGivenNames -underBinder s'; refine Ev.cut (m := μ) (r := r) (x := s') ?_ ?_
       all_goals first | (intro h'; clear_value s') | subst s')
    | (extract_lets +onlyGivenNames -underBinder x'; subst x')
    | (refine fun (h' : Ev _ _ _) => ?_) | apply State.put_ev | apply R.SO_COREc_BUSY_in | apply R.SO_COREc_FLOW_in | apply R.SO_COREc_ID_in | apply R.SO_COREc_NOFLOW_in | apply R.SO_CUR_BUSY_in | apply R.SO_CUR_ID_in
    | apply Ev.iteR | (apply Ev.fst; assumption) | (apply Ev.snd; assumption) | split | apply Ev.upd | apply Ev.updT | rfl

theorem officeLive_ev {μ : Nat} {r s : State} {a1 : Nat} {a : Nat} (h : Ev μ r s)
    (hm : Cov 0xc7b0000300000000000000000000000000000000000000000000000000000000000000000000000000000 μ := by exact .use) :
    Ev μ r (officeLive s a1 a) := by
  unfold officeLive
  repeat' with_reducible first
    | assumption | exact .inl .use | exact .inr rfl | exact Cov.use
    | (extract_lets +onlyGivenNames -underBinder s'; refine Ev.cut (m := μ) (r := r) (x := s') ?_ ?_
       all_goals first | (intro h'; clear_value s') | subst s')
    | (extract_lets +onlyGivenNames -underBinder x'; subst x')
    | (refine fun (h' : Ev _ _ _) => ?_) | apply State.put_ev | apply coreLive_ev | apply R.SO_PHp_COUNT_in | apply R.SO_STATUS_INFLIGHT_in | apply R.SO_STATUS_SWUSE_in | apply R.SO_TRAYt_COUNT_in
    | apply Ev.iteR | split | apply Ev.upd | apply Ev.updT | rfl

theorem live_ev {μ : Nat} {r s : State} {a1 : Nat} {a : Nat} (h : Ev μ r s)
    (hm : Cov 0x6000001800000000000000002000000000040000000000000000000000000000c7b0000300000000000000000007000cf0600000080000000008000c00000000000000000000001000000 μ := by exact .use) :
    Ev μ r (live s a1 a) := by
  unfold live
  repeat' with_reducible first
    | assumption | exact .inl .use | exact .inr rfl | exact Cov.use
    | (extract_lets +onlyGivenNames -underBinder s'; refine Ev.cut (m := μ) (r := r) (x := s') ?_ ?_
       all_goals first | (intro h'; clear_value s') | subst s')
    | (extract_lets +onlyGivenNames -underBinder x'; subst x')
    | (refine fun (h' : Ev _ _ _) => ?_) | apply State.putPair_ev | apply State.put_ev | apply legLive_ev | apply bridgeLive_ev | apply officeLive_ev | apply rngRead_ev | apply axPut_ev | apply R.AXn_POS_HI_W_in | apply R.AXn_POS_LO_W_in | apply R.CK_WDOG_STAT_REMAIN_in | apply R.HL_FLAGS_HI_F_in | apply R.HL_FLAGS_LO_F_in | apply R.LK_STATUS_CAN_ON_in | apply R.POST_ERRB_ERR_NS_in | apply R.POST_NOW_HI_SEC_in | apply R.POST_NOW_LO_FRAC_in | apply R.SEC_RNG_R_in
    | apply Ev.iteR | split | apply Ev.upd | apply Ev.updT | rfl

theorem clearRead_ev {μ : Nat} {r s : State} {fs : List Fld} (h : Ev μ r s)
    (hm : Cov 0x800001 μ := by exact .use) :
    Ev μ r (clearRead s fs) := by
  unfold clearRead
  repeat' with_reducible first
    | assumption | exact .inl .use | exact .inr rfl | exact Cov.use
    | (refine fun (h' : Ev _ _ _) => ?_) | (intro a b hab) | (intro a hab) | apply State.clear_ev | exact RegIn.any .use
    | apply Ev.iteR | apply Ev.foldl | split | apply Ev.upd | apply Ev.updT | rfl

theorem regRead_ev {μ : Nat} {r s : State} {q a : Nat} {fs : List Fld} (h : Ev μ r s) (hm : Cov 0x6000001800000000000000002000000000040000000000000000000000000000c7b0000300000000000000000007000cf0600000080000000008000c00000000000000000000001800001 μ := by exact .use) : Ev μ r (regRead s q a fs).2 :=
  have h1 := clearRead_ev (fs := fs) h
  ⟨h1.1, h1.2, h1.3, h1.4, h1.5, (live_ev (a := a) h).6, h1.7.trans { Keeps.refl μ _ with fresh := Or.inl .use }⟩

theorem curbufWord_ev {μ : Nat} {r s : State} {c o : Nat} (h : Ev μ r s) (hm : Cov 0x1000000 μ := by exact .use) : Ev μ r (curbufWord s c o).2 := by
  have key : ∀ (c : Prop) [Decidable c] (a b : Nat) (t : State), Ev μ r t → Ev μ r (if c then (a, s) else (b, t)).2 := by
    intro c _ a b t ht
    split
    · exact h
    · exact ht
  unfold curbufWord
  exact key _ _ _ _ (State.freshNat_ev h)

theorem State.setShadow_ev {μ : Nat} {r s : State} {a1 : Nat} {x : Shadow} (h : Ev μ r s)
    (hm : Cov 0x8 μ := by exact .use) :
    Ev μ r (State.setShadow s a1 x) := by
  unfold State.setShadow
  repeat' with_reducible first
    | assumption | exact .inl .use | exact .inr rfl | exact Cov.use
    | (refine fun (h' : Ev _ _ _) => ?_)
    | apply Ev.iteR | split | apply Ev.upd | apply Ev.updT | rfl

theorem frAtPtr_ev {μ : Nat} {r s : State} (h : Ev μ r s) (hm : Cov 0x1000000 μ := by exact .use) : Ev μ r (frAtPtr s).2 := by
  have key : ∀ (c : Prop) [Decidable c] (a b : Nat) (t : State), Ev μ r t → Ev μ r (if c then (a, s) else (b, t)).2 := by
    intro c _ a b t ht
    split
    · exact h
    · exact ht
  unfold frAtPtr
  exact key _ _ _ _ (State.freshNat_ev h)

theorem frAdvance_ev {μ : Nat} {r s : State} (h : Ev μ r s)
    (hm : Cov 0x4000000000000000000000000000000000000000000000000000000000000000000000000000000000000000 μ := by exact .use) :
    Ev μ r (frAdvance s) := by
  unfold frAdvance
  repeat' with_reducible first
    | assumption | exact .inl .use | exact .inr rfl | exact Cov.use
    | (refine fun (h' : Ev _ _ _) => ?_) | apply State.put_ev | apply R.CAP_FRPTR_OFS_in
    | apply Ev.iteR | split | apply Ev.upd | apply Ev.updT | rfl

theorem frStore_ev {μ : Nat} {r s : State} {a1 : Nat} {v : Nat} (h : Ev μ r s)
    (hm : Cov 0x4000000000000000000000000000000000000000000000000000000000000000000000001e00000004810040 μ := by exact .use) :
    Ev μ r (frStore s a1 v) := by
  unfold frStore
  repeat' with_reducible first
    | assumption | exact .inl .use | exact .inr rfl | exact Cov.use
    | (extract_lets +onlyGivenNames -underBinder s'; refine Ev.cut (m := μ) (r := r) (x := s') ?_ ?_
       all_goals first | (intro h'; clear_value s') | subst s')
    | (extract_lets +onlyGivenNames -underBinder x'; subst x')
    | (refine fun (h' : Ev _ _ _) => ?_) | apply frAdvance_ev | apply frPut_ev | apply addrError_ev
    | apply Ev.iteR | split | apply Ev.upd | apply Ev.updT | rfl

theorem ledgerMet_ev {μ : Nat} {r s : State} {a : Nat} (h : Ev μ r s)
    (hm : Cov 0x1e000000000000000000000000000000000000000000000000000000000000000000000000800020 μ := by exact .use) :
    Ev μ r (ledgerMet s a) := by
  unfold ledgerMet
  repeat' with_reducible first
    | assumption | exact .inl .use | exact .inr rfl | exact Cov.use
    | (refine fun (h' : Ev _ _ _) => ?_) | apply ledFlush_ev
    | apply Ev.iteR | split | apply Ev.upd | apply Ev.updT | rfl

theorem windowRead_ev {μ : Nat} {r s : State} {q a : Nat} (h : Ev μ r s) (hm : Cov 0x1e00000001810000 μ := by exact .use) : ∀ x, windowRead s q a = some x → Ev μ r x.2 := by
  have ite : ∀ (c : Prop) [Decidable c] (o p : Option (Nat × State)), (∀ x, o = some x → Ev μ r x.2) → (∀ x, p = some x → Ev μ r x.2) →
      ∀ x, (if c then o else p) = some x → Ev μ r x.2 := by
    intro c _ o p ho hp
    split
    · exact ho
    · exact hp
  have one : ∀ (v : Nat) (x : Nat × State), some (v, s) = some x → Ev μ r x.2 := fun v x e => by cases e; exact h
  unfold windowRead
  refine ite _ _ _ (fun x e => by cases e; exact addrError_ev h) (ite _ _ _ (one _) (ite _ _ _ (one _)
    (ite _ _ _ (fun x e => by cases e; exact curbufWord_ev h) ?_)))
  exact ite _ _ _ (one _) (ite _ _ _ (one _) (ite _ _ _ (one _) (ite _ _ _ (one _) (ite _ _ _ (one _) (ite _ _ _ (one _)
    (ite _ _ _ (one _) (ite _ _ _ (one _) (fun x e => by cases e))))))))

theorem readWord_ev {μ : Nat} {r s : State} {q a : Nat} (h : Ev μ r s) (hm : Cov 0x6000001800000000000000002000000000040000000000000000000000000000c7b001e300000000000000000007000cf0600000080000000008000c00000000000001e00000001810021 μ := by exact .use) : Ev μ r (readWord s q a).2 := by
  have key : ∀ (c d : Prop) [Decidable c] [Decidable d] (x y : Nat) (t : State) (o : Option (List Fld)), Ev μ r t →
      ∀ s, Ev μ r s → Ev μ r (if c then (x, t) else if d then (y, t) else match o with
        | some fs => regRead s q a fs
        | none => (0, addrError s q 1 a)).2 := by
    intro c d _ _ x y t o ht s h
    split
    · exact ht
    · split
      · exact ht
      · split
        · exact regRead_ev h
        · exact addrError_ev h
  have h := ledgerMet_ev (a := a) h
  unfold readWord
  dsimp only
  split
  · rename_i hx; exact windowRead_ev h .use _ hx
  · exact key _ _ _ _ _ _ (frAtPtr_ev h) _ h

theorem readPair_ev {μ : Nat} {r s : State} {q a : Nat} (h : Ev μ r s) (hm : Cov 0x6000001800000000000000002000000000040000000000000000000000000400c7b001e300000000000000000007000cf0600000080000000008000c00000000000001e00000001810021 μ := by exact .use) : Ev μ r (readPair s q a).2 := by
  have key : ∀ (c : Prop) [Decidable c] (x y : Nat) (t u : State), Ev μ r t → Ev μ r u → Ev μ r (if c then (x, t) else (y, u)).2 := by
    intro c _ x y t u ht hu
    split
    · exact ht
    · exact hu
  exact key _ _ _ _ _ (frAdvance_ev (frAtPtr_ev h)) (readWord_ev (readWord_ev h))

theorem busRead_ev {μ : Nat} {r s : State} {q a : Nat} (h : Ev μ r s) (hm : Cov 0x6000001800000000000000002000000000040000000000000000000000000400c7b001e300000000000000000007000cf0600000080000000008000c00000000000001e00000001810029 μ := by exact .use) : Ev μ r (busRead s q a).2 := by
  unfold busRead
  split
  · exact addrError_ev h
  · split
    · exact State.setShadow_ev (readPair_ev h)
    · split
      · split
        · split
          · exact h
          · exact addrError_ev (readWord_ev h)
        · exact addrError_ev (readWord_ev h)
      · exact readWord_ev h

theorem busReads_ev {μ : Nat} {r s : State} {q a n : Nat} (h : Ev μ r s) (hm : Cov 0x6000001800000000000000002000000000040000000000000000000000000400c7b001e300000000000000000007000cf0600000080000000008000c00000000000001e00000001810029 μ := by exact .use) : Ev μ r (busReads s q a n).2 := by
  induction n generalizing s a with
  | zero => exact h
  | succ n ih => exact ih (busRead_ev h)

theorem sizedRead_ev {μ : Nat} {r s : State} {q a n : Nat} (h : Ev μ r s) (hm : Cov 0x6000001800000000000000002000000000040000000000000000000000000400c7b001e300000000000000000007000cf0600000080000000008000c00000000000001e00000001810029 μ := by exact .use) : Ev μ r (sizedRead s q a n).2 := by
  unfold sizedRead
  split
  · exact busRead_ev h
  · split
    · split
      · exact readPair_ev h
      · exact busReads_ev h
    · exact addrError_ev h

theorem fieldWrite_ev {μ : Nat} {r s : State} {v : Nat} {f : Fld} (h : Ev μ r s) (hf : RegIn μ f.key)
    (hm : Cov 0x800001 μ := by exact .use) :
    Ev μ r (fieldWrite v s f) := by
  unfold fieldWrite
  repeat' with_reducible first
    | assumption | exact .inl .use | exact .inr rfl | exact Cov.use
    | (refine fun (h' : Ev _ _ _) => ?_) | apply State.put_ev | apply State.clear_ev | exact RegIn.any .use
    | apply Ev.iteR | (apply Ev.fst; assumption) | (apply Ev.snd; assumption) | split | apply Ev.upd | apply Ev.updT | rfl

theorem plainWrite_ev {μ : Nat} {r s : State} {a1 : Nat} {a : Nat} {v : Nat} (h : Ev μ r s)
    (hm : Cov 0x1e00000000810001 μ := by exact .use) :
    Ev μ r (plainWrite s a1 a v) := by
  unfold plainWrite
  repeat' with_reducible first
    | assumption | exact .inl .use | exact .inr rfl | exact Cov.use
    | (refine fun (h' : Ev _ _ _) => ?_) | (intro a b hab) | apply fieldWrite_ev | apply addrError_ev | exact RegIn.any .use
    | apply Ev.iteR | apply Ev.foldl | (apply Ev.fst; assumption) | (apply Ev.snd; assumption) | split | apply Ev.upd | apply Ev.updT | rfl

theorem identWrite_ev {μ : Nat} {r s : State} {v : Nat} (h : Ev μ r s)
    (hm : Cov 0x100000000000000000000000000000028000000000000000000000000000000000000000000000000000000000000000000000000000000000000000000000000000007800048000 μ := by exact .use) :
    Ev μ r (identWrite s v) := by
  unfold identWrite
  repeat' with_reducible first
    | assumption | exact .inl .use | exact .inr rfl | exact Cov.use
    | (extract_lets +onlyGivenNames -underBinder s'; refine Ev.cut (m := μ) (r := r) (x := s') ?_ ?_
       all_goals first | (intro h'; clear_value s') | subst s')
    | (extract_lets +onlyGivenNames -underBinder x'; subst x')
    | (refine fun (h' : Ev _ _ _) => ?_) | apply nvWrite_ev | apply State.put_ev | apply measureIdent_ev | apply R.NODE_IDENT_CLUSTER_in | apply R.NODE_IDENT_NODE_in | apply R.NODE_IDENT_PROV_in | apply R.NODE_IDENT_TWIN_in
    | apply Ev.iteR | split | apply Ev.upd | apply Ev.updT | rfl

theorem tripClears_ev {μ : Nat} {r s : State} {a1 : Nat} {v : Nat} (h : Ev μ r s)
    (hm : Cov 0x7e00000000000000000000000000000000000000008000000000000620100000000000000383a020 μ := by exact .use) :
    Ev μ r (tripClears s a1 v) := by
  unfold tripClears
  repeat' with_reducible first
    | assumption | exact .inl .use | exact .inr rfl | exact Cov.use
    | (refine fun (h' : Ev _ _ _) => ?_) | (intro a b hab) | (intro a hab) | apply hostCommand_ev
    | apply Ev.iteR | apply Ev.foldl | split | apply Ev.upd | apply Ev.updT | rfl

theorem cmpWrite_ev {μ : Nat} {r s : State} {a1 : Nat} {a : Nat} {v : Nat} (h : Ev μ r s)
    (hm : Cov 0x12000000000621e00000000810001 μ := by exact .use) :
    Ev μ r (cmpWrite s a1 a v) := by
  unfold cmpWrite
  repeat' with_reducible first
    | assumption | exact .inl .use | exact .inr rfl | exact Cov.use
    | (extract_lets +onlyGivenNames -underBinder s'; refine Ev.cut (m := μ) (r := r) (x := s') ?_ ?_
       all_goals first | (intro h'; clear_value s') | subst s')
    | (extract_lets +onlyGivenNames -underBinder x'; subst x')
    | (refine fun (h' : Ev _ _ _) => ?_) | apply plainWrite_ev | apply State.put_ev | apply comparatorFollow_ev | apply R.NODE_WCMPc_CFG_ACT_in | apply R.NODE_WCMPc_CFG_SRC_in | exact RegIn.any .use
    | apply Ev.iteR | split | apply Ev.upd | apply Ev.updT | rfl

theorem twinControl_ev {μ : Nat} {r s : State} {v : Nat} (h : Ev μ r s)
    (hm : Cov 0x4000000000000000000000000000000000000000000007e0000000000000000000000000000800000000000000000000000060039000000000000038390a0 μ := by exact .use) :
    Ev μ r (twinControl s v) := by
  unfold twinControl
  repeat' with_reducible first
    | assumption | exact .inl .use | exact .inr rfl | exact Cov.use
    | (extract_lets +onlyGivenNames -underBinder s'; refine Ev.cut (m := μ) (r := r) (x := s') ?_ ?_
       all_goals first | (intro h'; clear_value s') | subst s')
    | (extract_lets +onlyGivenNames -underBinder x'; subst x')
    | (refine fun (h' : Ev _ _ _) => ?_) | apply handover_ev | apply rejoin_ev | apply alone_ev
    | apply Ev.iteR | split | apply Ev.upd | apply Ev.updT | rfl

theorem nodeWrite_ev {μ : Nat} {r s : State} {a1 : Nat} {a : Nat} {v : Nat} (h : Ev μ r s)
    (hm : Cov 0x10000000000000000004000000000002800000000000000000000000000000007e000000044000000000100000300180000000000080000000012026203907671e1824780387b3b1 μ := by exact .use) :
    Ev μ r (nodeWrite s a1 a v) := by
  unfold nodeWrite
  repeat' with_reducible first
    | assumption | exact .inl .use | exact .inr rfl | exact Cov.use
    | (extract_lets +onlyGivenNames -underBinder s'; refine Ev.cut (m := μ) (r := r) (x := s') ?_ ?_
       all_goals first | (intro h'; clear_value s') | subst s')
    | (extract_lets +onlyGivenNames -underBinder x'; subst x')
    | (refine fun (h' : Ev _ _ _) => ?_) | apply identWrite_ev | apply modeReqWrite_ev | apply testWrite_ev | apply legLatchClear_ev | apply tripClears_ev | apply plainWrite_ev | apply cmpWrite_ev | apply comparatorFollow_ev | apply State.put_ev | apply twinControl_ev | apply R.NODE_TWIN_CFG_EDGEW_in | apply R.NODE_TWIN_CFG_SILN_in | apply R.NODE_TWIN_CFG_TSIL_in | exact RegIn.any .use
    | apply Ev.iteR | split | apply Ev.upd | apply Ev.updT | rfl

theorem postWrite_ev {μ : Nat} {r s : State} {a1 : Nat} {a : Nat} {v : Nat} (h : Ev μ r s)
    (hm : Cov 0x7060000000000000001e00000000810001 μ := by exact .use) :
    Ev μ r (postWrite s a1 a v) := by
  unfold postWrite
  repeat' with_reducible first
    | assumption | exact .inl .use | exact .inr rfl | exact Cov.use
    | (extract_lets +onlyGivenNames -underBinder s'; refine Ev.cut (m := μ) (r := r) (x := s') ?_ ?_
       all_goals first | (intro h'; clear_value s') | subst s')
    | (extract_lets +onlyGivenNames -underBinder x'; subst x')
    | (refine fun (h' : Ev _ _ _) => ?_) | apply plainWrite_ev | apply State.put_ev | apply R.POST_CTRL_PRIO_in | apply R.POST_CTRL_SLEW_in | apply R.POST_HOLD_FU_in | apply R.POST_HOLD_GOOD_NS_in | apply R.POST_HOLD_POOR_US_in | exact RegIn.any .use
    | apply Ev.iteR | split | apply Ev.upd | apply Ev.updT | rfl

theorem clockWrite_ev {μ : Nat} {r s : State} {a1 : Nat} {a : Nat} {v : Nat} (h : Ev μ r s)
    (hm : Cov 0x2010080000000008004005f80798440000000000000000620000000000187000007e00000004400000000c0002003009c00000279e9c22020019001f260011000d5e18880007cfffff μ := by exact .use) :
    Ev μ r (clockWrite s a1 a v) := by
  unfold clockWrite
  repeat' with_reducible first
    | assumption | exact .inl .use | exact .inr rfl | exact Cov.use
    | (refine fun (h' : Ev _ _ _) => ?_) | apply refWrite_ev | apply hostReset_ev | apply wdogConfig_ev | apply wdogKick_ev | apply plainWrite_ev | exact RegIn.any .use
    | apply Ev.iteR | split | apply Ev.upd | apply Ev.updT | rfl

theorem legWrite_ev {μ : Nat} {r s : State} {a1 : Nat} {a : Nat} {v : Nat} (h : Ev μ r s)
    (hm : Cov 0x8003009047000000000000000000000000000000001e00000000810081 μ := by exact .use) :
    Ev μ r (legWrite s a1 a v) := by
  unfold legWrite
  repeat' with_reducible first
    | assumption | exact .inl .use | exact .inr rfl | exact Cov.use
    | (extract_lets +onlyGivenNames -underBinder s'; refine Ev.cut (m := μ) (r := r) (x := s') ?_ ?_
       all_goals first | (intro h'; clear_value s') | subst s')
    | (extract_lets +onlyGivenNames -underBinder x'; subst x')
    | (refine fun (h' : Ev _ _ _) => ?_) | apply stagedWrite_ev | apply forceWrite_ev | apply plainWrite_ev | apply State.put_ev | apply R.LEGn_RBCFG_SETTLE_in | apply R.LEGn_RBCFG_TOL_in | exact RegIn.any .use
    | apply Ev.iteR | split | apply Ev.upd | apply Ev.updT | rfl

theorem bridgeWrite_ev {μ : Nat} {r s : State} {a1 : Nat} {a : Nat} {v : Nat} (h : Ev μ r s)
    (hm : Cov 0x8208000000000000000000000000000000000000001e00000000810081 μ := by exact .use) :
    Ev μ r (bridgeWrite s a1 a v) := by
  unfold bridgeWrite
  repeat' with_reducible first
    | assumption | exact .inl .use | exact .inr rfl | exact Cov.use
    | (extract_lets +onlyGivenNames -underBinder s'; refine Ev.cut (m := μ) (r := r) (x := s') ?_ ?_
       all_goals first | (intro h'; clear_value s') | subst s')
    | (extract_lets +onlyGivenNames -underBinder x'; subst x')
    | (refine fun (h' : Ev _ _ _) => ?_) | apply setSource_ev | apply globalLoad_ev | apply bridgeLoad_ev | apply plainWrite_ev | exact RegIn.any .use
    | apply Ev.iteR | split | apply Ev.upd | apply Ev.updT | rfl

theorem senseWrite_ev {μ : Nat} {r s : State} {a1 : Nat} {a : Nat} {v : Nat} (h : Ev μ r s)
    (hm : Cov 0x7e00000000000000000c000000000000000000000080000000000006201000001e0000000383a221 μ := by exact .use) :
    Ev μ r (senseWrite s a1 a v) := by
  unfold senseWrite
  repeat' with_reducible first
    | assumption | exact .inl .use | exact .inr rfl | exact Cov.use
    | (refine fun (h' : Ev _ _ _) => ?_) | apply snapshotRequest_ev | apply pathRequest_ev | apply plainWrite_ev | exact RegIn.any .use
    | apply Ev.iteR | split | apply Ev.upd | apply Ev.updT | rfl

theorem officeWrite_ev {μ : Nat} {r s : State} {a1 : Nat} {a : Nat} {v : Nat} (h : Ev μ r s)
    (hm : Cov 0x4000000000000000000000000000000000000000000861e000000000000000000000000000000000000000022000011000000000000001e00000003811027 μ := by exact .use) :
    Ev μ r (officeWrite s a1 a v) := by
  unfold officeWrite
  repeat' with_reducible first
    | assumption | exact .inl .use | exact .inr rfl | exact Cov.use
    | (extract_lets +onlyGivenNames -underBinder s'; refine Ev.cut (m := μ) (r := r) (x := s') ?_ ?_
       all_goals first | (intro h'; clear_value s') | subst s')
    | (extract_lets +onlyGivenNames -underBinder x'; subst x')
    | (refine fun (h' : Ev _ _ _) => ?_) | apply plainWrite_ev | apply ledgerMet_ev | apply ledFull_ev | apply State.put_ev | apply softPost_ev | apply trayInsert_ev | apply cancelEnvelope_ev | apply cancelTrayEntry_ev | apply completeEnvelope_ev | apply R.SO_LEDSTAT_FULL_in | exact RegIn.any .use
    | apply Ev.iteR | split | apply Ev.upd | apply Ev.updT | rfl

theorem frConfig_ev {μ : Nat} {r s : State} {v : Nat} (h : Ev μ r s)
    (hm : Cov 0x1e1fc0000000000000000000000000000000000000000000000000000000000000000000000000000004000040 μ := by exact .use) :
    Ev μ r (frConfig s v) := by
  unfold frConfig
  repeat' with_reducible first
    | assumption | exact .inl .use | exact .inr rfl | exact Cov.use
    | (extract_lets +onlyGivenNames -underBinder s'; refine Ev.cut (m := μ) (r := r) (x := s') ?_ ?_
       all_goals first | (intro h'; clear_value s') | subst s')
    | (extract_lets +onlyGivenNames -underBinder x'; subst x')
    | (refine fun (h' : Ev _ _ _) => ?_) | apply State.put_ev | apply frEmpty_ev | apply holdWrite_ev | apply R.CAP_FRCFG_AUTOHOLD_in | apply R.CAP_FRCFG_CKPLOG_in | apply R.CAP_FRCFG_EXT_in | apply R.CAP_FRCFG_POSTFR_in
    | apply Ev.iteR | split | apply Ev.upd | apply Ev.updT | rfl

theorem winWrite_ev {μ : Nat} {r s : State} {a1 : Nat} {a : Nat} {v : Nat} (h : Ev μ r s)
    (hm : Cov 0x7e18200000000030000000000000000000000000000000000000000000000000000000000000000000001e00000004810041 μ := by exact .use) :
    Ev μ r (winWrite s a1 a v) := by
  unfold winWrite
  repeat' with_reducible first
    | assumption | exact .inl .use | exact .inr rfl | exact Cov.use
    | (extract_lets +onlyGivenNames -underBinder s'; refine Ev.cut (m := μ) (r := r) (x := s') ?_ ?_
       all_goals first | (intro h'; clear_value s') | subst s')
    | (extract_lets +onlyGivenNames -underBinder x'; subst x')
    | (refine fun (h' : Ev _ _ _) => ?_) | apply windowArm_ev | apply windowStop_ev | apply windowForce_ev | apply plainWrite_ev | apply State.put_ev | apply R.CAP_WINw_CFG_NSEGLOG_in | apply R.CAP_WINw_TRIG_COND_in | apply R.CAP_WINw_TRIG_TKIND_in | exact RegIn.any .use
    | apply Ev.iteR | split | apply Ev.upd | apply Ev.updT | rfl

theorem captureWrite_ev {μ : Nat} {r s : State} {a1 : Nat} {a : Nat} {v : Nat} (h : Ev μ r s)
    (hm : Cov 0x7e182000001e5ff0000000000000000000000000000000000000000000000000000000000000000000001e00000004810041 μ := by exact .use) :
    Ev μ r (captureWrite s a1 a v) := by
  unfold captureWrite
  repeat' with_reducible first
    | assumption | exact .inl .use | exact .inr rfl | exact Cov.use
    | (refine fun (h' : Ev _ _ _) => ?_) | apply frConfig_ev | apply State.put_ev | apply winWrite_ev | apply plainWrite_ev | apply R.CAP_FRPTR_OFS_in | exact RegIn.any .use
    | apply Ev.iteR | split | apply Ev.upd | apply Ev.updT | rfl

theorem safetyWrite_ev {μ : Nat} {r s : State} {a1 : Nat} {a : Nat} {v : Nat} (h : Ev μ r s)
    (hm : Cov 0x1e00000000814001 μ := by exact .use) :
    Ev μ r (safetyWrite s a1 a v) := by
  unfold safetyWrite
  repeat' with_reducible first
    | assumption | exact .inl .use | exact .inr rfl | exact Cov.use
    | (refine fun (h' : Ev _ _ _) => ?_) | apply testPulseRequest_ev | apply plainWrite_ev | exact RegIn.any .use
    | apply Ev.iteR | split | apply Ev.upd | apply Ev.updT | rfl

theorem secControl_ev {μ : Nat} {r s : State} {v : Nat} (h : Ev μ r s) (hm : Cov 0x100000000000000000041c00e0001232b00000000000000000000000000000007e0000000000000000000000000000000000000000221e001b00000620100000000020780387b822 μ := by exact .use) : Ev μ r (secControl s v) := by
  unfold secControl
  exact Ev.ite (enrOpen_ev h) (Ev.ite (install_ev h) (Ev.ite (rekeyx_ev h) (Ev.ite (extend_ev h) (Ev.ite (sessionClose_ev h) h))))

theorem fwControl_ev {μ : Nat} {r s : State} {a1 : Nat} {v : Nat} (h : Ev μ r s)
    (hm : Cov 0x10000000000000000004040400650001000000000000000000000000000000007e000000000000000000000000000000000000000000000000000000000000000000000003848020 μ := by exact .use) :
    Ev μ r (fwControl s a1 v) := by
  unfold fwControl
  repeat' with_reducible first
    | assumption | exact .inl .use | exact .inr rfl | exact Cov.use
    | (extract_lets +onlyGivenNames -underBinder s'; refine Ev.cut (m := μ) (r := r) (x := s') ?_ ?_
       all_goals first | (intro h'; clear_value s') | subst s')
    | (extract_lets +onlyGivenNames -underBinder x'; subst x')
    | (refine fun (h' : Ev _ _ _) => ?_) | apply fwOpen_ev | apply fwCommit_ev | apply fwMark_ev | apply fwConfirm_ev | apply fwErase_ev | apply fwAbort_ev | apply revoke0_ev
    | apply Ev.iteR | split | apply Ev.upd | apply Ev.updT | rfl

theorem imgControl_ev {μ : Nat} {r s : State} {a1 : Nat} {v : Nat} (h : Ev μ r s)
    (hm : Cov 0x418039c0000000000000000000000000000000000000000000000000000000000000000000000000000000000000000000000000000000000000002800800 μ := by exact .use) :
    Ev μ r (imgControl s a1 v) := by
  unfold imgControl
  repeat' with_reducible first
    | assumption | exact .inl .use | exact .inr rfl | exact Cov.use
    | (extract_lets +onlyGivenNames -underBinder s'; refine Ev.cut (m := μ) (r := r) (x := s') ?_ ?_
       all_goals first | (intro h'; clear_value s') | subst s')
    | (extract_lets +onlyGivenNames -underBinder x'; subst x')
    | (refine fun (h' : Ev _ _ _) => ?_) | apply imgOpen_ev | apply imgCommit_ev | apply imgActivate_ev | apply imgErase_ev | apply imgAbort_ev
    | apply Ev.iteR | split | apply Ev.upd | apply Ev.updT | rfl

theorem securityWrite_ev {μ : Nat} {r s : State} {a1 : Nat} {a : Nat} {v : Nat} (h : Ev μ r s)
    (hm : Cov 0x100000000000000000041ef7fc651633b00000000000000000000000000000007e0000000000000000000000000000000000000000221e001b000006201000001e0020780387b823 μ := by exact .use) :
    Ev μ r (securityWrite s a1 a v) := by
  unfold securityWrite
  repeat' with_reducible first
    | assumption | exact .inl .use | exact .inr rfl | exact Cov.use
    | (refine fun (h' : Ev _ _ _) => ?_) | apply secControl_ev | apply State.put_ev | apply enrData_ev | apply fwControl_ev | apply fwData_ev | apply frankRequest_ev | apply imgControl_ev | apply imgData_ev | apply plainWrite_ev | apply R.SEC_EXT_Dn_D_in | apply R.SEC_SESSCFG_LIFE_in | exact RegIn.any .use
    | apply Ev.iteR | split | apply Ev.upd | apply Ev.updT | rfl

theorem portConfig_ev {μ : Nat} {r s : State} {a1 : Nat} {a : Nat} {v : Nat} {n : Nat} (h : Ev μ r s)
    (hm : Cov 0x2c8000040000000000000000000000000000000000000000000000000000000000000000000000000000000000000000000000000000000000001e00000003810001 μ := by exact .use) :
    Ev μ r (portConfig s a1 a v n) := by
  unfold portConfig
  repeat' with_reducible first
    | assumption | exact .inl .use | exact .inr rfl | exact Cov.use
    | (extract_lets +onlyGivenNames -underBinder s'; refine Ev.cut (m := μ) (r := r) (x := s') ?_ ?_
       all_goals first | (intro h'; clear_value s') | subst s')
    | (extract_lets +onlyGivenNames -underBinder x'; subst x')
    | (refine fun (h' : Ev _ _ _) => ?_) | apply plainWrite_ev | apply State.put_ev | apply portDown_ev | apply R.LK_SPn_CFG_LOGSYNC_in | apply R.LK_SPn_CFG_PTPROLE_in | exact RegIn.any .use
    | apply Ev.iteR | split | apply Ev.upd | apply Ev.updT | rfl

theorem canWrite_ev {μ : Nat} {r s : State} {a1 : Nat} {a : Nat} {v : Nat} (h : Ev μ r s)
    (hm : Cov 0x203c4400000000000000000000000000000000000000000000000000000000000000000000000000000000000000000000000000000000000000000000001e00000000810001 μ := by exact .use) :
    Ev μ r (canWrite s a1 a v) := by
  unfold canWrite
  repeat' with_reducible first
    | assumption | exact .inl .use | exact .inr rfl | exact Cov.use
    | (extract_lets +onlyGivenNames -underBinder s'; refine Ev.cut (m := μ) (r := r) (x := s') ?_ ?_
       all_goals first | (intro h'; clear_value s') | subst s')
    | (extract_lets +onlyGivenNames -underBinder x'; subst x')
    | (refine fun (h' : Ev _ _ _) => ?_) | apply plainWrite_ev | apply canBack_ev | apply State.put_ev | apply canRequest_ev | apply R.LK_CANc_DBT_BRP_in | apply R.LK_CANc_FLTf_RT_ACT_in | apply R.LK_CANc_NBT_BRP_in | exact RegIn.any .use
    | apply Ev.iteR | split | apply Ev.upd | apply Ev.updT | rfl

theorem linksWrite_ev {μ : Nat} {r s : State} {a1 : Nat} {a : Nat} {v : Nat} (h : Ev μ r s)
    (hm : Cov 0x203c44002c8000040000000000000000000000000000000000000000000000000000000000000000000000000000000000000000000000000000000000001e00000003810001 μ := by exact .use) :
    Ev μ r (linksWrite s a1 a v) := by
  unfold linksWrite
  repeat' with_reducible first
    | assumption | exact .inl .use | exact .inr rfl | exact Cov.use
    | (refine fun (h' : Ev _ _ _) => ?_) | apply portConfig_ev | apply plainWrite_ev | apply canWrite_ev | exact RegIn.any .use
    | apply Ev.iteR | split | apply Ev.upd | apply Ev.updT | rfl

theorem healthWrite_ev {μ : Nat} {r s : State} {a1 : Nat} {a : Nat} {v : Nat} (h : Ev μ r s)
    (hm : Cov 0x23c00000000000000004000000000000000000000000000000000000000000007e000000000000000000000000000000000000000000000000000000000000001e00000003850021 μ := by exact .use) :
    Ev μ r (healthWrite s a1 a v) := by
  unfold healthWrite
  repeat' with_reducible first
    | assumption | exact .inl .use | exact .inr rfl | exact Cov.use
    | (extract_lets +onlyGivenNames -underBinder s'; refine Ev.cut (m := μ) (r := r) (x := s') ?_ ?_
       all_goals first | (intro h'; clear_value s') | subst s')
    | (extract_lets +onlyGivenNames -underBinder x'; subst x')
    | (refine fun (h' : Ev _ _ _) => ?_) | apply State.put_ev | apply reportNow_ev | apply plainWrite_ev | apply R.HL_CTRL_PERIOD_in | exact RegIn.any .use
    | apply Ev.iteR | split | apply Ev.upd | apply Ev.updT | rfl

theorem axisWrite_ev {μ : Nat} {r s : State} {a1 : Nat} {a : Nat} {v : Nat} (h : Ev μ r s)
    (hm : Cov 0x2000000080400000000000000000000000000000000000000000000000000000000000000000000000000000000000000000000000000000000000000000000000000000001e00000000890001 μ := by exact .use) :
    Ev μ r (axisWrite s a1 a v) := by
  unfold axisWrite
  repeat' with_reducible first
    | assumption | exact .inl .use | exact .inr rfl | exact Cov.use
    | (extract_lets +onlyGivenNames -underBinder s'; refine Ev.cut (m := μ) (r := r) (x := s') ?_ ?_
       all_goals first | (intro h'; clear_value s') | subst s')
    | (extract_lets +onlyGivenNames -underBinder x'; subst x')
    | (refine fun (h' : Ev _ _ _) => ?_) | apply axOp_ev | apply plainWrite_ev | apply State.put_ev | apply R.AXn_CFG_ENCMODE_in | apply R.AXn_LCFG_LEDGE_in | exact RegIn.any .use
    | apply Ev.iteR | split | apply Ev.upd | apply Ev.updT | rfl

theorem regWrite_ev {μ : Nat} {r s : State} {a1 : Nat} {a : Nat} {v : Nat} (h : Ev μ r s)
    (hm : Cov 0x20000000a073c8203c44002c804005fef7fc651633b000000000007e182000001e5ff000867e00006004400000000c10820b3099c70000279e9ca21e707b013f262039076f5e18ac7807cfffff μ := by exact .use) :
    Ev μ r (regWrite s a1 a v) := by
  unfold regWrite
  repeat' with_reducible first
    | assumption | exact .inl .use | exact .inr rfl | exact Cov.use
    | (refine fun (h' : Ev _ _ _) => ?_) | apply nodeWrite_ev | apply postWrite_ev | apply clockWrite_ev | apply plainWrite_ev | apply legWrite_ev | apply bridgeWrite_ev | apply senseWrite_ev | apply freezeWrite_ev | apply officeWrite_ev | apply captureWrite_ev | apply safetyWrite_ev | apply securityWrite_ev | apply linksWrite_ev | apply healthWrite_ev | apply axisWrite_ev | exact RegIn.any .use
    | apply Ev.iteR | split | apply Ev.upd | apply Ev.updT | rfl

theorem pairCommit_ev {μ : Nat} {r s : State} {a1 : Nat} {a : Nat} {v : Nat} (h : Ev μ r s)
    (hm : Cov 0xc0798080000000000000000000000000000000000000000000000000000078000400000187e000000000087b00000000000000000003000000000000006000006201000001e000000079bf2e2 μ := by exact .use) :
    Ev μ r (pairCommit s a1 a v) := by
  unfold pairCommit
  repeat' with_reducible first
    | assumption | exact .inl .use | exact .inr rfl | exact Cov.use
    | (extract_lets +onlyGivenNames -underBinder s'; refine Ev.cut (m := μ) (r := r) (x := s') ?_ ?_
       all_goals first | (intro h'; clear_value s') | subst s')
    | (extract_lets +onlyGivenNames -underBinder x'; subst x')
    | (refine fun (h' : Ev _ _ _) => ?_) | apply postSetCommit_ev | apply State.putPair_ev | apply frStore_ev | apply targetCommit_ev | apply limitCommit_ev | apply axPut_ev | apply R.AXn_HOFS_HI_W_in | apply R.AXn_HOFS_LO_W_in | apply R.CAP_RPEND_HI_W_in | apply R.CAP_RPEND_LO_W_in | apply R.CAP_RPSTART_HI_W_in | apply R.CAP_RPSTART_LO_W_in | apply R.CK_ALARM_HI_SEC_in | apply R.CK_ALARM_LO_FRAC_in | apply R.SO_TRAY_HI_SEC_in | apply R.SO_TRAY_LO_FRAC_in
    | apply Ev.iteR | split | apply Ev.upd | apply Ev.updT | rfl

theorem windowWrite_ev {μ : Nat} {r s t : State} {q a v : Nat} (h : Ev μ r s) (hm : Cov 0x1e00000000810020 μ := by exact .use) (hx : windowWrite s q a v = some t) : Ev μ r t := by
  unfold windowWrite at hx
  repeat' split at hx
  all_goals first | cases hx; exact addrError_ev h | (cases hx; exact h) | (cases hx; exact Ev.upd h rfl rfl) | cases hx

theorem busWrite_ev {μ : Nat} {r s : State} {q a v : Nat} (h : Ev μ r s) (hm : Cov 0x2c079808a073c8203c44002c804005fef7fc651633b000000000007e182007801e5ff0009e7e000060044087b0000c10820b3099c70030279e9ca21e707f013f262039076f5e18ac7807dfffff μ := by exact .use) : Ev μ r (busWrite s q a v) := by
  unfold busWrite
  split
  · exact addrError_ev h
  · split
    · rename_i hx; exact windowWrite_ev h (hx := hx)
    · split
      · exact State.setShadow_ev h
      · split
        · split
          · split
            · exact pairCommit_ev (State.setShadow_ev h)
            · exact addrError_ev h
          · exact addrError_ev h
        · split
          · exact addrError_ev h
          · exact regWrite_ev h

theorem busWrites_ev {μ : Nat} {r s : State} {q a : Nat} {vs : List Nat} (h : Ev μ r s) (hm : Cov 0x2c079808a073c8203c44002c804005fef7fc651633b000000000007e182007801e5ff0009e7e000060044087b0000c10820b3099c70030279e9ca21e707f013f262039076f5e18ac7807dfffff μ := by exact .use) : Ev μ r (busWrites s q a vs) := by
  induction vs generalizing s a with
  | nil => exact h
  | cons v vs ih => exact ih (busWrite_ev h)

theorem wideWrite_ev {μ : Nat} {r s : State} {a : Nat} {v : Nat} (h : Ev μ r s)
    (hm : Cov 0x2c079808a073c8203c44002c804005fef7fc651633b000000000007e182007801e5ff0009e7e000060044087b0000c10820b3099c70030279e9ca21e707f013f262039076f5e18ac7807dfffff μ := by exact .use) :
    Ev μ r (wideWrite s a v) := by
  unfold wideWrite
  repeat' with_reducible first
    | assumption | exact .inl .use | exact .inr rfl | exact Cov.use
    | (refine fun (h' : Ev _ _ _) => ?_) | apply pairCommit_ev | apply busWrites_ev | exact RegIn.any .use
    | apply Ev.iteR | split | apply Ev.upd | apply Ev.updT | rfl

theorem sizedWrite_ev {μ : Nat} {r s : State} {a1 : Nat} {a : Nat} {size : Nat} {v : Nat} (h : Ev μ r s)
    (hm : Cov 0x2c079808a073c8203c44002c804005fef7fc651633b000000000007e182007801e5ff0009e7e000060044087b0000c10820b3099c70030279e9ca21e707f013f262039076f5e18ac7807dfffff μ := by exact .use) :
    Ev μ r (sizedWrite s a1 a size v) := by
  unfold sizedWrite
  repeat' with_reducible first
    | assumption | exact .inl .use | exact .inr rfl | exact Cov.use
    | (refine fun (h' : Ev _ _ _) => ?_) | apply busWrite_ev | apply wideWrite_ev | apply busWrites_ev | apply addrError_ev | exact RegIn.any .use
    | apply Ev.iteR | split | apply Ev.upd | apply Ev.updT | rfl

theorem spiReads_ev {μ : Nat} {r s : State} {a n : Nat} (h : Ev μ r s) (hm : Cov 0x6000001800000000000000002000000000040000000000000000000000000400c7b001e300000000000000000007000cf0600000080000000008000c00000000000001e00000001810029 μ := by exact .use) : Ev μ r (spiReads s a n).2 := by
  induction n generalizing s a with
  | zero => exact h
  | succ n ih =>
    unfold spiReads
    dsimp only
    refine ih ?_
    split
    · exact Ev.upd h rfl rfl
    · exact busRead_ev h

theorem spiCaps_ev {μ : Nat} {r s : State} {a n : Nat} (h : Ev μ r s) (hm : Cov 0x6000001800000000000000002000000000040000000000000000000000000400c7b001e300000000000000000007000cf0600000080000000008000c00000000000001e00000001810029 μ := by exact .use) : Ev μ r (spiCaps s a n).2 := by
  induction n generalizing s a with
  | zero => exact h
  | succ n ih =>
    unfold spiCaps
    dsimp only
    refine ih ?_
    split
    · exact busRead_ev h
    · exact State.freshNat_ev h

theorem spiStatus_ev {μ : Nat} {r s : State} (h : Ev μ r s)
    (hm : Cov 0x10000 μ := by exact .use) :
    Ev μ r (spiStatus s).2 := by
  unfold spiStatus
  repeat' with_reducible first
    | assumption | exact .inl .use | exact .inr rfl | exact Cov.use
    | (refine fun (h' : Ev _ _ _) => ?_)
    | apply Ev.iteR | split | apply Ev.upd | apply Ev.updT | rfl | apply Ev.pair2

theorem State.withFetchWord_ev {μ : Nat} {r s : State} {n w : Nat} (h : Ev μ r s) (hm : Cov 0x0 μ := by exact .use) : Ev μ r (s.withFetchWord n w) := h

end Sys2Proof.Machine
end

