-- ==== Sys2Proof/Laws/State.lean ====
section
/-!
SUPPORT. One lemma for each part of State under each named update, true by unfolding, and reading a register after writing one.
-/
namespace Sys2Proof.Machine

@[simp] theorem State.put_time {s : State} {f : Fld} {v : Nat} : (s.put f v).time = s.time := rfl
@[simp] theorem State.put_root {s : State} {f : Fld} {v : Nat} : (s.put f v).root = s.root := rfl
@[simp] theorem State.put_shadows {s : State} {f : Fld} {v : Nat} : (s.put f v).shadows = s.shadows := rfl
@[simp] theorem State.put_hidden {s : State} {f : Fld} {v : Nat} : (s.put f v).hidden = s.hidden := rfl
@[simp] theorem State.put_office {s : State} {f : Fld} {v : Nat} : (s.put f v).office = s.office := rfl
@[simp] theorem State.put_capture {s : State} {f : Fld} {v : Nat} : (s.put f v).capture = s.capture := rfl
@[simp] theorem State.put_legs {s : State} {f : Fld} {v : Nat} : (s.put f v).legs = s.legs := rfl
@[simp] theorem State.put_trips {s : State} {f : Fld} {v : Nat} : (s.put f v).trips = s.trips := rfl
@[simp] theorem State.put_sense {s : State} {f : Fld} {v : Nat} : (s.put f v).sense = s.sense := rfl
@[simp] theorem State.put_image {s : State} {f : Fld} {v : Nat} : (s.put f v).image = s.image := rfl
@[simp] theorem State.put_slots {s : State} {f : Fld} {v : Nat} : (s.put f v).slots = s.slots := rfl
@[simp] theorem State.put_fabric {s : State} {f : Fld} {v : Nat} : (s.put f v).fabric = s.fabric := rfl
@[simp] theorem State.put_acceptance {s : State} {f : Fld} {v : Nat} : (s.put f v).acceptance = s.acceptance := rfl
@[simp] theorem State.put_safety {s : State} {f : Fld} {v : Nat} : (s.put f v).safety = s.safety := rfl
@[simp] theorem State.put_security {s : State} {f : Fld} {v : Nat} : (s.put f v).security = s.security := rfl
@[simp] theorem State.put_links {s : State} {f : Fld} {v : Nat} : (s.put f v).links = s.links := rfl
@[simp] theorem State.put_twin {s : State} {f : Fld} {v : Nat} : (s.put f v).twin = s.twin := rfl
@[simp] theorem State.put_health {s : State} {f : Fld} {v : Nat} : (s.put f v).health = s.health := rfl
@[simp] theorem State.put_axes {s : State} {f : Fld} {v : Nat} : (s.put f v).axes = s.axes := rfl
@[simp] theorem State.put_axisTick {s : State} {f : Fld} {v : Nat} : (s.put f v).axisTick = s.axisTick := rfl
@[simp] theorem State.put_axisNv {s : State} {f : Fld} {v : Nat} : (s.put f v).axisNv = s.axisNv := rfl
@[simp] theorem State.put_journal {s : State} {f : Fld} {v : Nat} : (s.put f v).journal = s.journal := rfl
@[simp] theorem State.put_cycle {s : State} {f : Fld} {v : Nat} : (s.put f v).cycle = s.cycle := rfl
@[simp] theorem State.put_fresh {s : State} {f : Fld} {v : Nat} : (s.put f v).fresh = s.fresh := rfl
@[simp] theorem State.put_outbox {s : State} {f : Fld} {v : Nat} : (s.put f v).outbox = s.outbox := rfl
@[simp] theorem State.put_pending {s : State} {f : Fld} {v : Nat} : (s.put f v).pending = s.pending := rfl

@[simp] theorem State.send_regs {s : State} {o : OutMsg} : (s.send o).regs = s.regs := rfl
@[simp] theorem State.send_time {s : State} {o : OutMsg} : (s.send o).time = s.time := rfl
@[simp] theorem State.send_root {s : State} {o : OutMsg} : (s.send o).root = s.root := rfl
@[simp] theorem State.send_shadows {s : State} {o : OutMsg} : (s.send o).shadows = s.shadows := rfl
@[simp] theorem State.send_hidden {s : State} {o : OutMsg} : (s.send o).hidden = s.hidden := rfl
@[simp] theorem State.send_office {s : State} {o : OutMsg} : (s.send o).office = s.office := rfl
@[simp] theorem State.send_capture {s : State} {o : OutMsg} : (s.send o).capture = s.capture := rfl
@[simp] theorem State.send_legs {s : State} {o : OutMsg} : (s.send o).legs = s.legs := rfl
@[simp] theorem State.send_trips {s : State} {o : OutMsg} : (s.send o).trips = s.trips := rfl
@[simp] theorem State.send_sense {s : State} {o : OutMsg} : (s.send o).sense = s.sense := rfl
@[simp] theorem State.send_image {s : State} {o : OutMsg} : (s.send o).image = s.image := rfl
@[simp] theorem State.send_slots {s : State} {o : OutMsg} : (s.send o).slots = s.slots := rfl
@[simp] theorem State.send_fabric {s : State} {o : OutMsg} : (s.send o).fabric = s.fabric := rfl
@[simp] theorem State.send_acceptance {s : State} {o : OutMsg} : (s.send o).acceptance = s.acceptance := rfl
@[simp] theorem State.send_safety {s : State} {o : OutMsg} : (s.send o).safety = s.safety := rfl
@[simp] theorem State.send_security {s : State} {o : OutMsg} : (s.send o).security = s.security := rfl
@[simp] theorem State.send_links {s : State} {o : OutMsg} : (s.send o).links = s.links := rfl
@[simp] theorem State.send_twin {s : State} {o : OutMsg} : (s.send o).twin = s.twin := rfl
@[simp] theorem State.send_health {s : State} {o : OutMsg} : (s.send o).health = s.health := rfl
@[simp] theorem State.send_axes {s : State} {o : OutMsg} : (s.send o).axes = s.axes := rfl
@[simp] theorem State.send_axisTick {s : State} {o : OutMsg} : (s.send o).axisTick = s.axisTick := rfl
@[simp] theorem State.send_axisNv {s : State} {o : OutMsg} : (s.send o).axisNv = s.axisNv := rfl
@[simp] theorem State.send_journal {s : State} {o : OutMsg} : (s.send o).journal = s.journal := rfl
@[simp] theorem State.send_cycle {s : State} {o : OutMsg} : (s.send o).cycle = s.cycle := rfl
@[simp] theorem State.send_fresh {s : State} {o : OutMsg} : (s.send o).fresh = s.fresh := rfl
@[simp] theorem State.send_pending {s : State} {o : OutMsg} : (s.send o).pending = s.pending := rfl

@[simp] theorem State.setLeg_regs {s : State} {n : Nat} {x : Leg} : (s.setLeg n x).regs = s.regs := rfl
@[simp] theorem State.setLeg_time {s : State} {n : Nat} {x : Leg} : (s.setLeg n x).time = s.time := rfl
@[simp] theorem State.setLeg_root {s : State} {n : Nat} {x : Leg} : (s.setLeg n x).root = s.root := rfl
@[simp] theorem State.setLeg_shadows {s : State} {n : Nat} {x : Leg} : (s.setLeg n x).shadows = s.shadows := rfl
@[simp] theorem State.setLeg_hidden {s : State} {n : Nat} {x : Leg} : (s.setLeg n x).hidden = s.hidden := rfl
@[simp] theorem State.setLeg_office {s : State} {n : Nat} {x : Leg} : (s.setLeg n x).office = s.office := rfl
@[simp] theorem State.setLeg_capture {s : State} {n : Nat} {x : Leg} : (s.setLeg n x).capture = s.capture := rfl
@[simp] theorem State.setLeg_trips {s : State} {n : Nat} {x : Leg} : (s.setLeg n x).trips = s.trips := rfl
@[simp] theorem State.setLeg_sense {s : State} {n : Nat} {x : Leg} : (s.setLeg n x).sense = s.sense := rfl
@[simp] theorem State.setLeg_image {s : State} {n : Nat} {x : Leg} : (s.setLeg n x).image = s.image := rfl
@[simp] theorem State.setLeg_slots {s : State} {n : Nat} {x : Leg} : (s.setLeg n x).slots = s.slots := rfl
@[simp] theorem State.setLeg_fabric {s : State} {n : Nat} {x : Leg} : (s.setLeg n x).fabric = s.fabric := rfl
@[simp] theorem State.setLeg_acceptance {s : State} {n : Nat} {x : Leg} : (s.setLeg n x).acceptance = s.acceptance := rfl
@[simp] theorem State.setLeg_safety {s : State} {n : Nat} {x : Leg} : (s.setLeg n x).safety = s.safety := rfl
@[simp] theorem State.setLeg_security {s : State} {n : Nat} {x : Leg} : (s.setLeg n x).security = s.security := rfl
@[simp] theorem State.setLeg_links {s : State} {n : Nat} {x : Leg} : (s.setLeg n x).links = s.links := rfl
@[simp] theorem State.setLeg_twin {s : State} {n : Nat} {x : Leg} : (s.setLeg n x).twin = s.twin := rfl
@[simp] theorem State.setLeg_health {s : State} {n : Nat} {x : Leg} : (s.setLeg n x).health = s.health := rfl
@[simp] theorem State.setLeg_axes {s : State} {n : Nat} {x : Leg} : (s.setLeg n x).axes = s.axes := rfl
@[simp] theorem State.setLeg_axisTick {s : State} {n : Nat} {x : Leg} : (s.setLeg n x).axisTick = s.axisTick := rfl
@[simp] theorem State.setLeg_axisNv {s : State} {n : Nat} {x : Leg} : (s.setLeg n x).axisNv = s.axisNv := rfl
@[simp] theorem State.setLeg_journal {s : State} {n : Nat} {x : Leg} : (s.setLeg n x).journal = s.journal := rfl
@[simp] theorem State.setLeg_cycle {s : State} {n : Nat} {x : Leg} : (s.setLeg n x).cycle = s.cycle := rfl
@[simp] theorem State.setLeg_fresh {s : State} {n : Nat} {x : Leg} : (s.setLeg n x).fresh = s.fresh := rfl
@[simp] theorem State.setLeg_outbox {s : State} {n : Nat} {x : Leg} : (s.setLeg n x).outbox = s.outbox := rfl
@[simp] theorem State.setLeg_pending {s : State} {n : Nat} {x : Leg} : (s.setLeg n x).pending = s.pending := rfl

@[simp] theorem State.setAxis_regs {s : State} {n : Nat} {x : Axis} : (s.setAxis n x).regs = s.regs := rfl
@[simp] theorem State.setAxis_time {s : State} {n : Nat} {x : Axis} : (s.setAxis n x).time = s.time := rfl
@[simp] theorem State.setAxis_root {s : State} {n : Nat} {x : Axis} : (s.setAxis n x).root = s.root := rfl
@[simp] theorem State.setAxis_shadows {s : State} {n : Nat} {x : Axis} : (s.setAxis n x).shadows = s.shadows := rfl
@[simp] theorem State.setAxis_hidden {s : State} {n : Nat} {x : Axis} : (s.setAxis n x).hidden = s.hidden := rfl
@[simp] theorem State.setAxis_office {s : State} {n : Nat} {x : Axis} : (s.setAxis n x).office = s.office := rfl
@[simp] theorem State.setAxis_capture {s : State} {n : Nat} {x : Axis} : (s.setAxis n x).capture = s.capture := rfl
@[simp] theorem State.setAxis_legs {s : State} {n : Nat} {x : Axis} : (s.setAxis n x).legs = s.legs := rfl
@[simp] theorem State.setAxis_trips {s : State} {n : Nat} {x : Axis} : (s.setAxis n x).trips = s.trips := rfl
@[simp] theorem State.setAxis_sense {s : State} {n : Nat} {x : Axis} : (s.setAxis n x).sense = s.sense := rfl
@[simp] theorem State.setAxis_image {s : State} {n : Nat} {x : Axis} : (s.setAxis n x).image = s.image := rfl
@[simp] theorem State.setAxis_slots {s : State} {n : Nat} {x : Axis} : (s.setAxis n x).slots = s.slots := rfl
@[simp] theorem State.setAxis_fabric {s : State} {n : Nat} {x : Axis} : (s.setAxis n x).fabric = s.fabric := rfl
@[simp] theorem State.setAxis_acceptance {s : State} {n : Nat} {x : Axis} : (s.setAxis n x).acceptance = s.acceptance := rfl
@[simp] theorem State.setAxis_safety {s : State} {n : Nat} {x : Axis} : (s.setAxis n x).safety = s.safety := rfl
@[simp] theorem State.setAxis_security {s : State} {n : Nat} {x : Axis} : (s.setAxis n x).security = s.security := rfl
@[simp] theorem State.setAxis_links {s : State} {n : Nat} {x : Axis} : (s.setAxis n x).links = s.links := rfl
@[simp] theorem State.setAxis_twin {s : State} {n : Nat} {x : Axis} : (s.setAxis n x).twin = s.twin := rfl
@[simp] theorem State.setAxis_health {s : State} {n : Nat} {x : Axis} : (s.setAxis n x).health = s.health := rfl
@[simp] theorem State.setAxis_axisTick {s : State} {n : Nat} {x : Axis} : (s.setAxis n x).axisTick = s.axisTick := rfl
@[simp] theorem State.setAxis_axisNv {s : State} {n : Nat} {x : Axis} : (s.setAxis n x).axisNv = s.axisNv := rfl
@[simp] theorem State.setAxis_journal {s : State} {n : Nat} {x : Axis} : (s.setAxis n x).journal = s.journal := rfl
@[simp] theorem State.setAxis_cycle {s : State} {n : Nat} {x : Axis} : (s.setAxis n x).cycle = s.cycle := rfl
@[simp] theorem State.setAxis_fresh {s : State} {n : Nat} {x : Axis} : (s.setAxis n x).fresh = s.fresh := rfl
@[simp] theorem State.setAxis_outbox {s : State} {n : Nat} {x : Axis} : (s.setAxis n x).outbox = s.outbox := rfl
@[simp] theorem State.setAxis_pending {s : State} {n : Nat} {x : Axis} : (s.setAxis n x).pending = s.pending := rfl

@[simp] theorem State.setShadow_regs {s : State} {n : Nat} {x : Shadow} : (s.setShadow n x).regs = s.regs := rfl
@[simp] theorem State.setShadow_time {s : State} {n : Nat} {x : Shadow} : (s.setShadow n x).time = s.time := rfl
@[simp] theorem State.setShadow_root {s : State} {n : Nat} {x : Shadow} : (s.setShadow n x).root = s.root := rfl
@[simp] theorem State.setShadow_hidden {s : State} {n : Nat} {x : Shadow} : (s.setShadow n x).hidden = s.hidden := rfl
@[simp] theorem State.setShadow_office {s : State} {n : Nat} {x : Shadow} : (s.setShadow n x).office = s.office := rfl
@[simp] theorem State.setShadow_capture {s : State} {n : Nat} {x : Shadow} : (s.setShadow n x).capture = s.capture := rfl
@[simp] theorem State.setShadow_legs {s : State} {n : Nat} {x : Shadow} : (s.setShadow n x).legs = s.legs := rfl
@[simp] theorem State.setShadow_trips {s : State} {n : Nat} {x : Shadow} : (s.setShadow n x).trips = s.trips := rfl
@[simp] theorem State.setShadow_sense {s : State} {n : Nat} {x : Shadow} : (s.setShadow n x).sense = s.sense := rfl
@[simp] theorem State.setShadow_image {s : State} {n : Nat} {x : Shadow} : (s.setShadow n x).image = s.image := rfl
@[simp] theorem State.setShadow_slots {s : State} {n : Nat} {x : Shadow} : (s.setShadow n x).slots = s.slots := rfl
@[simp] theorem State.setShadow_fabric {s : State} {n : Nat} {x : Shadow} : (s.setShadow n x).fabric = s.fabric := rfl
@[simp] theorem State.setShadow_acceptance {s : State} {n : Nat} {x : Shadow} : (s.setShadow n x).acceptance = s.acceptance := rfl
@[simp] theorem State.setShadow_safety {s : State} {n : Nat} {x : Shadow} : (s.setShadow n x).safety = s.safety := rfl
@[simp] theorem State.setShadow_security {s : State} {n : Nat} {x : Shadow} : (s.setShadow n x).security = s.security := rfl
@[simp] theorem State.setShadow_links {s : State} {n : Nat} {x : Shadow} : (s.setShadow n x).links = s.links := rfl
@[simp] theorem State.setShadow_twin {s : State} {n : Nat} {x : Shadow} : (s.setShadow n x).twin = s.twin := rfl
@[simp] theorem State.setShadow_health {s : State} {n : Nat} {x : Shadow} : (s.setShadow n x).health = s.health := rfl
@[simp] theorem State.setShadow_axes {s : State} {n : Nat} {x : Shadow} : (s.setShadow n x).axes = s.axes := rfl
@[simp] theorem State.setShadow_axisTick {s : State} {n : Nat} {x : Shadow} : (s.setShadow n x).axisTick = s.axisTick := rfl
@[simp] theorem State.setShadow_axisNv {s : State} {n : Nat} {x : Shadow} : (s.setShadow n x).axisNv = s.axisNv := rfl
@[simp] theorem State.setShadow_journal {s : State} {n : Nat} {x : Shadow} : (s.setShadow n x).journal = s.journal := rfl
@[simp] theorem State.setShadow_cycle {s : State} {n : Nat} {x : Shadow} : (s.setShadow n x).cycle = s.cycle := rfl
@[simp] theorem State.setShadow_fresh {s : State} {n : Nat} {x : Shadow} : (s.setShadow n x).fresh = s.fresh := rfl
@[simp] theorem State.setShadow_outbox {s : State} {n : Nat} {x : Shadow} : (s.setShadow n x).outbox = s.outbox := rfl
@[simp] theorem State.setShadow_pending {s : State} {n : Nat} {x : Shadow} : (s.setShadow n x).pending = s.pending := rfl

@[simp] theorem State.setPath_regs {s : State} {n : Nat} {x : Path} : (s.setPath n x).regs = s.regs := rfl
@[simp] theorem State.setPath_time {s : State} {n : Nat} {x : Path} : (s.setPath n x).time = s.time := rfl
@[simp] theorem State.setPath_root {s : State} {n : Nat} {x : Path} : (s.setPath n x).root = s.root := rfl
@[simp] theorem State.setPath_shadows {s : State} {n : Nat} {x : Path} : (s.setPath n x).shadows = s.shadows := rfl
@[simp] theorem State.setPath_hidden {s : State} {n : Nat} {x : Path} : (s.setPath n x).hidden = s.hidden := rfl
@[simp] theorem State.setPath_office {s : State} {n : Nat} {x : Path} : (s.setPath n x).office = s.office := rfl
@[simp] theorem State.setPath_capture {s : State} {n : Nat} {x : Path} : (s.setPath n x).capture = s.capture := rfl
@[simp] theorem State.setPath_legs {s : State} {n : Nat} {x : Path} : (s.setPath n x).legs = s.legs := rfl
@[simp] theorem State.setPath_trips {s : State} {n : Nat} {x : Path} : (s.setPath n x).trips = s.trips := rfl
@[simp] theorem State.setPath_image {s : State} {n : Nat} {x : Path} : (s.setPath n x).image = s.image := rfl
@[simp] theorem State.setPath_slots {s : State} {n : Nat} {x : Path} : (s.setPath n x).slots = s.slots := rfl
@[simp] theorem State.setPath_fabric {s : State} {n : Nat} {x : Path} : (s.setPath n x).fabric = s.fabric := rfl
@[simp] theorem State.setPath_acceptance {s : State} {n : Nat} {x : Path} : (s.setPath n x).acceptance = s.acceptance := rfl
@[simp] theorem State.setPath_safety {s : State} {n : Nat} {x : Path} : (s.setPath n x).safety = s.safety := rfl
@[simp] theorem State.setPath_security {s : State} {n : Nat} {x : Path} : (s.setPath n x).security = s.security := rfl
@[simp] theorem State.setPath_links {s : State} {n : Nat} {x : Path} : (s.setPath n x).links = s.links := rfl
@[simp] theorem State.setPath_twin {s : State} {n : Nat} {x : Path} : (s.setPath n x).twin = s.twin := rfl
@[simp] theorem State.setPath_health {s : State} {n : Nat} {x : Path} : (s.setPath n x).health = s.health := rfl
@[simp] theorem State.setPath_axes {s : State} {n : Nat} {x : Path} : (s.setPath n x).axes = s.axes := rfl
@[simp] theorem State.setPath_axisTick {s : State} {n : Nat} {x : Path} : (s.setPath n x).axisTick = s.axisTick := rfl
@[simp] theorem State.setPath_axisNv {s : State} {n : Nat} {x : Path} : (s.setPath n x).axisNv = s.axisNv := rfl
@[simp] theorem State.setPath_journal {s : State} {n : Nat} {x : Path} : (s.setPath n x).journal = s.journal := rfl
@[simp] theorem State.setPath_cycle {s : State} {n : Nat} {x : Path} : (s.setPath n x).cycle = s.cycle := rfl
@[simp] theorem State.setPath_fresh {s : State} {n : Nat} {x : Path} : (s.setPath n x).fresh = s.fresh := rfl
@[simp] theorem State.setPath_outbox {s : State} {n : Nat} {x : Path} : (s.setPath n x).outbox = s.outbox := rfl
@[simp] theorem State.setPath_pending {s : State} {n : Nat} {x : Path} : (s.setPath n x).pending = s.pending := rfl

@[simp] theorem State.setBtrips_regs {s : State} {n : Nat} {x : BridgeTrips} : (s.setBtrips n x).regs = s.regs := rfl
@[simp] theorem State.setBtrips_time {s : State} {n : Nat} {x : BridgeTrips} : (s.setBtrips n x).time = s.time := rfl
@[simp] theorem State.setBtrips_root {s : State} {n : Nat} {x : BridgeTrips} : (s.setBtrips n x).root = s.root := rfl
@[simp] theorem State.setBtrips_shadows {s : State} {n : Nat} {x : BridgeTrips} : (s.setBtrips n x).shadows = s.shadows := rfl
@[simp] theorem State.setBtrips_hidden {s : State} {n : Nat} {x : BridgeTrips} : (s.setBtrips n x).hidden = s.hidden := rfl
@[simp] theorem State.setBtrips_office {s : State} {n : Nat} {x : BridgeTrips} : (s.setBtrips n x).office = s.office := rfl
@[simp] theorem State.setBtrips_capture {s : State} {n : Nat} {x : BridgeTrips} : (s.setBtrips n x).capture = s.capture := rfl
@[simp] theorem State.setBtrips_legs {s : State} {n : Nat} {x : BridgeTrips} : (s.setBtrips n x).legs = s.legs := rfl
@[simp] theorem State.setBtrips_sense {s : State} {n : Nat} {x : BridgeTrips} : (s.setBtrips n x).sense = s.sense := rfl
@[simp] theorem State.setBtrips_image {s : State} {n : Nat} {x : BridgeTrips} : (s.setBtrips n x).image = s.image := rfl
@[simp] theorem State.setBtrips_slots {s : State} {n : Nat} {x : BridgeTrips} : (s.setBtrips n x).slots = s.slots := rfl
@[simp] theorem State.setBtrips_fabric {s : State} {n : Nat} {x : BridgeTrips} : (s.setBtrips n x).fabric = s.fabric := rfl
@[simp] theorem State.setBtrips_acceptance {s : State} {n : Nat} {x : BridgeTrips} : (s.setBtrips n x).acceptance = s.acceptance := rfl
@[simp] theorem State.setBtrips_safety {s : State} {n : Nat} {x : BridgeTrips} : (s.setBtrips n x).safety = s.safety := rfl
@[simp] theorem State.setBtrips_security {s : State} {n : Nat} {x : BridgeTrips} : (s.setBtrips n x).security = s.security := rfl
@[simp] theorem State.setBtrips_links {s : State} {n : Nat} {x : BridgeTrips} : (s.setBtrips n x).links = s.links := rfl
@[simp] theorem State.setBtrips_twin {s : State} {n : Nat} {x : BridgeTrips} : (s.setBtrips n x).twin = s.twin := rfl
@[simp] theorem State.setBtrips_health {s : State} {n : Nat} {x : BridgeTrips} : (s.setBtrips n x).health = s.health := rfl
@[simp] theorem State.setBtrips_axes {s : State} {n : Nat} {x : BridgeTrips} : (s.setBtrips n x).axes = s.axes := rfl
@[simp] theorem State.setBtrips_axisTick {s : State} {n : Nat} {x : BridgeTrips} : (s.setBtrips n x).axisTick = s.axisTick := rfl
@[simp] theorem State.setBtrips_axisNv {s : State} {n : Nat} {x : BridgeTrips} : (s.setBtrips n x).axisNv = s.axisNv := rfl
@[simp] theorem State.setBtrips_journal {s : State} {n : Nat} {x : BridgeTrips} : (s.setBtrips n x).journal = s.journal := rfl
@[simp] theorem State.setBtrips_cycle {s : State} {n : Nat} {x : BridgeTrips} : (s.setBtrips n x).cycle = s.cycle := rfl
@[simp] theorem State.setBtrips_fresh {s : State} {n : Nat} {x : BridgeTrips} : (s.setBtrips n x).fresh = s.fresh := rfl
@[simp] theorem State.setBtrips_outbox {s : State} {n : Nat} {x : BridgeTrips} : (s.setBtrips n x).outbox = s.outbox := rfl
@[simp] theorem State.setBtrips_pending {s : State} {n : Nat} {x : BridgeTrips} : (s.setBtrips n x).pending = s.pending := rfl

@[simp] theorem get_put_same {s : State} {f : Fld} {v : Nat} : (s.put f v).get f = v % 2 ^ min f.width 32 := sget_sset_same

theorem get_put_ne {s : State} {f g : Fld} {v : Nat} (h : g.key ≠ f.key) : (s.put f v).get g = s.get g := sget_sset_ne h

@[simp] theorem get_send {s : State} {f : Fld} {o : OutMsg} : (s.send o).get f = s.get f := rfl
@[simp] theorem get_setLeg {s : State} {f : Fld} {n : Nat} {x : Leg} : (s.setLeg n x).get f = s.get f := rfl
@[simp] theorem get_setAxis {s : State} {f : Fld} {n : Nat} {x : Axis} : (s.setAxis n x).get f = s.get f := rfl
@[simp] theorem get_setShadow {s : State} {f : Fld} {n : Nat} {x : Shadow} : (s.setShadow n x).get f = s.get f := rfl
@[simp] theorem get_setPath {s : State} {f : Fld} {n : Nat} {x : Path} : (s.setPath n x).get f = s.get f := rfl
@[simp] theorem get_setBtrips {s : State} {f : Fld} {n : Nat} {x : BridgeTrips} : (s.setBtrips n x).get f = s.get f := rfl

@[simp] theorem leg_setLeg_same {s : State} {n : Nat} {x : Leg} : (s.setLeg n x).leg n = x := sget_sset_same
theorem leg_setLeg_ne {s : State} {n k : Nat} {x : Leg} (h : k ≠ n) : (s.setLeg n x).leg k = s.leg k := sget_sset_ne h
@[simp] theorem axis_setAxis_same {s : State} {n : Nat} {x : Axis} : (s.setAxis n x).axis n = x := sget_sset_same
theorem axis_setAxis_ne {s : State} {n k : Nat} {x : Axis} (h : k ≠ n) : (s.setAxis n x).axis k = s.axis k := sget_sset_ne h
@[simp] theorem shadow_setShadow_same {s : State} {n : Nat} {x : Shadow} : (s.setShadow n x).shadow n = x := sget_sset_same
theorem shadow_setShadow_ne {s : State} {n k : Nat} {x : Shadow} (h : k ≠ n) : (s.setShadow n x).shadow k = s.shadow k := sget_sset_ne h
@[simp] theorem path_setPath_same {s : State} {n : Nat} {x : Path} : (s.setPath n x).path n = x := sget_sset_same
theorem path_setPath_ne {s : State} {n k : Nat} {x : Path} (h : k ≠ n) : (s.setPath n x).path k = s.path k := sget_sset_ne h

/-- The queue stands, and the outcome is a next state. -/
theorem answers_next {s t u : State} (h : answers s t = .next u) : u = { t with pending := s.pending } := by
  cases h
  rfl

theorem runs_on {s t : State} (h : s.powered = true) : runs s t = .next { t with pending := s.pending } := by
  simp [runs, answers, h]

theorem runs_off {s t : State} (h : s.powered = false) : runs s t = .next s := by
  simp [runs, answers, h]

end Sys2Proof.Machine
end

