-- ==== Sys2Proof/Laws/Bus.lean ====
section
/-!
SUPPORT. What the shared operations of the bus do: address errors, read results, shadows, the pairs of words.
-/
namespace Sys2Proof.Machine

theorem Requester.num_ne {q r : Requester} (h : q ≠ r) : q.num ≠ r.num := by
  intro e
  apply h
  cases q <;> cases r <;> simp only [Requester.num] at e <;> first | rfl | omega | skip
  rename_i a b
  exact congrArg _ (Fin.ext (by omega))

theorem Requester.num_lt (r : Requester) : r.num < 10 := by
  cases r <;> simp only [Requester.num] <;> omega

@[simp] theorem lastRead_readBack {s : State} {r : Requester} {l : List Nat} : (s.readBack r.num l).lastRead r = l := by
  simp [State.lastRead, State.readBack, sget_sset_same]

theorem lastRead_readBack_ne {s : State} {q r : Requester} {l : List Nat} (h : q ≠ r) : (s.readBack r.num l).lastRead q = s.lastRead q := by
  simp [State.lastRead, State.readBack, sget_sset_ne (Requester.num_ne h)]

@[simp] theorem shadow_readBack {s : State} {n k : Nat} {l : List Nat} : (s.readBack n l).shadow k = s.shadow k := rfl
@[simp] theorem get_readBack {s : State} {n : Nat} {f : Fld} {l : List Nat} : (s.readBack n l).get f = s.get f := rfl
@[simp] theorem lastRead_setShadow {s : State} {n : Nat} {x : Shadow} {r : Requester} : (s.setShadow n x).lastRead r = s.lastRead r := rfl
@[simp] theorem lastRead_put {s : State} {f : Fld} {v : Nat} {r : Requester} : (s.put f v).lastRead r = s.lastRead r := rfl
@[simp] theorem shadow_put {s : State} {f : Fld} {v n : Nat} : (s.put f v).shadow n = s.shadow n := rfl

/-- An address error writes its four registers, and for the quad-SPI port its status bit. -/
theorem addrError_get {s : State} {r kind addr : Nat} (f : Fld) : (addrError s r kind addr).get f
    = ((((s.put R.NODE_ADDRERR_COUNT (min 65535 (s.get R.NODE_ADDRERR_COUNT + 1))).put R.NODE_ADDRERR_REQ r).put R.NODE_ADDRERR_KIND kind).put
        R.NODE_ADDRERR_ADDR_ADDR addr).get f := by
  unfold addrError
  dsimp only
  split <;> rfl

theorem addrError_regs {s : State} {r kind addr : Nat} (hr : r < 16) (hk : kind < 16) (ha : addr < 2 ^ 32) :
    (addrError s r kind addr).get R.NODE_ADDRERR_COUNT = min 65535 (s.get R.NODE_ADDRERR_COUNT + 1)
    ∧ (addrError s r kind addr).get R.NODE_ADDRERR_REQ = r ∧ (addrError s r kind addr).get R.NODE_ADDRERR_KIND = kind
    ∧ (addrError s r kind addr).get R.NODE_ADDRERR_ADDR_ADDR = addr := by
  refine ⟨?_, ?_, ?_, ?_⟩ <;> rw [addrError_get]
  · rw [get_put_ne (by decide), get_put_ne (by decide), get_put_ne (by decide), get_put_same]
    exact Nat.mod_eq_of_lt (show min 65535 _ < 65536 by omega)
  · rw [get_put_ne (by decide), get_put_ne (by decide), get_put_same]
    exact Nat.mod_eq_of_lt hr
  · rw [get_put_ne (by decide), get_put_same]
    exact Nat.mod_eq_of_lt hk
  · rw [get_put_same]
    exact Nat.mod_eq_of_lt ha

theorem addrError_shadow {s : State} {r kind addr n : Nat} : (addrError s r kind addr).shadow n = s.shadow n := by
  unfold addrError
  dsimp only
  split <;> rfl

theorem addrError_lastRead {s : State} {r kind addr : Nat} {q : Requester} : (addrError s r kind addr).lastRead q = s.lastRead q := by
  unfold addrError
  dsimp only
  split <;> rfl

/-- The _LO words of single pairs, the flight record's and replay's among them. -/
def loWords : List Nat :=
  [0x2018, 0x2020, 0x10000, 0x10020, 0x10028, 0x10038, 0x20028, 0xC0010, 0xC0018, 0xC0020, 0xC0028, 0x200048, 0x700008]
    ++ [0x300010, 0x300018, 0x300020, 0x300050, 0x300058, 0x300060, 0x300068, 0x300070]

/-- The places of the axes' pairs in an axis's block. -/
def loAxis : List Nat := [0x10, 0x18, 0x20, 0x28, 0x30, 0x4C, 0x60, 0x68, 0x70]

theorem isLo_iff {a : Nat} : isLo a = true ↔ a ∈ loWords ∨ (0x780000 ≤ a ∧ a < 0x784000 ∧ a % 0x1000 ∈ loAxis)
    ∨ (0x80100 ≤ a ∧ a < 0x80600 ∧ a % 8 = 0) ∨ (0x280000 ≤ a ∧ a < 0x300000 ∧ a % 8 = 0) := by
  have e : inBlock 0x300000 0x80 [0x10, 0x18, 0x20, 0x50, 0x58, 0x60, 0x68, 0x70] a = true
      ↔ a ∈ [0x300010, 0x300018, 0x300020, 0x300050, 0x300058, 0x300060, 0x300068, 0x300070] := by
    simp only [inBlock, Bool.and_eq_true, decide_eq_true_eq, List.contains_eq_mem, List.mem_cons, List.not_mem_nil, or_false]
    omega
  simp only [isLo, Bool.or_eq_true, e, loWords, List.mem_append, axisLo, loAxis, Bool.and_eq_true, decide_eq_true_eq, List.contains_eq_mem,
    and_assoc, or_assoc]

/-- The word after a _LO word of a pair is the _LO word of none. -/
theorem isLo_next {a : Nat} (h : isLo a = true) : a % 4 = 0 ∧ a + 4 < 2 ^ 32 ∧ isLo (a + 4) = false := by
  rw [← Bool.not_eq_true, isLo_iff]
  rw [isLo_iff] at h
  obtain h | ⟨h1, h2, h⟩ | h | h := h
  · revert a
    decide
  · have : ∀ x ∈ loAxis, x % 4 = 0 ∧ x < 0x80 ∧ x + 4 ∉ loAxis := by decide
    obtain ⟨g1, g2, g3⟩ := this _ h
    have w : ∀ x ∈ loWords, x < 0x780000 := by decide
    have e : (a + 4) % 0x1000 = a % 0x1000 + 4 := by omega
    refine ⟨by omega, by omega, ?_⟩
    rw [e]
    rintro (k | ⟨_, _, k⟩ | k | k)
    · have := w _ k
      omega
    · exact g3 k
    · omega
    · omega
  · have w : ∀ x ∈ loWords, x < 0x80100 ∨ 0x80608 < x := by decide
    refine ⟨by omega, by omega, ?_⟩
    rintro (k | ⟨_, _, k⟩ | k | k)
    · have := w _ k
      omega
    all_goals omega
  · have w : ∀ x ∈ loWords, x < 0x280000 ∨ 0x300008 < x := by decide
    refine ⟨by omega, by omega, ?_⟩
    rintro (k | ⟨_, _, k⟩ | k | k)
    · have := w _ k
      omega
    all_goals omega

theorem isWrLo_isLo {a : Nat} (h : isWrLo a = true) : isLo a = true := by
  rw [isLo_iff]
  simp only [isWrLo, axisLo, Bool.or_eq_true, Bool.and_eq_true, decide_eq_true_eq, List.contains_eq_mem] at h
  obtain h | ⟨⟨h1, h2⟩, h⟩ := h
  · have : ∀ x ∈ [0x10028, 0x20028, 0x200048, 0x300010, 0x300050, 0x300058], x ∈ loWords := by decide
    exact Or.inl (this _ h)
  · have : ∀ x ∈ [0x18, 0x28, 0x30, 0x4C], x ∈ loAxis := by decide
    exact Or.inr (Or.inl ⟨h1, h2, this _ h⟩)

/-- What a read of a word leaves alone whatever it reads: shadows and read results. -/
structure ReadStep (s t : State) : Prop where
  shadows : t.shadows = s.shadows
  readData : t.links.readData = s.links.readData

theorem ReadStep.refl (s : State) : ReadStep s s := ⟨rfl, rfl⟩

theorem ReadStep.trans {s t u : State} (h : ReadStep s t) (g : ReadStep t u) : ReadStep s u := ⟨g.1.trans h.1, g.2.trans h.2⟩

theorem ReadStep.shadow {s t : State} (h : ReadStep s t) (n : Nat) : t.shadow n = s.shadow n := by
  unfold State.shadow
  rw [h.1]

theorem ReadStep.lastRead {s t : State} (h : ReadStep s t) (r : Requester) : t.lastRead r = s.lastRead r := by
  unfold State.lastRead
  rw [h.2]

theorem addrError_reads {s : State} {r kind addr : Nat} : ReadStep s (addrError s r kind addr) := by
  unfold addrError
  dsimp only
  split <;> exact ⟨rfl, rfl⟩

theorem clear_reads {s : State} {f : Fld} {keep : Nat} : ReadStep s (s.clear f keep) := by
  unfold State.clear
  split <;> exact ⟨rfl, rfl⟩

theorem clearRead_reads {s : State} {fs : List Fld} : ReadStep s (clearRead s fs) := by
  unfold clearRead
  induction fs generalizing s with
  | nil => exact .refl s
  | cons f fs ih =>
    rw [List.foldl_cons]
    refine .trans ?_ ih
    split
    · exact clear_reads
    · exact .refl s

theorem ReadStep.pick {s t u : State} {c : Prop} [Decidable c] {a b : Nat} (h : ReadStep s t) (g : ReadStep s u) :
    ReadStep s (if c then (a, t) else (b, u)).2 := by
  split <;> assumption

theorem freshNat_reads {s : State} : ReadStep s s.freshNat.2 := by
  unfold State.freshNat
  exact ⟨rfl, rfl⟩

theorem curbufWord_reads {s : State} {c o : Nat} : ReadStep s (curbufWord s c o).2 := by
  unfold curbufWord
  exact .pick (.refl s) freshNat_reads

theorem windowRead_reads {s : State} {r a : Nat} : ∀ x, windowRead s r a = some x → ReadStep s x.2 := by
  have ite : ∀ (c : Prop) [Decidable c] (o p : Option (Nat × State)), (∀ x, o = some x → ReadStep s x.2) →
      (∀ x, p = some x → ReadStep s x.2) → ∀ x, (if c then o else p) = some x → ReadStep s x.2 := by
    intro c _ o p ho hp
    split
    · exact ho
    · exact hp
  have one : ∀ (v : Nat) (x : Nat × State), some (v, s) = some x → ReadStep s x.2 := fun v x e => by cases e; exact .refl s
  unfold windowRead
  refine ite _ _ _ (fun x e => by cases e; exact addrError_reads) (ite _ _ _ (one _) (ite _ _ _ (one _)
    (ite _ _ _ (fun x e => by cases e; exact curbufWord_reads) ?_)))
  exact ite _ _ _ (one _) (ite _ _ _ (one _) (ite _ _ _ (one _) (ite _ _ _ (one _) (ite _ _ _ (one _) (ite _ _ _ (one _)
    (ite _ _ _ (one _) (ite _ _ _ (one _) (fun x e => by cases e))))))))

theorem frAtPtr_reads {s : State} : ReadStep s (frAtPtr s).2 := by
  unfold frAtPtr
  exact .pick (.refl s) freshNat_reads

theorem regRead_reads {s : State} {r a : Nat} {fs : List Fld} : ReadStep s (regRead s r a fs).2 := by
  unfold regRead
  exact ⟨(clearRead_reads (s := s)).1, (clearRead_reads (s := s)).2⟩

theorem ledgerMet_reads {s : State} {a : Nat} : ReadStep s (ledgerMet s a) :=
  have h := (ledgerMet_ev (a := a) (Ev.refl _ s) (hm := Nat.and_self _)).7
  ⟨h.shadows.resolve_left (by decide +kernel), congrArg (·.readData) (h.links.resolve_left (by decide +kernel))⟩

theorem readWord_reads {s : State} {r a : Nat} : ReadStep s (readWord s r a).2 := by
  have key : ∀ (s : State) (c d : Prop) [Decidable c] [Decidable d] (x y : Nat) (t : State) (o : Option (List Fld)), ReadStep s t →
      ReadStep s (if c then (x, t) else if d then (y, t) else match o with
        | some fs => regRead s r a fs
        | none => (0, addrError s r 1 a)).2 := by
    intro s c d _ _ x y t o ht
    split
    · exact ht
    · split
      · exact ht
      · split
        · exact regRead_reads
        · exact addrError_reads
  unfold readWord
  refine .trans (ledgerMet_reads (a := a)) ?_
  dsimp only
  split
  · rename_i hx
    exact windowRead_reads _ hx
  · exact key _ _ _ _ _ _ _ frAtPtr_reads

theorem frAdvance_reads {s : State} : ReadStep s (frAdvance s) := ⟨rfl, rfl⟩

theorem readPair_reads {s : State} {r a : Nat} : ReadStep s (readPair s r a).2 := by
  unfold readPair
  exact .pick (frAtPtr_reads.trans frAdvance_reads) (readWord_reads.trans readWord_reads)

/-- A change that does not reach the clock root leaves the node powered or not as it was. -/
theorem Keeps.powered {m : Nat} {s t : State} (h : Keeps m s t) (g : ¬ Cov (2 ^ Part.root.ctorIdx) m) : t.powered = s.powered := by
  unfold State.powered
  rw [h.root.resolve_left g]

/-- A read carried out by `readRuns`, from the lemma of its operation. -/
theorem Does.of_reads {c : Instr} {s : State} {m n k : Nat} {x : List Nat × State} {p : State → Prop} (hc : exec c s = readRuns s n k x)
    (hp : s.serves n = true) (e : Ev m s (x.2.readBack n x.1)) (hx : p (x.2.readBack n x.1)) : Does c s m p := by
  refine ⟨_, ?_, e.7, hx⟩
  have h := e.7.pending
  rw [hc, readRuns, answers, if_pos hp, ← h]

theorem postmark_lt {s : State} : s.postmark < 2 ^ 64 := Nat.mod_lt _ (by decide)

theorem get_putPair_lo {s : State} {lo hi : Fld} {v : Nat} (h : lo.key ≠ hi.key) (hw : 32 ≤ lo.width) :
    (s.putPair lo hi v).get lo = v % 2 ^ 32 := by
  unfold State.putPair
  rw [get_put_ne h, get_put_same, Nat.min_eq_right hw, Nat.mod_mod]

theorem get_putPair_hi {s : State} {lo hi : Fld} {v : Nat} (hw : 32 ≤ hi.width) : (s.putPair lo hi v).get hi = v / 2 ^ 32 % 2 ^ 32 := by
  unfold State.putPair
  rw [get_put_same, Nat.min_eq_right hw]

/-- POST_NOW_LO reads the low word of the present postmark. -/
theorem readWord_now_lo {s : State} {r : Nat} : readWord s r 0x10000 = (s.postmark % 2 ^ 32, s) := by
  have f : regFields Config.gradeFuse r 0x10000 = some [R.POST_NOW_LO_FRAC] := rfl
  have w : windowRead s r 0x10000 = none := by simp [windowRead, coreOnly]
  have e : regRead s r 0x10000 [R.POST_NOW_LO_FRAC] = (s.postmark % 2 ^ 32, s) := by
    simp only [regRead, live, fieldsWord, List.foldl, clearRead]
    simp [State.shown, R.POST_NOW_LO_FRAC, R.POST_NOW_HI_SEC]
    exact ⟨get_putPair_lo (by decide) (by decide), rfl⟩
  have m : ledgerMet s 0x10000 = s := by simp [ledgerMet]
  simp only [readWord, m, w, f, e]
  simp

/-- POST_NOW_HI reads its high word. -/
theorem readWord_now_hi {s : State} {r : Nat} : readWord s r 0x10004 = (s.postmark / 2 ^ 32, s) := by
  have f : regFields Config.gradeFuse r 0x10004 = some [R.POST_NOW_HI_SEC] := rfl
  have w : windowRead s r 0x10004 = none := by simp [windowRead, coreOnly]
  have e : regRead s r 0x10004 [R.POST_NOW_HI_SEC] = (s.postmark / 2 ^ 32, s) := by
    simp only [regRead, live, fieldsWord, List.foldl, clearRead]
    simp [State.shown, R.POST_NOW_LO_FRAC, R.POST_NOW_HI_SEC]
    refine ⟨(get_putPair_hi (by decide)).trans ?_, rfl⟩
    have := postmark_lt (s := s)
    omega
  have m : ledgerMet s 0x10004 = s := by simp [ledgerMet]
  simp only [readWord, m, w, f, e]
  simp

/-- POST_NOW as one access is the present postmark. -/
theorem readPair_now {s : State} {r : Nat} : readPair s r 0x10000 = (s.postmark, s) := by
  have := postmark_lt (s := s)
  simp [readPair, readWord_now_lo, readWord_now_hi]
  omega

/-- A writable pair's _LO address lies in no window, and its _HI address neither. -/
theorem windowWrite_wr {s : State} {r a v : Nat} (h : isWrLo a = true) : windowWrite s r a v = none ∧ windowWrite s r (a + 4) v = none := by
  have hb : a = 0x10028 ∨ a = 0x20028 ∨ a = 0x200048 ∨ a = 0x300010 ∨ a = 0x300050 ∨ a = 0x300058 ∨ (0x780000 ≤ a ∧ a < 0x784000) := by
    simp only [isWrLo, axisLo, Bool.or_eq_true, Bool.and_eq_true, decide_eq_true_eq, List.contains_eq_mem, List.mem_cons, List.not_mem_nil,
      or_false] at h
    omega
  constructor <;>
  · unfold windowWrite
    rw [if_neg, if_neg (by omega), if_neg (by omega), if_neg (by omega)]
    rintro ⟨h1, -, -⟩
    simp only [coreOnly, Bool.or_eq_true, beq_iff_eq, decide_eq_true_eq] at h1
    omega

/-- A write at the _LO address of a writable pair is kept in the write shadow. -/
theorem busWrite_lo {s : State} {r a v : Nat} (h : isWrLo a = true) :
    busWrite s r a v = s.setShadow r { s.shadow r with wr := some (a, v) } := by
  have h4 := (isLo_next (isWrLo_isLo h)).1
  simp only [busWrite, h4, (windowWrite_wr (s := s) (r := r) (v := v) h).1, h]
  rfl

/-- The _HI address of a writable pair is no _LO address of one. -/
theorem isWrLo_next {a : Nat} (h : isWrLo a = true) : isWrLo (a + 4) = false ∧ isWrHi (a + 4) = true := by
  constructor
  · have := (isLo_next (isWrLo_isLo h)).2.2
    rw [← Bool.not_eq_true] at this ⊢
    exact fun g => this (isWrLo_isLo g)
  · simp [isWrHi, h]

/-- A write at the _HI address with the _LO word in the shadow is the pair's write. -/
theorem busWrite_hi {s : State} {r a v lo : Nat} (h : isWrLo a = true) (hs : (s.shadow r).wr = some (a, lo)) :
    busWrite s r (a + 4) v = pairCommit (s.setShadow r { s.shadow r with wr := none }) r a (lo + v * 2 ^ 32) := by
  have h4 := (isLo_next (isWrLo_isLo h)).1
  have e : (a + 4) % 4 = 0 := by omega
  simp only [busWrite, e, (windowWrite_wr (s := s) (r := r) (v := v) h).2, isWrLo_next h, hs]
  simp

/-- Without it the write is an address error of kind 4. -/
theorem busWrite_hi_miss {s : State} {r a v : Nat} (h : isWrLo a = true) (hs : ∀ lo, (s.shadow r).wr ≠ some (a, lo)) :
    busWrite s r (a + 4) v = addrError s r 4 (a + 4) := by
  have h4 := (isLo_next (isWrLo_isLo h)).1
  have e : (a + 4) % 4 = 0 := by omega
  simp only [busWrite, e, (windowWrite_wr (s := s) (r := r) (v := v) h).2, isWrLo_next h]
  cases hh : (s.shadow r).wr with
  | none => simp
  | some x =>
    obtain ⟨b, w⟩ := x
    have : b ≠ a := by
      rintro rfl
      exact hs w hh
    simp [this]

end Sys2Proof.Machine
end

