-- ==== Sys2Proof/WellFormed.lean ====
section
/-!
DEFINITION. Well-formed commands: the operands that the sender of a command can form. Where a number's type does not hold its range
already, its check stands here (lengths of Tables SE-4 to SE-7, LK-2, LK-3, LK-7 and CP-8; R281, R420, R445, R468, R470).
-/
namespace Sys2Proof

/-- An access moves at least one byte and at most one PCI Express payload. -/
def sizeOk (n : Nat) : Bool := decide (0 < n) && decide (n ≤ 4096)

/-- The modulator values between two triggers: one bit of ±1 each for a bitstream path, slice codes for a slice path (R264). -/
def modsOk (path : Fin 120) (mods : List Int) : Bool :=
  mods.all fun v => if path.val < 96 then v == 1 || v == -1 else decide (-8388608 ≤ v) && decide (v ≤ 8388607)

/-- A command: at most 32 received bytes are kept for a dead letter (R309), and its sequence number is a u48 (R363). -/
def Command.wf (c : Command) : Bool := decide (c.seq < 2 ^ 48) && decide (c.item.length ≤ 8952)

/-- A bundle: frame number, discontinuities and counts inside their fields (R439, Table CP-8). -/
def Bundle.wf (b : Bundle) : Bool :=
  decide (b.k < 2 ^ 64) && decide (b.disc < 2 ^ 16) && decide (b.ncmd < 2 ^ 16)
    && b.samples.all (fun e => decide (e.1 < 120) && decide (e.2.1 < 2 ^ 24) && decide (e.2.2 < 2 ^ 32))
    && b.resampled.all (fun e => decide (e.1 < 32) && decide (e.2.1 < 2 ^ 16) && decide (e.2.2.1 < 2 ^ 32) && decide (e.2.2.2 < 2 ^ 32))

/-- What HELLO tells of a partner: a SHA-512 digest, a role code of Table TW-3. -/
def Partner.wf (p : Partner) : Bool :=
  decide (p.imageId < 2 ^ 32) && decide (p.version < 2 ^ 32) && decide (p.digest.length = 64) && decide (p.role < 8)

/-- A leg anchor names a leg and carries values of its registers (R366). -/
def LegAnchor.wf (a : LegAnchor) : Bool := decide (a.leg < 96) && decide (a.zero < 2 ^ 72)

/-- A resynchronisation transfer (R366). -/
def Transfer.wf (x : Transfer) : Bool :=
  decide (x.k < 2 ^ 64) && x.legs.all LegAnchor.wf && x.waiting.all Command.wf && decide (x.nextSeq < 2 ^ 48)

/-- FRANK_REQ holds a 32-byte nonce (Table LK-2). -/
def FrankReq.wf (f : FrankReq) : Bool := decide (f.nonce.length = 32)

/-- FRANK_REP holds a 2,048-byte statement with its signature, a certificate whose length is a u16 and at most 64 log entries of 80 bytes
(Table LK-2). -/
def FrankRep.wf (f : FrankRep) : Bool :=
  decide (f.statement.length = 2048) && decide (f.cert.length < 2 ^ 16) && decide (f.log.length ≤ 5120) && decide (f.log.length % 80 = 0)

/-- KEY_TRANSPORT carries a 512-byte ciphertext or none, KEY_CONFIRM none. -/
def KeyMsg.wf (k : KeyMsg) : Bool := decide (k.cipher.length ≤ 512) && decide (k.check.length ≤ 576)

/-- A session frame has a 16-byte tag and at most 8,952 bytes of payload (Table SE-7, R431). -/
def SessionFrame.wf (f : SessionFrame) : Bool := decide (f.tag.length = 16) && decide (f.payload.length ≤ 8952)

/-- A broadcast record is 32 bytes and its signature block 576 (R420). -/
def BroadcastRec.wf (b : BroadcastRec) : Bool := decide (b.record.length = 32) && decide (b.sig.length = 576)

/-- A site message has a one-byte type, a body whose length is a u16 and a fine postmark (Table LK-3, R427). -/
def SiteMessage.wf (m : SiteMessage) : Bool := decide (m.mtype < 256) && decide (m.body.length < 2 ^ 16) && decide (m.ta < 2 ^ 72)

/-- A PTP message has a 4-bit messageType and an 8-bit domain. -/
def PtpMessage.wf (m : PtpMessage) : Bool := decide (m.mtype < 16) && decide (m.domain < 256) && decide (m.ns < 1000000000)

/-- A CAN frame: an 11-bit identifier without IDE, bit rate switching only in FD frames, at most 8 data bytes in a classic frame and a CAN FD
length otherwise (ISO 11898-1). -/
def CanFrame.wf (f : CanFrame) : Bool :=
  (f.ide || decide (f.id.toNat < 2 ^ 11)) && (f.fdf || !f.brs)
    && (if f.fdf then decide (f.data.length ≤ 8) || [12, 16, 20, 24, 32, 48, 64].contains f.data.length else decide (f.data.length ≤ 8))

/-- The command can be formed. -/
def Instr.wf : Instr → Bool
  | .frameStart => true
  | .trayTick => true
  | .safetyCycle pilot _ => decide (pilot < 2 ^ 24)
  | .axisEvaluation => true
  | .servoUpdate _ _ => true
  | .ppsEdge _ => true
  | .sourceUnusable _ => true
  | .holdoverBoundExceeded => true
  | .postmarkSecondsEnd => true
  | .postSet _ _ => true
  | .shadowLoRead _ _ => true
  | .shadowHiRead _ _ => true
  | .shadowLoWrite _ _ _ => true
  | .shadowHiWrite _ _ _ => true
  | .wideAccess _ _ => true
  | .readToClear _ _ size => sizeOk size
  | .writeOneToClear _ _ _ => true
  | .registerWrite _ _ size _ => sizeOk size
  | .identWrite _ _ => true
  | .acceptCommand c => c.wf
  | .wireTargetCommand c => c.wf
  | .start _ _ _ => true
  | .requestStandby _ => true
  | .requestCommission _ => true
  | .requestEnergize _ => true
  | .requestReplay _ => true
  | .requestRun _ => true
  | .requestQuiet _ => true
  | .requestHibernate _ => true
  | .quietEntry => true
  | .quietExit => true
  | .fabricResume => true
  | .hibernateEntry => true
  | .energizeTimeout => true
  | .stopRampEnd => true
  | .lrstPress => true
  | .lockoutSelfCheckDone _ => true
  | .lrstRelease => true
  | .lrstStuck => true
  | .testLight _ => true
  | .testFull _ => true
  | .testCal _ => true
  | .testDone _ _ => true
  | .bootComplete _ => true
  | .inputHoldFault _ => true
  | .budgetExhausted _ => true
  | .rampOrigin _ => true
  | .slotTime _ => true
  | .busStatePersist _ => true
  | .syncOk _ => true
  | .syncTimeout _ => true
  | .rampStall _ => true
  | .poleSlip _ => true
  | .tvimpHoldEnd _ => true
  | .tvimpBlendEnd _ => true
  | .fabricOverrun _ => true
  | .fabricFault _ _ => true
  | .freezeWindow _ _ => true
  | .imgOpen _ _ => true
  | .imgDataWrite _ _ => true
  | .imgCommit _ _ => true
  | .imgActivate _ _ => true
  | .imgErase _ _ => true
  | .imgAbort _ _ => true
  | .activationStop => true
  | .activationStart => true
  | .reload _ => true
  | .stagedWrite _ _ _ _ => true
  | .bridgeLoad _ _ => true
  | .globalLoad _ => true
  | .force _ _ _ => true
  | .setSource _ _ _ => true
  | .readbackError _ _ => true
  | .legTripInput _ _ => true
  | .blankWindowEnd _ => true
  | .windowComparator _ _ => true
  | .legLatchClear _ _ _ => true
  | .bridgeTripClear _ => true
  | .senseTrigger p mods paired => modsOk p mods && decide (paired < 2 ^ 24)
  | .sliceOverload _ _ => true
  | .bitstreamLost _ => true
  | .lostEnd _ => true
  | .calStep => true
  | .calStepFail _ => true
  | .snapshotRequest _ _ => true
  | .snapshotPost => true
  | .resamplerOutput _ => true
  | .bankRequest _ _ _ => true
  | .sourceChange _ _ _ => true
  | .postEnvelope _ => true
  | .trayInsert _ _ => true
  | .completeEnvelope _ => true
  | .cancelEnvelope _ _ => true
  | .cancelTrayEntry _ _ => true
  | .dispatch => true
  | .ledgerLoss => true
  | .windowArm _ _ => true
  | .windowStop _ _ => true
  | .windowForce _ _ => true
  | .segmentClose _ => true
  | .flightRecordHold _ => true
  | .flightRecordRelease _ => true
  | .autoholdStop => true
  | .frDataRead _ => true
  | .frDataWrite _ _ => true
  | .bundleReceived b => b.wf
  | .twinCmdReceived k c => decide (k < 2 ^ 64) && c.wf
  | .bundleMissed => true
  | .hashReceived k _ => decide (k < 2 ^ 64)
  | .arbitrationOutcome _ _ => true
  | .handover _ => true
  | .handoverRequestReceived => true
  | .linkLoss => true
  | .twinLinkUp => true
  | .takeover => true
  | .alone _ => true
  | .rejoin _ => true
  | .hello p => p.wf
  | .twinTime _ => true
  | .forwardedCommand c => c.wf
  | .mirror _ _ msg => decide (msg.length ≤ 8952)
  | .mirrorAckTimeout _ => true
  | .resyncRequest => true
  | .stateTransfer x => x.wf
  | .resyncComplete => true
  | .partnerLightTest => true
  | .safetyInputChange _ _ _ => true
  | .discrepancy _ => true
  | .stoInput _ _ => true
  | .stoDiscrepancy => true
  | .ss1Timeout => true
  | .contactorOpenDelay _ => true
  | .testPulseEnd _ _ => true
  | .testPulseRequest _ _ => true
  | .outputReadback _ => true
  | .feedback _ _ => true
  | .registeredFrame _ _ frame => decide (frame.length ≤ 64)
  | .connectionExpiry _ => true
  | .registeredFrameSend _ => true
  | .insulationMeasure _ _ => true
  | .conlockRelease => true
  | .enrOpen _ => true
  | .enrDataWrite _ _ => true
  | .install _ => true
  | .rekeyx _ => true
  | .dxkGenerated => true
  | .extend _ => true
  | .close _ _ => true
  | .fwOpen _ _ => true
  | .fwDataWrite _ _ => true
  | .fwCommit _ _ => true
  | .fwMark _ _ => true
  | .confirm _ => true
  | .fwErase _ _ => true
  | .fwAbort _ _ => true
  | .revoke0 _ => true
  | .frankRequest _ => true
  | .statementCapture => true
  | .statementReady => true
  | .frankReq f => f.wf
  | .frankRep f => f.wf
  | .keyTransport k => k.wf
  | .keyConfirm k => k.wf
  | .keyTransportTimeout _ => true
  | .sessionFrame f => f.wf
  | .sessionRekey _ => true
  | .oldSessionExpiry _ => true
  | .broadcast b => b.wf
  | .rngHealthFail => true
  | .rngRead _ => true
  | .siteCommand m => m.wf
  | .siteDeadLetter m => m.wf
  | .siteData m => m.wf
  | .reassemblyTimeout _ => true
  | .sitePortUp _ => true
  | .sitePortDown _ => true
  | .ptpMessage m => m.wf
  | .functionLevelReset => true
  | .qspiRead _ words => decide (words ≠ 0)
  | .qspiReadCap _ words => decide (words ≠ 0)
  | .qspiWrite _ data => !data.isEmpty
  | .qspiStatus => true
  | .canFrameReceived f => f.wf
  | .canTxRequest _ _ _ => true
  | .canTxDone _ _ => true
  | .canBusOff _ => true
  | .canBusOffRecovery _ => true
  | .referenceEdgeGap => true
  | .lockWindowEnd _ => true
  | .tuningRangeEnd => true
  | .referenceSelect _ _ => true
  | .cold _ => true
  | .brownout _ => true
  | .pin => true
  | .watchdogExpiry => true
  | .hostReset _ _ => true
  | .resetRelease _ => true
  | .watchdogKick _ _ => true
  | .wake _ => true
  | .dieTempSample temps => decide (temps.length = 8)
  | .ringMeasure counts => decide (counts.length = 16)
  | .hourlyUpdate => true
  | .counterFlush => true
  | .retentionRewrite _ => true
  | .dcLinkWindow _ samples => !samples.isEmpty
  | .reportNow _ => true
  | .reportPeriod => true
  | .targetCommit _ _ _ => true
  | .softLimitCommit _ _ _ _ => true
  | .home _ _ => true
  | .stop _ _ => true
  | .qstop _ _ => true
  | .enable _ _ => true
  | .disable _ _ => true
  | .homingEdge _ _ => true
  | .limitSwitch _ _ => true
  | .driverFault _ => true
  | .followingError _ => true
  | .latchEdge _ _ => true
  | .ssiRead _ _ => true
  | .crystalEdge => true
  | .encoderTransition _ _ _ _ => true
  | .mirrorAck _ => true
  | .uncorrectableMemoryError => true
  | .pcieLinkChange _ _ _ => true

end Sys2Proof
end

