-- ==== Sys2Proof/Tests/Slice0.lean ====
section
/-!
SUPPORT. Tests: an ill-formed command for each check of WellFormed.lean, hand-worked results of single commands, and for every statement
with hypotheses a state and operands that meet them.
-/
namespace Sys2Proof.Tests
open Sys2Proof Sys2Proof.Machine

set_option Elab.async false

/-! ### Ill-formed commands -/

theorem test_wf_pilot : (Instr.safetyCycle (2 ^ 24) true).wf = false := by decide
theorem test_wf_readSize : (Instr.readToClear .pcie 0 0).wf = false := by decide
theorem test_wf_writeSize : (Instr.registerWrite .pcie 0 4097 0).wf = false := by decide
theorem test_wf_commandSeq : (Instr.acceptCommand ⟨0, 0, 2 ^ 48, 0, 0, 0, []⟩).wf = false := by decide
theorem test_wf_wireCommandItem : (Instr.wireTargetCommand ⟨0, 0, 0, 0, 0, 0, List.replicate 8953 0⟩).wf = false := by decide +kernel
theorem test_wf_forwardedSeq : (Instr.forwardedCommand ⟨0, 0, 2 ^ 48, 0, 0, 0, []⟩).wf = false := by decide
theorem test_wf_twinCmdFrame : (Instr.twinCmdReceived (2 ^ 64) ⟨0, 0, 0, 0, 0, 0, []⟩).wf = false := by decide
theorem test_wf_bitstreamBit : (Instr.senseTrigger 0 [2] 0).wf = false := by decide
theorem test_wf_sliceCode : (Instr.senseTrigger 96 [8388608] 0).wf = false := by decide
theorem test_wf_paired : (Instr.senseTrigger 96 [] (2 ^ 24)).wf = false := by decide
theorem test_wf_bundleFrame : (Instr.bundleReceived ⟨2 ^ 64, 0, 0, 0, 0, [], []⟩).wf = false := by decide
theorem test_wf_bundleChannel : (Instr.bundleReceived ⟨0, 0, 0, 0, 0, [(120, 0, 0)], []⟩).wf = false := by decide
theorem test_wf_bundleResampler : (Instr.bundleReceived ⟨0, 0, 0, 0, 0, [], [(32, 0, 0, 0)]⟩).wf = false := by decide
theorem test_wf_hashFrame : (Instr.hashReceived (2 ^ 64) 0).wf = false := by decide
theorem test_wf_partnerDigest : (Instr.hello ⟨0, 0, 0, [], 1, true⟩).wf = false := by decide
theorem test_wf_mirrorLength : (Instr.mirror 0 0 (List.replicate 8953 0)).wf = false := by decide +kernel
theorem test_wf_anchorLeg : (Instr.stateTransfer ⟨0, [], [⟨96, 0, 0, (0, 0, 0), none, (0, 0, 0)⟩], [], 0⟩).wf = false := by decide
theorem test_wf_registeredFrame : (Instr.registeredFrame 0 ⟨⟨0, 0, 0, 0, 0, 0⟩, 0⟩ (List.replicate 65 0)).wf = false := by decide +kernel
theorem test_wf_nonce : (Instr.frankReq ⟨0, ⟨0, 0, 0, 0, 0, 0⟩, 0, []⟩).wf = false := by decide
theorem test_wf_statement : (Instr.frankRep ⟨0, ⟨0, 0, 0, 0, 0, 0⟩, 0, [], [], []⟩).wf = false := by decide
theorem test_wf_transportCipher : (Instr.keyTransport ⟨0, ⟨0, 0, 0, 0, 0, 0⟩, 0, 0, List.replicate 513 0, []⟩).wf = false := by decide +kernel
theorem test_wf_confirmCheck : (Instr.keyConfirm ⟨0, ⟨0, 0, 0, 0, 0, 0⟩, 0, 0, [], List.replicate 577 0⟩).wf = false := by decide +kernel
theorem test_wf_tag : (Instr.sessionFrame ⟨0, ⟨0, 0, 0, 0, 0, 0⟩, 0, 0, 0, [], []⟩).wf = false := by decide
theorem test_wf_broadcastRecord : (Instr.broadcast ⟨0, ⟨0, 0, 0, 0, 0, 0⟩, [], []⟩).wf = false := by decide
theorem test_wf_siteType : (Instr.siteCommand ⟨256, 0, 0, [], 0⟩).wf = false := by decide
theorem test_wf_deadLetterType : (Instr.siteDeadLetter ⟨256, 0, 0, [], 0⟩).wf = false := by decide
theorem test_wf_siteArrival : (Instr.siteData ⟨0, 0, 0, [], 2 ^ 72⟩).wf = false := by decide
theorem test_wf_ptpType : (Instr.ptpMessage ⟨0, true, 0, 16, 0, 0, 0⟩).wf = false := by decide
theorem test_wf_ptpDomain : (Instr.ptpMessage ⟨0, true, 256, 0, 0, 0, 0⟩).wf = false := by decide
theorem test_wf_ptpNs : (Instr.ptpMessage ⟨0, true, 0, 0, 0, 0, 1000000000⟩).wf = false := by decide
theorem test_wf_qspiRead : (Instr.qspiRead 0 0).wf = false := by decide
theorem test_wf_qspiReadCap : (Instr.qspiReadCap 0 0).wf = false := by decide
theorem test_wf_qspiWrite : (Instr.qspiWrite 0 []).wf = false := by decide
theorem test_wf_canId : (Instr.canFrameReceived ⟨0, false, false, false, 0x800, []⟩).wf = false := by decide
theorem test_wf_canBrs : (Instr.canFrameReceived ⟨0, false, false, true, 0, []⟩).wf = false := by decide
theorem test_wf_canClassicLength : (Instr.canFrameReceived ⟨0, false, false, false, 0, List.replicate 9 0⟩).wf = false := by decide
theorem test_wf_canFdLength : (Instr.canFrameReceived ⟨0, false, true, false, 0, List.replicate 13 0⟩).wf = false := by decide
theorem test_wf_temps : (Instr.dieTempSample []).wf = false := by decide
theorem test_wf_rings : (Instr.ringMeasure []).wf = false := by decide
theorem test_wf_dcWindow : (Instr.dcLinkWindow 0 []).wf = false := by decide
theorem test_wf_canFd : (Instr.canFrameReceived ⟨0, true, true, true, 0x800, List.replicate 12 0⟩).wf = true := by decide

/-! ### Worked by hand from the spec, or from the published check values of the named functions -/

/-- CRC-32C of the nine digits (the check value of the Castagnoli CRC). -/
theorem test_crc32c : crc32c [0x31, 0x32, 0x33, 0x34, 0x35, 0x36, 0x37, 0x38, 0x39] = 0xE3069283 := by decide +kernel
/-- SHA-512 of "abc", first and last bytes (FIPS 180-4). -/
theorem test_sha512 : (sha512 [0x61, 0x62, 0x63]).take 4 = [0xDD, 0xAF, 0x35, 0xA1] ∧ (sha512 [0x61, 0x62, 0x63]).drop 60 = [0xA5, 0x4C, 0xA4, 0x9F] := by
  decide +kernel
/-- AES-256 of the FIPS 197 example block. -/
theorem test_aes : (aesBlock (aesKey ((List.range 32).map (BitVec.ofNat 8))) ((List.range 16).map fun i => BitVec.ofNat 8 (0x11 * i))).take 4
    = [0x8E, 0xA2, 0xB7, 0xCA] := by decide +kernel
/-- 1 + 2⁻²⁴ rounds to even, 1.5 × 2 = 3, 1/3 rounds up (IEEE 754). -/
theorem test_f32 : fadd 0x3F800000 0x33800000 = 0x3F800000 ∧ fmul 0x3FC00000 0x40000000 = 0x40400000 ∧ fdiv 0x3F800000 0x40400000 = 0x3EAAAAAB := by
  decide +kernel
/-- F_k at 50,000 frames a second: frame 1 at ⌊2³²/50,000⌋, frame 50,000 at one second (R31). -/
theorem test_frameStart : frameStart 50000 1 = 85899 ∧ frameStart 50000 50000 = 2 ^ 32 ∧ frameAt 50000 85899 = 1 := by decide +kernel
/-- A duty of one quarter of 4,800 ticks is 76,800 taps; full scale is the whole period (R209). -/
theorem test_onTime : onTime 0x20000000 4800 = 76800 ∧ onTime 0x80000000 4800 = 307200 := by decide +kernel
/-- The encoder counts up where A leads B (log entry 126). -/
theorem test_quadrature : (quadrature true false - quadrature false false) % 4 = 1 := by decide +kernel
/-- After reset the node is in BOOT and COARSE_LOST reads 0 until the release (Tables MD-2, CK-5). -/
theorem test_reset_mode : State.reset.mode = 0 ∧ State.reset.get R.CK_RSTCAUSE_COARSE_LOST = 0 := by decide +kernel

/-! ### The queue and the table's words -/

theorem test_no_word : decodeTableWord 32 0 = none := by decide
theorem test_fetch_leaves : (State.reset.withFetchWord 32 0).pending = [] := by decide
theorem test_step_takes_front : step { State.reset with pending := [.home .pcie 2] } = exec (.home .pcie 2) State.reset := rfl

/-! ### Small states -/

/-- The reset state with register fields set. -/
def st (fs : List (Fld × Nat)) : State := fs.foldl (fun s e => s.put e.1 e.2) State.reset

/-- A leg whose carrier has run up since its anchor, with a set pending. -/
def legUp : Leg := { Leg.idle with runs := true, per := 4800, pend := some ⟨7, 0, 4800, false, 0⟩, pendPP := some ⟨7, 0, 4800, false, 0⟩ }

/-- An image with one bridge, one path, one target and two firings of nothing else. -/
def imW : Image :=
  { slot := 0, imageId := 1, version := 1, rollbackIdx := 0, auth := 0, frate := 4000, divs := [], tEnergize := 100, tStop := 0, legs := [], phases := [],
    bridges := [⟨0, 1, 1, 0, 4800, 2, 0, 0, 0, 0, 0, 2, 1000, 0⟩], blocks := [], wireInit := [], delays := [], precedence := [0, 1, 2, 3],
    targets := [⟨5, 0, 0, 0, 15, 0, 1065353216⟩], sorting := [], banks := [], groups := [], snapPh := 0, snapFlow := 0, paths := [], resamplers := [],
    safety := [], health := [], digest := [] }

/-- An image with a slice path that names bridge 0 for its snapshots. -/
def imP : Image := { imW with groups := [⟨60, 1⟩], paths := [⟨100, 2, 0, 100, 2, 0, [0, 0], 1, 0, 0⟩], delays := [1000000, 1000000, 1000000, 1000000] }

/-- An image whose one block is `b`, due in every frame. -/
def oneBlock (b : Block) : Image := { imW with divs := [0], blocks := [b] }

/-! ### The worked cases of the manual -/

/-- The image of Tables PM-10 and PM-13: 50 kHz, SITE-class D_accept of 4,294,967 units, and a DOWN target 5 on wire 40. -/
def imGrid : Image :=
  { imW with frate := 50000, delays := [4294967, 4294967, 4294967, 4294967], targets := [⟨5, 0, 1, 40, 15, 0, 0x3F800000⟩] }

/-- The node at `u` units of second 1,000 with `v` in force on wire 40. -/
def grid (u v : Nat) : State :=
  { State.reset with
    image := some imGrid, fabric := { Fabric.reset with wires := [(40, (v, 1))] }, time := { TimeBase.reset with acc := (1000 * 2 ^ 32 + u) * 2 ^ 40 } }

/-- A command of a source to target 5. -/
def toFive (source value t : Nat) : Accepted := ⟨source / 4096, source, 0, 5, value, t, 0, []⟩

/-- Table PM-10. -/
theorem test_table_pm10 :
    acceptRefusal (grid 4500000 0) 3 3 0x30D4 5 (1000 * 2 ^ 32 + 515396) = none ∧
    commandFrame (grid 4500000 0) 3 (1000 * 2 ^ 32 + 515396) = 50000056 ∧
    commandFrame (grid 4500000 0) 3 (1000 * 2 ^ 32 + 515397) = 50000057 ∧
    acceptRefusal (grid 4810364 0) 3 3 0x30D4 5 (1000 * 2 ^ 32 + 515396) = some 1 := by decide +kernel

/-- The worked case of Table PM-13: 0.60 against 0.80 with 0.70 in force, then with 0.50, then 0.85 of node 40 against 0.90 of node 212. -/
theorem test_table_pm13 :
    beats (grid 0 0x3F333333) (toFive 0x30D4 0x3F19999A 9) (toFive 0x2000 0x3F4CCCCD 8) = some 1 ∧
    beats (grid 0 0x3F000000) (toFive 0x2000 0x3F4CCCCD 8) (toFive 0x30D4 0x3F19999A 9) = some 2 ∧
    beats (grid 0 0x3F000000) (toFive 0x3028 0x3F59999A 9) (toFive 0x30D4 0x3F666666 9) = some 4 := by decide +kernel

/-- The bound in HOLDOVER 98 s and 60 s after the last update, from 20 ns at 10 ppb (the worked case of R38). -/
theorem test_holdover_bound :
    (let s := { State.reset with time := { TimeBase.reset with bound := some (20 * 2 ^ 72), elapsed := 98 * 2 ^ 72, shadowSince := none } }
     boundNow s = some (1000 * 2 ^ 72)) ∧
    (let s := { State.reset with time := { TimeBase.reset with bound := some (20 * 2 ^ 72), elapsed := 60 * 2 ^ 72, shadowSince := none } }
     boundNow s = some (620 * 2 ^ 72)) := by decide +kernel

/-- The worked case of Table LG-3: T of 0.009 at P′ = 200,000, and which of its intervals DROP, STRETCH and CARRY keep. -/
theorem test_table_lg3 :
    onTime 19327353 200000 = 115200 ∧ keepInterval 0 115200 1 0 230400 = false ∧ keepInterval 1 115200 1 0 230400 = true ∧
    keepInterval 2 115200 1 0 230400 = true ∧ keepInterval 2 115200 1 (-115200) 230400 = false := by decide +kernel


/-! ### SYNC_TIMEOUT with a free tracker -/

/-- A SYNC with T_SYNC = 0 that reads its bridge's STATE on wire 2. -/
def syncBlock : Block := ⟨0, 0x18, 0, 0, 0, 1, 0, [⟨2, 6, 0⟩], [0, 0, 0, 0, 0, 0, 0, 0, 0, 0, 0, 0, 0, 0, 0, 0]⟩
/-- A SAMPLE of a path that has not delivered the output of trigger F_k, so that the frame waits before its evaluation. -/
def sampleBlock : Block := ⟨1, 0x1E, 0, 0, 0, 1, 0, [], [100]⟩
/-- An image of the two blocks. -/
def imSync : Image := { imW with divs := [0], blocks := [sampleBlock, syncBlock], wireInit := [] }
/-- A state in which the bridge is in SYNCING from this frame on. -/
def syncLate : State :=
  { st [(R.NODE_MODE_MODE, 3), (R.FAB_STATUS_RUN, 1), (R.SN_STATUS_RUN, 1)] with
    image := some imSync, fabric := { Fabric.reset with next := some 1, wires := [(2, (0x40400000, 1))], blocks := [(0, ⟨[0, 0, 0, 0, 0, 0, 0, 0], [], [], false⟩)] } }

/-- A trip that rises raises its envelope. -/
theorem tripBlock_raises (s : State) (im : Image) (slot scope target cause fk : Nat) :
    ∃ xs, (tripBlock s im slot scope target cause fk true false).fabric.raised = xs ++
      [{ typ := 0x11, ph := 0, flow := 1023, tag := cause
         body := leBytes 2 slot ++ leBytes 1 scope ++ leBytes 1 target ++ leBytes 1 cause ++ [0, 0, 0] }] :=
  ⟨_, rfl⟩

/-- The evaluation of the SYNC exceeds T_SYNC. -/
def syncIsLate (k : Nat) (s : State) : Bool :=
  (evalKind s imSync syncBlock (frameOfGroup imSync.frate k (groupDiv imSync 0)) (readAll s imSync syncBlock (blkState s 0)) false
    (blkState s 0).vars).syncLate

/-- The envelope of SYNC_TIMEOUT. -/
def syncItem : Raised := { typ := 0x11, ph := 0, flow := 1023, tag := 0x21, body := leBytes 2 0 ++ leBytes 1 2 ++ leBytes 1 0 ++ leBytes 1 0x21 ++ [0, 0, 0] }

/-- A SYNC that exceeds T_SYNC raises it, whatever its tracker gives. -/
theorem sync_raises (k : Nat) (s : State) (valid : (readAll s imSync syncBlock (blkState s 0)).valid = true) (hl : syncIsLate k s = true)
    (was : fhigh (nthF (blkState s 0).vars 8) = false) :
    ∃ xs, (evalBlock imSync k s syncBlock).fabric.raised = xs ++ [syncItem] := by
  unfold evalBlock
  rw [if_neg (by decide)]
  dsimp only
  rw [if_neg (fun h => by have := h.2.2; rw [show syncBlock.slot = 0 from rfl, valid] at this; cases this)]
  unfold blockEffects
  unfold syncIsLate at hl
  have e : (syncBlock.policy == 0 && !(readAll s imSync syncBlock (blkState s 0)).valid && ((blkState s 0).fault || decide (syncBlock.holdFr ≤ (readAll s imSync syncBlock (blkState s 0)).longest))) = false := by
    rw [valid]; rfl
  simp only [show syncBlock.kind = 0x18 from rfl, show syncBlock.slot = 0 from rfl, show syncBlock.bridge = 0 from rfl, show syncBlock.group = 0 from rfl, e, hl, was, if_true]
  exact tripBlock_raises ..

/-- The image has no TJEST. -/
theorem rainflow_sync (s : State) (k : Nat) : rainflowFrame s imSync k = s := by
  have e : (dueBlocks imSync k).filter (·.kind == 0x21) = [] := by
    unfold dueBlocks; rw [List.filter_filter]; rfl
  unfold rainflowFrame; rw [e]; exact ite_self s

/-- Nor resamplers. -/
theorem angles_sync (s : State) (k : Nat) : scheduleAngles s imSync k = s := rfl

/-- A bundle leaves the fabric as it is. -/
theorem sendBundle_fabric (s : State) (im : Image) (k hash ncmd : Nat) (rs : List (Nat × Nat × SenseOut)) :
    (sendBundle s im k hash ncmd rs).fabric = s.fabric := by unfold sendBundle; split <;> rfl

/-- The frame waits for its sample. -/
theorem sampling_syncLate : (nodeFrameStart syncLate).fabric.sampling.isSome = true := by decide +kernel

/-- Its evaluation raises SYNC_TIMEOUT. -/
theorem sampledFrame_raised : ∃ xs, (sampledFrame (nodeFrameStart syncLate)).fabric.raised = xs ++ [syncItem] := by
  unfold sampledFrame
  rw [show (nodeFrameStart syncLate).image = some imSync by decide +kernel, show (nodeFrameStart syncLate).fabric.frame = some 1 by decide +kernel,
    (Option.some_get sampling_syncLate).symm]
  dsimp only
  rw [sendBundle_fabric]
  unfold evaluateFrame
  simp only [rainflow_sync, angles_sync, ite_self]
  unfold evalFrame
  simp only [show dueBlocks imSync 1 = [sampleBlock, syncBlock] from rfl, List.foldl_cons, List.foldl_nil]
  exact sync_raises 1 _ (by decide +kernel) (by decide +kernel) (by decide +kernel)

/-- The witness of SYNC_TIMEOUT: the tracker of SYNC is a free value, so it is shown by lemmas and not by evaluation. -/
theorem timeout_syncLate : peerTrips syncLate 0x18 0 0x21 imSync (sampledFrame (nodeFrameStart syncLate)) = true := by
  obtain ⟨xs, h⟩ := sampledFrame_raised
  unfold peerTrips
  rw [show imSync.peer 0x18 0 = some syncBlock from rfl]
  dsimp only
  rw [h, List.any_append, Bool.and_eq_true, Bool.or_eq_true]
  exact ⟨.inr rfl, rfl⟩

/-! ### For every statement with hypotheses, what meets those of each clause -/

theorem witness_StepIdleTick :
    (State.reset.pending = [] ∧ State.reset.time.stopped = false ∧ State.reset.time.acc + State.reset.increment < 2 ^ 104) ∧
    (∃ s : State, s.pending = [] ∧ s.time.stopped = true) :=
  ⟨by decide +kernel, { State.reset with time := { TimeBase.reset with stopped := true } }, by decide +kernel⟩

theorem witness_StepKeepsSound : ∃ s t : State, Sound s ∧ step s = .next t ∧ s.pending ≠ [] :=
  ⟨{ State.reset with pending := [.axisEvaluation] }, _,
    ⟨⟨by decide +kernel, fun _ h => nomatch h⟩, by decide +kernel, ⟨by decide +kernel, fun _ h => (nomatch h : False).elim, by decide +kernel⟩⟩, rfl,
    by decide⟩

theorem witness_StepGoesOnward : ∃ s t : State, step s = .next t ∧ s.pending ≠ [] :=
  ⟨{ State.reset with pending := [.axisEvaluation] }, _, rfl, by decide⟩

theorem witness_NothingRunsUnpowered : ∃ s : State, s.powered = false := ⟨{ State.reset with root := { ClockRoot.reset with hibernate := true } }, by decide +kernel⟩

theorem witness_ReadsInReset :
    (∃ s : State, s.root.resetKind = some 3) ∧ (∃ s : State, s.root.resetKind = some 4) :=
  ⟨⟨{ State.reset with root := { ClockRoot.reset with resetKind := some 3 } }, rfl⟩,
   ⟨{ State.reset with root := { ClockRoot.reset with resetKind := some 4 } }, rfl⟩⟩

theorem witness_PairReadsAreOneValue :
    (∃ (s : State) (r : Requester) (a : Word), s.serves r.num = true ∧ isLo a.toNat = true) ∧
    (∃ (s : State) (r : Requester) (a : Word) (v : Nat), s.serves r.num = true ∧ isLo a.toNat = true ∧ (s.shadow r.num).rd = some (a.toNat, v)) ∧
    (∃ (s t : State) (r q : Requester) (a : Word), q ≠ r ∧ exec (.shadowLoRead q a) s = .next t) :=
  ⟨⟨State.reset, .pcie, 0x10000, by decide +kernel⟩,
   ⟨{ State.reset with shadows := [(0, { Shadow.none with rd := some (0x10000, 7) })] }, .pcie, 0x10000, 7, by decide +kernel⟩,
   ⟨State.reset, _, .pcie, .qspi, 0x10000, by decide, rfl⟩⟩

theorem witness_PairAccess :
    (∃ (s : State) (r : Requester), s.serves r.num = true ∧ (∀ v, (s.shadow r.num).rd ≠ some (0x10000, v))) ∧
    (∃ (s : State) (r : Requester) (a : Word), s.serves r.num = true ∧ isWrLo a.toNat = true) ∧
    (∃ (s : State) (r : Requester) (a lo : Word), s.serves r.num = true ∧ isWrLo a.toNat = true ∧ (s.shadow r.num).wr = some (a.toNat, lo.toNat)) ∧
    (∃ (s : State) (r : Requester) (lo : Word), s.serves r.num = true ∧ (s.shadow r.num).wr = some (0x20028, lo.toNat)) ∧
    (∃ (s : State) (r : Requester) (a : Word), s.serves r.num = true ∧ isWrLo a.toNat = true ∧ (∀ lo, (s.shadow r.num).wr ≠ some (a.toNat, lo))) ∧
    (∃ (s : State) (a : Word), s.powered = true ∧ isWrLo a.toNat = true) ∧
    (∃ (s : State), s.powered = true) :=
  ⟨⟨State.reset, .qspi, by decide +kernel, fun _ => (Option.some_ne_none _).symm⟩,
  ⟨State.reset, .qspi, 0x20028, by decide +kernel⟩,
  ⟨{ st [] with shadows := [(1, { Shadow.none with wr := some (0x300050, 7) })] }, .qspi, 0x300050, 7, by decide +kernel⟩,
  ⟨{ st [] with shadows := [(1, { Shadow.none with wr := some (0x20028, 7) })] }, .qspi, 7, by decide +kernel⟩,
  ⟨State.reset, .qspi, 0x20028, by decide +kernel, by decide +kernel, fun _ => (Option.some_ne_none _).symm⟩,
  ⟨State.reset, 0x300050, by decide +kernel⟩,
  ⟨State.reset, by decide +kernel⟩⟩

theorem witness_AccessCodes :
    (∃ (s : State) (r : Requester), s.serves r.num = true ∧ sget none s.cycleSets R.POST_ACC_SUPER.key = none ∧
        sget none s.cycleSets R.POST_ACC_LATE.key = none) ∧
    (∃ (s : State) (r : Requester) (b k : Nat), s.serves r.num = true ∧ sget none s.cycleSets R.POST_ACC_SUPER.key = none ∧
        sget none s.cycleSets R.POST_ACC_LATE.key = some (b, k)) ∧
    (∃ (s : State) (r : Requester), s.serves r.num = true ∧ sget none s.cycleSets R.POST_STATUS_CHANGED.key = none ∧
        sget none s.cycleSets R.POST_STATUS_STEPPED.key = none) ∧
    (∃ (s : State) (r : Requester) (b : Nat), s.serves r.num = true ∧ sget none s.cycleSets R.POST_STATUS_CHANGED.key = some (b, 1) ∧
        sget none s.cycleSets R.POST_STATUS_STEPPED.key = none) ∧
    (∃ (s : State) (r : Requester), s.serves r.num = true) ∧
    (∃ (s : State) (r : Requester) (a : Word), s.serves r.num = true ∧ a.toNat % 4 = 0 ∧ 0x3000000 ≤ a.toNat) :=
  ⟨⟨st [(R.POST_ACC_SUPER, 7)], .qspi, by decide +kernel⟩,
  ⟨{ st [(R.POST_ACC_SUPER, 7), (R.POST_ACC_LATE, 5)] with cycle := { at_ := 0, sets := [(R.POST_ACC_LATE.key, some (3, 2))] } }, .qspi, 3, 2,
      by decide +kernel⟩,
  ⟨st [(R.POST_STATUS_CHANGED, 1), (R.POST_STATUS_STEPPED, 1)], .qspi, by decide +kernel⟩,
  ⟨{ st [(R.POST_STATUS_CHANGED, 1)] with cycle := { at_ := 0, sets := [(R.POST_STATUS_CHANGED.key, some (0, 1))] } }, .qspi, 0, by decide +kernel⟩,
  ⟨State.reset, .qspi, by decide +kernel⟩,
  ⟨State.reset, .core 7, 0x3000000, by decide +kernel⟩⟩

theorem witness_IdentWrite :
    (∃ (s : State) (r : Requester), s.serves r.num = true ∧ s.mode = 1) ∧
    (∃ (s : State) (r : Requester), s.serves r.num = true ∧ s.mode ≠ 1) :=
  ⟨⟨st [(R.NODE_MODE_MODE, 1), (R.SEC_STATUS_ENROLLED, 1)], .qspi, by decide +kernel⟩,
  ⟨State.reset, .qspi, by decide +kernel⟩⟩

theorem witness_PostSet :
    (∃ (s : State) (r : Requester) (lo : Word), s.serves r.num = true ∧ (s.shadow r.num).wr = some (0x10028, lo.toNat) ∧ (s.mode = 0 ∨ s.mode = 1) ∧
        s.get R.POST_STATUS_STATE = 0 ∧ s.get R.POST_CTRL_EN_PPS = 1 ∧ s.time.usable.contains 3 = true) ∧
    (∃ (s : State) (r : Requester) (lo : Word), s.serves r.num = true ∧ (s.shadow r.num).wr = some (0x10028, lo.toNat) ∧ (s.mode = 0 ∨ s.mode = 1) ∧
        s.get R.POST_STATUS_STATE = 0 ∧ (¬(s.get R.POST_CTRL_EN_PPS = 1 ∧ s.time.usable.contains 3 = true)) ∧ s.time.stopped = false) ∧
    (∃ (s : State) (r : Requester) (lo : Word), s.serves r.num = true ∧ (s.shadow r.num).wr = some (0x10028, lo.toNat) ∧ ((s.mode ≠ 0 ∧ s.mode ≠ 1) ∨
        s.get R.POST_STATUS_STATE ≠ 0)) ∧
    (∃ (s : State) (r : Requester), s.serves r.num = true ∧ (∀ lo, (s.shadow r.num).wr ≠ some (0x10028, lo))) :=
  ⟨⟨{ { st [(R.POST_CTRL_EN_PPS, 1)] with shadows := [(1, { Shadow.none with wr := some (0x10028, 7) })] } with
      time := { TimeBase.reset with usable := [3] } }, .qspi, 7, by decide +kernel⟩,
  ⟨{ st [] with shadows := [(1, { Shadow.none with wr := some (0x10028, 7) })] }, .qspi, 7, by decide +kernel⟩,
  ⟨{ st [(R.NODE_MODE_MODE, 4)] with shadows := [(1, { Shadow.none with wr := some (0x10028, 7) })] }, .qspi, 7, by decide +kernel⟩,
  ⟨State.reset, .qspi, by decide +kernel, fun _ => (Option.some_ne_none _).symm⟩⟩

theorem witness_FlightRecordWords :
    (∃ (s : State) (r : Requester), s.serves r.num = true ∧ s.get R.CAP_FRPTR_OFS + 8 ≤ frRingEnd s) ∧
    (∃ (s : State) (r : Requester), s.serves r.num = true ∧ s.mode = 1 ∧ s.get R.CAP_FRCFG_HOLD = 1 ∧ s.get R.CAP_FRPTR_OFS + 8 ≤ frRingEnd s ∧
        s.get R.CAP_FRCFG_EXT ≤ 16) ∧
    (∃ (s : State) (r : Requester), s.serves r.num = true ∧ (¬(s.mode = 1 ∧ s.get R.CAP_FRCFG_HOLD = 1 ∧ s.get R.CAP_FRPTR_OFS + 8 ≤ frRingEnd s))) :=
  ⟨⟨State.reset, .qspi, by decide +kernel⟩,
  ⟨st [(R.NODE_MODE_MODE, 1), (R.CAP_FRCFG_HOLD, 1)], .qspi, by decide +kernel⟩,
  ⟨State.reset, .qspi, by decide +kernel⟩⟩

theorem witness_QuadSpi :
    (∃ (s : State) (a : Word) (n : Nat), s.powered = true ∧ 0x1000000 ≤ a.toNat ∧ a.toNat + 4 * n ≤ 0x3000000 ∧ n ≠ 0) ∧
    (∃ (s : State) (a : Word), s.powered = true ∧ inCapture a.toNat = false) ∧
    (∃ (s : State) (a : Word), s.powered = true ∧ 0x1000000 ≤ a.toNat ∧ a.toNat < 0x3000000 ∧ a.toNat % 4 = 0) ∧
    (∃ (s : State), s.powered = true ∧ sget none s.cycleSets R.LK_HIRQ_CAUSE.key = none) ∧
    (∃ (s : State), s.powered = true) :=
  ⟨⟨State.reset, 0x1000000, 3, by decide +kernel⟩,
  ⟨State.reset, 0x10000, by decide +kernel⟩,
  ⟨State.reset, 0x2FFFFFC, by decide +kernel⟩,
  ⟨st [(R.LK_HIRQ_CAUSE, 0x3FFF)], by decide +kernel⟩,
  ⟨State.reset, by decide +kernel⟩⟩

theorem witness_LegStagedWrites :
    (∃ (s : State) (r : Requester) (leg : Fin 96), s.serves r.num = true ∧ s.get (R.LEGn_CFG_ASSIGNED leg) = 1 ∧
        s.get (R.BRIDGE_CTRL_SRC (legBridge s leg)) = 0) ∧
    (∃ (s : State) (r : Requester) (leg : Fin 96), s.serves r.num = true ∧ (¬(s.get (R.LEGn_CFG_ASSIGNED leg) = 1 ∧
        s.get (R.BRIDGE_CTRL_SRC (legBridge s leg)) = 0))) ∧
    (∃ (s : State) (r : Requester) (leg : Fin 96), s.serves r.num = true ∧ (¬(s.get (R.LEGn_CFG_ASSIGNED leg) = 1 ∧
        s.get (R.BRIDGE_CTRL_SRC (legBridge s leg)) = 0)) ∧ 0 < s.get (R.LEGn_PERIOD_PERIOD leg) ∧ s.get (R.LEGn_PERIOD_PERIOD leg) ≤ 1200000) :=
  ⟨⟨st [(R.LEGn_CFG_ASSIGNED 5, 1)], .pcie, 5, by decide +kernel⟩,
  ⟨State.reset, .pcie, 5, by decide +kernel⟩,
  ⟨st [(R.LEGn_PERIOD_PERIOD 5, 2400)], .pcie, 5, by decide +kernel⟩⟩

theorem witness_LegLoadAll :
    (∃ (s : State) (r : Requester) (bridge : Fin 16), s.serves r.num = true ∧ s.switching = true ∧ s.get (R.BRIDGE_CTRL_SRC bridge) = 1) ∧
    (∃ (s : State) (r : Requester) (bridge : Fin 16), s.serves r.num = true ∧ s.get (R.BRIDGE_CTRL_SRC bridge) = 0) ∧
    (∃ (s : State) (r : Requester), s.serves r.num = true ∧ s.switching = true) ∧
    (∃ (s : State) (r : Requester), s.serves r.num = true) :=
  ⟨⟨st [(R.NODE_MODE_MODE, 2), (R.BRIDGE_CTRL_SRC 3, 1), (R.LEGn_CFG_ASSIGNED 95, 1), (R.LEGn_CFG_BRIDGE 95, 3), (R.LEGn_DUTY_DUTY 95, 77)], .pcie, 3,
      by decide +kernel⟩,
  ⟨State.reset, .pcie, 15, by decide +kernel⟩,
  ⟨st [(R.NODE_MODE_MODE, 2), (R.BRIDGE_CTRL_SRC 3, 1), (R.LEGn_CFG_ASSIGNED 95, 1), (R.LEGn_CFG_BRIDGE 95, 3), (R.LEGn_DUTY_DUTY 95, 77)], .pcie,
      by decide +kernel⟩,
  ⟨st [(R.NODE_MODE_MODE, 2)], .pcie, by decide +kernel⟩⟩

theorem witness_LegForceAndReload :
    (∃ (s : State) (r : Requester) (code : BitVec 3), s.serves r.num = true ∧ 5 ≤ code.toNat) ∧
    (∃ (s : State) (r : Requester) (code : BitVec 3), s.serves r.num = true ∧ (code.toNat = 2 ∨ code.toNat = 3) ∧ s.mode ≠ 2) ∧
    (∃ (s : State) (r : Requester) (code : BitVec 3), s.serves r.num = true ∧ code.toNat < 5 ∧ (code.toNat = 2 ∨ code.toNat = 3 → s.mode = 2)) ∧
    (∃ (s : State) (leg : Fin 96), s.powered = true ∧ ((s.leg leg).runs = false ∨ s.get (R.LEGn_PERIOD_ACT_PERIOD leg) = 0)) ∧
    (∃ (s : State) (leg : Fin 96) (p : PendSet), s.powered = true ∧ (s.leg leg).runs = true ∧ legBridge s leg < 16 ∧
        s.get (R.LEGn_PERIOD_ACT_PERIOD leg) ≠ 0 ∧ reloads s leg (nextIsPeak s leg) = true ∧ (s.leg leg).pend = some p ∧
        commitActs (s.leg leg) p.commit (64 * nextPoint s leg) = true) ∧
    (∃ (s : State) (leg : Fin 96) (p : PendSet), s.powered = true ∧ (s.leg leg).runs = true ∧ legBridge s leg < 16 ∧
        s.get (R.LEGn_PERIOD_ACT_PERIOD leg) ≠ 0 ∧ nextIsPeak s leg = false ∧ reloads s leg false = true ∧ (s.leg leg).pendPP = some p ∧
        commitActs (s.leg leg) p.commit (64 * nextPoint s leg) = true) ∧
    (∃ (s : State) (leg : Fin 96), s.powered = true ∧ s.get (R.LEGn_STATUS_DRIVE leg) = 2 ∧ s.role = 3 ∧ s.linkUp = true) ∧
    (∃ (s : State) (leg : Fin 96), s.powered = true ∧ s.get (R.LEGn_STATUS_DRIVE leg) = 2 ∧ (s.role ≠ 3 ∨ s.linkUp = false)) ∧
    (∃ (s : State) (leg : Fin 96), s.powered = true ∧ s.get (R.LEGn_STATUS_DRIVE leg) ≠ 2 ∧ (s.mode = 2 ∨ s.mode = 3) ∧
        s.get (R.LEGn_CFG_ASSIGNED leg) = 1 ∧ legBridge s leg < 16 ∧ legSpare s leg = false ∧ (modeAt s s.finePostmark = 2 ∨
        modeAt s s.finePostmark = 3) ∧ (s.get (R.NODE_LTRIPm_LEG (leg.val / 32))).testBit (leg.val % 32) = false) ∧
    (∃ (s : State) (leg : Fin 96), s.powered = true ∧ s.get (R.LEGn_STATUS_DRIVE leg) ≠ 2 ∧ (s.mode ≠ 2 ∧ s.mode ≠ 3 ∧ s.mode ≠ 4)) :=
  ⟨⟨State.reset, .pcie, 7, by decide +kernel⟩,
  ⟨State.reset, .pcie, 2, by decide +kernel⟩,
  ⟨State.reset, .pcie, 4, by decide +kernel⟩,
  ⟨State.reset, 5, by decide +kernel⟩,
  ⟨{ st [(R.LEGn_PERIOD_ACT_PERIOD 5, 4800), (R.BRIDGE_CFG_RELOAD 0, 2)] with legs := [(5, legUp)] }, 5, ⟨7, 0, 4800, false, 0⟩, by decide +kernel⟩,
  ⟨{ st [(R.LEGn_PERIOD_ACT_PERIOD 5, 4800), (R.BRIDGE_CFG_RELOAD 0, 2)] with legs := [(5, { legUp with down := true })] }, 5, ⟨7, 0, 4800, false, 0⟩,
      by decide +kernel⟩,
  ⟨st [(R.NODE_TWIN_STAT_LINK, 1), (R.NODE_TWIN_STAT_ROLE, 3), (R.LEGn_STATUS_DRIVE 5, 2)], 5, by decide +kernel⟩,
  ⟨st [(R.LEGn_STATUS_DRIVE 5, 2)], 5, by decide +kernel⟩,
  ⟨st [(R.NODE_MODE_MODE, 2), (R.LEGn_CFG_ASSIGNED 40, 1), (R.BRIDGE_CFG_ROLE 0, 1), (R.LEGn_STATUS_DRIVE 40, 0)], 40, by decide +kernel⟩,
  ⟨st [(R.LEGn_STATUS_DRIVE 40, 0)], 40, by decide +kernel⟩⟩

theorem witness_TripInputs :
    (∃ (s : State) (leg : Fin 96), s.powered = true ∧ tripInput s leg = false ∧ blankEnd s leg s.finePostmark = none ∧
        s.get (R.LEGn_CFG_ASSIGNED leg) = 1 ∧ legBridge s leg < 16 ∧ legSpare s leg = false ∧ (modeAt s (edgeOrder s) = 2 ∨
        modeAt s (edgeOrder s) = 3) ∧ (s.get (R.NODE_LTRIPm_LEG (leg.val / 32))).testBit (leg.val % 32) = false) ∧
    (∃ (s : State) (leg : Fin 96), s.powered = true ∧ s.get (R.LEGn_CFG_ASSIGNED leg) = 0) ∧
    (∃ (s : State) (leg : Fin 96), s.powered = true ∧ tripInput s leg = false ∧ s.get (R.LEGn_CFG_ASSIGNED leg) ≠ 0 ∧
        (blankEnd s leg s.finePostmark).isSome = true) ∧
    (∃ (s : State) (leg : Fin 96) (e : Nat), s.powered = true ∧ tripInput s leg = true ∧ (s.leg leg).blanked = true ∧
        blankStop s leg s.finePostmark = some e ∧ s.finePostmark < e) ∧
    (∃ (s : State) (leg : Fin 96) (e : Nat), s.powered = true ∧ tripInput s leg = true ∧ (s.leg leg).blanked = true ∧
        blankStop s leg s.finePostmark = some e ∧ e ≤ s.finePostmark ∧ s.get (R.LEGn_CFG_ASSIGNED leg) = 1 ∧ legBridge s leg < 16 ∧
        legSpare s leg = false ∧ (modeAt s e = 2 ∨ modeAt s e = 3) ∧ (s.get (R.NODE_LTRIPm_LEG (leg.val / 32))).testBit (leg.val % 32) = false) ∧
    (∃ (s : State) (leg : Fin 96), s.powered = true ∧ (tripInput s leg = false ∨ (s.leg leg).blanked = false)) ∧
    (∃ (s : State) (cmp : Fin 16), s.powered = true ∧ comparatorRuns s cmp = true ∧ s.get (R.NODE_WCMPc_CFG_EN_HI cmp) = 1) ∧
    (∃ (s : State) (cmp : Fin 16), s.powered = true ∧ comparatorRuns s cmp = true ∧ s.get (R.NODE_WCMPc_CFG_EN_LO cmp) = 1) ∧
    (∃ (s : State), s.powered = true) :=
  ⟨⟨st [(R.NODE_MODE_MODE, 2), (R.LEGn_CFG_ASSIGNED 40, 1), (R.BRIDGE_CFG_ROLE 0, 1), (R.LEGn_STATUS_DRIVE 40, 0)], 40, by decide +kernel⟩,
  ⟨State.reset, 40, by decide +kernel⟩,
  ⟨{ st [(R.LEGn_CFG_ASSIGNED 40, 1), (R.LEGn_CFG_BLANK 40, 40), (R.NODE_BLANKb_T 0, 9)] with legs := [(40, { legUp with lastEdge := some 0 })] }, 40,
      by decide +kernel⟩,
  ⟨{ st [(R.NODE_LTINm_LEG 1, 256), (R.LEGn_CFG_ASSIGNED 40, 1), (R.LEGn_CFG_BLANK 40, 40), (R.NODE_BLANKb_T 0, 9)] with
      legs := [(40, { legUp with lastEdge := some 0, blanked := true })] }, 40, tapPoint 0 576, by decide +kernel⟩,
  ⟨{ st [(R.NODE_LTINm_LEG 1, 256), (R.LEGn_CFG_BLANK 40, 40), (R.NODE_BLANKb_T 0, 0), (R.NODE_MODE_MODE, 2), (R.LEGn_CFG_ASSIGNED 40, 1),
        (R.BRIDGE_CFG_ROLE 0, 1), (R.LEGn_STATUS_DRIVE 40, 0)] with
      legs := [(40, { legUp with lastEdge := some 0, blanked := true })] }, 40, 0, by decide +kernel⟩,
  ⟨State.reset, 40, by decide +kernel⟩,
  ⟨st [(R.NODE_WCMPc_CFG_ACT 3, 2), (R.NODE_WCMPc_CFG_EN_HI 3, 1), (R.NODE_WCMPc_CFG_MASK 3, 7), (R.BRIDGE_CFG_PRESENT 1, 1), (R.NODE_MODE_MODE, 2)],
      3, by decide +kernel⟩,
  ⟨st [(R.NODE_WCMPc_CFG_ACT 3, 1), (R.NODE_WCMPc_CFG_EN_LO 3, 1)], 3, by decide +kernel⟩,
  ⟨st [(R.NODE_WCMPc_CFG_ACT 3, 1), (R.NODE_WCMPST_OVER, 8)], by decide +kernel⟩⟩

theorem witness_TripClears :
    (∃ (s : State) (r : Requester), s.serves r.num = true) ∧
    (∃ (s : State), s.powered = true ∧ follows s = false ∧ s.mode ≠ 6 ∧ dAccept s 2 ≠ 0 ∧
        s.postmark < frameStart s.fFrame (commandFrame s 2 s.postmark) ∧ dAccept s 2 ≤ 60 * 2 ^ 32 ∧ s.acceptance.length < 2048) ∧
    (∃ (s : State), s.powered = true ∧ (s.mode = 6 ∨ dAccept s 2 = 0)) :=
  ⟨⟨st [(R.NODE_LTRIPm_LEG 1, 257), (R.NODE_LTINm_LEG 1, 256)], .pcie, by decide +kernel⟩,
  ⟨{ State.reset with image := some { imW with delays := [1000000, 1000000, 1000000, 1000000] } }, by decide +kernel⟩,
  ⟨st [(R.NODE_MODE_MODE, 6)], by decide +kernel⟩⟩

theorem witness_SenseInputs :
    (∃ (s : State) (path : Fin 120) (tr : Nat), s.powered = true ∧ s.get R.SN_STATUS_RUN ≠ 0 ∧ s.get (R.DEC_PATHp_CFG_DEFINED path) ≠ 0 ∧
        nextTrigger s path = some tr ∧ s.fabric.sampling = none) ∧
    (∃ (s : State) (path : Fin 120), s.powered = true ∧ (s.get R.SN_STATUS_RUN = 0 ∨ s.get (R.DEC_PATHp_CFG_DEFINED path) = 0) ∧
        s.fabric.sampling = none) ∧
    (∃ (s : State) (chan : Fin 96), s.powered = true ∧ s.get (R.DEC_PATHp_CFG_DEFINED chan) = 1 ∧ s.get R.SN_STATUS_RUN = 1) ∧
    (∃ (s : State) (chan : Fin 96), s.powered = true ∧ (s.get (R.DEC_PATHp_CFG_DEFINED chan) ≠ 1 ∨ s.get R.SN_STATUS_RUN ≠ 1)) ∧
    (∃ (s : State) (chan : Fin 96), s.powered = true ∧ (s.path chan).lost = true) ∧
    (∃ (s : State) (chan : Fin 96), s.powered = true ∧ (s.path chan).lost = false) ∧
    (∃ (s : State) (slice : Fin 25) (im : Image), s.powered = true ∧ s.image = some im ∧ s.get R.SN_STATUS_RUN ≠ 0 ∧
        s.get (R.SN_GRPg_EN (sliceGroup s slice)) ≠ 0) ∧
    (∃ (s : State) (slice : Fin 25), s.powered = true ∧ (s.image = none ∨ s.get R.SN_STATUS_RUN = 0 ∨
        s.get (R.SN_GRPg_EN (sliceGroup s slice)) = 0)) :=
  ⟨⟨{ st [(R.SN_STATUS_RUN, 1), (R.DEC_PATHp_CFG_DEFINED 100, 1), (R.DEC_PATHp_CFG_R 100, 2), (R.DEC_PATHp_CFG_K 100, 2), (R.DEC_PATHp_CFG_SRC 100,
        100)] with
      image := some imP }, 100, 0, by decide +kernel⟩,
  ⟨State.reset, 100, by decide +kernel⟩,
  ⟨st [(R.SN_STATUS_RUN, 1), (R.DEC_PATHp_CFG_DEFINED 95, 1)], 95, by decide +kernel⟩,
  ⟨State.reset, 0, by decide +kernel⟩,
  ⟨{ st [(R.SN_LOSTm_CH 2, 0x80000000), (R.DEC_PATHp_CFG_K 95, 3)] with
      sense := { Sense.reset with paths := [(95, { Path.idle with lost := true, line := [3] })] } }, 95, by decide +kernel⟩,
  ⟨State.reset, 0, by decide +kernel⟩,
  ⟨{ st [(R.SN_STATUS_RUN, 1), (R.SN_GRPg_EN 0, 1)] with image := some imW }, 0, imW, by decide +kernel⟩,
  ⟨State.reset, 24, by decide +kernel⟩⟩

theorem witness_CalibrationRotation :
    (∃ (s : State), s.powered = true ∧ calRuns s = true ∧ s.sense.calStart = none) ∧
    (∃ (s : State) (e : Nat), s.powered = true ∧ calRuns s = true ∧ s.sense.calStart = some e ∧ s.get R.SN_CAL_STEP < 24 ∧
        s.sense.subst ≠ some (s.get R.SN_CAL_STEP)) ∧
    (∃ (s : State) (e : Nat), s.powered = true ∧ calRuns s = true ∧ s.sense.calStart = some e ∧ s.get R.SN_CAL_STEP < 24 ∧
        s.sense.subst = some (s.get R.SN_CAL_STEP)) ∧
    (∃ (s : State) (e : Nat), s.powered = true ∧ calRuns s = true ∧ s.sense.calStart = some e ∧ 24 ≤ s.get R.SN_CAL_STEP ∧
        s.sense.subst ≠ some (s.get R.SN_CAL_STEP)) ∧
    (∃ (s : State), s.powered = true ∧ calRuns s = false) ∧
    (∃ (s : State) (e : Nat), s.powered = true ∧ calRuns s = true ∧ s.sense.calStart = some e ∧ s.get R.SN_CAL_STEP < 24) ∧
    (∃ (s : State) (e : Nat), s.powered = true ∧ calRuns s = true ∧ s.sense.calStart = some e ∧ s.get R.SN_CAL_STEP < 32) ∧
    (∃ (s : State), s.powered = true ∧ (calRuns s = false ∨ s.sense.calStart = none)) :=
  ⟨⟨st [(R.NODE_MODE_MODE, 1), (R.SN_STATUS_RUN, 1), (R.SN_CAL_STEP, 9)], by decide +kernel⟩,
  ⟨{ st [(R.NODE_MODE_MODE, 1), (R.SN_STATUS_RUN, 1), (R.SN_CAL_STEP, 23)] with sense := { Sense.reset with calStart := some 5 } }, 5,
      by decide +kernel⟩,
  ⟨{ st [(R.NODE_MODE_MODE, 1), (R.SN_STATUS_RUN, 1), (R.SN_CAL_STEP, 23), (R.SN_CAL_PHASE, 3)] with
      sense := { Sense.reset with calStart := some 5, subst := some 23 } }, 5, by decide +kernel⟩,
  ⟨{ st [(R.NODE_MODE_MODE, 1), (R.SN_STATUS_RUN, 1), (R.SN_CAL_STEP, 24)] with sense := { Sense.reset with calStart := some 5, subst := some 23 } },
      5, by decide +kernel⟩,
  ⟨State.reset, by decide +kernel⟩,
  ⟨{ st [(R.NODE_MODE_MODE, 1), (R.SN_STATUS_RUN, 1), (R.SN_CAL_STEP, 23)] with sense := { Sense.reset with calStart := some 5 } }, 5,
      by decide +kernel⟩,
  ⟨{ st [(R.NODE_MODE_MODE, 1), (R.SN_STATUS_RUN, 1), (R.SN_CAL_STEP, 23)] with sense := { Sense.reset with calStart := some 5 } }, 5,
      by decide +kernel⟩,
  ⟨State.reset, by decide +kernel⟩⟩

theorem witness_SnapshotsAndResamplers :
    (∃ (s : State) (r : Requester) (bridge : BitVec 5), s.serves r.num = true ∧ (bridge.toNat < 16 ∨ bridge.toNat = 31) ∧
        snapPaths s bridge.toNat ≠ [] ∧ s.sense.snaps = [] ∧ (∀ p ∈ snapPaths s bridge.toNat, servedAlready s p s.postmark = none)) ∧
    (∃ (s : State) (r : Requester) (bridge : BitVec 5), s.serves r.num = true ∧ (bridge.toNat < 16 ∨ bridge.toNat = 31) ∧
        snapPaths s bridge.toNat ≠ [] ∧ 4 ≤ s.sense.snaps.length ∧ (∀ x ∈ s.sense.snaps,
        snapMerges s (snapPaths s bridge.toNat) s.postmark x = false)) ∧
    (∃ (s : State) (r : Requester) (bridge : BitVec 5) (x : Snapshot), s.serves r.num = true ∧ (bridge.toNat < 16 ∨ bridge.toNat = 31) ∧
        snapPaths s bridge.toNat ≠ [] ∧ s.sense.snaps = [x] ∧ snapMerges s (snapPaths s bridge.toNat) s.postmark x = true) ∧
    (∃ (s : State) (r : Requester) (bridge : BitVec 5), s.serves r.num = true ∧ (16 ≤ bridge.toNat ∧ bridge.toNat < 31 ∨
        snapPaths s bridge.toNat = [])) ∧
    (∃ (s : State) (x : Snapshot), s.powered = true ∧ s.sense.snaps.find? (fun x => x.todo.isEmpty) = some x) ∧
    (∃ (s : State), s.powered = true ∧ s.sense.snaps.find? (fun x => x.todo.isEmpty) = none) ∧
    (∃ (s : State) (ch : Fin 32) (u j a : Nat) (rest : List (Nat × Nat)), s.powered = true ∧ (s.resampler ch).sched = (u, j) :: rest ∧
        sourceAt u (s.resampler ch).hist 0 = some a ∧ 8 ≤ a) ∧
    (∃ (s : State) (ch : Fin 32), s.powered = true ∧ (s.resampler ch).sched = []) :=
  ⟨⟨{ State.reset with image := some imP }, .pcie, 31, by decide +kernel⟩,
  ⟨{ State.reset with image := some imP, sense := { Sense.reset with snaps := List.replicate 4 ⟨[(2, 0, 0)], [], [(1, 1, 1, 1)]⟩ } }, .pcie, 0,
      by decide +kernel⟩,
  ⟨{ State.reset with image := some imP, sense := { Sense.reset with snaps := [⟨[(2, 0, 0)], [100], []⟩] } }, .pcie, 0, ⟨[(2, 0, 0)], [100], []⟩,
      by decide +kernel⟩,
  ⟨State.reset, .pcie, 16, by decide +kernel⟩,
  ⟨{ st [(R.SO_STATUS_RUN, 1)] with image := some imW, sense := { Sense.reset with snaps := [⟨[(2, 0, 0)], [], [(100, 1, 1, 1)]⟩] } }, ⟨[(2, 0, 0)],
      [], [(100, 1, 1, 1)]⟩, by decide +kernel⟩,
  ⟨State.reset, by decide +kernel⟩,
  ⟨{ State.reset with
      sense := { Sense.reset with
        resamplers := [(31, { Resampler.idle with hist := (List.range 9).map (fun i => ⟨i, 1, 9 - i, 9 - i⟩), sched := [(1, 3)] })] } }, 31, 1, 3, 8,
      [], by decide +kernel⟩,
  ⟨State.reset, 31, by decide +kernel⟩⟩

theorem witness_PathRequests :
    (∃ (s : State) (r : Requester), s.serves r.num = true ∧ follows s = false ∧ s.mode ≠ 6 ∧ dAccept s 2 ≠ 0 ∧
        s.postmark < frameStart s.fFrame (commandFrame s 2 s.postmark) ∧ dAccept s 2 ≤ 60 * 2 ^ 32 ∧ s.acceptance.length < 2048) ∧
    (∃ (s : State) (r : Requester), s.serves r.num = true ∧ (s.mode = 6 ∨ dAccept s 2 = 0)) :=
  ⟨⟨{ State.reset with image := some { imW with delays := [1000000, 1000000, 1000000, 1000000] } }, .pcie, by decide +kernel⟩,
  ⟨State.reset, .qspi, by decide +kernel⟩⟩

theorem witness_CaptureWindows :
    (∃ (s : State) (r : Requester) (w : Fin 8), s.serves r.num = true ∧ (s.winState w = 0 ∨ s.winState w = 4) ∧ armRefusal s w = none) ∧
    (∃ (s : State) (r : Requester) (w : Fin 8) (c : Nat), s.serves r.num = true ∧ (s.winState w = 0 ∨ s.winState w = 4) ∧ armRefusal s w = some c) ∧
    (∃ (s : State) (r : Requester) (w : Fin 8), s.serves r.num = true ∧ s.winState w ≠ 0 ∧ s.winState w ≠ 4) ∧
    (∃ (s : State) (r : Requester) (w : Fin 8), s.serves r.num = true ∧ (s.winState w = 1 ∨ s.winState w = 2)) ∧
    (∃ (s : State) (r : Requester) (w : Fin 8), s.serves r.num = true ∧ (s.winState w = 3 ∨ s.winState w = 4 ∨ s.winState w = 5)) ∧
    (∃ (s : State) (r : Requester) (w : Fin 8), s.serves r.num = true ∧ s.winState w = 0) ∧
    (∃ (s : State) (w : Fin 8), s.powered = true ∧ s.winState w = 3 ∧ s.get (R.CAP_WINw_POST_N w) ≤ (s.win w).postDone ∧
        winSeg s w + 128 ≤ 33554432) ∧
    (∃ (s : State) (w : Fin 8), s.powered = true ∧ (s.winState w ≠ 3 ∨ (s.win w).postDone < s.get (R.CAP_WINw_POST_N w))) ∧
    (∃ (s : State) (r : Requester) (w : Fin 8), s.serves r.num = true ∧ (s.winState w = 1 ∨ s.winState w = 2 ∨ s.winState w = 3) ∧
        winSeg s w + 128 ≤ 33554432) ∧
    (∃ (s : State) (r : Requester) (w : Fin 8), s.serves r.num = true ∧ s.winState w = 5) ∧
    (∃ (s : State) (r : Requester) (w : Fin 8), s.serves r.num = true ∧ (s.winState w = 0 ∨ s.winState w = 4 ∨ 5 < s.winState w)) :=
  ⟨⟨{ st [(R.CAP_WINw_CFG_NSRC 7, 1), (R.CAP_WINw_CFG_CLKK 7, 1), (R.CAP_WINw_PRE_N 7, 1), (R.CAP_WINw_POST_N 7, 1), (R.CAP_WINw_MEM_SIZE 7, 1)] with
      image := some imW }, .pcie, 7, by decide +kernel⟩,
  ⟨State.reset, .pcie, 7, 1, by decide +kernel⟩,
  ⟨st [(R.CAP_WINw_STAT_STATE 7, 2)], .pcie, 7, by decide +kernel⟩,
  ⟨st [(R.CAP_WINw_STAT_STATE 7, 2)], .pcie, 7, by decide +kernel⟩,
  ⟨st [(R.CAP_WINw_STAT_STATE 7, 3)], .pcie, 7, by decide +kernel⟩,
  ⟨State.reset, .pcie, 7, by decide +kernel⟩,
  ⟨st [(R.CAP_WINw_STAT_STATE 7, 3), (R.CAP_WINw_CFG_AUTO 7, 1), (R.CAP_WINw_MEM_SIZE 7, 1)], 7, by decide +kernel⟩,
  ⟨State.reset, 7, by decide +kernel⟩,
  ⟨st [(R.CAP_WINw_STAT_STATE 7, 3)], .pcie, 7, by decide +kernel⟩,
  ⟨(st [(R.CAP_WINw_STAT_STATE 7, 5)]).setWin 7 { Win.idle with waits := [⟨3, 1, 640⟩] }, .pcie, 7, by decide +kernel⟩,
  ⟨st [(R.CAP_WINw_STAT_STATE 7, 4)], .pcie, 7, by decide +kernel⟩⟩

theorem witness_FlightRecordHolding :
    (∃ (s : State) (r : Requester), s.serves r.num = true ∧ s.get R.CAP_FRCFG_HOLD ≠ 1) ∧
    (∃ (s : State) (r : Requester), s.serves r.num = true ∧ s.get R.CAP_FRCFG_HOLD = 1) ∧
    (∃ (s : State) (r : Requester), s.serves r.num = true ∧ s.get R.CAP_FRCFG_HOLD ≠ 0) ∧
    (∃ (s : State) (r : Requester), s.serves r.num = true ∧ s.get R.CAP_FRCFG_HOLD = 0) ∧
    (∃ (s : State) (bit : Nat), s.powered = true ∧ s.capture.holdCount = some (0, bit) ∧ bit < 5) ∧
    (∃ (s : State), s.powered = true ∧ (∀ bit, s.capture.holdCount ≠ some (0, bit))) :=
  ⟨⟨State.reset, .pcie, by decide +kernel⟩,
  ⟨st [(R.CAP_FRCFG_HOLD, 1)], .pcie, by decide +kernel⟩,
  ⟨st [(R.CAP_FRCFG_HOLD, 1)], .pcie, by decide +kernel⟩,
  ⟨State.reset, .pcie, by decide +kernel⟩,
  ⟨{ State.reset with capture := { Capture.reset with holdCount := some (0, 3) } }, 3, by decide +kernel⟩,
  ⟨State.reset, by decide +kernel, fun _ => (Option.some_ne_none _).symm⟩⟩

theorem witness_OfficeCancel :
    (∃ (s : State) (r : Requester) (id : BitVec 16) (e : Env), s.serves r.num = true ∧
        s.office.waiting.find? (fun x => x.id == id.toNat && x.readyAt ≤ (officeTurn s (50 + r.num)).time.count) = some e) ∧
    (∃ (s : State) (r : Requester) (id : BitVec 16), s.serves r.num = true ∧ (∀ x ∈ s.office.waiting, x.id = id.toNat →
        (officeTurn s (50 + r.num)).time.count < x.readyAt)) ∧
    (∃ (s : State) (r : Requester) (id : BitVec 16) (e : TrayEntry), s.serves r.num = true ∧
        s.office.trays.find? (fun x => x.id == id.toNat) = some e) ∧
    (∃ (s : State) (r : Requester) (id : BitVec 16) (e : Env), s.serves r.num = true ∧ (∀ x ∈ s.office.trays, x.id ≠ id.toNat) ∧
        s.office.waiting.find? (fun x => x.trayId == some id.toNat && (officeTurn s (50 + r.num)).time.count ≤ x.readyAt) = some e) ∧
    (∃ (s : State) (r : Requester) (id : BitVec 16), s.serves r.num = true ∧ (∀ x ∈ s.office.trays, x.id ≠ id.toNat) ∧ (∀ x ∈ s.office.waiting,
        x.trayId = some id.toNat → x.readyAt < (officeTurn s (50 + r.num)).time.count)) :=
  ⟨⟨{ State.reset with
      office := { Office.reset with
        waiting := [⟨1, 3, 5, 7, 2, 0, 0, 5, 0, false, false, false, 0, 0, [], true, some 99, 0⟩], trays := [⟨2, 5, 3, 70, ⟨1, 3, 5, 0, 0, 0, 0, 0, 0,
        false, false, false, 0, 0, [], true, none, 0⟩, false⟩] } }, .qspi, (BitVec.ofNat 16 (Env.id ⟨1, 3, 5, 7, 2, 0, 0, 5, 0, false, false, false,
      0, 0, [], true, some 99, 0⟩)), ⟨1, 3, 5, 7, 2, 0, 0, 5, 0, false, false, false, 0, 0, [], true, some 99, 0⟩, by decide +kernel⟩,
  ⟨{ State.reset with
      office := { Office.reset with
        waiting := [⟨1, 3, 5, 7, 2, 0, 0, 5, 0, false, false, false, 0, 0, [], true, some 99, 0⟩], trays := [⟨2, 5, 3, 70, ⟨1, 3, 5, 0, 0, 0, 0, 0, 0,
        false, false, false, 0, 0, [], true, none, 0⟩, false⟩] } }, .qspi, 3, by decide +kernel⟩,
  ⟨{ State.reset with
      office := { Office.reset with
        waiting := [⟨1, 3, 5, 7, 2, 0, 0, 5, 0, false, false, false, 0, 0, [], true, some 99, 0⟩], trays := [⟨2, 5, 3, 70, ⟨1, 3, 5, 0, 0, 0, 0, 0, 0,
        false, false, false, 0, 0, [], true, none, 0⟩, false⟩] } }, .qspi, (BitVec.ofNat 16 (TrayEntry.id ⟨2, 5, 3, 70, ⟨1, 3, 5, 0, 0, 0, 0, 0, 0,
      false, false, false, 0, 0, [], true, none, 0⟩, false⟩)), ⟨2, 5, 3, 70, ⟨1, 3, 5, 0, 0, 0, 0, 0, 0, false, false, false, 0, 0, [], true, none,
      0⟩, false⟩, by decide +kernel⟩,
  ⟨{ State.reset with
      office := { Office.reset with
        waiting := [⟨1, 3, 5, 7, 2, 0, 0, 5, 0, false, false, false, 0, 0, [], true, some 99, 0⟩], trays := [⟨2, 5, 3, 70, ⟨1, 3, 5, 0, 0, 0, 0, 0, 0,
        false, false, false, 0, 0, [], true, none, 0⟩, false⟩] } }, .qspi, 99, ⟨1, 3, 5, 7, 2, 0, 0, 5, 0, false, false, false, 0, 0, [], true,
      some 99, 0⟩, by decide +kernel⟩,
  ⟨{ State.reset with
      office := { Office.reset with
        waiting := [⟨1, 3, 5, 7, 2, 0, 0, 5, 0, false, false, false, 0, 0, [], true, some 99, 0⟩], trays := [⟨2, 5, 3, 70, ⟨1, 3, 5, 0, 0, 0, 0, 0, 0,
        false, false, false, 0, 0, [], true, none, 0⟩, false⟩] } }, .qspi, 3, by decide +kernel⟩⟩

theorem witness_OfficePosts :
    (∃ (s : State) (r : Requester), s.serves r.num = true ∧ s.mode ≠ 0 ∧ s.get R.SO_STATUS_RUN ≠ 0 ∧ s.swUse < 448 ∧ s.freeDescs ≠ [] ∧
        (pbufEnv s r.num).ph ≤ 31 ∧ s.phSoft (pbufEnv s r.num).ph < s.get (R.SO_PHp_LIMIT (pbufEnv s r.num).ph) ∧ ((pbufEnv s r.num).flow ≤ 1023 ∨
        (pbufEnv s r.num).flow = 0xFFFF) ∧ pbufLen s r.num ≤ 4064 ∧ 1 ≤ (pbufEnv s r.num).typ ∧ (pbufEnv s r.num).typ ≤ 15) ∧
    (∃ (s : State) (r : Requester) (c : Nat), s.serves r.num = true ∧ postRefusal s (pbufEnv s r.num) (pbufLen s r.num) = some c) ∧
    (∃ (s : State) (r : Requester) (tray : Fin 4), s.serves r.num = true ∧ s.mode ≠ 0 ∧ s.get R.SO_STATUS_RUN ≠ 0 ∧ (pbufEnv s r.num).ph ≤ 31 ∧
        ((pbufEnv s r.num).flow ≤ 1023 ∨ (pbufEnv s r.num).flow = 0xFFFF) ∧ pbufLen s r.num ≤ 256 ∧ 1 ≤ (pbufEnv s r.num).typ ∧
        (pbufEnv s r.num).typ ≤ 15 ∧ s.swUse < 448 ∧ s.phSoft (pbufEnv s r.num).ph < s.get (R.SO_PHp_LIMIT (pbufEnv s r.num).ph) ∧
        (s.office.trays.filter (fun x => x.tray == tray.val)).length < 1024 ∧
        (officeTurn s (30 + (pbufEnv s r.num).port)).postmark < (s.get (R.SO_TRAY_LO_FRAC r.num) + s.get (R.SO_TRAY_HI_SEC r.num) * 2 ^ 32) ∧
        (s.get (R.SO_TRAY_LO_FRAC r.num) + s.get (R.SO_TRAY_HI_SEC r.num) * 2 ^ 32) ≤ (officeTurn s (30 + (pbufEnv s r.num).port)).postmark + 86400 * 2 ^ 32) ∧
    (∃ (s : State) (r : Requester) (tray : Fin 4) (c : Nat), s.serves r.num = true ∧
        trayRefusal (officeTurn s (30 + (pbufEnv s r.num).port)) (pbufEnv s r.num) (pbufLen s r.num) tray (s.get (R.SO_TRAY_LO_FRAC r.num) + s.get (R.SO_TRAY_HI_SEC r.num) * 2 ^ 32) = some c) :=
  ⟨⟨{ st [(R.NODE_MODE_MODE, 1), (R.SO_STATUS_RUN, 1), (R.SO_PHp_LIMIT 3, 16)] with office := { Office.reset with pbuf := [(2048, 0x00050301)] } },
      .core 0, by decide +kernel⟩,
  ⟨State.reset, .pcie, 0x79, by decide +kernel⟩,
  ⟨{ st [(R.NODE_MODE_MODE, 1), (R.SO_STATUS_RUN, 1), (R.SO_PHp_LIMIT 3, 16), (R.SO_TRAY_LO_FRAC 2, 7)] with
      office := { Office.reset with pbuf := [(2048, 0x00050301)] } }, .core 0, 3, by decide +kernel⟩,
  ⟨State.reset, .pcie, 3, 0x79, by decide +kernel⟩⟩

theorem witness_OfficeDispatch :
    (∃ (s : State), s.powered = true ∧ s.get R.SO_STATUS_RUN ≠ 0 ∧
        (s.office.waiting.any fun e => (e.readyAt ≤ (officeTurn s 70).time.count && eligible s e && !(freeCores s e.ph).isEmpty)) = true) ∧
    (∃ (s : State), s.powered = true ∧ s.get R.SO_STATUS_RUN = 0) ∧
    (∃ (s : State), s.powered = true ∧ s.get R.SO_STATUS_RUN ≠ 0 ∧
        (s.office.waiting.any fun e => (e.readyAt ≤ (officeTurn s 70).time.count && eligible s e && !(freeCores s e.ph).isEmpty)) = false) :=
  ⟨⟨{ st [(R.SO_STATUS_RUN, 1), (R.SO_PHp_CORES 3, 4)] with
      office := { Office.reset with
        waiting := [⟨1, 3, 5, 7, 2, 0, 0, 5, 0, false, false, false, 0, 0, [], true, none, 0⟩, { (⟨1, 3, 5, 7, 2, 0, 0, 5, 0, false, false, false, 0,
          0, [], true, none, 0⟩ : Env) with
          idx := 9, flow := 6 }] } }, by decide +kernel⟩,
  ⟨State.reset, by decide +kernel⟩,
  ⟨st [(R.SO_STATUS_RUN, 1)], by decide +kernel⟩⟩

theorem witness_OfficeCompletion :
    (∃ (s : State) (n : Fin 8) (e : Env), s.serves (Requester.core n).num = true ∧ sget none s.office.service n = some e) ∧
    (∃ (s : State) (n : Fin 8), s.serves (Requester.core n).num = true ∧ sget none s.office.service n = none) ∧
    (∃ (s : State) (r : Requester), s.serves r.num = true ∧ (r = .pcie ∨ r = .qspi)) ∧
    (∃ (s : State), s.powered = true ∧ s.office.bufLost ≠ 0 ∧ (∀ x ∈ s.office.ahead, s.time.count < x.tick)) ∧
    (∃ (s : State), s.powered = true ∧ s.office.bufLost = 0) :=
  ⟨⟨{ State.reset with
      office := { Office.reset with service := [(7, some ⟨1, 3, 5, 7, 2, 0, 0, 5, 0, false, false, false, 0, 0, [], true, none, 0⟩)] } }, 7, ⟨1, 3, 5,
      7, 2, 0, 0, 5, 0, false, false, false, 0, 0, [], true, none, 0⟩, by decide +kernel⟩,
  ⟨State.reset, 7, by decide +kernel⟩,
  ⟨State.reset, .qspi, by decide +kernel⟩,
  ⟨{ State.reset with office := { Office.reset with bufLost := 3 } }, by decide +kernel⟩,
  ⟨State.reset, by decide +kernel⟩⟩

theorem witness_SitePorts :
    (∃ (s : State) (port : Fin 2), s.linked = true ∧ s.get (R.LK_SPn_CFG_EN port) ≠ 0 ∧ locked s = true ∧ s.get (R.LK_SPn_STAT_UP port) ≠ 1) ∧
    (∃ (s : State) (port : Fin 2), s.linked = true ∧ (s.get (R.LK_SPn_CFG_EN port) = 0 ∨ locked s = false ∨ s.get (R.LK_SPn_STAT_UP port) = 1)) ∧
    (∃ (s : State) (port : Fin 2), s.linked = true ∧ s.get (R.LK_SPn_STAT_UP port) ≠ 0) ∧
    (∃ (s : State) (port : Fin 2), s.linked = true ∧ s.get (R.LK_SPn_STAT_UP port) = 0) :=
  ⟨⟨st [(R.CK_STATUS_LOCK, 1)], 1, by decide +kernel⟩,
  ⟨State.reset, 1, by decide +kernel⟩,
  ⟨st [(R.LK_SPn_STAT_UP 1, 1)], 1, by decide +kernel⟩,
  ⟨State.reset, 1, by decide +kernel⟩⟩

theorem witness_PtpAndPcie :
    (∃ (s : State) (m : PtpMessage), s.linked = true ∧ s.get (R.LK_SPn_STAT_UP m.port) ≠ 0 ∧ s.get (R.LK_SPn_CFG_PTPROLE m.port) ≠ 0 ∧
        m.supported = true ∧ m.domain = s.get R.LK_PTP_CFG_DOMAIN ∧ m.mtype = 0xB) ∧
    (∃ (s : State) (m : PtpMessage), s.linked = true ∧ s.get (R.LK_SPn_STAT_UP m.port) ≠ 0 ∧ s.get (R.LK_SPn_CFG_PTPROLE m.port) ≠ 0 ∧
        m.supported = true ∧ m.domain = s.get R.LK_PTP_CFG_DOMAIN ∧ m.mtype = 0 ∧ s.get (R.LK_SPn_STAT_PSTATE m.port) = 9) ∧
    (∃ (s : State) (m : PtpMessage), s.linked = true ∧ s.get (R.LK_SPn_STAT_UP m.port) ≠ 0 ∧ s.get (R.LK_SPn_CFG_PTPROLE m.port) ≠ 0 ∧
        m.supported = true ∧ m.domain = s.get R.LK_PTP_CFG_DOMAIN ∧ m.mtype = 1 ∧ s.get (R.LK_SPn_STAT_PSTATE m.port) = 6 ∧
        s.get (R.LK_SPn_CFG_DELAYM m.port) = 0) ∧
    (∃ (s : State) (m : PtpMessage), s.linked = true ∧ s.get (R.LK_SPn_STAT_UP m.port) ≠ 0 ∧ s.get (R.LK_SPn_CFG_PTPROLE m.port) ≠ 0 ∧
        m.supported = true ∧ m.domain = s.get R.LK_PTP_CFG_DOMAIN ∧ m.mtype = 2 ∧ s.get (R.LK_SPn_CFG_DELAYM m.port) = 1) ∧
    (∃ (s : State) (m : PtpMessage), s.linked = true ∧ (s.get (R.LK_SPn_STAT_UP m.port) = 0 ∨ s.get (R.LK_SPn_CFG_PTPROLE m.port) = 0 ∨
        m.supported = false ∨ m.domain ≠ s.get R.LK_PTP_CFG_DOMAIN)) ∧
    (∃ (s : State), s.powered = true) ∧
    (∃ (s : State) (rate width : BitVec 2), s.powered = true ∧ locked s = true ∧ rate ≠ 0 ∧ width ≠ 0 ∧ width ≠ 3) :=
  ⟨⟨st [(R.LK_SPn_STAT_UP 1, 1)], ⟨1, true, 0, 0xB, 7, 0, 0⟩, by decide +kernel⟩,
  ⟨st [(R.LK_SPn_STAT_UP 1, 1), (R.LK_SPn_STAT_PSTATE 1, 9)], ⟨1, true, 0, 0, 7, 3, 0⟩, by decide +kernel⟩,
  ⟨st [(R.LK_SPn_STAT_UP 1, 1), (R.LK_SPn_STAT_PSTATE 1, 6)], ⟨1, true, 0, 1, 7, 3, 0⟩, by decide +kernel⟩,
  ⟨st [(R.LK_SPn_STAT_UP 1, 1), (R.LK_SPn_CFG_DELAYM 1, 1)], ⟨1, true, 0, 2, 7, 3, 0⟩, by decide +kernel⟩,
  ⟨State.reset, ⟨1, true, 0, 2, 7, 3, 0⟩, by decide +kernel⟩,
  ⟨{ State.reset with shadows := [(0, ⟨some (0, 0), none⟩), (1, ⟨some (0, 0), none⟩)] }, by decide +kernel⟩,
  ⟨st [(R.CK_STATUS_LOCK, 1)], 3, 2, by decide +kernel⟩⟩

theorem witness_CanControllers :
    (∃ (s : State) (m : CanFrame) (f : Nat), s.linked = true ∧ canOn s m.ctl = true ∧ locked s = true ∧ (¬(m.fdf = true ∧
        s.get (R.LK_CANc_CFG_FD m.ctl) = 0)) ∧ (List.range 64).find? (canTakes s m.ctl m) = some f ∧ s.get (R.LK_CANc_FLTf_RT_ACT m.ctl f) = 1 ∧
        s.get R.SO_STATUS_RUN ≠ 0 ∧ s.freeDescs ≠ []) ∧
    (∃ (s : State) (m : CanFrame), s.linked = true ∧ (canOn s m.ctl = false ∨ locked s = false ∨ (List.range 64).find? (canTakes s m.ctl m) = none)) ∧
    (∃ (s : State) (r : Requester), s.serves r.num = true) ∧
    (∃ (s : State) (ctl : Fin 4) (buf : Fin 16), s.linked = true ∧ (canPending s ctl).testBit buf = true ∧ canOn s ctl = true ∧
        s.get (R.LK_CANc_CFG_LISTEN ctl) = 0 ∧ locked s = true) ∧
    (∃ (s : State) (ctl : Fin 4) (buf : Fin 16), s.linked = true ∧ ((canPending s ctl).testBit buf = false ∨ canOn s ctl = false ∨
        s.get (R.LK_CANc_CFG_LISTEN ctl) ≠ 0 ∨ locked s = false)) ∧
    (∃ (s : State) (ctl : Fin 4), s.linked = true ∧ canOn s ctl = true) ∧
    (∃ (s : State) (ctl : Fin 4), s.linked = true ∧ s.get (R.LK_CANc_CFG_EN ctl) = 1 ∧ s.get (R.LK_CANc_STAT_BUSOFF ctl) = 1 ∧
        s.get (R.LK_CANc_CFG_AUTOREC ctl) = 1) ∧
    (∃ (s : State) (ctl : Fin 4), s.linked = true ∧ s.get (R.LK_CANc_CFG_AUTOREC ctl) ≠ 1) :=
  ⟨⟨st [(R.CK_STATUS_LOCK, 1), (R.SO_STATUS_RUN, 1), (R.LK_CANc_CFG_EN 3, 1), (R.LK_CANc_FLTf_ID_EN 3 63, 1), (R.LK_CANc_FLTf_ID_ID 3 63, 5),
      (R.LK_CANc_FLTf_RT_ACT 3 63, 1)], ⟨3, false, false, false, 5, [7]⟩, 63, by decide +kernel⟩,
  ⟨State.reset, ⟨3, false, false, false, 5, [7]⟩, by decide +kernel⟩,
  ⟨State.reset, .pcie, by decide +kernel⟩,
  ⟨{ st [(R.CK_STATUS_LOCK, 1), (R.LK_CANc_CFG_EN 3, 1)] with links := { Links.reset with canPend := [(3, 0x8000)] } }, 3, 15, by decide +kernel⟩,
  ⟨State.reset, 3, 15, by decide +kernel⟩,
  ⟨st [(R.LK_CANc_CFG_EN 3, 1)], 3, by decide +kernel⟩,
  ⟨st [(R.LK_CANc_CFG_EN 3, 1), (R.LK_CANc_STAT_BUSOFF 3, 1)], 3, by decide +kernel⟩,
  ⟨st [(R.LK_CANc_CFG_AUTOREC 3, 0)], 3, by decide +kernel⟩⟩

theorem witness_ClockRoot :
    (∃ (s : State), s.powered = true ∧ locked s = true) ∧
    (∃ (s : State), s.powered = true ∧ locked s = false) ∧
    (∃ (s : State) (count : BitVec 19), s.powered = true ∧ refEnabled s (refActive s) = true ∧ locked s = false ∧ 393197 ≤ count.toNat ∧
        count.toNat ≤ 393235) ∧
    (∃ (s : State) (count : BitVec 19), s.powered = true ∧ refEnabled s (refActive s) = true ∧ locked s = false ∧ (count.toNat < 393197 ∨
        393235 < count.toNat)) ∧
    (∃ (s : State) (count : BitVec 19), s.powered = true ∧ refEnabled s (refActive s) = true ∧ locked s = true ∧ 393197 ≤ count.toNat ∧
        count.toNat ≤ 393235) ∧
    (∃ (s : State) (count : BitVec 19), s.powered = true ∧ refEnabled s (refActive s) = true ∧ locked s = true ∧ (count.toNat < 393197 ∨
        393235 < count.toNat)) ∧
    (∃ (s : State), s.powered = true ∧ refEnabled s (refActive s) = false) ∧
    (∃ (s : State) (r : Requester), s.serves r.num = true ∧ s.mode ≠ 0 ∧ s.mode ≠ 1) ∧
    (∃ (s : State) (r : Requester), s.serves r.num = true ∧ (s.mode = 0 ∨ s.mode = 1)) :=
  ⟨⟨st [(R.CK_STATUS_LOCK, 1), (R.NODE_MODE_MODE, 3), (R.POST_STATUS_STATE, 2), (R.CK_STATUS_REF0_OK, 1)], by decide +kernel⟩,
  ⟨State.reset, by decide +kernel⟩,
  ⟨State.reset, 393197, by decide +kernel⟩,
  ⟨State.reset, 393236, by decide +kernel⟩,
  ⟨st [(R.CK_STATUS_LOCK, 1)], 393235, by decide +kernel⟩,
  ⟨st [(R.CK_STATUS_LOCK, 1), (R.NODE_MODE_MODE, 2)], 0, by decide +kernel⟩,
  ⟨st [(R.CK_REF_REF0_EN, 0)], by decide +kernel⟩,
  ⟨st [(R.NODE_MODE_MODE, 2)], .pcie, by decide +kernel⟩,
  ⟨st [(R.CK_STATUS_LOCK, 1)], .pcie, by decide +kernel⟩⟩

theorem witness_ResetKinds :
    (∃ (s : State), s.root.resetKind = none ∧ s.root.hibernate = false) ∧
    (∃ (s : State), s.root.resetKind = none ∧ s.root.hibernate = false ∧ s.root.resetN = true) ∧
    (∃ (s : State), s.root.resetKind = none ∧ s.root.hibernate = false ∧ s.root.wdogRuns = true) ∧
    (∃ (s : State), s.powered = true ∧ s.root.wdogRuns = false) ∧
    (∃ (s : State) (r : Requester) (key : BitVec 8), s.serves r.num = true ∧ key ≠ 0xC1) :=
  ⟨⟨{ st [(R.NODE_MODE_MODE, 1), (R.CK_RSTCAUSE_KIND, 3)] with
      image := some imW, root := { ClockRoot.reset with wdogRuns := true }, capture := { Capture.reset with mem := [(5, 6)] } }, by decide +kernel⟩,
  ⟨{ st [(R.NODE_MODE_MODE, 1), (R.CK_RSTCAUSE_KIND, 3)] with
      image := some imW, root := { ClockRoot.reset with wdogRuns := true }, capture := { Capture.reset with mem := [(5, 6)] } }, by decide +kernel⟩,
  ⟨{ st [(R.NODE_MODE_MODE, 1), (R.CK_RSTCAUSE_KIND, 3)] with
      image := some imW, root := { ClockRoot.reset with wdogRuns := true }, capture := { Capture.reset with mem := [(5, 6)] } }, by decide +kernel⟩,
  ⟨State.reset, by decide +kernel⟩,
  ⟨State.reset, .pcie, 0xC0, by decide +kernel⟩⟩

theorem witness_BootAndWake :
    (∃ (s : State) (kind : Nat), s.root.resetKind = some kind ∧ s.root.hibernate = false) ∧
    (∃ (s : State), s.root.resetKind = none) ∧
    (∃ (s : State), s.powered = true ∧ s.mode = 0 ∧ s.security.fwRuns = true ∧ s.safety.press = none ∧ s.get R.NODE_MODE_LATCH ≠ 1) ∧
    (∃ (s : State), s.powered = true ∧ s.mode = 0 ∧ s.security.fwRuns = true) ∧
    (∃ (s : State), s.powered = true ∧ s.mode ≠ 0) ∧
    (∃ (s : State) (n : Fin 8), s.serves (Requester.core n).num = true) ∧
    (∃ (s : State) (r : Requester) (code : BitVec 8), s.serves r.num = true ∧ (code ≠ 0x5A ∨ r.num < 2)) ∧
    (∃ (s : State), counterRuns s = true) ∧
    (∃ (s : State) (c : Nat), counterRuns s = false ∧ s.root.coarse = some c ∧ (s.root.hibernate = false ∨ s.get R.CK_WAKE_ALARM_EN ≠ 1)) ∧
    (∃ (s : State), s.root.hibernate = true) ∧
    (∃ (s : State), s.root.hibernate = true ∧ s.get R.CK_WAKE_WAKEN_EN = 1) ∧
    (∃ (s : State) (i : Fin 8), s.root.hibernate = true ∧ inWake (safetySect s) i = true) ∧
    (∃ (s : State), s.root.hibernate = false) :=
  ⟨⟨{ State.reset with root := { ClockRoot.reset with resetKind := some 4 }, security := { Security.reset with fwRuns := true } }, 4,
      by decide +kernel⟩,
  ⟨State.reset, by decide +kernel⟩,
  ⟨{ State.reset with security := { Security.reset with fwRuns := true } }, by decide +kernel⟩,
  ⟨{ State.reset with security := { Security.reset with fwRuns := true } }, by decide +kernel⟩,
  ⟨st [(R.NODE_MODE_MODE, 1)], by decide +kernel⟩,
  ⟨State.reset, 7, by decide +kernel⟩,
  ⟨State.reset, .pcie, 0x5A, by decide +kernel⟩,
  ⟨State.reset, by decide +kernel⟩,
  ⟨{ State.reset with root := { ClockRoot.reset with hibernate := true, coarse := some 5 } }, 5, by decide +kernel⟩,
  ⟨{ State.reset with root := { ClockRoot.reset with hibernate := true, coarse := some 5 } }, by decide +kernel⟩,
  ⟨{ State.reset with root := { ClockRoot.reset with hibernate := true } }, by decide +kernel⟩,
  ⟨{ State.reset with image := some { imW with safety := List.replicate 17 0 ++ [4] }, root := { ClockRoot.reset with hibernate := true } }, 0,
      by decide +kernel⟩,
  ⟨State.reset, by decide +kernel⟩⟩

theorem witness_ServoUpdates :
    (∃ (s : State) (src : Fin 4), s.powered = true ∧ steering (markUsable s (src.val + 1)) ≠ src.val + 1 ∧
        (steering (markUsable s (src.val + 1)) ≠ 0 ∧ (s.get R.POST_STATUS_SRC_ACT = steering (markUsable s (src.val + 1)) ∨
        s.get R.POST_STATUS_SRC_ACT = 0 ∨ 5 ≤ s.get R.POST_STATUS_SRC_ACT) ∨ steering (markUsable s (src.val + 1)) = 0 ∧
        (s.get R.POST_STATUS_SRC_ACT = 0 ∨ s.get R.POST_STATUS_SRC_ACT = 5) ∧ (s.get R.POST_STATUS_STATE = 0 ∨ 4 ≤ s.get R.POST_STATUS_STATE))) ∧
    (∃ (s : State) (src : Fin 4) (n : Nat), s.powered = true ∧ steering (markUsable s (src.val + 1)) = n + 1 ∧ n ≠ src.val ∧
        (1 ≤ s.get R.POST_STATUS_SRC_ACT ∧ s.get R.POST_STATUS_SRC_ACT ≤ 4)) ∧
    (∃ (s : State) (src : Fin 4) (offset : Int), s.powered = true ∧ steering (markUsable s (src.val + 1)) = src.val + 1 ∧ s.time.stopped = false ∧
        s.get R.POST_STATUS_STATE = 2 ∧ withinNs offset 100 = true ∧ s.get R.POST_CTRL_SLEW ≤ 500) ∧
    (∃ (s : State) (src : Fin 4) (offset : Int), s.powered = true ∧ steering (markUsable s (src.val + 1)) = src.val + 1 ∧ s.time.stopped = false ∧
        s.get R.POST_STATUS_STATE = 2 ∧ withinNs offset 100 = false ∧ s.time.outliers < 3) ∧
    (∃ (s : State) (src : Fin 4) (offset : Int), s.powered = true ∧ steering (markUsable s (src.val + 1)) = src.val + 1 ∧ s.time.stopped = false ∧
        s.get R.POST_STATUS_STATE = 2 ∧ withinNs offset 100 = false ∧ 3 ≤ s.time.outliers) ∧
    (∃ (s : State) (src : Fin 4) (offset : Int), s.powered = true ∧ steering (markUsable s (src.val + 1)) = src.val + 1 ∧ s.time.stopped = false ∧
        (s.get R.POST_STATUS_STATE = 0 ∨ s.get R.POST_STATUS_STATE = 1) ∧ (s.mode = 0 ∨ s.mode = 1) ∧ withinNs offset 10000 = false) :=
  ⟨⟨State.reset, 3, by decide +kernel⟩,
  ⟨{ st [(R.POST_CTRL_EN_TWIN, 1), (R.POST_STATUS_SRC_ACT, 3)] with time := { TimeBase.reset with usable := [4] } }, 2, 3, by decide +kernel⟩,
  ⟨{ st [(R.POST_STATUS_STATE, 2), (R.POST_CTRL_EN_PPS, 1)] with time := { TimeBase.reset with outliers := 2 } }, 2, -400, by decide +kernel⟩,
  ⟨{ st [(R.POST_STATUS_STATE, 2), (R.POST_CTRL_EN_PPS, 1)] with time := { TimeBase.reset with outliers := 2 } }, 2, -1000, by decide +kernel⟩,
  ⟨{ st [(R.POST_STATUS_STATE, 2), (R.POST_CTRL_EN_PPS, 1)] with time := { TimeBase.reset with outliers := 3 } }, 2, 1000, by decide +kernel⟩,
  ⟨{ st [(R.POST_CTRL_EN_PPS, 1)] with time := { TimeBase.reset with acc := 2 ^ 80 } }, 2, -100000, by decide +kernel⟩⟩

theorem witness_PpsAndHoldover :
    (∃ (s : State) (rising : Bool), s.powered = true ∧ rising = (s.get R.POST_CTRL_PPS_EDGE == 1)) ∧
    (∃ (s : State) (rising : Bool) (v : Nat), s.powered = true ∧ rising ≠ (s.get R.POST_CTRL_PPS_EDGE == 1) ∧ s.time.ppsSet = some v ∧
        s.get R.POST_STATUS_STATE = 0 ∧ (s.mode = 0 ∨ s.mode = 1) ∧ s.time.stopped = false) ∧
    (∃ (s : State) (rising : Bool) (v : Nat), s.powered = true ∧ rising ≠ (s.get R.POST_CTRL_PPS_EDGE == 1) ∧ s.time.ppsSet = some v ∧
        (s.get R.POST_STATUS_STATE ≠ 0 ∨ s.mode ≠ 0 ∧ s.mode ≠ 1)) ∧
    (∃ (s : State) (rising : Bool), s.powered = true ∧ rising ≠ (s.get R.POST_CTRL_PPS_EDGE == 1) ∧ s.time.ppsSet = none ∧
        s.get R.POST_STATUS_STATE = 0 ∧ s.get R.POST_STATUS_SRC_ACT ≠ 5) ∧
    (∃ (s : State) (rising : Bool), s.powered = true ∧ rising ≠ (s.get R.POST_CTRL_PPS_EDGE == 1) ∧ s.time.ppsSet = none ∧
        s.get R.POST_STATUS_STATE = 0 ∧ s.get R.POST_STATUS_SRC_ACT = 5 ∧ withinNs (ppsOffset s) 1000 = true ∧ steering (markUsable s 3) = 3 ∧
        s.time.stopped = false) ∧
    (∃ (s : State) (rising : Bool), s.powered = true ∧ rising ≠ (s.get R.POST_CTRL_PPS_EDGE == 1) ∧ s.time.ppsSet = none ∧
        s.get R.POST_STATUS_STATE ≠ 0 ∧ withinNs (ppsOffset s) 1000 = false ∧ 1 ≤ s.time.ppsMiss) ∧
    (∃ (s : State) (src : Fin 4), s.powered = true ∧ (steering { s with
        time := { s.time with usable := s.time.usable.filter (fun x => x != src.val + 1) } } ≠ 0 ∧ (s.get R.POST_STATUS_SRC_ACT = steering { s with
        time := { s.time with usable := s.time.usable.filter (fun x => x != src.val + 1) } } ∨ s.get R.POST_STATUS_SRC_ACT = 0 ∨
        5 ≤ s.get R.POST_STATUS_SRC_ACT) ∨ steering { s with time := { s.time with usable := s.time.usable.filter (fun x => x != src.val + 1) } } = 0 ∧
        (s.get R.POST_STATUS_SRC_ACT = 0 ∨ s.get R.POST_STATUS_SRC_ACT = 5) ∧ (s.get R.POST_STATUS_STATE = 0 ∨ 4 ≤ s.get R.POST_STATUS_STATE))) ∧
    (∃ (s : State) (src : Fin 4) (n : Nat), s.powered = true ∧ steering s = src.val + 1 ∧ steering { s with
        time := { s.time with usable := s.time.usable.filter (fun x => x != src.val + 1) } } = n + 1 ∧ (1 ≤ s.get R.POST_STATUS_SRC_ACT ∧
        s.get R.POST_STATUS_SRC_ACT ≤ 4)) ∧
    (∃ (s : State) (src : Fin 4), s.powered = true ∧ steering s = src.val + 1 ∧ steering { s with
        time := { s.time with usable := s.time.usable.filter (fun x => x != src.val + 1) } } = 0 ∧ s.get R.POST_STATUS_STATE = 2) ∧
    (∃ (s : State) (src : Fin 4), s.powered = true ∧ steering { s with
        time := { s.time with usable := s.time.usable.filter (fun x => x != src.val + 1) } } = 0 ∧ s.get R.POST_STATUS_STATE = 1 ∧
        s.time.bound = none ∧ s.get R.POST_STATUS_COARSE = 0) ∧
    (∃ (s : State), s.powered = true ∧ s.get R.POST_STATUS_STATE = 3) ∧
    (∃ (s : State), s.powered = true ∧ s.get R.POST_STATUS_STATE = 4 ∧ s.time.forced = false) ∧
    (∃ (s : State), s.powered = true ∧ s.get R.POST_STATUS_STATE ≠ 3 ∧ (s.get R.POST_STATUS_STATE = 4 → s.time.forced = true)) ∧
    (∃ (s : State), s.powered = true ∧ s.time.stopped = false ∧ s.increment ≠ 0) ∧
    (∃ (s : State), s.powered = true ∧ s.time.stopped = true) :=
  ⟨⟨State.reset, false, by decide +kernel⟩,
  ⟨{ st [] with time := { TimeBase.reset with ppsSet := some 99 } }, true, 99, by decide +kernel⟩,
  ⟨{ st [(R.POST_STATUS_STATE, 2)] with time := { TimeBase.reset with ppsSet := some 99 } }, true, 99, by decide +kernel⟩,
  ⟨State.reset, true, by decide +kernel⟩,
  ⟨{ st [(R.POST_STATUS_SRC_ACT, 5), (R.POST_CTRL_EN_PPS, 1)] with time := { TimeBase.reset with acc := 2 ^ 72 } }, true, by decide +kernel⟩,
  ⟨{ st [(R.POST_STATUS_STATE, 2)] with time := { TimeBase.reset with acc := 2 ^ 70, ppsMiss := 1, usable := [3] } }, true, by decide +kernel⟩,
  ⟨State.reset, 3, by decide +kernel⟩,
  ⟨{ st [(R.POST_CTRL_EN_PPS, 1), (R.POST_CTRL_EN_TWIN, 1), (R.POST_STATUS_SRC_ACT, 3)] with time := { TimeBase.reset with usable := [4, 3] } }, 2, 3,
      by decide +kernel⟩,
  ⟨{ st [(R.POST_CTRL_EN_PPS, 1), (R.POST_STATUS_STATE, 2)] with time := { TimeBase.reset with usable := [3] } }, 2, by decide +kernel⟩,
  ⟨{ st [(R.POST_CTRL_EN_PPS, 1), (R.POST_STATUS_STATE, 1)] with time := { TimeBase.reset with usable := [3] } }, 2, by decide +kernel⟩,
  ⟨st [(R.POST_STATUS_STATE, 3)], by decide +kernel⟩,
  ⟨st [(R.POST_STATUS_STATE, 4)], by decide +kernel⟩,
  ⟨State.reset, by decide +kernel⟩,
  ⟨State.reset, by decide +kernel⟩,
  ⟨{ st [] with time := { TimeBase.reset with stopped := true } }, by decide +kernel⟩⟩

theorem witness_SelfTests :
    (∃ (s : State) (r : Requester), s.serves r.num = true ∧ s.get R.NODE_TEST_RUNNING = 1) ∧
    (∃ (s : State) (r : Requester), s.serves r.num = true ∧ s.get R.NODE_TEST_RUNNING ≠ 1 ∧ (s.get R.NODE_MODE_QUIET = 1 ∨
        s.hidden.quietEnd = some s.cycleNo)) ∧
    (∃ (s : State) (r : Requester), s.serves r.num = true ∧ s.get R.NODE_TEST_RUNNING ≠ 1 ∧ s.get R.NODE_MODE_QUIET ≠ 1 ∧
        s.hidden.quietEnd ≠ some s.cycleNo ∧ (s.mode = 1 ∨ s.mode = 2 ∨ s.mode = 4 ∨ s.mode = 7)) ∧
    (∃ (s : State) (r : Requester), s.serves r.num = true ∧ s.get R.NODE_TEST_RUNNING ≠ 1 ∧ s.get R.NODE_MODE_QUIET ≠ 1 ∧
        s.hidden.quietEnd ≠ some s.cycleNo ∧ s.mode ≠ 1 ∧ s.mode ≠ 2 ∧ s.mode ≠ 4 ∧ s.mode ≠ 7) ∧
    (∃ (s : State) (r : Requester), s.serves r.num = true ∧ s.get R.NODE_TEST_RUNNING ≠ 1 ∧ s.get R.NODE_MODE_QUIET ≠ 1 ∧
        s.hidden.quietEnd ≠ some s.cycleNo ∧ (s.mode = 1 ∨ s.mode = 2)) ∧
    (∃ (s : State) (r : Requester), s.serves r.num = true ∧ s.get R.NODE_TEST_RUNNING ≠ 1 ∧ s.get R.NODE_MODE_QUIET ≠ 1 ∧
        s.hidden.quietEnd ≠ some s.cycleNo ∧ s.mode = 4) ∧
    (∃ (s : State) (r : Requester), s.serves r.num = true ∧ s.get R.NODE_TEST_RUNNING ≠ 1 ∧ s.get R.NODE_MODE_QUIET ≠ 1 ∧
        s.hidden.quietEnd ≠ some s.cycleNo ∧ s.mode ≠ 1 ∧ s.mode ≠ 2 ∧ s.mode ≠ 4) ∧
    (∃ (s : State) (kind since : Nat), s.powered = true ∧ s.hidden.test = some (kind, since)) ∧
    (∃ (s : State), s.powered = true ∧ s.hidden.test = none) :=
  ⟨⟨st [(R.NODE_TEST_RUNNING, 1)], .pcie, by decide +kernel⟩,
  ⟨st [(R.NODE_MODE_QUIET, 1)], .pcie, by decide +kernel⟩,
  ⟨st [(R.NODE_MODE_MODE, 7)], .pcie, by decide +kernel⟩,
  ⟨State.reset, .pcie, by decide +kernel⟩,
  ⟨st [(R.NODE_MODE_MODE, 2), (R.LEGn_CFG_ASSIGNED 95, 1)], .pcie, by decide +kernel⟩,
  ⟨st [(R.NODE_MODE_MODE, 4)], .pcie, by decide +kernel⟩,
  ⟨State.reset, .pcie, by decide +kernel⟩,
  ⟨{ State.reset with hidden := { ModeState.reset with test := some (1, 0) } }, 1, 0, by decide +kernel⟩,
  ⟨State.reset, by decide +kernel⟩⟩

theorem witness_ModeRequests :
    (∃ (s : State) (r : Requester), s.serves r.num = true ∧ s.image ≠ none ∧ dAccept s 2 ≠ 0 ∧
        s.postmark < frameStart s.fFrame (commandFrame s 2 s.postmark) ∧ dAccept s 2 ≤ 60 * 2 ^ 32 ∧ s.acceptance.length < 2048) ∧
    (∃ (s : State) (r : Requester), s.serves r.num = true ∧ s.image = none ∧ s.get R.NODE_MODE_QUIET ≠ 1 ∧ s.slots.activating = none) ∧
    (∃ (s : State) (r : Requester), s.serves r.num = true ∧ s.image = none) :=
  ⟨⟨{ State.reset with image := some imP }, .qspi, by decide +kernel⟩,
  ⟨State.reset, .pcie, by decide +kernel⟩,
  ⟨State.reset, .qspi, by decide +kernel⟩⟩

theorem witness_PowerStates :
    (∃ (s : State) (r : Requester), s.serves r.num = true ∧ s.mode = 1 ∧ s.get R.NODE_MODE_QUIET ≠ 1) ∧
    (∃ (s : State) (r : Requester), s.serves r.num = true ∧ s.mode ≠ 1 ∧ s.get R.NODE_MODE_QUIET ≠ 1) ∧
    (∃ (s : State) (r : Requester), s.serves r.num = true ∧ (s.mode = 1 ∨ s.mode = 7)) ∧
    (∃ (s : State) (r : Requester), s.serves r.num = true ∧ s.mode ≠ 1 ∧ s.mode ≠ 7) ∧
    (∃ (s : State) (r : Requester), s.serves r.num = true ∧ s.get R.NODE_MODE_QUIET = 1) ∧
    (∃ (s : State) (r : Requester), s.serves r.num = true ∧ s.get R.NODE_MODE_QUIET ≠ 1) ∧
    (∃ (s : State), s.powered = true ∧ s.hidden.power = some 2 ∧ s.image = none ∧ s.slots.activating = none ∧ s.hidden.atTick = none ∧ s.mode = 1 ∧
        s.hidden.test = none) ∧
    (∃ (s : State), s.powered = true ∧ s.hidden.power ≠ some 2) ∧
    (∃ (s : State), s.powered = true ∧ s.hidden.power = some 1 ∧ s.image = none ∧ s.slots.activating = none ∧ s.hidden.atTick = none) ∧
    (∃ (s : State), s.powered = true ∧ s.hidden.power ≠ some 1) ∧
    (∃ (s : State), s.powered = true ∧ s.hidden.power = some 3 ∧ s.get R.CK_WAKE_ALARM_EN ≠ 1 ∧ s.image = none ∧ s.slots.activating = none ∧
        s.hidden.atTick = none ∧ s.mode = 1 ∧ s.hidden.test = none) ∧
    (∃ (s : State), s.powered = true ∧ s.hidden.power ≠ some 3) ∧
    (∃ (s : State) (e : Nat), s.powered = true ∧ s.root.settle = some e ∧ (s.image = none ∨ s.mode = 5 ∨ s.mode = 7)) ∧
    (∃ (s : State) (e : Nat) (im : Image), s.powered = true ∧ s.root.settle = some e ∧ s.image = some im ∧ s.mode = 1 ∧ im.frate ≠ 0) ∧
    (∃ (s : State), s.powered = true ∧ s.root.settle = none) :=
  ⟨⟨st [(R.NODE_MODE_MODE, 1)], .pcie, by decide +kernel⟩,
  ⟨st [(R.NODE_MODE_MODE, 7)], .pcie, by decide +kernel⟩,
  ⟨st [(R.NODE_MODE_MODE, 7)], .pcie, by decide +kernel⟩,
  ⟨State.reset, .pcie, by decide +kernel⟩,
  ⟨st [(R.NODE_MODE_QUIET, 1)], .pcie, by decide +kernel⟩,
  ⟨State.reset, .pcie, by decide +kernel⟩,
  ⟨{ st [(R.NODE_MODE_MODE, 1), (R.SN_STATUS_RUN, 1)] with hidden := { ModeState.reset with power := some 2 } }, by decide +kernel⟩,
  ⟨State.reset, by decide +kernel⟩,
  ⟨{ st [(R.NODE_MODE_MODE, 1), (R.NODE_MODE_QUIET, 1)] with hidden := { ModeState.reset with power := some 1 } }, by decide +kernel⟩,
  ⟨State.reset, by decide +kernel⟩,
  ⟨{ st [(R.NODE_MODE_MODE, 1)] with hidden := { ModeState.reset with power := some 3 } }, by decide +kernel⟩,
  ⟨State.reset, by decide +kernel⟩,
  ⟨{ State.reset with root := { ClockRoot.reset with settle := some 7 } }, 7, by decide +kernel⟩,
  ⟨{ st [(R.NODE_MODE_MODE, 1)] with image := some imW, root := { ClockRoot.reset with settle := some 7 } }, 7, imW, by decide +kernel⟩,
  ⟨State.reset, by decide +kernel⟩⟩

theorem witness_FramesAndTicks :
    (∃ (s : State), s.powered = true ∧ s.image = none ∧ s.slots.activating = none) ∧
    (∃ (s : State) (im : Image) (j : Nat), s.powered = true ∧ s.image = some im ∧ s.slots.activating = none ∧ s.hidden.power = none ∧
        s.root.settle = none ∧ s.fabric.await = false ∧ s.fabric.frame = some j ∧ j < 2 ^ 64 ∧ s.capture.replay = none ∧ s.mode ≠ 6 ∧
        s.acceptance = [] ∧ s.hidden.held = []) ∧
    (∃ (s : State), s.powered = true ∧ s.slots.activating = none ∧ s.hidden.power = none ∧ s.hidden.atTick = none ∧ s.office.trays = []) ∧
    (∃ (s : State) (te : TrayEntry), s.powered = true ∧ s.slots.activating = none ∧ s.hidden.power = none ∧ s.hidden.atTick = none ∧
        s.get R.SO_STATUS_RUN ≠ 0 ∧ s.office.trays = [te] ∧ te.t ≤ trayTickPm (nextTray s) ∧ s.swUse < 448 ∧ s.freeDescs ≠ [] ∧
        s.phSoft te.env.ph < s.get (R.SO_PHp_LIMIT te.env.ph)) ∧
    (∃ (s : State) (te : TrayEntry), s.powered = true ∧ s.slots.activating = none ∧ s.hidden.power = none ∧ s.hidden.atTick = none ∧
        s.get R.SO_STATUS_RUN ≠ 0 ∧ s.office.trays = [te] ∧ te.t ≤ trayTickPm (nextTray s) ∧ s.get (R.SO_PHp_LIMIT te.env.ph) ≤ s.phSoft te.env.ph) ∧
    (∃ (s : State) (te : TrayEntry), s.powered = true ∧ s.slots.activating = none ∧ s.hidden.power = none ∧ s.hidden.atTick = none ∧
        s.office.trays = [te] ∧ trayTickPm (nextTray s) < te.t) ∧
    (∃ (s : State) (r : Requester), s.serves r.num = true) :=
  ⟨⟨State.reset, by decide +kernel⟩,
  ⟨{ st [(R.NODE_MODE_MODE, 1), (R.FAB_STATUS_RUN, 1)] with image := some imW, fabric := { Fabric.reset with frame := some (2 ^ 64 - 1) } }, imW,
      2 ^ 64 - 1, by decide +kernel⟩,
  ⟨State.reset, by decide +kernel⟩,
  ⟨{ st [(R.SO_STATUS_RUN, 1), (R.SO_PHp_LIMIT 3, 16)] with
      time := { TimeBase.reset with acc := 2 ^ 60 }, office := { Office.reset with
        trays := [⟨2, 5, 3, 70, ⟨1, 3, 5, 0, 0, 0, 0, 0, 0, false, false, false, 0, 0, [], true, none, 0⟩, false⟩] } }, ⟨2, 5, 3, 70, ⟨1, 3, 5, 0, 0,
      0, 0, 0, 0, false, false, false, 0, 0, [], true, none, 0⟩, false⟩, by decide +kernel⟩,
  ⟨{ st [(R.SO_STATUS_RUN, 1), (R.SO_PHp_LIMIT 3, 0)] with
      time := { TimeBase.reset with acc := 2 ^ 60 }, office := { Office.reset with
        trays := [⟨2, 5, 3, 70, ⟨1, 3, 5, 0, 0, 0, 0, 0, 0, false, false, false, 0, 0, [], true, none, 0⟩, false⟩] } }, ⟨2, 5, 3, 70, ⟨1, 3, 5, 0, 0,
      0, 0, 0, 0, false, false, false, 0, 0, [], true, none, 0⟩, false⟩, by decide +kernel⟩,
  ⟨{ st [(R.SO_STATUS_RUN, 1)] with
      office := { Office.reset with
        trays := [{ (⟨2, 5, 3, 70, ⟨1, 3, 5, 0, 0, 0, 0, 0, 0, false, false, false, 0, 0, [], true, none, 0⟩, false⟩ : TrayEntry) with t := 2 ^ 60 }] } },
      { (⟨2, 5, 3, 70, ⟨1, 3, 5, 0, 0, 0, 0, 0, 0, false, false, false, 0, 0, [], true, none, 0⟩, false⟩ : TrayEntry) with t := 2 ^ 60 },
      by decide +kernel⟩,
  ⟨State.reset, .pcie, by decide +kernel⟩⟩

theorem witness_FormingEvents :
    (∃ (s : State) (bridge : Fin 16) (im : Image), s.powered = true ∧ s.image = some im ∧
        (peerPasses s 0x1C bridge 0 1 2 im (sampledFrame (nodeFrameStart s)) || peerPasses s 0x1C bridge 4 0 1 im (sampledFrame (nodeFrameStart s))) = true) ∧
    (∃ (s : State), s.powered = true ∧ s.image = none) ∧
    (∃ (s : State) (bridge : Fin 16) (im : Image), s.powered = true ∧ s.image = some im ∧
        (peerPasses s 0x1C bridge 0 1 2 im (sampledFrame (nodeFrameStart s)) || peerPasses s 0x1C bridge 4 0 1 im (sampledFrame (nodeFrameStart s))) = false) ∧
    (∃ (s : State) (bridge : Fin 16) (im : Image), s.powered = true ∧ s.image = some im ∧
        ((peerPasses s 0x1C bridge 0 0 1 im (sampledFrame (nodeFrameStart s)) && peerVar (sampledFrame (nodeFrameStart s)) im 0x1C bridge 3 == 0) || peerPasses s 0x1C bridge 0 0 3 im (sampledFrame (nodeFrameStart s))) = true) ∧
    (∃ (s : State) (bridge : Fin 16) (im : Image), s.powered = true ∧ s.image = some im ∧
        ((peerPasses s 0x1C bridge 0 0 1 im (sampledFrame (nodeFrameStart s)) && peerVar (sampledFrame (nodeFrameStart s)) im 0x1C bridge 3 == 0) || peerPasses s 0x1C bridge 0 0 3 im (sampledFrame (nodeFrameStart s))) = false) ∧
    (∃ (s : State) (bridge : Fin 16) (im : Image), s.powered = true ∧ s.image = some im ∧
        ((peerHigh (sampledFrame (nodeFrameStart s)) im 0x18 bridge 2 && !peerHigh s im 0x18 bridge 2) || (peerHigh (sampledFrame (nodeFrameStart s)) im 0x18 bridge 3 && !peerHigh s im 0x18 bridge 3)) = true) ∧
    (∃ (s : State) (bridge : Fin 16) (im : Image), s.powered = true ∧ s.image = some im ∧
        ((peerHigh (sampledFrame (nodeFrameStart s)) im 0x18 bridge 2 && !peerHigh s im 0x18 bridge 2) || (peerHigh (sampledFrame (nodeFrameStart s)) im 0x18 bridge 3 && !peerHigh s im 0x18 bridge 3)) = false) ∧
    (∃ (s : State) (bridge : Fin 16) (im : Image), s.powered = true ∧ s.image = some im ∧
        ((peerHigh (sampledFrame (nodeFrameStart s)) im 0x18 bridge 4 && !peerHigh s im 0x18 bridge 4)) = true) ∧
    (∃ (s : State) (bridge : Fin 16) (im : Image), s.powered = true ∧ s.image = some im ∧
        ((peerHigh (sampledFrame (nodeFrameStart s)) im 0x18 bridge 4 && !peerHigh s im 0x18 bridge 4)) = false) ∧
    (∃ (s : State) (bridge : Fin 16) (im : Image), s.powered = true ∧ s.image = some im ∧
        peerTrips s 0x18 bridge 0x21 im (sampledFrame (nodeFrameStart s)) = true) ∧
    (∃ (s : State) (bridge : Fin 16) (im : Image), s.powered = true ∧ s.image = some im ∧
        peerTrips s 0x18 bridge 0x21 im (sampledFrame (nodeFrameStart s)) = false) ∧
    (∃ (s : State) (bridge : Fin 16) (im : Image), s.powered = true ∧ s.image = some im ∧
        peerTrips s 0x1C bridge 0x20 im (sampledFrame (nodeFrameStart s)) = true) ∧
    (∃ (s : State) (bridge : Fin 16) (im : Image), s.powered = true ∧ s.image = some im ∧
        peerTrips s 0x1C bridge 0x20 im (sampledFrame (nodeFrameStart s)) = false) ∧
    (∃ (s : State) (bridge : Fin 16) (im : Image), s.powered = true ∧ s.image = some im ∧
        peerPasses s 0x14 bridge 7 3 4 im (sampledFrame (nodeFrameStart s)) = true) ∧
    (∃ (s : State) (bridge : Fin 16) (im : Image), s.powered = true ∧ s.image = some im ∧
        peerPasses s 0x14 bridge 7 3 4 im (sampledFrame (nodeFrameStart s)) = false) ∧
    (∃ (s : State) (bridge : Fin 16) (im : Image), s.powered = true ∧ s.image = some im ∧
        peerPasses s 0x14 bridge 2 1 2 im (sampledFrame (nodeFrameStart s)) = true) ∧
    (∃ (s : State) (bridge : Fin 16) (im : Image), s.powered = true ∧ s.image = some im ∧
        peerPasses s 0x14 bridge 2 1 2 im (sampledFrame (nodeFrameStart s)) = false) ∧
    (∃ (s : State) (bridge : Fin 16) (im : Image), s.powered = true ∧ s.image = some im ∧
        peerPasses s 0x14 bridge 1 1 0 im (sampledFrame (nodeFrameStart s)) = true) ∧
    (∃ (s : State) (bridge : Fin 16) (im : Image), s.powered = true ∧ s.image = some im ∧
        peerPasses s 0x14 bridge 1 1 0 im (sampledFrame (nodeFrameStart s)) = false) :=
  ⟨⟨{ st [(R.NODE_MODE_MODE, 4), (R.FAB_STATUS_RUN, 1)] with
      image := some (oneBlock ⟨0, 0x1C, 0, 0, 0, 1, 0, [⟨1, 4, 0⟩], [0, 0, 1065353216, 0, 0, 0, 0, 0, 0, 0]⟩), fabric := { Fabric.reset with
        next := some 0, wires := [], blocks := [(0, ⟨([1] ++ List.replicate 12 0), [], [], false⟩)] } }, 0, oneBlock ⟨0, 0x1C, 0, 0, 0, 1, 0, [⟨1, 4,
      0⟩], [0, 0, 1065353216, 0, 0, 0, 0, 0, 0, 0]⟩, by decide +kernel⟩,
  ⟨State.reset, by decide +kernel⟩,
  ⟨{ State.reset with image := some imW }, 0, imW, by decide +kernel⟩,
  ⟨{ st [(R.NODE_MODE_MODE, 3), (R.FAB_STATUS_RUN, 1)] with
      image := some (oneBlock ⟨0, 0x1C, 0, 0, 0, 1, 0, [⟨1, 0, 0⟩], [0, 0, 1065353216, 0, 0, 0, 0, 0, 0, 0]⟩), fabric := { Fabric.reset with
        next := some 0, wires := [], blocks := [(0, ⟨(List.replicate 13 0), [], [], false⟩)] } }, 0, oneBlock ⟨0, 0x1C, 0, 0, 0, 1, 0, [⟨1, 0, 0⟩],
      [0, 0, 1065353216, 0, 0, 0, 0, 0, 0, 0]⟩, by decide +kernel⟩,
  ⟨{ State.reset with image := some imW }, 0, imW, by decide +kernel⟩,
  ⟨{ st [(R.NODE_MODE_MODE, 3), (R.FAB_STATUS_RUN, 1)] with
      image := some (oneBlock ⟨0, 0x18, 0, 0, 0, 1, 0, [⟨20, 10, 1⟩], ([1065353216] ++ List.replicate 15 0)⟩), fabric := { Fabric.reset with
        next := some 0, wires := [], blocks := [(0, ⟨[0, 0, 0, 0, 0, 0, 0, 0], [], [], false⟩)] } }, 0, oneBlock ⟨0, 0x18, 0, 0, 0, 1, 0, [⟨20, 10,
      1⟩], ([1065353216] ++ List.replicate 15 0)⟩, by decide +kernel⟩,
  ⟨{ State.reset with image := some imW }, 0, imW, by decide +kernel⟩,
  ⟨{ st [(R.NODE_MODE_MODE, 3), (R.FAB_STATUS_RUN, 1)] with
      image := some (oneBlock ⟨0, 0x18, 0, 0, 0, 1, 0, [⟨20, 12, 1⟩], (List.replicate 16 0)⟩), fabric := { Fabric.reset with
        next := some 0, wires := [], blocks := [(0, ⟨[0, 0, 0, 0, 0, 0, 0, 0], [], [], false⟩)] } }, 0, oneBlock ⟨0, 0x18, 0, 0, 0, 1, 0, [⟨20, 12,
      1⟩], (List.replicate 16 0)⟩, by decide +kernel⟩,
  ⟨{ State.reset with image := some imW }, 0, imW, by decide +kernel⟩,
  ⟨syncLate, 0, imSync, by decide +kernel, rfl, timeout_syncLate⟩,
  ⟨{ State.reset with image := some imW }, 0, imW, by decide +kernel⟩,
  ⟨{ st [(R.NODE_MODE_MODE, 4), (R.FAB_STATUS_RUN, 1)] with
      image := some (oneBlock ⟨0, 0x1C, 0, 0, 0, 1, 0, [⟨1, 6, 0⟩], [0, 0, 1065353216, 0, 0, 0, 0, 0, 0, 0]⟩), fabric := { Fabric.reset with
        next := some 0, wires := [], blocks := [(0, ⟨[2, 0, 0, 1, 0, 0, 0, 0, 0, 0, 0, 0, 0], [], [], false⟩)] } }, 0, oneBlock ⟨0, 0x1C, 0, 0, 0, 1,
      0, [⟨1, 6, 0⟩], [0, 0, 1065353216, 0, 0, 0, 0, 0, 0, 0]⟩, by decide +kernel⟩,
  ⟨{ State.reset with image := some imW }, 0, imW, by decide +kernel⟩,
  ⟨{ st [(R.NODE_MODE_MODE, 4), (R.FAB_STATUS_RUN, 1)] with
      image := some (oneBlock ⟨0, 0x14, 0, 0, 0, 1, 0, [⟨30, 1, 0⟩, ⟨1, 3, 0⟩], ([0, 0, 0, 0, 0, 0, 0, 0, 1065353216] ++ List.replicate 71 0)⟩),
      fabric := { Fabric.reset with
        next := some 0, wires := [(30, (0xBF800000, 1)), (31, (0, 1))], blocks := [(0, ⟨[0, 0, 0, 0, 0, 0, 0, 3, 0], [], [], false⟩)] } }, 0,
      oneBlock ⟨0, 0x14, 0, 0, 0, 1, 0, [⟨30, 1, 0⟩, ⟨1, 3, 0⟩], ([0, 0, 0, 0, 0, 0, 0, 0, 1065353216] ++ List.replicate 71 0)⟩, by decide +kernel⟩,
  ⟨{ State.reset with image := some imW }, 0, imW, by decide +kernel⟩,
  ⟨{ st [(R.NODE_MODE_MODE, 4), (R.FAB_STATUS_RUN, 1)] with
      image := some (oneBlock ⟨0, 0x14, 0, 0, 0, 1, 0, [], (List.replicate 80 0)⟩), fabric := { Fabric.reset with
        next := some 0, wires := [], blocks := [(0, ⟨[0, 1, 1, 0, 0, 0, 0, 0, 0], [], [], false⟩)] } }, 0, oneBlock ⟨0, 0x14, 0, 0, 0, 1, 0, [],
      (List.replicate 80 0)⟩, by decide +kernel⟩,
  ⟨{ State.reset with image := some imW }, 0, imW, by decide +kernel⟩,
  ⟨{ st [(R.NODE_MODE_MODE, 4), (R.FAB_STATUS_RUN, 1)] with
      image := some (oneBlock ⟨0, 0x14, 0, 0, 0, 1, 0, [], (List.replicate 80 0)⟩), fabric := { Fabric.reset with
        next := some 0, wires := [], blocks := [(0, ⟨[0, 1, 2, 0, 0, 0, 0, 0, 0], [], [], false⟩)] } }, 0, oneBlock ⟨0, 0x14, 0, 0, 0, 1, 0, [],
      (List.replicate 80 0)⟩, by decide +kernel⟩,
  ⟨{ State.reset with image := some imW }, 0, imW, by decide +kernel⟩⟩

theorem witness_BlockEventsAndTimeouts :
    (∃ (s : State) (slot : Fin 1024) (im : Image), s.powered = true ∧ s.image = some im ∧
        ((blockIn im slot).isSome && !(blkState s slot).fault && (blkState (sampledFrame (nodeFrameStart s)) slot).fault) = true) ∧
    (∃ (s : State), s.powered = true ∧ s.image = none) ∧
    (∃ (s : State) (slot : Fin 1024) (im : Image), s.powered = true ∧ s.image = some im ∧
        ((blockIn im slot).isSome && !(blkState s slot).fault && (blkState (sampledFrame (nodeFrameStart s)) slot).fault) = false) ∧
    (∃ (s : State) (slot : Fin 1024) (im : Image), s.powered = true ∧ s.image = some im ∧
        ((blockIn im slot).any (fun b => b.kind == 0x17) && f32lt 0 (nthF (blkState s slot).vars 0) && f32zero? (nthF (blkState (sampledFrame (nodeFrameStart s)) slot).vars 0)) = true) ∧
    (∃ (s : State) (slot : Fin 1024) (im : Image), s.powered = true ∧ s.image = some im ∧
        ((blockIn im slot).any (fun b => b.kind == 0x17) && f32lt 0 (nthF (blkState s slot).vars 0) && f32zero? (nthF (blkState (sampledFrame (nodeFrameStart s)) slot).vars 0)) = false) ∧
    (∃ (s : State) (im : Image), s.powered = true ∧ s.image = some im ∧ s.slots.activating = none ∧ s.hidden.power = none ∧ s.root.settle = none ∧
        s.fabric.frame = none ∧ s.fabric.await = false ∧ s.acceptance = [] ∧ s.hidden.held = [] ∧ s.mode = 3 ∧ s.fabric.readyRun < 8 ∧
        s.fabric.reinit = false ∧ s.hidden.energizeAt + usec (1000 * im.tEnergize) ≤ s.time.elapsed) ∧
    (∃ (s : State), s.powered = true ∧ s.mode ≠ 3) ∧
    (∃ (s : State) (e : Nat), s.powered = true ∧ s.hidden.stopRamp = some e) ∧
    (∃ (s : State), s.powered = true ∧ s.hidden.stopRamp = none) :=
  ⟨⟨{ st [(R.NODE_MODE_MODE, 3), (R.FAB_STATUS_RUN, 1)] with
      image := some (oneBlock ⟨0, 0x01, 0, 0, 0, 0, 0, [⟨40, 0, 0⟩], [0]⟩), fabric := { Fabric.reset with
        next := some 0, wires := [], blocks := [(0, ⟨[], [], [], false⟩)] } }, 0, oneBlock ⟨0, 0x01, 0, 0, 0, 0, 0, [⟨40, 0, 0⟩], [0]⟩,
      by decide +kernel⟩,
  ⟨State.reset, by decide +kernel⟩,
  ⟨{ State.reset with image := some imW }, 0, imW, by decide +kernel⟩,
  ⟨{ st [(R.NODE_MODE_MODE, 4), (R.FAB_STATUS_RUN, 1)] with
      image := some (oneBlock ⟨0, 0x17, 0, 0, 0, 1, 0, [], [0, 3212836864, 0, 0, 0, 0, 0, 0, 0, 0, 0, 0]⟩), fabric := { Fabric.reset with
        next := some 0, wires := [], blocks := [(0, ⟨[8388608, 0, 0, 0, 0, 0, 0, 0, 0], [], [], false⟩)] } }, 0, oneBlock ⟨0, 0x17, 0, 0, 0, 1, 0, [],
      [0, 3212836864, 0, 0, 0, 0, 0, 0, 0, 0, 0, 0]⟩, by decide +kernel⟩,
  ⟨{ State.reset with image := some imW }, 0, imW, by decide +kernel⟩,
  ⟨{ st [(R.NODE_MODE_MODE, 3)] with image := some imW, time := { TimeBase.reset with elapsed := 10 ^ 30 } }, imW, by decide +kernel⟩,
  ⟨State.reset, by decide +kernel⟩,
  ⟨{ st [(R.LEGn_CFG_ASSIGNED 95, 1)] with hidden := { ModeState.reset with stopRamp := some 7 } }, 7, by decide +kernel⟩,
  ⟨State.reset, by decide +kernel⟩⟩

theorem witness_FabricFaults :
    (∃ (s : State) (im : Image), s.powered = true ∧ s.image = some im ∧ s.get R.FAB_STATUS_RUN ≠ 0 ∧ (s.mode = 2 ∨ s.mode = 3 ∨ s.mode = 4)) ∧
    (∃ (s : State) (im : Image), s.powered = true ∧ s.image = some im ∧ s.get R.FAB_STATUS_RUN ≠ 0 ∧ s.mode = 1) ∧
    (∃ (s : State), s.powered = true ∧ (s.image = none ∨ s.get R.FAB_STATUS_RUN = 0)) ∧
    (∃ (s : State) (im : Image) (k : Nat), s.powered = true ∧ s.image = some im ∧ s.fabric.frame = some k ∧ s.get R.FAB_STATUS_RUN ≠ 0 ∧ (s.mode = 2 ∨
        s.mode = 3 ∨ s.mode = 4)) ∧
    (∃ (s : State), s.powered = true ∧ (s.image = none ∨ s.get R.FAB_STATUS_RUN = 0 ∨ s.fabric.frame = none)) ∧
    (∃ (s : State), s.powered = true ∧ (s.mode = 2 ∨ s.mode = 3 ∨ s.mode = 4)) ∧
    (∃ (s : State), s.powered = true ∧ s.mode ≠ 2 ∧ s.mode ≠ 3 ∧ s.mode ≠ 4) :=
  ⟨⟨{ st [(R.NODE_MODE_MODE, 4), (R.FAB_STATUS_RUN, 1)] with image := some imW }, imW, by decide +kernel⟩,
  ⟨{ st [(R.NODE_MODE_MODE, 1), (R.FAB_STATUS_RUN, 1)] with image := some imW }, imW, by decide +kernel⟩,
  ⟨State.reset, by decide +kernel⟩,
  ⟨{ st [(R.NODE_MODE_MODE, 4), (R.FAB_STATUS_RUN, 1)] with image := some imW, fabric := { Fabric.reset with frame := some 3 } }, imW, 3,
      by decide +kernel⟩,
  ⟨State.reset, by decide +kernel⟩,
  ⟨st [(R.NODE_MODE_MODE, 4), (R.LEGn_CFG_ASSIGNED 95, 1)], by decide +kernel⟩,
  ⟨st [(R.NODE_MODE_MODE, 1)], by decide +kernel⟩⟩

theorem witness_CommandsToTargets :
    (∃ (s : State) (c : Command), s.powered = true ∧ (c.path ≠ 2 ∨ c.t ≠ 0) ∧ c.source.toNat / 4096 = c.path ∧ dAccept s c.path ≠ 0 ∧ s.mode ≠ 6 ∧
        targetKnown s c.path c.target.toNat = true ∧ s.postmark < frameStart s.fFrame (commandFrame s c.path c.t.toNat) ∧
        c.t.toNat + dAccept s c.path ≤ s.postmark + 60 * 2 ^ 32 ∧ s.acceptance.length < 2048) ∧
    (∃ (s : State) (c : Command), s.powered = true ∧ (c.path ≠ 2 ∨ c.t ≠ 0) ∧ c.source.toNat / 4096 = c.path ∧ dAccept s c.path ≠ 0 ∧ s.mode ≠ 6 ∧
        targetKnown s c.path c.target.toNat = true ∧ frameStart s.fFrame (commandFrame s c.path c.t.toNat) ≤ s.postmark) ∧
    (∃ (s : State) (c : Command) (e : Target), s.powered = true ∧ (c.path ≠ 2 ∨ c.t ≠ 0) ∧ c.source.toNat / 4096 = c.path ∧ dAccept s c.path ≠ 0 ∧
        s.mode ≠ 6 ∧ targetKnown s c.path c.target.toNat = true ∧ s.postmark < frameStart s.fFrame (commandFrame s c.path c.t.toNat) ∧
        c.t.toNat + dAccept s c.path ≤ s.postmark + 60 * 2 ^ 32 ∧ s.acceptance.length < 2048 ∧ targetRec s c.target.toNat = some e ∧ e.kind = 0) ∧
    (∃ (s : State) (c : Command), s.powered = true ∧ (targetRec s c.target.toNat = none ∨
        (targetRec s c.target.toNat).all (fun e => e.kind != 0) = true)) ∧
    (∃ (s : State) (im : Image) (bridge : Fin 16) (p : BitVec 64) (cls : Fin 4) (r : Target), s.powered = true ∧ s.image = some im ∧
        im.targets.find? (fun x => x.kind == 1 && x.ref == bridge.val) = some r ∧ (cls ≠ 2 ∨ p ≠ 0) ∧ dAccept s cls ≠ 0 ∧ s.mode ≠ 6 ∧
        targetKnown s cls r.id = true ∧ s.postmark < frameStart s.fFrame (commandFrame s cls p.toNat) ∧
        p.toNat + dAccept s cls ≤ s.postmark + 60 * 2 ^ 32 ∧ s.acceptance.length < 2048) ∧
    (∃ (s : State) (im : Image) (bridge : Fin 16) (cls : Fin 4) (r : Target), s.powered = true ∧ s.image = some im ∧
        im.targets.find? (fun x => x.kind == 1 && x.ref == bridge.val) = some r ∧ (dAccept s cls = 0 ∨ targetKnown s cls r.id = false)) ∧
    (∃ (s : State) (bridge : Fin 16), s.powered = true ∧ (s.image = none ∨
        s.image.all (fun im => (im.targets.any (fun x => x.kind == 1 && x.ref == bridge.val)) == false) = true)) :=
  ⟨⟨{ st [(R.NODE_MODE_MODE, 4)] with
      image := some ({ imP with targets := [⟨5, 0, 0, 0, 15, 0, 1065353216⟩, ⟨6, 2, 0, 0, 15, 0, 0⟩] }), time := { TimeBase.reset with
        acc := 2 ^ 100 } }, ⟨2, 0x2000, 9, 5, 7, 2 ^ 60, []⟩, by decide +kernel⟩,
  ⟨{ st [(R.NODE_MODE_MODE, 4)] with
      image := some ({ imP with targets := [⟨5, 0, 0, 0, 15, 0, 1065353216⟩, ⟨6, 2, 0, 0, 15, 0, 0⟩] }), time := { TimeBase.reset with
        acc := 2 ^ 100 } }, ⟨2, 0x2000, 9, 5, 7, 5, []⟩, by decide +kernel⟩,
  ⟨{ st [(R.NODE_MODE_MODE, 4)] with
      image := some ({ imP with targets := [⟨5, 0, 0, 0, 15, 0, 1065353216⟩, ⟨6, 2, 0, 0, 15, 0, 0⟩] }), time := { TimeBase.reset with
        acc := 2 ^ 100 } }, ⟨2, 0x2000, 9, 5, 7, 2 ^ 60, []⟩, ⟨5, 0, 0, 0, 15, 0, 1065353216⟩, by decide +kernel⟩,
  ⟨{ st [(R.NODE_MODE_MODE, 4)] with
      image := some ({ imP with targets := [⟨5, 0, 0, 0, 15, 0, 1065353216⟩, ⟨6, 2, 0, 0, 15, 0, 0⟩] }), time := { TimeBase.reset with
        acc := 2 ^ 100 } }, ⟨2, 0x2000, 9, 6, 7, 2 ^ 60, []⟩, by decide +kernel⟩,
  ⟨{ st [(R.NODE_MODE_MODE, 4)] with
      image := some ({ imP with
        targets := [⟨9, 1, 0, 0, 15, 0, 0⟩], blocks := [⟨0, 0x1C, 0, 0, 0, 1, 0, [], [0, 0, 1065353216, 0, 0, 0, 0, 0, 0, 0]⟩] }),
      time := { TimeBase.reset with acc := 2 ^ 100 } }, { imP with
      targets := [⟨9, 1, 0, 0, 15, 0, 0⟩], blocks := [⟨0, 0x1C, 0, 0, 0, 1, 0, [], [0, 0, 1065353216, 0, 0, 0, 0, 0, 0, 0]⟩] }, 0, 2 ^ 60, 2, ⟨9, 1,
      0, 0, 15, 0, 0⟩, by decide +kernel⟩,
  ⟨{ State.reset with
      image := some ({ imP with
        targets := [⟨9, 1, 0, 0, 0, 0, 0⟩], blocks := [⟨0, 0x1C, 0, 0, 0, 1, 0, [], [0, 0, 1065353216, 0, 0, 0, 0, 0, 0, 0]⟩] }) }, { imP with
      targets := [⟨9, 1, 0, 0, 0, 0, 0⟩], blocks := [⟨0, 0x1C, 0, 0, 0, 1, 0, [], [0, 0, 1065353216, 0, 0, 0, 0, 0, 0, 0]⟩] }, 0, 2, ⟨9, 1, 0, 0, 0,
      0, 0⟩, by decide +kernel⟩,
  ⟨State.reset, 0, by decide +kernel⟩⟩

theorem witness_SafetyInputs :
    (∃ (s : State), s.powered = true) ∧
    (∃ (s : State) (input : Fin 8) (e : Nat), s.powered = true ∧ sget none s.safety.discSince input = some e ∧
        inputPlain (safetySect s) input = true ∧ inputPair s input = 2 ∧ (2, input.val) ∉ s.safety.causes ∧ s.mode ≠ 7 ∧ s.increment ≠ 0) ∧
    (∃ (s : State) (input : Fin 8), s.powered = true ∧ sget none s.safety.discSince input = none) ∧
    (∃ (s : State) (a b : Bool), s.powered = true ∧ (a = false ∨ b = false)) ∧
    (∃ (s : State) (a b : Bool), s.powered = true ∧ a = true ∧ b = true) ∧
    (∃ (s : State) (e : Nat), s.powered = true ∧ s.safety.stoSince = some e ∧ (3, 0) ∉ s.safety.causes ∧ s.mode ≠ 7 ∧ s.increment ≠ 0) ∧
    (∃ (s : State), s.powered = true ∧ s.safety.stoSince = none) ∧
    (∃ (s : State), s.powered = true ∧ isoInput (safetySect s) = none) ∧
    (∃ (s : State) (valid : Bool), s.powered = true ∧ (isoInput (safetySect s)).isSome = true ∧ (s.get R.NODE_MODE_QUIET = 1 ∨ valid = false)) ∧
    (∃ (s : State), s.powered = true ∧ (isoInput (safetySect s)).isSome = true ∧ s.get R.NODE_MODE_QUIET ≠ 1 ∧ s.safety.isoMean = none) ∧
    (∃ (s : State) (m : Int) (i : Nat), s.powered = true ∧ isoInput (safetySect s) = some i ∧ s.get R.NODE_MODE_QUIET ≠ 1 ∧
        s.safety.isoMean = some m) :=
  ⟨⟨State.reset, by decide +kernel⟩,
  ⟨{ st [(R.NODE_MODE_MODE, 1), (R.SAF_IN_LEVEL, 16)] with
      image := some ({ imW with safety := (List.replicate 32 0 ++ [1, 0, 0, 0, 0, 5]) }), safety := { Safety.reset with discSince := [(2,
                                                                                                                        some 9)] } }, 2, 9,
      by decide +kernel⟩,
  ⟨State.reset, 7, by decide +kernel⟩,
  ⟨st [(R.LEGn_CFG_ASSIGNED 95, 1)], true, false, by decide +kernel⟩,
  ⟨State.reset, true, true, by decide +kernel⟩,
  ⟨{ st [(R.NODE_MODE_MODE, 1)] with image := some (imW), safety := { Safety.reset with stoSince := some 9 } }, 9, by decide +kernel⟩,
  ⟨State.reset, by decide +kernel⟩,
  ⟨State.reset, by decide +kernel⟩,
  ⟨{ st [] with image := some ({ imW with safety := (List.replicate 40 0 ++ [6]) }), safety := { Safety.reset with isoMean := some 9 } }, false,
      by decide +kernel⟩,
  ⟨{ st [] with image := some ({ imW with safety := (List.replicate 40 0 ++ [6]) }), safety := { Safety.reset with isoMean := none } },
      by decide +kernel⟩,
  ⟨{ st [] with
      image := some ({ imW with safety := (List.replicate 40 0 ++ [6, 0, 0, 0, 0, 3, 100]) }), safety := { Safety.reset with
        isoMean := some 10, isoBelow := 1 } }, 10, 3, by decide +kernel⟩⟩

theorem witness_SafetyOutputs :
    (∃ (s : State) (r : Requester), s.serves r.num = true) ∧
    (∃ (s : State) (n : Fin 4) (output : Fin 8) (e : Nat), s.powered = true ∧ output.val = 2 * n + 0 ∧ (s.contactor n).pulseA = some e ∧
        (s.contactor n).discA = false ∧ s.safety.faults = []) ∧
    (∃ (s : State) (n : Fin 4) (output : Fin 8) (e : Nat), s.powered = true ∧ output.val = 2 * n + 1 ∧ (s.contactor n).pulseB = some e ∧
        (s.contactor n).discB = false ∧ s.safety.faults = []) ∧
    (∃ (s : State) (n : Fin 4) (output : Fin 8) (e : Nat), s.powered = true ∧ output.val = 2 * n + 0 ∧ (s.contactor n).pulseA = some e ∧
        (s.contactor n).discA = true ∧ s.safety.faults = []) ∧
    (∃ (s : State) (n : Fin 4) (output : Fin 8) (e : Nat), s.powered = true ∧ output.val = 2 * n + 1 ∧ (s.contactor n).pulseB = some e ∧
        (s.contactor n).discB = true ∧ s.safety.faults = []) ∧
    (∃ (s : State) (n : Fin 4) (output : Fin 8) (e : Nat), s.powered = true ∧ output.val = 2 * n + 0 ∧ (s.contactor n).pulseA = some e ∧
        (s.contactor n).discA = false ∧ s.safety.faults = [] ∧ (4, output.val) ∉ s.safety.causes ∧ s.mode ≠ 7) ∧
    (∃ (s : State) (n : Fin 4) (output : Fin 8) (e : Nat), s.powered = true ∧ output.val = 2 * n + 1 ∧ (s.contactor n).pulseB = some e ∧
        (s.contactor n).discB = false ∧ s.safety.faults = [] ∧ (4, output.val) ∉ s.safety.causes ∧ s.mode ≠ 7) ∧
    (∃ (s : State) (n : Fin 4) (output : Fin 8), s.powered = true ∧ n.val = output / 2 ∧ (s.contactor n).pulseA = none ∧
        (s.contactor n).pulseB = none ∧ s.safety.faults = []) ∧
    (∃ (s : State), s.powered = true ∧ drivesOuts s = false) ∧
    (∃ (s : State) (output : Fin 8), s.powered = true ∧ drivesOuts s = true ∧ (5, output.val) ∉ s.safety.causes ∧ s.mode ≠ 7) ∧
    (∃ (s : State) (contact : Fin 8) (level : Bool), s.powered = true ∧ (6,
        contact.val) ∉ faultsNew (s.put R.SAF_FB_LEVEL (setBit (s.get R.SAF_FB_LEVEL) contact level))) ∧
    (∃ (s : State) (contact : Fin 8) (level : Bool), s.powered = true ∧ (6,
        contact.val) ∈ faultsNew (s.put R.SAF_FB_LEVEL (setBit (s.get R.SAF_FB_LEVEL) contact level)) ∧ s.mode ≠ 7) ∧
    (∃ (s : State) (d : Demand), s.powered = true ∧ s.safety.demands.find? (fun x => x.react == 1 && !x.stoDone) = some d ∧ d.live = true ∧
        s.increment ≠ 0) ∧
    (∃ (s : State), s.powered = true ∧ s.safety.demands.all (fun x => x.react != 1 || x.stoDone) = true) ∧
    (∃ (s : State) (output : Fin 4) (d : Demand), s.powered = true ∧
        s.safety.demands.find? (fun x => (x.react == 2 || x.react == 3) && x.toOpen.testBit output) = some d ∧ d.live = true ∧ s.increment ≠ 0) ∧
    (∃ (s : State) (output : Fin 4), s.powered = true ∧
        s.safety.demands.all (fun x => (x.react != 2 && x.react != 3) || x.toOpen.testBit output == false) = true) ∧
    (∃ (s : State) (e i : Nat), s.powered = true ∧ s.safety.confirmed = some e ∧ plugInput (safetySect s) = some i ∧ s.increment ≠ 0) ∧
    (∃ (s : State), s.powered = true ∧ (s.safety.confirmed = none ∨ plugInput (safetySect s) = none)) :=
  ⟨⟨{ st [] with
      image := some ({ imW with safety := (List.replicate 96 0 ++ [1, 1, 100, 0, 0, 0, 10, 0, 0, 0, 4] ++ List.replicate 45 0 ++ [1]) }),
      safety := { Safety.reset with tpReq := 1 } }, .pcie, by decide +kernel⟩,
  ⟨{ st [(R.NODE_MODE_MODE, 4)] with
      image := some ({ imW with safety := (List.replicate 96 0 ++ [1, 1, 100, 0, 0, 0, 10, 0, 0, 0, 4] ++ List.replicate 45 0 ++ [1]) }),
      safety := { Safety.reset with outs := [(1, { Contactor.off with on := true, pulseA := some 5, discA := false })] } }, 1, 2, 5,
      by decide +kernel⟩,
  ⟨{ st [(R.NODE_MODE_MODE, 4)] with
      image := some ({ imW with safety := (List.replicate 96 0 ++ [1, 1, 100, 0, 0, 0, 10, 0, 0, 0, 4] ++ List.replicate 45 0 ++ [1]) }),
      safety := { Safety.reset with outs := [(1, { Contactor.off with on := true, pulseB := some 5, discB := false })] } }, 1, 3, 5,
      by decide +kernel⟩,
  ⟨{ st [(R.NODE_MODE_MODE, 4)] with
      image := some ({ imW with safety := (List.replicate 96 0 ++ [1, 1, 100, 0, 0, 0, 10, 0, 0, 0, 4] ++ List.replicate 45 0 ++ [1]) }),
      safety := { Safety.reset with outs := [(1, { Contactor.off with on := true, pulseA := some 5, discA := true })] } }, 1, 2, 5,
      by decide +kernel⟩,
  ⟨{ st [(R.NODE_MODE_MODE, 4)] with
      image := some ({ imW with safety := (List.replicate 96 0 ++ [1, 1, 100, 0, 0, 0, 10, 0, 0, 0, 4] ++ List.replicate 45 0 ++ [1]) }),
      safety := { Safety.reset with outs := [(1, { Contactor.off with on := true, pulseB := some 5, discB := true })] } }, 1, 3, 5,
      by decide +kernel⟩,
  ⟨{ st [(R.NODE_MODE_MODE, 4)] with
      image := some ({ imW with safety := (List.replicate 96 0 ++ [1, 1, 100, 0, 0, 0, 10, 0, 0, 0, 4] ++ List.replicate 45 0 ++ [1]) }),
      safety := { Safety.reset with outs := [(1, { Contactor.off with on := true, pulseA := some 5, discA := false })] } }, 1, 2, 5,
      by decide +kernel⟩,
  ⟨{ st [(R.NODE_MODE_MODE, 4)] with
      image := some ({ imW with safety := (List.replicate 96 0 ++ [1, 1, 100, 0, 0, 0, 10, 0, 0, 0, 4] ++ List.replicate 45 0 ++ [1]) }),
      safety := { Safety.reset with outs := [(1, { Contactor.off with on := true, pulseB := some 5, discB := false })] } }, 1, 3, 5,
      by decide +kernel⟩,
  ⟨State.reset, 3, 7, by decide +kernel⟩,
  ⟨st [(R.NODE_TWIN_STAT_ROLE, 3), (R.NODE_TWIN_STAT_LINK, 1)], by decide +kernel⟩,
  ⟨st [(R.NODE_MODE_MODE, 4)], 7, by decide +kernel⟩,
  ⟨State.reset, 7, true, by decide +kernel⟩,
  ⟨{ st [(R.NODE_MODE_MODE, 4)] with
      image := some ({ imW with safety := (List.replicate 96 0 ++ [1, 1, 100, 0, 0, 0, 10, 0, 0, 0, 4] ++ List.replicate 45 0 ++ [1]) }),
      safety := { Safety.reset with outs := [] }, time := { TimeBase.reset with elapsed := 2 ^ 80 } }, 2, true, by decide +kernel⟩,
  ⟨{ st [(R.NODE_MODE_MODE, 4)] with
      image := some (imW), safety := { Safety.reset with demands := [⟨.input 2, 1, 3, false, 3, 0, 9, true, false, 3⟩] } }, ⟨.input 2, 1, 3, false, 3,
      0, 9, true, false, 3⟩, by decide +kernel⟩,
  ⟨State.reset, by decide +kernel⟩,
  ⟨{ st [(R.NODE_MODE_MODE, 4)] with
      image := some (imW), safety := { Safety.reset with demands := [⟨.input 2, 2, 9, false, 3, 0, 9, true, false, 9⟩] } }, 3, ⟨.input 2, 2, 9, false,
      3, 0, 9, true, false, 9⟩, by decide +kernel⟩,
  ⟨State.reset, 3, by decide +kernel⟩,
  ⟨{ st [(R.SAF_PLUG_LOCKCMD, 1)] with
      image := some ({ imW with safety := (List.replicate 32 0 ++ [4, 0, 0, 1, 0, 0, 3]) }), safety := { Safety.reset with confirmed := some 9 } }, 9,
      2, by decide +kernel⟩,
  ⟨State.reset, by decide +kernel⟩⟩

theorem witness_RegisteredFrames :
    (∃ (s : State) (bus : Fin 6) (head : SiteHead), s.linked = true ∧ 4 ≤ bus.val ∧
        (¬ (beBytes 6 head.dst.toNat ∈ [portAddress (s.get R.NODE_IDENT_CLUSTER) (bus.val - 4) (s.get R.NODE_IDENT_NODE), siteMulticast,
        clusterMulticast (s.get R.NODE_IDENT_CLUSTER), [0x01, 0x1B, 0x19, 0, 0, 0], [0x01, 0x80, 0xC2, 0, 0, 0x0E]] ∧ head.ver = 1 ∧
        (s.get (R.LK_SPn_CFG_CLF (bus.val - 4)) = 0 ∨ head.cluster.toNat = s.get R.NODE_IDENT_CLUSTER)))) ∧
    (∃ (s : State) (bus : Fin 6) (addr : Word) (head : SiteHead), s.linked = true ∧ (bus.val < 4 ∨ headTakes s (bus.val - 4) 6 head = true) ∧
        (∀ k : Fin 16, connReceives (safetySect s) k = true → connBus (safetySect s) k = bus → connAddr (safetySect s) k ≠ addr.toNat)) ∧
    (∃ (s : State) (bus : Fin 6) (addr : Word) (frame : Bytes) (j : Fin 16) (head : SiteHead), s.linked = true ∧ (bus.val < 4 ∨
        headTakes s (bus.val - 4) 6 head = true) ∧ (connReceives (safetySect s) j = true ∧ connBus (safetySect s) j = bus ∧
        connAddr (safetySect s) j = addr.toNat ∧ (∀ k : Fin 16, k ≠ j → connReceives (safetySect s) k = true → connBus (safetySect s) k = bus →
        connAddr (safetySect s) k ≠ addr.toNat)) ∧ (frame.length < 24 + frameField frame 14 1 ∨ frameField frame 14 1 = 0 ∨
        32 < frameField frame 14 1)) ∧
    (∃ (s : State) (bus : Fin 6) (addr : Word) (frame : Bytes) (j : Fin 16) (head : SiteHead), s.linked = true ∧ (bus.val < 4 ∨
        headTakes s (bus.val - 4) 6 head = true) ∧ (connReceives (safetySect s) j = true ∧ connBus (safetySect s) j = bus ∧
        connAddr (safetySect s) j = addr.toNat ∧ (∀ k : Fin 16, k ≠ j → connReceives (safetySect s) k = true → connBus (safetySect s) k = bus →
        connAddr (safetySect s) k ≠ addr.toNat)) ∧ (24 + frameField frame 14 1 ≤ frame.length ∧ 1 ≤ frameField frame 14 1 ∧
        frameField frame 14 1 ≤ 32) ∧ connId (safetySect s) j ≠ frameField frame 0 2) ∧
    (∃ (s : State) (bus : Fin 6) (addr : Word) (frame : Bytes) (j : Fin 16) (head : SiteHead), s.linked = true ∧ (bus.val < 4 ∨
        headTakes s (bus.val - 4) 6 head = true) ∧ (connReceives (safetySect s) j = true ∧ connBus (safetySect s) j = bus ∧
        connAddr (safetySect s) j = addr.toNat ∧ (∀ k : Fin 16, k ≠ j → connReceives (safetySect s) k = true → connBus (safetySect s) k = bus →
        connAddr (safetySect s) k ≠ addr.toNat)) ∧ (24 + frameField frame 14 1 ≤ frame.length ∧ 1 ≤ frameField frame 14 1 ∧
        frameField frame 14 1 ≤ 32) ∧ connId (safetySect s) j = frameField frame 0 2 ∧
        frameField frame (16 + frameField frame 14 1) 4 ≠ crc32c (frame.take (16 + frameField frame 14 1))) ∧
    (∃ (s : State) (bus : Fin 6) (addr : Word) (frame : Bytes) (j : Fin 16) (head : SiteHead), s.linked = true ∧ (bus.val < 4 ∨
        headTakes s (bus.val - 4) 6 head = true) ∧ (connReceives (safetySect s) j = true ∧ connBus (safetySect s) j = bus ∧
        connAddr (safetySect s) j = addr.toNat ∧ (∀ k : Fin 16, k ≠ j → connReceives (safetySect s) k = true → connBus (safetySect s) k = bus →
        connAddr (safetySect s) k ≠ addr.toNat)) ∧ (24 + frameField frame 14 1 ≤ frame.length ∧ 1 ≤ frameField frame 14 1 ∧
        frameField frame 14 1 ≤ 32) ∧ connId (safetySect s) j = frameField frame 0 2 ∧
        frameField frame (16 + frameField frame 14 1) 4 = crc32c (frame.take (16 + frameField frame 14 1)) ∧
        frameField frame (20 + frameField frame 14 1) 4 ≠ crc32k (connSecret (safetySect s) j) (frame.take (16 + frameField frame 14 1))) ∧
    (∃ (s : State) (bus : Fin 6) (addr : Word) (frame : Bytes) (j : Fin 16) (head : SiteHead), s.linked = true ∧ (bus.val < 4 ∨
        headTakes s (bus.val - 4) 6 head = true) ∧ (connReceives (safetySect s) j = true ∧ connBus (safetySect s) j = bus ∧
        connAddr (safetySect s) j = addr.toNat ∧ (∀ k : Fin 16, k ≠ j → connReceives (safetySect s) k = true → connBus (safetySect s) k = bus →
        connAddr (safetySect s) k ≠ addr.toNat)) ∧ (24 + frameField frame 14 1 ≤ frame.length ∧ 1 ≤ frameField frame 14 1 ∧
        frameField frame 14 1 ≤ 32) ∧ connId (safetySect s) j = frameField frame 0 2 ∧
        frameField frame (16 + frameField frame 14 1) 4 = crc32c (frame.take (16 + frameField frame 14 1)) ∧
        frameField frame (20 + frameField frame 14 1) 4 = crc32k (connSecret (safetySect s) j) (frame.take (16 + frameField frame 14 1)) ∧
        ((frameField frame 15 1).testBit 0 = false ∧ (((frameField frame 2 2 + 65536 - (s.conn j).seq) % 65536) = 0 ∨
        connSeqwin (safetySect s) j < ((frameField frame 2 2 + 65536 - (s.conn j).seq) % 65536)))) ∧
    (∃ (s : State) (bus : Fin 6) (addr : Word) (frame : Bytes) (j : Fin 16) (head : SiteHead), s.linked = true ∧ (bus.val < 4 ∨
        headTakes s (bus.val - 4) 6 head = true) ∧ (connReceives (safetySect s) j = true ∧ connBus (safetySect s) j = bus ∧
        connAddr (safetySect s) j = addr.toNat ∧ (∀ k : Fin 16, k ≠ j → connReceives (safetySect s) k = true → connBus (safetySect s) k = bus →
        connAddr (safetySect s) k ≠ addr.toNat)) ∧ (24 + frameField frame 14 1 ≤ frame.length ∧ 1 ≤ frameField frame 14 1 ∧
        frameField frame 14 1 ≤ 32) ∧ connId (safetySect s) j = frameField frame 0 2 ∧
        frameField frame (16 + frameField frame 14 1) 4 = crc32c (frame.take (16 + frameField frame 14 1)) ∧
        frameField frame (20 + frameField frame 14 1) 4 = crc32k (connSecret (safetySect s) j) (frame.take (16 + frameField frame 14 1)) ∧
        ((frameField frame 15 1).testBit 0 = true ∨ ((frameField frame 2 2 + 65536 - (s.conn j).seq) % 65536) ≠ 0 ∧
        ((frameField frame 2 2 + 65536 - (s.conn j).seq) % 65536) ≤ connSeqwin (safetySect s) j) ∧
        frameTimeBad s j (frameField frame 4 8) (frameField frame 12 2) s.postmark = true) ∧
    (∃ (s : State) (bus : Fin 6) (addr : Word) (frame : Bytes) (j : Fin 16) (head : SiteHead), s.linked = true ∧ (bus.val < 4 ∨
        headTakes s (bus.val - 4) 6 head = true) ∧ (connReceives (safetySect s) j = true ∧ connBus (safetySect s) j = bus ∧
        connAddr (safetySect s) j = addr.toNat ∧ (∀ k : Fin 16, k ≠ j → connReceives (safetySect s) k = true → connBus (safetySect s) k = bus →
        connAddr (safetySect s) k ≠ addr.toNat)) ∧ (24 + frameField frame 14 1 ≤ frame.length ∧ 1 ≤ frameField frame 14 1 ∧
        frameField frame 14 1 ≤ 32) ∧ connId (safetySect s) j = frameField frame 0 2 ∧
        frameField frame (16 + frameField frame 14 1) 4 = crc32c (frame.take (16 + frameField frame 14 1)) ∧
        frameField frame (20 + frameField frame 14 1) 4 = crc32k (connSecret (safetySect s) j) (frame.take (16 + frameField frame 14 1)) ∧
        ((frameField frame 15 1).testBit 0 = true ∨ ((frameField frame 2 2 + 65536 - (s.conn j).seq) % 65536) ≠ 0 ∧
        ((frameField frame 2 2 + 65536 - (s.conn j).seq) % 65536) ≤ connSeqwin (safetySect s) j) ∧
        frameTimeBad s j (frameField frame 4 8) (frameField frame 12 2) s.postmark = false) ∧
    (∃ (s : State) (conn : Fin 16) (e : Nat), s.powered = true ∧ (s.conn conn).expiry = some e ∧ connReceives (safetySect s) conn = true ∧
        e < 2 ^ 63 ∧ s.time.stopped = false ∧ s.increment ≠ 0 ∧ cyclePm (cycleNext s) < 2 ^ 63 ∧ s.postmark < 2 ^ 63) ∧
    (∃ (s : State) (conn : Fin 16), s.powered = true ∧ (s.conn conn).expiry = none) ∧
    (∃ (s : State) (conn : Fin 16), s.linked = true ∧ connSends (safetySect s) conn = true) ∧
    (∃ (s : State) (conn : Fin 16), s.linked = true ∧ connSends (safetySect s) conn = false) :=
  ⟨⟨State.reset, 5, ⟨0, 0, 0, 0, 0, 0⟩, by decide +kernel⟩,
  ⟨State.reset, 3, 9, ⟨0, 0, 0, 0, 0, 0⟩, by decide +kernel⟩,
  ⟨{ st [] with
      image := some ({ imW with safety := (List.replicate 176 0 ++ [7, 0, 0, 2, 9, 0, 0, 0, 5, 0, 0, 0, 100, 0, 10, 0, 0, 2, 0, 4, 0, 0]) }),
      safety := { Safety.reset with conns := [] } }, 2, 9, [7], 0, ⟨0, 0, 0, 0, 0, 0⟩, by decide +kernel⟩,
  ⟨{ st [] with
      image := some ({ imW with safety := (List.replicate 176 0 ++ [7, 0, 0, 2, 9, 0, 0, 0, 5, 0, 0, 0, 100, 0, 10, 0, 0, 2, 0, 4, 0, 0]) }),
      safety := { Safety.reset with conns := [] } }, 2, 9, (frameBytes 8 3 4 100 1 5 [1]), 0, ⟨0, 0, 0, 0, 0, 0⟩, by decide +kernel⟩,
  ⟨{ st [] with
      image := some ({ imW with safety := (List.replicate 176 0 ++ [7, 0, 0, 2, 9, 0, 0, 0, 5, 0, 0, 0, 100, 0, 10, 0, 0, 2, 0, 4, 0, 0]) }),
      safety := { Safety.reset with conns := [] } }, 2, 9, ([7, 0, 3] ++ List.replicate 11 0 ++ [1] ++ List.replicate 10 0), 0, ⟨0, 0, 0, 0, 0, 0⟩,
      by decide +kernel⟩,
  ⟨{ st [] with
      image := some ({ imW with safety := (List.replicate 176 0 ++ [7, 0, 0, 2, 9, 0, 0, 0, 5, 0, 0, 0, 100, 0, 10, 0, 0, 2, 0, 4, 0, 0]) }),
      safety := { Safety.reset with conns := [] } }, 2, 9, (frameBytes 7 3 4 100 1 6 [1]), 0, ⟨0, 0, 0, 0, 0, 0⟩, by decide +kernel⟩,
  ⟨{ st [] with
      image := some ({ imW with safety := (List.replicate 176 0 ++ [7, 0, 0, 2, 9, 0, 0, 0, 5, 0, 0, 0, 100, 0, 10, 0, 0, 2, 0, 4, 0, 0]) }),
      safety := { Safety.reset with conns := [] } }, 2, 9, (frameBytes 7 0 4 100 0 5 [1]), 0, ⟨0, 0, 0, 0, 0, 0⟩, by decide +kernel⟩,
  ⟨{ st [] with
      image := some ({ imW with safety := (List.replicate 176 0 ++ [7, 0, 0, 2, 9, 0, 0, 0, 5, 0, 0, 0, 100, 0, 10, 0, 0, 2, 0, 4, 0, 0]) }),
      safety := { Safety.reset with conns := [(0, ⟨none, 4, 2, false, true, false⟩)] } }, 2, 9, (frameBytes 7 3 4 100 1 5 [1]), 0, ⟨0, 0, 0, 0, 0, 0⟩,
      by decide +kernel⟩,
  ⟨{ st [] with
      image := some ({ imW with safety := (List.replicate 176 0 ++ [7, 0, 0, 2, 9, 0, 0, 0, 5, 0, 0, 0, 100, 0, 10, 0, 0, 2, 0, 4, 0, 0]) }),
      safety := { Safety.reset with conns := [] } }, 2, 9, (frameBytes 7 3 4 100 1 5 [1]), 0, ⟨0, 0, 0, 0, 0, 0⟩, by decide +kernel⟩,
  ⟨{ st [] with
      image := some ({ imW with safety := (List.replicate 176 0 ++ [7, 0, 0, 2, 9, 0, 0, 0, 5, 0, 0, 0, 100, 0, 10, 0, 0, 2, 0, 4, 0, 0]) }),
      safety := { Safety.reset with conns := [(0, ⟨some 9, 4, 2, true, true, false⟩)] } }, 0, 9, by decide +kernel⟩,
  ⟨State.reset, 15, by decide +kernel⟩,
  ⟨{ st [] with
      image := some ({ imW with safety := (List.replicate 176 0 ++ [7, 0, 1, 2, 9, 0, 0, 0, 5, 0, 0, 0, 100, 0, 10, 0, 0, 0, 0, 4, 0, 0]) }),
      safety := { Safety.reset with conns := [] } }, 0, by decide +kernel⟩,
  ⟨State.reset, 15, by decide +kernel⟩⟩

theorem witness_LockoutRelease :
    (∃ (s : State), s.powered = true) ∧
    (∃ (s : State), s.powered = false) ∧
    (∃ (s : State), s.powered = true ∧ s.safety.selfRunning = true) ∧
    (∃ (s : State), s.powered = true ∧ s.safety.selfRunning = false) ∧
    (∃ (s : State) (e : Nat), s.powered = true ∧ s.safety.press = some e) ∧
    (∃ (s : State), s.powered = true ∧ s.safety.press = none) ∧
    (∃ (s : State) (e : Nat), s.powered = true ∧ s.safety.press = some e ∧ (s.since e) + usec 1 < usec 100000) ∧
    (∃ (s : State) (e : Nat), s.powered = true ∧ s.safety.press = some e ∧ usec 3000001 < (s.since e)) ∧
    (∃ (s : State) (e : Nat), s.powered = true ∧ s.safety.press = some e ∧ usec 100000 ≤ (s.since e) + usec 1 ∧ (s.since e) ≤ usec 3000001 ∧
        s.mode ≠ 7) ∧
    (∃ (s : State) (e : Nat), s.powered = true ∧ s.safety.press = some e ∧ usec 100000 ≤ (s.since e) + usec 1 ∧ (s.since e) ≤ usec 3000001 ∧
        s.mode = 7 ∧ s.safety.selfCheck = true ∧ s.safety.selfRunning = false ∧ s.safety.causes = [] ∧ s.safety.faults = [] ∧
        s.safety.stoSince = none ∧ s.safety.demands = [] ∧ s.image = none ∧ s.get R.SEC_IMG_STATUS_ACT_MARK = 0) ∧
    (∃ (s : State) (e : Nat), s.powered = true ∧ s.safety.press = some e ∧ usec 100000 ≤ (s.since e) + usec 1 ∧ (s.since e) ≤ usec 3000001 ∧
        s.mode = 7 ∧ (s.safety.selfCheck = false ∨ s.safety.selfRunning = true ∨
        s.safety.causes.any (fun c => c.1 == 4 || c.1 == 5 || c.1 == 7 || c.1 == 9) = true) ∧ s.get R.NODE_MODE_LATCH = 1) :=
  ⟨⟨st [(R.NODE_MODE_MODE, 7)], by decide +kernel⟩,
  ⟨{ State.reset with root := { ClockRoot.reset with hibernate := true } }, by decide +kernel⟩,
  ⟨{ st [] with image := some (imW), safety := { Safety.reset with selfRunning := true, causes := [(4, 1), (6, 2)] } }, by decide +kernel⟩,
  ⟨State.reset, by decide +kernel⟩,
  ⟨{ st [] with image := some (imW), safety := { Safety.reset with press := some 7 } }, 7, by decide +kernel⟩,
  ⟨State.reset, by decide +kernel⟩,
  ⟨{ st [(R.NODE_MODE_MODE, 7)] with image := some (imW), safety := { Safety.reset with press := some 0 } }, 0, by decide +kernel⟩,
  ⟨{ st [(R.NODE_MODE_MODE, 7)] with
      image := some (imW), safety := { Safety.reset with press := some 0 }, time := { TimeBase.reset with elapsed := 2 ^ 74 } }, 0,
      by decide +kernel⟩,
  ⟨{ st [(R.NODE_MODE_MODE, 1)] with
      image := some (imW), safety := { Safety.reset with press := some 0 }, time := { TimeBase.reset with elapsed := 2 ^ 72 } }, 0,
      by decide +kernel⟩,
  ⟨{ { st [(R.NODE_MODE_MODE, 7), (R.NODE_MODE_LATCH, 1)] with
        image := some (imW), safety := { Safety.reset with press := some 0, selfCheck := true }, time := { TimeBase.reset with elapsed := 2 ^ 72 } } with
      image := none }, 0, by decide +kernel⟩,
  ⟨{ st [(R.NODE_MODE_MODE, 7), (R.NODE_MODE_LATCH, 1)] with
      image := some (imW), safety := { Safety.reset with press := some 0, selfCheck := true, causes := [(7, 0)] }, time := { TimeBase.reset with
        elapsed := 2 ^ 72 } }, 0, by decide +kernel⟩⟩

theorem witness_ImageSlots :
    (∃ (s : State) (r : Requester) (slot : Fin 4), s.serves r.num = true ∧ slotBusy s r.num slot = true) ∧
    (∃ (s : State) (r : Requester) (slot : Fin 4), s.serves r.num = true ∧ slotBusy s r.num slot = false ∧ slotMarked s slot = true) ∧
    (∃ (s : State) (r : Requester) (slot : Fin 4), s.serves r.num = true ∧ slotBusy s r.num slot = false ∧ sget none s.slots.opens slot = none) ∧
    (∃ (s : State) (r : Requester) (slot : Fin 4), s.serves r.num = true ∧ slotBusy s r.num slot = false ∧ slotMarked s slot = false) ∧
    (∃ (s : State) (r : Requester) (n w : Nat), s.serves r.num = true ∧ s.slots.cur = some n ∧ sget none s.slots.opens n = some (r.num, w, false) ∧
        w < 1048576) ∧
    (∃ (s : State) (r : Requester) (n w : Nat) (o : Bool), s.serves r.num = true ∧ s.slots.cur = some n ∧ sget none s.slots.opens n = some (r.num, w,
        o) ∧ 1048576 ≤ w) ∧
    (∃ (s : State) (r : Requester), s.serves r.num = true ∧
        s.slots.cur.all (fun n => (sget none s.slots.opens n).all (fun o => o.1 != r.num)) = true) ∧
    (∃ (s : State) (r : Requester) (slot : Fin 4) (w : Nat), s.serves r.num = true ∧ slotBusy s r.num slot = false ∧
        sget none s.slots.opens slot = some (r.num, w, true)) ∧
    (∃ (s : State) (r : Requester) (slot : Fin 4) (w : Nat), s.serves r.num = true ∧ slotBusy s r.num slot = false ∧
        sget none s.slots.opens slot = some (r.num, w, false)) ∧
    (∃ (s : State) (r : Requester) (slot : Fin 4), s.serves r.num = true ∧ slotBusy s r.num slot = false ∧
        (sget none s.slots.opens slot).isSome = true) :=
  ⟨⟨st [(R.SEC_IMG_STATUS_BUSY, 1)], .pcie, 3, by decide +kernel⟩,
  ⟨st [(R.SEC_IMG_STATUS_ACT_MARK, 1), (R.SEC_IMG_STATUS_ACT_SLOT, 3)], .pcie, 3, by decide +kernel⟩,
  ⟨State.reset, .pcie, 3, by decide +kernel⟩,
  ⟨st [(R.SEC_IMG_STATUS_STATE, 0x80)], .qspi, 3, by decide +kernel⟩,
  ⟨{ st [(R.SEC_IMG_STATUS_STATE, 0x40)] with slots := ⟨[], [(3, some (1, 8, false))], some 3, none, none⟩ }, .qspi, 3, 8, by decide +kernel⟩,
  ⟨{ st [(R.SEC_IMG_STATUS_STATE, 0x40)] with slots := ⟨[], [(3, some (1, 1048576, false))], some 3, none, none⟩ }, .qspi, 3, 1048576, false,
      by decide +kernel⟩,
  ⟨State.reset, .core 7, by decide +kernel⟩,
  ⟨{ st [(R.SEC_IMG_STATUS_STATE, 0x40)] with slots := ⟨[], [(3, some (1, 8, true))], some 3, none, none⟩ }, .qspi, 3, 8, by decide +kernel⟩,
  ⟨{ st [(R.SEC_IMG_STATUS_STATE, 0x40)] with slots := ⟨[], [(3, some (1, 8, false))], some 3, none, none⟩ }, .qspi, 3, 8, by decide +kernel⟩,
  ⟨{ st [(R.SEC_IMG_STATUS_STATE, 0x40)] with slots := ⟨[], [(3, some (1, 8, false))], some 3, none, none⟩ }, .qspi, 3, by decide +kernel⟩⟩

theorem witness_ImageActivation :
    (∃ (s : State) (r : Requester) (slot : Fin 4), s.serves r.num = true ∧ slotBusy s r.num slot = false ∧ (s.mode ≠ 1 ∨
        s.get R.NODE_MODE_QUIET = 1)) ∧
    (∃ (s : State) (r : Requester) (slot : Fin 4), s.serves r.num = true ∧ slotBusy s r.num slot = false ∧ s.mode = 1 ∧ s.get R.NODE_MODE_QUIET ≠ 1 ∧
        slotState s slot ≠ 2) ∧
    (∃ (s : State) (r : Requester) (slot : Fin 4), s.serves r.num = true ∧ slotBusy s r.num slot = false ∧ s.mode = 1 ∧ s.get R.NODE_MODE_QUIET ≠ 1 ∧
        slotState s slot = 2) ∧
    (∃ (s : State) (n : Nat), s.powered = true ∧ s.slots.activating = some (n, 1) ∧ n < 4 ∧ s.image = none ∧ s.mode = 1 ∧
        s.get R.NODE_MODE_QUIET ≠ 1) ∧
    (∃ (s : State) (n : Nat), s.powered = true ∧ s.slots.activating = some (n, 1) ∧ s.image = none ∧ (s.mode ≠ 1 ∨ s.get R.NODE_MODE_QUIET = 1)) ∧
    (∃ (s : State), s.powered = true ∧ s.slots.activating.all (fun x => x.2 != 1) = true) ∧
    (∃ (s : State) (n : Nat) (im : Image), s.powered = true ∧ s.slots.activating = some (n, 3) ∧ s.slots.loading = some im ∧ s.mode = 1 ∧
        s.get R.NODE_MODE_QUIET ≠ 1 ∧ s.acceptance = [] ∧ s.hidden.held = [] ∧ s.fabric.await = false ∧ s.fabric.frame = none) ∧
    (∃ (s : State), s.powered = true ∧ (s.slots.activating.all (fun x => x.2 != 3) = true ∨ s.slots.loading = none)) :=
  ⟨⟨State.reset, .pcie, 3, by decide +kernel⟩,
  ⟨st [(R.NODE_MODE_MODE, 1)], .pcie, 3, by decide +kernel⟩,
  ⟨st [(R.NODE_MODE_MODE, 1), (R.SEC_IMG_STATUS_STATE, 0x80)], .pcie, 3, by decide +kernel⟩,
  ⟨{ st [(R.NODE_MODE_MODE, 1)] with slots := ⟨[], [], none, some (3, 1), none⟩ }, 3, by decide +kernel⟩,
  ⟨{ st [(R.NODE_MODE_MODE, 7)] with slots := ⟨[], [], none, some (3, 1), none⟩ }, 3, by decide +kernel⟩,
  ⟨State.reset, by decide +kernel⟩,
  ⟨{ st [(R.NODE_MODE_MODE, 1)] with slots := ⟨[], [], none, some (3, 3), some imW⟩ }, 3, imW, by decide +kernel⟩,
  ⟨State.reset, by decide +kernel⟩⟩

theorem witness_AxisCommands :
    (∃ (s : State) (r : Requester), s.serves r.num = true) ∧
    (∃ (s : State) (r : Requester) (axis : Fin 4), s.serves r.num = true ∧ ((s.axis axis).wasDown = false ∨ s.get (R.AXn_CFG_ENCMODE axis) ≠ 1)) ∧
    (∃ (s : State) (r : Requester) (axis : Fin 4), s.serves r.num = true ∧ (s.axis axis).wasDown = true ∧ s.get (R.AXn_CFG_ENCMODE axis) = 1) ∧
    (∃ (s : State) (r : Requester) (axis : Fin 4) (lo : Word), s.serves r.num = true ∧ (s.shadow r.num).wr = some (0x780018 + 0x1000 * axis.val,
        lo.toNat) ∧ axMode s = true) ∧
    (∃ (s : State) (r : Requester) (axis : Fin 4) (lo : Word), s.serves r.num = true ∧ (s.shadow r.num).wr = some (0x780018 + 0x1000 * axis.val,
        lo.toNat) ∧ axMode s = false) ∧
    (∃ (s : State) (r : Requester) (axis : Fin 4), s.serves r.num = true ∧ (∀ lo, (s.shadow r.num).wr ≠ some (0x780018 + 0x1000 * axis.val, lo))) ∧
    (∃ (s : State) (r : Requester) (axis : Fin 4) (positive : Bool) (lo : Word), s.serves r.num = true ∧
        (s.shadow r.num).wr = some ((if positive = true then 0x780028 else 0x780030) + 0x1000 * axis.val, lo.toNat)) ∧
    (∃ (s : State) (r : Requester) (axis : Fin 4) (positive : Bool), s.serves r.num = true ∧ (∀ lo,
        (s.shadow r.num).wr ≠ some ((if positive = true then 0x780028 else 0x780030) + 0x1000 * axis.val, lo))) :=
  ⟨⟨State.reset, .pcie, by decide +kernel⟩,
  ⟨State.reset, .pcie, 3, by decide +kernel⟩,
  ⟨{ st [(R.AXn_CFG_ENCMODE 3, 1), (R.AXn_POS_LO_W 3, 9)] with axes := [(3, { Axis.idle with wasDown := true })] }, .pcie, 3, by decide +kernel⟩,
  ⟨{ st [(R.NODE_MODE_MODE, 1)] with shadows := [(0, { Shadow.none with wr := some (0x78101C - 4 + 0x2000, 5) })] }, .pcie, 3, 5, by decide +kernel⟩,
  ⟨{ st [(R.NODE_MODE_MODE, 7)] with shadows := [(0, { Shadow.none with wr := some (0x78101C - 4 + 0x2000, 5) })] }, .pcie, 3, 5, by decide +kernel⟩,
  ⟨State.reset, .core 7, 3, by decide +kernel, fun _ => (Option.some_ne_none _).symm⟩,
  ⟨{ st [] with shadows := [(0, { Shadow.none with wr := some (0x780028 + 0x3000, 5) })] }, .pcie, 3, true, 5, by decide +kernel⟩,
  ⟨State.reset, .core 7, 3, true, by decide +kernel, fun _ => (Option.some_ne_none _).symm⟩⟩

theorem witness_AxisMotion :
    (∃ (s : State), s.powered = true) ∧
    (∃ (s : State) (axis : Fin 4), s.powered = true ∧ (s.axis axis).homing = none ∧ (s.axis axis).edge = true) ∧
    (∃ (s : State) (axis : Fin 4), s.powered = true ∧ (s.axis axis).homing = none ∧ (s.axis axis).edge = false) ∧
    (∃ (s : State) (axis : Fin 4) (h : Homing), s.powered = true ∧ (s.axis axis).homing = some h ∧ axState s axis = 3 ∧ h.armed = true) ∧
    (∃ (s : State) (axis : Fin 4) (h : Homing), s.powered = true ∧ (s.axis axis).homing = some h ∧ (axState s axis ≠ 3 ∨ h.armed = false)) ∧
    (∃ (s : State) (axis : Fin 4) (positive : Bool), s.powered = true ∧ (s.axis axis).homing = none ∧
        (s.axis axis).homed.all (fun w => w.count != s.time.count || homeAbort w.search != positive) = true ∧ axState s axis ≠ 0 ∧
        if positive = true then 0 < (s.axis axis).vel else (s.axis axis).vel < 0) ∧
    (∃ (s : State) (axis : Fin 4) (positive : Bool), s.powered = true ∧ (s.axis axis).homing = none ∧
        (s.axis axis).homed.all (fun w => w.count != s.time.count || homeAbort w.search != positive) = true ∧ (axState s axis = 0 ∨
        ¬ (if positive = true then 0 < (s.axis axis).vel else (s.axis axis).vel < 0))) ∧
    (∃ (s : State) (axis : Fin 4) (positive : Bool) (w : Homed), s.powered = true ∧ (s.axis axis).homing = none ∧ (s.axis axis).homed = some w ∧
        w.count = s.time.count ∧ homeAbort w.search = positive) ∧
    (∃ (s : State) (axis : Fin 4) (positive : Bool) (h : Homing), s.powered = true ∧ (s.axis axis).homing = some h ∧ homeAbort h = positive) ∧
    (∃ (s : State) (axis : Fin 4) (positive : Bool) (h : Homing), s.powered = true ∧ (s.axis axis).homing = some h ∧ homeAbort h ≠ positive) ∧
    (∃ (s : State) (axis : Fin 4), s.powered = true ∧ (s.axis axis).homing = none ∧ axState s axis = 0 ∧ s.get (R.AXn_CFG_ENCMODE axis) ≠ 0) ∧
    (∃ (s : State) (axis : Fin 4), s.powered = true ∧ (s.axis axis).homing = none ∧ axState s axis ≠ 0 ∧ s.get (R.AXn_CFG_ENCMODE axis) ≠ 0) ∧
    (∃ (s : State) (axis : Fin 4), s.powered = true ∧ (s.axis axis).homing.isSome = true) ∧
    (∃ (s : State) (axis : Fin 4), s.powered = true ∧ (s.get (R.AXn_LCFG_EFERR axis) ≠ 0 ∧
        s.get (R.AXn_LCFG_EFERR axis) < (axCommand s axis (s.time.count + 1) - axEnc s axis).natAbs)) ∧
    (∃ (s : State) (axis : Fin 4), s.powered = true ∧ (¬ (s.get (R.AXn_LCFG_EFERR axis) ≠ 0 ∧
        s.get (R.AXn_LCFG_EFERR axis) < (axCommand s axis (s.time.count + 1) - axEnc s axis).natAbs))) ∧
    (∃ (s : State) (axis : Fin 4), s.powered = true ∧ s.get (R.AXn_STAT_LVALID axis) ≠ 1) ∧
    (∃ (s : State) (axis : Fin 4), s.powered = true ∧ s.get (R.AXn_STAT_LVALID axis) = 1) ∧
    (∃ (s : State) (axis : Fin 4), s.powered = true ∧ s.get (R.AXn_CFG_ENCMODE axis) ≠ 2) ∧
    (∃ (s : State) (axis : Fin 4), s.powered = true ∧ s.get (R.AXn_CFG_ENCMODE axis) = 2) ∧
    (∃ (s : State) (axis : Fin 4), s.powered = true ∧ s.get (R.AXn_CFG_ENCMODE axis) ≠ 1) ∧
    (∃ (s : State) (axis : Fin 4) (a b : Bool), s.powered = true ∧ s.get (R.AXn_CFG_ENCMODE axis) = 1 ∧
        (a != (s.axis axis).encA && b != (s.axis axis).encB) = true) ∧
    (∃ (s : State) (axis : Fin 4) (a b : Bool), s.powered = true ∧ s.get (R.AXn_CFG_ENCMODE axis) = 1 ∧
        (a != (s.axis axis).encA && b != (s.axis axis).encB) = false) :=
  ⟨⟨{ st [(R.NODE_MODE_MODE, 1), (R.AXn_STAT_STATE 1, 4), (R.AXn_ASTOP_A 1, 10), (R.AXn_STAT_STATE 2, 1), (R.AXn_VMAX_V 2, 1000), (R.AXn_AMAX_A 2,
        5000), (R.AXn_JMAX_J 2, 500)] with
      axes := [(0, { Axis.idle with req := { AxReq.none with target := some 9 } }), (1, { Axis.idle with vel := 2 ^ 50 }), (2, { Axis.idle with
        target := some 50 })] }, by decide +kernel⟩,
  ⟨{ st [] with axes := [(3, { Axis.idle with edge := true })] }, 3, by decide +kernel⟩,
  ⟨State.reset, 3, by decide +kernel⟩,
  ⟨{ st [(R.AXn_STAT_STATE 3, 3), (R.AXn_HOFS_LO_W 3, 77)] with axes := [(3, { Axis.idle with homing := some { method := 1, armed := true } })] }, 3,
      { method := 1, armed := true }, by decide +kernel⟩,
  ⟨{ st [] with axes := [(3, { Axis.idle with homing := some { method := 1, armed := true } })] }, 3, { method := 1, armed := true },
      by decide +kernel⟩,
  ⟨{ st [(R.AXn_STAT_STATE 3, 1)] with axes := [(3, { Axis.idle with vel := 9 })] }, 3, true, by decide +kernel⟩,
  ⟨State.reset, 3, true, by decide +kernel⟩,
  ⟨{ st [(R.AXn_STAT_STATE 3, 2), (R.AXn_STAT_HOMED 3, 1)] with
      axes := [(3, { Axis.idle with homed := some ⟨0, 5, { method := 1, armed := true }, 1⟩, vel := 7 })] }, 3, true, ⟨0, 5, { method := 1,
                                                                                                                               armed := true }, 1⟩,
      by decide +kernel⟩,
  ⟨{ st [(R.AXn_STAT_STATE 3, 3)] with axes := [(3, { Axis.idle with homing := some { method := 1, armed := true }, vel := 7 })] }, 3, true,
      { method := 1, armed := true }, by decide +kernel⟩,
  ⟨{ st [(R.AXn_STAT_STATE 3, 3)] with axes := [(3, { Axis.idle with homing := some { method := 1, armed := true }, vel := 7 })] }, 3, false,
      { method := 1, armed := true }, by decide +kernel⟩,
  ⟨st [(R.AXn_CFG_ENCMODE 3, 1)], 3, by decide +kernel⟩,
  ⟨{ st [(R.AXn_STAT_STATE 3, 1), (R.AXn_CFG_ENCMODE 3, 2)] with axes := [(3, { Axis.idle with vel := 7 })] }, 3, by decide +kernel⟩,
  ⟨{ st [(R.AXn_STAT_STATE 3, 3)] with axes := [(3, { Axis.idle with homing := some { method := 1, armed := true }, vel := 7 })] }, 3,
      by decide +kernel⟩,
  ⟨{ st [(R.AXn_STAT_STATE 3, 1), (R.AXn_LCFG_EFERR 3, 5), (R.AXn_POS_LO_W 3, 9)] with axes := [(3, { Axis.idle with vel := 9 })] }, 3,
      by decide +kernel⟩,
  ⟨State.reset, 3, by decide +kernel⟩,
  ⟨st [(R.AXn_POS_HI_W 3, 0x8000)], 3, by decide +kernel⟩,
  ⟨st [(R.AXn_STAT_LVALID 3, 1)], 3, by decide +kernel⟩,
  ⟨State.reset, 3, by decide +kernel⟩,
  ⟨{ st [(R.AXn_CFG_ENCMODE 3, 2), (R.AXn_CFG_EGRAY 3, 1)] with axes := [(3, { Axis.idle with wasDown := true })] }, 3, by decide +kernel⟩,
  ⟨State.reset, 3, by decide +kernel⟩,
  ⟨st [(R.AXn_CFG_ENCMODE 3, 1)], 3, true, true, by decide +kernel⟩,
  ⟨st [(R.AXn_CFG_ENCMODE 3, 1)], 3, false, true, by decide +kernel⟩⟩

theorem witness_HealthCommands :
    (∃ (s : State), s.powered = true) ∧
    (∃ (s : State), s.powered = true ∧ s.get R.NODE_MODE_QUIET ≠ 1) ∧
    (∃ (s : State), s.powered = true ∧ s.get R.NODE_MODE_QUIET = 1) ∧
    (∃ (s : State) (part : Fin 6), s.powered = true ∧ sget 0 s.health.due part ≠ 0) ∧
    (∃ (s : State) (part : Fin 6), s.powered = true ∧ sget 0 s.health.due part = 0) ∧
    (∃ (s : State) (link : Fin 4) (samples : List (Int × Int)) (o : Nat) (w : Nat × Nat), s.powered = true ∧ dcModel (healthSect s) link = some o ∧
        s.mode ≠ 6 ∧ fitWindow (healthSect s) o s.fFrame samples = some w) ∧
    (∃ (s : State) (link : Fin 4) (samples : List (Int × Int)), s.powered = true ∧ (s.mode = 6 ∨
        (dcModel (healthSect s) link).all (fun o => (fitWindow (healthSect s) o s.fFrame samples).isNone) = true)) ∧
    (∃ (s : State) (r : Requester), s.serves r.num = true) :=
  ⟨⟨State.reset, by decide +kernel⟩,
  ⟨{ st [] with
      health := { Health.reset with hc := 2 ^ 50, rT := some 77 }, image := some { imW with health := ([1, 0, 0, 0, 3] ++ List.replicate 59 0) } },
      by decide +kernel⟩,
  ⟨st [(R.NODE_MODE_QUIET, 1)], by decide +kernel⟩,
  ⟨{ st [] with health := { Health.reset with due := [(5, 9)], retention := [(5, 2 ^ 79)] } }, 5, by decide +kernel⟩,
  ⟨State.reset, 5, by decide +kernel⟩,
  ⟨{ State.reset with image := some ({ imW with health := ([0, 1] ++ List.replicate 31 0 ++ [2]) }) }, 2, [(0, 0), (3, 1), (2, 0), (8, 2)], 32,
      ((fitWindow ({ imW with health := ([0, 1] ++ List.replicate 31 0 ++ [2]) }).health 32 4000 [(0, 0), (3, 1), (2, 0), (8, 2)]).getD (0, 0)),
      by decide +kernel⟩,
  ⟨State.reset, 2, [], by decide +kernel⟩,
  ⟨State.reset, .pcie, by decide +kernel⟩⟩

theorem witness_TwinRoles :
    (∃ (s : State) (r : Requester), s.serves r.num = true ∧ s.role = 4 ∧ s.linkUp = true ∧ partnerRole s = 3 ∧ s.twin.quiet ≤ 1) ∧
    (∃ (s : State) (r : Requester), s.serves r.num = true ∧ (s.role ≠ 4 ∨ s.linkUp = false ∨ partnerRole s ≠ 3 ∨ 2 ≤ s.twin.quiet)) ∧
    (∃ (s : State), s.linked = true ∧ s.role = 3 ∧ s.linkUp = true ∧ s.get R.NODE_TWIN_STAT_DIVERGED = 0 ∧ safetyPermits s = true) ∧
    (∃ (s : State), s.linked = true ∧ (s.role ≠ 3 ∨ s.linkUp = false ∨ s.get R.NODE_TWIN_STAT_DIVERGED ≠ 0)) ∧
    (∃ (s : State), s.powered = true ∧ s.linkUp = true ∧ 3 ≤ s.twin.quiet) ∧
    (∃ (s : State), s.powered = true ∧ (s.linkUp = false ∨ s.twin.quiet < 3)) ∧
    (∃ (s : State) (p : Partner), s.linked = true ∧ s.linkUp = false ∧ s.get R.NODE_IDENT_TWIN ≠ 0 ∧ s.twin.partner = some p) ∧
    (∃ (s : State), s.linked = true ∧ (s.linkUp = true ∨ s.get R.NODE_IDENT_TWIN = 0 ∨ s.twin.partner = none)) ∧
    (∃ (s : State), s.linked = true ∧ s.get R.NODE_IDENT_TWIN ≠ 0 ∧ s.get R.NODE_IDENT_PROV ≠ 0 ∧ s.get R.SEC_STATUS_DXK ≠ 0 ∧
        s.get R.SEC_STATUS_RNGFAIL ≠ 1) ∧
    (∃ (s : State), s.linked = true ∧ (s.get R.NODE_IDENT_TWIN = 0 ∨ s.get R.NODE_IDENT_PROV = 0 ∨ s.get R.SEC_STATUS_DXK = 0 ∨
        s.get R.SEC_STATUS_RNGFAIL = 1)) ∧
    (∃ (s : State), s.powered = true ∧ s.role = 3 ∧ s.linkUp = false) ∧
    (∃ (s : State), s.powered = true ∧ (s.role ≠ 3 ∨ s.linkUp = true)) ∧
    (∃ (s : State) (r : Requester), s.serves r.num = true ∧ s.role = 1 ∧ s.linkUp = false) ∧
    (∃ (s : State) (r : Requester), s.serves r.num = true ∧ (s.role ≠ 1 ∨ s.linkUp = true)) ∧
    (∃ (s : State) (r : Requester), s.serves r.num = true ∧ s.role = 5 ∧ s.linkUp = true ∧ s.mode ≠ 5 ∧ s.mode ≠ 7 ∧ s.get R.FAB_STATUS_FAULT = 0) ∧
    (∃ (s : State) (r : Requester), s.serves r.num = true ∧ (s.role ≠ 5 ∨ s.linkUp = false ∨ s.mode = 5 ∨ s.mode = 7 ∨
        s.get R.FAB_STATUS_FAULT ≠ 0)) ∧
    (∃ (s : State), s.powered = true ∧ s.role = 2 ∧ s.twin.loaded = true ∧ 64 ≤ s.twin.matches_) ∧
    (∃ (s : State), s.powered = true ∧ (s.role ≠ 2 ∨ s.twin.loaded = false ∨ s.twin.matches_ < 64)) ∧
    (∃ (s : State), s.linked = true ∧ s.twin.arb = none) ∧
    (∃ (s : State) (j : Nat), s.linked = true ∧ s.twin.arb = some j ∧ s.role = 4) ∧
    (∃ (s : State) (j : Nat), s.linked = true ∧ s.twin.arb = some j ∧ s.role = 4 ∧ s.get R.NODE_TWIN_CFG_MISMATCH ≠ 1) ∧
    (∃ (s : State) (j : Nat) (im : Image), s.linked = true ∧ s.twin.arb = some j ∧ s.role = 4 ∧ s.twin.keep = false ∧ s.image = some im ∧
        s.get R.FAB_STATUS_RUN ≠ 0 ∧ s.mode = 4) ∧
    (∃ (s : State) (j : Nat), s.linked = true ∧ s.twin.arb = some j ∧ s.role = 3) :=
  ⟨⟨{ st [(R.NODE_TWIN_STAT_ROLE, 4), (R.NODE_TWIN_STAT_LINK, 1)] with
      twin := { Twin.reset with partner := some ⟨0x00100009, 1, 1, [], 3, true⟩ } }, .pcie, by decide +kernel⟩,
  ⟨State.reset, .pcie, by decide +kernel⟩,
  ⟨{ st [(R.NODE_TWIN_STAT_ROLE, 3), (R.NODE_TWIN_STAT_LINK, 1)] with
      twin := { Twin.reset with partner := some ⟨0x00100009, 1, 1, [], 3, true⟩, held := [(7, [1, 2])] } }, by decide +kernel⟩,
  ⟨State.reset, by decide +kernel⟩,
  ⟨{ st [(R.NODE_TWIN_STAT_ROLE, 3), (R.NODE_TWIN_STAT_LINK, 1)] with
      twin := { Twin.reset with quiet := 3, arb := some 7, mirrors := [(3, 0, [1])] } }, by decide +kernel⟩,
  ⟨State.reset, by decide +kernel⟩,
  ⟨{ st [(R.NODE_TWIN_STAT_ROLE, 1), (R.NODE_TWIN_STAT_LINK, 0), (R.NODE_IDENT_TWIN, 1), (R.NODE_IDENT_PROV, 1), (R.SEC_STATUS_DXK, 1),
        (R.NODE_IDENT_NODE, 5)] with
      twin := { Twin.reset with partner := some ⟨0x00100009, 1, 1, [], 1, true⟩ }, image := some imW }, ⟨0x00100009, 1, 1, [], 1, true⟩,
      by decide +kernel⟩,
  ⟨State.reset, by decide +kernel⟩,
  ⟨{ st [(R.NODE_TWIN_STAT_ROLE, 1), (R.NODE_TWIN_STAT_LINK, 0), (R.NODE_IDENT_TWIN, 1), (R.NODE_IDENT_PROV, 1), (R.SEC_STATUS_DXK, 1),
        (R.NODE_IDENT_NODE, 5)] with
      image := some imW }, by decide +kernel⟩,
  ⟨State.reset, by decide +kernel⟩,
  ⟨{ st [(R.NODE_TWIN_STAT_ROLE, 3), (R.NODE_TWIN_STAT_LINK, 0)] with twin := { Twin.reset with held := [(7, [1, 2])] } }, by decide +kernel⟩,
  ⟨State.reset, by decide +kernel⟩,
  ⟨st [(R.NODE_TWIN_STAT_ROLE, 1), (R.NODE_TWIN_STAT_LINK, 0)], .pcie, by decide +kernel⟩,
  ⟨State.reset, .pcie, by decide +kernel⟩,
  ⟨st [(R.NODE_TWIN_STAT_ROLE, 5), (R.NODE_TWIN_STAT_LINK, 1)], .pcie, by decide +kernel⟩,
  ⟨State.reset, .pcie, by decide +kernel⟩,
  ⟨{ st [(R.NODE_TWIN_STAT_ROLE, 2), (R.NODE_TWIN_STAT_LINK, 1)] with twin := { Twin.reset with loaded := true, matches_ := 64 } },
      by decide +kernel⟩,
  ⟨State.reset, by decide +kernel⟩,
  ⟨State.reset, by decide +kernel⟩,
  ⟨{ st [(R.NODE_TWIN_STAT_ROLE, 4), (R.NODE_TWIN_STAT_LINK, 1)] with
      twin := { Twin.reset with arb := some 7, partner := some ⟨0x00100009, 1, 1, [], 3, true⟩ } }, 7, by decide +kernel⟩,
  ⟨{ st [(R.NODE_TWIN_STAT_ROLE, 4), (R.NODE_TWIN_STAT_LINK, 1)] with
      twin := { Twin.reset with arb := some 7, partner := some ⟨0x00100009, 1, 1, [], 3, true⟩ } }, 7, by decide +kernel⟩,
  ⟨{ st [(R.NODE_TWIN_STAT_ROLE, 4), (R.NODE_TWIN_STAT_LINK, 1), (R.NODE_MODE_MODE, 4), (R.FAB_STATUS_RUN, 1)] with
      twin := { Twin.reset with arb := some 7, partner := some ⟨0x00100009, 1, 1, [], 3, true⟩ }, image := some imW }, 7, imW, by decide +kernel⟩,
  ⟨{ st [(R.NODE_TWIN_STAT_ROLE, 3), (R.NODE_TWIN_STAT_LINK, 1)] with
      twin := { Twin.reset with arb := some 7, partner := some ⟨0x00100009, 1, 1, [], 3, true⟩ } }, 7, by decide +kernel⟩⟩

theorem witness_TwinMessages :
    (∃ (s : State), s.linked = true ∧ (s.image = none ∨ listens s = false)) ∧
    (∃ (s : State) (b : Bundle) (im : Image), s.linked = true ∧ s.image = some im ∧ listens s = true ∧ (cmdsOf s b.k).length < b.ncmd) ∧
    (∃ (s : State) (b : Bundle) (im : Image), s.linked = true ∧ s.image = some im ∧ s.role = 2 ∧ s.linkUp = true ∧ b.ncmd ≤ (cmdsOf s b.k).length ∧
        s.twin.loaded = false ∧ s.twin.buffered.length < 4096) ∧
    (∃ (s : State) (b : Bundle) (im : Image), s.linked = true ∧ s.image = some im ∧ (s.role = 5 ∨ s.role = 3 ∧ s.get R.NODE_TWIN_STAT_DIVERGED ≠ 1) ∧
        s.linkUp = true ∧ b.ncmd ≤ (cmdsOf s b.k).length ∧ frameStart im.frate b.k + 8590 < s.postmark) ∧
    (∃ (s : State) (b : Bundle) (im : Image), s.linked = true ∧ s.image = some im ∧ (s.role = 5 ∨ s.role = 3 ∧ s.get R.NODE_TWIN_STAT_DIVERGED ≠ 1) ∧
        s.linkUp = true ∧ b.ncmd = 0 ∧ cmdsOf s b.k = [] ∧ s.hidden.held = [] ∧ s.fabric.await = true ∧ s.fabric.frame = some b.k ∧
        ¬ frameStart im.frate b.k + 8590 < s.postmark) ∧
    (∃ (s : State) (b : Bundle) (im : Image), s.linked = true ∧ s.image = some im ∧ s.role = 3 ∧ s.get R.NODE_TWIN_STAT_DIVERGED = 1 ∧
        s.linkUp = true ∧ b.ncmd ≤ (cmdsOf s b.k).length) ∧
    (∃ (s : State), s.linked = true ∧ s.image ≠ none ∧ listens s = true ∧ s.twin.bundle.all (fun b => (cmdsOf s b.k).length + 1 < b.ncmd) = true) ∧
    (∃ (s : State) (k : Nat) (b : Bundle), s.linked = true ∧ s.image ≠ none ∧ s.role = 2 ∧ s.linkUp = true ∧ s.twin.bundle = some b ∧ b.k = k ∧
        b.ncmd ≤ (cmdsOf s k).length + 1 ∧ s.twin.loaded = false ∧ s.twin.buffered.length < 4096) ∧
    (∃ (s : State), s.powered = true ∧ (s.image = none ∨ s.fabric.frame = none ∨ s.fabric.await = false)) ∧
    (∃ (s : State) (im : Image) (k : Nat), s.powered = true ∧ s.image = some im ∧ s.fabric.frame = some k ∧ s.fabric.await = true ∧
        s.fabric.written = []) ∧
    (∃ (s : State), s.linked = true ∧ (s.role ≠ 4 ∨ s.linkUp = false)) ∧
    (∃ (s : State) (k : Nat) (h : BitVec 64), s.linked = true ∧ s.role = 4 ∧ s.linkUp = true ∧ h ≠ 0 ∧ s.twin.ownHash = some (k, h.toNat) ∧
        s.twin.comparable = true ∧ partnerRole s ≠ 5 ∧ (partnerRole s ≠ 2 ∨ s.twin.matches_ < 63) ∧ s.get R.NODE_TWIN_STAT_DIVERGED ≠ 1) ∧
    (∃ (s : State) (k : Nat) (h : BitVec 64), s.linked = true ∧ s.role = 4 ∧ s.linkUp = true ∧ h ≠ 0 ∧ s.twin.ownHash = some (k, h.toNat) ∧
        s.twin.comparable = true ∧ partnerRole s = 2 ∧ 63 ≤ s.twin.matches_ ∧ s.get R.NODE_TWIN_STAT_DIVERGED ≠ 1) ∧
    (∃ (s : State) (k : Nat) (h : BitVec 64) (own : Nat), s.linked = true ∧ s.role = 4 ∧ s.linkUp = true ∧ h ≠ 0 ∧ s.twin.ownHash = some (k, own) ∧
        own ≠ h.toNat ∧ s.twin.comparable = true ∧ partnerRole s = 3 ∧ s.get R.NODE_TWIN_STAT_DIVERGED ≠ 1 ∧ k < 2 ^ 64) ∧
    (∃ (s : State), s.linked = true ∧ s.linkUp = false) ∧
    (∃ (s : State), s.linked = true ∧ s.linkUp = true ∧ steering (markUsable s 4) ≠ 4) ∧
    (∃ (s : State) (offset : Int), s.linked = true ∧ s.linkUp = true ∧ steering (markUsable s 4) = 4 ∧ s.time.stopped = false ∧
        s.get R.POST_STATUS_STATE = 2 ∧ withinNs offset 100 = true) ∧
    (∃ (s : State) (c : Command), s.linked = true ∧ s.role = 4 ∧ s.linkUp = true ∧ (c.path ≠ 2 ∨ c.t ≠ 0) ∧ c.source.toNat / 4096 = c.path ∧
        dAccept s c.path ≠ 0 ∧ s.mode ≠ 6 ∧ targetKnown s c.path c.target.toNat = true ∧
        s.postmark < frameStart s.fFrame (commandFrame s c.path c.t.toNat) ∧ c.t.toNat + dAccept s c.path ≤ s.postmark + 60 * 2 ^ 32 ∧
        s.acceptance.length < 2048) ∧
    (∃ (s : State), s.linked = true ∧ (s.linkUp = false ∨ s.role = 4)) ∧
    (∃ (s : State), s.linked = true ∧ s.linkUp = true ∧ s.role ≠ 4) ∧
    (∃ (s : State) (seq : BitVec 48), s.powered = true ∧ (∀ e ∈ s.twin.mirrors, e.1 ≠ seq.toNat)) ∧
    (∃ (s : State) (seq : BitVec 48) (e : Nat × Nat × Bytes), s.powered = true ∧ s.twin.mirrors.find? (fun x => x.1 == seq.toNat) = some e) ∧
    (∃ (s : State) (seq : BitVec 48), s.linked = true ∧ (∀ e ∈ s.twin.mirrors, e.1 ≠ seq.toNat)) ∧
    (∃ (s : State) (seq : BitVec 48) (e : Nat × Nat × Bytes), s.linked = true ∧ s.twin.mirrors.find? (fun x => x.1 == seq.toNat) = some e) ∧
    (∃ (s : State), s.powered = true ∧ (s.image = none ∨ s.role ≠ 4 ∨ s.linkUp = false)) ∧
    (∃ (s : State) (im : Image), s.powered = true ∧ s.image = some im ∧ s.role = 4 ∧ s.linkUp = true) ∧
    (∃ (s : State), s.linked = true ∧ (s.image = none ∨ s.role ≠ 2 ∨ s.linkUp = false ∨ s.twin.loaded = true)) ∧
    (∃ (s : State) (im : Image), s.linked = true ∧ s.image = some im ∧ s.role = 2 ∧ s.linkUp = true ∧ s.twin.loaded = false ∧ s.twin.buffered = []) ∧
    (∃ (s : State), s.powered = true ∧ (s.role ≠ 3 ∨ s.get R.NODE_TWIN_CHK_TEST = 0)) ∧
    (∃ (s : State), s.powered = true ∧ s.role = 3 ∧ s.get R.NODE_TWIN_CHK_TEST ≠ 0 ∧ s.get R.NODE_TEST_RUNNING ≠ 1 ∧ s.get R.NODE_MODE_QUIET ≠ 1 ∧
        s.hidden.quietEnd ≠ some s.cycleNo ∧ (s.mode = 1 ∨ s.mode = 2 ∨ s.mode = 4 ∨ s.mode = 7)) :=
  ⟨⟨State.reset, by decide +kernel⟩,
  ⟨{ st [(R.NODE_TWIN_STAT_ROLE, 3), (R.NODE_TWIN_STAT_LINK, 1)] with image := some imW }, ⟨9, 5, 0, 0, 2, [], []⟩, imW, by decide +kernel⟩,
  ⟨{ st [(R.NODE_TWIN_STAT_ROLE, 2), (R.NODE_TWIN_STAT_LINK, 1)] with image := some imW }, ⟨9, 5, 0, 0, 0, [], []⟩, imW, by decide +kernel⟩,
  ⟨{ st [(R.NODE_TWIN_STAT_ROLE, 3), (R.NODE_TWIN_STAT_LINK, 1)] with image := some imW, time := { TimeBase.reset with acc := 2 ^ 80 } }, ⟨9, 5, 0, 0,
      0, [], []⟩, imW, by decide +kernel⟩,
  ⟨{ { st [(R.NODE_TWIN_STAT_ROLE, 3), (R.NODE_TWIN_STAT_LINK, 1)] with twin := { Twin.reset with ownHash := some (8, 5) }, image := some imW } with
      fabric := { Fabric.reset with await := true, frame := some 9 } }, ⟨9, 5, 0, 0, 0, [], []⟩, imW, by decide +kernel⟩,
  ⟨{ st [(R.NODE_TWIN_STAT_ROLE, 3), (R.NODE_TWIN_STAT_LINK, 1), (R.NODE_TWIN_STAT_DIVERGED, 1)] with image := some imW }, ⟨9, 5, 0, 0, 0, [], []⟩,
      imW, by decide +kernel⟩,
  ⟨{ st [(R.NODE_TWIN_STAT_ROLE, 3), (R.NODE_TWIN_STAT_LINK, 1)] with image := some imW }, by decide +kernel⟩,
  ⟨{ st [(R.NODE_TWIN_STAT_ROLE, 2), (R.NODE_TWIN_STAT_LINK, 1)] with
      twin := { Twin.reset with bundle := some ⟨9, 5, 0, 0, 1, [], []⟩ }, image := some imW }, 9, ⟨9, 5, 0, 0, 1, [], []⟩, by decide +kernel⟩,
  ⟨State.reset, by decide +kernel⟩,
  ⟨{ st [(R.NODE_TWIN_STAT_ROLE, 3), (R.NODE_TWIN_STAT_LINK, 1)] with
      image := some imW, fabric := { Fabric.reset with await := true, frame := some 9 } }, imW, 9, by decide +kernel⟩,
  ⟨State.reset, by decide +kernel⟩,
  ⟨{ st [(R.NODE_TWIN_STAT_ROLE, 4), (R.NODE_TWIN_STAT_LINK, 1)] with twin := { Twin.reset with ownHash := some (9, 7), comparable := true } }, 9, 7,
      by decide +kernel⟩,
  ⟨{ st [(R.NODE_TWIN_STAT_ROLE, 4), (R.NODE_TWIN_STAT_LINK, 1)] with
      twin := { Twin.reset with ownHash := some (9, 7), comparable := true, matches_ := 63, partner := some ⟨0x00100009, 1, 1, [], 2, true⟩ } }, 9, 7,
      by decide +kernel⟩,
  ⟨{ st [(R.NODE_TWIN_STAT_ROLE, 4), (R.NODE_TWIN_STAT_LINK, 1)] with
      twin := { Twin.reset with ownHash := some (9, 8), comparable := true, partner := some ⟨0x00100009, 1, 1, [], 3, true⟩ } }, 9, 7, 8,
      by decide +kernel⟩,
  ⟨State.reset, by decide +kernel⟩,
  ⟨st [(R.NODE_TWIN_STAT_ROLE, 3), (R.NODE_TWIN_STAT_LINK, 1)], by decide +kernel⟩,
  ⟨st [(R.NODE_TWIN_STAT_ROLE, 3), (R.NODE_TWIN_STAT_LINK, 1), (R.POST_STATUS_STATE, 2), (R.POST_CTRL_EN_TWIN, 1)], -7, by decide +kernel⟩,
  ⟨{ { st [(R.NODE_MODE_MODE, 4), (R.NODE_TWIN_STAT_ROLE, 4), (R.NODE_TWIN_STAT_LINK, 1)] with
        image := some ({ imP with targets := [⟨5, 0, 0, 0, 15, 0, 1065353216⟩, ⟨6, 2, 0, 0, 15, 0, 0⟩] }), time := { TimeBase.reset with
          acc := 2 ^ 100 } } with
      fresh := 0 }, ⟨2, 0x2000, 9, 5, 7, 2 ^ 60, []⟩, by decide +kernel⟩,
  ⟨State.reset, by decide +kernel⟩,
  ⟨{ st [(R.NODE_TWIN_STAT_ROLE, 3), (R.NODE_TWIN_STAT_LINK, 1)] with twin := { Twin.reset with held := [(7, [1, 2])] } }, by decide +kernel⟩,
  ⟨State.reset, 9, by decide +kernel⟩,
  ⟨{ st [(R.NODE_TWIN_STAT_ROLE, 4), (R.NODE_TWIN_STAT_LINK, 1)] with twin := { Twin.reset with mirrors := [(9, 0, [1])] } }, 9, (9, 0, [1]),
      by decide +kernel⟩,
  ⟨State.reset, 9, by decide +kernel⟩,
  ⟨{ st [(R.NODE_TWIN_STAT_ROLE, 4), (R.NODE_TWIN_STAT_LINK, 1)] with twin := { Twin.reset with mirrors := [(9, 0, [1])] } }, 9, (9, 0, [1]),
      by decide +kernel⟩,
  ⟨State.reset, by decide +kernel⟩,
  ⟨{ st [(R.NODE_TWIN_STAT_ROLE, 4), (R.NODE_TWIN_STAT_LINK, 1)] with
      twin := { Twin.reset with partner := some ⟨0x00100009, 1, 1, [], 3, true⟩ }, image := some imW }, imW, by decide +kernel⟩,
  ⟨State.reset, by decide +kernel⟩,
  ⟨{ st [(R.NODE_TWIN_STAT_ROLE, 2), (R.NODE_TWIN_STAT_LINK, 1)] with image := some imW }, imW, by decide +kernel⟩,
  ⟨State.reset, by decide +kernel⟩,
  ⟨st [(R.NODE_TWIN_STAT_ROLE, 3), (R.NODE_TWIN_STAT_LINK, 1), (R.NODE_TWIN_CHK_TEST, 1), (R.NODE_MODE_MODE, 1)], by decide +kernel⟩⟩

theorem witness_SecurityStore :
    (∃ (s : State) (r : Requester), s.serves r.num = true ∧ s.get R.SEC_RESULT_BUSY = 1) ∧
    (∃ (s : State) (r : Requester), s.serves r.num = true ∧ (s.get R.SEC_RESULT_BUSY = 1 ∨ s.security.dxkGen = true)) ∧
    (∃ (s : State) (r : Requester), s.serves r.num = true ∧ s.get R.SEC_RESULT_BUSY ≠ 1 ∧ s.mode ≠ 1) ∧
    (∃ (s : State) (r : Requester), s.serves r.num = true ∧ s.get R.SEC_RESULT_BUSY ≠ 1 ∧ s.security.dxkGen = false ∧ s.mode ≠ 1) ∧
    (∃ (s : State) (r : Requester), s.serves r.num = true ∧ s.get R.SEC_RESULT_BUSY ≠ 1 ∧ s.mode = 1) ∧
    (∃ (s : State) (r : Requester), s.serves r.num = true ∧ s.security.enrOpen = true ∧ s.get R.SEC_ENR_PTR_OFS < 4224) ∧
    (∃ (s : State) (r : Requester), s.serves r.num = true ∧ (s.security.enrOpen = false ∨ 4224 ≤ s.get R.SEC_ENR_PTR_OFS)) ∧
    (∃ (s : State) (r : Requester), s.serves r.num = true ∧ s.get R.SEC_RESULT_BUSY ≠ 1 ∧ s.mode = 1 ∧ (s.security.enrOpen = false ∨
        s.get R.SEC_ENR_PTR_OFS ≠ 4224 ∨ recordOk (enrRecord s) = false)) ∧
    (∃ (s : State) (r : Requester), s.serves r.num = true ∧ s.get R.SEC_RESULT_BUSY ≠ 1 ∧ s.mode = 1 ∧ s.security.enrOpen = true ∧
        s.get R.SEC_ENR_PTR_OFS = 4224 ∧ recordOk (enrRecord s) = true) ∧
    (∃ (s : State) (r : Requester), s.serves r.num = true ∧ s.get R.SEC_RESULT_BUSY ≠ 1 ∧ s.security.dxkGen = false ∧ s.mode = 1 ∧
        s.get R.SEC_STATUS_RNGFAIL = 1) ∧
    (∃ (s : State) (r : Requester), s.serves r.num = true ∧ s.get R.SEC_RESULT_BUSY ≠ 1 ∧ s.security.dxkGen = false ∧ s.mode = 1 ∧
        s.get R.SEC_STATUS_RNGFAIL ≠ 1) ∧
    (∃ (s : State), s.powered = true ∧ s.security.dxkGen = false) ∧
    (∃ (s : State), s.powered = true ∧ s.security.dxkGen = true) ∧
    (∃ (s : State) (r : Requester), s.serves r.num = true ∧ s.get R.SEC_RESULT_BUSY ≠ 1) ∧
    (∃ (s : State) (r : Requester) (slot : Fin 2), s.serves r.num = true ∧ fwBusy s r.num slot = true) ∧
    (∃ (s : State) (r : Requester) (slot : Fin 2), s.serves r.num = true ∧ fwBusy s r.num slot = false ∧ fwRunning s slot = true) ∧
    (∃ (s : State) (r : Requester) (slot : Fin 2), s.serves r.num = true ∧ fwBusy s r.num slot = false ∧ sget none s.security.fwOpens slot = none) ∧
    (∃ (s : State) (r : Requester) (slot : Fin 2), s.serves r.num = true ∧ fwBusy s r.num slot = false ∧ fwState s slot ≠ 2) ∧
    (∃ (s : State) (r : Requester) (slot : Fin 2), s.serves r.num = true ∧ fwBusy s r.num slot = false ∧ fwRunning s slot = false) ∧
    (∃ (s : State) (r : Requester) (n w : Nat) (o : Bool), s.serves r.num = true ∧ s.security.fwCur = some n ∧
        sget none s.security.fwOpens n = some (r.num, w, o) ∧ w < 2097152) ∧
    (∃ (s : State) (r : Requester) (n w : Nat) (o : Bool), s.serves r.num = true ∧ s.security.fwCur = some n ∧
        sget none s.security.fwOpens n = some (r.num, w, o) ∧ 2097152 ≤ w) ∧
    (∃ (s : State) (r : Requester), s.serves r.num = true ∧
        s.security.fwCur.all (fun n => (sget none s.security.fwOpens n).all (fun o => o.1 != r.num)) = true) ∧
    (∃ (s : State) (r : Requester) (slot : Fin 2) (w : Nat) (o : Bool), s.serves r.num = true ∧ fwBusy s r.num slot = false ∧
        sget none s.security.fwOpens slot = some (r.num, w, o)) ∧
    (∃ (s : State) (r : Requester) (slot : Fin 2), s.serves r.num = true ∧ fwBusy s r.num slot = false ∧ fwState s slot = 2) ∧
    (∃ (s : State) (r : Requester) (slot : Fin 2), s.serves r.num = true ∧ fwBusy s r.num slot = false ∧
        (sget none s.security.fwOpens slot).isSome = true) ∧
    (∃ (s : State) (r : Requester), s.serves r.num = true ∧ s.security.fwRuns = false) ∧
    (∃ (s : State) (r : Requester), s.serves r.num = true ∧ s.security.fwRuns = true ∧ s.security.runVer < 2 ^ 32) ∧
    (∃ (s : State) (r : Requester), s.serves r.num = true ∧ 2 ≤ r.num ∧ s.security.fwRuns = true ∧ s.security.runAuth = 1) ∧
    (∃ (s : State) (r : Requester), s.serves r.num = true ∧ (r.num < 2 ∨ s.security.fwRuns = false ∨ s.security.runAuth ≠ 1)) ∧
    (∃ (s : State), s.powered = true ∧ s.get R.SEC_STATUS_RNGFAIL = 1) ∧
    (∃ (s : State), s.powered = true ∧ s.get R.SEC_STATUS_RNGFAIL ≠ 1) ∧
    (∃ (s : State) (r : Requester), s.serves r.num = true ∧ s.get R.SEC_STATUS_RNGFAIL = 1) ∧
    (∃ (s : State) (r : Requester), s.serves r.num = true ∧ s.get R.SEC_STATUS_RNGFAIL ≠ 1) :=
  ⟨⟨st [(R.SEC_RESULT_BUSY, 1)], .pcie, by decide +kernel⟩,
  ⟨st [(R.SEC_RESULT_BUSY, 1)], .pcie, by decide +kernel⟩,
  ⟨st [(R.SO_STATUS_RUN, 1)], .pcie, by decide +kernel⟩,
  ⟨st [(R.SO_STATUS_RUN, 1)], .pcie, by decide +kernel⟩,
  ⟨{ st [(R.NODE_MODE_MODE, 1), (R.SO_STATUS_RUN, 1), (R.SEC_ENR_PTR_OFS, 8)] with
      security := { Security.reset with enrBuf := [(0, 0x524E4542), (1, 1), (2, 7), (3, 5), (6, 0x64), (16, 0x80)] } }, .pcie, by decide +kernel⟩,
  ⟨{ st [(R.NODE_MODE_MODE, 1), (R.SO_STATUS_RUN, 1), (R.SEC_ENR_PTR_OFS, 8)] with security := { Security.reset with enrOpen := true } }, .pcie,
      by decide +kernel⟩,
  ⟨State.reset, .pcie, by decide +kernel⟩,
  ⟨{ st [(R.NODE_MODE_MODE, 1), (R.SO_STATUS_RUN, 1)] with security := { Security.reset with enrBuf := [] } }, .pcie, by decide +kernel⟩,
  ⟨{ st [(R.NODE_MODE_MODE, 1), (R.SO_STATUS_RUN, 1), (R.SEC_ENR_PTR_OFS, 4224)] with
      security := { Security.reset with enrOpen := true, enrBuf := [(0, 0x524E4542), (1, 1), (2, 7), (3, 5), (6, 0x64), (16, 0x80)] } }, .pcie,
      by decide +kernel⟩,
  ⟨st [(R.NODE_MODE_MODE, 1), (R.SO_STATUS_RUN, 1), (R.SEC_STATUS_RNGFAIL, 1)], .pcie, by decide +kernel⟩,
  ⟨st [(R.NODE_MODE_MODE, 1), (R.SO_STATUS_RUN, 1)], .pcie, by decide +kernel⟩,
  ⟨State.reset, by decide +kernel⟩,
  ⟨{ st [(R.NODE_MODE_MODE, 1), (R.SO_STATUS_RUN, 1), (R.SEC_RESULT_BUSY, 1), (R.SEC_RESULT_CODE, 7)] with
      security := { Security.reset with dxkGen := true } }, by decide +kernel⟩,
  ⟨st [(R.SEC_EXT_Dn_D 3, 77)], .pcie, by decide +kernel⟩,
  ⟨st [(R.SEC_FW_STATUS_BUSY, 1)], .pcie, 1, by decide +kernel⟩,
  ⟨{ st [(R.SEC_FW_STATUS_RUN, 1)] with security := { Security.reset with fwRuns := true } }, .pcie, 1, by decide +kernel⟩,
  ⟨{ State.reset with security := { Security.reset with fwRuns := false } }, .pcie, 1, by decide +kernel⟩,
  ⟨State.reset, .pcie, 1, by decide +kernel⟩,
  ⟨{ st [(R.SEC_FW_STATUS_STATE, 8)] with security := { Security.reset with fwRuns := false } }, .qspi, 1, by decide +kernel⟩,
  ⟨{ st [(R.NODE_MODE_MODE, 1), (R.SO_STATUS_RUN, 1), (R.SEC_FW_STATUS_STATE, 4)] with
      security := { Security.reset with fwOpens := [(1, some (1, 8, false))], fwCur := some 1 } }, .qspi, 1, 8, false, by decide +kernel⟩,
  ⟨{ st [(R.NODE_MODE_MODE, 1), (R.SO_STATUS_RUN, 1), (R.SEC_FW_STATUS_STATE, 4)] with
      security := { Security.reset with fwOpens := [(1, some (1, 2097152, false))], fwCur := some 1 } }, .qspi, 1, 2097152, false, by decide +kernel⟩,
  ⟨State.reset, .core 7, by decide +kernel⟩,
  ⟨{ st [(R.NODE_MODE_MODE, 1), (R.SO_STATUS_RUN, 1), (R.SEC_FW_STATUS_STATE, 4)] with
      security := { Security.reset with fwOpens := [(1, some (1, 8, false))], fwCur := some 1 } }, .qspi, 1, 8, false, by decide +kernel⟩,
  ⟨st [(R.SEC_FW_STATUS_STATE, 8)], .qspi, 1, by decide +kernel⟩,
  ⟨{ st [(R.NODE_MODE_MODE, 1), (R.SO_STATUS_RUN, 1), (R.SEC_FW_STATUS_STATE, 4)] with
      security := { Security.reset with fwOpens := [(1, some (1, 8, false))], fwCur := some 1 } }, .qspi, 1, by decide +kernel⟩,
  ⟨{ State.reset with security := { Security.reset with fwRuns := false } }, .pcie, by decide +kernel⟩,
  ⟨{ st [(R.NODE_MODE_MODE, 1), (R.SO_STATUS_RUN, 1)] with security := { Security.reset with fwRuns := true, runVer := 9 } }, .pcie,
      by decide +kernel⟩,
  ⟨{ st [(R.NODE_MODE_MODE, 1), (R.SO_STATUS_RUN, 1)] with security := { Security.reset with fwRuns := true, runAuth := 1 } }, .core 0,
      by decide +kernel⟩,
  ⟨State.reset, .pcie, by decide +kernel⟩,
  ⟨st [(R.SEC_STATUS_RNGFAIL, 1)], by decide +kernel⟩,
  ⟨st [(R.NODE_MODE_MODE, 1), (R.SO_STATUS_RUN, 1)], by decide +kernel⟩,
  ⟨st [(R.SEC_STATUS_RNGFAIL, 1)], .core 7, by decide +kernel⟩,
  ⟨State.reset, .core 7, by decide +kernel⟩⟩

theorem witness_SecuritySessions :
    (∃ (s : State) (r : Requester), s.serves r.num = true ∧ s.get R.SEC_STATUS_RNGFAIL = 1) ∧
    (∃ (s : State) (r : Requester), s.serves r.num = true ∧ s.get R.SEC_STATUS_RNGFAIL ≠ 1 ∧ (8 ≤ s.security.queue.length ∨
        s.get (R.SEC_FRANK_STATUS_BUSY r.num) = 1)) ∧
    (∃ (s : State) (r : Requester), s.serves r.num = true ∧ s.get R.SEC_STATUS_RNGFAIL ≠ 1 ∧ s.security.queue.length < 8 ∧
        s.get (R.SEC_FRANK_STATUS_BUSY r.num) ≠ 1) ∧
    (∃ (s : State) (w : FrankWho) (nonce : Bytes) (rest : List (FrankWho × Bytes)), s.powered = true ∧ s.security.signing = none ∧
        s.security.queue = (w, nonce) :: rest) ∧
    (∃ (s : State), s.powered = true ∧ (s.security.signing.isSome = true ∨ s.security.queue = [])) ∧
    (∃ (s : State), s.powered = true ∧ s.security.signing = none) ∧
    (∃ (s : State) (r : Fin 10) (body : Bytes), s.powered = true ∧ s.security.signing = some (.host r.val, body)) ∧
    (∃ (s : State) (p : Nat) (body : Bytes), s.powered = true ∧ s.security.signing = some (.peer p, body) ∧ s.get R.NODE_IDENT_PROV = 0) ∧
    (∃ (s : State) (p : Nat) (body : Bytes), s.powered = true ∧ s.security.signing = some (.peer p, body) ∧ s.get R.NODE_IDENT_PROV ≠ 0) ∧
    (∃ (s : State) (f : FrankReq), s.linked = true ∧ headTakes s f.port 2 f.head = true ∧ f.head.frag = 0 ∧ f.head.nfrag = 1 ∧
        s.get R.NODE_IDENT_PROV = 0) ∧
    (∃ (s : State) (f : FrankReq), s.linked = true ∧ headTakes s f.port 2 f.head = true ∧ f.head.frag = 0 ∧ f.head.nfrag = 1 ∧
        s.get R.NODE_IDENT_PROV ≠ 0 ∧ s.get R.SEC_STATUS_RNGFAIL = 1) ∧
    (∃ (s : State) (f : FrankReq), s.linked = true ∧ headTakes s f.port 2 f.head = true ∧ f.head.frag = 0 ∧ f.head.nfrag = 1 ∧
        s.get R.NODE_IDENT_PROV ≠ 0 ∧ s.get R.SEC_STATUS_RNGFAIL ≠ 1 ∧ (8 ≤ s.security.queue.length ∨
        s.security.queue.any (fun q => q.1 == .peer f.peer.toNat) = true)) ∧
    (∃ (s : State) (f : FrankReq), s.linked = true ∧ headTakes s f.port 2 f.head = true ∧ f.head.frag = 0 ∧ f.head.nfrag = 1 ∧
        s.get R.NODE_IDENT_PROV ≠ 0 ∧ s.get R.SEC_STATUS_RNGFAIL ≠ 1 ∧ s.security.queue.length < 8 ∧
        s.security.queue.any (fun q => q.1 == .peer f.peer.toNat) = false) ∧
    (∃ (s : State) (f : FrankRep), s.linked = true ∧ headTakes s f.port 3 f.head = true ∧ f.head.frag = 0 ∧ f.head.nfrag = 1 ∧
        (attemptOf s f.peer.toNat = none ∨ (attemptOf s f.peer.toNat).any (fun a => a.dik != 0) = true)) ∧
    (∃ (s : State) (f : FrankRep) (a : Attempt), s.linked = true ∧ headTakes s f.port 3 f.head = true ∧ f.head.frag = 0 ∧ f.head.nfrag = 1 ∧
        attemptOf s f.peer.toNat = some a ∧ a.dik = 0) ∧
    (∃ (s : State) (m : KeyMsg), s.linked = true ∧ headTakes s m.port 4 m.head = true ∧ m.head.frag = 0 ∧ m.head.nfrag = 1 ∧
        (attemptOf s m.peer.toNat = none ∨ ownNode s ≤ m.peer.toNat ∨ (attemptOf s m.peer.toNat).any (fun a => a.dik == 0) = true)) ∧
    (∃ (s : State) (m : KeyMsg) (a : Attempt), s.linked = true ∧ headTakes s m.port 4 m.head = true ∧ m.head.frag = 0 ∧ m.head.nfrag = 1 ∧
        attemptOf s m.peer.toNat = some a ∧ m.peer.toNat < ownNode s ∧ a.dik ≠ 0) ∧
    (∃ (s : State) (m : KeyMsg), s.linked = true ∧ headTakes s m.port 1 m.head = true ∧
        (attemptOf s m.peer.toNat).all (fun a => a.secret == [] || m.session.toNat != a.id) = true) ∧
    (∃ (s : State) (m : KeyMsg) (a : Attempt), s.linked = true ∧ headTakes s m.port 1 m.head = true ∧ attemptOf s m.peer.toNat = some a ∧
        a.secret ≠ [] ∧ m.session.toNat = a.id ∧ s.get R.NODE_IDENT_PROV = 0) ∧
    (∃ (s : State) (m : KeyMsg) (a : Attempt), s.linked = true ∧ headTakes s m.port 1 m.head = true ∧ attemptOf s m.peer.toNat = some a ∧
        a.secret ≠ [] ∧ m.session.toNat = a.id ∧ s.get R.NODE_IDENT_PROV ≠ 0) ∧
    (∃ (s : State) (peer : BitVec 12), s.powered = true ∧ attemptOf s peer.toNat = none) ∧
    (∃ (s : State) (peer : BitVec 12) (a : Attempt), s.powered = true ∧ attemptOf s peer.toNat = some a) ∧
    (∃ (s : State) (f : SessionFrame), s.linked = true ∧ (f.port = 2 ∨ headTakes s f.port 1 f.head = true) ∧
        s.security.sessions.find? (fun x => x.id == f.session.toNat && x.twin == decide (f.port = 2)) = none) ∧
    (∃ (s : State) (f : SessionFrame) (x : Session), s.linked = true ∧ (f.port = 2 ∨ headTakes s f.port 1 f.head = true) ∧
        s.security.sessions.find? (fun x => x.id == f.session.toNat && x.twin == decide (f.port = 2)) = some x ∧
        x.oldUntil.any (fun e => decide (e < s.time.elapsed)) = true) ∧
    (∃ (s : State) (f : SessionFrame) (x : Session), s.linked = true ∧ (f.port = 2 ∨ headTakes s f.port 1 f.head = true) ∧
        s.security.sessions.find? (fun x => x.id == f.session.toNat && x.twin == decide (f.port = 2)) = some x ∧
        ¬ (x.oldUntil.any (fun e => decide (e < s.time.elapsed)) = true) ∧ f.port ≠ 2 ∧ seenOther s f.port f.session.toNat f.seq.toNat = true) ∧
    (∃ (s : State) (f : SessionFrame) (x : Session), s.linked = true ∧ (f.port = 2 ∨ headTakes s f.port 1 f.head = true) ∧
        s.security.sessions.find? (fun x => x.id == f.session.toNat && x.twin == decide (f.port = 2)) = some x ∧
        ¬ (x.oldUntil.any (fun e => decide (e < s.time.elapsed)) = true) ∧ f.port ≠ 2 ∧ seenOther s f.port f.session.toNat f.seq.toNat = false) ∧
    (∃ (s : State) (f : SessionFrame) (x : Session), s.linked = true ∧
        s.security.sessions.find? (fun x => x.id == f.session.toNat && x.twin == decide (f.port = 2)) = some x ∧
        ¬ (x.oldUntil.any (fun e => decide (e < s.time.elapsed)) = true) ∧ f.port = 2) ∧
    (∃ (s : State) (peer : BitVec 12), s.powered = true ∧ (sessionWith s peer.toNat = none ∨ (attemptOf s peer.toNat).isSome = true)) ∧
    (∃ (s : State) (peer : BitVec 12) (x : Session), s.powered = true ∧ sessionWith s peer.toNat = some x ∧ attemptOf s peer.toNat = none) ∧
    (∃ (s : State) (peer : BitVec 12), s.powered = true ∧ s.security.sessions.find? (fun x => x.peer == peer.toNat && x.oldUntil.isSome) = none) ∧
    (∃ (s : State) (peer : BitVec 12) (x : Session), s.powered = true ∧
        s.security.sessions.find? (fun x => x.peer == peer.toNat && x.oldUntil.isSome) = some x) ∧
    (∃ (s : State) (b : BroadcastRec), s.linked = true ∧ headTakes s b.port 5 b.head = true) ∧
    (∃ (s : State) (f : FrankReq), s.linked = true ∧
        (¬ (beBytes 6 f.head.dst.toNat ∈ [portAddress (s.get R.NODE_IDENT_CLUSTER) f.port (s.get R.NODE_IDENT_NODE), siteMulticast,
        clusterMulticast (s.get R.NODE_IDENT_CLUSTER), [0x01, 0x1B, 0x19, 0, 0, 0], [0x01, 0x80, 0xC2, 0, 0, 0x0E]] ∧ f.head.ver = 1 ∧
        (s.get (R.LK_SPn_CFG_CLF f.port) = 0 ∨ f.head.cluster.toNat = s.get R.NODE_IDENT_CLUSTER)))) ∧
    (∃ (s : State) (f : FrankRep), s.linked = true ∧
        (¬ (beBytes 6 f.head.dst.toNat ∈ [portAddress (s.get R.NODE_IDENT_CLUSTER) f.port (s.get R.NODE_IDENT_NODE), siteMulticast,
        clusterMulticast (s.get R.NODE_IDENT_CLUSTER), [0x01, 0x1B, 0x19, 0, 0, 0], [0x01, 0x80, 0xC2, 0, 0, 0x0E]] ∧ f.head.ver = 1 ∧
        (s.get (R.LK_SPn_CFG_CLF f.port) = 0 ∨ f.head.cluster.toNat = s.get R.NODE_IDENT_CLUSTER)))) ∧
    (∃ (s : State) (m : KeyMsg), s.linked = true ∧
        (¬ (beBytes 6 m.head.dst.toNat ∈ [portAddress (s.get R.NODE_IDENT_CLUSTER) m.port (s.get R.NODE_IDENT_NODE), siteMulticast,
        clusterMulticast (s.get R.NODE_IDENT_CLUSTER), [0x01, 0x1B, 0x19, 0, 0, 0], [0x01, 0x80, 0xC2, 0, 0, 0x0E]] ∧ m.head.ver = 1 ∧
        (s.get (R.LK_SPn_CFG_CLF m.port) = 0 ∨ m.head.cluster.toNat = s.get R.NODE_IDENT_CLUSTER)))) ∧
    (∃ (s : State) (f : SessionFrame), s.linked = true ∧ f.port ≠ 2 ∧
        (¬ (beBytes 6 f.head.dst.toNat ∈ [portAddress (s.get R.NODE_IDENT_CLUSTER) f.port (s.get R.NODE_IDENT_NODE), siteMulticast,
        clusterMulticast (s.get R.NODE_IDENT_CLUSTER), [0x01, 0x1B, 0x19, 0, 0, 0], [0x01, 0x80, 0xC2, 0, 0, 0x0E]] ∧ f.head.ver = 1 ∧
        (s.get (R.LK_SPn_CFG_CLF f.port) = 0 ∨ f.head.cluster.toNat = s.get R.NODE_IDENT_CLUSTER)))) ∧
    (∃ (s : State) (b : BroadcastRec), s.linked = true ∧
        (¬ (beBytes 6 b.head.dst.toNat ∈ [portAddress (s.get R.NODE_IDENT_CLUSTER) b.port (s.get R.NODE_IDENT_NODE), siteMulticast,
        clusterMulticast (s.get R.NODE_IDENT_CLUSTER), [0x01, 0x1B, 0x19, 0, 0, 0], [0x01, 0x80, 0xC2, 0, 0, 0x0E]] ∧ b.head.ver = 1))) ∧
    (∃ (s : State) (f : FrankReq), s.linked = true ∧ headTakes s f.port 2 f.head = true ∧ 2 ≤ f.head.nfrag.toNat ∧ f.head.nfrag.toNat ≤ 16 ∧
        f.head.frag.toNat < f.head.nfrag.toNat ∧
        (setBit ((((s.links.parts.filter (fun p => decide (s.since p.at_ ≤ frankWin s))).find? (fun p : Reassembly => p.src == f.peer.toNat && p.msgId == f.head.msgId.toNat)).map (·.got)).getD 0) f.head.frag.toNat true) = 2 ^ f.head.nfrag.toNat - 1) ∧
    (∃ (s : State) (f : FrankReq), s.linked = true ∧ headTakes s f.port 2 f.head = true ∧ 2 ≤ f.head.nfrag.toNat ∧ f.head.nfrag.toNat ≤ 16 ∧
        f.head.frag.toNat < f.head.nfrag.toNat ∧
        (setBit ((((s.links.parts.filter (fun p => decide (s.since p.at_ ≤ frankWin s))).find? (fun p : Reassembly => p.src == f.peer.toNat && p.msgId == f.head.msgId.toNat)).map (·.got)).getD 0) f.head.frag.toNat true) ≠ 2 ^ f.head.nfrag.toNat - 1 ∧
        (((s.links.parts.filter (fun p => decide (s.since p.at_ ≤ frankWin s))).find? (fun p : Reassembly => p.src == f.peer.toNat && p.msgId == f.head.msgId.toNat)).isSome = true ∨
        (s.links.parts.filter (fun p => decide (s.since p.at_ ≤ frankWin s))).length < 16)) ∧
    (∃ (s : State) (f : FrankReq), s.linked = true ∧ headTakes s f.port 2 f.head = true ∧ 2 ≤ f.head.nfrag.toNat ∧ f.head.nfrag.toNat ≤ 16 ∧
        f.head.frag.toNat < f.head.nfrag.toNat ∧
        (s.links.parts.filter (fun p => decide (s.since p.at_ ≤ frankWin s))).find? (fun p : Reassembly => p.src == f.peer.toNat && p.msgId == f.head.msgId.toNat) = none ∧
        16 ≤ (s.links.parts.filter (fun p => decide (s.since p.at_ ≤ frankWin s))).length ∧
        (setBit ((((s.links.parts.filter (fun p => decide (s.since p.at_ ≤ frankWin s))).find? (fun p : Reassembly => p.src == f.peer.toNat && p.msgId == f.head.msgId.toNat)).map (·.got)).getD 0) f.head.frag.toNat true) ≠ 2 ^ f.head.nfrag.toNat - 1) ∧
    (∃ (s : State) (f : FrankRep), s.linked = true ∧ headTakes s f.port 3 f.head = true ∧ 2 ≤ f.head.nfrag.toNat ∧ f.head.nfrag.toNat ≤ 16 ∧
        f.head.frag.toNat < f.head.nfrag.toNat ∧
        (setBit ((((s.links.parts.filter (fun p => decide (s.since p.at_ ≤ frankWin s))).find? (fun p : Reassembly => p.src == f.peer.toNat && p.msgId == f.head.msgId.toNat)).map (·.got)).getD 0) f.head.frag.toNat true) = 2 ^ f.head.nfrag.toNat - 1) ∧
    (∃ (s : State) (f : FrankRep), s.linked = true ∧ headTakes s f.port 3 f.head = true ∧ 2 ≤ f.head.nfrag.toNat ∧ f.head.nfrag.toNat ≤ 16 ∧
        f.head.frag.toNat < f.head.nfrag.toNat ∧
        (setBit ((((s.links.parts.filter (fun p => decide (s.since p.at_ ≤ frankWin s))).find? (fun p : Reassembly => p.src == f.peer.toNat && p.msgId == f.head.msgId.toNat)).map (·.got)).getD 0) f.head.frag.toNat true) ≠ 2 ^ f.head.nfrag.toNat - 1 ∧
        (((s.links.parts.filter (fun p => decide (s.since p.at_ ≤ frankWin s))).find? (fun p : Reassembly => p.src == f.peer.toNat && p.msgId == f.head.msgId.toNat)).isSome = true ∨
        (s.links.parts.filter (fun p => decide (s.since p.at_ ≤ frankWin s))).length < 16)) ∧
    (∃ (s : State) (f : FrankRep), s.linked = true ∧ headTakes s f.port 3 f.head = true ∧ 2 ≤ f.head.nfrag.toNat ∧ f.head.nfrag.toNat ≤ 16 ∧
        f.head.frag.toNat < f.head.nfrag.toNat ∧
        (s.links.parts.filter (fun p => decide (s.since p.at_ ≤ frankWin s))).find? (fun p : Reassembly => p.src == f.peer.toNat && p.msgId == f.head.msgId.toNat) = none ∧
        16 ≤ (s.links.parts.filter (fun p => decide (s.since p.at_ ≤ frankWin s))).length ∧
        (setBit ((((s.links.parts.filter (fun p => decide (s.since p.at_ ≤ frankWin s))).find? (fun p : Reassembly => p.src == f.peer.toNat && p.msgId == f.head.msgId.toNat)).map (·.got)).getD 0) f.head.frag.toNat true) ≠ 2 ^ f.head.nfrag.toNat - 1) ∧
    (∃ (s : State) (m : KeyMsg), s.linked = true ∧ headTakes s m.port 4 m.head = true ∧ 2 ≤ m.head.nfrag.toNat ∧ m.head.nfrag.toNat ≤ 16 ∧
        m.head.frag.toNat < m.head.nfrag.toNat ∧
        (setBit ((((s.links.parts.filter (fun p => decide (s.since p.at_ ≤ frankWin s))).find? (fun p : Reassembly => p.src == m.peer.toNat && p.msgId == m.head.msgId.toNat)).map (·.got)).getD 0) m.head.frag.toNat true) = 2 ^ m.head.nfrag.toNat - 1) ∧
    (∃ (s : State) (m : KeyMsg), s.linked = true ∧ headTakes s m.port 4 m.head = true ∧ 2 ≤ m.head.nfrag.toNat ∧ m.head.nfrag.toNat ≤ 16 ∧
        m.head.frag.toNat < m.head.nfrag.toNat ∧
        (setBit ((((s.links.parts.filter (fun p => decide (s.since p.at_ ≤ frankWin s))).find? (fun p : Reassembly => p.src == m.peer.toNat && p.msgId == m.head.msgId.toNat)).map (·.got)).getD 0) m.head.frag.toNat true) ≠ 2 ^ m.head.nfrag.toNat - 1 ∧
        (((s.links.parts.filter (fun p => decide (s.since p.at_ ≤ frankWin s))).find? (fun p : Reassembly => p.src == m.peer.toNat && p.msgId == m.head.msgId.toNat)).isSome = true ∨
        (s.links.parts.filter (fun p => decide (s.since p.at_ ≤ frankWin s))).length < 16)) ∧
    (∃ (s : State) (m : KeyMsg), s.linked = true ∧ headTakes s m.port 4 m.head = true ∧ 2 ≤ m.head.nfrag.toNat ∧ m.head.nfrag.toNat ≤ 16 ∧
        m.head.frag.toNat < m.head.nfrag.toNat ∧
        (s.links.parts.filter (fun p => decide (s.since p.at_ ≤ frankWin s))).find? (fun p : Reassembly => p.src == m.peer.toNat && p.msgId == m.head.msgId.toNat) = none ∧
        16 ≤ (s.links.parts.filter (fun p => decide (s.since p.at_ ≤ frankWin s))).length ∧
        (setBit ((((s.links.parts.filter (fun p => decide (s.since p.at_ ≤ frankWin s))).find? (fun p : Reassembly => p.src == m.peer.toNat && p.msgId == m.head.msgId.toNat)).map (·.got)).getD 0) m.head.frag.toNat true) ≠ 2 ^ m.head.nfrag.toNat - 1) :=
  ⟨⟨st [(R.NODE_MODE_MODE, 1), (R.SO_STATUS_RUN, 1), (R.SEC_STATUS_RNGFAIL, 1)], .core 7, by decide +kernel⟩,
  ⟨st [(R.NODE_MODE_MODE, 1), (R.SO_STATUS_RUN, 1), (R.SEC_FRANK_STATUS_BUSY 9, 1)], .core 7, by decide +kernel⟩,
  ⟨st [(R.SEC_FRANK_NONCEn_N 3 9, 77)], .core 7, by decide +kernel⟩,
  ⟨{ st [(R.NODE_MODE_MODE, 1), (R.SO_STATUS_RUN, 1)] with security := { Security.reset with queue := [(.peer 9, [1])] } }, .peer 9, [1], [],
      by decide +kernel⟩,
  ⟨State.reset, by decide +kernel⟩,
  ⟨State.reset, by decide +kernel⟩,
  ⟨{ st [(R.NODE_MODE_MODE, 1), (R.SO_STATUS_RUN, 1)] with security := { Security.reset with signing := some (.host 9, [1, 2]) } }, 9, [1, 2],
      by decide +kernel⟩,
  ⟨{ st [(R.NODE_MODE_MODE, 1), (R.SO_STATUS_RUN, 1)] with security := { Security.reset with signing := some (.peer 9, [1, 2]) } }, 9, [1, 2],
      by decide +kernel⟩,
  ⟨{ st [(R.NODE_MODE_MODE, 1), (R.SO_STATUS_RUN, 1), (R.NODE_IDENT_PROV, 1), (R.LK_SPn_STAT_UP 0, 1)] with
      security := { Security.reset with signing := some (.peer 9, [1, 2]) } }, 9, [1, 2], by decide +kernel⟩,
  ⟨st [(R.NODE_MODE_MODE, 1), (R.SO_STATUS_RUN, 1)], ⟨0, ⟨0x035A44000000, 1, 0, 3, 0, 1⟩, 9, [1]⟩, by decide +kernel⟩,
  ⟨st [(R.NODE_MODE_MODE, 1), (R.SO_STATUS_RUN, 1), (R.NODE_IDENT_PROV, 1), (R.SEC_STATUS_RNGFAIL, 1)], ⟨0, ⟨0x035A44000000, 1, 0, 3, 0, 1⟩, 9, [1]⟩,
      by decide +kernel⟩,
  ⟨{ st [(R.NODE_MODE_MODE, 1), (R.SO_STATUS_RUN, 1), (R.NODE_IDENT_PROV, 1)] with security := { Security.reset with queue := [(.peer 9, [])] } }, ⟨0,
      ⟨0x035A44000000, 1, 0, 3, 0, 1⟩, 9, [1]⟩, by decide +kernel⟩,
  ⟨st [(R.NODE_MODE_MODE, 1), (R.SO_STATUS_RUN, 1), (R.NODE_IDENT_PROV, 1), (R.SEC_STATUS_DXK, 1)], ⟨0, ⟨0x035A44000000, 1, 0, 3, 0, 1⟩, 9, [1]⟩,
      by decide +kernel⟩,
  ⟨State.reset, ⟨0, ⟨0x035A44000000, 1, 0, 3, 0, 1⟩, 9, [], [], []⟩, by decide +kernel⟩,
  ⟨{ st [(R.NODE_MODE_MODE, 1), (R.SO_STATUS_RUN, 1)] with security := { Security.reset with attempts := [⟨9, [1], 0, [2], 0, 0, none, 0, []⟩] } },
      ⟨0, ⟨0x035A44000000, 1, 0, 3, 0, 1⟩, 9, [], [], []⟩, ⟨9, [1], 0, [2], 0, 0, none, 0, []⟩, by decide +kernel⟩,
  ⟨State.reset, ⟨0, ⟨0x035A44000000, 1, 0, 3, 0, 1⟩, 9, 3, [], []⟩, by decide +kernel⟩,
  ⟨{ st [(R.NODE_MODE_MODE, 1), (R.SO_STATUS_RUN, 1), (R.NODE_IDENT_NODE, 5)] with
      security := { Security.reset with attempts := [⟨4, [1], 0, [2], 5, 0, none, 0, []⟩] } }, ⟨0, ⟨0x035A44000000, 1, 0, 3, 0, 1⟩, 4, 0, [], []⟩, ⟨4,
      [1], 0, [2], 5, 0, none, 0, []⟩, by decide +kernel⟩,
  ⟨State.reset, ⟨0, ⟨0x035A44000000, 1, 0, 3, 0, 1⟩, 9, 3, [], []⟩, by decide +kernel⟩,
  ⟨{ st [(R.NODE_MODE_MODE, 1), (R.SO_STATUS_RUN, 1)] with
      security := { Security.reset with attempts := [⟨9, [1], 0, [2], 5, 7, some 0, 3, [8]⟩] } }, ⟨0, ⟨0x035A44000000, 1, 0, 3, 0, 1⟩, 9, 3, [], []⟩,
      ⟨9, [1], 0, [2], 5, 7, some 0, 3, [8]⟩, by decide +kernel⟩,
  ⟨{ st [(R.NODE_MODE_MODE, 1), (R.SO_STATUS_RUN, 1), (R.NODE_IDENT_PROV, 1)] with
      security := { Security.reset with attempts := [⟨9, [1], 0, [2], 5, 7, some 0, 3, [8]⟩] } }, ⟨0, ⟨0x035A44000000, 1, 0, 3, 0, 1⟩, 9, 3, [], []⟩,
      ⟨9, [1], 0, [2], 5, 7, some 0, 3, [8]⟩, by decide +kernel⟩,
  ⟨State.reset, 9, by decide +kernel⟩,
  ⟨{ st [(R.NODE_MODE_MODE, 1), (R.SO_STATUS_RUN, 1)] with
      security := { Security.reset with attempts := [⟨9, [1], 0, [2], 5, 7, some 0, 3, [8]⟩] } }, 9, ⟨9, [1], 0, [2], 5, 7, some 0, 3, [8]⟩,
      by decide +kernel⟩,
  ⟨State.reset, ⟨0, ⟨0x035A44000000, 1, 0, 3, 0, 1⟩, 5, 0, 0, [], []⟩, by decide +kernel⟩,
  ⟨{ { st [(R.NODE_MODE_MODE, 1), (R.SO_STATUS_RUN, 1)] with
        security := { Security.reset with sessions := [⟨3, 5, 9, 0, false, [], [], [], [], 1, 0, 0, 0, some 7⟩] } } with
      time := { TimeBase.reset with elapsed := 9 } }, ⟨0, ⟨0x035A44000000, 1, 0, 3, 0, 1⟩, 5, 0, 0, [], []⟩, ⟨3, 5, 9, 0, false, [], [], [], [], 1, 0,
      0, 0, some 7⟩, by decide +kernel⟩,
  ⟨{ { st [(R.NODE_MODE_MODE, 1), (R.SO_STATUS_RUN, 1), (R.LK_CFG_REDUN, 1)] with
        security := { Security.reset with sessions := [⟨3, 5, 9, 0, false, [], [], [], [], 1, 0, 0, 0, none⟩] } } with
      links := { Links.reset with seen := [(5, 0, 1, 0)] } }, ⟨0, ⟨0x035A44000000, 1, 0, 3, 0, 1⟩, 5, 0, 0, [], []⟩, ⟨3, 5, 9, 0, false, [], [], [],
      [], 1, 0, 0, 0, none⟩, by decide +kernel⟩,
  ⟨{ st [(R.NODE_MODE_MODE, 1), (R.SO_STATUS_RUN, 1)] with
      security := { Security.reset with sessions := [⟨3, 5, 9, 0, false, [], [], [], [], 1, 0, 0, 0, none⟩] } }, ⟨0, ⟨0x035A44000000, 1, 0, 3, 0, 1⟩,
      5, 0, 0, [], []⟩, ⟨3, 5, 9, 0, false, [], [], [], [], 1, 0, 0, 0, none⟩, by decide +kernel⟩,
  ⟨{ st [(R.NODE_MODE_MODE, 1), (R.SO_STATUS_RUN, 1)] with
      security := { Security.reset with sessions := [⟨3, 5, 9, 0, true, [], [], [], [], 1, 0, 0, 0, none⟩] } }, ⟨2, ⟨0x035A44000000, 1, 0, 3, 0, 1⟩,
      5, 0, 0, [], []⟩, ⟨3, 5, 9, 0, true, [], [], [], [], 1, 0, 0, 0, none⟩, by decide +kernel⟩,
  ⟨State.reset, 9, by decide +kernel⟩,
  ⟨{ st [(R.NODE_MODE_MODE, 1), (R.SO_STATUS_RUN, 1), (R.NODE_IDENT_PROV, 1), (R.SEC_STATUS_DXK, 1)] with
      security := { Security.reset with sessions := [⟨3, 5, 9, 0, false, [], [], [], [], 1, 0, 0, 0, none⟩] } }, 9, ⟨3, 5, 9, 0, false, [], [], [],
      [], 1, 0, 0, 0, none⟩, by decide +kernel⟩,
  ⟨State.reset, 9, by decide +kernel⟩,
  ⟨{ st [(R.NODE_MODE_MODE, 1), (R.SO_STATUS_RUN, 1)] with
      security := { Security.reset with sessions := [⟨3, 5, 9, 0, false, [], [], [], [], 1, 0, 0, 0, some 7⟩] } }, 9, ⟨3, 5, 9, 0, false, [], [], [],
      [], 1, 0, 0, 0, some 7⟩, by decide +kernel⟩,
  ⟨st [(R.NODE_MODE_MODE, 1), (R.SO_STATUS_RUN, 1)], ⟨0, ⟨0x035A44000000, 1, 0, 3, 0, 1⟩, [], []⟩, by decide +kernel⟩,
  ⟨State.reset, ⟨0, ⟨0x035A44000001, 1, 0, 3, 0, 1⟩, 9, [1]⟩, by decide +kernel⟩,
  ⟨State.reset, ⟨0, ⟨0x035A44000001, 1, 0, 3, 0, 1⟩, 9, [], [], []⟩, by decide +kernel⟩,
  ⟨State.reset, ⟨0, ⟨0x035A44000001, 1, 0, 3, 0, 1⟩, 9, 3, [], []⟩, by decide +kernel⟩,
  ⟨State.reset, ⟨0, ⟨0x035A44000001, 1, 0, 3, 0, 1⟩, 5, 0, 0, [], []⟩, by decide +kernel⟩,
  ⟨State.reset, ⟨0, ⟨0x035A44000001, 1, 0, 3, 0, 1⟩, [], []⟩, by decide +kernel⟩,
  ⟨{ State.reset with links := { Links.reset with parts := [⟨9, 3, 0, 1⟩] } }, ⟨0, ⟨0x035A44000000, 1, 0, 3, 1, 2⟩, 9, [1]⟩, by decide +kernel⟩,
  ⟨State.reset, ⟨0, ⟨0x035A44000000, 1, 0, 3, 1, 2⟩, 9, [1]⟩, by decide +kernel⟩,
  ⟨{ State.reset with links := { Links.reset with parts := ((List.range 16).map (fun i => (⟨i + 20, 3, 0, 1⟩ : Reassembly))) } }, ⟨0, ⟨0x035A44000000,
      1, 0, 3, 1, 2⟩, 9, [1]⟩, by decide +kernel⟩,
  ⟨{ State.reset with links := { Links.reset with parts := [⟨9, 3, 0, 1⟩] } }, ⟨0, ⟨0x035A44000000, 1, 0, 3, 1, 2⟩, 9, [], [], []⟩,
      by decide +kernel⟩,
  ⟨State.reset, ⟨0, ⟨0x035A44000000, 1, 0, 3, 1, 2⟩, 9, [], [], []⟩, by decide +kernel⟩,
  ⟨{ State.reset with links := { Links.reset with parts := ((List.range 16).map (fun i => (⟨i + 20, 3, 0, 1⟩ : Reassembly))) } }, ⟨0, ⟨0x035A44000000,
      1, 0, 3, 1, 2⟩, 9, [], [], []⟩, by decide +kernel⟩,
  ⟨{ State.reset with links := { Links.reset with parts := [⟨9, 3, 0, 1⟩] } }, ⟨0, ⟨0x035A44000000, 1, 0, 3, 1, 2⟩, 9, 3, [], []⟩, by decide +kernel⟩,
  ⟨State.reset, ⟨0, ⟨0x035A44000000, 1, 0, 3, 1, 2⟩, 9, 3, [], []⟩, by decide +kernel⟩,
  ⟨{ State.reset with links := { Links.reset with parts := ((List.range 16).map (fun i => (⟨i + 20, 3, 0, 1⟩ : Reassembly))) } }, ⟨0, ⟨0x035A44000000,
      1, 0, 3, 1, 2⟩, 9, 3, [], []⟩, by decide +kernel⟩⟩

theorem witness_SiteMessages :
    (∃ (s : State) (m : SiteMessage), s.linked = true ∧ (¬ (m ∈ s.links.inbox ∧ m.mtype = 1))) ∧
    (∃ (s : State) (m : SiteMessage), s.linked = true ∧ (¬ (m ∈ s.links.inbox ∧ m.mtype = 2))) ∧
    (∃ (s : State) (m : SiteMessage), s.linked = true ∧ (¬ (m ∈ s.links.inbox ∧ m.mtype = 3))) ∧
    (∃ (s : State) (m : SiteMessage), s.linked = true ∧ m ∈ s.links.inbox ∧ m.mtype = 1 ∧ (fieldOf m.body 2 2 / 4096 ≠ 3 ∨
        fieldOf m.body 2 2 % 4096 ≠ m.pair.toNat)) ∧
    (∃ (s : State) (m : SiteMessage), s.linked = true ∧ m ∈ s.links.inbox ∧ m.mtype = 1 ∧ fieldOf m.body 2 2 / 4096 = 3 ∧
        fieldOf m.body 2 2 % 4096 = m.pair.toNat ∧ dAccept s 3 ≠ 0 ∧ s.mode ≠ 6 ∧ targetKnown s 3 (fieldOf m.body 0 2) = true ∧
        s.postmark < frameStart s.fFrame (commandFrame s 3 (fieldOf m.body 8 8)) ∧ fieldOf m.body 8 8 + dAccept s 3 ≤ s.postmark + 60 * 2 ^ 32 ∧
        s.acceptance.length < 2048) ∧
    (∃ (s : State) (m : SiteMessage), s.linked = true ∧ m ∈ s.links.inbox ∧ m.mtype = 2) ∧
    (∃ (s : State) (m : SiteMessage), s.linked = true ∧ m ∈ s.links.inbox ∧ m.mtype = 3) ∧
    (∃ (s : State) (peer : BitVec 12), s.powered = true ∧ s.links.parts.find? (fun p => p.src == peer.toNat) = none) ∧
    (∃ (s : State) (peer : BitVec 12) (p : Reassembly), s.powered = true ∧ s.links.parts.find? (fun p => p.src == peer.toNat) = some p ∧
        (attemptOf s peer.toNat).all (fun a => a.dik != 0) = true) ∧
    (∃ (s : State) (peer : BitVec 12) (p : Reassembly) (a : Attempt), s.powered = true ∧ s.links.parts.find? (fun p => p.src == peer.toNat) = some p ∧
        attemptOf s peer.toNat = some a ∧ a.dik = 0) :=
  ⟨⟨State.reset, ⟨1, 9, 4, [5, 0, 9, 0x30, 7, 0, 0, 0, 0, 0, 0, 0, 0, 0, 0, 0x10], 0⟩, by decide +kernel⟩,
  ⟨State.reset, ⟨1, 9, 4, [5, 0, 9, 0x30, 7, 0, 0, 0, 0, 0, 0, 0, 0, 0, 0, 0x10], 0⟩, by decide +kernel⟩,
  ⟨State.reset, ⟨1, 9, 4, [5, 0, 9, 0x30, 7, 0, 0, 0, 0, 0, 0, 0, 0, 0, 0, 0x10], 0⟩, by decide +kernel⟩,
  ⟨{ st [(R.NODE_MODE_MODE, 1), (R.SO_STATUS_RUN, 1)] with
      links := { Links.reset with inbox := [⟨1, 8, 4, [5, 0, 9, 0x30, 7, 0, 0, 0, 0, 0, 0, 0, 0, 0, 0, 0x10], 0⟩] } }, ⟨1, 8, 4, [5, 0, 9, 0x30, 7, 0,
      0, 0, 0, 0, 0, 0, 0, 0, 0, 0x10], 0⟩, by decide +kernel⟩,
  ⟨{ { st [(R.NODE_MODE_MODE, 4)] with
        image := some ({ imP with targets := [⟨5, 0, 0, 0, 15, 0, 1065353216⟩, ⟨6, 2, 0, 0, 15, 0, 0⟩] }), time := { TimeBase.reset with
          acc := 2 ^ 100 } } with
      links := { Links.reset with inbox := [⟨1, 9, 4, [5, 0, 9, 0x30, 7, 0, 0, 0, 0, 0, 0, 0, 0, 0, 0, 0x10], 0⟩] } }, ⟨1, 9, 4, [5, 0, 9, 0x30, 7, 0,
      0, 0, 0, 0, 0, 0, 0, 0, 0, 0x10], 0⟩, by decide +kernel⟩,
  ⟨{ State.reset with links := { Links.reset with inbox := [⟨2, 9, 4, [], 0⟩] } }, ⟨2, 9, 4, [], 0⟩, by decide +kernel⟩,
  ⟨{ st [(R.NODE_MODE_MODE, 1), (R.SO_STATUS_RUN, 1)] with links := { Links.reset with inbox := [⟨3, 9, 4, [7, 7], 0⟩] } }, ⟨3, 9, 4, [7, 7], 0⟩,
      by decide +kernel⟩,
  ⟨State.reset, 9, by decide +kernel⟩,
  ⟨{ State.reset with links := { Links.reset with parts := [⟨9, 3, 0, 1⟩] } }, 9, ⟨9, 3, 0, 1⟩, by decide +kernel⟩,
  ⟨{ { st [(R.NODE_MODE_MODE, 1), (R.SO_STATUS_RUN, 1)] with security := { Security.reset with attempts := [⟨9, [1], 0, [2], 0, 0, none, 0,
                                                                                               []⟩] } } with
      links := { Links.reset with parts := [⟨9, 3, 0, 1⟩] } }, 9, ⟨9, 3, 0, 1⟩, ⟨9, [1], 0, [2], 0, 0, none, 0, []⟩, by decide +kernel⟩⟩

end Sys2Proof.Tests
end

section
/-!
What one command of any kind can do, said once: it answers a next state that keeps the queue and follows from the state before by changes
that keep a sound state sound (`Ev` of Laws/Evolve.lean). The statements about every step rest on it.
-/
namespace Sys2Proof.Machine

/-- The set of all parts and registers: `mask` numbers them below 700. -/
def everyPart : Nat := 2 ^ 700 - 1

/-- The outcome is a next state that follows from `s` by changes in the set `m`; `Keeps` holds its queue to the queue of `s`. -/
def Answered (m : Nat) (s : State) (o : Host.Outcome State Fault Refusal) : Prop := ∃ t, o = .next t ∧ Ev m s t

namespace Answered
variable {m : Nat} {s t : State}

protected theorem answers (h : Ev m s t) : Answered m s (answers s t) := by
  have hp : t.pending = s.pending := h.keeps.pending
  exact ⟨t, by rw [Machine.answers, ← hp], h⟩

/-- A command that needs a condition leaves the state as it is where the condition fails. -/
theorem answersIf {b : Bool} (h : Ev m s t) : Answered m s (Machine.answers s (if b then t else s)) := .answers (.ite h (.refl m s))

protected theorem runs (h : Ev m s t) : Answered m s (runs s t) := answersIf h

protected theorem runsBy {r : Requester} (h : Ev m s t) : Answered m s (runsBy r s t) := answersIf h

protected theorem runsLink (h : Ev m s t) : Answered m s (runsLink s t) := answersIf h

/-- A read hands words to its requester: its result, all ones in a WATCHDOG or HOST reset (Table CK-4), or nothing at all. -/
protected theorem readRuns {r n : Nat} {x : List Nat × State} (h : Ev m s x.2) (hm : Cov everyPart m) : Answered m s (readRuns s r n x) := by
  unfold Machine.readRuns
  split
  · exact .answers (State.readBack_ev h)
  · split
    · exact .answers (State.readBack_ev (.refl m s))
    · exact .answers (.refl m s)

end Answered

/-- Every command answers a next state, reached by changes that keep a sound state sound: what its operation may change (Laws/Ev*.lean). -/
theorem exec_answered {m : Nat} (hm : Cov everyPart m) (c : Instr) (s : State) : Answered m s (exec c s) :=
  match c with
  | .frameStart => .runs (nodeFrameStart_ev (.refl _ s))
  | .trayTick => .runs (trayTick_ev (.refl _ s))
  | .safetyCycle _ _ => .runs (safetyCycle_ev (.refl _ s))
  | .axisEvaluation => .runs (axisEvaluation_ev (.refl _ s))
  | .servoUpdate _ _ => .runs (measurement_ev (.refl _ s))
  | .ppsEdge _ => .runs (ppsEdge_ev (.refl _ s))
  | .sourceUnusable _ => .runs (sourceLost_ev (.refl _ s))
  | .holdoverBoundExceeded => .runs (boundExceeded_ev (.refl _ s))
  | .postmarkSecondsEnd => .runs (.ite (.refl _ s) (State.ticks_ev (.refl _ s)))
  | .postSet _ _ => .runsBy (busWrite_ev (.refl _ s))
  | .shadowLoRead _ _ => .readRuns (sizedRead_ev (.refl _ s)) hm
  | .shadowHiRead _ _ => .readRuns (sizedRead_ev (.refl _ s)) hm
  | .shadowLoWrite _ _ _ => .runsBy (busWrite_ev (.refl _ s))
  | .shadowHiWrite _ _ _ => .runsBy (busWrite_ev (.refl _ s))
  | .wideAccess _ (some _) => .runs (wideWrite_ev (.refl _ s))
  | .wideAccess _ none => .readRuns (sizedRead_ev (.refl _ s)) hm
  | .readToClear _ _ _ => .readRuns (sizedRead_ev (.refl _ s)) hm
  | .writeOneToClear _ _ _ => .runsBy (busWrite_ev (.refl _ s))
  | .registerWrite _ _ _ _ => .runsBy (sizedWrite_ev (.refl _ s))
  | .identWrite _ _ => .runsBy (identWrite_ev (.refl _ s))
  | .acceptCommand _ => .runs (commandEnter_ev (.refl _ s))
  | .wireTargetCommand _ => .runs (.ite (commandEnter_ev (.refl _ s)) (.refl _ s))
  | .start _ _ _ => .runs (startCommand_ev (.refl _ s))
  | .requestStandby _ => .runsBy (modeReqWrite_ev (.refl _ s))
  | .requestCommission _ => .runsBy (modeReqWrite_ev (.refl _ s))
  | .requestEnergize _ => .runsBy (modeReqWrite_ev (.refl _ s))
  | .requestReplay _ => .runsBy (modeReqWrite_ev (.refl _ s))
  | .requestRun _ => .runsBy (modeReqWrite_ev (.refl _ s))
  | .requestQuiet _ => .runsBy (modeReqWrite_ev (.refl _ s))
  | .requestHibernate _ => .runsBy (modeReqWrite_ev (.refl _ s))
  | .quietEntry => .runs (.ite (.ite (nodeFrameStart_ev (.refl _ s)) (trayTick_ev (.refl _ s))) (.refl _ s))
  | .quietExit => .runs (.ite (trayTick_ev (.refl _ s)) (.refl _ s))
  | .fabricResume => .runs (fabricResume_ev (.refl _ s))
  | .hibernateEntry => .runs (.ite (.ite (nodeFrameStart_ev (.refl _ s)) (trayTick_ev (.refl _ s))) (.refl _ s))
  | .energizeTimeout => .runs (energizeTimeout_ev (.refl _ s))
  | .stopRampEnd => .runs (.ite (cycleHeld_ev (stopRampEnd_ev (.refl _ s))) (.refl _ s))
  | .lrstPress => .answers (.ite (lrstPress_ev (.refl _ s)) (.upd (.refl _ s) rfl rfl))
  | .lockoutSelfCheckDone _ => .runs (selfCheckDone_ev (.refl _ s))
  | .lrstRelease =>
    have h := lrstRelease_ev (.refl _ s)
    .answers (.ite (.ite (activateMarked_ev h) h) (.upd (.refl _ s) rfl rfl))
  | .lrstStuck => .runs (lrstStuck_ev (.refl _ s))
  | .testLight _ => .runsBy (testRequest_ev (.refl _ s))
  | .testFull _ => .runsBy (testRequest_ev (.refl _ s))
  | .testCal _ => .runsBy (testRequest_ev (.refl _ s))
  | .testDone _ _ => .runs (testDone_ev (.refl _ s))
  | .bootComplete _ => .runs (bootComplete_ev (.refl _ s))
  | .inputHoldFault _ => .runs (inputHoldFault_ev (.refl _ s))
  | .budgetExhausted _ => .runs (budgetExhausted_ev (.refl _ s))
  | .rampOrigin _ => .runs (rampOrigin_ev (.refl _ s))
  | .slotTime _ => .runs (slotTime_ev (.refl _ s))
  | .busStatePersist _ => .runs (busStatePersist_ev (.refl _ s))
  | .syncOk _ => .runs (syncOk_ev (.refl _ s))
  | .syncTimeout _ => .runs (syncTimeout_ev (.refl _ s))
  | .rampStall _ => .runs (rampStall_ev (.refl _ s))
  | .poleSlip _ => .runs (poleSlip_ev (.refl _ s))
  | .tvimpHoldEnd _ => .runs (tvimpHoldEnd_ev (.refl _ s))
  | .tvimpBlendEnd _ => .runs (tvimpBlendEnd_ev (.refl _ s))
  | .fabricOverrun _ => .runs (fabricOverrun_ev (.refl _ s))
  | .fabricFault _ _ => .runs (fabricFault_ev (.refl _ s))
  | .freezeWindow _ _ => .runsBy (freezeWrite_ev (.refl _ s))
  | .imgOpen _ _ => .runsBy (imgOpen_ev (.refl _ s))
  | .imgDataWrite _ _ => .runsBy (imgData_ev (.refl _ s))
  | .imgCommit _ _ => .runsBy (imgCommit_ev (.refl _ s))
  | .imgActivate _ _ => .runsBy (imgActivate_ev (.refl _ s))
  | .imgErase _ _ => .runsBy (imgErase_ev (.refl _ s))
  | .imgAbort _ _ => .runsBy (imgAbort_ev (.refl _ s))
  | .activationStop => .runs (activationStop_ev (.refl _ s))
  | .activationStart => .runs (activationStart_ev (.refl _ s))
  | .reload _ => .runs (reload_ev (.refl _ s))
  | .stagedWrite _ _ _ _ => .runsBy (stagedWrite_ev (.refl _ s))
  | .bridgeLoad _ _ => .runsBy (bridgeLoad_ev (.refl _ s))
  | .globalLoad _ => .runsBy (globalLoad_ev (.refl _ s))
  | .force _ _ _ => .runsBy (forceWrite_ev (.refl _ s))
  | .setSource _ _ _ => .runsBy (setSource_ev (.refl _ s))
  | .readbackError _ _ => .runs (readbackError_ev (.refl _ s))
  | .legTripInput _ _ => .runs (legTripInput_ev (.refl _ s))
  | .blankWindowEnd _ => .runs (blankWindowEnd_ev (.refl _ s))
  | .windowComparator _ _ => .runs (comparatorSet_ev (.refl _ s))
  | .legLatchClear _ _ _ => .runsBy (legLatchClear_ev (.refl _ s))
  | .bridgeTripClear _ => .runs (bridgeTripClear_ev (.refl _ s))
  | .senseTrigger _ _ _ => .runs (frameSampled_ev (senseTrigger_ev (.refl _ s)))
  | .sliceOverload _ _ => .runs (sliceOverload_ev (.refl _ s))
  | .bitstreamLost _ => .runs (bitstreamLost_ev (.refl _ s))
  | .lostEnd _ => .runs (lostEnd_ev (.refl _ s))
  | .calStep => .runs (calStep_ev (.refl _ s))
  | .calStepFail _ => .runs (calFail_ev (.refl _ s))
  | .snapshotRequest _ _ => .runsBy (snapshotRequest_ev (.refl _ s))
  | .snapshotPost => .runs (snapPost_ev (.refl _ s))
  | .resamplerOutput _ => .runs (resamplerOutput_ev (.refl _ s))
  | .bankRequest _ _ _ => .runsBy (bankRequest_ev (.refl _ s))
  | .sourceChange _ _ _ => .runsBy (sourceRequest_ev (.refl _ s))
  | .postEnvelope _ => .runsBy (softPost_ev (.refl _ s))
  | .trayInsert _ _ => .runsBy (trayInsert_ev (.refl _ s))
  | .completeEnvelope _ => .runsBy (completeEnvelope_ev (.refl _ s))
  | .cancelEnvelope _ _ => .runsBy (cancelEnvelope_ev (.refl _ s))
  | .cancelTrayEntry _ _ => .runsBy (cancelTrayEntry_ev (.refl _ s))
  | .dispatch => .runs (dispatchCycle_ev (.refl _ s))
  | .ledgerLoss => .runs (ledgerLoss_ev (.refl _ s))
  | .windowArm _ _ => .runsBy (windowArm_ev (.refl _ s))
  | .windowStop _ _ => .runsBy (windowStop_ev (.refl _ s))
  | .windowForce _ _ => .runsBy (windowForce_ev (.refl _ s))
  | .segmentClose _ => .runs (segmentDone_ev (.refl _ s))
  | .flightRecordHold _ => .runsBy (holdWrite_ev (.refl _ s))
  | .flightRecordRelease _ => .runsBy (holdWrite_ev (.refl _ s))
  | .autoholdStop => .runs (autoholdStop_ev (.refl _ s))
  | .frDataRead _ => .readRuns (sizedRead_ev (.refl _ s)) hm
  | .frDataWrite _ _ => .runsBy (busWrites_ev (.refl _ s))
  | .bundleReceived _ => .runsLink (bundleReceived_ev (.refl _ s))
  | .twinCmdReceived _ _ => .runsLink (cmdReceived_ev (.refl _ s))
  | .bundleMissed => .runs (bundleMissed_ev (.refl _ s))
  | .hashReceived _ _ => .runsLink (hashReceived_ev (.refl _ s))
  | .arbitrationOutcome _ _ => .runsLink (arbitrationOutcome_ev (.refl _ s))
  | .handover _ => .runsBy (handover_ev (.refl _ s))
  | .handoverRequestReceived => .runsLink (handoverReceived_ev (.refl _ s))
  | .linkLoss => .runs (linkLoss_ev (.refl _ s))
  | .twinLinkUp => .runsLink (linkReturns_ev (.refl _ s))
  | .takeover => .runs (takeover_ev (.refl _ s))
  | .alone _ => .runsBy (alone_ev (.refl _ s))
  | .rejoin _ => .runsBy (rejoin_ev (.refl _ s))
  | .hello _ => .runsLink (hello_ev (.refl _ s))
  | .twinTime _ => .runsLink (twinTime_ev (.refl _ s))
  | .forwardedCommand _ => .runsLink (forwarded_ev (.refl _ s))
  | .mirror _ _ _ => .runsLink (mirror_ev (.refl _ s))
  | .mirrorAckTimeout _ => .runs (mirrorTimeout_ev (.refl _ s))
  | .resyncRequest => .runs (resyncRequest_ev (.refl _ s))
  | .stateTransfer _ => .runsLink (stateTransfer_ev (.refl _ s))
  | .resyncComplete => .runs (resyncComplete_ev (.refl _ s))
  | .partnerLightTest => .runs (partnerLight_ev (.refl _ s))
  | .safetyInputChange _ _ _ => .runs (setOutBits_ev (.refl _ s) (R.SAF_IN_LEVEL_in .use))
  | .discrepancy _ => .runs (by
      split
      · exact cycleDue_ev (.refl _ s)
      · exact .refl _ s)
  | .stoInput _ _ => .runs (stoInput_ev (.refl _ s))
  | .stoDiscrepancy => .runs (by
      split
      · exact cycleDue_ev (.refl _ s)
      · exact .refl _ s)
  | .ss1Timeout => .runs (by
      split
      · exact cycleDue_ev (.refl _ s)
      · exact .refl _ s)
  | .contactorOpenDelay _ => .runs (by
      split
      · exact cycleDue_ev (.refl _ s)
      · exact .refl _ s)
  | .testPulseEnd o ok =>
    have h := pulseEnd_ev (.refl _ s)
    .runs (.ite h (cycleHeld_ev h))
  | .testPulseRequest _ _ => .runsBy (testPulseRequest_ev (.refl _ s))
  | .outputReadback _ => .runs (outputReadback_ev (.refl _ s))
  | .feedback _ _ => .runs (feedbackLevel_ev (.refl _ s))
  | .registeredFrame _ _ _ => .runsLink (frameIn_ev (.refl _ s))
  | .connectionExpiry _ => .runs (by
      split
      · exact cycleHeld_ev (State.runTo_ev (.refl _ s))
      · exact .refl _ s)
  | .registeredFrameSend _ => .runsLink (frameSend_ev (.refl _ s))
  | .insulationMeasure _ _ => .runs (isoMeasure_ev (.refl _ s))
  | .conlockRelease => .runs (by
      split
      · exact cycleDue_ev (.refl _ s)
      · exact .refl _ s)
  | .enrOpen _ => .runsBy (enrOpen_ev (.refl _ s))
  | .enrDataWrite _ _ => .runsBy (enrData_ev (.refl _ s))
  | .install _ => .runsBy (install_ev (.refl _ s))
  | .rekeyx _ => .runsBy (rekeyx_ev (.refl _ s))
  | .dxkGenerated => .runs (dxkGenerated_ev (.refl _ s))
  | .extend _ => .runsBy (extend_ev (.refl _ s))
  | .close _ _ => .runsBy (sessionClose_ev (.refl _ s))
  | .fwOpen _ _ => .runsBy (fwOpen_ev (.refl _ s))
  | .fwDataWrite _ _ => .runsBy (fwData_ev (.refl _ s))
  | .fwCommit _ _ => .runsBy (fwCommit_ev (.refl _ s))
  | .fwMark _ _ => .runsBy (fwMark_ev (.refl _ s))
  | .confirm _ => .runsBy (fwConfirm_ev (.refl _ s))
  | .fwErase _ _ => .runsBy (fwErase_ev (.refl _ s))
  | .fwAbort _ _ => .runsBy (fwAbort_ev (.refl _ s))
  | .revoke0 _ => .runsBy (revoke0_ev (.refl _ s))
  | .frankRequest _ => .runsBy (frankRequest_ev (.refl _ s))
  | .statementCapture => .runs (statementCapture_ev (.refl _ s))
  | .statementReady => .runs (statementReady_ev (.refl _ s))
  | .frankReq _ => .runsLink (frankReqIn_ev (.refl _ s))
  | .frankRep _ => .runsLink (frankRepIn_ev (.refl _ s))
  | .keyTransport _ => .runsLink (keyTransportIn_ev (.refl _ s))
  | .keyConfirm _ => .runsLink (keyConfirmIn_ev (.refl _ s))
  | .keyTransportTimeout _ => .runs (keyTimeout_ev (.refl _ s))
  | .sessionFrame _ => .runsLink (sessionFrameIn_ev (.refl _ s))
  | .sessionRekey _ => .runs (sessionRekey_ev (.refl _ s))
  | .oldSessionExpiry _ => .runs (oldExpiry_ev (.refl _ s))
  | .broadcast _ => .runsLink (broadcastIn_ev (.refl _ s))
  | .rngHealthFail => .runs (rngFail_ev (.refl _ s))
  | .rngRead _ => .runsBy (State.readBack_ev (rngRead_ev (.refl _ s)))
  | .siteCommand _ => .runsLink (siteCommand_ev (.refl _ s))
  | .siteDeadLetter _ => .runsLink (siteDeadLetter_ev (.refl _ s))
  | .siteData _ => .runsLink (siteData_ev (.refl _ s))
  | .reassemblyTimeout _ => .runs (reassemblyTimeout_ev (.refl _ s))
  | .sitePortUp _ => .runsLink (portUp_ev (.refl _ s))
  | .sitePortDown _ => .runsLink (portDown_ev (.refl _ s))
  | .ptpMessage _ => .runsLink (ptpMessage_ev (.refl _ s))
  | .functionLevelReset => .runs (flr_ev (.refl _ s))
  | .qspiRead _ _ => .readRuns (spiReads_ev (.refl _ s)) hm
  | .qspiReadCap _ _ => .readRuns (spiCaps_ev (.refl _ s)) hm
  | .qspiWrite _ _ => .runs (busWrites_ev (.refl _ s))
  | .qspiStatus => .readRuns (spiStatus_ev (.refl _ s)) hm
  | .canFrameReceived _ => .runsLink (canReceive_ev (.refl _ s))
  | .canTxRequest _ _ _ => .runsBy (canRequest_ev (.refl _ s))
  | .canTxDone _ _ => .runsLink (canSent_ev (.refl _ s))
  | .canBusOff _ => .runsLink (canOff_ev (.refl _ s))
  | .canBusOffRecovery _ => .runsLink (canRecover_ev (.refl _ s))
  | .referenceEdgeGap => .runs (edgeGap_ev (.refl _ s))
  | .lockWindowEnd _ => .runs (lockWindow_ev (.refl _ s))
  | .tuningRangeEnd => .runs (tuningEnd_ev (.refl _ s))
  | .referenceSelect _ _ => .runsBy (refWrite_ev (.refl _ s))
  | .cold _ => .answers (resetAssert_ev (.refl _ s))
  | .brownout _ => .answers (resetAssert_ev (.refl _ s))
  | .pin => .answers (pinLow_ev (.refl _ s))
  | .watchdogExpiry => .runs (wdogExpire_ev (.refl _ s))
  | .hostReset _ _ => .runsBy (hostReset_ev (.refl _ s))
  | .resetRelease _ => .answers (resetRelease_ev (.refl _ s))
  | .watchdogKick _ _ => .runsBy (wdogKick_ev (.refl _ s))
  | .wake _ => .answers (wake_ev (.refl _ s))
  | .dieTempSample _ => .runs (dieTempSample_ev (.refl _ s))
  | .ringMeasure _ => .runs (ringMeasure_ev (.refl _ s))
  | .hourlyUpdate => .runs (hourlyUpdate_ev (.refl _ s))
  | .counterFlush => .runs (counterFlush_ev (.refl _ s))
  | .retentionRewrite _ => .runs (retentionRewrite_ev (.refl _ s))
  | .dcLinkWindow _ _ => .runs (dcLinkWindow_ev (.refl _ s))
  | .reportNow _ => .runsBy (reportNow_ev (.refl _ s))
  | .reportPeriod => .runs (reportPeriod_ev (.refl _ s))
  | .targetCommit _ _ _ => .runsBy (busWrite_ev (.refl _ s))
  | .softLimitCommit _ _ _ _ => .runsBy (busWrite_ev (.refl _ s))
  | .home _ _ => .runsBy (axOp_ev (.refl _ s))
  | .stop _ _ => .runsBy (axOp_ev (.refl _ s))
  | .qstop _ _ => .runsBy (axOp_ev (.refl _ s))
  | .enable _ _ => .runsBy (axOp_ev (.refl _ s))
  | .disable _ _ => .runsBy (axOp_ev (.refl _ s))
  | .homingEdge _ _ => .runs (homingEdge_ev (.refl _ s))
  | .limitSwitch _ _ => .runs (limitSwitch_ev (.refl _ s))
  | .driverFault _ => .runs (driverFault_ev (.refl _ s))
  | .followingError _ => .runs (followingError_ev (.refl _ s))
  | .latchEdge _ _ => .runs (latchEdge_ev (.refl _ s))
  | .ssiRead _ _ => .runs (ssiRead_ev (.refl _ s))
  | .crystalEdge => .answers (alarmWake_ev (crystalEdge_ev (.refl _ s)))
  | .encoderTransition _ _ _ _ => .runs (encoderTransition_ev (.refl _ s))
  | .mirrorAck _ => .runsLink (mirrorSend_ev (.refl _ s))
  | .uncorrectableMemoryError => .runs (memoryError_ev (.refl _ s))
  | .pcieLinkChange _ _ _ => .runs (pcieLink_ev (.refl _ s))

/-- A step answers too, with the rest of the queue waiting; on an empty queue it is one tick of D1. -/
theorem step_cases {s t : State} (h : step s = .next t) :
    (s.pending = [] ∧ t = s.tick) ∨ ∃ c cs, s.pending = c :: cs ∧ Ev everyPart { s with pending := cs } t := by
  unfold step at h
  split at h
  · rename_i hp
    cases h
    exact .inl ⟨hp, rfl⟩
  · rename_i c cs hp
    obtain ⟨u, hu, hev⟩ := exec_answered (m := everyPart) (Nat.and_self _) c { s with pending := cs }
    cases hu.symm.trans h
    exact .inr ⟨c, cs, hp, hev⟩

end Sys2Proof.Machine
end

section
/-!
W1C and RC fields under a clear, in the D3 cycle in which hardware sets them and in any other (spec/00_scope.md R5, R6), and what the bus does
at the addresses whose access codes `Obligations.AccessCodes` speaks of.
-/
namespace Sys2Proof.Machine

/-! ### Clears (R6) -/

section clears
variable {s : State} {f g : Fld} {keep b k : Nat}

/-- A field that hardware has not set in this D3 cycle reads its value. -/
theorem shown_of_unset (h : sget none s.cycleSets f.key = none) : s.shown f = s.get f := by
  unfold State.shown
  rw [h]
  exact ite_self _

/-- A W1C or RC field that hardware has set in this D3 cycle reads its value from before. -/
theorem shown_of_set (ha : f.acc = .w1c ∨ f.acc = .rc) (h : sget none s.cycleSets f.key = some (b, k)) : s.shown f = b := by
  unfold State.shown
  rw [if_pos ha, h]

theorem clear_of_unset (h : sget none s.cycleSets f.key = none) : s.clear f keep = s.put f (s.get f &&& keep) := by
  unfold State.clear
  rw [h]

theorem clear_of_set (h : sget none s.cycleSets f.key = some (b, k)) : s.clear f keep
    = { s.put f ((b &&& keep) ||| k) with cycle := { s.cycle with sets := sset none s.cycleSets f.key (some (b &&& keep, k)) } } := by
  unfold State.clear
  rw [h]

theorem get_clear_of_unset (h : sget none s.cycleSets f.key = none) : (s.clear f keep).get f = (s.get f &&& keep) % 2 ^ min f.width 32 := by
  rw [clear_of_unset h, get_put_same]

/-- What hardware sets in the same D3 cycle outlasts the clear. -/
theorem get_clear_of_set (h : sget none s.cycleSets f.key = some (b, k)) :
    (s.clear f keep).get f = ((b &&& keep) ||| k) % 2 ^ min f.width 32 := by
  rw [clear_of_set h]
  exact get_put_same

theorem get_clear_ne (h : g.key ≠ f.key) : (s.clear f keep).get g = s.get g := by
  unfold State.clear
  split <;> exact get_put_ne h

@[simp] theorem clear_fresh : (s.clear f keep).fresh = s.fresh := by
  unfold State.clear
  split <;> rfl

@[simp] theorem clear_lastRead {r : Requester} : (s.clear f keep).lastRead r = s.lastRead r := clear_reads.lastRead r

/-- Something noted at a key means that what is noted is of the present D3 cycle. -/
theorem cycle_current (h : sget none s.cycleSets f.key = some (b, k)) : s.cycle.at_ = s.cycleNo := by
  refine Decidable.byContradiction fun hc => ?_
  rw [State.cycleSets, if_neg hc] at h
  cases h

/-- A clear leaves what is noted of every other field. -/
theorem cycleSets_clear_ne (h : g.key ≠ f.key) : sget none (s.clear f keep).cycleSets g.key = sget none s.cycleSets g.key := by
  cases hs : sget none s.cycleSets f.key with
  | none => rw [clear_of_unset hs]; rfl
  | some x =>
    have hc : (s.clear f keep).cycleSets = sset none s.cycleSets f.key (some (x.1 &&& keep, x.2)) := by
      rw [clear_of_set hs]
      exact if_pos (cycle_current hs)
    rw [hc, sget_sset_ne h]

/-- A clear of a field that is not set in this D3 cycle changes its register alone. -/
theorem clear_of_unset_ev {m : Nat} {r : State} (h : Ev m r s) (hs : sget none s.cycleSets f.key = none) (hf : RegIn m f.key) :
    Ev m r (s.clear f keep) := by
  rw [clear_of_unset hs]
  exact State.put_ev h hf

end clears

/-- What a written word leaves of a one-bit W1C field at bit `i`. -/
theorem w1c_bit {x v i : Nat} : (x &&& ((2 ^ 1 - 1) ^^^ v / 2 ^ i % 2 ^ 1)) % 2 = if v.testBit i then 0 else x % 2 := by
  have hbit : v / 2 ^ i % 2 = 0 ∨ v / 2 ^ i % 2 = 1 := Nat.mod_two_eq_zero_or_one _
  obtain h | h := hbit <;> simp [Nat.testBit_eq_decide_div_mod_eq, h, Nat.and_one_is_mod]

/-! ### The bus at the addresses of single registers -/

variable {s : State} {n v : Nat}

/-- A write at an aligned address outside the windows and the writable pairs goes to the register there, if there is one. -/
theorem busWrite_register {a : Nat} (h4 : a % 4 = 0) (hw : windowWrite s n a v = none) (hl : isWrLo a = false) (hh : isWrHi a = false) :
    busWrite s n a v = if (regFields Config.gradeFuse n a).isNone then addrError s n 1 a else regWrite s n a v := by
  simp [busWrite, h4, hw, hl, hh]

/-- A read of POST_ACC gives its two counts as they stood before the D3 cycle, and clears both. -/
theorem sizedRead_postAcc : sizedRead s n 0x10034 4
    = ([s.shown R.POST_ACC_SUPER * 2 ^ 16 + s.shown R.POST_ACC_LATE], (s.clear R.POST_ACC_SUPER 0).clear R.POST_ACC_LATE 0) := by
  have hlive : live s n 0x10034 = s := by simp [live]
  have hword : fieldsWord s [R.POST_ACC_SUPER, R.POST_ACC_LATE] = s.shown R.POST_ACC_SUPER * 2 ^ 16 + s.shown R.POST_ACC_LATE := by
    simp [fieldsWord, R.POST_ACC_SUPER, R.POST_ACC_LATE]
  have hclear : clearRead s [R.POST_ACC_SUPER, R.POST_ACC_LATE] = (s.clear R.POST_ACC_SUPER 0).clear R.POST_ACC_LATE 0 := rfl
  have hfresh : ((s.clear R.POST_ACC_SUPER 0).clear R.POST_ACC_LATE 0).fresh = s.fresh := by simp
  have hreg : regRead s n 0x10034 [R.POST_ACC_SUPER, R.POST_ACC_LATE]
      = (s.shown R.POST_ACC_SUPER * 2 ^ 16 + s.shown R.POST_ACC_LATE, (s.clear R.POST_ACC_SUPER 0).clear R.POST_ACC_LATE 0) := by
    simp only [regRead, hlive, hword, hclear, ← hfresh]
  have hfields : regFields Config.gradeFuse n 0x10034 = some [R.POST_ACC_SUPER, R.POST_ACC_LATE] := rfl
  have hwindow : windowRead s n 0x10034 = none := by simp [windowRead, coreOnly]
  have hmet : ledgerMet s 0x10034 = s := by simp [ledgerMet]
  have hlo : isLo 0x10034 = false := by decide
  have hhi : isHi 0x10034 = false := by decide
  simp [sizedRead, busRead, readWord, hlo, hhi, hmet, hwindow, hfields, hreg]

/-- A write of POST_STATUS clears CHANGED and STEPPED where its bits are 1. -/
theorem busWrite_postStatus : busWrite s n 0x10008 v
    = (s.clear R.POST_STATUS_CHANGED ((2 ^ 1 - 1) ^^^ v / 2 ^ 8 % 2 ^ 1)).clear R.POST_STATUS_STEPPED ((2 ^ 1 - 1) ^^^ v / 2 ^ 7 % 2 ^ 1) := by
  have hwindow : windowWrite s n 0x10008 v = none := by simp [windowWrite, coreOnly]
  rw [busWrite_register (by decide) hwindow (by decide) (by decide)]
  rfl

/-- A write of LK_HIRQ_EN puts its field. -/
theorem busWrite_hirqEn : busWrite s n 0x600008 v = s.put R.LK_HIRQ_EN_EN (v / 2 ^ 0 % 2 ^ 14) := by
  have hwindow : windowWrite s n 0x600008 v = none := by simp [windowWrite, coreOnly]
  rw [busWrite_register (by decide) hwindow (by decide) (by decide)]
  rfl

/-- No register, no window and no pair lies at or above 0x3000000 (R27). -/
theorem busWrite_unmapped {a : Nat} (h4 : a % 4 = 0) (ha : 0x3000000 ≤ a) : busWrite s n a v = addrError s n 1 a := by
  have hwr : ∀ b, 0x2000000 ≤ b → isWrLo b = false := by
    intro b hb
    simp [isWrLo, axisLo]
    omega
  have hcore : coreOnly a = false := by
    simp [coreOnly]
    omega
  have hwindow : windowWrite s n a v = none := by
    rw [windowWrite, if_neg (by simp [hcore]), if_neg (by omega), if_neg (by omega), if_neg (by omega)]
  have hblock : regBlock Config.gradeFuse a = [] := by
    unfold regBlock
    repeat rw [if_neg (by omega)]
  have hfields : regFields Config.gradeFuse n a = none := by rw [regFields, hblock]; rfl
  have hhi : isWrHi a = false := by simp [isWrHi, hwr (a - 4) (by omega)]
  rw [busWrite_register h4 hwindow (hwr a (by omega)) hhi, hfields]
  rfl

end Sys2Proof.Machine
end

section
/-! The clauses of `Obligations.AccessCodes` (spec/00_scope.md R5, R6, R9; spec/01_node.md R524). -/
namespace Sys2Proof.Machine

section reads
variable {s : State} {r : Requester}

/-- A READ_TO_CLEAR of POST_ACC that is served, from what its operation may change. -/
theorem readToClear_postAcc {m : Nat} {p : State → Prop} (hp : s.serves r.num = true)
    (e : Ev m s (((s.clear R.POST_ACC_SUPER 0).clear R.POST_ACC_LATE 0).readBack r.num
      [s.shown R.POST_ACC_SUPER * 2 ^ 16 + s.shown R.POST_ACC_LATE]))
    (hx : p (((s.clear R.POST_ACC_SUPER 0).clear R.POST_ACC_LATE 0).readBack r.num
      [s.shown R.POST_ACC_SUPER * 2 ^ 16 + s.shown R.POST_ACC_LATE])) :
    Does (.readToClear r 0x10034 4) s m p := by
  have hc : exec (.readToClear r 0x10034 4) s = readRuns s r.num 1
      ([s.shown R.POST_ACC_SUPER * 2 ^ 16 + s.shown R.POST_ACC_LATE], (s.clear R.POST_ACC_SUPER 0).clear R.POST_ACC_LATE 0) :=
    congrArg (readRuns s r.num 1) sizedRead_postAcc
  exact .of_reads hc hp e hx

/-- The counts of POST_ACC are two fields. -/
theorem postAcc_keys : R.POST_ACC_LATE.key ≠ R.POST_ACC_SUPER.key := by decide

theorem get_postAcc_cleared (hsuper : sget none s.cycleSets R.POST_ACC_SUPER.key = none) :
    ((s.clear R.POST_ACC_SUPER 0).clear R.POST_ACC_LATE 0).get R.POST_ACC_SUPER = 0 := by
  rw [get_clear_ne postAcc_keys.symm, get_clear_of_unset hsuper, Nat.and_zero, Nat.zero_mod]

theorem readToClear_postAcc_unset (hp : s.serves r.num = true) (hsuper : sget none s.cycleSets R.POST_ACC_SUPER.key = none)
    (hlate : sget none s.cycleSets R.POST_ACC_LATE.key = none) :
    Does (.readToClear r 0x10034 4) s (mask [.links] [.POST_ACC_SUPER, .POST_ACC_LATE]) fun t =>
      t.lastRead r = [s.get R.POST_ACC_SUPER * 2 ^ 16 + s.get R.POST_ACC_LATE] ∧ t.get R.POST_ACC_SUPER = 0 ∧ t.get R.POST_ACC_LATE = 0
      ∧ ∀ q, q ≠ r → t.lastRead q = s.lastRead q := by
  have hlate' : sget none (s.clear R.POST_ACC_SUPER 0).cycleSets R.POST_ACC_LATE.key = none := (cycleSets_clear_ne postAcc_keys).trans hlate
  have hsuperIn : RegIn (mask [.links] [.POST_ACC_SUPER, .POST_ACC_LATE]) R.POST_ACC_SUPER.key := R.POST_ACC_SUPER_in (by decide +kernel)
  have hlateIn : RegIn (mask [.links] [.POST_ACC_SUPER, .POST_ACC_LATE]) R.POST_ACC_LATE.key := R.POST_ACC_LATE_in (by decide +kernel)
  refine readToClear_postAcc hp (State.readBack_ev (clear_of_unset_ev (clear_of_unset_ev (.refl _ s) hsuper hsuperIn) hlate' hlateIn)
    (by decide +kernel)) ⟨?_, get_postAcc_cleared hsuper, ?_, fun q hq => ?_⟩
  · rw [lastRead_readBack, shown_of_unset hsuper, shown_of_unset hlate]
  · rw [get_readBack, get_clear_of_unset hlate', Nat.and_zero, Nat.zero_mod]
  · rw [lastRead_readBack_ne hq, clear_lastRead, clear_lastRead]

/-- A count that rises in the D3 cycle of the read keeps its rise (R6). -/
theorem readToClear_postAcc_set {b k : Nat} (hp : s.serves r.num = true) (hsuper : sget none s.cycleSets R.POST_ACC_SUPER.key = none)
    (hlate : sget none s.cycleSets R.POST_ACC_LATE.key = some (b, k)) :
    Does (.readToClear r 0x10034 4) s (mask [.links, .cycle] [.POST_ACC_SUPER, .POST_ACC_LATE]) fun t =>
      t.lastRead r = [s.get R.POST_ACC_SUPER * 2 ^ 16 + b] ∧ t.get R.POST_ACC_SUPER = 0 ∧ t.get R.POST_ACC_LATE = k % 2 ^ 16 := by
  have hlate' : sget none (s.clear R.POST_ACC_SUPER 0).cycleSets R.POST_ACC_LATE.key = some (b, k) :=
    (cycleSets_clear_ne postAcc_keys).trans hlate
  refine readToClear_postAcc hp (State.readBack_ev (State.clear_ev (State.clear_ev (.refl _ s) (R.POST_ACC_SUPER_in (by decide +kernel))
    (by decide +kernel)) (R.POST_ACC_LATE_in (by decide +kernel)) (by decide +kernel)) (by decide +kernel))
    ⟨?_, get_postAcc_cleared hsuper, ?_⟩
  · rw [lastRead_readBack, shown_of_unset hsuper, shown_of_set (.inr rfl) hlate]
  · rw [get_readBack, get_clear_of_set hlate', Nat.and_zero, Nat.zero_or]
    rfl

end reads

section writes
variable {s : State} {r : Requester}

/-- The flags of POST_STATUS are two fields. -/
theorem postStatus_keys : R.POST_STATUS_STEPPED.key ≠ R.POST_STATUS_CHANGED.key := by decide

theorem writeOneToClear_postStatus_unset {v : Word} (hp : s.serves r.num = true)
    (hchanged : sget none s.cycleSets R.POST_STATUS_CHANGED.key = none) (hstepped : sget none s.cycleSets R.POST_STATUS_STEPPED.key = none) :
    Does (.writeOneToClear r 0x10008 v) s (mask [] [.POST_STATUS_CHANGED, .POST_STATUS_STEPPED]) fun t =>
      t.get R.POST_STATUS_CHANGED = (if v.toNat.testBit 8 then 0 else s.get R.POST_STATUS_CHANGED % 2)
      ∧ t.get R.POST_STATUS_STEPPED = (if v.toNat.testBit 7 then 0 else s.get R.POST_STATUS_STEPPED % 2) := by
  have hstepped' (keep : Nat) : sget none (s.clear R.POST_STATUS_CHANGED keep).cycleSets R.POST_STATUS_STEPPED.key = none :=
    (cycleSets_clear_ne postStatus_keys).trans hstepped
  refine .of_answers (congrArg (runsBy r s) busWrite_postStatus) hp
    (clear_of_unset_ev (clear_of_unset_ev (.refl _ s) hchanged (R.POST_STATUS_CHANGED_in (by decide +kernel))) (hstepped' _)
      (R.POST_STATUS_STEPPED_in (by decide +kernel))) ⟨?_, ?_⟩
  · rw [get_clear_ne postStatus_keys.symm, get_clear_of_unset hchanged]
    exact w1c_bit
  · rw [get_clear_of_unset (hstepped' _), get_clear_ne postStatus_keys]
    exact w1c_bit

/-- A flag that hardware sets in the D3 cycle of the clear stays 1 (R6). -/
theorem writeOneToClear_postStatus_set {b : Nat} (hp : s.serves r.num = true)
    (hchanged : sget none s.cycleSets R.POST_STATUS_CHANGED.key = some (b, 1))
    (hstepped : sget none s.cycleSets R.POST_STATUS_STEPPED.key = none) :
    Does (.writeOneToClear r 0x10008 0x100) s (mask [.cycle] [.POST_STATUS_CHANGED, .POST_STATUS_STEPPED]) fun t =>
      t.get R.POST_STATUS_CHANGED = 1 ∧ t.get R.POST_STATUS_STEPPED = s.get R.POST_STATUS_STEPPED % 2 := by
  have hstepped' (keep : Nat) : sget none (s.clear R.POST_STATUS_CHANGED keep).cycleSets R.POST_STATUS_STEPPED.key = none :=
    (cycleSets_clear_ne postStatus_keys).trans hstepped
  refine .of_answers (congrArg (runsBy r s) busWrite_postStatus) hp
    (clear_of_unset_ev (State.clear_ev (.refl _ s) (R.POST_STATUS_CHANGED_in (by decide +kernel)) (by decide +kernel)) (hstepped' _)
      (R.POST_STATUS_STEPPED_in (by decide +kernel))) ⟨?_, ?_⟩
  · rw [get_clear_ne postStatus_keys.symm, get_clear_of_set hchanged]
    have hkeep : (2 ^ 1 - 1) ^^^ BitVec.toNat (0x100 : Word) / 2 ^ 8 % 2 ^ 1 = 0 := rfl
    rw [hkeep, Nat.and_zero]
    rfl
  · rw [get_clear_of_unset (hstepped' _), get_clear_ne postStatus_keys]
    exact w1c_bit (v := 0x100)

/-- A write of one word is one access (R9). -/
theorem exec_registerWrite_word {a v : Word} : exec (.registerWrite r a 4 v) s = runsBy r s (busWrite s r.num a.toNat v.toNat) := rfl

theorem registerWrite_hirqEn {v : Word} (hp : s.serves r.num = true) :
    Does (.registerWrite r 0x600008 4 v) s (mask [] [.LK_HIRQ_EN_EN]) fun t => t.get R.LK_HIRQ_EN_EN = v.toNat % 2 ^ 14 := by
  have hin : RegIn (mask [] [.LK_HIRQ_EN_EN]) R.LK_HIRQ_EN_EN.key := .name .LK_HIRQ_EN_EN 0 0 (by decide +kernel)
  refine .of_answers (exec_registerWrite_word.trans (congrArg (runsBy r s) busWrite_hirqEn)) hp (State.put_ev (.refl _ s) hin) ?_
  rw [get_put_same, Nat.pow_zero, Nat.div_one]
  exact Nat.mod_mod _ _

theorem registerWrite_unmapped {a v : Word} (hp : s.serves r.num = true) (h4 : a.toNat % 4 = 0) (ha : 0x3000000 ≤ a.toNat) :
    Does (.registerWrite r a 4 v) s (mask [.links, .cycle] [.NODE_ADDRERR_COUNT, .NODE_ADDRERR_REQ, .NODE_ADDRERR_KIND,
        .NODE_ADDRERR_ADDR_ADDR]) fun t =>
      t.get R.NODE_ADDRERR_KIND = 1 ∧ t.get R.NODE_ADDRERR_REQ = r.num ∧ t.get R.NODE_ADDRERR_ADDR_ADDR = a.toNat
      ∧ t.get R.NODE_ADDRERR_COUNT = min 65535 (s.get R.NODE_ADDRERR_COUNT + 1) := by
  have hnum : r.num < 16 := Nat.lt_trans (Requester.num_lt r) (by decide)
  obtain ⟨hcount, hreq, hkind, haddr⟩ := addrError_regs (s := s) (kind := 1) hnum (by decide) a.isLt
  exact .of_answers (exec_registerWrite_word.trans (congrArg (runsBy r s) (busWrite_unmapped h4 ha))) hp (addrError_ev (.refl _ s) (by decide +kernel))
    ⟨hkind, hreq, haddr, hcount⟩

end writes

end Sys2Proof.Machine
end

section
/-!
The statements about every command and every step (spec/00_scope.md).
-/
namespace Sys2Proof.Machine

/-- Soundness does not speak of the queue. -/
theorem Sound.withPending {s : State} {cs : List Instr} (h : Sound s) : Sound { s with pending := cs } := ⟨h.regs, h.time, h.memory⟩

/-- Settles O4: a tick and every command are changes that keep a sound state sound. -/
theorem stepKeepsSound : Obligations.StepKeepsSound := by
  intro s t hs h
  obtain ⟨-, rfl⟩ | ⟨c, cs, -, hev⟩ := step_cases h
  · have htick : Ev everyPart s s.tick := State.tick_ev (.refl _ s) (hm := by decide +kernel)
    exact htick.sound hs
  · exact hev.sound hs.withPending

/-- Settles O6: every command answers, and the changes it makes keep the queue. -/
theorem everyCommandAnswers : Obligations.EveryCommandAnswers := by
  intro c s
  obtain ⟨t, ht, hev⟩ := exec_answered (m := everyPart) (Nat.and_self _) c s
  exact ⟨t, ht, hev.keeps.pending⟩

/-- Settles O11, a lemma for each clause. -/
theorem accessCodes : Obligations.AccessCodes :=
  ⟨fun _ _ => readToClear_postAcc_unset, fun _ _ _ _ => readToClear_postAcc_set, fun _ _ _ => writeOneToClear_postStatus_unset,
    fun _ _ _ => writeOneToClear_postStatus_set, fun _ _ _ => registerWrite_hirqEn, fun _ _ _ _ => registerWrite_unmapped⟩

/-- Settles O1: the front of the queue is what a step takes. -/
theorem stepRunsFront : Obligations.StepRunsFront := fun _ _ _ => rfl

theorem sound_reset : Sound State.reset where
  regs := ⟨rfl, fun _ h => nomatch h⟩
  time := by decide
  memory := ⟨rfl, fun _ h => (nomatch h), rfl⟩

/-- With no register written every field reads its Reset value. -/
theorem get_reset (f : Fld) : State.reset.get f = f.reset := rfl

/-- Settles O3: the tables are empty after power-on, and the counter is 0. -/
theorem resetSound : Obligations.ResetSound := ⟨sound_reset, rfl, get_reset⟩

end Sys2Proof.Machine
end

section
/-!
Bytes and the lengths that SHA-512 keeps: a digest is 64 bytes, so the number a log entry holds (spec/15_security.md R410) gives it back.
-/
namespace Sys2Proof.Machine

theorem length_leBytes {n v : Nat} : (leBytes n v).length = n := by
  induction n generalizing v with
  | zero => rfl
  | succ n ih => exact congrArg (· + 1) ih

theorem length_beBytes {n v : Nat} : (beBytes n v).length = n := by
  rw [beBytes, List.length_reverse, length_leBytes]

/-- The bytes of the number that bytes make are those bytes. -/
theorem leBytes_leNat {bs : Bytes} : leBytes bs.length (leNat bs) = bs := by
  induction bs with
  | nil => rfl
  | cons b bs ih =>
    have hb : b.toNat < 256 := b.isLt
    have hhead : BitVec.ofNat 8 (b.toNat + 256 * leNat bs) = b :=
      BitVec.eq_of_toNat_eq (by rw [BitVec.toNat_ofNat]; omega)
    have htail : (b.toNat + 256 * leNat bs) / 256 = leNat bs := by omega
    rw [List.length_cons, leNat, leBytes, hhead, htail, ih]

/-- A round keeps the eight registers eight. -/
theorem length_shaRound {k w : Nat} {r : List Nat} : (shaRound k w r).length = r.length := by
  unfold shaRound
  split <;> rfl

theorem length_shaRounds {ks w r : List Nat} : (shaRounds ks w r).length = r.length := by
  induction ks generalizing w r with
  | nil => rfl
  | cons k ks ih => exact ih.trans length_shaRound

theorem length_shaBlock {h w : List Nat} : (shaBlock h w).length = h.length := by
  rw [shaBlock, List.length_zipWith, length_shaRounds, Nat.min_self]

theorem length_shaBlocks {n : Nat} {h : List Nat} {bs : Bytes} : (shaBlocks n h bs).length = h.length := by
  induction n generalizing h bs with
  | zero => rfl
  | succ n ih => exact ih.trans length_shaBlock

theorem length_shaH0 : shaH0.length = 8 := by
  rw [shaH0, List.length_map]
  rfl

/-- A SHA-512 digest is eight words of eight bytes. -/
theorem length_sha512 {m : Bytes} : (sha512 m).length = 64 := by
  simp only [sha512, List.length_flatMap, length_beBytes, List.map_const', length_shaBlocks, length_shaH0]
  rfl

theorem leBytes_leNat_sha512 {m : Bytes} : leBytes 64 (leNat (sha512 m)) = sha512 m :=
  length_sha512 (m := m) ▸ leBytes_leNat

end Sys2Proof.Machine
end

section
/-!
What an extension of a measurement register (spec/15_security.md R409, R410) and a write of a line of non-volatile memory (spec/18_health.md R472)
do, an equation for each part.
-/
namespace Sys2Proof.Machine

section extension
variable {s : State} {i : Nat} {d : Bytes} {f : Fld}

theorem mr_mrExtend : sget 0 (mrExtend s i d).security.mr i = leNat (sha512 (mrBytes s i ++ d)) := by
  simp only [mrExtend, apply_ite State.security, State.put_security, ite_self]
  exact sget_sset_same

/-- With room in the log an extension adds its entry. -/
theorem log_mrExtend_room (h : s.security.log.length < 64) : (mrExtend s i d).security.log = s.security.log ++ [(i, s.postmark, leNat d)] := by
  simp only [mrExtend, if_pos h, State.put_security]

/-- A full log takes no more entries (R410). -/
theorem log_mrExtend_full (h : 64 ≤ s.security.log.length) : (mrExtend s i d).security.log = s.security.log := by
  simp only [mrExtend, if_neg (Nat.not_lt.mpr h), State.put_security]

theorem logFull_mrExtend (h : 64 ≤ s.security.log.length) : (mrExtend s i d).get R.SEC_STATUS_LOGFULL = 1 := by
  simp only [mrExtend, if_neg (Nat.not_lt.mpr h), get_put_same]
  rfl

/-- Of the registers an extension writes only LOGN and LOGFULL. -/
theorem get_mrExtend_ne (hn : f.key ≠ R.SEC_STATUS_LOGN.key) (hfull : f.key ≠ R.SEC_STATUS_LOGFULL.key) : (mrExtend s i d).get f = s.get f := by
  by_cases h : s.security.log.length < 64
  · simp only [mrExtend, if_pos h, get_put_ne hn]
    rfl
  · simp only [mrExtend, if_neg h, get_put_ne hfull]
    rfl

@[simp] theorem mrExtend_health : (mrExtend s i d).health = s.health := by
  simp only [mrExtend, apply_ite State.health, State.put_health, ite_self]

end extension

section lines
variable {s : State} {part line : Nat}

/-- A write of a line is counted at the line. -/
theorem lines_nvWrite_same :
    sget 0 (nvWrite s part line).health.lines (part * 2 ^ 20 + line) = sget 0 s.health.lines (part * 2 ^ 20 + line) + 1 := by
  simp only [nvWrite, State.put_health]
  exact sget_sset_same

end lines

end Sys2Proof.Machine
end

section
/-! A write of the node's identity (spec/01_node.md R24), in the steps of `identWrite`: the line, the four fields, the measurement. -/
namespace Sys2Proof.Machine

/-- The PROV that a written identity asks for: a 1 is taken only while an enrolment record is installed (R406). -/
def identProv (s : State) (v : Nat) : Nat :=
  if v.testBit 31 ∧ s.get R.SEC_STATUS_ENROLLED = 0 then s.get R.NODE_IDENT_PROV else bitsOf v 31 31

/-- The identity stored and put: its line of the configuration partition is written (which line is log entry 44), then the four fields. -/
def identStored (s : State) (v : Nat) : State :=
  ((((nvWrite s 4 131).put R.NODE_IDENT_PROV (identProv s v)).put R.NODE_IDENT_TWIN (bitsOf v 20 20)).put R.NODE_IDENT_CLUSTER
    (bitsOf v 19 12)).put R.NODE_IDENT_NODE (bitsOf v 11 0)

/-- The digest that MR6 takes in (Table SE-4; the bytes by log entry 103). -/
def identDigest (s : State) : Bytes :=
  sha512 (leBytes 4 (identWord s) ++ leBytes 4 (s.get R.POST_EPOCH_LO_SEC)
    ++ leBytes 4 (s.get R.POST_EPOCH_HI_VALID * 2 ^ 31 + s.get R.POST_EPOCH_HI_SEC))

section
variable {s : State} {v : Nat}

theorem measureIdent_eq : measureIdent s = mrExtend s 6 (identDigest s) := rfl

/-- The digest can be read back from the number in the log. -/
theorem leBytes_leNat_identDigest : leBytes 64 (leNat (identDigest s)) = identDigest s := leBytes_leNat_sha512

theorem identWrite_standby (h : s.mode = 1) : identWrite s v = measureIdent (identStored s v) := if_neg (not_not_intro h)

theorem identWrite_elsewhere (h : s.mode ≠ 1) : identWrite s v = s := if_pos h

@[simp] theorem identStored_security : (identStored s v).security = s.security := rfl
@[simp] theorem identStored_postmark : (identStored s v).postmark = s.postmark := rfl
@[simp] theorem identStored_mrBytes {i : Nat} : mrBytes (identStored s v) i = mrBytes s i := rfl
@[simp] theorem identStored_health : (identStored s v).health = (nvWrite s 4 131).health := rfl

theorem get_identStored_node : (identStored s v).get R.NODE_IDENT_NODE = v % 4096 := by
  rw [identStored, get_put_same, bitsOf, Nat.pow_zero, Nat.div_one]
  exact Nat.mod_mod v 4096

theorem get_identStored_cluster : (identStored s v).get R.NODE_IDENT_CLUSTER = v / 2 ^ 12 % 256 := by
  rw [identStored, get_put_ne (by decide), get_put_same]
  exact Nat.mod_mod (v / 2 ^ 12) 256

theorem get_identStored_twin : (identStored s v).get R.NODE_IDENT_TWIN = v / 2 ^ 20 % 2 := by
  rw [identStored, get_put_ne (by decide), get_put_ne (by decide), get_put_same]
  exact Nat.mod_mod (v / 2 ^ 20) 2

theorem get_identStored_prov : (identStored s v).get R.NODE_IDENT_PROV = identProv s v % 2 := by
  rw [identStored, get_put_ne (by decide), get_put_ne (by decide), get_put_ne (by decide), get_put_same]
  rfl

/-- While enrolled PROV is bit 31 of the word. -/
theorem identProv_enrolled (h : s.get R.SEC_STATUS_ENROLLED ≠ 0) : identProv s v = v / 2 ^ 31 % 2 := if_neg fun hc => h hc.2

/-- Without an enrolment record a written 1 leaves PROV as it is. -/
theorem identProv_unenrolled (h : s.get R.SEC_STATUS_ENROLLED = 0) (hv : v.testBit 31 = true) : identProv s v = s.get R.NODE_IDENT_PROV :=
  if_pos ⟨hv, h⟩

/-- A written 0 is taken in any case. -/
theorem identProv_zero (hv : v.testBit 31 = false) : identProv s v = 0 := by
  have hbit : v / 2 ^ 31 % 2 = 0 := by simpa [Nat.testBit_eq_decide_div_mod_eq] using hv
  rw [identProv, if_neg (by simp [hv])]
  exact hbit

/-- The measurement leaves the four fields as they were put. -/
theorem get_measureIdent_ne {f : Fld} (hn : f.key ≠ R.SEC_STATUS_LOGN.key) (hfull : f.key ≠ R.SEC_STATUS_LOGFULL.key) :
    (measureIdent s).get f = s.get f := get_mrExtend_ne hn hfull

@[simp] theorem measureIdent_health : (measureIdent s).health = s.health := mrExtend_health

/-- With room in the log the measurement of the identity is one more entry, from which MR6 can be computed. -/
theorem measureIdent_logged (h : s.security.log.length < 64) :
    ∃ e ∈ (measureIdent s).security.log, (measureIdent s).security.log = s.security.log ++ [e] ∧ e.1 = 6 ∧ e.2.1 = s.postmark
      ∧ sget 0 (measureIdent s).security.mr 6 = leNat (sha512 (mrBytes s 6 ++ leBytes 64 e.2.2)) := by
  have hlog : (measureIdent s).security.log = s.security.log ++ [(6, s.postmark, leNat (identDigest s))] := log_mrExtend_room h
  refine ⟨(6, s.postmark, leNat (identDigest s)), ?_, hlog, rfl, rfl, ?_⟩
  · rw [hlog]
    exact List.mem_append_right _ (List.mem_singleton_self _)
  · rw [leBytes_leNat_identDigest]
    exact mr_mrExtend

/-- With a full log the entry is lost. -/
theorem measureIdent_unlogged (h : 64 ≤ s.security.log.length) :
    (measureIdent s).security.log = s.security.log ∧ (measureIdent s).get R.SEC_STATUS_LOGFULL = 1 :=
  ⟨log_mrExtend_full h, logFull_mrExtend h⟩

end

/-- Settles O12: in STANDBY the identity is stored and put, then measured; in every other mode the write leaves the state as it is. -/
theorem Settled.identWrite : Obligations.IdentWrite := by
  refine ⟨fun s r v hp hmode => .of_answers rfl hp (identWrite_ev (.refl _ s) (by decide +kernel)) ?_,
    fun s r v hp hmode => .of_answers rfl hp ?_ trivial⟩
  · rw [identWrite_standby hmode]
    have hprov : (measureIdent (identStored s v.toNat)).get R.NODE_IDENT_PROV = identProv s v.toNat % 2 :=
      (get_measureIdent_ne (by decide) (by decide)).trans get_identStored_prov
    refine ⟨?twin, ?cluster, ?node, fun he => ?enrolled, fun he hv => ?unenrolled, fun hv => ?zero, ?logged, ?line, ?full⟩
    case twin => exact (get_measureIdent_ne (by decide) (by decide)).trans get_identStored_twin
    case cluster => exact (get_measureIdent_ne (by decide) (by decide)).trans get_identStored_cluster
    case node => exact (get_measureIdent_ne (by decide) (by decide)).trans get_identStored_node
    case enrolled =>
      have hlt : v.toNat < 2 ^ 32 := v.isLt
      rw [hprov, identProv_enrolled he]
      omega
    case unenrolled => rw [hprov, identProv_unenrolled he hv]
    case zero => rw [hprov, identProv_zero hv]
    case logged =>
      simpa only [identStored_security, identStored_postmark, identStored_mrBytes] using measureIdent_logged (s := identStored s v.toNat)
    case line =>
      rw [measureIdent_health, identStored_health]
      exact lines_nvWrite_same
    case full => simpa only [identStored_security] using measureIdent_unlogged (s := identStored s v.toNat)
  · rw [identWrite_elsewhere hmode]
    exact .refl _ s

end Sys2Proof.Machine
end

section
/-!
What mode requests and self-tests rest on: a register outside what a change reaches, time that passes until an instant, a leg that is held
(spec/08_legs.md R220).
-/
namespace Sys2Proof.Machine

/-- A field is outside a set of registers without an index where its key is none of theirs. -/
theorem keys_ne_of_fixed {rs : List Reg} (fs : List Fld) {f : Fld} (hfixed : ∀ i j, rs.map (·.fld i j) = fs := by exact fun _ _ => rfl)
    (hne : ∀ g ∈ fs, g.key ≠ f.key := by decide) : ∀ g ∈ rs, ∀ i j, (g.fld i j).key ≠ f.key :=
  fun _ hg i j => hne _ (hfixed i j ▸ List.mem_map_of_mem hg)

/-- A field outside the set of a change keeps its value. -/
theorem Ev.get_eq {ps : List Part} {rs : List Reg} {s t : State} {f : Fld} (h : Ev (mask ps rs) s t)
    (hk : ∀ g ∈ rs, ∀ i j, (g.fld i j).key ≠ f.key) (hp : Part.regs ∉ ps := by decide) : t.get f = s.get f := h.keeps.get_eq hp hk

section parts
variable {ps : List Part} {rs : List Reg} {s t : State}

/-! A part that a set of names does not list is as it was. -/

theorem Ev.time_eq (h : Ev (mask ps rs) s t) (hp : Part.time ∉ ps := by decide) : t.time = s.time :=
  h.keeps.time.resolve_left (hp ∘ cov_mask_part)

theorem Ev.hidden_eq (h : Ev (mask ps rs) s t) (hp : Part.hidden ∉ ps := by decide) : t.hidden = s.hidden :=
  h.keeps.hidden.resolve_left (hp ∘ cov_mask_part)

theorem Ev.office_eq (h : Ev (mask ps rs) s t) (hp : Part.office ∉ ps := by decide) : t.office = s.office :=
  h.keeps.office.resolve_left (hp ∘ cov_mask_part)

theorem Ev.acceptance_eq (h : Ev (mask ps rs) s t) (hp : Part.acceptance ∉ ps := by decide) : t.acceptance = s.acceptance :=
  h.keeps.acceptance.resolve_left (hp ∘ cov_mask_part)

end parts

section time
variable {s : State}

/-- Ticks of D1 let their increments elapse, also where the seconds end meanwhile. -/
theorem le_elapsed_ticks {n : Nat} : s.time.elapsed + n * s.increment ≤ (s.ticks n).time.elapsed := by
  unfold State.ticks
  dsimp only
  split
  · exact Nat.le_refl _
  · split
    · refine Nat.le_trans ?_ (secondsEnd_ev (.refl _ _) (Nat.and_self _)).elapsed
      exact Nat.le_refl _
    · exact Nat.le_refl _

/-- The clock of a running node reaches the instant that it runs to. -/
theorem le_elapsed_runElapsed {e : Nat} (h : s.increment ≠ 0) : e ≤ (s.runElapsed e).time.elapsed := by
  have hceil : e - s.time.elapsed + s.increment - 1 < ticksFor s (e - s.time.elapsed) * s.increment + s.increment := by
    rw [ticksFor, if_neg h]
    exact Nat.lt_div_mul_add (Nat.pos_of_ne_zero h)
  have hticks : s.time.elapsed + ticksFor s (e - s.time.elapsed) * s.increment ≤ (s.runElapsed e).time.elapsed := le_elapsed_ticks
  omega

end time

section legs
variable {s t : State} {n m : Nat}

/-- What hardware sets in a field leaves every other field. -/
theorem get_event_ne {f g : Fld} {upd : Nat → Nat} (h : g.key ≠ f.key) : (s.event f upd).get g = s.get g := get_put_ne h

/-- A field after a write depends on the registers alone. -/
theorem get_put_congr {f g : Fld} {v : Nat} (h : t.regs = s.regs) : (t.put f v).get g = (s.put f v).get g := by
  simp only [State.get, State.put, h]

theorem legHeld_key : (R.LEGn_STATUS_HELD n).key = (0x40034 + 1024 * n) * 32 + 29 := rfl
theorem legDebt_key : (R.LEGn_DEBT_D n).key = (0x40038 + 1024 * n) * 32 := rfl
theorem legDebtMax_key : (R.LEGn_DEBTMAX_D n).key = (0x4003c + 1024 * n) * 32 := rfl

/-- Leg n is held and has no debt. -/
def LegHeld (s : State) (n : Nat) : Prop := s.get (R.LEGn_STATUS_HELD n) = 1 ∧ legDebt s n = 0

/-- A change that keeps the leg's two fields keeps it held. -/
theorem LegHeld.congr (hs : LegHeld s n) (hheld : t.get (R.LEGn_STATUS_HELD n) = s.get (R.LEGn_STATUS_HELD n))
    (hdebt : t.get (R.LEGn_DEBT_D n) = s.get (R.LEGn_DEBT_D n)) : LegHeld t n := by
  unfold LegHeld legDebt at *
  rwa [hheld, hdebt]

/-- Of the registers a hold writes HELD and the debt of its leg, with the debt's largest magnitude. -/
theorem get_legHold {f : Fld} (h : f.key ≠ (R.LEGn_DEBTMAX_D n).key) :
    (legHold s n).get f = ((s.put (R.LEGn_STATUS_HELD n) 1).put (R.LEGn_DEBT_D n) (unsigned 32 0)).get f := by
  rw [legHold, setDebt, get_event_ne h]
  exact get_put_congr rfl

theorem legHeld_legHold : LegHeld (legHold s n) n := by
  constructor
  · rw [get_legHold (by rw [legHeld_key, legDebtMax_key]; omega), get_put_ne (by rw [legHeld_key, legDebt_key]; omega), get_put_same]
    rfl
  · rw [legDebt, get_legHold (by rw [legDebt_key, legDebtMax_key]; omega), get_put_same]
    rfl

/-- The hold of one leg keeps every other leg held. -/
theorem LegHeld.after_legHold (hs : LegHeld s n) : LegHeld (legHold s m) n := by
  by_cases hmn : m = n
  · exact hmn ▸ legHeld_legHold
  · have hkeep (f : Fld) (hheld : f.key ≠ (R.LEGn_STATUS_HELD m).key) (hdebt : f.key ≠ (R.LEGn_DEBT_D m).key)
        (hmax : f.key ≠ (R.LEGn_DEBTMAX_D m).key) : (legHold s m).get f = s.get f := by
      rw [get_legHold hmax, get_put_ne hdebt, get_put_ne hheld]
    exact hs.congr
      (hkeep _ (by rw [legHeld_key, legHeld_key]; omega) (by rw [legHeld_key, legDebt_key]; omega) (by rw [legHeld_key, legDebtMax_key]; omega))
      (hkeep _ (by rw [legDebt_key, legHeld_key]; omega) (by rw [legDebt_key, legDebt_key]; omega) (by rw [legDebt_key, legDebtMax_key]; omega))

/-- Holding a list of legs holds each of them, and keeps the legs held that were. -/
theorem legHeld_foldl {l : List Nat} (h : n ∈ l ∨ LegHeld s n) : LegHeld (l.foldl legHold s) n := by
  induction l generalizing s with
  | nil => exact h.resolve_left List.not_mem_nil
  | cons m l ih =>
    refine ih ?_
    obtain hmem | hs := h
    · obtain rfl | hmem := List.mem_cons.mp hmem
      · exact .inr legHeld_legHold
      · exact .inl hmem
    · exact .inr hs.after_legHold

/-- `holdAll` holds every leg that is assigned. -/
theorem legHeld_holdAll (hn : n < 96) (h : s.get (R.LEGn_CFG_ASSIGNED n) = 1) : LegHeld (holdAll s) n :=
  legHeld_foldl (.inl (List.mem_filter.mpr ⟨List.mem_range.mpr hn, by simp [h]⟩))

end legs

end Sys2Proof.Machine
end

section
/-!
Requests for a mode (spec/03_modes.md R67 to R70): what a write of NODE_MODE_REQ with VALID = 1 does, with an image active and with none.
-/
namespace Sys2Proof.Machine

/-- What a dead letter may change (R309, R310), with the proof that its operation changes no more. -/
def reachDeadLetter : { m : Nat // Cov 0x7e000000000000000000000000000000000000000000000000000006201000000000000003838020 m } :=
  ⟨mask [.office, .security, .links, .twin, .cycle, .fresh, .outbox] [.NODE_TWIN_STAT_SEQ_END, .NODE_TWIN_STAT_HELDLOSS, .NODE_TWIN_SEQ_LO_NEXT,
      .NODE_TWIN_SEQ_HI_NEXT, .SO_LEDSTAT_FULL, .SO_LEDSTAT_WRAPPED, .SO_LEDSTAT_LOST, .SO_LEDPTR_NEXT, .SO_DROP_HW, .SO_DROP_DL],
    by decide +kernel⟩

section refusals
variable {s : State} {code source target pm k : Nat} {item : Bytes}

/-- A refused request is its code in REFUSE and a dead letter (R68). -/
theorem modeRefuse_reach : Ev reachDeadLetter.val (s.put R.NODE_MODE_REFUSE code) (modeRefuse s code source target pm k item) :=
  deadLetter_ev (.refl _ _) reachDeadLetter.property

/-- A dead letter leaves NODE_MODE, which lies below what it reaches. -/
theorem get_modeRefuse {f : Fld} (hf : f.key ≤ R.NODE_MODE_REFUSE.key) :
    (modeRefuse s code source target pm k item).get f = (s.put R.NODE_MODE_REFUSE code).get f := by
  have habove : ∀ g ∈ [R.NODE_TWIN_STAT_SEQ_END, R.NODE_TWIN_STAT_HELDLOSS, R.NODE_TWIN_SEQ_LO_NEXT, R.NODE_TWIN_SEQ_HI_NEXT,
      R.SO_LEDSTAT_FULL, R.SO_LEDSTAT_WRAPPED, R.SO_LEDSTAT_LOST, R.SO_LEDPTR_NEXT, R.SO_DROP_HW, R.SO_DROP_DL],
      R.NODE_MODE_REFUSE.key < g.key := by decide
  exact modeRefuse_reach.get_eq (keys_ne_of_fixed _ (hne := fun g hg => Nat.ne_of_gt (Nat.lt_of_le_of_lt hf (habove g hg))))

theorem get_modeRefuse_refuse : (modeRefuse s code source target pm k item).get R.NODE_MODE_REFUSE = code % 256 :=
  (get_modeRefuse (Nat.le_refl _)).trans get_put_same

@[simp] theorem modeRefuse_acceptance : (modeRefuse s code source target pm k item).acceptance = s.acceptance :=
  modeRefuse_reach.acceptance_eq

@[simp] theorem modeRefuse_hidden : (modeRefuse s code source target pm k item).hidden = s.hidden :=
  modeRefuse_reach.hidden_eq

@[simp] theorem modeRefuse_mode : (modeRefuse s code source target pm k item).mode = s.mode :=
  (get_modeRefuse (by decide)).trans (get_put_ne (by decide))

end refusals

section pending
variable {s : State}

/-- A command to the node mode that waits in the acceptance queue is pending (Table MD-2). -/
theorem get_modePending_of_accepted {c : Accepted} (hc : c ∈ s.acceptance) (ht : targetKey s c.target = modeTarget) :
    (modePending s).get R.NODE_MODE_PENDING = 1 := by
  have hany : (s.acceptance.any fun c => targetKey s c.target == modeTarget) = true := List.any_eq_true.mpr ⟨c, hc, by simpa using ht⟩
  simp only [modePending, hany, Bool.true_or, if_true, get_put_same]
  rfl

/-- A request that waits for the next tray tick is pending. -/
theorem get_modePending_of_atTick (h : s.hidden.atTick.isSome = true) : (modePending s).get R.NODE_MODE_PENDING = 1 := by
  simp only [modePending, h, Bool.or_true, if_true, get_put_same]
  rfl

/-- PENDING is all that `modePending` writes. -/
theorem modePending_reach : Ev (mask [] [.NODE_MODE_PENDING]) s (modePending s) := modePending_ev (.refl _ _) (by decide)

@[simp] theorem modePending_mode : (modePending s).mode = s.mode :=
  modePending_reach.get_eq (keys_ne_of_fixed [R.NODE_MODE_PENDING])

end pending

section host
variable {s : State} {r target value : Nat} {item : Bytes}

/-- A target that the node defines itself is its own key (Table PM-9). -/
theorem targetKey_node (h : 0x10000 ≤ target) : targetKey s target = target := if_pos h

/-- A HOST command to the node mode meets none of the refusals of R51 where its class is enabled, its frame lies ahead within 60 s, and the queue
has room. -/
theorem acceptRefusal_mode (henabled : dAccept s 2 ≠ 0) (hahead : s.postmark < frameStart s.fFrame (commandFrame s 2 s.postmark))
    (hnear : dAccept s 2 ≤ 60 * 2 ^ 32) (hroom : s.acceptance.length < 2048) :
    acceptRefusal s 2 2 (hostSource r) modeTarget s.postmark = none := by
  have hclass : hostSource r / 4096 = 2 := by unfold hostSource; split <;> rfl
  have hkey : targetKey s modeTarget = modeTarget := targetKey_node (Nat.le_refl _)
  have hknown : targetKnown s 2 modeTarget = true := if_pos (Nat.le_refl _)
  have hearly : ¬ s.postmark + 60 * 2 ^ 32 < s.postmark + dAccept s 2 := Nat.not_lt.mpr (Nat.add_le_add_left hnear _)
  simp only [acceptRefusal, hclass, hkey, hknown, henabled, hearly, Nat.not_le.mpr hahead, Nat.not_le.mpr hroom]
  simp

/-- A host command to the node mode joins the acceptance queue with the present postmark, for the frame of the HOST delay (R48, R49). -/
theorem hostCommand_mode (henabled : dAccept s 2 ≠ 0) (hahead : s.postmark < frameStart s.fFrame (commandFrame s 2 s.postmark))
    (hnear : dAccept s 2 ≤ 60 * 2 ^ 32) (hroom : s.acceptance.length < 2048) :
    hostCommand s r modeTarget value item = { s with acceptance :=
      s.acceptance ++ [⟨2, hostSource r, 0, modeTarget, value, s.postmark, commandFrame s 2 s.postmark, item⟩] } := by
  have hclass : hostSource r / 4096 = 2 := by unfold hostSource; split <;> rfl
  have hnode : ¬ modeTarget < 65536 := Nat.lt_irrefl _
  simp [hostCommand, acceptEnter, hclass, hnode, acceptRefusal_mode henabled hahead hnear hroom]

end host

section write
variable {s : State} {r v : Nat}

/-- A write of NODE_MODE_REQ with VALID = 1 and PWR = 0 requests the mode of its low bits (Table MD-3). -/
theorem modeReqWrite_valid (hvalid : v.testBit 3 = true) (hpwr : bitsOf v 11 10 = 0) : modeReqWrite s r v = modeRequest s r (v % 8) := by
  simp [modeReqWrite, hvalid, hpwr]

/-- The state in which a host command to the node mode has joined the acceptance queue. -/
def modeQueued (s : State) (r code : Nat) : State :=
  { s with acceptance := s.acceptance ++ [⟨2, hostSource r, 0, modeTarget, code, s.postmark, commandFrame s 2 s.postmark, []⟩] }

/-- With an image active the request is a HOST command (R70). -/
theorem modeRequest_image {code : Nat} (himage : s.image ≠ none) (henabled : dAccept s 2 ≠ 0)
    (hahead : s.postmark < frameStart s.fFrame (commandFrame s 2 s.postmark)) (hnear : dAccept s 2 ≤ 60 * 2 ^ 32)
    (hroom : s.acceptance.length < 2048) : modeRequest s r code = modePending (modeQueued s r code) := by
  rw [modeRequest, if_pos (Option.isSome_iff_ne_none.mpr himage), hostCommand_mode henabled hahead hnear hroom, modeQueued]

/-- The state in which a STANDBY request waits for the next tray tick. -/
def standbyWaiting (s : State) (r : Nat) : State :=
  { s with hidden := { s.hidden with atTick := some ⟨1, 0, hostSource r, s.postmark, []⟩ } }

/-- With no image a STANDBY request waits for the next tray tick (R70). -/
theorem modeRequest_standby (himage : s.image = none) (hquiet : s.get R.NODE_MODE_QUIET ≠ 1) (hact : s.slots.activating = none) :
    modeRequest s r 1 = modePending (standbyWaiting s r) := by
  simp [modeRequest, inQuiet, himage, hquiet, hact, standbyWaiting]

/-- With no image a request for another mode is refused with NO_IMAGE (R70, Table MD-4). -/
theorem modeRequest_refused {code : Nat} (himage : s.image = none) (hcode : code ≠ 1) :
    modeRequest s r code = modeRefuse s 2 (hostSource r) 0 s.postmark 0 [] := by
  simp [modeRequest, himage, hcode]

theorem modeReqWrite_reach : Ev reachRequestQuiet s (modeReqWrite s r v) := modeReqWrite_ev (.refl _ s) (by decide +kernel)

end write

section commands
variable {s : State} {r : Requester} {c : Instr} {v : Nat}

/-- A command that writes a mode request with an image active queues it and changes no mode yet. -/
theorem does_modeRequest_queued (hc : exec c s = runsBy r s (modeReqWrite s r.num v)) (hvalid : v.testBit 3 = true) (hpwr : bitsOf v 11 10 = 0)
    (hp : s.serves r.num = true) (himage : s.image ≠ none) (henabled : dAccept s 2 ≠ 0)
    (hahead : s.postmark < frameStart s.fFrame (commandFrame s 2 s.postmark)) (hnear : dAccept s 2 ≤ 60 * 2 ^ 32)
    (hroom : s.acceptance.length < 2048) :
    Does c s reachRequestQuiet fun t =>
      t.acceptance = s.acceptance ++ [⟨2, hostSource r.num, 0, modeTarget, v % 8, s.postmark, commandFrame s 2 s.postmark, []⟩]
      ∧ t.get R.NODE_MODE_PENDING = 1
      ∧ t.mode = s.mode
      ∧ t.hidden = s.hidden := by
  refine .of_answers hc hp modeReqWrite_reach ?_
  rw [modeReqWrite_valid hvalid hpwr, modeRequest_image himage henabled hahead hnear hroom]
  exact ⟨rfl, get_modePending_of_accepted (List.mem_append_right _ (List.mem_singleton_self _)) (targetKey_node (Nat.le_refl _)),
    modePending_mode, rfl⟩

/-- A command that writes a request for a mode other than STANDBY with no image active is refused with NO_IMAGE. -/
theorem does_modeRequest_refused (hc : exec c s = runsBy r s (modeReqWrite s r.num v)) (hvalid : v.testBit 3 = true) (hpwr : bitsOf v 11 10 = 0)
    (hother : v % 8 ≠ 1) (hp : s.serves r.num = true) (himage : s.image = none) :
    Does c s reachRequestQuiet fun t =>
      t.get R.NODE_MODE_REFUSE = 2 ∧ t.acceptance = s.acceptance ∧ t.mode = s.mode ∧ t.hidden = s.hidden := by
  refine .of_answers hc hp modeReqWrite_reach ?_
  rw [modeReqWrite_valid hvalid hpwr, modeRequest_refused himage hother]
  exact ⟨get_modeRefuse_refuse, modeRefuse_acceptance, modeRefuse_mode, modeRefuse_hidden⟩

/-- REQUEST_STANDBY with no image active waits for the next tray tick. -/
theorem does_requestStandby_waits (hp : s.serves r.num = true) (himage : s.image = none) (hquiet : s.get R.NODE_MODE_QUIET ≠ 1)
    (hact : s.slots.activating = none) :
    Does (.requestStandby r) s (mask [.hidden] [.NODE_MODE_PENDING]) fun t =>
      t.hidden.atTick = some ⟨1, 0, hostSource r.num, s.postmark, []⟩ ∧ t.get R.NODE_MODE_PENDING = 1 := by
  have hwrite : modeReqWrite s r.num 9 = modePending (standbyWaiting s r.num) :=
    (modeReqWrite_valid rfl rfl).trans (modeRequest_standby himage hquiet hact)
  have hev : Ev (mask [.hidden] [.NODE_MODE_PENDING]) s (standbyWaiting s r.num) :=
    .upd (.refl _ s) rfl rfl (hhi4 := .inl (by decide))
  exact .of_answers (congrArg (runsBy r s) hwrite) hp (modePending_ev hev (by decide)) ⟨rfl, get_modePending_of_atTick rfl⟩

end commands

/-- Settles O40: with an image active each request is queued as a command; with none STANDBY waits and the others are refused. -/
theorem Settled.modeRequests : Obligations.ModeRequests :=
  ⟨fun _ _ => does_modeRequest_queued (v := 9) rfl rfl rfl, fun _ _ => does_modeRequest_queued (v := 10) rfl rfl rfl,
    fun _ _ => does_modeRequest_queued (v := 11) rfl rfl rfl, fun _ _ => does_modeRequest_queued (v := 14) rfl rfl rfl,
    fun _ _ => does_requestStandby_waits, fun _ _ => does_modeRequest_refused (v := 10) rfl rfl rfl (by decide),
    fun _ _ => does_modeRequest_refused (v := 11) rfl rfl rfl (by decide), fun _ _ => does_modeRequest_refused (v := 14) rfl rfl rfl (by decide)⟩

end Sys2Proof.Machine
end

section
/-!
The self-tests and the foreground calibration (spec/03_modes.md R76 to R79): how a request begins a test or is refused, and how a test ends.
-/
namespace Sys2Proof.Machine

/-! ### The beginning of a test (R77, R79) -/

/-- A test runs from the present instant, with or without the legs. -/
def testStarted (s : State) (kind : Nat) (holds : Bool) : State :=
  { s.put R.NODE_TEST_RUNNING 1 with hidden := { s.hidden with test := some (kind, s.time.elapsed), testHolds := holds } }

/-- The same with every assigned leg held and the calibration rotation standing still. -/
def testHeld (s : State) (kind : Nat) : State := calSuspend (holdAll (testStarted s kind true))

/-- What FULL destroys: the fabric halts and loses its state, the sorting office's memory is emptied. -/
def fullDestroyed (s : State) : State :=
  { fabricHalt s with office := Office.reset, fabric := { (fabricHalt s).fabric with wires := [], blocks := [] } }

section begin
variable {s : State} {kind n : Nat} {holds : Bool} {f : Fld}

theorem testBegin_light : testBegin s 0 = testStarted s 0 false := by simp [testBegin, testStarted]
theorem testBegin_full : testBegin s 1 = fullDestroyed (testHeld s 1) := by simp [testBegin, testStarted, testHeld, fullDestroyed]
theorem testBegin_cal : testBegin s 2 = testHeld s 2 := by simp [testBegin, testStarted, testHeld]
theorem testBegin_part : testBegin s 3 = testStarted s 3 false := by simp [testBegin, testStarted]

theorem testStarted_ev {m : Nat} {r : State} (h : Ev m r s) (hrun : RegIn m R.NODE_TEST_RUNNING.key)
    (hhidden : Cov (2 ^ Part.hidden.ctorIdx) m) : Ev m r (testStarted s kind holds) :=
  .upd (State.put_ev h hrun) rfl rfl (hhi4 := .inl hhidden)

theorem testStarted_test : (testStarted s kind holds).hidden.test = some (kind, s.time.elapsed) := rfl
theorem testStarted_testHolds : (testStarted s kind holds).hidden.testHolds = holds := rfl
theorem get_testStarted_running : (testStarted s kind holds).get R.NODE_TEST_RUNNING = 1 := get_put_same (s := s) (v := 1)
theorem get_testStarted_ne (h : f.key ≠ R.NODE_TEST_RUNNING.key) : (testStarted s kind holds).get f = s.get f := get_put_ne (s := s) (v := 1) h

/-- Holding the legs writes no register below theirs. -/
theorem get_holdAll (h : f.key < 0x40000 * 32) : (holdAll s).get f = s.get f := by
  have hev : Ev (mask [.legs, .cycle] [.LEGn_STATUS_HELD, .LEGn_DEBT_D, .LEGn_DEBTMAX_D]) s (holdAll s) :=
    holdAll_ev (.refl _ s) (by decide)
  have hheld (i : Nat) : (R.LEGn_STATUS_HELD i).key ≠ f.key := by rw [legHeld_key]; omega
  have hdebt (i : Nat) : (R.LEGn_DEBT_D i).key ≠ f.key := by rw [legDebt_key]; omega
  have hmax (i : Nat) : (R.LEGn_DEBTMAX_D i).key ≠ f.key := by rw [legDebtMax_key]; omega
  exact hev.get_eq (List.forall_mem_cons.mpr ⟨fun i _ => hheld i, List.forall_mem_cons.mpr ⟨fun i _ => hdebt i,
    List.forall_mem_singleton.mpr fun i _ => hmax i⟩⟩)

theorem get_calSuspend_ne (h : f.key ≠ R.SN_CAL_PHASE.key) : (calSuspend s).get f = s.get f := by
  unfold calSuspend
  split
  · rfl
  · exact get_put_ne h

theorem fabricHalt_reach : Ev (mask [.sense, .fabric] [.DEC_RSr_IDX_RUN, .FAB_STATUS_RUN]) s (fabricHalt s) :=
  fabricHalt_ev (.refl _ s) (by decide +kernel)

/-- A halt of the fabric writes no register below those of the resamplers and of the fabric. -/
theorem get_fabricHalt (h : f.key < 0xa0804 * 32) : (fabricHalt s).get f = s.get f := by
  have hidx (i : Nat) : (R.DEC_RSr_IDX_RUN i).key ≠ f.key := by
    have hkey : (R.DEC_RSr_IDX_RUN i).key = (0xa0804 + 16 * i) * 32 + 31 := rfl
    omega
  have hrun : R.FAB_STATUS_RUN.key ≠ f.key := by
    have hkey : R.FAB_STATUS_RUN.key = 0xc0000 * 32 + 31 := rfl
    omega
  exact fabricHalt_reach.get_eq (List.forall_mem_cons.mpr ⟨fun i _ => hidx i, List.forall_mem_singleton.mpr fun _ _ => hrun⟩)

theorem get_fabricHalt_run : (fabricHalt s).get R.FAB_STATUS_RUN = 0 := get_put_same (s := angleStop s) (v := 0)

/-- Holding the legs and the rotation reaches no more than the legs and the sense paths. -/
theorem testHeld_reach : Ev (mask [.legs, .sense, .cycle] [.LEGn_STATUS_HELD, .LEGn_DEBT_D, .LEGn_DEBTMAX_D, .SN_CAL_PHASE])
    (testStarted s kind true) (testHeld s kind) :=
  calSuspend_ev (holdAll_ev (.refl _ _) (by decide +kernel)) (by decide +kernel)

theorem testHeld_hidden : (testHeld s kind).hidden = (testStarted s kind true).hidden :=
  testHeld_reach.hidden_eq

theorem testHeld_office : (testHeld s kind).office = s.office := testHeld_reach.office_eq

theorem get_testHeld_running : (testHeld s kind).get R.NODE_TEST_RUNNING = 1 := by
  rw [testHeld, get_calSuspend_ne (by decide), get_holdAll (by decide), get_testStarted_running]

/-- Under FULL and CAL every assigned leg is held (R79). -/
theorem legHeld_testHeld (hn : n < 96) (h : s.get (R.LEGn_CFG_ASSIGNED n) = 1) : LegHeld (testHeld s kind) n := by
  have hassigned : (testStarted s kind true).get (R.LEGn_CFG_ASSIGNED n) = 1 := by
    have hkey : (R.LEGn_CFG_ASSIGNED n).key = (0x40000 + 1024 * n) * 32 + 6 := rfl
    have hrun : R.NODE_TEST_RUNNING.key = 0x18 * 32 + 31 := rfl
    rw [get_testStarted_ne (by omega), h]
  have hphase : R.SN_CAL_PHASE.key = 0x80004 * 32 + 29 := rfl
  exact (legHeld_holdAll hn hassigned).congr (get_calSuspend_ne (by rw [legHeld_key]; omega)) (get_calSuspend_ne (by rw [legDebt_key]; omega))

theorem fullDestroyed_hidden : (fullDestroyed s).hidden = s.hidden :=
  fabricHalt_reach.hidden_eq

theorem fullDestroyed_office : (fullDestroyed s).office = Office.reset := rfl
theorem fullDestroyed_wires : (fullDestroyed s).fabric.wires = [] := rfl
theorem get_fullDestroyed_run : (fullDestroyed s).get R.FAB_STATUS_RUN = 0 := get_fabricHalt_run
theorem get_fullDestroyed (h : f.key < 0xa0804 * 32) : (fullDestroyed s).get f = s.get f := get_fabricHalt h

/-- What FULL destroys leaves the legs held. -/
theorem LegHeld.after_fullDestroyed (hs : LegHeld s n) (hn : n < 96) : LegHeld (fullDestroyed s) n :=
  hs.congr (get_fullDestroyed (by rw [legHeld_key]; omega)) (get_fullDestroyed (by rw [legDebt_key]; omega))

end begin

/-! ### Requests (R77, R78) -/

section requests
variable {s : State} {kind code : Nat}

theorem testRequest_reach : Ev reachTestCal s (testRequest s kind) := testRequest_ev (.refl _ s) (by decide +kernel)

theorem get_testBusy (h : code < 128) : (testBusy s code).get R.NODE_TEST_RESULT = code := get_put_same.trans (Nat.mod_eq_of_lt h)

/-- A request while a test runs is ignored. -/
theorem testRequest_running (h : s.get R.NODE_TEST_RUNNING = 1) : testRequest s kind = s := if_pos h

/-- In QUIET and in the D3 cycle in which it is left a request is refused with BUSY_IN_QUIET. -/
theorem testRequest_quiet (hrun : s.get R.NODE_TEST_RUNNING ≠ 1) (h : s.get R.NODE_MODE_QUIET = 1 ∨ s.hidden.quietEnd = some s.cycleNo) :
    testRequest s kind = testBusy s 0x12 := by
  have hquiet : inQuiet s = true ∨ s.hidden.quietEnd = some s.cycleNo := h.imp_left (by simp [inQuiet, ·])
  rw [testRequest, if_neg hrun, if_pos hquiet]

section judged
variable (hrun : s.get R.NODE_TEST_RUNNING ≠ 1) (hquiet : s.get R.NODE_MODE_QUIET ≠ 1) (hend : s.hidden.quietEnd ≠ some s.cycleNo)
include hrun hquiet hend

/-- Elsewhere the mode decides (Table MD-9). -/
theorem testRequest_byMode : testRequest s kind =
    if kind = 0 then (if s.mode = 1 ∨ s.mode = 2 ∨ s.mode = 4 ∨ s.mode = 7 then testBegin s 0 else testBusy s 0x11)
    else if s.mode = 1 ∨ s.mode = 2 then testBegin s kind
    else if s.mode = 4 then (if kind = 1 then testBegin (testBusy s 0x10) 3 else testBusy s 0x10)
    else testBusy s 0x11 := by
  have hawake : ¬ (inQuiet s = true ∨ s.hidden.quietEnd = some s.cycleNo) := by simp [inQuiet, hquiet, hend]
  rw [testRequest, if_neg hrun, if_neg hawake]

theorem testRequest_light (hmode : s.mode = 1 ∨ s.mode = 2 ∨ s.mode = 4 ∨ s.mode = 7) : testRequest s 0 = testStarted s 0 false := by
  rw [testRequest_byMode hrun hquiet hend, if_pos rfl, if_pos hmode, testBegin_light]

theorem testRequest_light_busy (h1 : s.mode ≠ 1) (h2 : s.mode ≠ 2) (h4 : s.mode ≠ 4) (h7 : s.mode ≠ 7) :
    testRequest s 0 = testBusy s 0x11 := by
  rw [testRequest_byMode hrun hquiet hend, if_pos rfl, if_neg (by simp [h1, h2, h4, h7])]

theorem testRequest_begins (hkind : kind ≠ 0) (hmode : s.mode = 1 ∨ s.mode = 2) : testRequest s kind = testBegin s kind := by
  rw [testRequest_byMode hrun hquiet hend, if_neg hkind, if_pos hmode]

/-- In SERVICE a FULL request runs the non-intrusive part. -/
theorem testRequest_full_service (hmode : s.mode = 4) : testRequest s 1 = testStarted (testBusy s 0x10) 3 false := by
  rw [testRequest_byMode hrun hquiet hend, if_neg (by decide), if_neg (by simp [hmode]), if_pos hmode, if_pos rfl, testBegin_part]

theorem testRequest_cal_service (hmode : s.mode = 4) : testRequest s 2 = testBusy s 0x10 := by
  rw [testRequest_byMode hrun hquiet hend, if_neg (by decide), if_neg (by simp [hmode]), if_pos hmode, if_neg (by decide)]

theorem testRequest_busy (hkind : kind ≠ 0) (h1 : s.mode ≠ 1) (h2 : s.mode ≠ 2) (h4 : s.mode ≠ 4) : testRequest s kind = testBusy s 0x11 := by
  rw [testRequest_byMode hrun hquiet hend, if_neg hkind, if_neg (by simp [h1, h2]), if_neg h4]

end judged

end requests

/-! ### The end of a test (R79) -/

/-- What follows the end of a test may change: the fabric and the sense paths that start again, and a twin member's role. It takes in what these
change. -/
def reachTestAfter : { m : Nat //
    Cov 0x4000000000000000000000000000000000000000000007e0000000000000000000000000000800000000000000000000000060811000000000000038392a0 m } :=
  ⟨mask [.office, .legs, .sense, .fabric, .security, .links, .twin, .cycle, .fresh, .outbox] [.LEGn_STATUS_DRIVE, .NODE_TWIN_STAT_ROLE,
      .NODE_TWIN_STAT_SEQ_END, .NODE_TWIN_STAT_TEST_FAIL, .NODE_TWIN_SEQ_LO_NEXT, .NODE_TWIN_SEQ_HI_NEXT, .SO_LEDSTAT_FULL,
      .SO_LEDSTAT_WRAPPED, .SO_LEDSTAT_LOST, .SO_LEDPTR_NEXT, .SO_DROP_HW, .SO_DROP_DL, .LK_HIRQ_CAUSE],
    by decide +kernel⟩

/-- A test has ended at its duration, with its result in NODE_TEST. -/
def testEnded (s : State) (kind since : Nat) (pass : Bool) (unit : Nat) : State :=
  let s := s.runElapsed (since + usec (testTime kind))
  let s := { s with hidden := { s.hidden with test := none, testHolds := false } }
  let s := s.put R.NODE_TEST_RUNNING 0
  let s := if kind = 3 then s else s.put R.NODE_TEST_RESULT (if pass then 1 else 2)
  s.put R.NODE_TEST_FAILUNIT (if pass then 0 else unit)

section done
variable {s : State} {kind since unit : Nat} {pass : Bool}

theorem testDone_none (h : s.hidden.test = none) : testDone s pass unit = s := by rw [testDone, h]

theorem testDone_reach (h : s.hidden.test = some (kind, since)) :
    Ev reachTestAfter.val (testEnded s kind since pass unit) (testDone s pass unit) := by
  have hcov := reachTestAfter.property
  have hfabric : Ev reachTestAfter.val (testEnded s kind since pass unit) (if kind = 1 then { testEnded s kind since pass unit with fabric :=
      { (testEnded s kind since pass unit).fabric with reinit := (testEnded s kind since pass unit).image.isSome, lapse := false } }
      else testEnded s kind since pass unit) :=
    .ite (.upd (.refl _ _) rfl rfl (hfa12 := .inl (hcov.mono (by decide)))) (.refl _ _)
  have hsense := Ev.ite (c := kind = 1 ∨ kind = 2) (senseResume_ev hfabric (hcov.mono (by decide))) hfabric
  rw [testDone, h]
  exact .ite (setRole_ev (twinEnvelope_ev (State.mark_ev hsense (R.NODE_TWIN_STAT_TEST_FAIL_in (hcov.mono (by decide))) (hcov.mono (by decide)))
    (hcov.mono (by decide))) (hcov.mono (by decide))) hsense

/-- What follows the end of a test leaves NODE_TEST, which lies below it. -/
theorem get_testDone {f : Fld} (h : s.hidden.test = some (kind, since)) (hf : f.key ≤ R.NODE_TEST_RUNNING.key) :
    (testDone s pass unit).get f = (testEnded s kind since pass unit).get f := by
  have hdrive (i : Nat) : (R.LEGn_STATUS_DRIVE i).key ≠ f.key := by
    have hkey : (R.LEGn_STATUS_DRIVE i).key = (0x40034 + 1024 * i) * 32 + 30 := rfl
    have hrun : R.NODE_TEST_RUNNING.key = 0x18 * 32 + 31 := rfl
    omega
  have hrest : ∀ g ∈ [R.NODE_TWIN_STAT_ROLE, R.NODE_TWIN_STAT_SEQ_END, R.NODE_TWIN_STAT_TEST_FAIL, R.NODE_TWIN_SEQ_LO_NEXT,
      R.NODE_TWIN_SEQ_HI_NEXT, R.SO_LEDSTAT_FULL, R.SO_LEDSTAT_WRAPPED, R.SO_LEDSTAT_LOST, R.SO_LEDPTR_NEXT, R.SO_DROP_HW, R.SO_DROP_DL,
      R.LK_HIRQ_CAUSE], R.NODE_TEST_RUNNING.key < g.key := by decide
  exact (testDone_reach h).get_eq (List.forall_mem_cons.mpr ⟨fun i _ => hdrive i, keys_ne_of_fixed _
    (hne := fun g hg => Nat.ne_of_gt (Nat.lt_of_le_of_lt hf (hrest g hg)))⟩)

theorem testDone_hidden (h : s.hidden.test = some (kind, since)) :
    (testDone s pass unit).hidden = (testEnded s kind since pass unit).hidden := (testDone_reach h).hidden_eq

theorem testDone_time (h : s.hidden.test = some (kind, since)) :
    (testDone s pass unit).time = (testEnded s kind since pass unit).time := (testDone_reach h).time_eq

@[simp] theorem testEnded_test : (testEnded s kind since pass unit).hidden.test = none := by
  simp [testEnded, apply_ite State.hidden]

@[simp] theorem testEnded_testHolds : (testEnded s kind since pass unit).hidden.testHolds = false := by
  simp [testEnded, apply_ite State.hidden]

@[simp] theorem testEnded_time : (testEnded s kind since pass unit).time = (s.runElapsed (since + usec (testTime kind))).time := by
  simp [testEnded, apply_ite State.time]

theorem get_testEnded_running : (testEnded s kind since pass unit).get R.NODE_TEST_RUNNING = 0 := by
  rw [testEnded, get_put_ne (by decide)]
  split
  · exact get_put_same
  · rw [get_put_ne (by decide)]
    exact get_put_same

theorem get_testEnded_result (h : kind ≠ 3) : (testEnded s kind since pass unit).get R.NODE_TEST_RESULT = if pass then 1 else 2 := by
  rw [testEnded, get_put_ne (by decide), if_neg h, get_put_same]
  cases pass <;> rfl

/-- The non-intrusive part that FULL runs in SERVICE keeps BUSY_IN_SERVICE (Table MD-9). -/
theorem get_testEnded_part (h : kind = 3) : (testEnded s kind since pass unit).get R.NODE_TEST_RESULT = s.get R.NODE_TEST_RESULT := by
  have hev : Ev (mask [.time, .root, .fabric, .cycle, .outbox] [.POST_STATUS_CHANGED, .POST_STATUS_STATE, .POST_TIG_TIMEBASE, .POST_TIG_HELD,
      .LK_HIRQ_CAUSE]) s (s.runElapsed (since + usec (testTime kind))) := State.runElapsed_ev (.refl _ s) (by decide +kernel)
  rw [testEnded, get_put_ne (by decide), if_pos h, get_put_ne (by decide)]
  exact hev.get_eq (keys_ne_of_fixed [R.POST_STATUS_CHANGED, R.POST_STATUS_STATE, R.POST_TIG_TIMEBASE, R.POST_TIG_HELD, R.LK_HIRQ_CAUSE])

theorem get_testEnded_failunit (hunit : unit < 256) :
    (testEnded s kind since pass unit).get R.NODE_TEST_FAILUNIT = if pass then 0 else unit := by
  rw [testEnded, get_put_same]
  cases pass
  · exact Nat.mod_eq_of_lt hunit
  · rfl

end done

/-! ### The commands -/

section commands
variable {s : State} {r : Requester} {c : Instr} {kind code : Nat}

/-- A request that is refused writes RESULT alone. -/
theorem does_testBusy (hc : exec c s = runsBy r s (testRequest s kind)) (hp : s.serves r.num = true) (heq : testRequest s kind = testBusy s code)
    (hcode : code < 128) : Does c s (mask [] [.NODE_TEST_RESULT]) fun t => t.get R.NODE_TEST_RESULT = code :=
  .of_answers (hc.trans (congrArg (runsBy r s) heq)) hp (testBusy_ev (.refl _ s) (by decide)) (get_testBusy hcode)

/-- A request while a test runs does nothing. -/
theorem does_testRunning (hc : exec c s = runsBy r s (testRequest s kind)) (hp : s.serves r.num = true) (hrun : s.get R.NODE_TEST_RUNNING = 1) :
    Does c s (mask [] []) fun _ => True :=
  .of_answers (hc.trans (congrArg (runsBy r s) (testRequest_running hrun))) hp (.refl _ s) trivial

section judged
variable (hp : s.serves r.num = true) (hrun : s.get R.NODE_TEST_RUNNING ≠ 1) (hquiet : s.get R.NODE_MODE_QUIET ≠ 1)
  (hend : s.hidden.quietEnd ≠ some s.cycleNo)
include hp hrun hquiet hend

theorem does_testLight (hmode : s.mode = 1 ∨ s.mode = 2 ∨ s.mode = 4 ∨ s.mode = 7) :
    Does (.testLight r) s (mask [.hidden] [.NODE_TEST_RUNNING]) fun t =>
      t.get R.NODE_TEST_RUNNING = 1 ∧ t.hidden.test = some (0, s.time.elapsed) ∧ t.hidden.testHolds = false :=
  .of_answers (congrArg (runsBy r s) (testRequest_light hrun hquiet hend hmode)) hp
    (testStarted_ev (.refl _ s) (R.NODE_TEST_RUNNING_in (by decide)) (by decide))
    ⟨get_testStarted_running, testStarted_test, testStarted_testHolds⟩

theorem does_testFull (hmode : s.mode = 1 ∨ s.mode = 2) :
    Does (.testFull r) s reachTestCal fun t =>
      t.get R.NODE_TEST_RUNNING = 1
      ∧ t.hidden.test = some (1, s.time.elapsed)
      ∧ t.hidden.testHolds = true
      ∧ t.office = Office.reset
      ∧ t.get R.FAB_STATUS_RUN = 0
      ∧ t.fabric.wires = []
      ∧ (∀ leg : Fin 96, s.get (R.LEGn_CFG_ASSIGNED leg) = 1 → t.get (R.LEGn_STATUS_HELD leg) = 1 ∧ legDebt t leg = 0) := by
  refine .of_answers rfl hp testRequest_reach ?_
  rw [testFullKind, testRequest_begins hrun hquiet hend (by decide) hmode, testBegin_full, fullDestroyed_hidden, testHeld_hidden]
  exact ⟨(get_fullDestroyed (by decide)).trans get_testHeld_running, testStarted_test, testStarted_testHolds, fullDestroyed_office,
    get_fullDestroyed_run, fullDestroyed_wires,
    fun leg hassigned => (legHeld_testHeld leg.isLt hassigned).after_fullDestroyed leg.isLt⟩

theorem does_testCal (hmode : s.mode = 1 ∨ s.mode = 2) :
    Does (.testCal r) s reachTestCal fun t =>
      t.get R.NODE_TEST_RUNNING = 1
      ∧ t.hidden.test = some (2, s.time.elapsed)
      ∧ t.hidden.testHolds = true
      ∧ t.office = s.office
      ∧ (∀ leg : Fin 96, s.get (R.LEGn_CFG_ASSIGNED leg) = 1 → t.get (R.LEGn_STATUS_HELD leg) = 1 ∧ legDebt t leg = 0) := by
  refine .of_answers rfl hp testRequest_reach ?_
  rw [testCalKind, testRequest_begins hrun hquiet hend (by decide) hmode, testBegin_cal, testHeld_hidden]
  exact ⟨get_testHeld_running, testStarted_test, testStarted_testHolds, testHeld_office, fun leg hassigned => legHeld_testHeld leg.isLt hassigned⟩

/-- FULL in SERVICE. -/
theorem does_testFull_service (hmode : s.mode = 4) :
    Does (.testFull r) s (mask [.hidden] [.NODE_TEST_RUNNING, .NODE_TEST_RESULT]) fun t =>
      t.get R.NODE_TEST_RUNNING = 1 ∧ t.get R.NODE_TEST_RESULT = 0x10 ∧ t.hidden.test = some (3, s.time.elapsed) ∧ t.hidden.testHolds = false :=
  .of_answers (congrArg (runsBy r s) (testRequest_full_service hrun hquiet hend hmode)) hp
    (testStarted_ev (testBusy_ev (.refl _ s) (by decide)) (R.NODE_TEST_RUNNING_in (by decide)) (by decide))
    ⟨get_testStarted_running, (get_testStarted_ne (by decide)).trans (get_testBusy (by decide)), testStarted_test, testStarted_testHolds⟩

end judged

/-- TEST_DONE of a running test, from the end of the test and what follows it; that the clock first runs to the test's duration is log entry 60. -/
theorem does_testDone {pass : Bool} {unit : BitVec 8} {since : Nat} (hp : s.powered = true) (h : s.hidden.test = some (kind, since)) :
    Does (.testDone pass unit) s reachTestDone fun t =>
      t.hidden.test = none
      ∧ t.hidden.testHolds = false
      ∧ t.get R.NODE_TEST_RUNNING = 0
      ∧ (kind ≠ 3 → t.get R.NODE_TEST_RESULT = (if pass then 1 else 2))
      ∧ (kind = 3 → t.get R.NODE_TEST_RESULT = s.get R.NODE_TEST_RESULT)
      ∧ t.get R.NODE_TEST_FAILUNIT = (if pass then 0 else unit.toNat)
      ∧ (s.increment ≠ 0 → since + usec (testTime kind) ≤ t.time.elapsed) := by
  refine .of_answers rfl hp (testDone_ev (.refl _ s) (by decide +kernel)) ?_
  rw [testDone_hidden h, testDone_time h, testEnded_time, get_testDone h (by decide), get_testDone h (by decide), get_testDone h (by decide)]
  exact ⟨testEnded_test, testEnded_testHolds, get_testEnded_running, get_testEnded_result, get_testEnded_part, get_testEnded_failunit unit.isLt,
    le_elapsed_runElapsed⟩

end commands

/-- Settles O39: every request is the model's judgement by state and mode, and the end of a test leaves its result in NODE_TEST. -/
theorem Settled.selfTests : Obligations.SelfTests :=
  ⟨fun _ _ => does_testRunning rfl, fun _ _ => does_testRunning rfl, fun _ _ => does_testRunning rfl,
    fun _ _ hp hrun hquiet => does_testBusy rfl hp (testRequest_quiet hrun hquiet) (by decide),
    fun _ _ hp hrun hquiet => does_testBusy rfl hp (testRequest_quiet hrun hquiet) (by decide),
    fun _ _ hp hrun hquiet => does_testBusy rfl hp (testRequest_quiet hrun hquiet) (by decide),
    fun _ _ => does_testLight,
    fun _ _ hp hrun hquiet hend h1 h2 h4 h7 => does_testBusy rfl hp (testRequest_light_busy hrun hquiet hend h1 h2 h4 h7) (by decide),
    fun _ _ => does_testFull, fun _ _ => does_testCal, fun _ _ => does_testFull_service,
    fun _ _ hp hrun hquiet hend hmode => does_testBusy rfl hp (testRequest_cal_service hrun hquiet hend hmode) (by decide),
    fun _ _ hp hrun hquiet hend h1 h2 h4 => does_testBusy rfl hp (testRequest_busy hrun hquiet hend (by decide) h1 h2 h4) (by decide),
    fun _ _ hp hrun hquiet hend h1 h2 h4 => does_testBusy rfl hp (testRequest_busy hrun hquiet hend (by decide) h1 h2 h4) (by decide),
    fun _ _ _ _ _ => does_testDone,
    fun _ _ _ hp h => .of_answers (congrArg (runs _) (testDone_none h)) hp (.refl _ _) trivial⟩

end Sys2Proof.Machine
end

section
/-!
The fields in which a node answers a fault (spec/06_fabric.md R165; spec/03_modes.md R66), and the registers of its legs, read across each stage that
follows the fault.
-/
namespace Sys2Proof.Machine

/-! ### The fields of the answer -/

/-- The node-wide fields that say how the node answers a fault. -/
def faultFields : List Fld :=
  [R.FAB_STATUS_RUN, R.FAB_STATUS_FAULT, R.FAB_STATUS_FTILE, R.FAB_FAULTK_LO_K, R.FAB_FAULTK_HI_K, R.POST_TIG_HELD, R.POST_TIG_HWFAULT,
    R.POST_TIG_OVERRUN, R.NODE_MODE_MODE, R.NODE_MODE_ENTRY, R.LK_HIRQ_CAUSE]

/-- The field is not in the blocks of the legs. -/
abbrev OffLegs (g : Fld) : Prop := g.key < 0x40000 * 32 ∨ 0x58000 * 32 ≤ g.key

/-- The field is a part of the answer, or it lies in the blocks of the legs. -/
def Watched (f : Fld) : Prop := f ∈ faultFields ∨ 0x40000 * 32 ≤ f.key ∧ f.key < 0x58000 * 32

/-- The field is neither. -/
abbrev Aside (g : Fld) : Prop := (∀ f ∈ faultFields, g.key ≠ f.key) ∧ OffLegs g

section fields
variable {s t : State} {f g : Fld} {n : Nat}

theorem Watched.ne_aside (hf : Watched f) (hg : Aside g) : g.key ≠ f.key := by
  obtain ⟨hfault, hlegs⟩ := hg
  obtain hf | hf := hf
  · exact hfault f hf
  · omega

theorem key_ne_of_offLegs (hf : ¬ OffLegs f) (hg : OffLegs g := by decide) : f.key ≠ g.key := by omega

theorem Watched.of_fault (h : f ∈ faultFields) : Watched f := .inl h

theorem Watched.of_leg (h : ¬ OffLegs f) : Watched f := .inr (by omega)

theorem legAssigned_key : (R.LEGn_CFG_ASSIGNED n).key = (0x40000 + 1024 * n) * 32 + 6 := rfl
theorem legForce_key : (R.LEGn_FORCE_CODE n).key = (0x40030 + 1024 * n) * 32 := rfl
theorem legFcode_key : (R.LEGn_STATUS_FCODE n).key = (0x40034 + 1024 * n) * 32 + 24 := rfl
theorem legDrive_key : (R.LEGn_STATUS_DRIVE n).key = (0x40034 + 1024 * n) * 32 + 30 := rfl
theorem bridgeSrc_key : (R.BRIDGE_CTRL_SRC n).key = (0x60004 + 256 * n) * 32 := rfl

theorem legAssigned_at_legs (hn : n < 96) : ¬ OffLegs (R.LEGn_CFG_ASSIGNED n) := by
  rw [OffLegs, legAssigned_key]
  omega

theorem legHeld_at_legs (hn : n < 96) : ¬ OffLegs (R.LEGn_STATUS_HELD n) := by
  rw [OffLegs, legHeld_key]
  omega

theorem legDebt_at_legs (hn : n < 96) : ¬ OffLegs (R.LEGn_DEBT_D n) := by
  rw [OffLegs, legDebt_key]
  omega

/-- The keys of the answer in figures. -/
theorem faultFields_key (h : f ∈ faultFields) :
    f.key = 0xc0000 * 32 + 31 ∨ f.key = 0xc0000 * 32 + 24 ∨ f.key = 0xc0000 * 32 + 20 ∨ f.key = 0xc0028 * 32 ∨ f.key = 0xc002c * 32
      ∨ f.key = 0x10030 * 32 ∨ f.key = 0x10030 * 32 + 5 ∨ f.key = 0x10030 * 32 + 3 ∨ f.key = 0x10 * 32 ∨ f.key = 0x10 * 32 + 16
      ∨ f.key = 0x600004 * 32 := by
  revert f
  decide

/-- A change of registers aside from the answer keeps it. -/
theorem Ev.get_watched {ps : List Part} {rs : List Reg} (h : Ev (mask ps rs) s t) (hf : Watched f) (fs : List Fld)
    (hfixed : ∀ i j, rs.map (·.fld i j) = fs := by exact fun _ _ => rfl) (hfs : ∀ g ∈ fs, Aside g := by decide)
    (hp : Part.regs ∉ ps := by decide) : t.get f = s.get f :=
  h.get_eq (keys_ne_of_fixed fs hfixed fun g hg => hf.ne_aside (hfs g hg)) hp

/-! A part that a set of names does not list is as it was. -/

theorem Ev.image_eq {ps : List Part} {rs : List Reg} (h : Ev (mask ps rs) s t) (hp : Part.image ∉ ps := by decide) : t.image = s.image :=
  h.keeps.image.resolve_left (hp ∘ cov_mask_part)

theorem Ev.fabric_eq {ps : List Part} {rs : List Reg} (h : Ev (mask ps rs) s t) (hp : Part.fabric ∉ ps := by decide) : t.fabric = s.fabric :=
  h.keeps.fabric.resolve_left (hp ∘ cov_mask_part)

end fields

/-! ### The stages that change no field of the answer, or one -/

section stages
variable {s : State} {f : Fld} {im : Image} {k fk hash : Nat} {faulted : Bool}

/-- What a hardware post writes. -/
def postRegs : List Reg :=
  [.SO_LEDSTAT_FULL, .SO_LEDSTAT_WRAPPED, .SO_LEDSTAT_LOST, .SO_LEDPTR_NEXT, .SO_DROP_HW, .SO_DROP_DL]

/-- The same as fields. -/
def postFields : List Fld :=
  [R.SO_LEDSTAT_FULL, R.SO_LEDSTAT_WRAPPED, R.SO_LEDSTAT_LOST, R.SO_LEDPTR_NEXT, R.SO_DROP_HW, R.SO_DROP_DL]

theorem get_postHw {typ ph flow pm port tag : Nat} {body : Bytes} (hf : Watched f) :
    (postHw s typ ph flow pm port tag body).get f = s.get f := by
  have hev : Ev (mask [.office, .cycle, .fresh] postRegs) s (postHw s typ ph flow pm port tag body) :=
    postHw_ev (.refl _ s) (by decide +kernel)
  exact hev.get_watched hf postFields

theorem get_postRaised (hf : Watched f) : (postRaised s fk).get f = s.get f := by
  have hev : Ev (mask [.office, .cycle, .fresh] postRegs) s (postRaised s fk) := postRaised_ev (.refl _ s) (by decide +kernel)
  exact hev.get_watched hf postFields

theorem get_recordFrame (hf : Watched f) : (recordFrame s im k hash faulted).get f = s.get f := by
  have hev : Ev (mask [.capture, .cycle, .memory] [.CAP_FRCFG_HOLD, .CAP_FRSTAT_REC, .CAP_FRSTAT_HCAUSE, .CAP_FRSTAT_GAPS, .CAP_FROLDK_LO_K,
      .CAP_FROLDK_HI_K, .CAP_FRNEWK_LO_K, .CAP_FRNEWK_HI_K]) s (recordFrame s im k hash faulted) :=
    recordFrame_ev (.refl _ s) (by decide +kernel)
  exact hev.get_watched hf [R.CAP_FRCFG_HOLD, R.CAP_FRSTAT_REC, R.CAP_FRSTAT_HCAUSE, R.CAP_FRSTAT_GAPS, R.CAP_FROLDK_LO_K, R.CAP_FROLDK_HI_K,
    R.CAP_FRNEWK_LO_K, R.CAP_FRNEWK_HI_K]

theorem holdCause_reach {bit : Nat} : Ev (mask [.capture] []) s (holdCause s bit) := holdCause_ev (.refl _ s) (by decide)

@[simp] theorem get_holdCause {bit : Nat} : (holdCause s bit).get f = s.get f := holdCause_reach.get_eq fun _ h => nomatch h

@[simp] theorem holdCause_fabric {bit : Nat} : (holdCause s bit).fabric = s.fabric := holdCause_reach.fabric_eq

@[simp] theorem get_frameClear : (frameClear s).get f = s.get f := rfl

@[simp] theorem get_formingWait : (formingWait s).get f = s.get f := by
  have hev : Ev (mask [.fabric] []) s (formingWait s) := formingWait_ev (.refl _ s) (by decide)
  exact hev.get_eq fun _ h => nomatch h

theorem get_tigBreak_held : (tigBreak s).get R.POST_TIG_HELD = 0 := get_put_same (s := s) (v := 0)

theorem get_tigBreak_ne (h : f.key ≠ R.POST_TIG_HELD.key) : (tigBreak s).get f = s.get f := get_put_ne (s := s) (v := 0) h

theorem get_hwFault_held : (hwFault s).get R.POST_TIG_HELD = 0 := get_tigBreak_held

theorem get_hwFault_flag : (hwFault s).get R.POST_TIG_HWFAULT = 1 := (get_tigBreak_ne (by decide)).trans (get_put_same (s := s) (v := 1))

theorem get_hwFault_ne (hheld : f.key ≠ R.POST_TIG_HELD.key) (hflag : f.key ≠ R.POST_TIG_HWFAULT.key) : (hwFault s).get f = s.get f :=
  (get_tigBreak_ne hheld).trans (get_put_ne hflag)

/-- Of what is watched a halt of the fabric writes RUN alone. -/
theorem get_fabricHalt_ne (hf : Watched f) (hrun : f.key ≠ R.FAB_STATUS_RUN.key) : (fabricHalt s).get f = s.get f := by
  have hidx (i : Nat) : (R.DEC_RSr_IDX_RUN i).key ≠ f.key := by
    have hkey : (R.DEC_RSr_IDX_RUN i).key = (0xa0804 + 16 * i) * 32 + 31 := rfl
    obtain hf | hf := hf
    · have hfault := faultFields_key hf
      omega
    · omega
  exact fabricHalt_reach.get_eq (List.forall_mem_cons.mpr ⟨fun i _ => hidx i, List.forall_mem_singleton.mpr fun _ _ => hrun.symm⟩)

/-- Holding the legs keeps the answer of the node. -/
theorem get_holdAll_fault (hf : f ∈ faultFields) : (holdAll s).get f = s.get f := by
  have hev : Ev (mask [.legs, .cycle] [.LEGn_STATUS_HELD, .LEGn_DEBT_D, .LEGn_DEBTMAX_D]) s (holdAll s) :=
    holdAll_ev (.refl _ s) (by decide)
  have hfault := faultFields_key hf
  have hheld (i : Nat) : (R.LEGn_STATUS_HELD i).key ≠ f.key := by rw [legHeld_key]; omega
  have hdebt (i : Nat) : (R.LEGn_DEBT_D i).key ≠ f.key := by rw [legDebt_key]; omega
  have hmax (i : Nat) : (R.LEGn_DEBTMAX_D i).key ≠ f.key := by rw [legDebtMax_key]; omega
  exact hev.get_eq (List.forall_mem_cons.mpr ⟨fun i _ => hheld i, List.forall_mem_cons.mpr ⟨fun i _ => hdebt i,
    List.forall_mem_singleton.mpr fun i _ => hmax i⟩⟩)

end stages

/-! ### The host interrupts -/

section interrupts
variable {s : State} {f : Fld} {v b : Nat}

/-- Cause `b` of the host interrupt stands. -/
def Caused (s : State) (b : Nat) : Prop := (s.get R.LK_HIRQ_CAUSE).testBit b = true

theorem get_irq_ne (h : f.key ≠ R.LK_HIRQ_CAUSE.key) : (s.irq v).get f = s.get f := by
  unfold State.irq
  dsimp only
  rw [State.mark, get_event_ne h]
  split <;> rfl

theorem get_irq_cause : (s.irq v).get R.LK_HIRQ_CAUSE = (s.get R.LK_HIRQ_CAUSE ||| 2 ^ v) % 2 ^ 14 := by
  unfold State.irq
  dsimp only
  split <;> exact get_put_same (f := R.LK_HIRQ_CAUSE)

theorem irq_fabric : (s.irq v).fabric = s.fabric := by
  have hev : Ev (mask [.cycle, .outbox] [.LK_HIRQ_CAUSE]) s (s.irq v) := State.irq_ev (.refl _ s) (by decide +kernel)
  exact hev.fabric_eq

/-- An interrupt sets its cause and takes none back. -/
theorem caused_irq (hb : b < 14) (h : v = b ∨ Caused s b) : Caused (s.irq v) b := by
  have hbits : Caused (s.irq v) b ↔ v = b ∨ Caused s b := by
    rw [Caused, get_irq_cause, Nat.testBit_mod_two_pow, Nat.testBit_or, Nat.testBit_two_pow]
    simp [Caused, hb, or_comm]
  exact hbits.mpr h

end interrupts

/-! ### The mode change of the legs (R216, R222) -/

section legs
variable {s : State} {f : Fld} {n : Nat}

/-- Steps that each keep a field keep it together. -/
theorem get_foldl {α : Type} {l : List α} {step : State → α → State} (h : ∀ x, ∀ a ∈ l, (step x a).get f = x.get f) :
    (l.foldl step s).get f = s.get f :=
  List.foldlRecOn (motive := fun x => x.get f = s.get f) l step rfl fun x hx a ha => (h x a ha).trans hx

theorem get_legsModeChange (hforce : ∀ n < 96, f.key ≠ (R.LEGn_FORCE_CODE n).key) (hfcode : ∀ n < 96, f.key ≠ (R.LEGn_STATUS_FCODE n).key)
    (hsrc : ∀ b < 16, f.key ≠ (R.BRIDGE_CTRL_SRC b).key) : (legsModeChange s).get f = s.get f := by
  unfold legsModeChange
  refine (get_foldl fun x b hb => get_put_ne (hsrc b (List.mem_range.mp hb))).trans (get_foldl fun x n hn => ?_)
  have hlt : n < 96 := List.mem_range.mp hn
  dsimp only
  rw [get_setLeg, get_put_ne (hfcode n hlt), get_put_ne (hforce n hlt)]

theorem get_legsModeChange_fault (hf : f ∈ faultFields) : (legsModeChange s).get f = s.get f := by
  have hfault := faultFields_key hf
  exact get_legsModeChange (fun n hn => by rw [legForce_key]; omega) (fun n hn => by rw [legFcode_key]; omega)
    (fun b hb => by rw [bridgeSrc_key]; omega)

theorem get_legsModeChange_assigned : (legsModeChange s).get (R.LEGn_CFG_ASSIGNED n) = s.get (R.LEGn_CFG_ASSIGNED n) :=
  get_legsModeChange (fun m _ => by rw [legAssigned_key, legForce_key]; omega) (fun m _ => by rw [legAssigned_key, legFcode_key]; omega)
    (fun b _ => by rw [legAssigned_key, bridgeSrc_key]; omega)

end legs

/-! ### A twin member that gives up its role (R355) -/

section twin
variable {s : State} {f : Fld} {n b : Nat}

theorem twinFault_reach : Ev (mask [.office, .legs, .security, .links, .twin, .cycle, .fresh, .outbox] ([.LEGn_STATUS_DRIVE, .LK_HIRQ_CAUSE,
    .NODE_TWIN_STAT_ROLE, .NODE_TWIN_STAT_SEQ_END, .NODE_TWIN_SEQ_LO_NEXT, .NODE_TWIN_SEQ_HI_NEXT] ++ postRegs)) s (twinFault s) :=
  twinFault_ev (.refl _ s) (by decide +kernel)

@[simp] theorem twinFault_fabric : (twinFault s).fabric = s.fabric := twinFault_reach.fabric_eq

/-- Of what is watched the loss of a role writes the drive of the legs and the interrupt causes alone. -/
theorem get_twinFault (hf : Watched f) (hdrive : ∀ i, (R.LEGn_STATUS_DRIVE i).key ≠ f.key) (hcause : f.key ≠ R.LK_HIRQ_CAUSE.key) :
    (twinFault s).get f = s.get f := by
  have hrest : ∀ g ∈ [R.NODE_TWIN_STAT_ROLE, R.NODE_TWIN_STAT_SEQ_END, R.NODE_TWIN_SEQ_LO_NEXT, R.NODE_TWIN_SEQ_HI_NEXT] ++ postFields,
      Aside g := by decide
  exact twinFault_reach.get_eq (List.forall_mem_cons.mpr ⟨fun i _ => hdrive i, List.forall_mem_cons.mpr ⟨fun _ _ => hcause.symm,
    keys_ne_of_fixed _ (hne := fun g hg => hf.ne_aside (hrest g hg))⟩⟩)

theorem legDrive_ne_fault (hf : f ∈ faultFields) : (R.LEGn_STATUS_DRIVE n).key ≠ f.key := by
  have hfault := faultFields_key hf
  rw [legDrive_key]
  omega

theorem get_twinFault_fault (hf : f ∈ faultFields) (hcause : f.key ≠ R.LK_HIRQ_CAUSE.key) : (twinFault s).get f = s.get f :=
  get_twinFault (.of_fault hf) (fun _ => legDrive_ne_fault hf) hcause

theorem LegHeld.after_twinFault (h : LegHeld s n) (hn : n < 96) : LegHeld (twinFault s) n :=
  h.congr
    (get_twinFault (.of_leg (legHeld_at_legs hn)) (fun i => by rw [legDrive_key, legHeld_key]; omega)
      (key_ne_of_offLegs (legHeld_at_legs hn)))
    (get_twinFault (.of_leg (legDebt_at_legs hn)) (fun i => by rw [legDrive_key, legDebt_key]; omega)
      (key_ne_of_offLegs (legDebt_at_legs hn)))

/-- A member that becomes SUSPECT takes no interrupt back. -/
theorem caused_setRole_suspect (hb : b < 14) (h : Caused s b) : Caused (setRole s 5) b := by
  have hdrive (x : State) (old : Nat) : (setDrive x old 5).get R.LK_HIRQ_CAUSE = x.get R.LK_HIRQ_CAUSE := by
    have hev : Ev (mask [.legs] [.LEGn_STATUS_DRIVE]) x (setDrive x old 5) := setDrive_ev (.refl _ x) (by decide)
    exact hev.get_eq (List.forall_mem_singleton.mpr fun i _ => legDrive_ne_fault (by decide))
  have henvelope (k : Nat) : Caused (twinEnvelope (setDrive (s.put R.NODE_TWIN_STAT_ROLE 5) s.role 5) 1 s.role 5 0 k) b := by
    refine caused_irq hb (.inr ?_)
    rwa [Caused, get_postHw (.of_fault (by decide)), hdrive, get_put_ne (by decide)]
  unfold setRole
  dsimp only
  split
  · exact h
  · rw [if_neg (by decide)]
    split <;> exact henvelope _

theorem caused_twinFault (hb : b < 14) (h : Caused s b) : Caused (twinFault s) b := by
  unfold twinFault
  split
  · exact h
  · split
    · exact caused_setRole_suspect hb h
    · split
      · exact caused_setRole_suspect hb h
      · exact h

/-- SINGLE, SEEKING and SUSPECT members keep their role in a fault (Table TW-3). -/
theorem twinFault_of_role (h : s.role < 2 ∨ s.role = 5) : twinFault s = s := by
  have h4 : s.role ≠ 4 := by omega
  have h23 : ¬ (s.role = 2 ∨ s.role = 3) := by omega
  simp [twinFault, h4, h23]

end twin

end Sys2Proof.Machine
end

section
/-! RECOVERY from a mode in which legs switch (spec/03_modes.md R69, R74), and what a fault leaves there. -/
namespace Sys2Proof.Machine

/-! ### The steps -/

/-- The mode is written and its interrupt raised; the legs lose their forces and host sources (R64, R66, R216). -/
def recoveryNoted (s : State) (entry : Nat) : State :=
  let x := legsModeChange (((s.put R.NODE_MODE_MODE 5).put R.NODE_MODE_ENTRY entry).irq 0)
  { x with hidden := { x.hidden with stopRamp := none, modeLog := ((x.finePostmark, s.mode) :: x.hidden.modeLog).take 4 } }

/-- Then the legs are held, the guarantee ends and the fabric halts. -/
def recoveryHalted (s : State) (entry : Nat) : State := fabricHalt (tigBreak (holdAll (recoveryNoted s entry)))

/-- RECOVERY is entered: the FORMING bridges wait, the flight record may hold, a twin member gives up its role. -/
def recoveryEntered (s : State) (entry : Nat) : State :=
  let x := twinFault (holdCause (formingWait (recoveryHalted s entry)) 3)
  { x with fabric := { x.fabric with readyRun := 0 } }

/-- The fields that RECOVERY writes itself. -/
def recoveryFields : List Fld := [R.NODE_MODE_MODE, R.NODE_MODE_ENTRY, R.LK_HIRQ_CAUSE, R.FAB_STATUS_RUN, R.POST_TIG_HELD]

/-- RECOVERY with its ENTRY code: the legs assigned in `s` are held, the fabric is halted and the guarantee is not held. -/
structure InRecovery (s t : State) (entry : Nat) : Prop where
  mode : t.mode = 5
  entry : t.get R.NODE_MODE_ENTRY = entry
  run : t.get R.FAB_STATUS_RUN = 0
  held : t.get R.POST_TIG_HELD = 0
  legs : ∀ n < 96, s.get (R.LEGn_CFG_ASSIGNED n) = 1 → LegHeld t n

section recovery
variable {s t u : State} {f : Fld} {n b entry : Nat}

theorem enterRecovery_switching (h : s.mode = 2 ∨ s.mode = 3 ∨ s.mode = 4) (he : entry ≠ 3) :
    enterRecovery s entry = recoveryEntered s entry := by
  have hswitching : switchingMode s.mode = true := by
    obtain h | h | h := h <;> rw [h] <;> rfl
  have hstanding : switchingMode 5 = false := rfl
  have hrecovery : ¬ (s.mode = 5 ∨ s.mode = 7) := by omega
  simp [enterRecovery, setMode, hswitching, hstanding, he, hrecovery, recoveryEntered, recoveryHalted, recoveryNoted]

theorem enterRecovery_elsewhere (h2 : s.mode ≠ 2) (h3 : s.mode ≠ 3) (h4 : s.mode ≠ 4) : enterRecovery s entry = s := by
  simp [enterRecovery, switchingMode, h2, h3, h4]

/-! ### The fields of the answer -/

/-- A field that the mode change of the legs keeps. -/
theorem get_recoveryNoted (hlegs : ∀ x, (legsModeChange x).get f = x.get f) :
    (recoveryNoted s entry).get f = (((s.put R.NODE_MODE_MODE 5).put R.NODE_MODE_ENTRY entry).irq 0).get f := by
  rw [← hlegs (((s.put R.NODE_MODE_MODE 5).put R.NODE_MODE_ENTRY entry).irq 0)]
  simp only [recoveryNoted, State.get]

theorem get_recoveryNoted_ne (hlegs : ∀ x, (legsModeChange x).get f = x.get f) (hmode : f.key ≠ R.NODE_MODE_MODE.key)
    (hentry : f.key ≠ R.NODE_MODE_ENTRY.key) (hcause : f.key ≠ R.LK_HIRQ_CAUSE.key) : (recoveryNoted s entry).get f = s.get f := by
  rw [get_recoveryNoted hlegs, get_irq_ne hcause, get_put_ne hentry, get_put_ne hmode]

theorem get_recoveryNoted_mode : (recoveryNoted s entry).get R.NODE_MODE_MODE = 5 := by
  rw [get_recoveryNoted fun _ => get_legsModeChange_fault (by decide), get_irq_ne (by decide), get_put_ne (by decide), get_put_same]
  rfl

theorem get_recoveryNoted_entry (he : entry < 16) : (recoveryNoted s entry).get R.NODE_MODE_ENTRY = entry := by
  rw [get_recoveryNoted fun _ => get_legsModeChange_fault (by decide), get_irq_ne (by decide), get_put_same]
  exact Nat.mod_eq_of_lt he

theorem get_recoveryNoted_assigned (hn : n < 96) : (recoveryNoted s entry).get (R.LEGn_CFG_ASSIGNED n) = s.get (R.LEGn_CFG_ASSIGNED n) :=
  get_recoveryNoted_ne (fun _ => get_legsModeChange_assigned) (key_ne_of_offLegs (legAssigned_at_legs hn))
    (key_ne_of_offLegs (legAssigned_at_legs hn)) (key_ne_of_offLegs (legAssigned_at_legs hn))

/-- The halt ends RUN and the guarantee; the rest of the answer it keeps. -/
theorem get_recoveryHalted (hf : f ∈ faultFields) (hrun : f.key ≠ R.FAB_STATUS_RUN.key) (hheld : f.key ≠ R.POST_TIG_HELD.key) :
    (recoveryHalted s entry).get f = (recoveryNoted s entry).get f := by
  rw [recoveryHalted, get_fabricHalt_ne (.of_fault hf) hrun, get_tigBreak_ne hheld, get_holdAll_fault hf]

theorem get_recoveryEntered_twin :
    (recoveryEntered s entry).get f = (twinFault (holdCause (formingWait (recoveryHalted s entry)) 3)).get f := by
  simp only [recoveryEntered, State.get]

theorem get_recoveryEntered (hf : f ∈ faultFields) (hcause : f.key ≠ R.LK_HIRQ_CAUSE.key) :
    (recoveryEntered s entry).get f = (recoveryHalted s entry).get f := by
  rw [get_recoveryEntered_twin, get_twinFault_fault hf hcause, get_holdCause, get_formingWait]

/-- The rest of the answer stands in RECOVERY as it did before. -/
theorem get_recoveryEntered_ne (hf : f ∈ faultFields) (hne : ∀ g ∈ recoveryFields, f.key ≠ g.key) :
    (recoveryEntered s entry).get f = s.get f := by
  simp only [recoveryFields, List.forall_mem_cons] at hne
  obtain ⟨hmode, hentry, hcause, hrun, hheld, -⟩ := hne
  rw [get_recoveryEntered hf hcause, get_recoveryHalted hf hrun hheld,
    get_recoveryNoted_ne (fun _ => get_legsModeChange_fault hf) hmode hentry hcause]

theorem caused_recoveryNoted (hb : b < 14) (h : Caused s b) : Caused (recoveryNoted s entry) b := by
  rw [Caused, get_recoveryNoted fun _ => get_legsModeChange_fault (by decide)]
  refine caused_irq hb (.inr ?_)
  rwa [Caused, get_put_ne (by decide), get_put_ne (by decide)]

theorem caused_recoveryEntered (hb : b < 14) (h : Caused s b) : Caused (recoveryEntered s entry) b := by
  rw [Caused, get_recoveryEntered_twin]
  refine caused_twinFault hb ?_
  rw [Caused, get_holdCause, get_formingWait, get_recoveryHalted (by decide) (by decide) (by decide)]
  exact caused_recoveryNoted hb h

/-! ### The halted fabric -/

/-- No frame is in evaluation and nothing is staged for the legs. -/
def NoFrame (s : State) : Prop := s.fabric.frame = none ∧ s.fabric.staged = []

theorem noFrame_fabricHalt : NoFrame (fabricHalt s) := ⟨rfl, rfl⟩

theorem NoFrame.after_outZero {im : Image} {blk : Block} {j : Nat} (h : NoFrame s) : NoFrame (outZero im blk s j) := by
  unfold outZero
  split <;> exact h

theorem NoFrame.after_formingWait (h : NoFrame s) : NoFrame (formingWait s) := by
  unfold formingWait
  split
  · exact h
  · exact List.foldlRecOn _ _ h fun x hx blk _ => List.foldlRecOn _ _ hx fun _ hy _ _ => hy.after_outZero

theorem noFrame_recoveryEntered : NoFrame (recoveryEntered s entry) := by
  have hwait : NoFrame (formingWait (recoveryHalted s entry)) := noFrame_fabricHalt.after_formingWait
  simpa only [NoFrame, recoveryEntered, twinFault_fabric, holdCause_fabric] using hwait

/-! ### RECOVERY as a whole -/

theorem legHeld_recoveryHalted (hn : n < 96) (h : s.get (R.LEGn_CFG_ASSIGNED n) = 1) : LegHeld (recoveryHalted s entry) n := by
  have hall : LegHeld (holdAll (recoveryNoted s entry)) n := legHeld_holdAll hn ((get_recoveryNoted_assigned hn).trans h)
  have hkeep (f : Fld) (hf : ¬ OffLegs f) : (recoveryHalted s entry).get f = (holdAll (recoveryNoted s entry)).get f :=
    (get_fabricHalt_ne (.of_leg hf) (key_ne_of_offLegs hf)).trans (get_tigBreak_ne (key_ne_of_offLegs hf))
  exact hall.congr (hkeep _ (legHeld_at_legs hn)) (hkeep _ (legDebt_at_legs hn))

theorem inRecovery_recoveryEntered (he : entry < 16) : InRecovery s (recoveryEntered s entry) entry where
  mode := (get_recoveryEntered (by decide) (by decide)).trans ((get_recoveryHalted (by decide) (by decide) (by decide)).trans get_recoveryNoted_mode)
  entry := (get_recoveryEntered (by decide) (by decide)).trans
    ((get_recoveryHalted (by decide) (by decide) (by decide)).trans (get_recoveryNoted_entry he))
  run := (get_recoveryEntered (by decide) (by decide)).trans get_fabricHalt_run
  held := (get_recoveryEntered (by decide) (by decide)).trans ((get_fabricHalt_ne (.of_fault (by decide)) (by decide)).trans get_tigBreak_held)
  legs n hn h := by
    have hwait : LegHeld (holdCause (formingWait (recoveryHalted s entry)) 3) n :=
      (legHeld_recoveryHalted hn h).congr (get_holdCause.trans get_formingWait) (get_holdCause.trans get_formingWait)
    exact (hwait.after_twinFault hn).congr get_recoveryEntered_twin get_recoveryEntered_twin

theorem InRecovery.after_twinFault (h : InRecovery s t entry) : InRecovery s (twinFault t) entry where
  mode := (get_twinFault_fault (by decide) (by decide)).trans h.mode
  entry := (get_twinFault_fault (by decide) (by decide)).trans h.entry
  run := (get_twinFault_fault (by decide) (by decide)).trans h.run
  held := (get_twinFault_fault (by decide) (by decide)).trans h.held
  legs n hn hs := (h.legs n hn hs).after_twinFault hn

/-- The same legs are meant where the assignment is the same. -/
theorem InRecovery.of_assigned (h : InRecovery u t entry)
    (hs : ∀ n < 96, u.get (R.LEGn_CFG_ASSIGNED n) = s.get (R.LEGn_CFG_ASSIGNED n)) : InRecovery s t entry :=
  { h with legs := fun n hn hn1 => h.legs n hn ((hs n hn).trans hn1) }

end recovery

end Sys2Proof.Machine
end

section
/-!
A fabric fault (spec/06_fabric.md R165) in the steps of `fabricFault`: the cause noted, the envelopes posted, the fabric stopped, the answer of the
mode.
-/
namespace Sys2Proof.Machine

/-! ### The steps -/

/-- A condition of the guarantee is broken: OVERRUN by an overrun, HWFAULT by every other cause (Table PM-11). -/
def faultFlagged (s : State) (code : Nat) : State := if code = 1 then tigBreak (s.put R.POST_TIG_OVERRUN 1) else hwFault s

/-- The cause, the tile and the frame of a fault are noted, and the guarantee ends. -/
def faultNoted (s : State) (code tile k : Nat) : State :=
  faultFlagged (((s.put R.FAB_STATUS_FAULT code).put R.FAB_STATUS_FTILE tile).putPair R.FAB_FAULTK_LO_K R.FAB_FAULTK_HI_K k) code

/-- The frame of a fault: the one in evaluation, else the one of the present instant. -/
def faultFrame (s : State) (im : Image) : Nat := s.fabric.frame.getD (frameAt im.frate s.postmark)

/-- The envelopes raised and the FABRIC_FAULT envelope are posted. -/
def faultPosted (s : State) (im : Image) (code tile : Nat) : State :=
  let k := faultFrame s im
  postFabricFault (postRaised (faultNoted s code tile k) (frameStart im.frate k)) code tile k (frameStart im.frate k)

/-- The frame is recorded as faulted, and the fabric stands. -/
def faultStopped (s : State) (im : Image) (code tile : Nat) : State :=
  frameClear (holdCause (fabricHalt (recordFrame (faultPosted s im code tile) im (faultFrame s im) 0 true)) 0)

/-- In STANDBY the fabric is to start again from the image. -/
def faultReinit (s : State) : State := { s with fabric := { s.fabric with reinit := true, lapse := false } }

/-- The fields in which a fault is noted. -/
def noteFields : List Fld :=
  [R.FAB_STATUS_FAULT, R.FAB_STATUS_FTILE, R.FAB_FAULTK_LO_K, R.FAB_FAULTK_HI_K, R.POST_TIG_HELD, R.POST_TIG_HWFAULT, R.POST_TIG_OVERRUN]

/-- The fault stands: the fabric is halted with its cause and tile, no frame is in evaluation and nothing staged, the guarantee is not held and the
host has its interrupt. -/
structure FaultStands (code tile : Nat) (t : State) : Prop where
  run : t.get R.FAB_STATUS_RUN = 0
  fault : t.get R.FAB_STATUS_FAULT = code
  ftile : t.get R.FAB_STATUS_FTILE = tile
  frame : t.fabric.frame = none
  staged : t.fabric.staged = []
  held : t.get R.POST_TIG_HELD = 0
  cause : Caused t 3

section steps
variable {s : State} {f : Fld} {im : Image} {code tile k n entry : Nat}

/-! ### The notes -/

theorem get_faultFlagged_held : (faultFlagged s code).get R.POST_TIG_HELD = 0 := by
  unfold faultFlagged
  split
  · exact get_tigBreak_held
  · exact get_hwFault_held

theorem get_faultFlagged_ne (hheld : f.key ≠ R.POST_TIG_HELD.key) (hhw : f.key ≠ R.POST_TIG_HWFAULT.key)
    (hoverrun : f.key ≠ R.POST_TIG_OVERRUN.key) : (faultFlagged s code).get f = s.get f := by
  unfold faultFlagged
  split
  · exact (get_tigBreak_ne hheld).trans (get_put_ne hoverrun)
  · exact get_hwFault_ne hheld hhw

theorem get_faultNoted_hwFault (h : code ≠ 1) : (faultNoted s code tile k).get R.POST_TIG_HWFAULT = 1 := by
  rw [faultNoted, faultFlagged, if_neg h]
  exact get_hwFault_flag

theorem get_faultNoted_overrun : (faultNoted s 1 tile k).get R.POST_TIG_OVERRUN = 1 := by
  rw [faultNoted, faultFlagged, if_pos rfl, get_tigBreak_ne (by decide), get_put_same]
  rfl

theorem get_faultNoted_held : (faultNoted s code tile k).get R.POST_TIG_HELD = 0 := get_faultFlagged_held

theorem get_faultNoted_fault (hcode : code < 16) : (faultNoted s code tile k).get R.FAB_STATUS_FAULT = code := by
  rw [faultNoted, get_faultFlagged_ne (by decide) (by decide) (by decide), State.putPair, get_put_ne (by decide), get_put_ne (by decide),
    get_put_ne (by decide), get_put_same]
  exact Nat.mod_eq_of_lt hcode

theorem get_faultNoted_tile (htile : tile < 16) : (faultNoted s code tile k).get R.FAB_STATUS_FTILE = tile := by
  rw [faultNoted, get_faultFlagged_ne (by decide) (by decide) (by decide), State.putPair, get_put_ne (by decide), get_put_ne (by decide),
    get_put_same]
  exact Nat.mod_eq_of_lt htile

theorem getPair_faultNoted : (faultNoted s code tile k).getPair R.FAB_FAULTK_LO_K R.FAB_FAULTK_HI_K = k % 2 ^ 64 := by
  have hlo : (faultNoted s code tile k).get R.FAB_FAULTK_LO_K = k % 2 ^ 32 % 2 ^ 32 := by
    rw [faultNoted, get_faultFlagged_ne (by decide) (by decide) (by decide), State.putPair, get_put_ne (by decide), get_put_same]
    rfl
  have hhi : (faultNoted s code tile k).get R.FAB_FAULTK_HI_K = k / 2 ^ 32 % 2 ^ 32 := by
    rw [faultNoted, get_faultFlagged_ne (by decide) (by decide) (by decide), State.putPair, get_put_same]
    rfl
  rw [State.getPair, hlo, hhi]
  omega

theorem get_faultNoted_ne (hne : ∀ g ∈ noteFields, f.key ≠ g.key) : (faultNoted s code tile k).get f = s.get f := by
  simp only [noteFields, List.forall_mem_cons] at hne
  obtain ⟨hfault, htile, hlo, hhi, hheld, hhw, hoverrun, -⟩ := hne
  rw [faultNoted, get_faultFlagged_ne hheld hhw hoverrun, State.putPair, get_put_ne hhi, get_put_ne hlo, get_put_ne htile, get_put_ne hfault]

/-! ### The posts and the stop -/

theorem get_faultPosted (hf : Watched f) (hcause : f.key ≠ R.LK_HIRQ_CAUSE.key) :
    (faultPosted s im code tile).get f = (faultNoted s code tile (faultFrame s im)).get f := by
  rw [faultPosted, postFabricFault, get_irq_ne hcause, get_postHw hf, get_postRaised hf]

theorem caused_faultPosted : Caused (faultPosted s im code tile) 3 := caused_irq (by decide) (.inl rfl)

theorem get_faultStopped_posted (hf : Watched f) (hrun : f.key ≠ R.FAB_STATUS_RUN.key) :
    (faultStopped s im code tile).get f = (faultPosted s im code tile).get f := by
  rw [faultStopped, get_frameClear, get_holdCause, get_fabricHalt_ne hf hrun, get_recordFrame hf]

theorem get_faultStopped (hf : Watched f) (hrun : f.key ≠ R.FAB_STATUS_RUN.key) (hcause : f.key ≠ R.LK_HIRQ_CAUSE.key) :
    (faultStopped s im code tile).get f = (faultNoted s code tile (faultFrame s im)).get f :=
  (get_faultStopped_posted hf hrun).trans (get_faultPosted hf hcause)

theorem mode_faultPosted : (faultPosted s im code tile).mode = s.mode :=
  (get_faultPosted (.of_fault (by decide)) (by decide)).trans (get_faultNoted_ne (by decide))

theorem mode_faultStopped : (faultStopped s im code tile).mode = s.mode :=
  (get_faultStopped_posted (.of_fault (by decide)) (by decide)).trans mode_faultPosted

theorem get_faultStopped_assigned (hn : n < 96) :
    (faultStopped s im code tile).get (R.LEGn_CFG_ASSIGNED n) = s.get (R.LEGn_CFG_ASSIGNED n) := by
  have hassigned := legAssigned_at_legs hn
  have hnotes : ∀ g ∈ noteFields, OffLegs g := by decide
  exact (get_faultStopped (.of_leg hassigned) (key_ne_of_offLegs hassigned) (key_ne_of_offLegs hassigned)).trans
    (get_faultNoted_ne fun g hg => key_ne_of_offLegs hassigned (hnotes g hg))

/-! ### The fault stands in every mode -/

theorem NoFrame.after_frameClear (h : NoFrame s) : NoFrame (frameClear s) := ⟨rfl, h.2⟩

theorem noFrame_faultStopped : NoFrame (faultStopped s im code tile) :=
  .after_frameClear (by simpa only [NoFrame, holdCause_fabric] using noFrame_fabricHalt)

theorem faultStands_faultStopped (hcode : code < 16) (htile : tile < 16) : FaultStands code tile (faultStopped s im code tile) where
  run := get_frameClear.trans (get_holdCause.trans get_fabricHalt_run)
  fault := (get_faultStopped (.of_fault (by decide)) (by decide) (by decide)).trans (get_faultNoted_fault hcode)
  ftile := (get_faultStopped (.of_fault (by decide)) (by decide) (by decide)).trans (get_faultNoted_tile htile)
  frame := noFrame_faultStopped.1
  staged := noFrame_faultStopped.2
  held := (get_faultStopped (.of_fault (by decide)) (by decide) (by decide)).trans get_faultNoted_held
  cause := by
    rw [Caused, get_faultStopped_posted (.of_fault (by decide)) (by decide)]
    exact caused_faultPosted

theorem FaultStands.after_recovery (h : FaultStands code tile s) (he : entry < 16) : FaultStands code tile (recoveryEntered s entry) where
  run := (inRecovery_recoveryEntered he).run
  fault := (get_recoveryEntered_ne (by decide) (by decide)).trans h.fault
  ftile := (get_recoveryEntered_ne (by decide) (by decide)).trans h.ftile
  frame := noFrame_recoveryEntered.1
  staged := noFrame_recoveryEntered.2
  held := (inRecovery_recoveryEntered he).held
  cause := caused_recoveryEntered (by decide) h.cause

theorem FaultStands.after_twinFault (h : FaultStands code tile s) : FaultStands code tile (twinFault s) where
  run := (get_twinFault_fault (by decide) (by decide)).trans h.run
  fault := (get_twinFault_fault (by decide) (by decide)).trans h.fault
  ftile := (get_twinFault_fault (by decide) (by decide)).trans h.ftile
  frame := (congrArg Fabric.frame twinFault_fabric).trans h.frame
  staged := (congrArg Fabric.staged twinFault_fabric).trans h.staged
  held := (get_twinFault_fault (by decide) (by decide)).trans h.held
  cause := caused_twinFault (by decide) h.cause

@[simp] theorem get_faultReinit : (faultReinit s).get f = s.get f := rfl

theorem FaultStands.after_reinit (h : FaultStands code tile s) : FaultStands code tile (faultReinit s) := { h with }

/-! ### The answer of the mode (R165) -/

/-- With the fabric halted or no image there is no fabric fault. -/
theorem fabricFault_halted (h : s.image = none ∨ s.get R.FAB_STATUS_RUN = 0) : fabricFault s code tile = s := by
  unfold fabricFault
  split
  · rfl
  · rename_i im him
    exact if_pos (h.resolve_left fun hnone => by simp [hnone] at him)

section running
variable (him : s.image = some im) (hrun : s.get R.FAB_STATUS_RUN ≠ 0)
include him hrun

/-- Outside REPLAY a fault stops the running fabric, and the mode answers. -/
theorem fabricFault_running (h6 : s.mode ≠ 6) :
    fabricFault s code tile = twinFault (if s.mode = 1 then faultReinit (faultStopped s im code tile)
      else enterRecovery (faultStopped s im code tile) 4) := by
  have hposted : ¬ (faultPosted s im code tile).mode = 6 := by rwa [mode_faultPosted]
  have hsteps : fabricFault s code tile =
      let y := if (faultPosted s im code tile).mode = 6 then faultPosted s im code tile
        else recordFrame (faultPosted s im code tile) im (faultFrame s im) 0 true
      let z := frameClear (holdCause (fabricHalt y) 0)
      twinFault (if z.mode = 6 then replayEnd z 6 else if z.mode = 1 then faultReinit z else enterRecovery z 4) := by
    rw [fabricFault, him]
    exact if_neg hrun
  rw [hsteps]
  simp only [if_neg hposted]
  rw [← faultStopped, mode_faultStopped, if_neg h6]

theorem fabricFault_standby (hmode : s.mode = 1) : fabricFault s code tile = twinFault (faultReinit (faultStopped s im code tile)) := by
  rw [fabricFault_running him hrun (by omega), if_pos hmode]

theorem fabricFault_switching (hmode : s.mode = 2 ∨ s.mode = 3 ∨ s.mode = 4) :
    fabricFault s code tile = twinFault (recoveryEntered (faultStopped s im code tile) 4) := by
  have hstopped : (faultStopped s im code tile).mode = 2 ∨ (faultStopped s im code tile).mode = 3 ∨ (faultStopped s im code tile).mode = 4 := by
    rwa [mode_faultStopped]
  rw [fabricFault_running him hrun (by omega), if_neg (by omega), enterRecovery_switching hstopped (by decide)]

/-- In STANDBY the mode stays, and the fabric is to start again. -/
theorem fabricFault_restarts (hmode : s.mode = 1) (hcode : code < 16) (htile : tile < 16) :
    FaultStands code tile (fabricFault s code tile) ∧ (fabricFault s code tile).mode = 1 ∧ (fabricFault s code tile).fabric.reinit = true
      ∧ (fabricFault s code tile).get R.POST_TIG_HWFAULT = (faultNoted s code tile (faultFrame s im)).get R.POST_TIG_HWFAULT := by
  rw [fabricFault_standby him hrun hmode]
  refine ⟨(faultStands_faultStopped hcode htile).after_reinit.after_twinFault, ?mode, ?reinit, ?flag⟩
  case mode =>
    rw [State.mode, get_twinFault_fault (by decide) (by decide), get_faultReinit]
    exact mode_faultStopped.trans hmode
  case reinit =>
    rw [twinFault_fabric]
    rfl
  case flag =>
    rw [get_twinFault_fault (by decide) (by decide), get_faultReinit]
    exact get_faultStopped (.of_fault (by decide)) (by decide) (by decide)

section switching
variable (hmode : s.mode = 2 ∨ s.mode = 3 ∨ s.mode = 4)
include hmode

/-- From a switching mode the fault stands in RECOVERY with ENTRY 4. -/
theorem fabricFault_recovers (hcode : code < 16) (htile : tile < 16) :
    FaultStands code tile (fabricFault s code tile) ∧ InRecovery s (fabricFault s code tile) 4 := by
  rw [fabricFault_switching him hrun hmode]
  exact ⟨((faultStands_faultStopped hcode htile).after_recovery (by decide)).after_twinFault,
    ((inRecovery_recoveryEntered (by decide)).of_assigned fun n hn => get_faultStopped_assigned hn).after_twinFault⟩

/-- What RECOVERY does not write reads there as it was noted. -/
theorem get_fabricFault_noted (hf : f ∈ faultFields) (hne : ∀ g ∈ recoveryFields, f.key ≠ g.key) :
    (fabricFault s code tile).get f = (faultNoted s code tile (faultFrame s im)).get f := by
  have hcause : f.key ≠ R.LK_HIRQ_CAUSE.key := hne _ (by simp [recoveryFields])
  have hrun' : f.key ≠ R.FAB_STATUS_RUN.key := hne _ (by simp [recoveryFields])
  rw [fabricFault_switching him hrun hmode, get_twinFault_fault hf hcause, get_recoveryEntered_ne hf hne,
    get_faultStopped (.of_fault hf) hrun' hcause]

end switching
end running

end steps

end Sys2Proof.Machine
end

section
/-!
FABRIC_FAULT, FABRIC_OVERRUN and UNCORRECTABLE_MEMORY_ERROR (spec/06_fabric.md R164, R165; spec/01_node.md R26).
-/
namespace Sys2Proof.Machine

/-! ### The causes of FABRIC_FAULT (Table FB-6) -/

theorem causeCode_lt {cause : FabricCause} : causeCode cause < 16 := by cases cause <;> decide

theorem causeCode_ne_overrun {cause : FabricCause} : causeCode cause ≠ 1 := by cases cause <;> decide

/-! ### The clock runs to the end of the frame -/

section clock
variable {s : State} {f : Fld} {pm n : Nat}

/-- What the clock writes as it runs: the state of the time base, the guarantee and the interrupt causes. -/
def clockFields : List Fld := [R.POST_STATUS_CHANGED, R.POST_STATUS_STATE, R.POST_TIG_TIMEBASE, R.POST_TIG_HELD, R.LK_HIRQ_CAUSE]

theorem runTo_reach : Ev (mask [.time, .root, .fabric, .cycle, .outbox] [.POST_STATUS_CHANGED, .POST_STATUS_STATE, .POST_TIG_TIMEBASE,
    .POST_TIG_HELD, .LK_HIRQ_CAUSE]) s (s.runTo pm) := State.runTo_ev (.refl _ s) (by decide +kernel)

theorem get_runTo (hne : ∀ g ∈ clockFields, f.key ≠ g.key) : (s.runTo pm).get f = s.get f :=
  runTo_reach.get_eq (keys_ne_of_fixed clockFields (hne := fun g hg => (hne g hg).symm))

theorem get_runTo_assigned (hn : n < 96) : (s.runTo pm).get (R.LEGn_CFG_ASSIGNED n) = s.get (R.LEGn_CFG_ASSIGNED n) := by
  have hclock : ∀ g ∈ clockFields, OffLegs g := by decide
  exact get_runTo fun g hg => key_ne_of_offLegs (legAssigned_at_legs hn) (hclock g hg)

theorem runTo_image : (s.runTo pm).image = s.image := runTo_reach.image_eq

theorem secondsEnd_frame : (secondsEnd s).fabric.frame = s.fabric.frame := by
  unfold secondsEnd
  dsimp only
  split
  · rfl
  · exact congrArg Fabric.frame irq_fabric

/-- The frame in evaluation stays in evaluation, also where the seconds end meanwhile. -/
theorem runTo_frame : (s.runTo pm).fabric.frame = s.fabric.frame := by
  unfold State.runTo State.ticks
  dsimp only
  split
  · rfl
  · split
    · exact secondsEnd_frame
    · rfl

end clock

/-! ### The overrun (R164) -/

section overrun
variable {s : State} {im : Image} {k tile : Nat}

theorem fabricOverrun_halted (h : s.image = none ∨ s.get R.FAB_STATUS_RUN = 0 ∨ s.fabric.frame = none) : fabricOverrun s tile = s := by
  unfold fabricOverrun
  split
  · rename_i im k him hframe
    exact if_pos (by simpa [him, hframe] using h)
  · rfl

section running
variable (him : s.image = some im) (hframe : s.fabric.frame = some k) (hrun : s.get R.FAB_STATUS_RUN ≠ 0)
include him hframe hrun

/-- An overrun is a fault of code 1 at the end of the frame in evaluation. -/
theorem fabricOverrun_running : fabricOverrun s tile = fabricFault (s.runTo (frameStart im.frate (k + 1))) 1 tile := by
  simp [fabricOverrun, him, hframe, hrun]

/-- From a switching mode it stands in RECOVERY with ENTRY 4, with its frame. -/
theorem fabricOverrun_recovers (hmode : s.mode = 2 ∨ s.mode = 3 ∨ s.mode = 4) (htile : tile < 16) :
    FaultStands 1 tile (fabricOverrun s tile) ∧ InRecovery s (fabricOverrun s tile) 4
      ∧ (fabricOverrun s tile).get R.POST_TIG_OVERRUN = 1
      ∧ (fabricOverrun s tile).getPair R.FAB_FAULTK_LO_K R.FAB_FAULTK_HI_K = k % 2 ^ 64 := by
  rw [fabricOverrun_running him hframe hrun]
  generalize frameStart im.frate (k + 1) = pm
  have him' : (s.runTo pm).image = some im := runTo_image.trans him
  have hrun' : (s.runTo pm).get R.FAB_STATUS_RUN ≠ 0 := by rwa [get_runTo (by decide)]
  have hmode' : (s.runTo pm).mode = 2 ∨ (s.runTo pm).mode = 3 ∨ (s.runTo pm).mode = 4 := by rwa [State.mode, get_runTo (by decide)]
  have hk : faultFrame (s.runTo pm) im = k := by
    rw [faultFrame, runTo_frame, hframe]
    rfl
  have hnoted {f : Fld} (hf : f ∈ faultFields) (hne : ∀ g ∈ recoveryFields, f.key ≠ g.key) :
      (fabricFault (s.runTo pm) 1 tile).get f = (faultNoted (s.runTo pm) 1 tile k).get f :=
    hk ▸ get_fabricFault_noted him' hrun' hmode' hf hne
  obtain ⟨hstands, hrecovery⟩ := fabricFault_recovers him' hrun' hmode' (by decide : 1 < 16) htile
  refine ⟨hstands, hrecovery.of_assigned fun n hn => get_runTo_assigned hn, (hnoted (by decide) (by decide)).trans get_faultNoted_overrun, ?_⟩
  rw [State.getPair, hnoted (by decide) (by decide), hnoted (by decide) (by decide)]
  exact getPair_faultNoted

end running
end overrun

/-! ### The memory error (R26) -/

section memory
variable {s : State}

theorem mode_hwFault : (hwFault s).mode = s.mode := get_hwFault_ne (by decide) (by decide)

theorem memoryError_switching (hmode : s.mode = 2 ∨ s.mode = 3 ∨ s.mode = 4) :
    memoryError s = twinFault (recoveryEntered (hwFault s) 5) := by
  rw [memoryError, enterRecovery_switching (by rwa [mode_hwFault]) (by decide)]

theorem memoryError_elsewhere (h2 : s.mode ≠ 2) (h3 : s.mode ≠ 3) (h4 : s.mode ≠ 4) : memoryError s = twinFault (hwFault s) := by
  rw [memoryError, enterRecovery_elsewhere (by rwa [mode_hwFault]) (by rwa [mode_hwFault]) (by rwa [mode_hwFault])]

/-- A switching mode goes to RECOVERY with ENTRY 5, and the hardware fault stands there. -/
theorem memoryError_recovers (hmode : s.mode = 2 ∨ s.mode = 3 ∨ s.mode = 4) :
    InRecovery s (memoryError s) 5 ∧ (memoryError s).get R.POST_TIG_HWFAULT = 1 := by
  rw [memoryError_switching hmode, get_twinFault_fault (by decide) (by decide), get_recoveryEntered_ne (by decide) (by decide)]
  refine ⟨((inRecovery_recoveryEntered (by decide)).of_assigned fun n hn => ?_).after_twinFault, get_hwFault_flag⟩
  exact get_hwFault_ne (key_ne_of_offLegs (legAssigned_at_legs hn)) (key_ne_of_offLegs (legAssigned_at_legs hn))

end memory

/-- Settles O45: the fault or the hardware fault is noted, the fabric stops, and the mode answers. -/
theorem Settled.fabricFaults : Obligations.FabricFaults := by
  refine ⟨fun s im cause tile hp him hrun hmode => .of_answers rfl hp (fabricFault_ev (.refl _ s) (by decide +kernel)) ?switching,
    fun s im cause tile hp him hrun hmode => .of_answers rfl hp (fabricFault_ev (.refl _ s) (by decide +kernel)) ?standby,
    fun s cause tile hp h => .of_answers (congrArg (runs s) (fabricFault_halted h)) hp (.refl _ s) trivial,
    fun s im tile k hp him hframe hrun hmode => .of_answers rfl hp (fabricOverrun_ev (.refl _ s) (by decide +kernel)) ?overrun,
    fun s tile hp h => .of_answers (congrArg (runs s) (fabricOverrun_halted h)) hp (.refl _ s) trivial,
    fun s hp hmode => .of_answers rfl hp (memoryError_ev (.refl _ s) (by decide +kernel)) ?memory,
    fun s hp h2 h3 h4 => .of_answers rfl hp (memoryError_ev (.refl _ s) (by decide +kernel)) ?elsewhere⟩
  case switching =>
    obtain ⟨hstands, hrecovery⟩ := fabricFault_recovers him hrun hmode (causeCode_lt (cause := cause)) tile.isLt
    have hflag : (fabricFault s (causeCode cause) tile).get R.POST_TIG_HWFAULT = 1 :=
      (get_fabricFault_noted him hrun hmode (by decide) (by decide)).trans (get_faultNoted_hwFault causeCode_ne_overrun)
    exact ⟨hstands.run, hstands.fault.trans (by cases cause <;> rfl), hstands.ftile, hstands.frame, hstands.staged, hstands.held,
      hstands.cause, hrecovery.mode, hrecovery.entry, fun leg => hrecovery.legs leg leg.isLt, hflag⟩
  case standby =>
    obtain ⟨hstands, hstandby, hreinit, hflag⟩ := fabricFault_restarts him hrun hmode (causeCode_lt (cause := cause)) tile.isLt
    exact ⟨hstands.run, hstands.fault.trans (by cases cause <;> rfl), hstands.ftile, hstands.frame, hstands.staged, hstands.held,
      hstands.cause, hstandby, hreinit, hflag.trans (get_faultNoted_hwFault causeCode_ne_overrun)⟩
  case overrun =>
    obtain ⟨hstands, hrecovery, hflag, hframeNo⟩ := fabricOverrun_recovers him hframe hrun hmode tile.isLt
    exact ⟨hstands.run, hstands.fault, hstands.ftile, hstands.frame, hstands.staged, hstands.held, hstands.cause, hrecovery.mode,
      hrecovery.entry, hflag, hframeNo⟩
  case memory =>
    obtain ⟨hrecovery, hflag⟩ := memoryError_recovers hmode
    exact ⟨hflag, hrecovery.held, hrecovery.mode, hrecovery.entry, fun leg => hrecovery.legs leg leg.isLt, hrecovery.run⟩
  case elsewhere =>
    rw [memoryError_elsewhere h2 h3 h4]
    refine ⟨(get_twinFault_fault (by decide) (by decide)).trans get_hwFault_flag,
      (get_twinFault_fault (by decide) (by decide)).trans get_hwFault_held,
      (get_twinFault_fault (by decide) (by decide)).trans mode_hwFault, fun h => ?_⟩
    have hrole : (hwFault s).role = s.role := get_hwFault_ne (by decide) (by decide)
    rw [twinFault_of_role (by rwa [hrole])]
    rfl

end Sys2Proof.Machine
end

section
/-!
A trip input that falls while its leg is not assigned (spec/09_trips.md R234, R237; spec/00_scope.md R18): what LEG_TRIP_INPUT leaves alone.
-/
namespace Sys2Proof.Machine

section unassigned
variable {s t : State} {leg : Fin 96} {high : Bool}

/-- The input of an unassigned leg is ignored but for the level of its ball (R18). -/
theorem legTripInput_unassigned {n : Nat} (h : s.get (R.LEGn_CFG_ASSIGNED n) = 0) :
    legTripInput s n high = s.setLeg n { s.leg n with input := high } := if_pos (.inl h)

/-- NODE_LTINm does not see the input of an unassigned leg. -/
theorem tripInput_unassigned (hp : s.powered = true) (h : s.get (R.LEGn_CFG_ASSIGNED leg) = 0)
    (ht : exec (.legTripInput leg high) s = .next t) : tripInput t leg = tripInput s leg := by
  have hexec : exec (.legTripInput leg high) s = runs s (legTripInput s leg high) := rfl
  rw [hexec, runs_on hp, legTripInput_unassigned h] at ht
  cases ht
  rfl

end unassigned

/-- Leg 0, which no image assigns, with NODE_LTINm high and that input waiting in the blanking window of the leg's own edge at 0. -/
def unassignedBlanked : State :=
  { (State.reset.put (R.NODE_LTINm_LEG 0) 1).put (R.LEGn_CFG_BLANK 0) 0 with
    legs := [(0, { Leg.idle with lastEdge := some 0, blanked := true })] }

/-- Refutes O19: the clause of an input that falls inside its blanking window does not ask that the leg is assigned, and the input of an unassigned
leg is ignored (R18, log entry 78): in `unassignedBlanked` it stays high. -/
theorem not_tripInputs : ¬ Obligations.TripInputs := by
  rintro ⟨-, -, -, hfalls, -⟩
  have hpowered : unassignedBlanked.powered = true := by decide +kernel
  have hhigh : tripInput unassignedBlanked 0 = true := by decide +kernel
  have hend : blankStop unassignedBlanked 0 unassignedBlanked.finePostmark = some (tapPoint 0 (64 * (R.NODE_BLANKb_T 0).reset)) := by
    decide +kernel
  obtain ⟨t, ht, -, hlow, -⟩ := hfalls unassignedBlanked 0 _ hpowered hhigh rfl hend (by decide +kernel)
  have hkept : tripInput t 0 = tripInput unassignedBlanked 0 := tripInput_unassigned (leg := 0) hpowered (by decide +kernel) ht
  exact absurd (hkept.trans hhigh) (Bool.eq_false_iff.mp hlow)

end Sys2Proof.Machine
end

section
/-!
Clears of trips (spec/09_trips.md R247, R248, R253): which leg latches a write of NODE_LTRIPm clears, and how the clear of a bridge waits for its
frame.
-/
namespace Sys2Proof.Machine

/-! ### Bits of a word -/

section bits
variable {v i j : Nat} {b : Bool}

theorem setBit_zero : setBit v 0 b = 2 * (v / 2) + b.toNat := by
  unfold setBit
  rw [Nat.testBit_zero]
  cases b
  · simp only [decide_eq_false_iff_not, Bool.toNat_false, Bool.false_eq_true, if_false]
    split <;> omega
  · simp only [decide_eq_true_eq, Bool.toNat_true, if_true]
    split <;> omega

theorem setBit_succ : setBit v (i + 1) b = 2 * setBit (v / 2) i b + v % 2 := by
  unfold setBit
  rw [Nat.testBit_add_one, Nat.pow_succ]
  split
  · omega
  next h =>
    cases b
    · have hle : 2 ^ i ≤ v / 2 := Nat.ge_two_pow_of_testBit (eq_true_of_ne_false h)
      simp only [Bool.false_eq_true, if_false]
      omega
    · simp only [if_true]
      omega

/-- A bit is what it was set to, and every other bit is as it was. -/
theorem testBit_setBit : (setBit v i b).testBit j = if j = i then b else v.testBit j := by
  induction i generalizing v j with
  | zero =>
    rw [setBit_zero]
    cases j with
    | zero => cases b <;> simp [Nat.testBit_zero]
    | succ j =>
      have hhalf : (2 * (v / 2) + b.toNat) / 2 = v / 2 := by
        have hb : b.toNat < 2 := Bool.toNat_lt b
        omega
      simp [Nat.testBit_add_one, hhalf]
  | succ i ih =>
    rw [setBit_succ]
    cases j with
    | zero => simp [Nat.testBit_zero]
    | succ j =>
      have hhalf : (2 * setBit (v / 2) i b + v % 2) / 2 = setBit (v / 2) i b := by omega
      simp [Nat.testBit_add_one, hhalf, ih]

end bits

/-! ### One bit of a clear -/

/-- Latch i of NODE_LTRIPm may clear: no source of the leg's trip is asserted, and the leg has not set it in the present D3 cycle. -/
def latchMayClear (s : State) (m i : Nat) : Bool := !legSource s (32 * m + i) && !(latchCycle s).1.contains (32 * m + i)

/-- Latch i of NODE_LTRIPm is cleared, and the clear is noted for the present D3 cycle. -/
def latchCleared (s : State) (m i : Nat) : State :=
  { s.put (R.NODE_LTRIPm_LEG m) (setBit (s.get (R.NODE_LTRIPm_LEG m)) i false) with
    trips := { s.trips with cycle := s.cycleNo, latchSet := (latchCycle s).1, latchClr := (32 * m + i) :: (latchCycle s).2 } }

/-- What a write of `v` to NODE_LTRIPm does for its bit i. -/
def latchClearBit (m v : Nat) (s : State) (i : Nat) : State :=
  if v.testBit i = true ∧ (s.get (R.NODE_LTRIPm_LEG m)).testBit i = true then
    if latchMayClear s m i then latchCleared s m i else s.mark R.NODE_TRIPSTAT_CLRREF 1
  else s

/-- The first k bits of the write. -/
def latchClearBits (m v : Nat) (s : State) (k : Nat) : State := (List.range k).foldl (latchClearBit m v) s

/-- What the judgement of a latch rests on is as it was, and so is every register but the latches and CLRREF. -/
structure ClearFrame (m : Nat) (s t : State) : Prop where
  legs : t.legs = s.legs
  time : t.time = s.time
  latched : (latchCycle t).1 = (latchCycle s).1
  only : Only [R.NODE_LTRIPm_LEG m, R.NODE_TRIPSTAT_CLRREF] s t

section clears
variable {s t u : State} {m v i j k : Nat} {f : Fld}

theorem legLatch_key : (R.NODE_LTRIPm_LEG m).key = (0x1010 + 4 * m) * 32 := rfl
theorem legInput_key : (R.NODE_LTINm_LEG m).key = (0x1020 + 4 * m) * 32 := rfl

theorem legLatch_ne_clrref : (R.NODE_LTRIPm_LEG m).key ≠ R.NODE_TRIPSTAT_CLRREF.key := by
  have hkey : R.NODE_TRIPSTAT_CLRREF.key = 0x1004 * 32 + 2 := rfl
  rw [legLatch_key]
  omega

theorem legLatch_ne_any : (R.NODE_LTRIPm_LEG m).key ≠ R.NODE_TRIPSTAT_ANY.key := by
  have hkey : R.NODE_TRIPSTAT_ANY.key = 0x1004 * 32 := rfl
  rw [legLatch_key]
  omega

/-- ANY is the only register that follows the latches. -/
theorem get_tripAny_ne (h : f.key ≠ R.NODE_TRIPSTAT_ANY.key) : (tripAny s).get f = s.get f := get_put_ne h

theorem legLatchClear_eq : legLatchClear s m v = tripAny (latchClearBits m v s 32) := by
  refine congrArg tripAny (congrArg (List.foldl · s (List.range 32)) (funext fun s => funext fun i => ?_))
  unfold latchClearBit latchMayClear
  by_cases hsrc : legSource s (32 * m + i) <;> by_cases hset : (32 * m + i) ∈ (latchCycle s).1 <;> simp [hsrc, hset, latchCleared]

theorem latchClearBits_succ : latchClearBits m v s (k + 1) = latchClearBit m v (latchClearBits m v s k) k := by
  simp [latchClearBits, List.range_succ]

theorem ClearFrame.refl (m : Nat) (s : State) : ClearFrame m s s := ⟨rfl, rfl, rfl, fun _ _ => rfl⟩

theorem ClearFrame.trans (h : ClearFrame m s t) (g : ClearFrame m t u) : ClearFrame m s u :=
  ⟨g.legs.trans h.legs, g.time.trans h.time, g.latched.trans h.latched, fun f hf => (g.only f hf).trans (h.only f hf)⟩

/-- A latch is judged by what a clear of latches leaves alone. -/
theorem ClearFrame.latchMayClear (h : ClearFrame m s t) : latchMayClear t m i = latchMayClear s m i := by
  have hinput : t.get (R.NODE_LTINm_LEG ((32 * m + i) / 32)) = s.get (R.NODE_LTINm_LEG ((32 * m + i) / 32)) := by
    refine h.only _ (List.forall_mem_cons.mpr ⟨?_, List.forall_mem_singleton.mpr ?_⟩)
    · rw [legInput_key, legLatch_key]
      omega
    · have hkey : R.NODE_TRIPSTAT_CLRREF.key = 0x1004 * 32 + 2 := rfl
      rw [legInput_key]
      omega
  simp only [Machine.latchMayClear, legSource, tripInput, readbackStands, legNow, State.leg, State.finePostmark, h.legs, h.time, h.latched, hinput]

theorem latchCleared_frame : ClearFrame m s (latchCleared s m i) where
  legs := rfl
  time := rfl
  latched := by
    have hcycle : (latchCleared s m i).trips.cycle = (latchCleared s m i).cycleNo := rfl
    rw [latchCycle, if_pos hcycle]
    rfl
  only _ hf := get_put_ne (hf _ List.mem_cons_self)

theorem clrref_frame : ClearFrame m s (s.mark R.NODE_TRIPSTAT_CLRREF 1) where
  legs := rfl
  time := rfl
  latched := rfl
  only _ hf := get_event_ne (hf _ (List.mem_cons_of_mem _ List.mem_cons_self))

theorem latchClearBit_frame : ClearFrame m s (latchClearBit m v s i) := by
  unfold latchClearBit
  split
  · split
    · exact latchCleared_frame
    · exact clrref_frame
  · exact .refl m s

theorem latchClearBits_frame : ClearFrame m s (latchClearBits m v s k) :=
  List.foldlRecOn (motive := ClearFrame m s) _ _ (.refl m s) fun _ hx _ _ => hx.trans latchClearBit_frame

theorem testBit_latchCleared (hj : j < 32) : ((latchCleared s m i).get (R.NODE_LTRIPm_LEG m)).testBit j
    = if j = i then false else (s.get (R.NODE_LTRIPm_LEG m)).testBit j := by
  have hget : (latchCleared s m i).get (R.NODE_LTRIPm_LEG m) = setBit (s.get (R.NODE_LTRIPm_LEG m)) i false % 2 ^ 32 := get_put_same
  rw [hget, Nat.testBit_mod_two_pow, testBit_setBit]
  simp [hj]

/-- Of the 32 latches bit i of the write touches latch i alone. -/
theorem testBit_latchClearBit_ne (hj : j < 32) (hji : j ≠ i) :
    ((latchClearBit m v s i).get (R.NODE_LTRIPm_LEG m)).testBit j = (s.get (R.NODE_LTRIPm_LEG m)).testBit j := by
  unfold latchClearBit
  split
  · split
    · rw [testBit_latchCleared hj, if_neg hji]
    · rw [State.mark, get_event_ne legLatch_ne_clrref]
  · rfl

/-- It clears latch i where that may clear. -/
theorem testBit_latchClearBit_same (hi : i < 32) : ((latchClearBit m v s i).get (R.NODE_LTRIPm_LEG m)).testBit i
    = ((s.get (R.NODE_LTRIPm_LEG m)).testBit i && !(v.testBit i && latchMayClear s m i)) := by
  unfold latchClearBit
  split
  next hwritten =>
    obtain ⟨hv, hs⟩ := hwritten
    split
    next hmay => simp [testBit_latchCleared hi, hv, hmay]
    next hmay =>
      rw [State.mark, get_event_ne legLatch_ne_clrref]
      simp [hmay]
  next hnot =>
    cases hv : v.testBit i
    case false => simp
    case true =>
      have hclear : (s.get (R.NODE_LTRIPm_LEG m)).testBit i = false := by simpa [hv] using hnot
      simp [hclear]

theorem get_clrref_mark : (s.mark R.NODE_TRIPSTAT_CLRREF 1).get R.NODE_TRIPSTAT_CLRREF = 1 := by
  have hget : (s.mark R.NODE_TRIPSTAT_CLRREF 1).get R.NODE_TRIPSTAT_CLRREF = (s.get R.NODE_TRIPSTAT_CLRREF ||| 1) % 2 := get_put_same
  rw [hget, Nat.or_mod_two_eq_one]
  exact .inr rfl

/-- CLRREF stands once it is set. -/
theorem clrref_latchClearBit (h : s.get R.NODE_TRIPSTAT_CLRREF = 1) : (latchClearBit m v s i).get R.NODE_TRIPSTAT_CLRREF = 1 := by
  unfold latchClearBit
  split
  · split
    · exact (get_put_ne legLatch_ne_clrref.symm).trans h
    · exact get_clrref_mark
  · exact h

/-- A latch that is written 1 and may not clear sets CLRREF. -/
theorem clrref_latchClearBit_refused (hv : v.testBit i = true) (hs : (s.get (R.NODE_LTRIPm_LEG m)).testBit i = true)
    (hmay : latchMayClear s m i = false) : (latchClearBit m v s i).get R.NODE_TRIPSTAT_CLRREF = 1 := by
  rw [latchClearBit, if_pos ⟨hv, hs⟩, hmay]
  exact get_clrref_mark

/-! ### All bits of a clear -/

/-- The bits done so far have cleared those latches of theirs that are written 1 and may clear. -/
theorem testBit_latchClearBits (hj : j < 32) : ((latchClearBits m v s k).get (R.NODE_LTRIPm_LEG m)).testBit j
    = ((s.get (R.NODE_LTRIPm_LEG m)).testBit j && !(decide (j < k) && v.testBit j && latchMayClear s m j)) := by
  induction k with
  | zero => simp [latchClearBits]
  | succ k ih =>
    rw [latchClearBits_succ]
    by_cases hjk : j = k
    · subst hjk
      rw [testBit_latchClearBit_same hj, ih, latchClearBits_frame.latchMayClear]
      simp
    · have hlt : j < k + 1 ↔ j < k := by omega
      rw [testBit_latchClearBit_ne hj hjk, ih, decide_eq_decide.mpr hlt]

/-- Each refused bit done so far has set CLRREF. -/
theorem clrref_latchClearBits (hi : i < k) (hk : k ≤ 32) (hv : v.testBit i = true) (hs : (s.get (R.NODE_LTRIPm_LEG m)).testBit i = true)
    (hmay : latchMayClear s m i = false) : (latchClearBits m v s k).get R.NODE_TRIPSTAT_CLRREF = 1 := by
  induction k with
  | zero => exact absurd hi (Nat.not_lt_zero i)
  | succ k ih =>
    rw [latchClearBits_succ]
    obtain hik | rfl := Nat.lt_succ_iff_lt_or_eq.mp hi
    · exact clrref_latchClearBit (ih hik (Nat.le_of_succ_le hk))
    · refine clrref_latchClearBit_refused hv ?_ (latchClearBits_frame.latchMayClear.trans hmay)
      rw [testBit_latchClearBits hk, hs]
      simp

theorem testBit_legLatchClear (hi : i < 32) : ((legLatchClear s m v).get (R.NODE_LTRIPm_LEG m)).testBit i
    = ((s.get (R.NODE_LTRIPm_LEG m)).testBit i && !(v.testBit i && latchMayClear s m i)) := by
  rw [legLatchClear_eq, get_tripAny_ne legLatch_ne_any, testBit_latchClearBits hi]
  simp [hi]

/-- A latch that is written 1 and stays sets CLRREF. -/
theorem clrref_legLatchClear (hi : i < 32) (hv : v.testBit i = true) (hs : (s.get (R.NODE_LTRIPm_LEG m)).testBit i = true)
    (hstays : ((legLatchClear s m v).get (R.NODE_LTRIPm_LEG m)).testBit i = true) :
    (legLatchClear s m v).get R.NODE_TRIPSTAT_CLRREF = 1 := by
  have hmay : latchMayClear s m i = false := by simpa [testBit_legLatchClear hi, hv, hs] using hstays
  rw [legLatchClear_eq, get_tripAny_ne (by decide)]
  exact clrref_latchClearBits hi (Nat.le_refl _) hv hs hmay

theorem legLatchClear_only : Only [R.NODE_LTRIPm_LEG m, R.NODE_TRIPSTAT_CLRREF, R.NODE_TRIPSTAT_ANY] s (legLatchClear s m v) := by
  intro f hf
  rw [legLatchClear_eq, get_tripAny_ne (hf _ (by simp))]
  exact latchClearBits_frame.only f fun g hg => hf g (List.mem_append_left [R.NODE_TRIPSTAT_ANY] hg)

end clears

/-! ### The clear of a bridge (R248) -/

section bridges
variable {s : State} {b cls path source target t : Nat}

/-- Outside REPLAY a command to a target of the node itself is judged as one to the node mode is. -/
theorem acceptRefusal_own (hown : modeTarget ≤ target) (hmode : s.mode ≠ 6) :
    acceptRefusal s cls path source target t = acceptRefusal s cls path source modeTarget t := by
  have hknown : targetKnown s cls target = targetKnown s cls modeTarget := (if_pos hown).trans (if_pos (Nat.le_refl _)).symm
  simp [acceptRefusal, hknown, hmode]

theorem modeTarget_lt_clearTarget : modeTarget < clearTarget b := by
  unfold modeTarget clearTarget
  omega

/-- A bridge's clear is refused as BAD_SOURCE in REPLAY and with the class disabled (R51, R342). -/
theorem acceptRefusal_clear_badSource (h : s.mode = 6 ∨ dAccept s cls = 0) :
    acceptRefusal s cls path source (clearTarget b) t = some 5 := by
  have hkey : targetKey s (clearTarget b) ≠ modeTarget := by
    rw [targetKey_node (Nat.le_of_lt modeTarget_lt_clearTarget)]
    exact Nat.ne_of_gt modeTarget_lt_clearTarget
  refine if_pos (.inr (.inr (.inr ?_)))
  exact h.symm.imp id fun hreplay => ⟨hreplay, hkey⟩

/-- A bridge's clear joins the acceptance queue with the present postmark, for the frame of the HOST delay. -/
theorem bridgeTripClear_queued (hmode : s.mode ≠ 6) (henabled : dAccept s 2 ≠ 0)
    (hahead : s.postmark < frameStart s.fFrame (commandFrame s 2 s.postmark)) (hnear : dAccept s 2 ≤ 60 * 2 ^ 32)
    (hroom : s.acceptance.length < 2048) :
    bridgeTripClear s b = { s with acceptance :=
      s.acceptance ++ [⟨2, 0x2000, 0, clearTarget b, 0, s.postmark, commandFrame s 2 s.postmark, []⟩] } := by
  have hpasses : acceptRefusal s 2 2 0x2000 (clearTarget b) s.postmark = none :=
    (acceptRefusal_own (Nat.le_of_lt modeTarget_lt_clearTarget) hmode).trans (acceptRefusal_mode (r := 0) henabled hahead hnear hroom)
  have hnode : ¬ clearTarget b < 65536 := Nat.not_lt.mpr (Nat.le_of_lt modeTarget_lt_clearTarget)
  simp [bridgeTripClear, hostCommand, acceptEnter, hostSource, hnode, hpasses]

/-- A refused clear of a bridge is a dead letter at most. -/
theorem bridgeTripClear_refused_reach (h : s.mode = 6 ∨ dAccept s 2 = 0) : Ev reachDeadLetter.val s (bridgeTripClear s b) := by
  have hrefused : acceptRefusal s 2 2 0x2000 (clearTarget b) s.postmark = some 5 := acceptRefusal_clear_badSource h
  have hnode : ¬ clearTarget b < 65536 := Nat.not_lt.mpr (Nat.le_of_lt modeTarget_lt_clearTarget)
  have hletter : bridgeTripClear s b = if follows s then s else deadLetter s 1 5 0x2000 (clearTarget b % 65536) s.postmark 0 [] := by
    simp [bridgeTripClear, hostCommand, acceptEnter, hostSource, hnode, hrefused]
  rw [hletter]
  exact .ite (.refl _ s) (deadLetter_ev (.refl _ s) reachDeadLetter.property)

theorem Ev.trips_eq {ps : List Part} {rs : List Reg} {t : State} (h : Ev (mask ps rs) s t) (hp : Part.trips ∉ ps := by decide) :
    t.trips = s.trips :=
  h.keeps.trips.resolve_left (hp ∘ cov_mask_part)

theorem bridgeTripClear_refused (h : s.mode = 6 ∨ dAccept s 2 = 0) :
    (bridgeTripClear s b).acceptance = s.acceptance ∧ (bridgeTripClear s b).trips = s.trips
      ∧ (bridgeTripClear s b).get R.NODE_BTRIP_BRIDGE = s.get R.NODE_BTRIP_BRIDGE := by
  have hev : Ev reachDeadLetter.val s (bridgeTripClear s b) := bridgeTripClear_refused_reach h
  exact ⟨hev.acceptance_eq, hev.trips_eq, hev.get_eq (keys_ne_of_fixed
    [R.NODE_TWIN_STAT_SEQ_END, R.NODE_TWIN_STAT_HELDLOSS, R.NODE_TWIN_SEQ_LO_NEXT, R.NODE_TWIN_SEQ_HI_NEXT, R.SO_LEDSTAT_FULL,
      R.SO_LEDSTAT_WRAPPED, R.SO_LEDSTAT_LOST, R.SO_LEDPTR_NEXT, R.SO_DROP_HW, R.SO_DROP_DL])⟩

end bridges

/-- Settles O20: each bit of a latch clear is judged by what the other bits leave alone, and a bridge's clear is a command in the acceptance queue or
a dead letter. -/
theorem Settled.tripClears : Obligations.TripClears := by
  refine ⟨fun s r m v hr => ?latches, fun s b hp _ hmode henabled hahead hnear hroom => ?queued, fun s b hp h => ?refused⟩
  case latches =>
    refine .of_answers rfl hr (legLatchClear_ev (.refl _ s) (by decide +kernel))
      ⟨fun i => ?_, fun i => clrref_legLatchClear i.isLt, legLatchClear_only⟩
    rw [testBit_legLatchClear i.isLt, latchMayClear, Bool.and_assoc]
  case queued =>
    have heq := bridgeTripClear_queued (b := b) hmode henabled hahead hnear hroom
    exact .of_answers rfl hp (heq ▸ .upd (.refl _ s) rfl rfl (hac13 := .inl (by decide))) (congrArg State.acceptance heq)
  case refused =>
    exact .of_answers rfl hp (bridgeTripClear_ev (.refl _ s) (by decide +kernel)) (bridgeTripClear_refused h)

end Sys2Proof.Machine
end
